-- ==== Sys2Proof/Word.lean ====
section
/-!
DEFINITION. The 36-bit word of the PLN9640 (R4), its bit fields, the modular comparison (R11) and two's complement
reading (R8). Plain arithmetic only.
-/

namespace Sys2Proof

/-- The native word: 36 bits, bit 35 the most significant (R4). -/
abbrev Word := BitVec 36

/-- A byte of a byte stream (R6). -/
abbrev Byte := BitVec 8

/-- The value of bits `hi..lo` of a word, as the unsigned number R8 makes of a field. -/
def bits (w : Word) (hi lo : Nat) : Nat := (w.toNat >>> lo) % 2 ^ (hi + 1 - lo)

/-- One bit of a word. -/
def bit (w : Word) (i : Nat) : Bool := w.getLsbD i

/-- The word whose bits `hi..lo` hold `v` and whose other bits are zero. -/
def field (hi lo : Nat) (v : Nat) : Word := BitVec.ofNat 36 ((v % 2 ^ (hi + 1 - lo)) <<< lo)

/-- A one-bit field. -/
def flag (i : Nat) (b : Bool) : Word := if b then BitVec.ofNat 36 (1 <<< i) else 0

/-- The mask of bits `hi..lo`. -/
def fieldMask (hi lo : Nat) : Word := BitVec.ofNat 36 ((2 ^ (hi + 1 - lo) - 1) <<< lo)

/-- Two's complement value of an `n`-bit number (R8). -/
def signed (n v : Nat) : Int := if v % 2 ^ n < 2 ^ (n - 1) then (v % 2 ^ n : Nat) else (v % 2 ^ n : Nat) - (2 ^ n : Nat)

/-- The `n`-bit two's complement pattern of an integer (R8). -/
def unsigned (n : Nat) (i : Int) : Nat := (i % (2 ^ n : Nat)).toNat

/-- The 36-bit two's complement word of an integer. -/
def wordOfInt (i : Int) : Word := BitVec.ofInt 36 i

/-- `a` is after `b` in the modular order of R11: the difference taken as a signed 36-bit number is positive. -/
def Word.after (a b : Word) : Bool := 0 < (a - b).toInt

/-- Saturating increment of a counter whose top value is `top`. -/
def satInc (top n : Nat) : Nat := if n < top then n + 1 else top

/-- Number of bits set in the low `n` positions. -/
def popCount (n v : Nat) : Nat := ((List.range n).filter (fun i => v.testBit i)).length

/-- The bit numbers set in the low `n` positions, rising. -/
def maskList (n v : Nat) : List Nat := (List.range n).filter (fun i => v.testBit i)

/-- Bytes packed four to a word under R6. -/
def packBytes : List Byte → List Word
  | [] => []
  | a :: rest =>
    match rest with
    | [] => [field 7 0 a.toNat]
    | [b] => [field 7 0 a.toNat ||| field 15 8 b.toNat]
    | [b, c] => [field 7 0 a.toNat ||| field 15 8 b.toNat ||| field 23 16 c.toNat]
    | b :: c :: d :: more =>
      (field 7 0 a.toNat ||| field 15 8 b.toNat ||| field 23 16 c.toNat ||| field 31 24 d.toNat) :: packBytes more

/-- The four bytes a word carries under R6, earliest in the stream first. -/
def wordBytes (w : Word) : List Byte :=
  [BitVec.ofNat 8 (bits w 7 0), BitVec.ofNat 8 (bits w 15 8), BitVec.ofNat 8 (bits w 23 16), BitVec.ofNat 8 (bits w 31 24)]

/-- The wire form of a word: five bytes, most significant first (R72). -/
def wireBytes (w : Word) : List Byte :=
  [BitVec.ofNat 8 (bits w 35 32), BitVec.ofNat 8 (bits w 31 24), BitVec.ofNat 8 (bits w 23 16),
   BitVec.ofNat 8 (bits w 15 8), BitVec.ofNat 8 (bits w 7 0)]

/-- What the pin self-test samples while it takes pin `ball`, in mV: the pin at the end of phase H and of phase L, the pins of the group
that do not read 0 mV in phase H (the others do), and the rise of the pin from 0.2 V to 2.0 V in ns (R529). -/
structure PinSample where
  ball : Fin 1156
  high : BitVec 12
  low : BitVec 12
  others : List (Fin 1156 × BitVec 12)
  rise : BitVec 16
  deriving DecidableEq, Repr

/-- What a protection comparator of a bridge or a channel looks at (R334, R347, R379). -/
inductive ProbeAt where
  | shunt | vds | gateOn | gateOff | boot | coil
  deriving DecidableEq, Repr

/-- A reading of a protection comparator: the FET (0 H1, 1 L1, 2 H2, 3 L2; of a channel 0 the high and 1 the low side), whether blanking
still runs, the value (of the shunt or the coil in 1/1023 of full scale; drain to source, gate to its reference, bootstrap store in mV),
and the supply it is held against in mV: VGD for a gate, VS for a coil. -/
structure Probe where
  place : ProbeAt
  elem : Fin 4
  blank : Bool
  value : BitVec 16
  sup : BitVec 16
  deriving DecidableEq, Repr

/-- The samples of one FAST part (R355) of one bridge: after DRIVE−, the shunt at 25 % and 75 % of the part, s12 in 1/1023 of full
scale, and VM in mV. -/
structure EmfSample where
  minus : Bool
  i1 : BitVec 12
  i2 : BitVec 12
  vm : BitVec 16
  deriving DecidableEq, Repr

end Sys2Proof
end

