-- ==== Sys2Proof/Syntax.lean ====
section
/-!
DEFINITION. The commands of the block: one constructor per row of spec/opcode_table.json, in the table's order. The
operands are what the outside supplies: ports, addresses, values, lanes, and the readings of analogue or serial inputs.
-/

namespace Sys2Proof

/-- A command of the PLN9640. -/
inductive Instr where
  -- The stitch and the head lines (chapters 02, 08)
  | stitchBoundary
  | governorSample
  | overrunRelax
  | sagHoldExpiry (supply : Fin 3)
  | stitchPeriodWrite (port : Fin 2) (value : Word)
  | lineStart (head : Fin 2) (vh : BitVec 9)
  | lastSliceEnd (head : Fin 2)
  -- The link (chapter 03). `ackseq` is the ACKSEQ byte of the frame.
  | strayByte (port : Fin 2)
  | frameDiscard (port : Fin 2) (crc ctl emerg : Bool)
  | hello (port : Fin 2) (w0 w1 : Word)
  | ack (port : Fin 2) (emerg : Bool) (ackseq : BitVec 8)
  | nak (port : Fin 2) (emerg : Bool) (ackseq : BitVec 8)
  | sync (port : Fin 2) (w : Word)
  | syncAck (port : Fin 2) (w : Word)
  | regRd (port : Fin 2) (seq ackseq : BitVec 8) (payload : List Word)
  | regWr (port : Fin 2) (seq ackseq : BitVec 8) (payload : List Word)
  | jobWr (port : Fin 2) (seq ackseq : BitVec 8) (outcome : Bool) (payload : List Word)
  | tblRd (port : Fin 2) (seq ackseq : BitVec 8) (payload : List Word)
  | tblWr (port : Fin 2) (seq ackseq : BitVec 8) (payload : List Word)
  | unsupportedFrame (port : Fin 2) (typ seq ackseq : BitVec 8)
  | emergencyRegWr (port : Fin 2) (typ seq ackseq : BitVec 8) (payload : List Word)
  | rspSend (port : Fin 2)
  | outcomeResponse (port : Fin 2)
  | evtSend (port : Fin 2)
  -- `send`: the port, and the characters that have gone of a NORMAL frame it breaks off.
  | emergencyEvtSend (send : Fin 2 × Option Nat)
  | ackTimeout (port : Fin 2) (emerg : Bool)
  | syncTimeout (port : Fin 2)
  | dividerAdopt (port : Fin 2)
  | confirmTimeout (port : Fin 2)
  | errBucketTick (port : Fin 2)
  | fallback (port : Fin 2)
  | clrStats (port : Fin 2)
  | ctsChange (port : Fin 2) (low : Bool)
  -- Registers and the table window (chapter 04)
  | registerWrite (port : Fin 2) (addr : BitVec 6) (value : Word)
  | eventPop (port : Fin 2)
  | tblDataRead (port : Fin 2)
  | tblDataWrite (port : Fin 2) (value : Word)
  | commit (port : Fin 2)
  | discard (port : Fin 2)
  | jobWinWrite (port : Fin 2) (word : Word)
  | claim (port : Fin 2) (mask : BitVec 19)
  | release (port : Fin 2) (mask : BitVec 19)
  | clrCnt (port : Fin 2)
  | protRaise (port : Fin 2) (key : BitVec 12) (target : BitVec 2)
  | protLower (port : Fin 2) (key : BitVec 12) (target : BitVec 2)
  | auxTxWrite (port : Fin 2) (aux : Fin 2) (char : BitVec 9)
  | auxRxRead (port : Fin 2) (aux : Fin 2)
  | auxCtlWrite (port : Fin 2) (aux : Fin 2) (value : Word)
  | bistStart (port : Fin 2) (test : BitVec 4)
  | bistDone (samples : List PinSample)
  | save (port : Fin 2)
  | saveDone
  | scrubNow (port : Fin 2)
  | heldBackEventQueue
  | eventLost (port : Fin 2)
  -- Jobs, lanes, fences, the welt (chapters 05, 06)
  | batchResolve
  | weltEntryCommit
  | printRelease (head : Fin 2)
  | feedRelease (head : Fin 2)
  | cutRelease (head : Fin 2)
  | scanRelease (head : Fin 2)
  | patternRelease (head : Fin 2)
  | moveRelease (axis : Fin 12)
  | homeRelease (axis : Fin 12)
  | gearRelease (axis : Fin 12)
  | dcRunRelease (axis : Fin 12)
  | solRunRelease (bank : Fin 4)
  | solDiagRelease (bank : Fin 4)
  | auxXferRelease
  | note
  | fence
  | resolve
  | startRecovered
  | continue'
  | skip
  | fenceProceed
  | fenceCancel
  | cancelHeld
  | laneOut
  | laneOutInOrder (lane : Fin 19)
  | reAdmit
  | readmitTimeout
  | stop (port : Fin 2) (lane : Fin 19) (mask : BitVec 19)
  | recordTimeout (lane : Fin 19)
  | fenceTimeout
  | marksFlushTimer
  | gateWindowExpiry (entry : Fin 64)
  | lookupGo (port : Fin 2) (block : Fin 2)
  | lookupDone (block : Fin 2)
  | weltLoadTick
  -- Assets and composition (chapter 07)
  | store (port : Fin 2) (entry : BitVec 12) (kind : BitVec 4) (place : BitVec 2) (size : BitVec 20)
  | repair (port : Fin 2) (entry : BitVec 12) (size : BitVec 20)
  | delete (port : Fin 2) (entry : BitVec 12)
  | assetAbort (port : Fin 2) (entry : BitVec 12)
  | assetPortWrite (port : Fin 2) (entry : BitVec 12) (word : Word)
  | assetVerifyDone (entry : BitVec 12)
  | assetIdleTimeout (entry : BitVec 12)
  -- `found`: the soft deadline is missed, and an uncorrectable word it has read.
  | layout (head : Fin 2) (found : Bool × Option (Fin 2 × BitVec 20))
  | bandCommit (head : Fin 2)
  -- Heads, media, clicker (chapters 08, 09, 10)
  | vhSettleEnd (head : Fin 2) (vh : BitVec 9)
  | backgroundScanStart (head : Fin 2)
  | scanDot (head : Fin 2) (valid : Bool) (rmeas : BitVec 20) (vh : BitVec 9)
  | abandon (port : Fin 2) (head : Fin 2)
  -- `dark`: the second sample, and the phase it is taken at.
  | msCycle (ms : Fin 4) (lit : BitVec 12) (dark : BitVec 12 × BitVec 12)
  | calRetry (ms : Fin 4)
  | snsSample (sns : Fin 8) (code : BitVec 12)
  | ticketTaken (sns : Fin 8)
  | clickerRecover (head : Fin 2)
  -- Axes (chapter 11)
  | stepEvent (axis : Fin 12) (emfA emfB : List EmfSample)
  | stallSpanEnd (axis : Fin 12)
  | axisAtRest (axis : Fin 12)
  | homeReference (axis : Fin 12)
  | homeRetry (axis : Fin 12)
  | confRetry (axis : Fin 12)
  | limit (axis : Fin 12) (input : Fin 2)
  | standstill (axis : Fin 12)
  | gearLagGrace (axis : Fin 12)
  -- Bridges (chapter 12)
  | dcRunEnd (bridge : Fin 24)
  | chopperTrip (bridge : Fin 24) (code : BitVec 12)
  | chopperOffEnd (bridge : Fin 24)
  | fullDutyEnd (bridge : Fin 24) (code : BitVec 12) (comm : Bool)
  -- `site` and `reading` are the fields of a Probe.
  | bridgeFault (bridge : Fin 24) (site : ProbeAt × Fin 4) (reading : Bool × BitVec 16 × BitVec 16)
  | bridgeRecover (bridge : Fin 24)
  | bridgeConfirmEnd (bridge : Fin 24)
  | bridgeCheckDone (axis : Fin 12) (a1 a2 b1 b2 : BitVec 12) (gateA gateB : BitVec 8)
  -- Solenoids (chapter 13)
  | solProfileStart (chan : Fin 32)
  | segmentTmax (chan : Fin 32) (us : BitVec 24) (vs : BitVec 9)
  | segmentStitchEnd (chan : Fin 32)
  | solTrip (chan : Fin 32) (code : BitVec 10) (us : BitVec 24)
  -- The channel, the shunt's code, NL and VS.
  | solReleaseDetect (chan : Fin 32 × BitVec 10 × BitVec 9 × BitVec 9)
  | coilModelUpdate (chan : Fin 32) (isq : BitVec 20) (mv ma : BitVec 16)
  | solFault (chan : Fin 32) (probe : Probe) (nh nl : BitVec 9)
  | solRecover (chan : Fin 32)
  | solConfirmEnd (chan : Fin 32)
  | offStateCheckDone (chan : Fin 32) (nh1 nl1 nh2 nl2 vs : BitVec 9) (ofs : BitVec 12)
  -- `low`: NL and VS.
  | onStateCheckDone (chan : Fin 32) (code : BitVec 10) (nh : BitVec 9) (low : BitVec 9 × BitVec 9)
  -- Position feedback (chapter 14)
  | encCount (enc : Fin 8) (a b : Bool)
  | encIndex (enc : Fin 8) (level : Bool) (ph : BitVec 12)
  | quadWindowEnd (enc : Fin 8)
  | encArm (port : Fin 2) (enc : Fin 8)
  | encZero (port : Fin 2) (enc : Fin 8)
  | encClr (port : Fin 2) (enc : Fin 8)
  | ssiClr (port : Fin 2) (ssi : Fin 2)
  | ssiTransferEnd (ssi : Fin 2) (bits : List Bool)
  | ssiRepeat (ssi : Fin 2) (ph : BitVec 12)
  | cntEdge (cnt : Fin 16) (level : Bool) (us : BitVec 20)
  | probeCapture (prb : Fin 4) (ph : BitVec 12) (rise : Bool)
  | probeArm (port : Fin 2) (prb : Fin 4)
  | probeDisarm (port : Fin 2) (prb : Fin 4)
  | probeFlush (port : Fin 2) (prb : Fin 4)
  | probeStampRead (port : Fin 2) (prb : Fin 4)
  -- The shank (chapter 15)
  | monitorSample (group : Fin 58) (draws : Bool) (volts amps : BitVec 16)
  | energyBucket (group : Fin 58)
  | ontime (group : Fin 58) (elem : BitVec 4)
  | strobeLimit (head : Fin 2) (elem : BitVec 4) (duty : Bool)
  | grel (port : Fin 2) (group : Fin 58)
  | rel (port : Fin 2)
  | disch (port : Fin 2)
  | shankLimitWrite (port : Fin 2) (addr : BitVec 24) (value : Word)
  | stopInput (low : Bool)
  | doorOpen (isOpen : Bool)
  | dischargeUpdate (vm vs : BitVec 9)
  | dischargeTimeout
  -- Temperature and supply (chapter 16)
  | tempSample (input : Fin 18) (code : BitVec 12)
  | sensorRecheck (input : Fin 18) (code : BitVec 12)
  | sagAssert (supply : Fin 4) (volts : BitVec 9) (win : BitVec 5)
  | sagClear (supply : Fin 4) (volts : BitVec 9) (win : BitVec 5)
  | vgdLow
  | vgdClear
  | vmLoss
  | brownOut (src : BitVec 4)
  -- Flash and SRAM (chapter 17)
  | wordProgramDone (bank : Fin 2) (ok : Bool)
  | eraseSliceEnd (bank : Fin 2) (blank : Bool)
  | scrubPassStart
  | scrubRead (bank : Fin 2) (addr : BitVec 21) (verdict : BitVec 2)
  | sramScrubTick (bank : Fin 2) (verdict : BitVec 2)
  -- UARTs (chapter 18)
  -- Samples 7, 8 and 9 of each bit.
  | characterReceived (uart : Fin 4) (start : BitVec 3) (data parity : List (BitVec 3)) (stop : BitVec 3)
  | receiveTimeout (uart : Fin 4)
  | auxXferEnd
  -- Clocks, cores, power, reset (chapters 01, 19)
  | pllUFault
  | pllURelock (ok : Bool)
  -- The finding's kind, and the deviation in 0.1 %.
  | clockFault (finding : BitVec 2 × BitVec 10)
  | fabricParityError (repeatOk : Bool)
  | watchdogMiss (core : Fin 2)
  | coreRestart (core : Fin 2)
  | coreProbationEnd (core : Fin 2)
  | domainIdle (dom : Fin 16)
  | domainOff (dom : Fin 16)
  | domainPowerUp (dom : Fin 16) (dt : BitVec 32)
  | sleepEntry
  | wake (src : BitVec 4) (dt : BitVec 32)
  | offEntry
  | goOff (port : Fin 2)
  | por
  | pinReset
  -- `tests`: the attempts that fail, and the sectors that fail a mass erase.
  | startUp (tests : BitVec 12 × List (Fin 2 × BitVec 12)) (bootT recovT : BitVec 18)
  -- Self-test, images, OTP (chapter 20)
  | updateIrIntrusive (instr : BitVec 8)
  | testLogicReset
  | begin' (port : Fin 2) (len : BitVec 19)
  | activate (port : Fin 2)
  | confirm (port : Fin 2)
  | imageAbort (port : Fin 2)
  | imagePortWrite (port : Fin 2) (word : Word)
  | imageVerifyDone
  | imageIdleTimeout
  | programWord (port : Fin 2) (oword : BitVec 7) (value : Word)
  | programKey (port : Fin 2) (slot : Fin 8) (use : BitVec 2)
  | revokeKey (port : Fin 2) (slot : Fin 8)
  | otpProgramDone (ok : Bool)
  -- Rows added at the end of the table
  | aonXtalLoss
  | vmRearm
  -- `input`: the input, and the phase.
  | limitRelease (axis : Fin 12) (input : Fin 2 × BitVec 12)
  | lineIdle (uart : Fin 4)
  | eraseResume (bank : Fin 2)
  | decisionPacing
  | pwmPeriod (bridge : Fin 24) (code : BitVec 12)
  | solPwmPeriod (chan : Fin 32) (duty : BitVec 10) (us : BitVec 24) (ph : BitVec 12)
  | dipSample (chan : Fin 32) (code : BitVec 10) (us : BitVec 24) (ph : BitVec 12)
  -- `scan`: the levels by ball, and whether it is too early after an intrusive instruction.
  | updateDr (scan : List Bool × Bool)
  | guardSupply (supply : Fin 4) (above : Bool)
  deriving DecidableEq, Repr

end Sys2Proof
end

