-- ==== Sys2Proof/Machine/Pins.lean ====
section
/-!
DEFINITION. The balls of the package (R547..R558) and the codes of the pin self-test (R528..R530, R556).
-/

namespace Sys2Proof.Machine

/-! ### Balls (R548, R550..R558) -/

/-- What a ball carries. Heads `x` are 0 and 1, bridges `b` 0..23 (2n and 2n + 1 of axis n), FETs `e` 0 H1, 1 L1, 2 H2, 3 L2. -/
inductive Pin where
  | headD (x i : Nat) | headStb (x i : Nat) | headClk (x : Nat) | headLat (x : Nat) | headVhen (x : Nat)
  | headTh (x k : Nat) | headVhs (x : Nat) | headIsp (x : Nat) | headIsn (x : Nat)
  | gate (b e k : Nat) | node1 (b : Nat) | node2 (b : Nat) | senseP (b : Nat) | senseN (b : Nat)
  | solGh (c : Nat) | solGl (c : Nat) | solNh (c : Nat) | solNl (c : Nat) | solCsp (c : Nat) | solCsn (c : Nat)
  | encA (n : Nat) | encB (n : Nat) | encI (n : Nat) | ssiClk (p : Nat) | ssiData (p : Nat) | prb (r : Nat) | cnt (c : Nat)
  | sns (n : Nat) | ntc (k : Nat) | lim0 (n : Nat) | lim1 (n : Nat) | led (n : Nat) | pd (n : Nat) | auxTx (n : Nat) | auxRx (n : Nat)
  | hostTx (p : Nat) | hostRx (p : Nat) | hostRts (p : Nat) | hostCts (p : Nat)
  | xtalIn | xtalOut | axtalIn | axtalOut | tck | tms | tdi | tdo | trst | resetN | alertN | stopN | doorN | dischM | dischS
  | vmSen | vsSen | vgdSel | testEn | vrefA | vddio | vdda | vddf | vdd | vmreg | vgd | vss | nc
  deriving DecidableEq, Repr, Inhabited

/-- Row C of a head, column 1..17 of its half. -/
def headRowC (x i : Nat) : Pin :=
  match i with
  | 1 => .headClk x | 3 => .headLat x | 5 => .headVhen x | 6 => .headTh x 0 | 7 => .headTh x 1 | 8 => .headVhs x
  | 9 => .headIsp x | 10 => .headIsn x | _ => .vss

/-- Row D (R551). -/
def rowD : Nat → Pin
  | 1 => .xtalIn | 2 => .xtalOut | 4 => .axtalIn | 5 => .axtalOut
  | 7 => .hostTx 0 | 8 => .hostRx 0 | 9 => .hostRts 0 | 10 => .hostCts 0
  | 11 => .hostTx 1 | 12 => .hostRx 1 | 13 => .hostRts 1 | 14 => .hostCts 1
  | 15 => .tck | 16 => .tms | 17 => .tdi | 18 => .tdo | 19 => .trst | 20 => .resetN | 21 => .alertN | 22 => .stopN
  | 23 => .doorN | 24 => .dischM | 25 => .dischS | 26 => .vmSen | 27 => .vsSen | 28 => .vgdSel | 29 => .testEn | 30 => .vrefA
  | 31 => .auxTx 2 | 32 => .auxRx 2 | 33 => .auxTx 3 | 34 => .auxRx 3 | _ => .vss

/-- Rows E, F, G (R553). -/
def rowE (c : Nat) : Pin :=
  if c ≤ 24 then [Pin.encA, .encB, .encI].getD ((c - 1) % 3) .encA ((c - 1) / 3)
  else if c ≤ 28 then [Pin.ssiClk, .ssiData].getD ((c - 25) % 2) .ssiClk ((c - 25) / 2)
  else if c ≤ 32 then .prb (c - 29) else .vss
def rowF (c : Nat) : Pin := if c ≤ 16 then .cnt (c - 1) else if c ≤ 24 then .sns (c - 17) else if c ≤ 32 then .ntc (c - 25) else .vss
def rowG (c : Nat) : Pin :=
  if c ≤ 24 then (if c % 2 = 1 then .lim0 ((c - 1) / 2) else .lim1 ((c - 1) / 2))
  else if c ≤ 32 then (if c % 2 = 1 then .led ((c - 25) / 2) else .pd ((c - 25) / 2)) else .vss

/-- A bridge's row, column 1..17 of its half (R554). -/
def bridgePin (b i : Nat) : Pin :=
  match i with
  | 1 => .gate b 0 0 | 2 => .gate b 0 1 | 3 => .node1 b | 4 => .gate b 1 0 | 5 => .gate b 1 1
  | 7 => .gate b 2 0 | 8 => .gate b 2 1 | 9 => .node2 b | 10 => .gate b 3 0 | 11 => .gate b 3 1
  | 13 => .senseP b | 14 => .senseN b | 15 => .vgd | _ => .vss

/-- Row `k` of the three of a bank of 16 channels, column from 1 (R557). -/
def solPin (bank k c : Nat) : Pin :=
  let ch := 16 * bank + (c - 1) / 2
  if 33 ≤ c then (if k = 0 then .vgd else .vss)
  else if k = 0 then (if c % 2 = 1 then .solGh ch else .solGl ch)
  else if k = 1 then (if c % 2 = 1 then .solNh ch else .solNl ch)
  else if c % 2 = 1 then .solCsp ch else .solCsn ch

/-- Rows AG..AT, row `k` from AG (R558). -/
def supplyPin (k c : Nat) : Pin :=
  if c % 2 = 0 then .vss
  else if k ≤ 1 then .vddio else if k = 2 then .vdda else if k = 3 then .vddf else if k ≤ 7 then .vdd
  else if c ≤ 15 then .vmreg else .nc

/-- The ball with index `k`: row k / 34, column k % 34 + 1 (R548). -/
def pinAt (k : Nat) : Pin :=
  let r := k / 34
  let c := k % 34 + 1
  let x := (c - 1) / 17
  let i := (c - 1) % 17 + 1
  if r = 0 then (if i ≤ 16 then .headD x (i - 1) else .vss)
  else if r = 1 then (if i ≤ 16 then .headStb x (i - 1) else .vss)
  else if r = 2 then headRowC x i
  else if r = 3 then rowD c
  else if r = 4 then rowE c
  else if r = 5 then rowF c
  else if r = 6 then rowG c
  else if r ≤ 18 then bridgePin (4 * ((r - 7) / 2) + 2 * x + (r - 7) % 2) i
  else if r ≤ 24 then solPin ((r - 19) / 3) ((r - 19) % 3) c
  else supplyPin (r - 25) c

/-! ### Kinds of pins (R549) -/

/-- The type of a ball. -/
inductive PinType where
  | di | do_ | od | ai | ad | hv | gl | gh | il | xt | p | g | nc
  deriving DecidableEq, Repr, Inhabited

def Pin.type : Pin → PinType
  | .headD _ _ | .headStb _ _ | .headClk _ | .headLat _ | .headVhen _ => .do_
  | .headTh _ _ => .ai
  | .headVhs _ => .hv
  | .headIsp _ | .headIsn _ | .senseP _ | .senseN _ | .solCsp _ | .solCsn _ => .ad
  | .gate _ e _ => if e % 2 = 0 then .gh else .gl
  | .node1 _ | .node2 _ | .solNh _ | .solNl _ | .vmSen | .vsSen => .hv
  | .solGh _ => .gh
  | .solGl _ => .gl
  | .encA _ | .encB _ | .encI _ | .ssiData _ | .prb _ | .cnt _ | .lim0 _ | .lim1 _ | .auxRx _ | .hostRx _ | .hostCts _ => .di
  | .ssiClk _ | .auxTx _ | .hostTx _ | .hostRts _ | .tdo | .dischM | .dischS => .do_
  | .sns _ | .ntc _ | .pd _ | .vrefA => .ai
  | .led _ => .il
  | .xtalIn | .xtalOut | .axtalIn | .axtalOut => .xt
  | .tck | .tms | .tdi | .trst | .resetN | .stopN | .doorN | .vgdSel | .testEn => .di
  | .alertN => .od
  | .vddio | .vdda | .vddf | .vdd | .vmreg | .vgd => .p
  | .vss => .g
  | .nc => .nc

/-- A signal ball. -/
def Pin.signal (p : Pin) : Bool := p.type != .p && p.type != .g && p.type != .nc

/-- The boundary register holds every signal ball except the TAP and the crystal pins (R532). -/
def Pin.inBoundary (p : Pin) : Bool :=
  p.signal && p.type != .xt && !([Pin.tck, .tms, .tdi, .tdo, .trst].contains p)

/-- The supply that guards an output's cell: VM, VS, VH A, VH B are 0..3 (R535). -/
def Pin.guardedBy : Pin → Option Nat
  | .gate _ _ _ => some 0
  | .solGh _ | .solGl _ => some 1
  | .headStb x _ | .headVhen x => some (2 + x)
  | _ => none

/-! ### The pin self-test (R528..R530, R556) -/

/-- The test that takes a pin; 0 for none. -/
def Pin.test : Pin → Nat
  | .gate _ _ _ | .solGh _ | .solGl _ => 1
  | .node1 _ | .node2 _ | .senseP _ | .senseN _ | .solNh _ | .solNl _ | .solCsp _ | .solCsn _ => 2
  | .headD _ _ | .headStb _ _ | .headClk _ | .headLat _ | .headVhen _ | .headTh _ _ | .headVhs _ | .headIsp _ | .headIsn _ => 3
  | .encA _ | .encB _ | .encI _ | .ssiClk _ | .ssiData _ | .prb _ | .cnt _ | .sns _ | .ntc _ | .lim0 _ | .lim1 _ | .led _ | .pd _ => 4
  | .auxTx _ | .auxRx _ => 4
  | _ => 0

/-- The balls a test takes, in ball-table order (R528, R529). -/
def bistBalls (test : Nat) : List Nat := (List.range 1156).filter fun k => test != 0 && (pinAt k).test == test

/-- The partner of a pin (R556). -/
def Pin.partner : Pin → Option Pin
  | .gate b e k => some (.gate b e (1 - k))
  | .node1 b => some (.node2 b)
  | .node2 b => some (.node1 b)
  | .solNh c => some (.solNl c)
  | .solNl c => some (.solNh c)
  | .senseP b => some (.senseN b)
  | .senseN b => some (.senseP b)
  | .solCsp c => some (.solCsn c)
  | .solCsn c => some (.solCsp c)
  | .headIsp x => some (.headIsn x)
  | .headIsn x => some (.headIsp x)
  | _ => none

/-- A shunt or current-sense pin. -/
def Pin.shunt (p : Pin) : Bool := p.type == .ad

/-- A node of a coil. -/
def Pin.coil : Pin → Bool
  | .node1 _ | .node2 _ | .solNh _ | .solNl _ => true
  | _ => false

/-- The pull on a pin of the group while pin `k` is taken, in phase H or L: its direction and its current in µA (R529). -/
def bistPull (phaseH taken : Bool) : Bool × Nat := (phaseH == taken, if taken then 100 else 20)

/-- A sample is LOW below 0.2 V and HIGH above 0.4 V (R529). -/
def mvLow (v : BitVec 12) : Bool := v.toNat < 200
def mvHigh (v : BitVec 12) : Bool := 400 < v.toNat

/-- A pin that nothing outside loads or holds: it follows its own pull, every other pin reads 0 mV. It stands for a pin of the group
without samples. -/
def quietPin (k : Fin 1156) : PinSample := ⟨k, 3300, 0, [], 10000⟩

/-- Pins of the group, the partner apart, that read HIGH in phase H of the pin taken (rule 1 of R530). -/
def pinBridges (p : PinSample) (test : Nat) : List Nat :=
  (p.others.filter fun o => mvHigh o.2 && o.1 != p.ball && (pinAt o.1).test == test &&
    (pinAt p.ball).partner != some (pinAt o.1)).map fun o => o.1.val

/-- The partner of the pin taken reads LOW in its phase H. -/
def partnerLow (p : PinSample) : Bool :=
  match (pinAt p.ball).partner with
  | none => false
  | some q => !(p.others.any fun o => pinAt o.1 == q && !mvLow o.2)

/-- Rules 2 to 10 of R530. -/
def pinCode (p : PinSample) (test : Nat) : Nat :=
  let q := pinAt p.ball
  let th : Bool := match q with | .headTh _ _ => true | _ => false
  if q.shunt then (if mvLow p.high then 1 else 4)
  else if th && decide (3000 < p.high.toNat) then 4
  else if 3 ≤ test ∧ (mvLow p.high ∨ mvHigh p.low) then 6
  else if mvLow p.high then 2
  else if mvHigh p.low then 3
  else if q.coil && partnerLow p then 4
  else if test = 1 ∧ p.rise.toNat < 1000 then 4
  else 1

/-- The codes of a whole test: its pins in ball-table order, each as sampled (R530). -/
def bistCodes (test : Nat) (samples : List PinSample) : List (Nat × Nat) :=
  let bridged := samples.flatMap fun p => match pinBridges p test with | [] => [] | l => p.ball.val :: l
  (bistBalls test).map fun k =>
    (k, if bridged.contains k then 5
        else match samples.find? fun p => p.ball.val == k with
          | some p => pinCode p test
          | none => pinCode (quietPin (Fin.ofNat 1156 k)) test)

/-- How long a test lasts, in µs (R529). -/
def bistTime (test : Nat) : Nat := 100 + 40 * (bistBalls test).length

end Sys2Proof.Machine
end

