-- ==== Sys2Proof/Machine/Crc.lean ====
section
/-!
DEFINITION. CRC-32C (R73) over bytes and over the wire form of words (R72).
-/

namespace Sys2Proof.Machine

/-- One bit step of the reflected polynomial 0x1EDC6F41. -/
def crcBit (c : BitVec 32) : BitVec 32 := if c.getLsbD 0 then (c >>> 1) ^^^ 0x82F63B78 else c >>> 1

/-- One byte. -/
def crcByte (c : BitVec 32) (b : Byte) : BitVec 32 :=
  crcBit (crcBit (crcBit (crcBit (crcBit (crcBit (crcBit (crcBit (c ^^^ b.setWidth 32))))))))

/-- CRC-32C of a byte string: initial value and final XOR 0xFFFFFFFF. -/
def crc32c (bs : List Byte) : BitVec 32 := (bs.foldl crcByte 0xFFFFFFFF) ^^^ 0xFFFFFFFF

/-- CRC-32C over the wire form of words. -/
def crcWords (ws : List Word) : BitVec 32 := crc32c (ws.flatMap wireBytes)

end Sys2Proof.Machine
end

