-- ==== Sys2Proof/Config.lean ====
section
/-!
DEFINITION. What one part or one surrounding fixes and what the spec leaves open: constants without a body, applied to
the counter `State.fresh` or to the operands they depend on. Nothing can be proved about their values.
-/

namespace Sys2Proof.Config

/-- A free 36-bit word for a value the spec leaves open; the argument is the state's counter of free values used. -/
opaque freeWord : Nat → Word

/-- A free number for a value the spec leaves open. -/
opaque freeNat : Nat → Nat

/-- A free choice where the spec allows two outcomes. -/
opaque freeBool : Nat → Bool

/-- Whether the signature in the last 16 words of an image verifies under the key its KEYIDX names (R538), an outside
standard with keys in the boot ROM. -/
opaque imageSigOk : List Word → Bool

/-- Module rows of a PDF417, Data Matrix or Aztec symbol, quiet zone left out: symbology, OPTIONS, content; none where it cannot
be encoded within OPTIONS (R213). Their codeword tables are outside standards', and among encodations of one size R213 leaves
the choice to the encoder. -/
opaque symbolMatrix : Nat → Nat → List Nat → Option (List (List Bool))

/-- Whether dot `d` of line `n` of built-in pattern `p` is dark by its lettering, rulers or scales (R295): font and drawing
are the firmware's. Arguments: pattern, head, line, dot, and the values that a header shows. -/
opaque patternInk : Nat → Nat → Nat → Nat → List Nat → Bool

end Sys2Proof.Config
end

