-- ==== Sys2Proof/Machine/Types.lean ====
section
/-!
DEFINITION. The plain data types the machine's core state is made of: records and jobs (R137..R143), lanes (R148, R149),
welt entries (R158, R161), gates (R188), link ports and frames (R71..R105), the event queue (R122..R125), the governor.
-/

namespace Sys2Proof.Machine

/-! ### Tables of a fixed number of like parts -/

/-- Part number `i` of a table, or the default where there is none. -/
def at' {α : Type} [Inhabited α] {n : Nat} (v : Vector α n) (i : Nat) : α := v.getD i default

/-- The table with `f` applied to part number `i`; unchanged where there is none. -/
def upd {α : Type} {n : Nat} (v : Vector α n) (i : Nat) (f : α → α) : Vector α n :=
  if h : i < n then v.set i (f v[i]) else v

/-! ### Records and jobs -/

/-- A job record: the header fields of R137, the payload before its trailers, and the trailer words of R143. -/
structure Rec where
  typ : Nat
  lane : Nat
  gate : Bool
  tmo : Bool
  ckpt : Bool
  tag : Nat
  payload : List Word
  timeout : Word
  gateWord : Word
  deriving DecidableEq, Repr, Inhabited

/-- Outcome of one record (R187). -/
inductive RecOutcome where
  | queued | running | ended | cancelled | stopped | held | interrupted
  deriving DecidableEq, Repr, Inhabited

/-- Gate of one record: none, ARMED, or the verdict of R163 that was last written. -/
inductive GateState where
  | none | armed | doneEvidence | doneEnded | inDoubt | resolvedDone | resolvedRedo
  deriving DecidableEq, Repr, Inhabited

/-- What the job table keeps for one record of a job. -/
structure RecStatus where
  outcome : RecOutcome
  gate : GateState
  hint : Nat
  /-- The copies of a PRINT that carry a COPY_DONE mark. -/
  copies : Nat
  /-- Whether its ENDED or CANCELLED mark is committed in the welt. -/
  marked : Bool
  deriving DecidableEq, Repr, Inhabited

/-- State of a fence of an accepted job (R153). -/
inductive FenceState where
  | waiting | satisfied | broken | resumed
  deriving DecidableEq, Repr, Inhabited

/-- An accepted job (R144, R155). -/
structure Job where
  seq : Word
  port : Nat
  href : Word
  words : List Word
  recs : List Rec
  status : List RecStatus
  fences : List (Nat × FenceState)
  started : Bool
  done : Bool
  /-- ASSET_HOLD has been raised for it and RESUMED has not (R199, R200). -/
  assetHeld : Bool
  /-- Lanes on which HELD has been raised for the job and RESUMED has not (R154, R180). -/
  heldOn : List Nat
  /-- Received characters of AUX_XFER records, by record index (R161 RESULT). -/
  results : List (Nat × List Nat)
  /-- Assets counted in their JOBS for this job (R198). -/
  assets : List Nat
  deriving DecidableEq, Repr, Inhabited

/-- A closed job waiting for its decision (R138, R144). -/
structure Closed where
  port : Nat
  tag : Nat
  words : List Word
  /-- Words past TOTAL do not exist; a JOB_END before TOTAL or a cut JOB_END is marked here (R144 check 1). -/
  wellClosed : Bool
  /-- Number of its JOB_BEGIN on the port. -/
  ser : Nat
  deriving DecidableEq, Repr, Inhabited

/-- The job assembler behind one JOB_WIN (R138). -/
structure Assembler where
  isOpen : Bool
  tag : Nat
  words : List Word
  /-- Payload words of the record being taken that have not arrived yet. -/
  left : Nat
  /-- Whether the record being taken is JOB_END. -/
  inEnd : Bool
  /-- JOB_BEGIN headers taken so far: JOB_STAT describes the job of this number (R127). -/
  ser : Nat
  deriving DecidableEq, Repr, Inhabited

/-- JOB_STAT of a port (R127). -/
structure JobStat where
  code : Nat
  tag : Nat
  info : Nat
  deriving DecidableEq, Repr, Inhabited

/-- An item of a stitch's batch (R147): `rsp` is the frame whose response waits for it (EMERGENCY space, SEQ) and the index
of the operation in it. -/
inductive BatchKind where
  | claim (mask : Nat) (rsp : Option (Bool × Nat × Nat))
  | release (mask : Nat) (rsp : Option (Bool × Nat × Nat))
  | job (c : Closed)
  deriving DecidableEq, Repr, Inhabited

structure BatchItem where
  stitch : Nat
  port : Nat
  kind : BatchKind
  deriving DecidableEq, Repr, Inhabited

/-! ### Lanes -/

/-- Lane state (R149). -/
inductive LaneState where
  | idle | running | waiting | stopped | fault | out | readmit | recovery
  deriving DecidableEq, Repr, Inhabited

/-- WAIT reason (R149). -/
inductive Wait where
  | none | previous | fence | power | calib | path | broken | asset | inDoubt | geared | gateFull | events | arming
  deriving DecidableEq, Repr, Inhabited

/-- A place in a lane's queue: a record, or a fence or LANE_OUT that stands in the lane (R153, R154). -/
structure QItem where
  job : Word
  idx : Nat
  r : Rec
  deriving DecidableEq, Repr, Inhabited

/-- What a stop keeps for CONTINUE (R150). -/
inductive Kept where
  | nothing | remaining
  deriving DecidableEq, Repr, Inhabited

/-- One lane of R15. -/
structure Lane where
  /-- 0 none, 1 HOST0, 2 HOST1 (R146). -/
  owner : Nat
  epoch : BitVec 16
  state : LaneState
  wait : Wait
  queue : List QItem
  /-- The record released and not ENDED. -/
  running : Option QItem
  /-- Records released whose release point is reached but which have not ENDED (R141: SOL_RUN, a PRINT before a PRINT). -/
  tail : List QItem
  /-- Stitch in which this lane last released a record, plus one; zero for none (R22: one record per stitch). -/
  relStitch : Nat
  /-- Stitch (plus one) in which a stop last took effect (R152). -/
  stopStitch : Nat
  /-- Stopped, not yet at rest. -/
  stopping : Bool
  /-- LaneState to enter once the stop has come to rest. -/
  stopTo : LaneState
  /-- MOVE_STOPPED cause of the stop (R312): 1 STOP, 2 LIMIT, 3 FAULT, 4 GEAR_LAG, 5 TIMEOUT, 6 RANGE, 7 PATH. -/
  stopCause : Nat
  /-- Waiting for the ENDED mark of a CKPT record (R169). -/
  ckptWait : Option (Word × Nat)
  /-- Step of a re-admission: 0 none, 1 its check is to start, 2 waiting for bound axes, 3 passed with a record to go on with,
  4 checking, 5 its check is stopped (STOPPED). -/
  raStep : Nat
  /-- The job and record index of the RE_ADMIT in progress. -/
  raRec : Option (Word × Nat)
  /-- An axis lane's engine decelerates because the head lane that owns it stops or faults (R27). -/
  pathStop : Bool
  /-- State a lane in RECOVERY takes when it leaves it: FAULT or OUT from its newest LANE entry, STOPPED where a stop has taken
  effect meanwhile, else IDLE (R150, R180). -/
  after : LaneState
  /-- The gate of the record whose stop still decelerates has settled DONE: the record ends at rest (R174). -/
  settledStop : Bool
  deriving DecidableEq, Repr, Inhabited

/-! ### The welt -/

/-- The copy of an entry in one bank (R160). -/
structure Copy where
  /-- Words programmed and verified, from the first one on. -/
  done : Nat
  /-- Its words that read uncorrectable, or erased though they are programmed. -/
  lost : List Nat
  /-- The bank was retired when the entry was written. -/
  absent : Bool
  deriving DecidableEq, Repr, Inhabited

/-- An entry of the welt: its words (R158), its place, its copies. A repair (R177) is an entry of its own whose `orig` is the
LPOS of the entry it stands for; of any other entry `orig` is its own LPOS. -/
structure Entry where
  words : List Word
  lpos : Word
  orig : Word
  c0 : Copy
  c1 : Copy
  deriving DecidableEq, Repr, Inhabited

/-- A waiting mark (R162). -/
structure Mark where
  code : Nat
  idx : Nat
  arg : Nat
  job : Word
  deriving DecidableEq, Repr, Inhabited

/-- What the commit of an entry being written brings about besides the entry itself. -/
inductive OnCommit where
  | nothing
  | accept (c : Closed) (recs : List Rec)
  | gateArmed (lane : Nat)
  | marks (ms : List Mark)
  | tail (lpos : Word)
  /-- The entry stands for the one whose `orig` is given, of which a copy is bad (R177). -/
  | repair (orig : Word)
  deriving DecidableEq, Repr, Inhabited

/-- An entry waiting to be written, oldest first (R159). -/
structure WriteReq where
  words : List Word
  act : OnCommit
  deriving DecidableEq, Repr, Inhabited

/-- An entry of the gate list (R188). -/
structure Gate where
  job : Word
  idx : Nat
  lane : Nat
  /-- False: ARMED; true: IN_DOUBT. -/
  doubt : Bool
  /-- The IN_DOUBT entry is committed: DEV_STAT.IN_DOUBT and DOUBT count the gate (R173). -/
  told : Bool
  source : Nat
  hint : Nat
  srcidx : Nat
  href : Word
  armseq : Word
  window : Nat
  /-- Stitch at which the window ends, once the record has ENDED or come to rest (R172, R174). -/
  windowEnd : Option Nat
  /-- Evidence seen: its EVIDENCE mark is queued and its settle entry asked for. -/
  settling : Bool
  /-- The gated record has been released. -/
  live : Bool
  deriving DecidableEq, Repr, Inhabited

/-! ### Events -/

/-- Event classes of R122. -/
abbrev EventClass := Nat

/-- An event in the queue, with its arguments and what each port still has to do with it (R124). -/
structure Event where
  id : Nat
  cls : Nat
  code : Nat
  lane : Nat
  stamp : Nat
  args : List Word
  /-- Due to port 0 / port 1 and not yet taken. -/
  due0 : Bool
  due1 : Bool
  /-- Held in an EVT frame in flight to port 0 / port 1 (R94). -/
  fly0 : Bool
  fly1 : Bool
  /-- Taken by port 0 / port 1. -/
  taken0 : Bool
  taken1 : Bool
  /-- One of the recovery events of R181. -/
  recovery : Bool
  deriving DecidableEq, Repr, Inhabited

/-! ### Link ports -/

/-- LINK_STAT.STATE (R104). -/
inductive LinkState where
  | hunt | confirm | up | sync
  deriving DecidableEq, Repr, Inhabited

/-- A frame the device sends: its TYPE, its SEQ where sequenced, its payload (R71, R75), how often it has been sent, and
the ids of the events an EVT frame carries. -/
structure Frame where
  typ : Nat
  emerg : Bool
  seq : BitVec 8
  ackseq : BitVec 8
  payload : List Word
  sends : Nat
  events : List Nat
  /-- On the wire: the characters sent of a frame that was abandoned for an EMERGENCY frame; none for a whole frame (R94). -/
  cut : Option Nat := none
  deriving DecidableEq, Repr, Inhabited

/-- The RSP of a frame that waits for its LANE_OWN writes (R147): its space, SEQ, the writes still to be resolved, and the
first refusal: RCODE and operation index. -/
structure HeldRsp where
  emerg : Bool
  seq : Nat
  left : Nat
  rcode : Nat
  ridx : Nat
  deriving DecidableEq, Repr, Inhabited

/-- One host port: link state, sequence spaces, banked registers, statistics (R83..R105, R110..R113, R126, R127). -/
structure Port where
  rev : Nat
  st : LinkState
  div : Nat
  maxlen : Nat
  window : Nat
  /-- Completed a HELLO since reset (R102). -/
  everUp : Bool
  /-- A HELLO without CONT since reset has been in UP: CONT may be granted (R83). -/
  upSinceReset : Bool
  nextRx : BitVec 8
  eNextRx : BitVec 8
  nextTx : BitVec 8
  eNextTx : BitVec 8
  /-- Sent and unacknowledged frames, oldest first: NORMAL and EMERGENCY space (R86). -/
  unacked : List Frame
  eUnacked : List Frame
  /-- Frames waiting to be sent, oldest first. -/
  txq : List Frame
  eTxq : List Frame
  /-- The frames the latest command of this port put on the wire, in order. -/
  wire : List Frame
  /-- Frames that may not start while CTS_N is high, in the order in which they will go (R98, R496). -/
  held : List Frame
  /-- HELLO_ACK is among them: UP is entered when it is sent (R84). -/
  upOnAck : Bool
  /-- A divider agreed and to be adopted after HELLO_ACK (R84). -/
  newDiv : Option Nat
  /-- Error buckets of 100 ms, current first (R91). -/
  buckets : List Nat
  /-- A link error has been counted since the last in-order frame of NORMAL / EMERGENCY space (R87). -/
  errSince : Bool
  eErrSince : Bool
  /-- Host frames still to come in order that are on their second send: an earlier copy of them, or a frame before them, has
  been discarded (R89). -/
  discarded : Nat
  eDiscarded : Nat
  syncSent : Nat
  /-- CTS_N is low: the port may transmit (R98). -/
  cts : Bool
  /-- RTS_N is driven low: the host may transmit (R494). -/
  rts : Bool
  /-- In HUNT after a fallback, LINK_PEND's cause (R96). -/
  fallen : Bool
  errLimit : Nat
  errWin : Nat
  evtStream : Bool
  fellBack : Bool
  resynced : Bool
  noiseSeen : Bool
  crcErr : Word
  fmtErr : Word
  retxOk : Word
  resync : Word
  fallbacks : Word
  stray : Word
  noise : Word
  /-- Table window (R110, R112). -/
  tblAddr : BitVec 24
  autoinc : Bool
  noteCode : Nat
  noteTbl : Bool
  refusedBit : Bool
  notedBit : Bool
  noteIdx : Nat
  noteSeq : Nat
  /-- Addresses of this port's pending shadow words (R113). -/
  pend : List Nat
  /-- Events (R126). -/
  classEn : BitVec 16
  lost : Nat
  popArgs : List Word
  /-- Jobs (R127, R138). -/
  asm : Assembler
  jobStat : JobStat
  /-- RSPs deferred under OUTCOME: SEQ of the frame, number of the job it waits for, and that job's JOB_STAT (R78). -/
  deferred : List (Nat × Nat × JobStat)
  ownRsp : List HeldRsp
  /-- A FALLBACK written in the frame with this space and SEQ: it waits for that frame's RSP (R92). -/
  fbPend : Option (Bool × Nat)
  /-- Characters of the FIFO's partial block, and those in the ring that core 0 has not done with, as elements (R492, R493). -/
  rxFifo : List Nat
  rxRing : List Nat
  /-- Characters have been lost since the last one stored (R494). -/
  rxLost : Bool
  /-- The value last returned to this port by a read command. -/
  rdata : Word
  /-- SEQ of the frame being executed and index of the operation within it (R112). -/
  frameSeq : Nat
  opIdx : Nat
  deriving DecidableEq, Repr, Inhabited

/-! ### The stitch governor -/

/-- How long ago something happened: the boundaries since, and whether it fell after phase 2048 of its stitch. -/
structure Since where
  age : Nat
  late : Bool
  deriving DecidableEq, Repr, Inhabited

/-- The governor and the phase generator (R41..R70). `n` counts boundaries since reset without wrapping; COUNT is its low
36 bits. -/
structure Stitch where
  n : Nat
  /-- Phase within the stitch last reported by an event: 0 at the boundary, 2048 at the governor's sample. -/
  phase : Nat
  x : Nat
  xNext : Nat
  period : Nat
  newPeriod : Option Nat
  kMax : Nat
  slew : Nat
  ovrEn : Bool
  thermEn : Bool
  sagEn : Bool
  kHost : Nat
  ovrSeen : Bool
  atMax : Bool
  /-- An episode in which the largest active request exceeds K_MAX is going on (R49). -/
  atMaxEpisode : Bool
  ovrReq : Nat
  /-- Time since the last OVERRUN or the last fall of the request (R57). -/
  ovrSince : Since
  /-- Sag requests VM, VS, VH that stay after their monitor has cleared: the time since (R49). -/
  holdVM : Option Since
  holdVS : Option Since
  holdVH : Option Since
  /-- SAG_HOLD, OVR_RELAX, OVR_LINES and OVR_STEP as the last sampling point took them (R53). -/
  govHold : Nat
  govRelax : Nat
  govLines : Nat
  govStep : Nat
  running : Bool
  /-- True time of the last boundary since reset, in 1/65,536 of a 5 ns PWM cycle (R41, R42). -/
  time : Nat
  deriving DecidableEq, Repr, Inhabited

end Sys2Proof.Machine
end

