-- ==== Sys2Proof/Machine/Entries.lean ====
section
/-!
DEFINITION. Entries of the welt as words (R158): how they are formed, what their fields are, and when a copy is good (R160).
-/

namespace Sys2Proof.Machine

/-- Bits 11:0 of a word's top: MAGIC of the commit word. -/
def entryMagic : Nat := 0xA5C

/-- The words of an entry: header, SEQ, body, CRC word, commit word (R158). -/
def entryWords (kind : Nat) (jepoch : BitVec 12) (port : Nat) (seq : Word) (body : List Word) : List Word :=
  let covered := (field 35 32 kind ||| field 31 20 body.length ||| field 19 8 jepoch.toNat ||| field 7 6 port) :: seq :: body
  covered ++ [field 31 0 (crcWords covered).toNat,
              field 35 24 entryMagic ||| field 23 12 jepoch.toNat ||| field 11 0 body.length]

/-! ### Fields of an entry's words -/

def wordsKind (ws : List Word) : Nat := bits (ws.getD 0 0) 35 32
def wordsBlen (ws : List Word) : Nat := bits (ws.getD 0 0) 31 20
def wordsPort (ws : List Word) : Nat := bits (ws.getD 0 0) 7 6
def wordsSeq (ws : List Word) : Word := ws.getD 1 0
def wordsBody (ws : List Word) : List Word := (ws.drop 2).take (wordsBlen ws)

def Entry.kind (e : Entry) : Nat := wordsKind e.words
def Entry.port (e : Entry) : Nat := wordsPort e.words
def Entry.seq (e : Entry) : Word := wordsSeq e.words
def Entry.body (e : Entry) : List Word := wordsBody e.words
def Entry.jepoch (e : Entry) : BitVec 12 := BitVec.ofNat 12 (bits (e.words.getD 0 0) 19 8)

/-- Words an entry occupies. -/
def Entry.size (e : Entry) : Nat := e.words.length

def WriteReq.kind (w : WriteReq) : Nat := wordsKind w.words
def WriteReq.port (w : WriteReq) : Nat := wordsPort w.words
def WriteReq.seq (w : WriteReq) : Word := wordsSeq w.words
def WriteReq.body (w : WriteReq) : List Word := wordsBody w.words

/-! ### Copies (R160) -/

/-- The CRC word of an entry matches its words. -/
def crcMatches (ws : List Word) : Bool :=
  let n := wordsBlen ws
  (ws.getD (n + 2) 0) == field 31 0 (crcWords (ws.take (n + 2))).toNat

/-- The commit word holds MAGIC with the JEPOCH and BLEN of word 0. -/
def commitMatches (ws : List Word) : Bool :=
  let h := ws.getD 0 0
  let c := ws.getD (wordsBlen ws + 3) 0
  bits c 35 24 == entryMagic && bits c 23 12 == bits h 19 8 && bits c 11 0 == bits h 31 20

/-- A copy is good: no word of it is lost or erased, its CRC and its commit word match. -/
def Entry.goodCopy (e : Entry) (c : Copy) : Bool :=
  c.lost.isEmpty && c.done == e.size && e.size == wordsBlen e.words + 4 && crcMatches e.words && commitMatches e.words

/-- The copy in a bank. -/
def Entry.copy (e : Entry) (b : Nat) : Copy := if b = 0 then e.c0 else e.c1
def Entry.onCopy (e : Entry) (b : Nat) (f : Copy → Copy) : Entry := if b = 0 then { e with c0 := f e.c0 } else { e with c1 := f e.c1 }

/-- A reserved kind: the entry is judged damaged (R161). -/
def Entry.reserved (e : Entry) : Bool := e.kind == 0 || 9 ≤ e.kind

/-- The entry is committed in bank `b`. -/
def Entry.goodIn (e : Entry) (b : Nat) : Bool := !e.reserved && e.goodCopy (e.copy b)

end Sys2Proof.Machine
end

