-- ==== Sys2Proof/Machine/TypesAssets.lean ====
section
/-!
DEFINITION. Plain data of the assets: directory entries (R193), commands in progress on them (R194..R197), the stored
words of both asset regions, damaged words.
-/

namespace Sys2Proof.Machine

/-- STATE of a directory entry (R193). -/
inductive AssetState where
  | free | loading | verifying | ready | damaged | repairing
  deriving DecidableEq, Repr, Inhabited

/-- A directory entry: its directory record, and the command in progress on it. JOBS and DEPS are counted from the jobs and the
dependency lists (R198). -/
structure DirEntry where
  st : AssetState
  kind : Nat
  place : Nat
  owner : Nat
  result : Nat
  gen : Nat
  size : Nat
  crc : Nat
  off0 : Nat
  off1 : Nat
  label : Word
  /-- Dependency list of a stored template (R193, R204). -/
  deps : List Nat
  /-- Words taken at PORT by the command in progress, and those of them not yet programmed (R194, R195). -/
  taken : Nat
  staged : List Word
  /-- The command in progress is a REPAIR (R200). -/
  repairing : Bool
  /-- Placement and offsets of the command in progress; a REPAIR's become the record's when it succeeds (R195, R200). -/
  cplace : Nat
  coff0 : Nat
  coff1 : Nat
  /-- The oldest staged word is programmed and verified in FLASH0, FLASH1. -/
  ok0 : Bool
  ok1 : Bool
  deriving DecidableEq, Repr, Inhabited

/-- Assets of the device. Words of a region are listed where they differ from an erased word (R456). -/
structure Assets where
  dir : List (Nat × DirEntry)
  words0 : List (Nat × Word)
  words1 : List (Nat × Word)
  /-- Word offsets of each region that read uncorrectable (R199, R468). -/
  bad0 : List Nat
  bad1 : List Nat
  deriving DecidableEq, Repr, Inhabited

def DirEntry.empty : DirEntry where
  st := .free
  kind := 0
  place := 0
  owner := 0
  result := 0
  gen := 0
  size := 0
  crc := 0
  off0 := 0
  off1 := 0
  label := 0
  deps := []
  taken := 0
  staged := []
  repairing := false
  cplace := 0
  coff0 := 0
  coff1 := 0
  ok0 := false
  ok1 := false

def Assets.reset : Assets := ⟨[], [], [], [], []⟩

end Sys2Proof.Machine
end

