-- ==== Sys2Proof/Machine/Map.lean ====
section
/-!
DEFINITION. The table space (R107): every field of every object, with its place, access code (R12), reset value and the
range its description states; which object an address belongs to, the words each object defines (R108), the reset word of
every address (R14) and which words are shadowed (R113).
-/

namespace Sys2Proof.Machine

/-- Access codes of R12. -/
inductive Access where
  | rw | ro | wo | w1c | wl | ot
  deriving DecidableEq, Repr, Inhabited

/-- One field of a table object: word offset within the object, bits, access, reset value and stated range. -/
structure Field where
  off : Nat
  hi : Nat
  lo : Nat
  acc : Access
  rst : Nat
  mn : Nat
  mx : Nat
  deriving DecidableEq, Repr, Inhabited

/-- A field whose every value is in range. -/
def fld (off hi lo : Nat) (acc : Access) (rst : Nat) : Field := ⟨off, hi, lo, acc, rst, 0, 2 ^ (hi + 1 - lo) - 1⟩

/-- A field with a stated range. -/
def rfld (off hi lo : Nat) (acc : Access) (rst mn mx : Nat) : Field := ⟨off, hi, lo, acc, rst, mn, mx⟩

/-- The same field `k` words further on. -/
def Field.plus (f : Field) (k : Nat) : Field := { f with off := f.off + k }

/-- The field's value in a word. -/
def Field.get (f : Field) (w : Word) : Nat := bits w f.hi f.lo

/-- The field's two's complement value in a word (R8). -/
def Field.getS (f : Field) (w : Word) : Int := signed (f.hi + 1 - f.lo) (bits w f.hi f.lo)

/-- The word that holds `v` in the field and zero elsewhere. -/
def Field.put (f : Field) (v : Nat) : Word := field f.hi f.lo v

/-- The field's bits. -/
def Field.mask (f : Field) : Word := fieldMask f.hi f.lo

/-- Whether the word holds a value the field's description allows. -/
def Field.ok (f : Field) (w : Word) : Bool := f.mn ≤ f.get w && f.get w ≤ f.mx

namespace F

/-! R53 -/
def gov_K_VH : Field := rfld 0x0 32 22 .rw 0x140 256 1024
def gov_K_VS : Field := rfld 0x0 21 11 .rw 0x180 256 1024
def gov_K_VM : Field := rfld 0x0 10 0 .rw 0x180 256 1024
def gov_K_THERM : Field := rfld 0x1 10 0 .rw 0x200 256 1024
def gov_OVR_RELAX : Field := rfld 0x2 33 18 .rw 0x1000 1 65535
def gov_OVR_LINES : Field := rfld 0x2 17 11 .rw 0x20 1 127
def gov_OVR_STEP : Field := rfld 0x2 10 0 .rw 0x10 1 768
def gov_SAG_HOLD : Field := fld 0x3 15 0 .rw 0x800

/-! R105 -/
def lst_CRC_ERR : Field := fld 0x0 35 0 .ro 0
def lst_FMT_ERR : Field := fld 0x1 35 0 .ro 0
def lst_RETX_OK : Field := fld 0x2 35 0 .ro 0
def lst_RESYNC : Field := fld 0x3 35 0 .ro 0
def lst_FALLBACK : Field := fld 0x4 35 0 .ro 0
def lst_STRAY : Field := fld 0x5 35 0 .ro 0
def lst_NOISE : Field := fld 0x6 35 0 .ro 0

/-! R121 -/
def pcnt_CORE0_TR : Field := fld 0x0 35 0 .ro 0
def pcnt_CORE1_TR : Field := fld 0x1 35 0 .ro 0
def pcnt_SRAM0_TR : Field := fld 0x2 35 0 .ro 0
def pcnt_SRAM1_TR : Field := fld 0x3 35 0 .ro 0
def pcnt_FLASH0_TR : Field := fld 0x4 35 0 .ro 0
def pcnt_FLASH1_TR : Field := fld 0x5 35 0 .ro 0
def pcnt_FABRIC_TR : Field := fld 0x6 35 0 .ro 0
def pcnt_MISSED_ALL : Field := fld 0x7 35 0 .ro 0

/-! R148 -/
def lane_OWNER : Field := fld 0x0 35 34 .ro 0
def lane_RA_ACT : Field := rfld 0x0 1 0 .rw 1 0 1
def lane_EPOCH : Field := fld 0x1 15 0 .ro 0
def lane_CMD : Field := fld 0x2 35 33 .wo 0
def lane_STATE : Field := fld 0x2 32 29 .ro 0
def lane_WAIT : Field := fld 0x2 28 25 .ro 0
def lane_MASK : Field := fld 0x2 18 0 .wo 0
def lane_QUEUED : Field := fld 0x3 21 11 .ro 0
def lane_HELD : Field := fld 0x3 10 0 .ro 0

/-! R186 -/
def welt_JEPOCH : Field := fld 0x0 23 12 .ro 0
def welt_SINGLE : Field := fld 0x0 1 1 .ro 0
def welt_RECOV_MODE : Field := fld 0x0 0 0 .rw 0
def welt_HEAD_LPOS : Field := fld 0x1 35 0 .ro 0
def welt_TAIL_LPOS : Field := fld 0x2 35 0 .ro 0
def welt_ERASED : Field := fld 0x3 22 12 .ro 0
def welt_LIVE_SECT : Field := fld 0x3 11 0 .ro 0
def welt_LOAD_1H : Field := fld 0x4 35 18 .ro 0
def welt_LOAD_60S : Field := fld 0x4 17 0 .ro 0
def welt_LOAD_OVER : Field := fld 0x5 1 1 .w1c 0
def welt_BURST_OVER : Field := fld 0x5 0 0 .w1c 0
def welt_OUTSTANDING : Field := fld 0x6 21 11 .ro 0
def welt_DOUBT : Field := fld 0x6 10 0 .ro 0
def welt_ERASE_MAX : Field := fld 0x7 35 18 .ro 0
def welt_ERASE_MIN : Field := fld 0x7 17 0 .ro 0

/-! R187 -/
def look_KEY : Field := fld 0x0 35 0 .rw 0
def look_BY : Field := fld 0x1 35 34 .rw 0
def look_PART : Field := rfld 0x1 33 32 .rw 0 0 1
def look_FROM : Field := fld 0x1 31 20 .rw 0
def look_GO : Field := fld 0x1 0 0 .wo 0
def look_STATUS : Field := fld 0x2 35 32 .ro 0
def look_NREC : Field := fld 0x2 31 20 .ro 0
def look_MATCHES : Field := fld 0x2 19 12 .ro 0
def look_WORDS : Field := fld 0x2 11 0 .ro 0
def look_JOBSEQ : Field := fld 0x3 35 0 .ro 0
def look_HREF : Field := fld 0x4 35 0 .ro 0
def look_JSTATE : Field := fld 0x5 35 32 .ro 0
def look_ENDED : Field := fld 0x5 31 20 .ro 0
def look_CANCELLED : Field := fld 0x5 19 8 .ro 0
def look_OPEN_GATES : Field := fld 0x5 7 0 .ro 0

/-! R193 -/
def dir_STATE : Field := fld 0x0 35 32 .ro 0
def dir_KIND : Field := fld 0x0 31 28 .ro 0
def dir_PLACE : Field := fld 0x0 27 26 .ro 0
def dir_OWNER : Field := fld 0x0 25 25 .ro 0
def dir_RESULT : Field := fld 0x0 24 21 .ro 0
def dir_GEN : Field := fld 0x0 11 0 .ro 0
def dir_SIZE : Field := fld 0x1 19 0 .ro 0
def dir_CRC : Field := fld 0x2 31 0 .rw 0
def dir_JOBS : Field := fld 0x3 30 20 .ro 0
def dir_OFFSET0 : Field := fld 0x3 19 0 .ro 0
def dir_DEPS : Field := fld 0x4 31 20 .ro 0
def dir_OFFSET1 : Field := fld 0x4 19 0 .ro 0
def dir_LABEL : Field := fld 0x5 35 0 .rw 0
def dir_OP : Field := fld 0x6 35 33 .wo 0
def dir_CKIND : Field := fld 0x6 32 29 .wo 0
def dir_CPLACE : Field := fld 0x6 28 27 .wo 0
def dir_CSIZE : Field := fld 0x6 19 0 .wo 0
def dir_PORT : Field := fld 0x7 35 0 .wo 0

/-! R225 -/
def hd_VER : Field := fld 0x0 35 32 .rw 2
def hd_DOTS : Field := fld 0x0 31 19 .rw 0
def hd_PITCH : Field := fld 0x0 18 17 .rw 0
def hd_LANES : Field := fld 0x0 16 14 .rw 0
def hd_MAP : Field := fld 0x0 13 13 .rw 0
def hd_DIR : Field := fld 0x0 12 12 .rw 0
def hd_HSCK_N : Field := fld 0x0 11 5 .rw 4
def hd_NBLOCK : Field := fld 0x1 35 32 .rw 0
def hd_SLICES : Field := fld 0x1 31 29 .rw 0
def hd_LAT_W : Field := fld 0x1 28 21 .rw 0x14
def hd_STB_POL : Field := fld 0x1 20 20 .rw 0
def hd_LAT_POL : Field := fld 0x1 19 19 .rw 0
def hd_CLK_EDGE : Field := fld 0x1 18 18 .rw 0
def hd_BSTARTA : Field := fld 0x2 28 16 .rw 0
def hd_BSTARTB : Field := fld 0x2 12 0 .rw 0
def hd_STB_MAP_LO : Field := fld 0xa 31 0 .rw 0x76543210
def hd_STB_MAP_HI : Field := fld 0xb 31 0 .rw 0xfedcba98
def hd_RDOT : Field := fld 0xc 35 20 .rw 0
def hd_TH_FIT : Field := fld 0xc 19 18 .rw 0
def hd_TH_NOM : Field := fld 0xd 35 18 .rw 0
def hd_TH_BETA : Field := fld 0xd 17 4 .rw 0
def hd_LINE_MAX : Field := fld 0xe 35 22 .rw 0x2ee0
def hd_STB_MAX : Field := fld 0xe 21 11 .rw 0x7d0
def hd_DUTY_MAX : Field := fld 0xe 9 0 .rw 0x3e8
def hd_VH_MIN : Field := fld 0xf 35 27 .rw 0x28
def hd_VH_MAX : Field := fld 0xf 26 18 .rw 0xf0
def hd_TMAX : Field := fld 0xf 17 10 .rw 0x41
def hd_VH_SETTLE : Field := fld 0xf 9 0 .rw 0x64

/-! R240 -/
def hs_MODE : Field := rfld 0x11 35 34 .rw 0 0 2
def hs_MENC : Field := fld 0x11 33 31 .rw 0
def hs_ENC_DRIVEN : Field := fld 0x11 30 30 .rw 1
def hs_FPROF : Field := fld 0x11 29 27 .rw 0
def hs_VWIN : Field := fld 0x11 26 25 .rw 2
def hs_PERIOD : Field := fld 0x12 35 0 .rw 0x411b00
def hs_CPM : Field := rfld 0x13 35 0 .rw 0x40000 1 68719476735

/-! R246 -/
def hi_NPH : Field := fld 0x14 35 34 .rw 0
def hi_FEED : Field := fld 0x15 35 0 .rw 0

/-! R248 -/
def hb_FEED_EN : Field := fld 0x10 35 35 .rw 0
def hb_FEED_AX : Field := rfld 0x10 34 31 .rw 0 0 11
def hb_CLK_EN : Field := fld 0x10 30 30 .rw 0
def hb_CLK_AX : Field := rfld 0x10 29 26 .rw 0 0 11
def hb_MSA_EN : Field := fld 0x10 25 25 .rw 0
def hb_MSA : Field := fld 0x10 24 23 .rw 0
def hb_MSB_EN : Field := fld 0x10 22 22 .rw 0
def hb_MSB : Field := fld 0x10 21 20 .rw 0

/-! R251 -/
def hst_PSTATE : Field := fld 0x30 35 32 .ro 0
def hst_COPY : Field := fld 0x30 31 24 .ro 0
def hst_LINE : Field := fld 0x30 23 8 .ro 0
def hst_PHASE : Field := fld 0x30 7 6 .ro 0
def hst_SLICES : Field := fld 0x30 5 3 .ro 0
def hst_LINES : Field := fld 0x31 35 0 .ro 0
def hst_LATE : Field := fld 0x32 35 0 .ro 0
def hst_LATE_MAX : Field := fld 0x33 35 18 .ro 0
def hst_MIN_INT : Field := fld 0x33 17 0 .ro 0x3ffff
def hst_VH_TR : Field := fld 0x34 35 24 .ro 0

/-! R252 -/
def hsc_AUTO_MIN : Field := fld 0x40 35 20 .rw 0
def hsc_AUTO_APPLY : Field := fld 0x40 19 19 .rw 0
def hsc_SCAN_W : Field := rfld 0x40 18 15 .rw 4 1 8
def hsc_ABANDON : Field := fld 0x40 14 14 .wo 0
def hsc_SSTATE : Field := fld 0x41 35 32 .ro 0
def hsc_SKIND : Field := fld 0x41 31 30 .ro 0
def hsc_NEXT : Field := fld 0x41 29 17 .ro 0
def hsc_RETRIES : Field := fld 0x41 16 5 .ro 0
def hsc_STAMP : Field := fld 0x42 35 0 .ro 0
def hsc_OPEN : Field := fld 0x43 35 24 .ro 0
def hsc_SHORT : Field := fld 0x43 23 12 .ro 0
def hsc_HIGH : Field := fld 0x43 11 0 .ro 0
def hsc_VH : Field := fld 0x44 35 27 .ro 0
def hsc_TEMP : Field := fld 0x44 26 15 .ro 0
def hsc_TBAND : Field := fld 0x44 14 12 .ro 0

/-! R260 -/
def en_CAP_B : Field := rfld 0x108 12 0 .rw 6144 1 6144
def en_EMAX : Field := rfld 0x100 35 28 .rw 0x60 64 255
def en_OBOOST : Field := fld 0x100 27 20 .rw 0x40
def en_HTHR : Field := rfld 0x100 19 16 .rw 1 1 15
def en_SPREAD : Field := fld 0x100 15 15 .rw 1
def en_HIST_GAP : Field := rfld 0x100 14 0 .rw 0x7d0 1 32767
def en_VH_LO : Field := fld 0x101 35 27 .rw 0x90
def en_VH_STEP : Field := rfld 0x101 26 19 .rw 4 1 255
def en_TB1 : Field := fld 0x102 35 28 .rw 0xa
def en_TB2 : Field := fld 0x102 27 20 .rw 0x14
def en_TB3 : Field := fld 0x102 19 12 .rw 0x1e
def en_TB4 : Field := fld 0x102 11 4 .rw 0x28
def en_TB5 : Field := fld 0x103 35 28 .rw 0x32
def en_TB6 : Field := fld 0x103 27 20 .rw 0x3c
def en_TB7 : Field := fld 0x103 19 12 .rw 0x46
def en_HYST : Field := fld 0x103 3 0 .rw 2
def en_FILL_LO : Field := fld 0x104 31 0 .rw 0x76543210
def en_FILL_HI : Field := fld 0x105 31 0 .rw 0xfedcba98
def en_CAP_H : Field := rfld 0x106 35 23 .rw 0x1800 1 6144
def en_CAP_SAG : Field := rfld 0x106 22 10 .rw 0x600 1 6144
def en_THROT_CUT : Field := fld 0x106 7 0 .rw 0xc0
def en_OPEN_R : Field := fld 0x107 35 28 .rw 0x30
def en_HIGH_R : Field := fld 0x107 27 20 .rw 0x90
def en_SHORT_R : Field := fld 0x107 19 12 .rw 0x80

/-! R263 -/
def tb_TBASE : Field := fld 0x0 17 0 .rw 0

/-! R266 -/
def hf_HF : Field := fld 0x0 11 0 .rw 0x400

/-! R267 -/
def gs_GS : Field := fld 0x0 11 0 .rw 0

/-! R271 -/
def dot_CLASS : Field := fld 0x0 35 34 .rw 0
def dot_TSCALE : Field := fld 0x0 33 33 .rw 0
def dot_LOCK : Field := fld 0x0 32 32 .rw 0
def dot_TRIM : Field := fld 0x0 31 24 .rw 0x80
def dot_RMEAS : Field := fld 0x0 23 4 .ro 0

/-! R276 -/
def enst_TBAND : Field := fld 0x300 35 33 .ro 0
def enst_VSTEP : Field := fld 0x300 32 29 .ro 0
def enst_SAGCUT : Field := fld 0x300 28 28 .ro 0
def enst_THROT : Field := fld 0x300 27 27 .ro 0
def enst_WCLAMP : Field := fld 0x300 26 26 .ro 0
def enst_RELOC : Field := fld 0x301 35 0 .ro 0
def enst_DROPPED : Field := fld 0x302 35 0 .ro 0
def enst_SAG_SKIP : Field := fld 0x303 35 0 .ro 0
def enst_CLIPPED : Field := fld 0x304 35 0 .ro 0
def enst_N_OPEN : Field := fld 0x305 35 24 .ro 0
def enst_N_SHORT : Field := fld 0x305 23 12 .ro 0
def enst_N_HIGH : Field := fld 0x305 11 0 .ro 0

/-! R280 -/
def v1t_TBASE : Field := fld 0x0 17 0 .rw 0
def v1h_HF : Field := fld 0x0 11 0 .rw 0x400

/-! R284 -/
def ms_MODE : Field := fld 0x0 35 34 .rw 0
def ms_GAIN : Field := fld 0x0 33 32 .rw 1
def ms_LED_I : Field := rfld 0x0 31 24 .rw 0x28 0 160
def ms_CAL_REQ : Field := fld 0x0 23 23 .rw 1
def ms_TARGET : Field := rfld 0x0 11 0 .rw 0x800 256 3840
def ms_TH_HI : Field := fld 0x1 35 24 .rw 0xa28
def ms_TH_LO : Field := fld 0x1 23 12 .rw 0x5dc
def ms_CONTRAST_MIN : Field := rfld 0x1 11 0 .rw 0x190 1 4095
def ms_EDGE_MIN : Field := rfld 0x2 35 18 .rw 0x40 1 262143
def ms_OUT_LEN : Field := rfld 0x3 31 0 .rw 0x8000 1 4294967295
def ms_CAL_LEN : Field := rfld 0x4 31 0 .rw 0x10000 1 4294967295

/-! R285 -/
def msst_LEVEL : Field := fld 0x8 35 24 .ro 0
def msst_MSTATE : Field := fld 0x8 23 22 .ro 0
def msst_CSTATE : Field := fld 0x8 21 19 .ro 0
def msst_EDGE : Field := fld 0x9 35 0 .ro 0
def msst_PITCH_M : Field := fld 0xa 31 0 .ro 0
def msst_LEN_M : Field := fld 0xb 31 0 .ro 0
def msst_CAL_TR : Field := fld 0xc 35 24 .ro 0
def msst_CAL_FAIL : Field := fld 0xc 23 12 .ro 0

/-! R290 -/
def sns_FUNC : Field := rfld 0x0 35 33 .rw 0 0 3
def sns_POL : Field := fld 0x0 32 32 .rw 0
def sns_BRK_EN : Field := fld 0x0 31 31 .rw 0
def sns_DEB : Field := fld 0x0 30 23 .rw 0x14
def sns_TAKEN : Field := rfld 0x0 22 11 .rw 0xc8 1 4095
def sns_DROP_MAX : Field := rfld 0x0 10 0 .rw 0x64 1 2047
def sns_ACTIVE : Field := fld 0x1 35 35 .ro 0
def sns_BROKEN : Field := fld 0x1 34 34 .ro 0
def sns_PRESENT : Field := fld 0x1 33 33 .ro 0
def sns_COUNT : Field := fld 0x1 31 0 .ro 0
def sns_LAST : Field := fld 0x2 35 0 .ro 0

/-! R293 -/
def cal_TOF : Field := fld 0x0 31 0 .rw 0
def cal_COFS : Field := fld 0x1 31 0 .rw 0
def cal_XOFS : Field := fld 0x2 35 23 .rw 0
def cal_REG_X : Field := fld 0x2 22 10 .rw 0
def cal_REG_F : Field := fld 0x3 31 0 .rw 0
def cal_FSCALE : Field := rfld 0x4 20 0 .rw 0x100000 943718 1153434

/-! R296 -/
def clk_CTYPE : Field := fld 0x5 35 35 .rw 0
def clk_HOME_SRC : Field := rfld 0x5 34 33 .rw 0 0 2
def clk_HOME_SNS : Field := fld 0x5 32 30 .rw 0
def clk_HOME_POL : Field := fld 0x5 29 29 .rw 0
def clk_PROF_CUT : Field := fld 0x5 28 26 .rw 0
def clk_PROF_RET : Field := fld 0x5 25 23 .rw 1
def clk_RECOVER : Field := rfld 0x5 22 15 .rw 0x32 1 255
def clk_FULL_STROKE : Field := rfld 0x6 23 0 .rw 1 1 16777215
def clk_PART_STROKE : Field := rfld 0x7 23 0 .rw 1 1 16777215
def clk_LEAVE_MAX : Field := rfld 0x8 35 18 .rw 0x100 1 262143
def clk_RETURN_MAX : Field := rfld 0x8 17 0 .rw 0x100 1 262143

/-! R297 -/
def clkst_CSTATE : Field := fld 0x10 35 32 .ro 5
def clkst_AT_HOME : Field := fld 0x10 31 31 .ro 0
def clkst_SW_BROKEN : Field := fld 0x10 30 30 .ro 0
def clkst_JAM_TR : Field := fld 0x10 29 18 .ro 0
def clkst_TEND_VALID : Field := fld 0x10 17 17 .ro 0
def clkst_CUTS : Field := fld 0x11 35 0 .ro 0
def clkst_TEND : Field := fld 0x12 35 0 .ro 0
def clkst_LAST_CUT : Field := fld 0x13 35 0 .ro 0

/-! R304 -/
def ax_KIND : Field := rfld 0x0 35 34 .rw 0 0 2
def ax_DIR_INV : Field := fld 0x0 33 33 .rw 0
def ax_STRIDE_MAX : Field := rfld 0x0 32 26 .rw 1 1 64
def ax_EVT_RATE : Field := rfld 0x0 25 14 .rw 0x29a 1 2500
def ax_SS_MODE : Field := rfld 0x0 13 12 .rw 0 0 2
def ax_IDLE_ST : Field := fld 0x1 35 16 .rw 0x1313
def ax_LAG_MAX : Field := rfld 0x1 15 0 .rw 0x400 1 65535
def ax_LIM_DEC : Field := rfld 0x2 35 0 .rw 0x1000000 1 68719476735
def ax_ACT0 : Field := fld 0x3 35 34 .rw 0
def ax_SIDE0 : Field := fld 0x3 33 33 .rw 0
def ax_POL0 : Field := fld 0x3 32 32 .rw 0
def ax_DEB0 : Field := fld 0x3 31 24 .rw 0x14
def ax_ACT1 : Field := fld 0x3 23 22 .rw 0
def ax_SIDE1 : Field := fld 0x3 21 21 .rw 1
def ax_POL1 : Field := fld 0x3 20 20 .rw 0
def ax_DEB1 : Field := fld 0x3 19 12 .rw 0x14
def ax_CONF_SRC : Field := rfld 0x4 35 34 .rw 0 0 2
def ax_CONF_IDX : Field := fld 0x4 33 31 .rw 0
def ax_CONF_TOL : Field := fld 0x4 30 15 .rw 0x10
def ax_CONF_CPM : Field := rfld 0x5 35 0 .rw 0x40000 1 68719476735
def ax_REF_POS : Field := fld 0x6 35 0 .rw 0
def ax_REF_VAL : Field := fld 0x7 35 0 .rw 0

/-! R306 -/
def axst_POS : Field := fld 0x10 35 0 .ro 0
def axst_TARGET : Field := fld 0x11 35 0 .ro 0
def axst_REM : Field := fld 0x12 35 0 .ro 0
def axst_VEL : Field := fld 0x13 35 0 .ro 0
def axst_MSTATE : Field := fld 0x14 35 32 .ro 0
def axst_SSTATE : Field := fld 0x14 31 29 .ro 0
def axst_DIR : Field := fld 0x14 28 28 .ro 0
def axst_POS_OK : Field := fld 0x14 27 27 .ro 0
def axst_HOMED : Field := fld 0x14 26 26 .ro 0
def axst_LIM0 : Field := fld 0x14 25 25 .ro 0
def axst_LIM1 : Field := fld 0x14 24 24 .ro 0
def axst_VCLAMP : Field := fld 0x14 23 23 .ro 0
def axst_UNC_CAUSE : Field := fld 0x14 22 20 .ro 2
def axst_LIM_POS : Field := fld 0x15 35 0 .ro 0
def axst_HOME_CORR : Field := fld 0x16 35 0 .ro 0
def axst_GSTATE : Field := fld 0x17 35 34 .ro 0
def axst_MSRC : Field := fld 0x17 33 32 .ro 0
def axst_MINDEX : Field := fld 0x17 31 28 .ro 0
def axst_RATIO : Field := fld 0x18 35 0 .ro 0
def axst_LAG : Field := fld 0x19 35 0 .ro 0
def axst_HANDOVER : Field := fld 0x1a 35 0 .ro 0
def axst_HOME_TR : Field := fld 0x1b 35 24 .ro 0
def axst_GEAR_TR : Field := fld 0x1b 23 12 .ro 0
def axst_CONF_TR : Field := fld 0x1b 11 0 .ro 0

/-! R309 -/
def pr_VMAX : Field := rfld 0x0 35 0 .rw 0x400000 1 68719476735
def pr_ACC : Field := rfld 0x1 35 0 .rw 0x10000 1 68719476735
def pr_DEC : Field := rfld 0x2 35 0 .rw 0x10000 1 68719476735
def pr_JERK : Field := rfld 0x3 35 0 .rw 0x100 1 68719476735
def pr_JLIM : Field := fld 0x4 35 35 .rw 0
def pr_VSTART : Field := fld 0x4 34 22 .rw 0

/-! R318 -/
def hm_HKIND : Field := rfld 0x0 35 33 .rw 4 0 4
def hm_HDIR : Field := fld 0x0 32 32 .rw 0
def hm_HSW : Field := fld 0x0 31 31 .rw 0
def hm_SPROF : Field := fld 0x0 30 28 .rw 0
def hm_LPROF : Field := fld 0x0 27 25 .rw 1
def hm_HENC : Field := fld 0x0 24 22 .rw 0
def hm_HOME_POS : Field := fld 0x1 35 0 .rw 0
def hm_SEARCH_MAX : Field := rfld 0x2 31 0 .rw 0x100000 1 4294967295
def hm_LATCH_MAX : Field := rfld 0x3 35 18 .rw 0x1000 1 262143
def hm_BACKOFF : Field := fld 0x3 17 0 .rw 0

/-! R336 -/
def dr_CTRL : Field := fld 0x100 35 35 .rw 0
def dr_TSEL : Field := fld 0x100 34 33 .rw 0
def dr_VFS : Field := fld 0x100 32 31 .rw 1
def dr_IRUN : Field := fld 0x101 35 26 .rw 0x200
def dr_IHOLD : Field := fld 0x101 25 16 .rw 0x100
def dr_TOFF : Field := rfld 0x102 35 29 .rw 0x28 2 127
def dr_FAST : Field := rfld 0x102 28 24 .rw 4 0 16
def dr_BLK_BAND : Field := fld 0x102 23 23 .rw 1
def dr_BLK0 : Field := fld 0x102 22 19 .rw 3
def dr_BLK1 : Field := fld 0x102 18 15 .rw 4
def dr_BLK2 : Field := fld 0x102 14 11 .rw 5
def dr_DT : Field := rfld 0x103 35 30 .rw 8 4 63
def dr_ISRC : Field := fld 0x103 29 26 .rw 4
def dr_ISNK : Field := fld 0x103 25 22 .rw 4
def dr_TGATE : Field := rfld 0x103 21 17 .rw 0xa 1 31
def dr_OC_TH : Field := rfld 0x104 35 32 .rw 0xc 9 15
def dr_HS_TH : Field := fld 0x104 31 30 .rw 1
def dr_VDS_TH : Field := rfld 0x104 29 24 .rw 0x14 1 63
def dr_VDS_HS : Field := rfld 0x104 23 18 .rw 0x10 1 63
def dr_REC_DLY : Field := rfld 0x104 17 10 .rw 4 1 255
def dr_OPEN_N : Field := rfld 0x105 35 28 .rw 0x10 1 255
def dr_SENSE_N : Field := rfld 0x105 27 20 .rw 0x10 1 255
def dr_HEAD_N : Field := rfld 0x105 19 12 .rw 0x20 1 255
def dr_OPEN_FR : Field := rfld 0x105 11 8 .rw 4 1 15
def dr_STALL_EN : Field := fld 0x106 35 35 .rw 0
def dr_STALL_TH : Field := rfld 0x106 34 27 .rw 0x40 1 255
def dr_STALL_FS : Field := rfld 0x106 26 19 .rw 4 1 255
def dr_STALL_FMIN : Field := rfld 0x106 18 5 .rw 0xc8 1 16383
def dr_RCOIL : Field := fld 0x107 35 24 .rw 0
def dr_LCOIL : Field := fld 0x107 23 12 .rw 0
def dr_RSHUNT : Field := fld 0x107 11 0 .rw 0
def dr_VRUN : Field := fld 0x108 35 26 .rw 0x200
def dr_VHOLD : Field := fld 0x108 25 16 .rw 0x100
def dr_KFF : Field := fld 0x108 15 8 .rw 0
def dr_VSLEW : Field := rfld 0x108 7 0 .rw 0x20 1 255
def dr_PWM_KHZ : Field := rfld 0x109 35 28 .rw 0x19 5 100
def dr_DEC_A : Field := fld 0x109 27 26 .rw 0
def dr_AFT_A : Field := fld 0x109 25 24 .rw 0
def dr_DEC_B : Field := fld 0x109 23 22 .rw 0
def dr_AFT_B : Field := fld 0x109 21 20 .rw 0
def dr_ILIM_DC : Field := fld 0x109 19 10 .rw 0x3ff

/-! R339 -/
def ust_ODD : Field := fld 0x0 27 18 .rw 0
def ust_EVEN : Field := fld 0x0 9 0 .rw 0

/-! R358 -/
def drst_ANGLE : Field := fld 0x120 35 26 .ro 0
def drst_DAC_A : Field := fld 0x120 25 15 .ro 0
def drst_DAC_B : Field := fld 0x120 14 4 .ro 0
def drst_IMEAS_A : Field := fld 0x121 35 24 .ro 0
def drst_IMEAS_B : Field := fld 0x121 23 12 .ro 0
def drst_VAMP : Field := fld 0x121 9 0 .ro 0
def drst_BSTATE_A : Field := fld 0x122 35 33 .ro 0
def drst_BSTATE_B : Field := fld 0x122 32 30 .ro 0
def drst_FCAUSE_A : Field := fld 0x122 29 26 .ro 0
def drst_FCAUSE_B : Field := fld 0x122 25 22 .ro 0
def drst_HEADROOM_A : Field := fld 0x122 21 21 .ro 0
def drst_HEADROOM_B : Field := fld 0x122 20 20 .ro 0
def drst_STALL_OK : Field := fld 0x122 19 19 .ro 0
def drst_AOFS : Field := fld 0x122 18 9 .ro 0
def drst_LAMBDA : Field := fld 0x123 35 26 .ro 0
def drst_MARGIN_MIN : Field := fld 0x123 25 16 .ro 0
def drst_OFS_A : Field := fld 0x124 35 24 .ro 0
def drst_OFS_B : Field := fld 0x124 23 12 .ro 0
def drst_OC_TR : Field := fld 0x125 35 24 .ro 0
def drst_GATE_TR : Field := fld 0x125 23 12 .ro 0
def drst_DIAG_TR : Field := fld 0x125 11 0 .ro 0
def drst_STALL_TR : Field := fld 0x126 35 24 .ro 0
def drst_OFS_TR : Field := fld 0x126 23 12 .ro 0
def drst_HEAD_CNT : Field := fld 0x126 11 0 .ro 0

/-! R364 -/
def sc_EN : Field := fld 0x0 35 35 .rw 0
def sc_VFS : Field := fld 0x0 34 33 .rw 1
def sc_BLK : Field := fld 0x0 32 29 .rw 3
def sc_OC_TH : Field := rfld 0x0 28 25 .rw 0xc 9 15
def sc_HS_TH : Field := fld 0x0 24 23 .rw 1
def sc_VDS_TH : Field := rfld 0x0 22 17 .rw 0x14 1 63
def sc_VDS_HS : Field := rfld 0x0 16 11 .rw 0x10 1 63
def sc_REC_DLY : Field := rfld 0x0 10 3 .rw 4 1 255
def sc_RSHUNT : Field := fld 0x1 35 24 .rw 0
def sc_RCOLD : Field := fld 0x1 23 12 .rw 0
def sc_REL_I : Field := rfld 0x1 9 0 .rw 0x10 1 1023
def sc_KINK_D : Field := rfld 0x2 35 28 .rw 0x10 1 255
def sc_KAVG : Field := rfld 0x2 27 25 .rw 2 0 4
def sc_CBLANK : Field := fld 0x2 24 17 .rw 0xa
def sc_DIP_I : Field := fld 0x2 16 7 .rw 0x10
def sc_OPEN_T : Field := rfld 0x3 35 28 .rw 5 1 255
def sc_OPEN_I : Field := rfld 0x3 27 18 .rw 8 1 1023
def sc_DPULSE : Field := rfld 0x3 17 10 .rw 0xa 1 255
def sc_DIAG_IMIN : Field := rfld 0x3 9 0 .rw 4 1 1023
def sc_RTH1 : Field := rfld 0x4 35 24 .rw 0x64 1 4095
def sc_RTH2 : Field := rfld 0x4 23 12 .rw 0x12c 1 4095
def sc_TAU1 : Field := rfld 0x5 35 20 .rw 0xc8 10 65535
def sc_TAU2 : Field := rfld 0x5 19 4 .rw 0xbb8 1 65535
def sc_COIL_WARN : Field := fld 0x6 35 28 .rw 0x82
def sc_COIL_MAX : Field := fld 0x6 27 20 .rw 0x9b
def sc_CHYST : Field := rfld 0x6 19 16 .rw 5 1 15
def sc_AMB_EXT : Field := fld 0x6 15 15 .rw 0
def sc_AMB_IDX : Field := fld 0x6 14 12 .rw 0
def sc_THERM_EN : Field := fld 0x6 11 11 .rw 1

/-! R366 -/
def sp_NSEG : Field := fld 0x0 35 33 .rw 0
def sp_MISS : Field := fld 0x0 32 32 .rw 0
def sp_ITGT : Field := fld 0x1 35 26 .rw 0
def sp_PWM_KHZ : Field := fld 0x1 25 19 .rw 0x14
def sp_DECAY : Field := fld 0x1 18 18 .rw 1
def sp_END : Field := fld 0x1 17 16 .rw 0
def sp_DUR_ST : Field := fld 0x1 15 0 .rw 0
def sp_TMAX : Field := fld 0x2 35 12 .rw 0x64

/-! R389 -/
def scst_CSTATE : Field := fld 0x10 35 33 .ro 0
def scst_SEG : Field := fld 0x10 32 30 .ro 0
def scst_PROFILE : Field := fld 0x10 29 27 .ro 0
def scst_FCAUSE : Field := fld 0x10 26 23 .ro 0
def scst_IMEAS : Field := fld 0x10 22 13 .ro 0
def scst_DUTY : Field := fld 0x10 12 3 .ro 0
def scst_CSEG : Field := fld 0x11 35 33 .ro 0
def scst_METHOD : Field := fld 0x11 32 32 .ro 0
def scst_CTIME : Field := fld 0x11 31 8 .ro 0
def scst_CSTAMP : Field := fld 0x12 35 0 .ro 0
def scst_CPHASE : Field := fld 0x13 35 24 .ro 0
def scst_CLOSED_RUN : Field := fld 0x13 23 23 .ro 0
def scst_PENDING : Field := fld 0x13 22 22 .ro 0
def scst_TCOIL : Field := fld 0x14 35 24 .ro 0
def scst_TMEAS : Field := fld 0x14 23 12 .ro 0
def scst_HOT : Field := fld 0x14 11 11 .ro 0
def scst_WARN : Field := fld 0x14 10 10 .ro 0
def scst_THETA1 : Field := fld 0x15 35 18 .ro 0
def scst_THETA2 : Field := fld 0x15 17 0 .ro 0
def scst_OC_TR : Field := fld 0x16 35 24 .ro 0
def scst_DIAG_TR : Field := fld 0x16 23 12 .ro 0
def scst_NOCLOSE : Field := fld 0x16 11 0 .ro 0
def scst_RUNS : Field := fld 0x17 35 12 .ro 0
def scst_TCUT : Field := fld 0x17 11 0 .ro 0
def scst_DRESULT : Field := fld 0x18 35 32 .ro 0
def scst_DSTATE : Field := fld 0x18 31 31 .ro 0
def scst_DNH : Field := fld 0x18 30 22 .ro 0
def scst_DNL : Field := fld 0x18 21 13 .ro 0
def scst_OFS : Field := fld 0x18 12 1 .ro 0
def scst_OFS_CLAMP : Field := fld 0x18 0 0 .ro 0

/-! R394 -/
def enc_EN : Field := fld 0x0 35 35 .rw 0
def enc_DIR_INV : Field := fld 0x0 34 34 .rw 0
def enc_FILT : Field := fld 0x0 33 30 .rw 3
def enc_IMODE : Field := rfld 0x0 29 28 .rw 0 0 2
def enc_IGATE : Field := rfld 0x0 27 24 .rw 0xf 1 15
def enc_IPOL : Field := fld 0x0 23 23 .rw 0
def enc_IDX_VAL : Field := fld 0x1 35 0 .rw 0
def enc_CPR : Field := fld 0x2 31 0 .rw 0
def enc_ARM : Field := fld 0x7 35 35 .wo 0
def enc_ZERO : Field := fld 0x7 34 34 .wo 0
def enc_CLR : Field := fld 0x7 33 33 .wo 0

/-! R395 -/
def encst_CNT : Field := fld 0x8 35 0 .ro 0
def encst_POSN : Field := fld 0x9 35 0 .ro 0
def encst_Q : Field := fld 0xa 35 0 .ro 0
def encst_IDX_CAP : Field := fld 0xb 35 0 .ro 0
def encst_IDX_STAMP : Field := fld 0xc 35 0 .ro 0
def encst_IDX_PH : Field := fld 0xd 35 24 .ro 0
def encst_ARMED : Field := fld 0xd 23 23 .ro 0
def encst_FAULT : Field := fld 0xd 22 22 .ro 0
def encst_FCODE : Field := fld 0xd 21 20 .ro 0
def encst_QERR_TR : Field := fld 0xd 19 8 .ro 0
def encst_BREAKS : Field := fld 0xd 7 0 .ro 0

/-! R401 -/
def ssi_EN : Field := fld 0x0 35 35 .rw 0
def ssi_CDIV : Field := rfld 0x0 34 27 .rw 0x32 10 255
def ssi_NBITS : Field := rfld 0x0 26 21 .rw 0x19 8 36
def ssi_LEAD : Field := fld 0x0 20 19 .rw 0
def ssi_NSTAT : Field := fld 0x0 18 16 .rw 0
def ssi_GRAY : Field := fld 0x0 15 15 .rw 0
def ssi_CHK : Field := fld 0x0 14 13 .rw 0
def ssi_TM : Field := rfld 0x0 12 2 .rw 0xc8 1 2047
def ssi_RATE : Field := fld 0x0 1 0 .rw 0
def ssi_LEADPAT : Field := fld 0x1 35 33 .rw 4
def ssi_SERR : Field := fld 0x1 32 26 .rw 0
def ssi_CRCLEN : Field := fld 0x1 25 22 .rw 6
def ssi_POLY : Field := fld 0x1 21 14 .rw 3
def ssi_CRCINV : Field := fld 0x1 13 13 .rw 0
def ssi_JUMP_MAX : Field := fld 0x2 35 0 .rw 0
def ssi_CLR : Field := fld 0x7 35 35 .wo 0

/-! R402 -/
def ssist_RAW : Field := fld 0x8 35 0 .ro 0
def ssist_Q : Field := fld 0x9 35 0 .ro 0
def ssist_SSTATE : Field := fld 0xa 35 32 .ro 0
def ssist_FCODE : Field := fld 0xa 31 28 .ro 0
def ssist_SSI_TR : Field := fld 0xa 27 16 .ro 0
def ssist_SKIPS : Field := fld 0xa 15 8 .ro 0
def ssist_STATBITS : Field := fld 0xa 7 1 .ro 0
def ssist_RSTAMP : Field := fld 0xb 35 0 .ro 0

/-! R406 -/
def cnt_EN : Field := fld 0x0 35 35 .rw 0
def cnt_EDGE : Field := rfld 0x0 34 33 .rw 0 0 2
def cnt_DEB : Field := fld 0x0 32 25 .rw 0x19
def cnt_COUNT : Field := fld 0x1 35 0 .ro 0
def cnt_LAST : Field := fld 0x2 35 0 .ro 0
def cnt_PERIOD : Field := fld 0x3 35 16 .ro 0
def cnt_LEVEL : Field := fld 0x3 15 15 .ro 0

/-! R407 -/
def prb_EN : Field := fld 0x0 35 35 .rw 0
def prb_EDGE : Field := rfld 0x0 34 33 .rw 0 0 2
def prb_PMODE : Field := fld 0x0 32 32 .rw 0
def prb_FILT : Field := fld 0x0 31 28 .rw 3
def prb_ENCA_EN : Field := fld 0x0 27 27 .rw 0
def prb_ENCA : Field := fld 0x0 26 24 .rw 0
def prb_ENCB_EN : Field := fld 0x0 23 23 .rw 0
def prb_ENCB : Field := fld 0x0 22 20 .rw 0
def prb_AX_EN : Field := fld 0x0 19 19 .rw 0
def prb_AX : Field := rfld 0x0 18 15 .rw 0 0 11
def prb_STOP_EN : Field := fld 0x0 14 14 .rw 0
def prb_SMASK : Field := fld 0x1 13 2 .rw 0
def prb_ARMED : Field := fld 0x2 35 35 .ro 0
def prb_LEVEL : Field := fld 0x2 34 32 .ro 0
def prb_OVF : Field := fld 0x2 31 20 .ro 0
def prb_ARM : Field := fld 0x7 35 35 .wo 0
def prb_DISARM : Field := fld 0x7 34 34 .wo 0
def prb_FLUSH : Field := fld 0x7 33 33 .wo 0
def prb_STAMP : Field := fld 0x8 35 0 .ro 0
def prb_PH : Field := fld 0x9 35 24 .ro 0
def prb_RISE : Field := fld 0x9 23 23 .ro 0
def prb_VA : Field := fld 0x9 22 22 .ro 0
def prb_VB : Field := fld 0x9 21 21 .ro 0
def prb_VX : Field := fld 0x9 20 20 .ro 0
def prb_CNTA : Field := fld 0xa 35 0 .ro 0
def prb_CNTB : Field := fld 0xb 35 0 .ro 0
def prb_POSX : Field := fld 0xc 35 0 .ro 0

/-! R410 -/
def lev_LIM : Field := fld 0x0 23 0 .ro 0
def lev_ENC : Field := fld 0x1 35 12 .ro 0
def lev_PRB : Field := fld 0x2 19 16 .ro 0
def lev_CNT : Field := fld 0x2 15 0 .ro 0

/-! R415 -/
def shk_PB_CEIL : Field := fld 0x1 35 20 .ot 0
def shk_PS_CEIL : Field := fld 0x1 19 4 .ot 0
def shk_PH_CEIL : Field := fld 0x2 35 20 .ot 0
def shk_WIN_CEIL : Field := fld 0x2 19 12 .ot 0
def shk_IREL_CEIL : Field := fld 0x2 11 0 .ot 0
def shk_TONB_CEIL : Field := fld 0x3 35 20 .ot 0
def shk_TONS_CEIL : Field := fld 0x3 19 4 .ot 0
def shk_STB_CEIL : Field := fld 0x4 35 28 .ot 0
def shk_DUTY_CEIL : Field := fld 0x4 27 18 .ot 0
def shk_ESAFE_CEIL : Field := fld 0x4 17 6 .ot 0
def shk_TDISCH_CEIL : Field := fld 0x5 35 24 .ot 0

/-! R416 -/
def grp_P_LIM : Field := rfld 0x0 35 20 .wl 0x3e8 1 65535
def grp_WIN : Field := rfld 0x0 19 12 .wl 0x32 1 255
def grp_E_REL : Field := rfld 0x0 11 0 .wl 0x1f4 1 4095
def grp_TON : Field := rfld 0x1 35 20 .wl 0x64 1 65535
def grp_L_GRP : Field := rfld 0x1 19 4 .wl 0x3e8 1 65535
def grph_STB_SH : Field := rfld 0x1 35 28 .wl 0xc8 1 200
def grph_DUTY_SH : Field := rfld 0x1 27 18 .wl 0x320 1 1000

/-! R423 -/
def grp_E_WIN : Field := fld 0x2 35 16 .ro 0
def grp_TRIPS : Field := fld 0x2 15 8 .ro 0
def grp_CAUSE : Field := fld 0x2 7 4 .ro 0
def grp_FORCED : Field := fld 0x2 3 3 .ro 0
def grp_GREL : Field := fld 0x3 35 35 .wo 0
def grp_ELEM : Field := fld 0x3 34 31 .ro 0

/-! R424 -/
def shk_AX_BRAKE : Field := fld 0x0 35 24 .ot 0
def shk_STOP_DISCH : Field := fld 0x0 23 23 .ot 0

/-! R427 -/
def shk_REL : Field := fld 0x8 35 35 .wo 0
def shk_DISCH : Field := fld 0x8 34 34 .wo 0
def shk_C_M : Field := fld 0x10 35 20 .wl 0
def shk_C_S : Field := fld 0x10 19 4 .wl 0
def shk_E_SAFE : Field := rfld 0x11 35 24 .wl 0x64 1 4095
def shk_T_DISCH : Field := rfld 0x11 23 12 .wl 0xc8 1 4095
def shk_E_M : Field := fld 0x12 35 18 .ro 0
def shk_E_S : Field := fld 0x12 17 0 .ro 0
def shk_T_LAST : Field := fld 0x13 35 24 .ro 0
def shk_DM_ON : Field := fld 0x13 23 23 .ro 0
def shk_DS_ON : Field := fld 0x13 22 22 .ro 0

/-! R436 -/
def die_RAW : Field := fld 0x0 35 24 .ro 0
def die_CHECKED : Field := fld 0x0 23 12 .ro 0
def die_BRK : Field := fld 0x0 11 11 .ro 0
def dsum_NBROKEN : Field := fld 0x6 35 33 .ro 0
def dsum_DBAND : Field := fld 0x6 32 31 .ro 0
def dsum_FAST : Field := fld 0x6 30 30 .ro 0
def dsum_SHUT : Field := fld 0x6 29 29 .ro 0
def dsum_ESCAL : Field := fld 0x6 28 28 .ro 0
def dsum_BRK_TR : Field := fld 0x6 27 16 .ro 0

/-! R438 -/
def dth_WARN_T : Field := fld 0x9 35 28 .ro 0x69
def dth_THROT_T : Field := fld 0x9 27 20 .ro 0x73
def dth_SHUT_T : Field := fld 0x9 19 12 .ro 0x82
def dth_WARN_H : Field := fld 0xa 35 30 .ro 5
def dth_THROT_H : Field := fld 0xa 29 24 .ro 5
def dth_SHUT_H : Field := fld 0xa 23 18 .ro 0x14
def dth_DB1 : Field := fld 0xa 17 10 .ro 0x28
def dth_DB2 : Field := fld 0xa 9 2 .ro 0x5a

/-! R440 -/
def thr_CLK_ACT : Field := fld 0x8 35 34 .rw 1
def thr_SKIP_N : Field := rfld 0x8 33 30 .rw 4 1 12
def thr_ESC : Field := rfld 0x8 29 26 .rw 8 1 15
def thr_DIE_CUT : Field := fld 0x8 25 25 .rw 1
def thr_HSTOP : Field := rfld 0x8 24 19 .rw 0xf 1 63

/-! R443 -/
def hth_RPU0 : Field := rfld 0x0 35 18 .rw 0x2710 1 262143
def hth_RPU1 : Field := rfld 0x0 17 0 .rw 0x2710 1 262143
def hth_T0 : Field := fld 0x1 35 24 .ro 0
def hth_T1 : Field := fld 0x1 23 12 .ro 0
def hth_BRK0 : Field := fld 0x1 11 11 .ro 0
def hth_BRK1 : Field := fld 0x1 10 10 .ro 0
def hth_THEAD : Field := fld 0x2 35 24 .ro 0
def hth_HZONE : Field := fld 0x2 23 22 .ro 0
def hth_HFAST : Field := fld 0x2 21 21 .ro 0

/-! R444 -/
def ntc_EN : Field := fld 0x0 35 35 .rw 0
def ntc_NACT : Field := rfld 0x0 34 33 .rw 0 0 2
def ntc_LIMIT : Field := fld 0x0 32 25 .rw 0x64
def ntc_NHYST : Field := rfld 0x0 24 21 .rw 5 1 15
def ntc_RPU : Field := rfld 0x0 20 3 .rw 0x2710 1 262143
def ntc_RNOM : Field := rfld 0x1 35 18 .rw 0x2710 1 262143
def ntc_BETA : Field := rfld 0x1 17 4 .rw 0xd6b 1 16383
def ntc_LMASK : Field := fld 0x2 18 0 .rw 0
def ntc_TNTC : Field := fld 0x3 35 24 .ro 0
def ntc_HOT : Field := fld 0x3 23 23 .ro 0
def ntc_BRK : Field := fld 0x3 22 22 .ro 0
def ntc_NFAST : Field := fld 0x3 21 21 .ro 0

/-! R448 -/
def sup_NOM : Field := fld 0x0 35 27 .rw 0
def sup_SAG_PCT : Field := rfld 0x0 26 20 .rw 0x55 50 99
def sup_HYST_PCT : Field := rfld 0x0 19 16 .rw 3 1 15
def sup_FILT : Field := rfld 0x0 15 8 .rw 0x64 1 255
def sup_V : Field := fld 0x1 35 27 .ro 0
def sup_SAG : Field := fld 0x1 26 26 .ro 0
def sup_SAGS : Field := fld 0x1 25 14 .ro 0

/-! R451 -/
def vgd_VGD_LOW : Field := fld 0x50 35 35 .ro 0
def vgd_VGD : Field := fld 0x50 34 26 .ro 0
def vgd_VM_LOSTG : Field := fld 0x50 25 22 .ro 0
def vgd_BO_SRC : Field := fld 0x50 21 18 .ro 0

/-! R479 -/
def dev_UID_LO : Field := fld 0x0 35 0 .ot 0
def dev_UID_HI : Field := fld 0x1 35 0 .ot 0
def dev_LOT : Field := fld 0x2 35 20 .ot 0
def dev_WAFER : Field := fld 0x2 19 14 .ot 0
def dev_DIE_X : Field := fld 0x2 13 7 .ot 0
def dev_DIE_Y : Field := fld 0x2 6 0 .ot 0
def dev_TEST_DAY : Field := fld 0x3 35 20 .ot 0
def dev_TEST_PROG : Field := fld 0x3 19 4 .ot 0
def dev_GRADE : Field := fld 0x4 35 34 .ot 0
def dev_OEM : Field := fld 0x8 35 0 .ot 0

/-! R506 -/
def pwr_DSTATE : Field := fld 0x0 35 34 .ro 0
def pwr_REQ : Field := fld 0x0 33 33 .ro 0
def pwr_HELD : Field := fld 0x0 32 32 .ro 0
def pwr_POWERUPS : Field := fld 0x0 31 14 .ro 0
def pwr_KEEP : Field := fld 0x18 35 35 .rw 0
def pwr_IDLE_T : Field := fld 0x18 34 19 .rw 0xa
def pwr_OFF_T : Field := fld 0x18 18 3 .rw 0x32
def pwr_SLEEP_EN : Field := fld 0x20 35 35 .rw 0
def pwr_SLEEP_T : Field := rfld 0x20 34 19 .rw 0x3e8 1 65535
def pwr_OFF_H : Field := fld 0x20 18 7 .rw 0
def pwr_GO_OFF : Field := fld 0x20 6 6 .wo 0
def pwr_WAKE_SRC : Field := fld 0x21 35 32 .ro 0
def pwr_OFF_PEND : Field := fld 0x21 31 31 .ro 0
def pwr_AON_XTAL : Field := fld 0x21 30 30 .ro 0
def pwr_CLK_TR : Field := fld 0x21 29 18 .ro 0
def pwr_SLEEPS : Field := fld 0x21 17 0 .ro 0

/-! R526 -/
def su_CAUSE : Field := fld 0x30 35 32 .ro 0
def su_SUB : Field := fld 0x30 31 28 .ro 0
def su_RET_KEPT : Field := fld 0x30 27 27 .ro 0
def su_IMG : Field := fld 0x30 26 26 .ro 0
def su_FALLBACK : Field := fld 0x30 25 25 .ro 0
def su_BOOT_T : Field := fld 0x31 35 18 .ro 0
def su_RECOV_T : Field := fld 0x31 17 0 .ro 0
def su_RETIRED : Field := fld 0x32 35 30 .ro 0
def su_JOBS : Field := fld 0x33 35 26 .ro 0
def su_LANES : Field := fld 0x33 25 7 .ro 0

/-! R540 -/
def img_OP : Field := fld 0x0 35 33 .wo 0
def img_CLEN : Field := fld 0x0 18 0 .wo 0
def img_PORT : Field := fld 0x1 35 0 .wo 0
def img_TSTATE : Field := fld 0x2 35 32 .ro 0
def img_OWNER : Field := fld 0x2 31 31 .ro 0
def img_RESULT : Field := fld 0x2 30 27 .ro 0
def img_TAKEN : Field := fld 0x2 18 0 .ro 0
def img_VER_A : Field := fld 0x3 35 0 .ro 0
def img_VER_B : Field := fld 0x4 35 0 .ro 0
def img_ST_A : Field := fld 0x5 35 33 .ro 0
def img_ST_B : Field := fld 0x5 32 30 .ro 0
def img_RUN : Field := fld 0x5 29 29 .ro 0
def img_SV_A : Field := fld 0x5 23 12 .ro 0
def img_SV_B : Field := fld 0x5 11 0 .ro 0
def img_SEQ_RUN : Field := fld 0x6 35 0 .ro 0

/-! R543 -/
def key_WRITTEN : Field := fld 0x0 35 35 .ot 0
def key_REVOKED : Field := fld 0x0 34 34 .ot 0
def key_USE : Field := fld 0x0 33 32 .ot 0
def key_KCV : Field := fld 0x0 31 0 .ot 0
def key_USABLE : Field := fld 0x8 35 28 .ro 0
def key_BADKEY : Field := fld 0x8 27 20 .ro 0
def key_CLEARED : Field := fld 0x8 19 19 .ro 0

/-! R544 -/
def otp_KSTAGE : Field := fld 0x0 35 0 .wo 0
def otp_OP : Field := fld 0x8 35 33 .wo 0
def otp_OWORD : Field := fld 0x8 32 26 .wo 0
def otp_SLOT : Field := fld 0x8 25 23 .wo 0
def otp_OUSE : Field := fld 0x8 22 21 .wo 0
def otp_VALUE : Field := fld 0x9 35 0 .wo 0
def otp_OSTATE : Field := fld 0xa 35 33 .ro 0
def otp_FWORD : Field := fld 0xa 32 26 .ro 0
def otp_OTP_TR : Field := fld 0xa 25 14 .ro 0
def otp_RD_TR : Field := fld 0xa 13 2 .ro 0

end F

/-- Fields of R53. -/
def govFields : List Field :=
  [F.gov_K_VH, F.gov_K_VS, F.gov_K_VM, F.gov_K_THERM, F.gov_OVR_RELAX, F.gov_OVR_LINES, F.gov_OVR_STEP,
   F.gov_SAG_HOLD]

/-- Fields of R105. -/
def lstFields : List Field :=
  [F.lst_CRC_ERR, F.lst_FMT_ERR, F.lst_RETX_OK, F.lst_RESYNC, F.lst_FALLBACK, F.lst_STRAY, F.lst_NOISE]

/-- Fields of R121. -/
def pcntFields : List Field :=
  [F.pcnt_CORE0_TR, F.pcnt_CORE1_TR, F.pcnt_SRAM0_TR, F.pcnt_SRAM1_TR, F.pcnt_FLASH0_TR, F.pcnt_FLASH1_TR,
   F.pcnt_FABRIC_TR, F.pcnt_MISSED_ALL]

/-- Fields of R148. -/
def laneFields : List Field :=
  [F.lane_OWNER, F.lane_RA_ACT, F.lane_EPOCH, F.lane_CMD, F.lane_STATE, F.lane_WAIT, F.lane_MASK, F.lane_QUEUED,
   F.lane_HELD]

/-- Fields of R186. -/
def weltFields : List Field :=
  [F.welt_JEPOCH, F.welt_SINGLE, F.welt_RECOV_MODE, F.welt_HEAD_LPOS, F.welt_TAIL_LPOS, F.welt_ERASED,
   F.welt_LIVE_SECT, F.welt_LOAD_1H, F.welt_LOAD_60S, F.welt_LOAD_OVER, F.welt_BURST_OVER, F.welt_OUTSTANDING,
   F.welt_DOUBT, F.welt_ERASE_MAX, F.welt_ERASE_MIN]

/-- Fields of R187. -/
def lookFields : List Field :=
  [F.look_KEY, F.look_BY, F.look_PART, F.look_FROM, F.look_GO, F.look_STATUS, F.look_NREC, F.look_MATCHES,
   F.look_WORDS, F.look_JOBSEQ, F.look_HREF, F.look_JSTATE, F.look_ENDED, F.look_CANCELLED, F.look_OPEN_GATES]

/-- Fields of R193. -/
def dirFields : List Field :=
  [F.dir_STATE, F.dir_KIND, F.dir_PLACE, F.dir_OWNER, F.dir_RESULT, F.dir_GEN, F.dir_SIZE, F.dir_CRC, F.dir_JOBS,
   F.dir_OFFSET0, F.dir_DEPS, F.dir_OFFSET1, F.dir_LABEL, F.dir_OP, F.dir_CKIND, F.dir_CPLACE, F.dir_CSIZE,
   F.dir_PORT]

/-- Fields of R225. -/
def hdFields : List Field :=
  [F.hd_VER, F.hd_DOTS, F.hd_PITCH, F.hd_LANES, F.hd_MAP, F.hd_DIR, F.hd_HSCK_N, F.hd_NBLOCK, F.hd_SLICES,
   F.hd_LAT_W, F.hd_STB_POL, F.hd_LAT_POL, F.hd_CLK_EDGE, F.hd_BSTARTA, F.hd_BSTARTA.plus 1, F.hd_BSTARTA.plus 2,
   F.hd_BSTARTA.plus 3, F.hd_BSTARTA.plus 4, F.hd_BSTARTA.plus 5, F.hd_BSTARTA.plus 6, F.hd_BSTARTA.plus 7,
   F.hd_BSTARTB, F.hd_BSTARTB.plus 1, F.hd_BSTARTB.plus 2, F.hd_BSTARTB.plus 3, F.hd_BSTARTB.plus 4,
   F.hd_BSTARTB.plus 5, F.hd_BSTARTB.plus 6, F.hd_BSTARTB.plus 7, F.hd_STB_MAP_LO, F.hd_STB_MAP_HI, F.hd_RDOT,
   F.hd_TH_FIT, F.hd_TH_NOM, F.hd_TH_BETA, F.hd_LINE_MAX, F.hd_STB_MAX, F.hd_DUTY_MAX, F.hd_VH_MIN, F.hd_VH_MAX,
   F.hd_TMAX, F.hd_VH_SETTLE]

/-- Fields of R240. -/
def hsFields : List Field :=
  [F.hs_MODE, F.hs_MENC, F.hs_ENC_DRIVEN, F.hs_FPROF, F.hs_VWIN, F.hs_PERIOD, F.hs_CPM]

/-- Fields of R246. -/
def hiFields : List Field :=
  [F.hi_NPH, F.hi_FEED, F.hi_FEED.plus 1, F.hi_FEED.plus 2, F.hi_FEED.plus 3]

/-- Fields of R248. -/
def hbFields : List Field :=
  [F.hb_FEED_EN, F.hb_FEED_AX, F.hb_CLK_EN, F.hb_CLK_AX, F.hb_MSA_EN, F.hb_MSA, F.hb_MSB_EN, F.hb_MSB]

/-- Fields of R251. -/
def hstFields : List Field :=
  [F.hst_PSTATE, F.hst_COPY, F.hst_LINE, F.hst_PHASE, F.hst_SLICES, F.hst_LINES, F.hst_LATE, F.hst_LATE_MAX,
   F.hst_MIN_INT, F.hst_VH_TR]

/-- Fields of R252. -/
def hscFields : List Field :=
  [F.hsc_AUTO_MIN, F.hsc_AUTO_APPLY, F.hsc_SCAN_W, F.hsc_ABANDON, F.hsc_SSTATE, F.hsc_SKIND, F.hsc_NEXT,
   F.hsc_RETRIES, F.hsc_STAMP, F.hsc_OPEN, F.hsc_SHORT, F.hsc_HIGH, F.hsc_VH, F.hsc_TEMP, F.hsc_TBAND]

/-- Fields of R260. -/
def enFields : List Field :=
  [F.en_EMAX, F.en_OBOOST, F.en_HTHR, F.en_SPREAD, F.en_HIST_GAP, F.en_VH_LO, F.en_VH_STEP, F.en_TB1, F.en_TB2,
   F.en_TB3, F.en_TB4, F.en_TB5, F.en_TB6, F.en_TB7, F.en_HYST, F.en_FILL_LO, F.en_FILL_HI, F.en_CAP_H,
   F.en_CAP_SAG, F.en_THROT_CUT, F.en_OPEN_R, F.en_HIGH_R, F.en_SHORT_R]

/-- Fields of R263. -/
def tbFields : List Field :=
  [F.tb_TBASE]

/-- Fields of R266. -/
def hfFields : List Field :=
  [F.hf_HF]

/-- Fields of R267. -/
def gsFields : List Field :=
  [F.gs_GS]

/-- Fields of R271. -/
def dotFields : List Field :=
  [F.dot_CLASS, F.dot_TSCALE, F.dot_LOCK, F.dot_TRIM, F.dot_RMEAS]

/-- Fields of R276. -/
def enstFields : List Field :=
  [F.enst_TBAND, F.enst_VSTEP, F.enst_SAGCUT, F.enst_THROT, F.enst_WCLAMP, F.enst_RELOC, F.enst_DROPPED,
   F.enst_SAG_SKIP, F.enst_CLIPPED, F.enst_N_OPEN, F.enst_N_SHORT, F.enst_N_HIGH]

/-- Fields of R280. -/
def v1tFields : List Field :=
  [F.v1t_TBASE]

/-- Fields of R280. -/
def v1hFields : List Field :=
  [F.v1h_HF]

/-- Fields of R284. -/
def msFields : List Field :=
  [F.ms_MODE, F.ms_GAIN, F.ms_LED_I, F.ms_CAL_REQ, F.ms_TARGET, F.ms_TH_HI, F.ms_TH_LO, F.ms_CONTRAST_MIN,
   F.ms_EDGE_MIN, F.ms_OUT_LEN, F.ms_CAL_LEN]

/-- Fields of R285. -/
def msstFields : List Field :=
  [F.msst_LEVEL, F.msst_MSTATE, F.msst_CSTATE, F.msst_EDGE, F.msst_PITCH_M, F.msst_LEN_M, F.msst_CAL_TR,
   F.msst_CAL_FAIL]

/-- Fields of R290. -/
def snsFields : List Field :=
  [F.sns_FUNC, F.sns_POL, F.sns_BRK_EN, F.sns_DEB, F.sns_TAKEN, F.sns_DROP_MAX, F.sns_ACTIVE, F.sns_BROKEN,
   F.sns_PRESENT, F.sns_COUNT, F.sns_LAST]

/-- Fields of R293. -/
def calFields : List Field :=
  [F.cal_TOF, F.cal_COFS, F.cal_XOFS, F.cal_REG_X, F.cal_REG_F, F.cal_FSCALE]

/-- Fields of R296. -/
def clkFields : List Field :=
  [F.clk_CTYPE, F.clk_HOME_SRC, F.clk_HOME_SNS, F.clk_HOME_POL, F.clk_PROF_CUT, F.clk_PROF_RET, F.clk_RECOVER,
   F.clk_FULL_STROKE, F.clk_PART_STROKE, F.clk_LEAVE_MAX, F.clk_RETURN_MAX]

/-- Fields of R297. -/
def clkstFields : List Field :=
  [F.clkst_CSTATE, F.clkst_AT_HOME, F.clkst_SW_BROKEN, F.clkst_JAM_TR, F.clkst_TEND_VALID, F.clkst_CUTS,
   F.clkst_TEND, F.clkst_LAST_CUT]

/-- Fields of R304. -/
def axFields : List Field :=
  [F.ax_KIND, F.ax_DIR_INV, F.ax_STRIDE_MAX, F.ax_EVT_RATE, F.ax_SS_MODE, F.ax_IDLE_ST, F.ax_LAG_MAX,
   F.ax_LIM_DEC, F.ax_ACT0, F.ax_SIDE0, F.ax_POL0, F.ax_DEB0, F.ax_ACT1, F.ax_SIDE1, F.ax_POL1, F.ax_DEB1,
   F.ax_CONF_SRC, F.ax_CONF_IDX, F.ax_CONF_TOL, F.ax_CONF_CPM, F.ax_REF_POS, F.ax_REF_VAL]

/-- Fields of R306. -/
def axstFields : List Field :=
  [F.axst_POS, F.axst_TARGET, F.axst_REM, F.axst_VEL, F.axst_MSTATE, F.axst_SSTATE, F.axst_DIR, F.axst_POS_OK,
   F.axst_HOMED, F.axst_LIM0, F.axst_LIM1, F.axst_VCLAMP, F.axst_UNC_CAUSE, F.axst_LIM_POS, F.axst_HOME_CORR,
   F.axst_GSTATE, F.axst_MSRC, F.axst_MINDEX, F.axst_RATIO, F.axst_LAG, F.axst_HANDOVER, F.axst_HOME_TR,
   F.axst_GEAR_TR, F.axst_CONF_TR]

/-- Fields of R309. -/
def prFields : List Field :=
  [F.pr_VMAX, F.pr_ACC, F.pr_DEC, F.pr_JERK, F.pr_JLIM, F.pr_VSTART]

/-- Fields of R318. -/
def hmFields : List Field :=
  [F.hm_HKIND, F.hm_HDIR, F.hm_HSW, F.hm_SPROF, F.hm_LPROF, F.hm_HENC, F.hm_HOME_POS, F.hm_SEARCH_MAX,
   F.hm_LATCH_MAX, F.hm_BACKOFF]

/-- Fields of R336. -/
def drFields : List Field :=
  [F.dr_CTRL, F.dr_TSEL, F.dr_VFS, F.dr_IRUN, F.dr_IHOLD, F.dr_TOFF, F.dr_FAST, F.dr_BLK_BAND, F.dr_BLK0,
   F.dr_BLK1, F.dr_BLK2, F.dr_DT, F.dr_ISRC, F.dr_ISNK, F.dr_TGATE, F.dr_OC_TH, F.dr_HS_TH, F.dr_VDS_TH,
   F.dr_VDS_HS, F.dr_REC_DLY, F.dr_OPEN_N, F.dr_SENSE_N, F.dr_HEAD_N, F.dr_OPEN_FR, F.dr_STALL_EN, F.dr_STALL_TH,
   F.dr_STALL_FS, F.dr_STALL_FMIN, F.dr_RCOIL, F.dr_LCOIL, F.dr_RSHUNT, F.dr_VRUN, F.dr_VHOLD, F.dr_KFF,
   F.dr_VSLEW, F.dr_PWM_KHZ, F.dr_DEC_A, F.dr_AFT_A, F.dr_DEC_B, F.dr_AFT_B, F.dr_ILIM_DC]

/-- Fields of R339. -/
def ustFields : List Field :=
  [F.ust_ODD, F.ust_EVEN]

/-- Fields of R358. -/
def drstFields : List Field :=
  [F.drst_ANGLE, F.drst_DAC_A, F.drst_DAC_B, F.drst_IMEAS_A, F.drst_IMEAS_B, F.drst_VAMP, F.drst_BSTATE_A,
   F.drst_BSTATE_B, F.drst_FCAUSE_A, F.drst_FCAUSE_B, F.drst_HEADROOM_A, F.drst_HEADROOM_B, F.drst_STALL_OK,
   F.drst_AOFS, F.drst_LAMBDA, F.drst_MARGIN_MIN, F.drst_OFS_A, F.drst_OFS_B, F.drst_OC_TR, F.drst_GATE_TR,
   F.drst_DIAG_TR, F.drst_STALL_TR, F.drst_OFS_TR, F.drst_HEAD_CNT]

/-- Fields of R364. -/
def scFields : List Field :=
  [F.sc_EN, F.sc_VFS, F.sc_BLK, F.sc_OC_TH, F.sc_HS_TH, F.sc_VDS_TH, F.sc_VDS_HS, F.sc_REC_DLY, F.sc_RSHUNT,
   F.sc_RCOLD, F.sc_REL_I, F.sc_KINK_D, F.sc_KAVG, F.sc_CBLANK, F.sc_DIP_I, F.sc_OPEN_T, F.sc_OPEN_I, F.sc_DPULSE,
   F.sc_DIAG_IMIN, F.sc_RTH1, F.sc_RTH2, F.sc_TAU1, F.sc_TAU2, F.sc_COIL_WARN, F.sc_COIL_MAX, F.sc_CHYST,
   F.sc_AMB_EXT, F.sc_AMB_IDX, F.sc_THERM_EN]

/-- Fields of R366. -/
def spFields : List Field :=
  [F.sp_NSEG, F.sp_MISS, F.sp_ITGT, F.sp_ITGT.plus 2, F.sp_ITGT.plus 4, F.sp_ITGT.plus 6, F.sp_ITGT.plus 8,
   F.sp_ITGT.plus 10, F.sp_ITGT.plus 12, F.sp_ITGT.plus 14, F.sp_PWM_KHZ, F.sp_PWM_KHZ.plus 2,
   F.sp_PWM_KHZ.plus 4, F.sp_PWM_KHZ.plus 6, F.sp_PWM_KHZ.plus 8, F.sp_PWM_KHZ.plus 10, F.sp_PWM_KHZ.plus 12,
   F.sp_PWM_KHZ.plus 14, F.sp_DECAY, F.sp_DECAY.plus 2, F.sp_DECAY.plus 4, F.sp_DECAY.plus 6, F.sp_DECAY.plus 8,
   F.sp_DECAY.plus 10, F.sp_DECAY.plus 12, F.sp_DECAY.plus 14, F.sp_END, F.sp_END.plus 2, F.sp_END.plus 4,
   F.sp_END.plus 6, F.sp_END.plus 8, F.sp_END.plus 10, F.sp_END.plus 12, F.sp_END.plus 14, F.sp_DUR_ST,
   F.sp_DUR_ST.plus 2, F.sp_DUR_ST.plus 4, F.sp_DUR_ST.plus 6, F.sp_DUR_ST.plus 8, F.sp_DUR_ST.plus 10,
   F.sp_DUR_ST.plus 12, F.sp_DUR_ST.plus 14, F.sp_TMAX, F.sp_TMAX.plus 2, F.sp_TMAX.plus 4, F.sp_TMAX.plus 6,
   F.sp_TMAX.plus 8, F.sp_TMAX.plus 10, F.sp_TMAX.plus 12, F.sp_TMAX.plus 14]

/-- Fields of R389. -/
def scstFields : List Field :=
  [F.scst_CSTATE, F.scst_SEG, F.scst_PROFILE, F.scst_FCAUSE, F.scst_IMEAS, F.scst_DUTY, F.scst_CSEG,
   F.scst_METHOD, F.scst_CTIME, F.scst_CSTAMP, F.scst_CPHASE, F.scst_CLOSED_RUN, F.scst_PENDING, F.scst_TCOIL,
   F.scst_TMEAS, F.scst_HOT, F.scst_WARN, F.scst_THETA1, F.scst_THETA2, F.scst_OC_TR, F.scst_DIAG_TR,
   F.scst_NOCLOSE, F.scst_RUNS, F.scst_TCUT, F.scst_DRESULT, F.scst_DSTATE, F.scst_DNH, F.scst_DNL, F.scst_OFS,
   F.scst_OFS_CLAMP]

/-- Fields of R394. -/
def encFields : List Field :=
  [F.enc_EN, F.enc_DIR_INV, F.enc_FILT, F.enc_IMODE, F.enc_IGATE, F.enc_IPOL, F.enc_IDX_VAL, F.enc_CPR, F.enc_ARM,
   F.enc_ZERO, F.enc_CLR]

/-- Fields of R395. -/
def encstFields : List Field :=
  [F.encst_CNT, F.encst_POSN, F.encst_Q, F.encst_IDX_CAP, F.encst_IDX_STAMP, F.encst_IDX_PH, F.encst_ARMED,
   F.encst_FAULT, F.encst_FCODE, F.encst_QERR_TR, F.encst_BREAKS]

/-- Fields of R401. -/
def ssiFields : List Field :=
  [F.ssi_EN, F.ssi_CDIV, F.ssi_NBITS, F.ssi_LEAD, F.ssi_NSTAT, F.ssi_GRAY, F.ssi_CHK, F.ssi_TM, F.ssi_RATE,
   F.ssi_LEADPAT, F.ssi_SERR, F.ssi_CRCLEN, F.ssi_POLY, F.ssi_CRCINV, F.ssi_JUMP_MAX, F.ssi_CLR]

/-- Fields of R402. -/
def ssistFields : List Field :=
  [F.ssist_RAW, F.ssist_Q, F.ssist_SSTATE, F.ssist_FCODE, F.ssist_SSI_TR, F.ssist_SKIPS, F.ssist_STATBITS,
   F.ssist_RSTAMP]

/-- Fields of R406. -/
def cntFields : List Field :=
  [F.cnt_EN, F.cnt_EDGE, F.cnt_DEB, F.cnt_COUNT, F.cnt_LAST, F.cnt_PERIOD, F.cnt_LEVEL]

/-- Fields of R407. -/
def prbFields : List Field :=
  [F.prb_EN, F.prb_EDGE, F.prb_PMODE, F.prb_FILT, F.prb_ENCA_EN, F.prb_ENCA, F.prb_ENCB_EN, F.prb_ENCB,
   F.prb_AX_EN, F.prb_AX, F.prb_STOP_EN, F.prb_SMASK, F.prb_ARMED, F.prb_LEVEL, F.prb_OVF, F.prb_ARM,
   F.prb_DISARM, F.prb_FLUSH, F.prb_STAMP, F.prb_PH, F.prb_RISE, F.prb_VA, F.prb_VB, F.prb_VX, F.prb_CNTA,
   F.prb_CNTB, F.prb_POSX]

/-- Fields of R410. -/
def levFields : List Field :=
  [F.lev_LIM, F.lev_ENC, F.lev_PRB, F.lev_CNT]

/-- Fields of R415, R424, R427. -/
def shkFields : List Field :=
  [F.shk_PB_CEIL, F.shk_PS_CEIL, F.shk_PH_CEIL, F.shk_WIN_CEIL, F.shk_IREL_CEIL, F.shk_TONB_CEIL, F.shk_TONS_CEIL,
   F.shk_STB_CEIL, F.shk_DUTY_CEIL, F.shk_ESAFE_CEIL, F.shk_TDISCH_CEIL, F.shk_AX_BRAKE, F.shk_STOP_DISCH,
   F.shk_REL, F.shk_DISCH, F.shk_C_M, F.shk_C_S, F.shk_E_SAFE, F.shk_T_DISCH, F.shk_E_M, F.shk_E_S, F.shk_T_LAST,
   F.shk_DM_ON, F.shk_DS_ON]

/-- Fields of R416, R423. -/
def grpFields : List Field :=
  [F.grp_P_LIM, F.grp_WIN, F.grp_E_REL, F.grp_TON, F.grp_L_GRP, F.grp_E_WIN, F.grp_TRIPS, F.grp_CAUSE,
   F.grp_FORCED, F.grp_GREL, F.grp_ELEM]

/-- Fields of R416. -/
def grphFields : List Field :=
  [F.grph_STB_SH, F.grph_DUTY_SH]

/-- Fields of R436. -/
def dieFields : List Field :=
  [F.die_RAW, F.die_CHECKED, F.die_BRK]

/-- Fields of R436. -/
def dsumFields : List Field :=
  [F.dsum_NBROKEN, F.dsum_DBAND, F.dsum_FAST, F.dsum_SHUT, F.dsum_ESCAL, F.dsum_BRK_TR]

/-- Fields of R438. -/
def dthFields : List Field :=
  [F.dth_WARN_T, F.dth_THROT_T, F.dth_SHUT_T, F.dth_WARN_H, F.dth_THROT_H, F.dth_SHUT_H, F.dth_DB1, F.dth_DB2]

/-- Fields of R440. -/
def thrFields : List Field :=
  [F.thr_CLK_ACT, F.thr_SKIP_N, F.thr_ESC, F.thr_DIE_CUT, F.thr_HSTOP]

/-- Fields of R443. -/
def hthFields : List Field :=
  [F.hth_RPU0, F.hth_RPU1, F.hth_T0, F.hth_T1, F.hth_BRK0, F.hth_BRK1, F.hth_THEAD, F.hth_HZONE, F.hth_HFAST]

/-- Fields of R444. -/
def ntcFields : List Field :=
  [F.ntc_EN, F.ntc_NACT, F.ntc_LIMIT, F.ntc_NHYST, F.ntc_RPU, F.ntc_RNOM, F.ntc_BETA, F.ntc_LMASK, F.ntc_TNTC,
   F.ntc_HOT, F.ntc_BRK, F.ntc_NFAST]

/-- Fields of R448. -/
def supFields : List Field :=
  [F.sup_NOM, F.sup_SAG_PCT, F.sup_HYST_PCT, F.sup_FILT, F.sup_V, F.sup_SAG, F.sup_SAGS]

/-- Fields of R451. -/
def vgdFields : List Field :=
  [F.vgd_VGD_LOW, F.vgd_VGD, F.vgd_VM_LOSTG, F.vgd_BO_SRC]

/-- Fields of R479, its reserved words among them. -/
def devFields : List Field :=
  [F.dev_UID_LO, F.dev_UID_HI, F.dev_LOT, F.dev_WAFER, F.dev_DIE_X, F.dev_DIE_Y, F.dev_TEST_DAY, F.dev_TEST_PROG,
   F.dev_GRADE, F.dev_OEM, F.dev_OEM.plus 1, F.dev_OEM.plus 2, F.dev_OEM.plus 3] ++
  [5, 6, 7, 12, 13, 14, 15].map fun k => fld k 35 0 .ro 0

/-- Fields of R506. -/
def pwrFields : List Field :=
  [F.pwr_DSTATE, F.pwr_DSTATE.plus 1, F.pwr_DSTATE.plus 2, F.pwr_DSTATE.plus 3, F.pwr_DSTATE.plus 4,
   F.pwr_DSTATE.plus 5, F.pwr_DSTATE.plus 6, F.pwr_DSTATE.plus 7, F.pwr_DSTATE.plus 8, F.pwr_DSTATE.plus 9,
   F.pwr_DSTATE.plus 10, F.pwr_DSTATE.plus 11, F.pwr_DSTATE.plus 12, F.pwr_DSTATE.plus 13, F.pwr_DSTATE.plus 14,
   F.pwr_DSTATE.plus 15, F.pwr_REQ, F.pwr_REQ.plus 1, F.pwr_REQ.plus 2, F.pwr_REQ.plus 3, F.pwr_REQ.plus 4,
   F.pwr_REQ.plus 5, F.pwr_REQ.plus 6, F.pwr_REQ.plus 7, F.pwr_REQ.plus 8, F.pwr_REQ.plus 9, F.pwr_REQ.plus 10,
   F.pwr_REQ.plus 11, F.pwr_REQ.plus 12, F.pwr_REQ.plus 13, F.pwr_REQ.plus 14, F.pwr_REQ.plus 15, F.pwr_HELD,
   F.pwr_HELD.plus 1, F.pwr_HELD.plus 2, F.pwr_HELD.plus 3, F.pwr_HELD.plus 4, F.pwr_HELD.plus 5,
   F.pwr_HELD.plus 6, F.pwr_HELD.plus 7, F.pwr_HELD.plus 8, F.pwr_HELD.plus 9, F.pwr_HELD.plus 10,
   F.pwr_HELD.plus 11, F.pwr_HELD.plus 12, F.pwr_HELD.plus 13, F.pwr_HELD.plus 14, F.pwr_HELD.plus 15,
   F.pwr_POWERUPS, F.pwr_POWERUPS.plus 1, F.pwr_POWERUPS.plus 2, F.pwr_POWERUPS.plus 3, F.pwr_POWERUPS.plus 4,
   F.pwr_POWERUPS.plus 5, F.pwr_POWERUPS.plus 6, F.pwr_POWERUPS.plus 7, F.pwr_POWERUPS.plus 8,
   F.pwr_POWERUPS.plus 9, F.pwr_POWERUPS.plus 10, F.pwr_POWERUPS.plus 11, F.pwr_POWERUPS.plus 12,
   F.pwr_POWERUPS.plus 13, F.pwr_POWERUPS.plus 14, F.pwr_POWERUPS.plus 15, F.pwr_KEEP, F.pwr_KEEP.plus 1,
   F.pwr_KEEP.plus 2, F.pwr_KEEP.plus 3, F.pwr_KEEP.plus 4, F.pwr_KEEP.plus 5, F.pwr_KEEP.plus 6,
   F.pwr_KEEP.plus 7, F.pwr_IDLE_T, F.pwr_IDLE_T.plus 1, F.pwr_IDLE_T.plus 2, F.pwr_IDLE_T.plus 3,
   F.pwr_IDLE_T.plus 4, F.pwr_IDLE_T.plus 5, F.pwr_IDLE_T.plus 6, F.pwr_IDLE_T.plus 7, F.pwr_OFF_T,
   F.pwr_OFF_T.plus 1, F.pwr_OFF_T.plus 2, F.pwr_OFF_T.plus 3, F.pwr_OFF_T.plus 4, F.pwr_OFF_T.plus 5,
   F.pwr_OFF_T.plus 6, F.pwr_OFF_T.plus 7, F.pwr_SLEEP_EN, F.pwr_SLEEP_T, F.pwr_OFF_H, F.pwr_GO_OFF,
   F.pwr_WAKE_SRC, F.pwr_OFF_PEND, F.pwr_AON_XTAL, F.pwr_CLK_TR, F.pwr_SLEEPS]

/-- Fields of R526. -/
def suFields : List Field :=
  [F.su_CAUSE, F.su_SUB, F.su_RET_KEPT, F.su_IMG, F.su_FALLBACK, F.su_BOOT_T, F.su_RECOV_T, F.su_RETIRED,
   F.su_JOBS, F.su_LANES]

/-- Fields of R540. -/
def imgFields : List Field :=
  [F.img_OP, F.img_CLEN, F.img_PORT, F.img_TSTATE, F.img_OWNER, F.img_RESULT, F.img_TAKEN, F.img_VER_A,
   F.img_VER_B, F.img_ST_A, F.img_ST_B, F.img_RUN, F.img_SV_A, F.img_SV_B, F.img_SEQ_RUN]

/-- Fields of R543. -/
def keyFields : List Field :=
  [F.key_WRITTEN, F.key_WRITTEN.plus 1, F.key_WRITTEN.plus 2, F.key_WRITTEN.plus 3, F.key_WRITTEN.plus 4,
   F.key_WRITTEN.plus 5, F.key_WRITTEN.plus 6, F.key_WRITTEN.plus 7, F.key_REVOKED, F.key_REVOKED.plus 1,
   F.key_REVOKED.plus 2, F.key_REVOKED.plus 3, F.key_REVOKED.plus 4, F.key_REVOKED.plus 5, F.key_REVOKED.plus 6,
   F.key_REVOKED.plus 7, F.key_USE, F.key_USE.plus 1, F.key_USE.plus 2, F.key_USE.plus 3, F.key_USE.plus 4,
   F.key_USE.plus 5, F.key_USE.plus 6, F.key_USE.plus 7, F.key_KCV, F.key_KCV.plus 1, F.key_KCV.plus 2,
   F.key_KCV.plus 3, F.key_KCV.plus 4, F.key_KCV.plus 5, F.key_KCV.plus 6, F.key_KCV.plus 7, F.key_USABLE,
   F.key_BADKEY, F.key_CLEARED]

/-- Fields of R544. -/
def otpFields : List Field :=
  [F.otp_KSTAGE, F.otp_KSTAGE.plus 1, F.otp_KSTAGE.plus 2, F.otp_KSTAGE.plus 3, F.otp_KSTAGE.plus 4,
   F.otp_KSTAGE.plus 5, F.otp_KSTAGE.plus 6, F.otp_KSTAGE.plus 7, F.otp_OP, F.otp_OWORD, F.otp_SLOT, F.otp_OUSE,
   F.otp_VALUE, F.otp_OSTATE, F.otp_FWORD, F.otp_OTP_TR, F.otp_RD_TR]

/-- S(i) = round(1023 × sin((i + 0.5)/256 × 90°)), i = 0..255 (R339). -/
def sineTable : List Nat :=
  [3, 9, 16, 22, 28, 35, 41, 47, 53, 60, 66, 72, 78, 85, 91, 97,
   103, 110, 116, 122, 128, 135, 141, 147, 153, 159, 166, 172, 178, 184, 190, 196,
   203, 209, 215, 221, 227, 233, 239, 246, 252, 258, 264, 270, 276, 282, 288, 294,
   300, 306, 312, 318, 324, 330, 336, 342, 348, 353, 359, 365, 371, 377, 383, 389] ++
  [394, 400, 406, 412, 417, 423, 429, 435, 440, 446, 452, 457, 463, 468, 474, 479,
   485, 491, 496, 502, 507, 512, 518, 523, 529, 534, 539, 545, 550, 555, 560, 566,
   571, 576, 581, 586, 592, 597, 602, 607, 612, 617, 622, 627, 632, 637, 642, 647,
   651, 656, 661, 666, 671, 675, 680, 685, 689, 694, 699, 703, 708, 712, 717, 721] ++
  [726, 730, 734, 739, 743, 747, 752, 756, 760, 764, 768, 773, 777, 781, 785, 789,
   793, 797, 801, 805, 808, 812, 816, 820, 824, 827, 831, 835, 838, 842, 845, 849,
   852, 856, 859, 863, 866, 869, 873, 876, 879, 882, 885, 889, 892, 895, 898, 901,
   904, 907, 909, 912, 915, 918, 921, 923, 926, 929, 931, 934, 937, 939, 941, 944] ++
  [946, 949, 951, 953, 956, 958, 960, 962, 964, 966, 968, 970, 972, 974, 976, 978,
   980, 982, 983, 985, 987, 988, 990, 992, 993, 995, 996, 997, 999, 1000, 1001, 1003,
   1004, 1005, 1006, 1007, 1008, 1010, 1011, 1011, 1012, 1013, 1014, 1015, 1016, 1016, 1017, 1018,
   1018, 1019, 1019, 1020, 1020, 1021, 1021, 1022, 1022, 1022, 1022, 1023, 1023, 1023, 1023, 1023]

/-- The reset gray scale table (R267). -/
def grayTable : List Nat := [0, 137, 273, 410, 546, 683, 819, 956, 1092, 1229, 1365, 1502, 1638, 1775, 1911, 2048]

/-- The objects of table space (R107), with the index of each among its like. -/
inductive Obj where
  | dev | gov | lst (p : Nat) | pcnt | lane (i : Nat) | pwr | su | welt | look (p : Nat) | lookWin (p i : Nat)
  | gateList (e w : Nat) | pinCode (w : Nat) | img | key | otp | dir (e : Nat) | head (x : Nat) | tb (x i : Nat)
  | hf (x i : Nat) | gs (x i : Nat) | v1t (x i : Nat) | v1h (x i : Nat) | dot (x d : Nat) | ax (n : Nat)
  | pr (n p : Nat) | hm (n m : Nat) | ust (i : Nat) | sol (c : Nat) | sp (c p : Nat) | shk | grp (g : Nat)
  | die (i : Nat) | dsum | therm | hth (x : Nat) | ntc (k : Nat) | sup (m : Nat) | vgd | enc (n : Nat) | ssi (p : Nat)
  | cnt (c : Nat) | prb (r : Nat) | lev | ms (n : Nat) | sns (n : Nat) | path (x : Nat) | asset (b w : Nat)
  deriving DecidableEq, Repr, Inhabited

/-- Fields of each object (R108: a word without a field is unmapped). -/
def Obj.fields : Obj → List Field
  | .dev => devFields
  | .gov => govFields
  | .lst _ => lstFields
  | .pcnt => pcntFields
  | .lane _ => laneFields
  | .pwr => pwrFields
  | .su => suFields
  | .welt => weltFields
  | .look _ => lookFields
  | .lookWin _ _ => [fld 0 35 0 .ro 0]
  | .gateList _ _ => [fld 0 35 0 .ro 0]
  | .pinCode _ => [fld 0 35 0 .ro 0]
  | .img => imgFields
  | .key => keyFields
  | .otp => otpFields
  | .dir _ => dirFields
  | .head _ => hdFields ++ (hdFields.map fun f => { f with off := f.off + 0x20, acc := .ro }) ++ hbFields ++ hsFields ++ hiFields ++ hstFields ++ hscFields ++ enFields ++
    ((List.range 16).map F.en_CAP_B.plus) ++ enstFields
  | .tb _ _ => tbFields
  | .hf _ _ => hfFields
  | .gs _ i => if i = 0 then [fld 0 11 0 .ro 0] else gsFields
  | .v1t _ _ => v1tFields
  | .v1h _ _ => v1hFields
  | .dot _ _ => dotFields
  | .ax _ => axFields ++ axstFields ++ drFields ++ drstFields
  | .pr _ _ => prFields
  | .hm _ _ => hmFields
  | .ust _ => ustFields
  | .sol _ => scFields ++ scstFields
  | .sp _ _ => spFields
  | .shk => shkFields
  | .grp g => if 56 ≤ g then grpFields.filter (fun f => f.off ≠ 1 && f != F.grp_E_REL) ++ grphFields else grpFields
  | .die _ => dieFields
  | .dsum => dsumFields.map (fun f => { f with off := 0 })
  | .therm => thrFields ++ dthFields
  | .hth _ => hthFields
  | .ntc _ => ntcFields
  | .sup _ => supFields
  | .vgd => vgdFields.map (fun f => { f with off := 0 })
  | .enc _ => encFields ++ encstFields
  | .ssi _ => ssiFields ++ ssistFields
  | .cnt _ => cntFields
  | .prb _ => prbFields
  | .lev => levFields.map (fun f => { f with off := f.off % 4 })
  | .ms _ => msFields ++ msstFields
  | .sns _ => snsFields
  | .path x =>
    (calFields.map fun f => if x = 0 && (f = F.cal_REG_X || f = F.cal_REG_F) then { f with acc := .ro } else f) ++ clkFields ++ clkstFields
  | .asset _ _ => [fld 0 35 0 .ro 0]

/-- The first address of an object; word `off` of the object lies `off` further on. -/
def Obj.base : Obj → Nat
  | .dev => 0
  | .gov => 0x100
  | .lst p => 0x200 + 0x10 * p
  | .pcnt => 0x300
  | .lane i => 0x400 + 4 * i
  | .pwr => 0x1000
  | .su => 0x1000
  | .welt => 0x2000
  | .look p => 0x2100 + 0x10 * p
  | .lookWin p i => 0x2800 + 0x800 * p + i
  | .gateList e w => 0x3800 + 4 * e + w
  | .pinCode w => 0x4000 + w
  | .img => 0x40A0
  | .key => 0x40C0
  | .otp => 0x40D0
  | .dir e => 0x100000 + 8 * e
  | .head x => 0x10000 * (x + 1)
  | .tb x i => 0x10000 * (x + 1) + 0x180 + i
  | .hf x i => 0x10000 * (x + 1) + 0x140 + i
  | .gs x i => 0x10000 * (x + 1) + 0x120 + i
  | .v1t x i => 0x10000 * (x + 1) + 0x400 + i
  | .v1h x i => 0x10000 * (x + 1) + 0x420 + i
  | .dot x d => 0x10000 * (x + 1) + 0x1000 + d
  | .ax n => 0x40000 + 0x400 * n
  | .pr n p => 0x40000 + 0x400 * n + 0x40 + 8 * p
  | .hm n m => 0x40000 + 0x400 * n + 0x80 + 4 * m
  | .ust i => 0x40200 + i
  | .sol c => 0x80000 + 0x100 * c
  | .sp c p => 0x80000 + 0x100 * c + 0x20 + 0x18 * p
  | .shk => 0xC0000
  | .grp g => 0xC0100 + 4 * g
  | .die i => 0xD0000 + i
  | .dsum => 0xD0006
  | .therm => 0xD0000
  | .hth x => 0xD0010 + 8 * x
  | .ntc k => 0xD0020 + 4 * k
  | .sup m => 0xD0040 + 4 * m
  | .vgd => 0xD0050
  | .enc n => 0xE0000 + 0x10 * n
  | .ssi p => 0xE0100 + 0x10 * p
  | .cnt c => 0xE0200 + 4 * c
  | .prb r => 0xE0300 + 0x10 * r
  | .lev => 0xE0400
  | .ms n => 0xE0800 + 0x10 * n
  | .sns n => 0xE0900 + 4 * n
  | .path x => 0xE0A00 + 0x20 * x
  | .asset b w => 0x400000 + 0x100000 * b + w

/-- The part of a head region an offset lies in (R224, R259). -/
def headPart (x o : Nat) : Option (Obj × Nat) :=
  if o < 0x118 then some (.head x, o)
  else if o < 0x120 then none
  else if o < 0x130 then some (.gs x (o - 0x120), 0)
  else if o < 0x140 then none
  else if o < 0x180 then some (.hf x (o - 0x140), 0)
  else if o < 0x200 then some (.tb x (o - 0x180), 0)
  else if 0x300 ≤ o ∧ o < 0x306 then some (.head x, o)
  else if 0x400 ≤ o ∧ o < 0x420 then some (.v1t x (o - 0x400), 0)
  else if 0x420 ≤ o ∧ o < 0x430 then some (.v1h x (o - 0x420), 0)
  else if 0x1000 ≤ o ∧ o < 0x2800 then some (.dot x (o - 0x1000), 0)
  else none

/-- The part of an axis region an offset lies in (R303, R335); the microstep tables are shared by all axes (R339). -/
def axisPart (n o : Nat) : Option (Obj × Nat) :=
  if o < 0x40 then some (.ax n, o)
  else if o < 0x80 then some (.pr n ((o - 0x40) / 8), (o - 0x40) % 8)
  else if o < 0xA0 then some (.hm n ((o - 0x80) / 4), (o - 0x80) % 4)
  else if o < 0x100 then none
  else if o < 0x200 then some (.ax n, o)
  else some (.ust (o - 0x200), 0)

/-- The object and word offset an address names, whether or not the object defines that word (R107). -/
def region (a : Nat) : Option (Obj × Nat) :=
  if a < 0x10 then some (.dev, a)
  else if 0x100 ≤ a ∧ a < 0x104 then some (.gov, a - 0x100)
  else if 0x200 ≤ a ∧ a < 0x220 then some (.lst ((a - 0x200) / 16), a % 16)
  else if 0x300 ≤ a ∧ a < 0x308 then some (.pcnt, a - 0x300)
  else if 0x400 ≤ a ∧ a < 0x44C then some (.lane ((a - 0x400) / 4), a % 4)
  else if 0x1000 ≤ a ∧ a < 0x1030 then some (.pwr, a - 0x1000)
  else if 0x1030 ≤ a ∧ a < 0x1100 then some (.su, a - 0x1000)
  else if 0x2000 ≤ a ∧ a < 0x2008 then some (.welt, a - 0x2000)
  else if 0x2100 ≤ a ∧ a < 0x2120 then some (.look ((a - 0x2100) / 16), a % 16)
  else if 0x2800 ≤ a ∧ a < 0x3800 then some (.lookWin ((a - 0x2800) / 0x800) ((a - 0x2800) % 0x800), 0)
  else if 0x3800 ≤ a ∧ a < 0x3900 then some (.gateList ((a - 0x3800) / 4) (a % 4), 0)
  else if 0x4000 ≤ a ∧ a < 0x4081 then some (.pinCode (a - 0x4000), 0)
  else if 0x40A0 ≤ a ∧ a < 0x40A7 then some (.img, a - 0x40A0)
  else if 0x40C0 ≤ a ∧ a < 0x40C9 then some (.key, a - 0x40C0)
  else if 0x40D0 ≤ a ∧ a < 0x40DB then some (.otp, a - 0x40D0)
  else if 0x10000 ≤ a ∧ a < 0x30000 then headPart (a / 0x10000 - 1) (a % 0x10000)
  else if 0x40000 ≤ a ∧ a < 0x43000 then axisPart ((a - 0x40000) / 0x400) ((a - 0x40000) % 0x400)
  else if 0x80000 ≤ a ∧ a < 0x82000 then
    if (a % 0x100) < 0x20 then some (.sol ((a - 0x80000) / 0x100), a % 0x100)
    else if (a % 0x100) < 0xE0 then
      some (.sp ((a - 0x80000) / 0x100) ((a % 0x100 - 0x20) / 0x18), (a % 0x100 - 0x20) % 0x18)
    else none
  else if 0xC0000 ≤ a ∧ a < 0xC0100 then some (.shk, a - 0xC0000)
  else if 0xC0100 ≤ a ∧ a < 0xC01E8 then some (.grp ((a - 0xC0100) / 4), a % 4)
  else if 0xD0000 ≤ a ∧ a < 0xD0006 then some (.die (a - 0xD0000), 0)
  else if a = 0xD0006 then some (.dsum, 0)
  else if 0xD0008 ≤ a ∧ a < 0xD000B then some (.therm, a - 0xD0000)
  else if 0xD0010 ≤ a ∧ a < 0xD0020 then some (.hth ((a - 0xD0010) / 8), a % 8)
  else if 0xD0020 ≤ a ∧ a < 0xD0040 then some (.ntc ((a - 0xD0020) / 4), a % 4)
  else if 0xD0040 ≤ a ∧ a < 0xD0050 then some (.sup ((a - 0xD0040) / 4), a % 4)
  else if a = 0xD0050 then some (.vgd, 0)
  else if 0xE0000 ≤ a ∧ a < 0xE0080 then some (.enc ((a - 0xE0000) / 16), a % 16)
  else if 0xE0100 ≤ a ∧ a < 0xE0120 then some (.ssi ((a - 0xE0100) / 16), a % 16)
  else if 0xE0200 ≤ a ∧ a < 0xE0240 then some (.cnt ((a - 0xE0200) / 4), a % 4)
  else if 0xE0300 ≤ a ∧ a < 0xE0340 then some (.prb ((a - 0xE0300) / 16), a % 16)
  else if 0xE0400 ≤ a ∧ a < 0xE0403 then some (.lev, a - 0xE0400)
  else if 0xE0800 ≤ a ∧ a < 0xE0840 then some (.ms ((a - 0xE0800) / 16), a % 16)
  else if 0xE0900 ≤ a ∧ a < 0xE0920 then some (.sns ((a - 0xE0900) / 4), a % 4)
  else if 0xE0A00 ≤ a ∧ a < 0xE0A40 then some (.path ((a - 0xE0A00) / 32), a % 32)
  else if 0x100000 ≤ a ∧ a < 0x108000 then some (.dir ((a - 0x100000) / 8), a % 8)
  else if 0x400000 ≤ a ∧ a < 0x4F8000 then some (.asset 0 (a - 0x400000), 0)
  else if 0x500000 ≤ a ∧ a < 0x5F8000 then some (.asset 1 (a - 0x500000), 0)
  else none

/-- The fields of one word; empty where the address is unmapped (R108). -/
def wordFields (a : Nat) : List Field :=
  match region a with
  | some (o, k) => o.fields.filter (fun f => f.off = k)
  | none => []

/-- Whether the address is mapped (R108). -/
def mapped (a : Nat) : Bool := !(wordFields a).isEmpty

/-- The bits of a word the window can store: its RW and WL fields; the written head descriptor holds every bit (R13). -/
def storedMask (a : Nat) : Word :=
  if (0x10000 ≤ a ∧ a < 0x10010) ∨ (0x20000 ≤ a ∧ a < 0x20010) then BitVec.allOnes 36
  else (wordFields a).foldl (fun m f => if f.acc = .rw ∨ f.acc = .wl then m ||| f.mask else m) 0

/-- Reset values that depend on the index of the object (R246, R267, R339, R416, R448). -/
def resetOf (a : Nat) (f : Field) : Nat :=
  match region a with
  | some (.gs _ i, _) => grayTable.getD i 0
  | some (.ust i, _) => if f.lo = 0 then sineTable.getD (2 * (i % 128)) 0 else sineTable.getD (2 * (i % 128) + 1) 0
  | some (.head _, 0x15) => 0x400000
  | some (.grp g, 1) => if f = F.grp_TON ∧ 24 ≤ g then 10000 else f.rst
  | some (.sup m, 0) => if f = F.sup_FILT ∧ 2 ≤ m then 20 else f.rst
  | _ => f.rst

/-- The word an address holds where nothing has been stored: the reset values of its stored fields (R14). -/
def resetWord (a : Nat) : Word :=
  (wordFields a).foldl (fun w f => if f.acc = .rw ∨ f.acc = .wl then w ||| f.put (resetOf a f) else w) 0

/-- Words of 0x01_0000..0x0B_FFFF and 0x0D_0000..0x0E_0FFF that hold configuration are shadowed (R113), but for the
scan control word of R252; command words hold no configuration. -/
def shadowed (a : Nat) : Bool :=
  ((0x10000 ≤ a && a < 0xC0000) || (0xD0000 ≤ a && a < 0xE1000)) && storedMask a != 0 &&
    !(a == 0x10040 || a == 0x20040)

end Sys2Proof.Machine
end

