-- ==== Sys2Proof/Machine/TypesCore.lean ====
section
/-!
DEFINITION. The shared parts of the state that belong to no single engine: the event queue, the jobs, the welt, the
device status, the table store; with the value of each after reset.
-/

namespace Sys2Proof.Machine

/-- The event queue (R124, R125): entries in order of detection, and the held-back store of core 0. -/
structure EventQ where
  entries : List Event
  store : List Event
  nextId : Nat
  /-- Releases and decisions are paused because the store reached 2048 (R125). -/
  paused : Bool
  deriving DecidableEq, Repr, Inhabited

/-- Jobs and their decisions (R138..R155, R166). -/
structure Jobs where
  table : List Job
  /-- Jobs that are DONE, newest first, each with HEAD_LPOS when it became DONE (R190). -/
  history : List (Job × Word)
  lastSeq : Word
  /-- The number last assigned to a job (R144): that of the newest JOB entry written or waiting. -/
  decided : Word
  batch : List BatchItem
  /-- The 0.5 ms pacing after a decision is running (R166). -/
  pacing : Bool
  /-- Records on lane 31 of accepted jobs that have not acted, in order (R152). -/
  ctrl : List QItem
  /-- Timeouts that run, of fences, RE_ADMITs and released records: job, record index, end in phase units since reset (R143). -/
  deadlines : List (Word × Nat × Nat)
  brokenCount : BitVec 8
  /-- Stop masks written and not yet in effect (R150). -/
  stops : List (Nat × Nat)
  deriving DecidableEq, Repr, Inhabited

/-- One port's lookup block and data window (R187). -/
structure Lookup where
  key : Word
  byCode : Nat
  part : Nat
  start : Nat
  status : Nat
  nrec : Nat
  matches' : Nat
  jobseq : Word
  href : Word
  jstate : Nat
  ended : Nat
  cancelled : Nat
  openGates : Nat
  window : List Word
  deriving DecidableEq, Repr, Inhabited

/-- The welt (R157..R191). -/
structure Welt where
  /-- Entries from TAIL_LPOS to the head, in LPOS order. -/
  log : List Entry
  head : Word
  tail : Word
  jepoch : BitVec 12
  /-- RECOVERY has ended: the RO fields of R186 are shown. -/
  ready : Bool
  wq : List WriteReq
  marks : List Mark
  gates : Vector (Option Gate) 64
  armseq : Word
  /-- Data words programmed into each bank's pool in the current second, and in the seconds before it, newest first (R189). -/
  load : Vector (List Nat) 2
  loadOver : Bool
  burstOver : Bool
  lookups : Vector Lookup 2
  deriving DecidableEq, Repr, Inhabited

/-- DEV_STAT.STATE (R120). -/
inductive DevState where
  | boot | recovery | ready | safe
  deriving DecidableEq, Repr, Inhabited

/-- A job core (R34). -/
inductive CoreState where
  | running | restarting | probation | retired
  deriving DecidableEq, Repr, Inhabited

/-- Device status, part faults and the direct registers that belong to no engine (R34..R40, R97, R120, R121, R136). -/
structure Dev where
  st : DevState
  cores : Vector CoreState 2
  sramRet : Vector Bool 2
  /-- True time of the last uncorrectable error of each SRAM bank, in 5 ns (R34). -/
  sramErr : Vector (Option Nat) 2
  flashRet : Vector Bool 2
  secondPart : Bool
  jdf : Bool
  transient : Bool
  missed : Nat
  coreTr : Vector Word 2
  sramTr : Vector Word 2
  flashTr : Vector Word 2
  fabricTr : Word
  missedAll : Word
  scratch : Word
  host1First : Bool
  classMask : BitVec 16
  linkPend : Bool
  evtPend : Bool
  emergPend : Bool
  deriving DecidableEq, Repr, Inhabited

/-- Words of table space that differ from their reset words: addresses strictly rising (R107, R113). -/
abbrev Store := List (Nat × Word)

/-- Shadow copies and values in force (R113), the stored settings image (R473). -/
structure Tables where
  shadow : Store
  force : Store
  /-- Addresses whose WL fields have had their first write (R12). -/
  wlDone : List (Nat × Nat)
  /-- Words of adopted commits that act at the next stitch boundary (R20): address and value. -/
  due : Store
  deriving DecidableEq, Repr, Inhabited

/-! ### Values after reset -/

def Stitch.reset : Stitch where
  n := 0
  phase := 0
  x := 0x10000
  xNext := 0x10000
  period := 0x1000
  newPeriod := none
  kMax := 0x400
  slew := 4
  ovrEn := true
  thermEn := true
  sagEn := true
  kHost := 0x100
  ovrSeen := false
  atMax := false
  atMaxEpisode := false
  ovrReq := 0x100
  ovrSince := ⟨0, false⟩
  holdVM := none
  holdVS := none
  holdVH := none
  govHold := 0x800
  govRelax := 0x1000
  govLines := 0x20
  govStep := 0x10
  running := true
  time := 0

def Assembler.reset : Assembler := ⟨false, 0, [], 0, false, 0⟩

def Port.reset : Port where
  rev := 0
  st := .hunt
  div := 40
  maxlen := 32
  window := 1
  everUp := false
  upSinceReset := false
  nextRx := 0
  eNextRx := 0
  nextTx := 0
  eNextTx := 0
  unacked := []
  eUnacked := []
  txq := []
  eTxq := []
  wire := []
  held := []
  upOnAck := false
  newDiv := none
  buckets := [0]
  errSince := false
  eErrSince := false
  discarded := 0
  eDiscarded := 0
  syncSent := 0
  cts := true
  rts := true
  fallen := false
  errLimit := 0x20
  errWin := 0x0A
  evtStream := false
  fellBack := false
  resynced := false
  noiseSeen := false
  crcErr := 0
  fmtErr := 0
  retxOk := 0
  resync := 0
  fallbacks := 0
  stray := 0
  noise := 0
  tblAddr := 0
  autoinc := true
  noteCode := 0
  noteTbl := false
  refusedBit := false
  notedBit := false
  noteIdx := 0
  noteSeq := 0
  pend := []
  classEn := 0x7FFE
  lost := 0
  popArgs := []
  asm := Assembler.reset
  jobStat := ⟨0, 0, 0⟩
  deferred := []
  ownRsp := []
  fbPend := none
  rxFifo := []
  rxRing := []
  rxLost := false
  rdata := 0
  frameSeq := 0
  opIdx := 0

def Lane.reset : Lane where
  owner := 0
  epoch := 0
  state := .idle
  wait := .none
  queue := []
  running := none
  tail := []
  relStitch := 0
  stopStitch := 0
  stopping := false
  stopTo := .stopped
  stopCause := 1
  ckptWait := none
  raStep := 0
  raRec := none
  pathStop := false
  after := .idle
  settledStop := false

def EventQ.reset : EventQ := ⟨[], [], 0, false⟩

def Jobs.reset : Jobs where
  table := []
  history := []
  lastSeq := 0
  decided := 0
  batch := []
  pacing := false
  ctrl := []
  deadlines := []
  brokenCount := 0
  stops := []

def Lookup.reset : Lookup := ⟨0, 0, 0, 0, 0, 0, 0, 0, 0, 0, 0, 0, 0, []⟩

def Welt.reset : Welt where
  log := []
  head := 0
  tail := 0
  jepoch := 0
  ready := false
  wq := []
  marks := []
  gates := Vector.replicate 64 none
  armseq := 0
  load := Vector.replicate 2 [0]
  loadOver := false
  burstOver := false
  lookups := Vector.replicate 2 Lookup.reset

def Dev.reset : Dev where
  st := .boot
  cores := Vector.replicate 2 .running
  sramRet := Vector.replicate 2 false
  sramErr := Vector.replicate 2 none
  flashRet := Vector.replicate 2 false
  secondPart := false
  jdf := false
  transient := false
  missed := 0
  coreTr := Vector.replicate 2 0
  sramTr := Vector.replicate 2 0
  flashTr := Vector.replicate 2 0
  fabricTr := 0
  missedAll := 0
  scratch := 0
  host1First := false
  classMask := 0
  linkPend := false
  evtPend := false
  emergPend := false

def Tables.reset : Tables := ⟨[], [], [], []⟩

end Sys2Proof.Machine
end

