-- ==== Sys2Proof/Machine/TypesFlash.lean ====
section
/-!
DEFINITION. Plain data of the flash controller (R454..R474): erases, bad sectors, wear, the scrubber, the settings.
-/

namespace Sys2Proof.Machine

/-- One bank. -/
structure Bank where
  /-- Sectors to be erased, the one in progress first (R455, R457). -/
  eraseQ : List Nat
  slices : Nat
  /-- The erase in progress is the second attempt of R464. -/
  eraseTwo : Bool
  susp : Bool
  /-- Erase counts of sectors erased at least once (R157, R471). -/
  erases : List (Nat × Nat)
  /-- Sectors that have raised WEAR_WARN. -/
  worn : List Nat
  bad : List Nat
  /-- Sectors to be entered in the bad-sector table once the data being written has committed (R466). -/
  badNext : List Nat
  /-- Sectors being rewritten in place: their rewrite markers in the settings region (R470). -/
  rewrite : List Nat
  /-- Sector of the settings region in which the log of records goes on (R472). -/
  setAt : Nat
  /-- The last lasting fault: its sector and the true time of it (R466). -/
  lastFault : Option (Nat × Nat)
  /-- The word program in progress is in its repeat pulse (R464). -/
  again : Bool
  /-- Words of the welt entry being written that are programmed and verified in this bank (R159, R465). -/
  done : Nat
  /-- Pool sector the head is in; pool sectors erased ahead of it, in order; sectors used behind it with their FIRST,
  oldest first. -/
  at_ : Nat
  /-- LPOS of the first data word of that sector (R157). -/
  first : Word
  ahead : List Nat
  used : List (Nat × Word)
  /-- Sectors reported correctable / uncorrectable in this scrub pass (R468). -/
  corrSeen : List Nat
  uncorrSeen : List Nat
  deriving DecidableEq, Repr, Inhabited

/-- The controller, the scrubber and the settings region. -/
structure FlashCtl where
  banks : Vector Bank 2
  scrubEn : Bool
  scrubH : Nat
  /-- A pass runs; it was started by SCRUB_NOW; sector it has come to. -/
  pass : Bool
  fast : Bool
  sector : Nat
  wearWarn : Bool
  corr : Bool
  uncorr : Bool
  progFault : Bool
  /-- WEAR0 and WEAR1, set at start-up (R133). -/
  wear0 : Nat
  wear1 : Nat
  /-- Snapshot being written by SAVE, and the configuration image stored (R472, R473). -/
  saving : Option Store
  stored : Store
  /-- Records of the settings region of which no good copy is left, absent from the next start-up: 0 the configuration image,
  1 + e the directory record of entry e (R469). -/
  lostRecs : List Nat
  /-- The image that runs is damaged: a switch follows when lanes 0..17 are idle (R469). -/
  imageSwitch : Bool
  deriving DecidableEq, Repr, Inhabited

def Bank.reset : Bank where
  eraseQ := []
  slices := 0
  eraseTwo := false
  susp := false
  erases := []
  worn := []
  bad := []
  badNext := []
  rewrite := []
  setAt := 4032
  lastFault := none
  again := false
  done := 0
  at_ := 0
  first := 0
  ahead := (List.range 1536).drop 1
  used := []
  corrSeen := []
  uncorrSeen := []

def FlashCtl.reset : FlashCtl where
  banks := Vector.replicate 2 Bank.reset
  scrubEn := true
  scrubH := 0x18
  pass := false
  fast := false
  sector := 0
  wearWarn := false
  corr := false
  uncorr := false
  progFault := false
  wear0 := 0
  wear1 := 0
  saving := none
  stored := []
  lostRecs := []
  imageSwitch := false

end Sys2Proof.Machine
end

