-- ==== Sys2Proof/Machine/TypesCompose.lean ====
section
/-!
DEFINITION. Plain data of layout and composition: glyphs (R201), templates (R204..R207), the drawn objects of a display list
(R216) with the copies of their sources that stand in the asset cache (R215).
-/

namespace Sys2Proof.Machine

/-- One glyph's metrics: bitmap offset, width, height, advance, XOFF, YOFF. -/
structure Glyph where
  off : Nat
  width : Nat
  height : Nat
  advance : Nat
  xoff : Int
  yoff : Int
  deriving DecidableEq, Repr, Inhabited

/-- A field definition (R205). -/
structure FieldDef where
  id : Nat
  cls : Nat
  required : Bool
  sign : Bool
  maxBytes : Nat
  deriving DecidableEq, Repr, Inhabited

/-- An element: its words (R206, R207). -/
abbrev Elem := List Word

/-- A template read from its words. -/
structure Template where
  tver : Nat
  width : Nat
  length : Nat
  margin : Nat
  nelem : Nat
  isSigned : Bool
  zeros : Bool
  deps : List Nat
  slot : Nat
  fields : List FieldDef
  elems : List Elem
  wellCut : Bool
  deriving DecidableEq, Repr, Inhabited

/-- What a drawn object takes its source levels from, in its element's own frame. Bitmaps are the copies layout has put into
the asset cache (R215). -/
inductive Source where
  | glyph (asset bpp : Nat) (g : Glyph) (words : List Word) (x y : Int) (scale : Nat)
  | bitmap (asset : Nat) (words : List Word) (scale : Nat)
  | solid
  | outline (t : Nat)
  | pattern (lo hi : Word)
  /-- Half modules with the quiet zones, module width, lines of the bars, lines of the footprint with its HRI block, lines of
  bearer bars at top and bottom of the bars. -/
  | bars (halves : List Bool) (xdim lines foot bearer : Nat)
  /-- Module rows with the quiet zone, module width and height. -/
  | matrix (rows : List (List Bool)) (xdim mh : Nat)
  deriving DecidableEq, Repr, Inhabited

/-- A drawn object: its element, its OP, its source. -/
structure Drawn where
  e : Elem
  op : Nat
  src : Source
  deriving DecidableEq, Repr, Inhabited

end Sys2Proof.Machine
end

