-- ==== Sys2Proof/Machine/TypesHead.lean ====
section
/-!
DEFINITION. Plain data of one head: status (R251), path (R64, R241..R244), bands and display lists (R215..R222), the
dot-energy pipeline (R262..R278), the resistance scan (R252..R256), feeds (R288) and the clicker of its path (R296..R299).
-/

namespace Sys2Proof.Machine

/-- What the record on a head path is doing. A PRINT or PATTERN waits for its first line, runs, or rests after a stop; the
other steps belong to FEED (R288, R289), CUT (R298, R299) and scans. -/
inductive HStep where
  | idle | wait | run | rest | scan
  | feed | led | learn | seek | target | retryHalt | retryWait | lost
  | cutHome | cutFeed | stroke | ret | jamHalt | recover | backoff
  deriving DecidableEq, Repr, Inhabited

/-- A search, whose travel has no target of its own. -/
def HStep.searching : HStep → Bool
  | .learn | .seek | .retryHalt | .lost | .jamHalt => true
  | _ => false

/-- A composed band (R217): its record, copy and number, its lines, its dots that are not at level 0 (line, dot, level),
whether it is the last of its copy, and the stitch to which its commit belongs (R221). -/
structure Band where
  job : Word
  idx : Nat
  copy : Nat
  num : Nat
  lines : Nat
  dots : List (Nat × Nat × Nat)
  last : Bool
  stitch : Nat
  deriving DecidableEq, Repr, Inhabited

/-- A display list in its slot (R215, R216): the record it belongs to, its copy (0 for all), the template, the drawn objects in
element order with the copies of their sources, its lines; the next band to compose from it, by copy and number, and whether all
its bands are composed. -/
structure DispList where
  job : Word
  idx : Nat
  copy : Nat
  tmpl : Template
  objs : List Drawn
  lines : Nat
  cnext : Nat
  bnext : Nat
  done : Bool
  deriving DecidableEq, Repr, Inhabited

/-- A line as the pipeline has made it (R257): slice masks of the dots that heat, unit width in 5 ns, slices, and what
stages 5 and 7 counted. -/
structure LineOut where
  masks : List (Nat × Nat)
  wu : Nat
  nsl : Nat
  reloc : Nat
  dropped : Nat
  clipped : Nat
  deriving DecidableEq, Repr, Inhabited

/-- What drives the path rate (R64, R66, R242). -/
inductive Ramp where
  | full | rising | falling | creep
  deriving DecidableEq, Repr, Inhabited

/-- A copy whose last line has started and whose last slice is still to end. -/
structure CopyEnd where
  job : Word
  idx : Nat
  copy : Nat
  copies : Nat
  deriving DecidableEq, Repr, Inhabited

/-- A line start placed in a stitch (R241): its record and copy, the line, its phase, whether a boundary already reached placed it
(R243), whether it is the last of its copy. -/
structure PlacedLine where
  job : Word
  idx : Nat
  copies : Nat
  copy : Nat
  line : Nat
  phase : Nat
  late : Bool
  last : Bool
  deriving DecidableEq, Repr, Inhabited

/-- A line that has started: the PWM cycle of its start, its physical gray levels, what the pipeline made of it and its strobe
width in 5 ns; the windows strobed in groups, each with the dot-slices it skips (R275). -/
structure FiredLine where
  pl : PlacedLine
  start : Nat
  levels : List (Nat × Nat)
  out : LineOut
  width : Nat
  skips : List (Nat × Nat)
  deriving DecidableEq, Repr, Inhabited

/-- A line to be started when the path goes on: one cut short, with its levels (R245), or one of a copy the path has left that was
placed and not started; `done` where the pipeline has gone on past it. -/
structure RedoLine where
  pl : PlacedLine
  levels : List (Nat × Nat)
  done : Bool
  deriving DecidableEq, Repr, Inhabited

/-- One head path. -/
structure Head where
  step : HStep
  /-- Copy and line now loading (R251); a line of the copy has started. -/
  copy : Nat
  line : Nat
  lineOn : Bool
  lines : Word
  late : Word
  lateMax : Nat
  minInt : Nat
  vhTr : Nat
  /-- HDx_VHEN; waits of VH_SETTLE: 0 none, 1 first, 2 second (R239); last VH reading in 1/8 V. -/
  vhen : Bool
  settle : Nat
  vhRead : Nat
  /-- The record on the path: job, index, TYPE (0 none), copies; PATTERN number; MODE it runs in (R240). -/
  job : Word
  idx : Nat
  typ : Nat
  copies : Nat
  pattern : Nat
  hmode : Nat
  /-- The copy being placed: its number, its lines, the next line to place. -/
  pcopy : Nat
  total : Nat
  nline : Nat
  /-- Sub-line period in force in 1/256 ph (R236, R240). -/
  period : Nat
  /-- Path rate r = rk / rampN, and that of the next stitch (R64, R242). -/
  ramp : Ramp
  rk : Nat
  rkNext : Nat
  rampN : Nat
  /-- An overrun hold is going on (R64..R66). -/
  holding : Bool
  /-- Path time in ph / 65,536 from the copy's start, negative before it (R242). -/
  ptime : Int
  /-- Position of the feed axis at the copy's start, in 2^-22 microsteps (R241). -/
  origin : Int
  /-- Step events of the feed axis in MODE 2 from the last one before this stitch on: phase since reset, position (R243). -/
  trail : List (Nat × Int)
  /-- Position of the feed axis where the path last came to rest with its copy unfinished. -/
  restAt : Int
  /-- Velocity of the path's profile in the present path stitch, in 2^-22 microsteps per st (R243). -/
  pvel : Nat
  /-- A copy has begun and the path has not reached its end; CONTINUE has asked a path at rest to go on. -/
  midCopy : Bool
  resuming : Bool
  /-- Lines to be started when the path goes on, and the levels of the line the pipeline had ready after them (R245). -/
  redo : List RedoLine
  redoNext : Option (List (Nat × Nat))
  /-- The last lines started, newest first: those that may still be strobing. -/
  fired : List FiredLine
  /-- A record released while the path still feeds its last line: it starts once the feed axis is at rest. -/
  later : Option (Word × Nat)
  /-- Encoder count at the copy's start (R243). -/
  q0 : Nat
  /-- Line starts placed in this stitch and not yet taken. -/
  placed : List PlacedLine
  /-- PWM cycle of the last line start, where one is known (R237, R251). -/
  lastStart : Option Nat
  lastDue : Option CopyEnd
  /-- The path runs on into the next copy or record (R242). -/
  follow : Bool
  /-- MSB or a rule of R287 stops the lane after this copy or record. -/
  stopAfter : Bool
  /-- HOLD_SHORT: no later line of the copy is printed (R67). -/
  cutOff : Bool
  /-- Overrun may be raised again (R63). -/
  ovrArmed : Bool
  /-- Bands (R217..R222): in force, whether the pipeline has read its last line, committed after it; a seam has passed
  without a next band. -/
  cur : Option Band
  curRead : Bool
  bands : List Band
  seamMissed : Bool
  dl : List DispList
  /-- The last band composed was this head's (R218). -/
  hadBand : Bool
  /-- Physical gray levels of the last lines started, newest first: dot, level (R265). -/
  hist : List (List (Nat × Nat))
  /-- Levels of the line ready to load; its masks with history and, for a start beyond HIST_GAP, without. -/
  nextLevels : List (Nat × Nat)
  ready : Option LineOut
  readyFresh : Option LineOut
  /-- Band and VH step of the last line computed (R276); the band that the next is formed from (R262). -/
  tband : Nat
  bandPrev : Nat
  vstep : Nat
  sagcut : Bool
  throt : Bool
  wclamp : Bool
  reloc : Word
  dropped : Word
  sagSkip : Word
  clipped : Word
  /-- Resistance scan (R252..R256): status, next position, results. -/
  sstate : Nat
  skind : Nat
  scanPos : Nat
  measured : Nat
  retries : Nat
  retryDot : Bool
  scanStamp : Word
  scanOpen : Nat
  scanShort : Nat
  scanHigh : Nat
  scanVh : Nat
  scanTemp : Int
  scanBand : Nat
  scanApply : Bool
  vhSum : Nat
  vhNum : Nat
  /-- FEED and searches (R288): MODE, DIST, position of its start; edges counted and the first of them (R295); the target. -/
  fmode : Nat
  dist : Nat
  from_ : Int
  edges : Nat
  edge0 : Int
  goal : Int
  /-- Clicker (R297). -/
  cstate : Nat
  swBroken : Bool
  jamTr : Nat
  tendValid : Bool
  cuts : Word
  tend : Int
  lastCut : Word
  /-- The CUT in progress: attempt, partial, the switch has left home, strokes that ended NO_LEAVE; position at the stroke's
  start. -/
  cutTry : Nat
  cutPart : Bool
  left : Bool
  noLeave : Nat
  cutFrom : Int
  deriving DecidableEq, Repr, Inhabited

def Head.reset : Head where
  step := .idle
  copy := 0
  line := 0
  lineOn := false
  lines := 0
  late := 0
  lateMax := 0
  minInt := 0x3FFFF
  vhTr := 0
  vhen := false
  settle := 0
  vhRead := 0
  job := 0
  idx := 0
  typ := 0
  copies := 0
  pattern := 0
  hmode := 0
  pcopy := 0
  total := 0
  nline := 0
  period := 0
  ramp := .full
  rk := 0
  rkNext := 0
  rampN := 1
  holding := false
  ptime := 0
  origin := 0
  trail := []
  restAt := 0
  pvel := 0
  midCopy := false
  resuming := false
  redo := []
  redoNext := none
  fired := []
  later := none
  q0 := 0
  placed := []
  lastStart := none
  lastDue := none
  follow := false
  stopAfter := false
  cutOff := false
  ovrArmed := true
  cur := none
  curRead := false
  bands := []
  seamMissed := false
  dl := []
  hadBand := false
  hist := []
  nextLevels := []
  ready := none
  readyFresh := none
  tband := 0
  bandPrev := 0
  vstep := 0
  sagcut := false
  throt := false
  wclamp := false
  reloc := 0
  dropped := 0
  sagSkip := 0
  clipped := 0
  sstate := 0
  skind := 0
  scanPos := 0
  measured := 0
  retries := 0
  retryDot := false
  scanStamp := 0
  scanOpen := 0
  scanShort := 0
  scanHigh := 0
  scanVh := 0
  scanTemp := 0
  scanBand := 0
  scanApply := false
  vhSum := 0
  vhNum := 0
  fmode := 0
  dist := 0
  from_ := 0
  edges := 0
  edge0 := 0
  goal := 0
  cstate := 5
  swBroken := false
  jamTr := 0
  tendValid := false
  cuts := 0
  tend := 0
  lastCut := 0
  cutTry := 0
  cutPart := false
  left := false
  noLeave := 0
  cutFrom := 0

end Sys2Proof.Machine
end

