-- ==== Sys2Proof/Machine/TypesMedia.lean ====
section
/-!
DEFINITION. Plain data of the media sensors (R283..R289) and the general sensor inputs (R290..R292). Times are counted in
samples: 10 µs cycles of a media sensor, 50 µs samples of a general input.
-/

namespace Sys2Proof.Machine

/-- One media sensor. -/
structure Ms where
  /-- The last four readings, newest first (R283). -/
  reads : List Nat
  /-- The channel is on the gap side; feed position at which the present side began; cycles it has lasted (R286). -/
  gap : Bool
  sideAt : Int
  sideCyc : Nat
  /-- The present gap or mark has been counted. -/
  counted : Bool
  /-- 0 MEDIA, 1 GAP_MARK, 2 OUT. -/
  mstate : Nat
  /-- 0 NONE, 1 LED, 2 LEARN, 3 DONE, 4 FAILED. -/
  cstate : Nat
  edge : Int
  pitch : Nat
  len : Nat
  /-- An edge has been counted: PITCH_M has a predecessor. -/
  hadEdge : Bool
  calTr : Nat
  calFail : Nat
  /-- LED search (R289): code tried, step 0..7, cycles of the step, best code found. -/
  led : Nat
  ledStep : Nat
  ledCyc : Nat
  ledFound : Option Nat
  /-- Learning: minimum, maximum, crossings seen (0 none, 1 to the gap side, 2 back), feed position at its start; whether
  it is the second attempt, and whether its 1 ms wait runs. -/
  lo : Nat
  hi : Nat
  crossed : Nat
  learnAt : Int
  second : Bool
  waits : Bool
  deriving DecidableEq, Repr, Inhabited

/-- One general sensor input. -/
structure Sns where
  /-- Level of the last sample that gave one: HIGH; whether any did. -/
  high : Bool
  /-- Samples for which the level has differed from ACTIVE. -/
  steady : Nat
  active : Bool
  /-- Samples in the rail bands, and outside them while BROKEN. -/
  rail : Nat
  okRun : Nat
  broken : Bool
  present : Bool
  count : Nat
  last : Word
  /-- Samples for which ACTIVE has stayed 1 (DROP) or 0 (TICKET). -/
  run : Nat
  /-- Code of the last sample. -/
  code : Nat
  deriving DecidableEq, Repr, Inhabited

def Ms.reset : Ms := ⟨[], false, 0, 0, false, 0, 0, 0, 0, 0, false, 0, 0, 0, 0, 0, none, 0, 0, 0, 0, false, false⟩
def Sns.reset : Sns := ⟨false, 0, false, 0, 0, false, false, 0, 0, 0, 0⟩

end Sys2Proof.Machine
end

