-- ==== Sys2Proof/Machine/TypesMotion.lean ====
section
/-!
DEFINITION. Plain data of an axis (R306, R310, R312, R319..R329) and of its two bridges (R331, R341..R358), and of the
power domains (R502..R506). Positions are unwrapped whole numbers; the 36-bit registers show them modulo 2^36 (R301).
-/

namespace Sys2Proof.Machine

/-- What an axis is doing. -/
inductive AxMode where
  | rest | move | home | gear | disengage | path
  deriving DecidableEq, Repr, Inhabited

/-- A profile as copied at release (R309, R310): velocities in 2^-22, accelerations in 2^-24, jerk in 2^-32. -/
structure Prof where
  vmax : Nat
  acc : Nat
  dec : Nat
  jerk : Nat
  jlim : Bool
  vstart : Nat
  deriving DecidableEq, Repr, Inhabited

/-- Steps of a homing (R319). -/
inductive HomeStep where
  | none | search | latch | index | backoff | failed
  deriving DecidableEq, Repr, Inhabited

/-- GSTATE (R306). -/
inductive GearState where
  | none | geared | pending | disengaging
  deriving DecidableEq, Repr, Inhabited

/-- A master and a ratio (R325). -/
structure GearSet where
  msrc : Nat
  mindex : Nat
  ratio : Int
  deriving DecidableEq, Repr, Inhabited

/-- Switch state of a bridge (R331). -/
inductive Switch where
  | off | drivePlus | driveMinus | fast | slow
  deriving DecidableEq, Repr, Inhabited

/-- BSTATE (R358). -/
inductive BState where
  | off | calib | run | recover | fault
  deriving DecidableEq, Repr, Inhabited

/-- One bridge. -/
structure Bridge where
  st : BState
  fcause : Nat
  elem : Nat
  sw : Switch
  imeas : Int
  headroom : Bool
  /-- Consecutive judged full-duty periods: open, sense, head (R351); consecutive periods that ended by a trip (R352). -/
  nOpen : Nat
  nSense : Nat
  nHead : Nat
  nTrip : Nat
  /-- The confirmation of R349 is running: its cause, and whether its 1 ms of running has passed. -/
  confirm : Option Nat
  confirmed1ms : Bool
  /-- REC_DLY has run while the shank forced the pins (R354). -/
  recWaits : Bool
  ofs : Int
  /-- Old values, by word offset, of committed drive words the bridge has not adopted yet (R20, R337). -/
  hold : List (Nat × Word)
  /-- Brushed DC run (R345): driving, in KEEP, duty, polarity. -/
  drives : Bool
  keeps : Bool
  /-- A brushed DC bridge that does not drive holds SLOW, not OFF (R345, R346). -/
  brakes : Bool
  duty : Nat
  dirDc : Bool
  /-- PWM on-part of the period in PWM cycles (R344, R345). -/
  onCycles : Nat
  deriving DecidableEq, Repr, Inhabited

/-- A position confirmation under way (R324): the UNC_CAUSE that asked for it, whether it is the second attempt and whether
it waits for a reading of its SSI port; retention had been lost. -/
structure Conf where
  cause : Nat
  second : Bool
  waits : Bool
  lost : Bool
  /-- The transfer in progress began before the request: its reading does not count (R403). -/
  early : Bool
  deriving DecidableEq, Repr, Inhabited

/-- What AON retention holds of an axis, as written at the last stitch boundary (R322). -/
structure AxisRet where
  pos : Int
  tgt : Int
  remd : Int
  posOk : Bool
  homed : Bool
  uncCause : Nat
  moving : Bool
  aofs : Nat
  deriving DecidableEq, Repr, Inhabited

/-- One axis. -/
structure Axis where
  mode : AxMode
  /-- POS, TARGET and REM (R306), unwrapped. -/
  pos : Int
  tgt : Int
  remd : Int
  /-- TARGET and the MOVE's copied profile while a homing travels, whose own are then `tgt` and `prof`. -/
  moveTgt : Int
  moveProf : Prof
  /-- Velocity of this stitch and of the next, in 2^-22 microsteps per st; acceleration a in 2^-24 (R310). -/
  vel : Nat
  vNext : Nat
  a : Int
  neg : Bool
  negNext : Bool
  /-- Line position in 2^-22 microsteps at the end of the last stitch computed (R308). -/
  line : Int
  /-- Line position before the slot of this stitch: at the end of this stitch. -/
  lineS : Int
  lastPl : Int
  stride : Nat
  /-- Events placed and not issued: phase since reset, position, in order. -/
  events : List (Nat × Int)
  prof : Prof
  vclamp : Bool
  /-- A stop is decelerating: its MOVE_STOPPED cause and the LIM_DEC it began with (R305, R312). -/
  stop : Option Nat
  limDec : Nat
  posOk : Bool
  homed : Bool
  uncCause : Nat
  refLive : Bool
  ret : AxisRet
  lim0 : Bool
  lim1 : Bool
  limPos : Int
  homeCorr : Int
  homeTr : Nat
  gearTr : Nat
  confTr : Nat
  /-- Homing (R319, R320): step, slot, attempt, run as the check of a RE_ADMIT, condition met. -/
  hstep : HomeStep
  hslot : Nat
  htry : Nat
  hcheck : Bool
  hmet : Bool
  refVal : Word
  /-- Gearing (R325..R329). -/
  gstate : GearState
  gear : GearSet
  pend : Option GearSet
  pendOff : Bool
  handover : Word
  /-- ACC at the end of the last stitch computed, and at the start of that stitch (R325, R329). -/
  accG : Int
  accS : Int
  x0 : Int
  lag : Int
  grace : Option Nat
  /-- Stitches at rest, and SSTATE: 0 ACTIVE, 1 HOLD, 2 FREE, 3 BRAKE, 4 UNPOWERED (R321). -/
  restN : Nat
  sstate : Nat
  /-- A confirmation of the position is under way (R324). -/
  conf : Option Conf
  /-- Stitch in which the motion in progress was released (R60, R311). -/
  startN : Nat
  /-- A gearing change takes effect in the next stitch (R325, R327). -/
  took : Bool
  /-- Position of a homing reference that has been met (R319, R408). -/
  refAt : Option Int
  /-- BREAKS of the confirmation encoder when the axis was homed (R399). -/
  hBreaks : BitVec 8
  aofs : Nat
  vamp : Nat
  /-- Last event: absolute phase and stride; interval before it (R344). -/
  lastEv : Nat
  evInt : Nat
  evStride : Nat
  stallOk : Bool
  lambda : Int
  marginMin : Int
  stallRun : Nat
  /-- The second span of R356: full steps moved in it. -/
  span : Option Nat
  ocTr : Nat
  gateTr : Nat
  diagTr : Nat
  stallTr : Nat
  ofsTr : Nat
  headCnt : Nat
  a1 : Bridge
  b1 : Bridge
  /-- End of the DC_RUN in progress in phase units since reset, or what a stop kept of it (R345, R346). -/
  dcEnd : Option Nat
  dcLeft : Nat
  dcBridge : Bool
  deriving DecidableEq, Repr, Inhabited

/-- DSTATE of a power domain (R503, R506). -/
inductive DomState where
  | run | idle | off | retain
  deriving DecidableEq, Repr, Inhabited

/-- One power domain. -/
structure Domain where
  st : DomState
  /-- A lane requests RUN (R23). -/
  req : Bool
  powerups : Nat
  deriving DecidableEq, Repr, Inhabited

def Prof.reset : Prof := ⟨0, 0, 0, 0, false, 0⟩

def Bridge.reset : Bridge where
  st := .off
  fcause := 0
  elem := 0
  sw := .off
  imeas := 0
  headroom := false
  nOpen := 0
  nSense := 0
  nHead := 0
  nTrip := 0
  confirm := none
  confirmed1ms := false
  recWaits := false
  ofs := 0
  hold := []
  drives := false
  keeps := false
  brakes := false
  duty := 0
  dirDc := false
  onCycles := 0

def AxisRet.reset : AxisRet := ⟨0, 0, 0, false, false, 2, false, 0⟩

def Axis.reset : Axis where
  mode := .rest
  pos := 0
  tgt := 0
  moveTgt := 0
  remd := 0
  vel := 0
  vNext := 0
  a := 0
  neg := false
  negNext := false
  line := 0
  lineS := 0
  lastPl := 0
  stride := 1
  events := []
  moveProf := Prof.reset
  prof := Prof.reset
  vclamp := false
  stop := none
  limDec := 0
  posOk := false
  homed := false
  uncCause := 2
  refLive := false
  ret := AxisRet.reset
  lim0 := false
  lim1 := false
  limPos := 0
  homeCorr := 0
  homeTr := 0
  gearTr := 0
  confTr := 0
  hstep := .none
  hslot := 0
  htry := 0
  hcheck := false
  hmet := false
  refVal := 0
  gstate := .none
  gear := ⟨0, 0, 0⟩
  pend := none
  pendOff := false
  handover := 0
  accG := 0
  accS := 0
  x0 := 0
  lag := 0
  grace := none
  restN := 0
  sstate := 0
  conf := none
  startN := 0
  took := false
  refAt := none
  hBreaks := 0
  aofs := 0
  vamp := 0
  lastEv := 0
  evInt := 0
  evStride := 0
  stallOk := false
  lambda := 0
  marginMin := 0
  stallRun := 0
  span := none
  ocTr := 0
  gateTr := 0
  diagTr := 0
  stallTr := 0
  ofsTr := 0
  headCnt := 0
  a1 := Bridge.reset
  b1 := Bridge.reset
  dcEnd := none
  dcLeft := 0
  dcBridge := false

def Domain.reset : Domain := ⟨.run, false, 0⟩

end Sys2Proof.Machine
end

