-- ==== Sys2Proof/Machine/TypesPos.lean ====
section
/-!
DEFINITION. Plain data of the position inputs (R391..R410): encoders, SSI ports, pulse counters, probes.
-/

namespace Sys2Proof.Machine

/-- One encoder (R393..R399). -/
structure Enc where
  /-- Filtered levels of A, B and I (R410). -/
  a : Bool
  b : Bool
  i : Bool
  cnt : Word
  zofs : Word
  /-- CNT latched at phase 0 of the current stitch, and of the one before (R395, R326). -/
  q : Word
  q0 : Word
  /-- CNT as latched at the last boundaries, newest first, as far back as a velocity window reaches (R243). -/
  past : List Nat
  idxCap : Word
  idxStamp : Word
  idxPh : Nat
  armed : Bool
  fault : Bool
  fcode : Nat
  qerrTr : Nat
  breaks : BitVec 8
  /-- An illegal transition opened the 1 ms window (R397). -/
  quadOpen : Bool
  /-- Accepted indexes since EN, CLR or a reset, up to 2; the last one failed its check. -/
  nIdx : Nat
  idxBad : Bool
  deriving DecidableEq, Repr, Inhabited

/-- One SSI port (R400..R404). -/
structure Ssi where
  raw : Word
  /-- Q latched at phase 0 of the current stitch, and of the two before (R402, R326). -/
  q : Word
  q0 : Word
  q1 : Word
  sstate : Nat
  fcode : Nat
  ssiTr : Nat
  skips : Nat
  statbits : Nat
  rstamp : Word
  /-- The two last good readings with their sample instants in phase units since reset, newest first. -/
  good : List (Word × Nat)
  /-- The transfer in progress: its sample instant. -/
  busy : Option Nat
  /-- 5 ns cycles for which the port is still busy, transfer and monoflop time (R400, R403). -/
  left : Nat
  /-- The transfer in progress or awaited is the repeat of a failed one. -/
  again : Bool
  deriving DecidableEq, Repr, Inhabited

/-- One pulse counter (R406). -/
structure Cnt where
  count : Word
  last : Word
  period : Nat
  level : Bool
  /-- An edge has been counted. -/
  seen : Bool
  deriving DecidableEq, Repr, Inhabited

/-- One capture of a probe (R407, R408). -/
structure Capture where
  stamp : Word
  ph : Nat
  rise : Bool
  cntA : Option Word
  cntB : Option Word
  posX : Option Word
  deriving DecidableEq, Repr, Inhabited

/-- One probe. -/
structure Prb where
  armed : Bool
  level : Bool
  queue : List Capture
  ovf : Nat
  /-- The capture last taken: words 9..12 show it. -/
  shown : Option Capture
  deriving DecidableEq, Repr, Inhabited

def Enc.reset : Enc := ⟨false, false, false, 0, 0, 0, 0, [], 0, 0, 0, false, false, 0, 0, 0, false, 0, false⟩
def Ssi.reset : Ssi := ⟨0, 0, 0, 0, 0, 0, 0, 0, 0, 0, [], none, 0, false⟩
def Cnt.reset : Cnt := ⟨0, 0, 0, false, false⟩
def Prb.reset : Prb := ⟨false, false, [], 0, none⟩

end Sys2Proof.Machine
end

