-- ==== Sys2Proof/Machine/TypesPower.lean ====
section
/-!
DEFINITION. Plain data of power, clocks and reset (R502..R526).
-/

namespace Sys2Proof.Machine

/-- Power state of the device (R507); IDLE changes nothing observable and is not told apart from RUN. -/
inductive PowerState where
  | run | sleep | off
  deriving DecidableEq, Repr, Inhabited

/-- The start-up record (R526). -/
structure StartRec where
  cause : Nat
  sub : Nat
  retKept : Bool
  img : Bool
  fallback : Bool
  bootT : Nat
  recovT : Nat
  retired : Nat
  jobs : Nat
  lanes : Nat
  deriving DecidableEq, Repr, Inhabited

/-- Power, clocks, reset. -/
structure Power where
  st : PowerState
  doms : Vector Domain 16
  wakeSrc : Nat
  offPend : Bool
  aonXtal : Bool
  clkTr : Nat
  sleeps : Nat
  /-- Start-up has not run since the last reset: its cause and sub-cause (R518), and whether AON retention was lost. -/
  inReset : Option (Nat × Nat × Bool)
  /-- The PLL_U is out of lock (R517). -/
  pllU : Bool
  rcd : StartRec
  /-- Start-up waits in BOOT for an image (R522, R542). -/
  noImage : Bool
  /-- SLEEP is being entered: the engine domains are off, the stitch stops at its next boundary (R508). -/
  entering : Bool
  /-- The levels of the strap balls VGD_SEL and TEST_EN, which the board fixes (R552). -/
  vgdPin : Bool
  testPin : Bool
  /-- The straps as sampled at the release of the last POR (R552): VGD comes from outside; factory test mode. -/
  vgdExt : Bool
  /-- Step 5 of start-up has enabled the host ports (R521, R523). -/
  hostOn : Bool
  testMode : Bool
  deriving DecidableEq, Repr, Inhabited

def StartRec.reset : StartRec := ⟨0, 0, false, false, false, 0, 0, 0, 0, 0⟩

/-- Domains after a reset: the engine domains OFF (R519), the others in RUN. -/
def Power.reset : Power where
  st := .run
  doms := (Vector.range 16).map fun d => { Domain.reset with st := if 8 ≤ d then .off else .run }
  wakeSrc := 0
  offPend := false
  aonXtal := false
  clkTr := 0
  sleeps := 0
  inReset := some (1, 0, true)
  pllU := false
  rcd := StartRec.reset
  noImage := false
  entering := false
  vgdPin := false
  testPin := false
  vgdExt := false
  hostOn := false
  testMode := false

end Sys2Proof.Machine
end

