-- ==== Sys2Proof/Machine/TypesSec.lean ====
section
/-!
DEFINITION. Plain data of self-test, test access, firmware images and the OTP row (R477..R482, R528..R546).
-/

namespace Sys2Proof.Machine

/-- One image slot (R537, R539): its state (0 EMPTY, 1 INVALID, 2 VALID, 3 TRIAL, 4 CONFIRMED), SEQ, the first six words of
its image, and whether its signature verifies. -/
structure Slot where
  st : Nat
  seq : Word
  hdr : List Word
  sig : Bool
  deriving DecidableEq, Repr, Inhabited

/-- The image update object (R540, R541). -/
structure Update where
  tstate : Nat
  owner : Nat
  result : Nat
  clen : Nat
  /-- Words taken at PORT, in order; how many of them are programmed. -/
  words : List Word
  done : Nat
  deriving DecidableEq, Repr, Inhabited

/-- An OTP operation in progress: words still to be programmed with their bits, whether the first of them is in its second
attempt, what it serves: 0 PROGRAM_WORD, 1 PROGRAM_KEY, 2 REVOKE_KEY, 3 PROT_LEVEL, and the frame whose response waits for a
raise (R481). -/
structure OtpOp where
  todo : List (Nat × Word)
  again : Bool
  what : Nat
  slot : Nat
  port : Nat
  rsp : Option (Bool × Nat × Nat)
  deriving DecidableEq, Repr, Inhabited

/-- The OTP row and its program object (R478, R544). -/
structure Otp where
  words : Vector Word 128
  ostate : Nat
  fword : Nat
  otpTr : Nat
  rdTr : Nat
  kstage : Vector Word 8
  value : Word
  op : Option OtpOp
  deriving DecidableEq, Repr, Inhabited

/-- Self-test, test access, images and OTP. -/
structure Sec where
  slots : Vector Slot 2
  run : Nat
  upd : Update
  otp : Otp
  cleared : Bool
  badKey : Vector Bool 8
  /-- Keys loaded at start-up into the SHA-256 unit. -/
  loaded : Vector Bool 8
  /-- Instruction the register selects, BYPASS where the protection level makes it one (R532, R533). -/
  ir : Nat
  /-- What the boundary register drives (R535), and supplies VM, VS, VH A, VH B at or above 3.0 V. -/
  drive : List Bool
  guard : Vector Bool 4
  bistTest : Nat
  bistResult : Nat
  bistFails : Nat
  bistFirst : Nat
  /-- Code of each ball tested, by ball index (R531). -/
  codes : List (Nat × Nat)
  deriving DecidableEq, Repr, Inhabited

/-- The intrusive instruction in the instruction register, by its code (R533). -/
def Sec.intrusive (q : Sec) : Option Nat := if [0x00, 0x03, 0x04, 0x10, 0x11].contains q.ir then some q.ir else none

/-- First six words of a format 3 image of 64 words under key 0, version 1.0.0. -/
def shippedHdr : List Word :=
  [field 35 24 0x46E ||| field 23 20 3, 64, field 35 24 1, field 35 20 0x9640, 0, 1]

def Slot.reset : Slot := ⟨0, 0, [], false⟩
def Update.reset : Update := ⟨0, 0, 0, 0, [], 0⟩
def Otp.reset : Otp := ⟨Vector.replicate 128 0, 0, 0, 0, 0, Vector.replicate 8 0, 0, none⟩

/-- A shipped device: slot A holds a CONFIRMED image that verifies, slot B is EMPTY, no key is written (DESIGN CHOICE). -/
def Sec.reset : Sec where
  slots := (Vector.replicate 2 Slot.reset).set 0 ⟨4, 1, shippedHdr, true⟩
  run := 0
  upd := Update.reset
  otp := Otp.reset
  cleared := false
  badKey := Vector.replicate 8 false
  loaded := Vector.replicate 8 false
  ir := 2
  drive := []
  guard := Vector.replicate 4 false
  bistTest := 0
  bistResult := 0
  bistFails := 0
  bistFirst := 0
  codes := []

end Sys2Proof.Machine
end

