-- ==== Sys2Proof/Machine/TypesShank.lean ====
section
/-!
DEFINITION. Plain data of the shank (R411..R430): its state, the output groups with their energy windows, the supplies it
discharges.
-/

namespace Sys2Proof.Machine

/-- State of the shank (R131). -/
inductive ShankState where
  | normal | safe | discharging | discharged
  deriving DecidableEq, Repr, Inhabited

/-- One output group (R411, R416..R423): 2n and 2n + 1 are bridges A and B of axis n, 24 + c solenoid channel c, 56 and 57
the heads. -/
structure Group where
  forced : Bool
  cause : Nat
  elem : Nat
  trips : Nat
  /-- Energy of the window's buckets in 0.1 pJ, the bucket in progress first, 32 completed ones after it (R417). -/
  buckets : List Nat
  /-- WIN as it stays in force until the next bucket boundary, where a write waits for it. -/
  oldWin : Option Nat
  /-- |I| of the last sample, in mA. -/
  amps : Nat
  /-- The RELEASE hold of R419 runs. -/
  relHold : Bool
  /-- Causes ENERGY and RELEASE of the force in progress: GREL needs the conditions of both (R429). -/
  seenE : Bool
  seenR : Bool
  deriving DecidableEq, Repr, Inhabited

/-- The shank. -/
structure Shank where
  st : ShankState
  groups : Vector Group 58
  stopLow : Bool
  doorOpen : Bool
  locked : Bool
  em : Nat
  es : Nat
  tLast : Nat
  dmOn : Bool
  dsOn : Bool
  /-- Time in 100 µs since the discharge began (R428). -/
  discT : Nat
  /-- Bits of SHANK_STAT (R131). -/
  stopped : Bool
  energyTrip : Bool
  releaseTrip : Bool
  interlockTrip : Bool
  headTrip : Bool
  dischFail : Bool
  tripLanes : Nat
  deriving DecidableEq, Repr, Inhabited

def Group.reset : Group := ⟨false, 0, 0, 0, List.replicate 33 0, none, 0, false, false, false⟩
def Shank.reset : Shank := ⟨.normal, Vector.replicate 58 Group.reset, false, false, false, 0, 0, 0, false, false, 0,
  false, false, false, false, false, false, 0⟩

end Sys2Proof.Machine
end

