-- ==== Sys2Proof/Machine/TypesSol.lean ====
section
/-!
DEFINITION. Plain data of a solenoid channel (R360..R390).
-/

namespace Sys2Proof.Machine

/-- CSTATE (R389). -/
inductive ChanState where
  | idle | run | release | diag | recover | fault | hotWait | calib
  deriving DecidableEq, Repr, Inhabited

/-- Switch state of a channel (R361). -/
inductive SolSwitch where
  | drive | slow | fast | off
  deriving DecidableEq, Repr, Inhabited

/-- One channel. -/
structure Chan where
  st : ChanState
  sw : SolSwitch
  seg : Nat
  /-- Slot of the current or last profile, and its words as copied when the start was placed (R367). -/
  slot : Nat
  words : List Word
  fcause : Nat
  imeas : Nat
  duty : Nat
  /-- A placed start: stitch and phase (R368). -/
  start : Option (Nat × Nat)
  /-- Stitch in which the segment in progress began (R370). -/
  segBegan : Nat
  /-- A trip has occurred in the segment, at so many µs from the profile's start; the period in progress had one. -/
  firstTrip : Option Nat
  tripNow : Bool
  /-- Highest reading of the segment (R390). -/
  peak : Nat
  /-- Dip detector (R372): highest reading and the µs at which it was last attained. -/
  iMax : Nat
  iMaxAt : Nat
  /-- Kink detector (R372): duties of the segment's last periods, newest first; the highest sum of 2^KAVG of them since arming
  and the µs of the last period that reached it. -/
  duties : List Nat
  dMax : Nat
  dMaxAt : Nat
  /-- µs of the end of the last period, and for how long every period has ended by a trip (R376). -/
  lastUs : Nat
  tripUs : Nat
  /-- Closing record (R373). -/
  cseg : Nat
  method : Bool
  ctime : Nat
  cstamp : Word
  cphase : Nat
  closedRun : Bool
  /-- Temperature rises in 2^-32 K (R375); T_coil and T_meas in 1/8 °C. -/
  theta1 : Nat
  theta2 : Nat
  tcoil : Int
  tmeas : Int
  hot : Bool
  warn : Bool
  ocTr : Nat
  diagTr : Nat
  noclose : Nat
  runs : Nat
  tcut : Nat
  /-- Diagnostics (R382..R385): result, kind, node voltages, offset. -/
  dresult : Nat
  dstate : Bool
  dnh : Nat
  dnl : Nat
  ofs : Int
  ofsClamp : Bool
  /-- A check runs: 1 start-up (R385), 2 RE_ADMIT (R154), 3 SOL_DIAG (R384), 4 release (R371); it is the on-state one; its
  second attempt; the cause detected during a test pulse. -/
  checking : Nat
  onState : Bool
  again : Bool
  pulseCause : Nat
  /-- The second attempt of R380: the cause to confirm. -/
  confirm : Option Nat
  /-- A channel in RECOVER passes to its release (R386); its re-enable waits for the shank or VGD. -/
  recRelease : Bool
  recWaits : Bool
  /-- A stop or a bank's fault has sent the profile to its last segment (R150). -/
  stopped : Bool
  /-- The record the profile belongs to (R388). -/
  job : Word
  idx : Nat
  /-- Old values, by offset, of committed words not adopted yet (R365). -/
  hold : List (Nat × Word)
  deriving DecidableEq, Repr, Inhabited

def Chan.reset : Chan where
  st := .idle
  sw := .off
  seg := 0
  slot := 0
  words := []
  fcause := 0
  imeas := 0
  duty := 0
  start := none
  segBegan := 0
  firstTrip := none
  tripNow := false
  peak := 0
  iMax := 0
  iMaxAt := 0
  duties := []
  dMax := 0
  dMaxAt := 0
  lastUs := 0
  tripUs := 0
  cseg := 0
  method := false
  ctime := 0
  cstamp := 0
  cphase := 0
  closedRun := false
  theta1 := 0
  theta2 := 0
  tcoil := 0
  tmeas := 0
  hot := false
  warn := false
  ocTr := 0
  diagTr := 0
  noclose := 0
  runs := 0
  tcut := 0
  dresult := 0
  dstate := false
  dnh := 0
  dnl := 0
  ofs := 0
  ofsClamp := false
  checking := 0
  onState := false
  again := false
  pulseCause := 0
  confirm := none
  recRelease := false
  recWaits := false
  stopped := false
  job := 0
  idx := 0
  hold := []

end Sys2Proof.Machine
end

