-- ==== Sys2Proof/Machine/TypesSupply.lean ====
section
/-!
DEFINITION. Plain data of the thermal and supply monitor (R431..R453).
-/

namespace Sys2Proof.Machine

/-- One temperature input: DIE0..DIE5 are 0..5, HDA_TH0, HDA_TH1, HDB_TH0, HDB_TH1 6..9, NTC0..NTC7 10..17. -/
structure TempIn where
  /-- ADC code of the last reading; for a die sensor its RAW reading. -/
  code : Nat
  /-- Last reading in range, in 1/8 °C (R433, R434). -/
  val : Int
  brk : Bool
  /-- The 20 ms of the second attempt run (R434). -/
  recheck : Bool
  /-- While broken: 1 and the ms since the first of the consecutive readings in range; 0 without one. -/
  okRun : Nat
  /-- Sampled at 1 kHz, and samples below the level since (R437). -/
  fast : Bool
  cool : Nat
  deriving DecidableEq, Repr, Inhabited

/-- The monitor. -/
structure Supply where
  ins : Vector TempIn 18
  /-- c_i of the last set of die samples; DIE_T and the sensor that gave it (R435). -/
  checked : Vector Int 6
  dieT : Int
  dieIdx : Nat
  warn : Bool
  thr : Bool
  shut : Bool
  dband : Nat
  escal : Bool
  /-- DIE_CUT as adopted at the last die samples. -/
  dieCut : Bool
  /-- CLKDIV (R132, R440). -/
  clkdiv : Nat
  brkTr : Nat
  /-- Zone of each head: 0, 2 or 3 (R442), and THEAD. -/
  hzone : Vector Nat 2
  thead : Vector Int 2
  /-- HOT of each NTC, and its NACT and LMASK as adopted at its last sample (R432, R444). -/
  hot : Vector Bool 8
  nact : Vector Nat 8
  lmask : Vector Nat 8
  warnSeen : Bool
  throtSeen : Bool
  broken : Bool
  sag : Vector Bool 4
  sags : Vector Nat 4
  sagSeen : Bool
  vgdLow : Bool
  /-- The VM loss comparator has seen a loss and is not armed again (R451). -/
  vmLow : Bool
  vmLostG : Vector Bool 4
  boSrc : Nat
  bor : Bool
  /-- The first samples after reset have been taken (R132). -/
  sampled : Bool
  deriving DecidableEq, Repr, Inhabited

def TempIn.reset : TempIn := ⟨0, 0, false, false, 0, false, 0⟩

def Supply.reset : Supply where
  ins := Vector.replicate 18 TempIn.reset
  checked := Vector.replicate 6 0
  dieT := 0
  dieIdx := 0
  warn := false
  thr := false
  shut := false
  dband := 0
  escal := false
  dieCut := true
  clkdiv := 0
  brkTr := 0
  hzone := Vector.replicate 2 0
  thead := Vector.replicate 2 0
  hot := Vector.replicate 8 false
  nact := Vector.replicate 8 0
  lmask := Vector.replicate 8 0
  warnSeen := false
  throtSeen := false
  broken := false
  sag := Vector.replicate 4 false
  sags := Vector.replicate 4 0
  sagSeen := false
  vgdLow := false
  vmLow := false
  vmLostG := Vector.replicate 4 false
  boSrc := 0
  bor := false
  sampled := false

end Sys2Proof.Machine
end

