-- ==== Sys2Proof/Machine/TypesUart.lean ====
section
/-!
DEFINITION. Plain data of the AUX ports (R135, R484..R501).
-/

namespace Sys2Proof.Machine

/-- One AUX port; elements are those of R492. -/
structure Aux where
  div : Nat
  en : Bool
  nine : Bool
  par : Nat
  stop2 : Bool
  addrOnly : Bool
  tunnel : Bool
  noise : Bool
  ferr : Bool
  perr : Bool
  ovr : Bool
  idle : Bool
  rx : List Nat
  tx : List Nat
  /-- UART clock ticks already given to the character being sent, in 1/6250 tick. -/
  credit : Nat
  /-- Under ADDR_ONLY an address character has been accepted since the line was idle (R490). -/
  taking : Bool
  deriving DecidableEq, Repr, Inhabited

/-- The AUX_XFER in progress (R500). -/
structure Xfer where
  port : Nat
  rxMax : Nat
  /-- Its first character starts at the boundary after this stitch. -/
  from_ : Nat
  started : Bool
  chars : List Nat
  /-- Reception is open; elements taken. -/
  rxOpen : Bool
  got : List Nat
  deriving DecidableEq, Repr, Inhabited

structure Uarts where
  aux : Vector Aux 2
  xfer : Option Xfer
  deriving DecidableEq, Repr, Inhabited

def Aux.reset : Aux := ⟨480, false, false, 0, false, false, false, false, false, false, false, false, [], [], 0, false⟩
def Uarts.reset : Uarts := ⟨Vector.replicate 2 Aux.reset, none⟩

end Sys2Proof.Machine
end

