-- ==== Sys2Proof/Machine/State.lean ====
section
/-!
DEFINITION. The state of the machine: everything the spec gives the PLN9640, as plain data, and the state after reset.
-/

namespace Sys2Proof.Machine

/-- The state of the PLN9640. -/
structure State where
  pending : List Instr
  /-- Counter of free values used (the model's own; no value of the spec). -/
  fresh : Nat
  dev : Dev
  stitch : Stitch
  ports : Vector Port 2
  ev : EventQ
  tbl : Tables
  lanes : Vector Lane 19
  jobs : Jobs
  welt : Welt
  assets : Assets
  heads : Vector Head 2
  axes : Vector Axis 12
  encs : Vector Enc 8
  ssis : Vector Ssi 2
  cnts : Vector Cnt 16
  prbs : Vector Prb 4
  chans : Vector Chan 32
  shank : Shank
  power : Power
  mss : Vector Ms 4
  snss : Vector Sns 8
  sup : Supply
  flash : FlashCtl
  uarts : Uarts
  sec : Sec
  deriving DecidableEq, Repr

/-- Why a step stops for good. No command of this block stops the machine: every fault of the spec is a next state. -/
inductive Fault where
  /-- Raised by no command; kept so that the outcome type has its three cases. Safe. -/
  | never
  deriving DecidableEq, Repr

/-- Why a command has no meaning here. -/
inductive Refusal where
  /-- An arm of the dispatcher without a meaning yet. Safe: the machine stops. -/
  | notModelled (mnemonic : String)
  deriving DecidableEq, Repr

/-- The machine right after reset (R14): no command waits, both ports are in HUNT, every lane is IDLE and unowned. -/
def State.reset : State where
  pending := []
  fresh := 0
  dev := Dev.reset
  stitch := Stitch.reset
  ports := Vector.replicate 2 Port.reset
  ev := EventQ.reset
  tbl := Tables.reset
  lanes := Vector.replicate 19 Lane.reset
  jobs := Jobs.reset
  welt := Welt.reset
  assets := Assets.reset
  heads := Vector.replicate 2 Head.reset
  axes := Vector.replicate 12 Axis.reset
  encs := Vector.replicate 8 Enc.reset
  ssis := Vector.replicate 2 Ssi.reset
  cnts := Vector.replicate 16 Cnt.reset
  prbs := Vector.replicate 4 Prb.reset
  chans := Vector.replicate 32 Chan.reset
  shank := Shank.reset
  power := Power.reset
  mss := Vector.replicate 4 Ms.reset
  snss := Vector.replicate 8 Sns.reset
  sup := Supply.reset
  flash := FlashCtl.reset
  uarts := Uarts.reset
  sec := Sec.reset

end Sys2Proof.Machine
end

