-- ==== Sys2Proof/Machine/Ops.lean ====
section
/-!
DEFINITION. The named operations over the shared state: parts by number, the table store, configuration in force, stamps,
the event queue (R122..R126), refusals and notes (R114, R115), job status, marks and welt writes (R159..R172).
-/

namespace Sys2Proof.Machine

/-! ### Parts by number -/

/-- Port `p` (0 HOST0, 1 HOST1). -/
def State.port (s : State) (p : Nat) : Port := at' s.ports p

/-- Apply `f` to port `p`. -/
def State.onPort (s : State) (p : Nat) (f : Port → Port) : State := { s with ports := upd s.ports p f }

/-- Lane `i` of R15. -/
def State.lane (s : State) (i : Nat) : Lane := at' s.lanes i

/-- Apply `f` to lane `i`. -/
def State.onLane (s : State) (i : Nat) (f : Lane → Lane) : State := { s with lanes := upd s.lanes i f }

/-- Head `x` (0 A, 1 B). -/
def State.head (s : State) (x : Nat) : Head := at' s.heads x

/-- Apply `f` to head `x`. -/
def State.onHead (s : State) (x : Nat) (f : Head → Head) : State := { s with heads := upd s.heads x f }

def State.onDev (s : State) (f : Dev → Dev) : State := { s with dev := f s.dev }
def State.onStitch (s : State) (f : Stitch → Stitch) : State := { s with stitch := f s.stitch }
def State.onJobs (s : State) (f : Jobs → Jobs) : State := { s with jobs := f s.jobs }
def State.onWelt (s : State) (f : Welt → Welt) : State := { s with welt := f s.welt }
def State.onEv (s : State) (f : EventQ → EventQ) : State := { s with ev := f s.ev }

/-- STITCH_COUNT (R68). -/
def State.count (s : State) : Word := BitVec.ofNat 36 s.stitch.n

/-- The stamp an event takes: bits 14:0 of STITCH_COUNT (R122). -/
def State.stamp (s : State) : Nat := s.stitch.n % 2 ^ 15

/-- The next free number of the free values (a value the spec leaves open), with the counter advanced. -/
def State.takeFresh (s : State) : Nat × State := (s.fresh, { s with fresh := s.fresh + 1 })

/-! ### The table store -/

/-- The word an address holds: the stored one, or its reset word. -/
def Store.get (st : Store) (a : Nat) : Word :=
  match st.find? (fun c => c.1 == a) with
  | some c => c.2
  | none => resetWord a

/-- Insert in address order, replacing an entry of the same address. -/
def Store.insert (a : Nat) (w : Word) : Store → Store
  | [] => [(a, w)]
  | c :: rest => if a < c.1 then (a, w) :: c :: rest else if a = c.1 then (a, w) :: rest else c :: Store.insert a w rest

/-- Store a word, keeping the canonical form: addresses rising, no entry equal to its reset word. -/
def Store.set (st : Store) (a : Nat) (w : Word) : Store :=
  if w = resetWord a then st.filter (fun c => c.1 != a) else Store.insert a w st

/-- Addresses strictly rising and no entry equal to its reset word. -/
def Store.wf : Store → Bool
  | [] => true
  | c :: rest => c.2 != resetWord c.1 && (rest.all fun d => c.1 < d.1) && Store.wf rest

/-- Value in force of a field of an object (R113). -/
def State.cfg (s : State) (o : Obj) (f : Field) : Nat := f.get (s.tbl.force.get (o.base + f.off))

/-- Signed value in force of a field (R8). -/
def State.cfgS (s : State) (o : Obj) (f : Field) : Int := f.getS (s.tbl.force.get (o.base + f.off))

/-- One-bit field in force. -/
def State.cfgB (s : State) (o : Obj) (f : Field) : Bool := s.cfg o f = 1

/-- The word at an address as stored in its shadow copy, where it has one. -/
def State.shadowWord (s : State) (a : Nat) : Word := s.tbl.shadow.get a

/-- Store a word that is not shadowed: in force at once, both copies alike. -/
def State.setWord (s : State) (a : Nat) (w : Word) : State :=
  { s with tbl := { s.tbl with shadow := s.tbl.shadow.set a w, force := s.tbl.force.set a w } }

/-- A word with a field replaced. -/
def Field.set (f : Field) (v : Nat) (w : Word) : Word := (w &&& ~~~ f.mask) ||| f.put v

/-- Write a field in force and in shadow together; other fields of the word keep their values in each copy. -/
def State.putCfg (s : State) (o : Obj) (f : Field) (v : Nat) : State :=
  let a := o.base + f.off
  { s with tbl := { s.tbl with shadow := s.tbl.shadow.set a (f.set v (s.tbl.shadow.get a)),
                               force := s.tbl.force.set a (f.set v (s.tbl.force.get a)),
                               due := s.tbl.due.map fun d => if d.1 = a then (a, f.set v d.2) else d } }

/-- OTP word `i` as read at start-up (R478). -/
def State.otp (s : State) (i : Nat) : Word := at' s.sec.otp.words i

/-! ### Refusals and notes (R112, R114, R115) -/

def rcUnmapped : Nat := 0x01
def rcRange : Nat := 0x02
def rcState : Nat := 0x03
def rcOwner : Nat := 0x04
def rcBinding : Nat := 0x05
def rcLocked : Nat := 0x06
def rcCeiling : Nat := 0x07
def rcProt : Nat := 0x08
def rcRevision : Nat := 0x09
def rcBusy : Nat := 0x0A
def rcReadonly : Nat := 0x0B
def rcRetired : Nat := 0x0C
def noteIgnWl : Nat := 0x40
def noteIgnOt : Nat := 0x41
def noteUnmappedRd : Nat := 0x42

/-- Record a refusal of port `p`'s current operation in its TBL_CTL (R112). -/
def State.refuse (s : State) (p rc : Nat) (tbl : Bool) : State :=
  s.onPort p fun q => { q with noteCode := rc, noteTbl := tbl, refusedBit := true, noteIdx := q.opIdx, noteSeq := q.frameSeq }

/-- Record a note of port `p`'s current operation (R115). -/
def State.noteAccess (s : State) (p rc : Nat) (tbl : Bool) : State :=
  s.onPort p fun q => { q with noteCode := rc, noteTbl := tbl, notedBit := true, noteIdx := q.opIdx, noteSeq := q.frameSeq }

/-! ### Events (R122..R126) -/

/-- Entries an event occupies: its word and its arguments. -/
def Event.size (e : Event) : Nat := 1 + e.args.length

/-- The event word of R122. -/
def Event.word (e : Event) : Word :=
  field 35 32 e.cls ||| field 31 20 e.code ||| field 19 15 e.lane ||| field 14 0 e.stamp

/-- Whether an event of a class is due to port `p` (R102). -/
def State.dueTo (s : State) (p cls : Nat) : Bool :=
  (s.port p).everUp && (cls == 1 || (s.port p).classEn.getLsbD cls)

def Event.dueP (e : Event) (p : Nat) : Bool := if p = 0 then e.due0 else e.due1
def Event.flyP (e : Event) (p : Nat) : Bool := if p = 0 then e.fly0 else e.fly1
def Event.takenP (e : Event) (p : Nat) : Bool := if p = 0 then e.taken0 else e.taken1
def Event.setFly (e : Event) (p : Nat) (b : Bool) : Event := if p = 0 then { e with fly0 := b } else { e with fly1 := b }

/-- Port `p` has taken the event: it is no longer due nor in flight there (R124). -/
def Event.take (e : Event) (p : Nat) : Event :=
  if p = 0 then { e with due0 := false, fly0 := false, taken0 := true }
  else { e with due1 := false, fly1 := false, taken1 := true }

/-- Still due to a port. -/
def Event.due (e : Event) : Bool := e.due0 || e.due1

/-- Occupied entries of the EMERGENCY reserve and of the rest (R126). -/
def EventQ.emergUsed (q : EventQ) : Nat := (q.entries.filter (fun e => e.cls == 1)).foldl (fun n e => n + e.size) 0
def EventQ.otherUsed (q : EventQ) : Nat := (q.entries.filter (fun e => e.cls != 1)).foldl (fun n e => n + e.size) 0

/-- Free the entries every due port has taken (R124). -/
def EventQ.free (q : EventQ) : EventQ := { q with entries := q.entries.filter Event.due }

/-- Count a lost event to the ports an event was due to (R125). -/
def State.countLost (s : State) (due0 due1 : Bool) : State :=
  let s := if due0 then s.onPort 0 fun q => { q with lost := satInc 255 q.lost } else s
  if due1 then s.onPort 1 fun q => { q with lost := satInc 255 q.lost } else s

/-- Held only for ports that are not in UP (R125 step 1). -/
def State.heldForDown (s : State) (e : Event) : Bool :=
  e.cls != 1 && (!e.due0 || (s.port 0).st != .up) && (!e.due1 || (s.port 1).st != .up)

/-- Release events held only for ports not in UP, oldest first, until `need` entries fit; at most `fuel` of them. -/
def State.releaseFor (need : Nat) : Nat → State → State
  | 0, s => s
  | fuel + 1, s =>
    if s.ev.otherUsed + need ≤ 224 then s
    else match s.ev.entries.find? s.heldForDown with
      | none => s
      | some e =>
        State.releaseFor need fuel
          ((s.countLost e.due0 e.due1).onEv fun q => { q with entries := q.entries.filter fun d => d.id != e.id })

/-- Append an event to the queue; it takes no entry where it is due to no port. EVT_PEND sets for every class selected, EMERGENCY
among them, and for an event due to no port as well (R96, R97; DESIGN CHOICE: the rule says "is queued"). -/
def State.appendEvent (s : State) (e : Event) : State :=
  let s := if s.dev.classMask.getLsbD e.cls then s.onDev fun d => { d with evtPend := true } else s
  s.onEv fun q => if e.due then { q with entries := q.entries ++ [e] } else q

/-- JOB, FENCE, LANE and GATE events are never discarded (R125). -/
def neverLost (cls : Nat) : Bool := 2 ≤ cls && cls ≤ 5

/-- Releases pause at 2048 held-back events and go on below 1024 (R125). -/
def EventQ.setPaused (q : EventQ) : EventQ :=
  { q with paused := if 2048 ≤ q.store.length then true else if q.store.length < 1024 then false else q.paused }

/-- Queue held-back events, oldest first, while room for them is there or can be made; `n` bounds them. -/
def State.queueHeld : Nat → State → State
  | 0, s => s
  | n + 1, s =>
    match s.ev.store with
    | [] => s
    | e :: rest =>
      let s := s.releaseFor e.size 224
      if s.ev.otherUsed + e.size ≤ 224 then
        State.queueHeld n ((s.onEv fun q => EventQ.setPaused { q with store := rest }).appendEvent e)
      else s

/-- Queue a non-EMERGENCY event, hold it back or lose it (R125). One due to no port needs no entry; one of a class that is
never lost goes behind those held back already. -/
def State.queueEvent (s : State) (e : Event) : State :=
  if !e.due then s.appendEvent e
  else if neverLost e.cls && !s.ev.store.isEmpty then
    (s.onEv fun q => EventQ.setPaused { q with store := q.store ++ [e] }).queueHeld (s.ev.store.length + 1)
  else
    let s := s.releaseFor e.size 224
    if s.ev.otherUsed + e.size ≤ 224 then s.appendEvent e
    else if neverLost e.cls then s.onEv fun q => EventQ.setPaused { q with store := q.store ++ [e] }
    else s.countLost e.due0 e.due1

/-- The new event would be merged into `d` (R125): same class, code and lane, neither taken nor in flight anywhere. -/
def Event.merges (d : Event) (cls code lane : Nat) : Bool :=
  d.cls == cls && d.code == code && d.lane == lane && !(d.taken0 || d.taken1 || d.fly0 || d.fly1)

/-- Raise an event of any class: stamp it, work out whom it is due to, and queue, merge, hold back or lose it. -/
def State.raise (s : State) (cls code lane : Nat) (args : List Word) : State :=
  let e : Event := { id := s.ev.nextId, cls := cls, code := code, lane := lane, stamp := s.stamp, args := args,
                     due0 := s.dueTo 0 cls, due1 := s.dueTo 1 cls, fly0 := false, fly1 := false,
                     taken0 := false, taken1 := false, recovery := false }
  let s := s.onEv fun q => { q with nextId := q.nextId + 1 }
  if cls = 1 then
    let s := s.onDev fun d => { d with emergPend := true }
    if s.ev.entries.any (fun d => d.merges cls code lane) then s
    else if s.ev.emergUsed < 32 then s.appendEvent e
    else s.countLost e.due0 e.due1
  else s.queueEvent e

/-- A sensor input is judged broken: SENSOR_BROKEN with its index, and THERM_STAT.BROKEN (R291, R398, R434, R446; the bit is set
for every kind of sensor, DEDUCED). -/
def State.sensorBroken (s : State) (arg : Word) : State :=
  ({ s with sup := { s.sup with broken := true } }).raise 10 8 31 [arg]

/-- Events of the classes with a job's sequence number as their argument. -/
def State.raiseJob (s : State) (code lane : Nat) (job : Word) : State := s.raise 2 code lane [job]

/-- The UARTs have their clock and power (R498, R517). -/
def State.uartsRun (s : State) : Bool := !s.power.pllU && s.power.st == .run

/-- The host ports receive: start-up has enabled them, which it never does in factory test mode (R523, R552). -/
def State.hears (s : State) : Bool := s.power.hostOn && s.uartsRun

/-- The duties of job core `k` are served: by it, or by the other where it is retired; while the core restarts they pause, and
before start-up has enabled the host ports none has begun (R34, R35, R523). -/
def State.dutyRuns (s : State) (k : Nat) : Bool :=
  let c := at' s.dev.cores k
  s.power.hostOn && if c = .retired then at' s.dev.cores (1 - k) = .running ∨ at' s.dev.cores (1 - k) = .probation else c ≠ .restarting

/-! ### Jobs and records -/

/-- The accepted job with a sequence number. -/
def State.job? (s : State) (seq : Word) : Option Job := s.jobs.table.find? (fun j => j.seq == seq)

/-- Apply `f` to the job with a sequence number. -/
def State.onJob (s : State) (seq : Word) (f : Job → Job) : State :=
  s.onJobs fun js => { js with table := js.table.map fun j => if j.seq = seq then f j else j }

/-- Apply `f` to the status of one record of a job. -/
def State.onRec (s : State) (seq : Word) (idx : Nat) (f : RecStatus → RecStatus) : State :=
  s.onJob seq fun j => { j with status := j.status.modify idx f }

/-- Status of one record; a finished one where there is no such record. -/
def State.recStatus (s : State) (seq : Word) (idx : Nat) : RecStatus :=
  match s.job? seq with
  | some j => j.status.getD idx ⟨.ended, .none, 0, 0, true⟩
  | none => ⟨.ended, .none, 0, 0, true⟩

/-- A record is finished: ENDED or CANCELLED. -/
def RecStatus.finished (r : RecStatus) : Bool := r.outcome = .ended || r.outcome = .cancelled

/-- A gate that is neither ARMED nor IN_DOUBT. -/
def GateState.settled : GateState → Bool
  | .armed => false
  | .inDoubt => false
  | _ => true

/-- Its gate, where it has one, is settled DONE (R153). -/
def GateState.settledDone : GateState → Bool
  | .none | .doneEvidence | .doneEnded | .resolvedDone => true
  | _ => false

/-! ### Marks and welt writes (R158..R171) -/

/-- Ask for an entry to be written after those already waiting (R159). -/
def State.writeEntry (s : State) (kind port : Nat) (seq : Word) (body : List Word) (act : OnCommit) : State :=
  s.onWelt fun w => { w with wq := w.wq ++ [⟨entryWords kind w.jepoch port seq body, act⟩] }

/-- The mark word of R162. -/
def Mark.word (m : Mark) : Word :=
  field 35 32 m.code ||| field 31 20 m.idx ||| field 19 12 m.arg ||| field 11 0 (m.job.toNat % 2 ^ 12)

/-- The job of a mark lies within −2048..2047 of the entry's SEQ (R162). -/
def Mark.near (m : Mark) (seq : Word) : Bool :=
  let d := (m.job - seq).toInt
  d ≤ 2047 && -2048 ≤ d

/-- MARKS entries for waiting marks, in their order, each of at most 8 marks near its SEQ (R161, R162). -/
def packMarks : List Mark → List (Word × List Mark)
  | [] => []
  | m :: rest =>
    match packMarks rest with
    | [] => [(m.job, [m])]
    | (q, ms) :: more =>
      if ms.length < 8 && ms.all (fun k => k.near m.job) then (m.job, m :: ms) :: more else (m.job, [m]) :: (q, ms) :: more

/-- The port a job came from, as an entry's PORT (3 for none). -/
def State.portOf (s : State) (seq : Word) : Nat :=
  match s.job? seq with
  | some j => j.port
  | none => 3

/-- Flush the waiting marks into MARKS entries (R169). -/
def State.flushMarks (s : State) : State :=
  let es := packMarks s.welt.marks
  (es.foldl (fun s e => s.writeEntry 0x3 (s.portOf e.1) e.1 (e.2.map Mark.word) (.marks e.2)) s).onWelt
    fun w => { w with marks := [] }

/-- Queue a mark; eight waiting marks are flushed (R169). -/
def State.queueMark (s : State) (code idx arg : Nat) (job : Word) : State :=
  let s := s.onWelt fun w => { w with marks := w.marks ++ [⟨code, idx, arg, job⟩] }
  if 8 ≤ s.welt.marks.length then s.flushMarks else s

/-! ### Gates (R163, R171..R175, R188) -/

/-- The gate list entry of a record. -/
def State.gate? (s : State) (job : Word) (idx : Nat) : Option Gate :=
  (s.welt.gates.toList.find? fun g => match g with | some g => g.job == job && g.idx == idx | none => false).join

/-- Apply `f` to the gate list entry of a record. -/
def State.onGate (s : State) (job : Word) (idx : Nat) (f : Gate → Option Gate) : State :=
  s.onWelt fun w => { w with gates := w.gates.map fun g =>
    match g with
    | some g => if g.job = job ∧ g.idx = idx then f g else some g
    | none => none }

/-- The lowest-numbered empty entry of the gate list. -/
def State.freeGate (s : State) : Option Nat := s.welt.gates.toList.findIdx? (fun g => g.isNone)

/-- The settle words of R163. -/
def settleWords (idx verdict source hint : Nat) (detail : Word) : List Word :=
  [field 35 24 idx ||| field 23 20 verdict ||| field 19 16 source ||| field 15 12 hint, detail]

/-- Ask for a GATE_SETTLE entry of a record. -/
def State.writeSettle (s : State) (job : Word) (idx verdict source hint : Nat) (detail : Word) : State :=
  s.writeEntry 0x5 (s.portOf job) job (settleWords idx verdict source hint detail) .nothing

/-- Evidence for an ARMED gate (R172): an EVIDENCE mark queued and flushed at once, then the settle entry. -/
def State.gateEvidence (s : State) (g : Gate) (detail : Word) : State :=
  if g.doubt || g.settling then s
  else
    let s := s.queueMark 5 g.idx g.source g.job
    let s := s.flushMarks
    let s := s.writeSettle g.job g.idx 1 g.source 0 detail
    s.onGate g.job g.idx fun g => some { g with settling := true }

/-- Evidence of a source counts for every ARMED gate that names it and whose window is open (R172). -/
def State.evidence (s : State) (source srcidx : Nat) (detail : Word) : State :=
  s.welt.gates.toList.foldl
    (fun s g => match g with
      | some g =>
        if g.source == source && g.srcidx == srcidx && g.live && s.stitch.n ≤ g.windowEnd.getD s.stitch.n
        then s.gateEvidence g detail else s
      | none => s) s

end Sys2Proof.Machine
end

