-- ==== Sys2Proof/Machine/Operands.lean ====
section
/-!
DEFINITION. The operands commands carry: job records cut out of the words of a job (R137, R142, R143), the format and
version checks of admission (R141, R144), the lanes a job names (R145).
-/

namespace Sys2Proof.Machine

/-! ### Record words -/

/-- Record types of R141. -/
def tJobBegin : Nat := 0x01
def tJobEnd : Nat := 0x02
def tFence : Nat := 0x03
def tResolve : Nat := 0x04
def tResume : Nat := 0x05
def tLaneOut : Nat := 0x06
def tReAdmit : Nat := 0x07
def tPrint : Nat := 0x10
def tFeed : Nat := 0x11
def tCut : Nat := 0x12
def tScan : Nat := 0x13
def tPattern : Nat := 0x14
def tMove : Nat := 0x20
def tHome : Nat := 0x21
def tGear : Nat := 0x22
def tDcRun : Nat := 0x23
def tSolRun : Nat := 0x30
def tSolDiag : Nat := 0x31
def tAuxXfer : Nat := 0x40
def tNote : Nat := 0x41

/-- TYPE and LEN of a header word (R137). -/
def hdrType (w : Word) : Nat := bits w 35 28
def hdrLen (w : Word) : Nat := bits w 27 20

/-- The record a header and its payload make, its trailers taken off (R143). -/
def recOf (h : Word) (payload : List Word) : Rec :=
  let gate := bit h 14
  let tmo := bit h 13
  let n := payload.length
  let body := n - (if gate then 1 else 0) - (if tmo then 1 else 0)
  { typ := hdrType h, lane := bits h 19 15, gate := gate, tmo := tmo, ckpt := bit h 12, tag := bits h 7 0,
    payload := payload.take body,
    timeout := if tmo then payload.getD body 0 else 0,
    gateWord := if gate then payload.getD (n - 1) 0 else 0 }

/-- Cut the words of a job into header and payload pairs; false where the words end within a record. -/
def cutRecords : Nat → List Word → List (Word × List Word) × Bool
  | 0, ws => ([], ws.isEmpty)
  | _ + 1, [] => ([], true)
  | fuel + 1, h :: rest =>
    if rest.length < hdrLen h then ([(h, rest)], false)
    else
      let more := cutRecords fuel (rest.drop (hdrLen h))
      ((h, rest.take (hdrLen h)) :: more.1, more.2)

/-- The records of a job. -/
def jobRecords (ws : List Word) : List Rec := (cutRecords ws.length ws).1.map fun p => recOf p.1 p.2

/-- Payload word `i`, numbered from 1 as in R142; zero where the record is shorter. -/
def Rec.w (r : Rec) (i : Nat) : Word := r.payload.getD (i - 1) 0

/-- A duration word in phase units (R143). -/
def phOf (w : Word) : Nat := bits w 35 12 * 4096 + bits w 11 0

/-! ### The gate word (R143) -/

def Rec.source (r : Rec) : Nat := bits r.gateWord 35 32
def Rec.srcidx (r : Rec) : Nat := bits r.gateWord 31 24
def Rec.window (r : Rec) : Nat := bits r.gateWord 23 0

/-- The masks by which records on lane 31 name lanes (R145). -/
def Rec.mask (r : Rec) : Nat := bits (r.w 1) 18 0

/-- Words of a byte stream of `n` bytes (R6). -/
def streamWords (n : Nat) : Nat := (n + 3) / 4

/-- A byte stream of `n` bytes in a record keeps R7: bits 35:32 zero, unused bytes of the last word zero. -/
def streamOk (n : Nat) (ws : List Word) : Bool :=
  ws.length == streamWords n && ws.all (fun w => bits w 35 32 == 0) &&
    (n % 4 == 0 || (match ws.getLast? with | some w => bits w 31 (8 * (n % 4)) == 0 | none => true))

/-- The fields of a PRINT after its first word: `k` of them, each a header and its bytes; the words are used up. -/
def printFieldsOk : Nat → List Word → Bool
  | 0, ws => ws.isEmpty
  | _ + 1, [] => false
  | k + 1, h :: rest =>
    let n := bits h 11 0
    bits h 35 32 == 0 && bits h 23 12 == 0 && streamOk n (rest.take (streamWords n)) && streamWords n ≤ rest.length &&
      printFieldsOk k (rest.drop (streamWords n))

/-- The lanes a type may name (R141). -/
def laneOk (typ lane : Nat) : Bool :=
  if typ ≤ 0x07 then lane == 31
  else if typ ≤ 0x14 then lane ≤ 1
  else if typ ≤ 0x23 then 2 ≤ lane && lane ≤ 13
  else if typ ≤ 0x31 then 14 ≤ lane && lane ≤ 17
  else lane == 18

/-- Flags allowed for a type: gate, timeout, checkpoint (R141). -/
def flagsOk (r : Rec) : Bool :=
  let g := r.typ == 0x11 || r.typ == 0x12 || r.typ == 0x20 || r.typ == 0x23 || r.typ == 0x30
  let c := g || r.typ == 0x10 || r.typ == 0x13 || r.typ == 0x14 || r.typ == 0x21 || r.typ == 0x22 || r.typ == 0x31 || r.typ == 0x40
  let t := c || r.typ == 0x03 || r.typ == 0x07
  (!r.gate || g) && (!r.ckpt || c) && (!r.tmo || t)

/-- The gate word is allowed for its record (R143). -/
def gateWordOk (r : Rec) : Bool :=
  !r.gate ||
    (r.source ≤ 4 && 1 ≤ r.window &&
      (if r.source == 1 || r.source == 2 then r.srcidx ≤ 7
       else if r.source == 3 then r.typ == 0x30 && r.srcidx == (r.lane - 14) * 8 + bits (r.w 1) 2 0
       else if r.source == 4 then r.typ == 0x12 && r.srcidx == 0
       else r.srcidx == 0))

/-- The payload before trailers has the length, reserved zeros and values R142 gives its type. -/
def payloadOk (r : Rec) : Bool :=
  let n := r.payload.length
  let w := r.w
  match r.typ with
  | 0x01 => n == 2 && bits (w 1) 31 12 == 0
  | 0x02 => n ≤ 1 && bits (w 1) 35 32 == 0
  | 0x03 => n == 1 && bits (w 1) 35 34 != 0 && bits (w 1) 33 19 == 0 && r.mask != 0
  | 0x04 => n == 2 && (bits (w 1) 35 34 == 1 || bits (w 1) 35 34 == 2) && bits (w 1) 33 12 == 0
  | 0x05 =>
    let op := bits (w 1) 35 32
    n == 2 && 1 ≤ op && op ≤ 6 && !bit (w 1) 19 &&
      (if op == 4 || op == 5 then r.mask == 0 else r.mask != 0 && bits (w 1) 31 20 == 0) &&
      (4 ≤ op || w 2 == 0)
  | 0x06 => n == 1 && bits (w 1) 34 19 == 0 && r.mask != 0
  | 0x07 => n == 1 && bits (w 1) 35 19 == 0 && r.mask != 0
  | 0x10 => 1 ≤ n && bits (w 1) 35 32 == 0 && 1 ≤ bits (w 1) 31 24 && bits (w 1) 23 16 ≤ 63 && bits (w 1) 15 12 == 0 &&
      printFieldsOk (bits (w 1) 23 16) (r.payload.drop 1)
  | 0x11 => n == 1 && bits (w 1) 35 34 != 3 && bits (w 1) 33 32 == 0
  | 0x12 => n == 1 && bits (w 1) 35 32 ≤ 1 && bits (w 1) 31 0 == 0
  | 0x13 => n == 1 && bits (w 1) 35 1 == 0
  | 0x14 => n == 1 && bits (w 1) 35 4 == 0 && 1 ≤ bits (w 1) 3 0 && bits (w 1) 3 0 ≤ 3
  | 0x20 => n == 2 && bits (w 1) 35 34 ≤ 1 && bits (w 1) 33 3 == 0
  | 0x21 => n == 1 && bits (w 1) 35 3 == 0
  | 0x22 =>
    let op := bits (w 1) 35 34
    let m := bits (w 1) 33 30
    let k := bits (w 1) 29 26
    n == 3 && (op == 1 || op == 2) && m ≤ 2 && (if m == 0 then k ≤ 7 else if m == 1 then k ≤ 11 else k ≤ 1) &&
      bits (w 1) 24 0 == 0 && (bit (w 1) 25 || w 3 == 0)
  | 0x23 => n == 2 && bits (w 1) 33 10 == 0 && phOf (w 2) != 0
  | 0x30 => n == 2 && bits (w 1) 34 7 == 0 && !bit (w 1) 3 && (bit (w 1) 35 || w 2 == 0)
  | 0x31 => n == 1 && bits (w 1) 35 9 == 0 && bits (w 1) 7 0 != 0
  | 0x40 =>
    let k := bits (w 1) 11 0
    1 ≤ n && bits (w 1) 33 24 == 0 && k ≤ 1016 && streamOk k (r.payload.drop 1)
  | 0x41 => 1 ≤ n
  | _ => false

/-- One record keeps check 1 of R144 (its place in the job apart). -/
def recFormatOk (h : Word) (payload : List Word) : Bool :=
  let r := recOf h payload
  payload.length == hdrLen h && (if r.gate then 1 else 0) + (if r.tmo then 1 else 0) ≤ payload.length &&
    bits h 11 8 == 0 && laneOk r.typ r.lane && flagsOk r && gateWordOk r && payloadOk r && (!r.tmo || phOf r.timeout != 0)

/-- The first record of a closed job that breaks check 1 of R144: its index and lane. -/
def formatFault (ws : List Word) (wellClosed : Bool) : Option (Nat × Nat) :=
  let cut := cutRecords ws.length ws
  let rs := cut.1
  let n := rs.length
  let bad := rs.zipIdx.find? fun p =>
    let h := p.1.1
    !recFormatOk h p.1.2 || (p.2 == 0) != (hdrType h == tJobBegin) || (p.2 + 1 == n) != (hdrType h == tJobEnd)
  match bad with
  | some p => some (p.2, (recOf p.1.1 p.1.2).lane)
  | none =>
    let crcBad := match rs.getLast? with
      | some (_, [c]) => (crcWords (ws.take (ws.length - 1))).toNat != c.toNat
      | _ => false
    if !cut.2 || !wellClosed || crcBad then some (n - 1, 31) else none

/-- The revision a record needs (R141): type, DURABLE fences, a JOB_END with JCRC. -/
def Rec.revision (r : Rec) : Nat :=
  if r.typ = 0x14 ∨ r.typ = 0x22 ∨ r.typ = 0x23 ∨ r.typ = 0x31 ∨ r.typ = 0x40 ∨ r.typ = 0x41 then 2
  else if r.typ = 0x03 ∧ bits (r.w 1) 35 34 = 2 then 2
  else if r.typ = 0x02 ∧ r.payload.length = 1 then 3
  else 1

/-- Lanes a revision 1 port may not name (R117). -/
def rev1LaneRefused (lane : Nat) : Bool := lane == 1 || (8 ≤ lane && lane ≤ 13) || (15 ≤ lane && lane ≤ 17)

/-- The lanes a record names (R145); for RESOLVE the lane of the gated record. -/
def Rec.lanes (r : Rec) (gatedLane : Word → Nat → Option Nat) : List Nat :=
  if r.typ = tFence ∨ r.typ = tLaneOut ∨ r.typ = tReAdmit then maskList 19 r.mask
  else if r.typ = tResume then maskList 19 r.mask
  else if r.typ = tResolve then (gatedLane (r.w 2) (bits (r.w 1) 11 0)).toList
  else if r.lane < 19 then [r.lane] else []

/-- JOB_BEGIN fields of a job's words (R142). -/
def jobVer (ws : List Word) : Nat := bits (ws.getD 1 0) 35 32
def jobTotal (ws : List Word) : Nat := bits (ws.getD 1 0) 11 0
def jobHref (ws : List Word) : Word := ws.getD 2 0
def jobTag (ws : List Word) : Nat := bits (ws.getD 0 0) 7 0

/-! ### Link operands (R81, R90) -/

/-- Words of a frame that are control or address words. -/
def regAddr (w : Word) : Nat := bits w 5 0

end Sys2Proof.Machine
end

