-- ==== Sys2Proof/Machine/Symbols.lean ====
section
/-!
DEFINITION. Barcode symbols (R212, R213): OPTIONS, the data each symbology takes, quiet zones, the bars of the 1D symbols. The
tables and check digits are those of the standards R213 names, which the spec does not print (PRESUMED).
-/

namespace Sys2Proof.Machine

/-! ### Digits -/

/-- Digits of a string of characters 0x30..0x39; none where another byte stands. -/
def digitsOf (bs : List Nat) : Option (List Nat) := if bs.all fun b => 0x30 ≤ b && b ≤ 0x39 then some (bs.map (· - 0x30)) else none

/-- Modulo 10 check digit: weights 3, 1, 3 … from the last digit on. -/
def mod10 (ds : List Nat) : Nat :=
  (10 - (ds.reverse.zipIdx.foldl (fun n d => n + d.1 * (if d.2 % 2 = 0 then 3 else 1)) 0) % 10) % 10

/-- `n` digits with the check digit added, or `n` + 1 with it verified; `full` widens the digits its rule is taken over. -/
def checked (n : Nat) (full : List Nat → List Nat) (bs : List Nat) : Option (List Nat) :=
  match digitsOf bs with
  | none => none
  | some ds =>
    let c := mod10 (full (ds.take n))
    if ds.length = n then some (ds ++ [c]) else if ds.length = n + 1 ∧ ds.getD n 10 = c then some ds else none

/-! ### EAN and UPC -/

/-- Bits of a number, `n` of them, the highest first. -/
def barBits (n v : Nat) : List Bool := (List.range n).map fun i => v.testBit (n - 1 - i)

/-- The left odd codes of the digits. -/
def eanL : List Nat := [0x0D, 0x19, 0x13, 0x3D, 0x23, 0x31, 0x2F, 0x3B, 0x37, 0x0B]

/-- Seven modules of a digit: left odd, left even (the right code reversed), right (the left odd inverted). -/
def eanOdd (d : Nat) : List Bool := barBits 7 (eanL.getD d 0)
def eanRight (d : Nat) : List Bool := (eanOdd d).map (!·)
def eanEven (d : Nat) : List Bool := (eanRight d).reverse

/-- Left digits under a parity pattern, bit 5 for the first digit, set for even. -/
def eanLeft (par : Nat) (ds : List Nat) : List Bool :=
  ds.zipIdx.flatMap fun d => if par.testBit (5 - d.2) then eanEven d.1 else eanOdd d.1

/-- Even-parity places of the left half of EAN-13, by its first digit; of UPC-E, by its check digit. -/
def ean13Par : List Nat := [0x00, 0x0B, 0x0D, 0x0E, 0x13, 0x19, 0x1C, 0x15, 0x16, 0x1A]
def upcePar : List Nat := [0x38, 0x34, 0x32, 0x31, 0x2C, 0x26, 0x23, 0x2A, 0x29, 0x25]

def guard : List Bool := [true, false, true]
def centre : List Bool := [false, true, false, true, false]

/-- EAN-13 of thirteen digits; UPC-A is the one whose first digit is 0. -/
def ean13Bars (ds : List Nat) : List Bool :=
  guard ++ eanLeft (ean13Par.getD (ds.headD 0) 0) ((ds.drop 1).take 6) ++ centre ++ (ds.drop 7).flatMap eanRight ++ guard

def ean8Bars (ds : List Nat) : List Bool := guard ++ (ds.take 4).flatMap eanOdd ++ centre ++ (ds.drop 4).flatMap eanRight ++ guard

/-- The UPC-A digits behind seven of UPC-E: number system and six data digits. -/
def upceFull (ds : List Nat) : List Nat :=
  let x := ds.drop 1
  let at6 := x.getD 5 0
  ds.take 1 ++
    if at6 < 3 then x.take 2 ++ [at6, 0, 0, 0, 0] ++ (x.drop 2).take 3
    else if at6 = 3 then x.take 3 ++ [0, 0, 0, 0, 0] ++ (x.drop 3).take 2
    else if at6 = 4 then x.take 4 ++ [0, 0, 0, 0, 0] ++ (x.drop 4).take 1
    else x.take 5 ++ [0, 0, 0, 0, at6]

/-- UPC-E of eight digits; number system 1 inverts the parities. -/
def upceBars (ds : List Nat) : List Bool :=
  let p := upcePar.getD (ds.getD 7 0) 0
  guard ++ eanLeft (if ds.headD 0 = 0 then p else 0x3F - p) ((ds.drop 1).take 6) ++ [false, true, false, true, false, true]

/-! ### Interleaved 2 of 5 -/

/-- Wide places of a digit's five elements, bit 4 for the first. -/
def itfWide : List Nat := [0x06, 0x11, 0x09, 0x18, 0x05, 0x14, 0x0C, 0x03, 0x12, 0x0A]

/-- The digits as they are encoded: check digit, then a leading zero to an even count. -/
def itfDigits (check : Bool) (ds : List Nat) : List Nat :=
  let ds := if check then ds ++ [mod10 ds] else ds
  if ds.length % 2 = 0 then ds else 0 :: ds

/-- Element widths of digit pairs, in half modules; narrow is 2. -/
def itfPairs (wide : Nat) : List Nat → List Nat
  | a :: b :: rest =>
    ((List.range 5).flatMap fun i =>
      [if (itfWide.getD a 0).testBit (4 - i) then wide else 2, if (itfWide.getD b 0).testBit (4 - i) then wide else 2]) ++ itfPairs wide rest
  | _ => []

/-- Half modules of element widths, dark first. -/
def runBars : Bool → List Nat → List Bool
  | _, [] => []
  | dark, w :: rest => List.replicate w dark ++ runBars (!dark) rest

def itfBars (wide : Nat) (ds : List Nat) : List Bool := runBars true ([2, 2, 2, 2] ++ itfPairs wide ds ++ [wide, 2, 2])

/-! ### Code 128 -/

/-- Element widths of values 0 to 105, each six digits. -/
def c128Widths : List Nat :=
  [212222, 222122, 222221, 121223, 121322, 131222, 122213, 122312, 132212, 221213, 221312, 231212] ++
  [112232, 122132, 122231, 113222, 123122, 123221, 223211, 221132, 221231, 213212, 223112, 312131] ++
  [311222, 321122, 321221, 312212, 322112, 322211, 212123, 212321, 232121, 111323, 131123, 131321] ++
  [112313, 132113, 132311, 211313, 231113, 231311, 112133, 112331, 132131, 113123, 113321, 133121] ++
  [313121, 211331, 231131, 213113, 213311, 213131, 311123, 311321, 331121, 312113, 312311, 332111] ++
  [314111, 221411, 431111, 111224, 111422, 121124, 121421, 141122, 141221, 112214, 112412, 122114] ++
  [122411, 142112, 142211, 241211, 221114, 413111, 241112, 134111, 111242, 121142, 121241, 114212] ++
  [124112, 124211, 411212, 421112, 421211, 212141, 214121, 412121, 111143, 111341, 131141, 114113] ++
  [114311, 411113, 411311, 113141, 114131, 311141, 411131, 211412, 211214, 211232]

/-- What is encoded: bytes, and 256 for FNC1. -/
def c128Tokens (gs1 : Bool) (bs : List Nat) : List Nat :=
  if gs1 then 256 :: bs.map fun b => if b = 0x1D then 256 else b else bs

/-- Value of a 7-bit character in code set 0 A or 1 B. -/
def c128Value (set c : Nat) : Option Nat :=
  if set = 0 then (if c < 32 then some (c + 64) else if c < 96 then some (c - 32) else none)
  else if set = 1 then (if 32 ≤ c then some (c - 32) else none)
  else none

/-- FNC4 in a code set, and the code that latches a set. -/
def fnc4 (set : Nat) : Nat := if set = 0 then 101 else 100
def latchTo (set : Nat) : Nat := if set = 0 then 101 else if set = 1 then 100 else 99

/-- The shorter of two encodings, the first where they are equal. -/
def shorter (a b : Option (List Nat)) : Option (List Nat) :=
  match a, b with
  | none, b => b
  | a, none => a
  | some x, some y => if y.length < x.length then some y else some x

/-- Codes that take state `i` to state `j`, a state being a set 0..2 in bits 2:1 and the FNC4 latch in bit 0. -/
def c128Move (i j : Nat) : Option (List Nat) :=
  let s := i / 2
  let t := j / 2
  let set := if s = t then [] else [latchTo t]
  if i % 2 = j % 2 then some set
  else if t < 2 then some (set ++ [fnc4 t, fnc4 t])
  else if s < 2 then some ([fnc4 s, fnc4 s] ++ set)
  else none

/-- One byte in state `j`, directly or by a shift. -/
def c128Char (j c : Nat) : Option (List Nat) :=
  let t := j / 2
  if 2 ≤ t then none
  else
    let pre := if (128 ≤ c) = (j % 2 = 1) then [] else [fnc4 t]
    match c128Value t (c % 128) with
    | some v => some (pre ++ [v])
    | none => (c128Value (1 - t) (c % 128)).map fun v => pre ++ [98, v]

/-- The best encodings of what follows, from each state, given those of the rest and of the rest but one. -/
def c128Step (c : Nat) (next : Option Nat) (r1 r2 : List (Option (List Nat))) : List (Option (List Nat)) :=
  let here : List (Option (List Nat)) := (List.range 6).map fun j =>
    let more (r : List (Option (List Nat))) (v : List Nat) : Option (List Nat) := (r.getD j none).map fun x => v ++ x
    if c = 256 then more r1 [102]
    else if j / 2 = 2 then
      match next with
      | some d => if 0x30 ≤ c ∧ c ≤ 0x39 ∧ 0x30 ≤ d ∧ d ≤ 0x39 then more r2 [(c - 0x30) * 10 + (d - 0x30)] else none
      | none => none
    else (c128Char j c).bind (more r1)
  (List.range 6).map fun i =>
    (List.range 6).foldl (fun b j => shorter b ((c128Move i j).bind fun m => (here.getD j none).map fun x => m ++ x)) (here.getD i none)

/-- The best encodings from each state, of a list of tokens and of its tail. -/
def c128Best : List Nat → List (Option (List Nat)) × List (Option (List Nat))
  | [] => (List.replicate 6 (some []), List.replicate 6 none)
  | c :: rest =>
    let r := c128Best rest
    (c128Step c rest.head? r.1 r.2, r.1)

/-- Values of the least symbol: start, data, check character. Of encodings of one length the one with the earlier set wins
(DESIGN CHOICE: R213 asks for least length). -/
def c128Values (ts : List Nat) : Option (List Nat) :=
  let b := (c128Best ts).1
  let starts := [0, 1, 2].map fun s => (b.getD (2 * s) none).map fun x => (103 + s) :: x
  (starts.foldl shorter none).map fun vs =>
    vs ++ [(vs.zipIdx.foldl (fun n v => n + v.1 * max 1 v.2) 0) % 103]

/-- Six element widths of a value. -/
def c128Runs (v : Nat) : List Nat := (List.range 6).map fun i => c128Widths.getD v 0 / 10 ^ (5 - i) % 10

def c128Bars (vs : List Nat) : List Bool := runBars true (vs.flatMap c128Runs ++ [2, 3, 3, 1, 1, 1, 2])

/-! ### 1D symbols -/

/-- Quiet zone left and right, in modules (R213). -/
def quiet1 (symb : Nat) : Nat × Nat :=
  match symb with
  | 1 => (10, 10) | 2 => (11, 7) | 3 => (7, 7) | 4 => (9, 9) | 5 => (9, 7) | _ => (10, 10)

/-- Every module as two half modules. -/
def doubled (ms : List Bool) : List Bool := ms.flatMap fun m => [m, m]

/-- Width of a wide element of Interleaved 2 of 5 in half modules. -/
def itfWideOf (options : Nat) : Nat := 4 + options % 4

/-- Half modules of a 1D symbol without its quiet zone; none where the content cannot be encoded. -/
def bars1 (symb options : Nat) (bs : List Nat) : Option (List Bool) :=
  match symb with
  | 1 => if bs.isEmpty then none else (c128Values (c128Tokens (options.testBit 0) bs)).map fun v => doubled (c128Bars v)
  | 2 => (checked 12 id bs).map fun ds => doubled (ean13Bars ds)
  | 3 => (checked 7 id bs).map fun ds => doubled (ean8Bars ds)
  | 4 => (checked 11 id bs).map fun ds => doubled (ean13Bars (0 :: ds))
  | 5 => if bs.headD 0 = 0x30 ∨ bs.headD 0 = 0x31 then (checked 7 upceFull bs).map fun ds => doubled (upceBars ds) else none
  | 6 => if bs.isEmpty then none else (digitsOf bs).map fun ds => itfBars (itfWideOf options) (itfDigits (options.testBit 2) ds)
  | _ => none

/-- Half modules of a 1D symbol with its quiet zones. -/
def symbol1 (symb options : Nat) (bs : List Nat) : Option (List Bool) :=
  (bars1 symb options bs).map fun b =>
    List.replicate (2 * (quiet1 symb).1) false ++ b ++ List.replicate (2 * (quiet1 symb).2) false

/-- Half modules of the largest 1D symbol that `n` bytes make, each taken as one symbol character, quiet zones included
(R209; DEDUCED for Code 128 and Interleaved 2 of 5, whose OPTIONS bound no size). -/
def width1 (symb options n : Nat) : Nat :=
  2 * ((quiet1 symb).1 + (quiet1 symb).2) +
    match symb with
    | 1 => 2 * (11 * (n + 2 + if options.testBit 0 then 1 else 0) + 13)
    | 2 => 190 | 3 => 134 | 4 => 190 | 5 => 102
    | _ =>
      let d := n + if options.testBit 2 then 1 else 0
      8 + (d + d % 2) / 2 * (12 + 4 * itfWideOf options) + itfWideOf options + 4

/-! ### OPTIONS (R213) -/

/-- OPTIONS and XDIM are of R213; bits it does not name are zero (DEDUCED from R204..R207, whose unnamed bits are). -/
def optionsOk (symb options xdim : Nat) : Bool :=
  match symb with
  | 1 => options < 2
  | 2 | 3 | 4 | 5 => options == 0
  | 6 => options < 16 && options % 4 != 3 && (options % 4 != 1 || xdim % 2 == 0)
  | 7 => options < 1024 && (options % 16 ≤ 8 || options % 16 == 15) && options / 16 % 32 ≤ 30
  | 8 => options < 4096 && 1 ≤ options / 4 % 64 && options / 4 % 64 ≤ 40 && options / 256 ≤ 8
  | 9 => options < 128 && options % 64 ≤ 30
  | 10 => options < 16384 && (options % 128 == 0 || (5 ≤ options % 128 && options % 128 ≤ 95)) && options / 128 % 64 ≤ 32
  | _ => false

/-! ### The largest 2D symbols (R209, R213) -/

/-- Quiet zone of a 2D symbol on each side, in modules. -/
def quiet2 (symb : Nat) : Nat := match symb with | 7 => 2 | 8 => 4 | 9 => 1 | _ => 0

/-- Columns and rows of the largest symbol OPTIONS allow, without quiet zone: PDF417 with 30 columns or those named, and 90 rows
or as many as 928 codewords fill; the last version, size or layer count of the others. -/
def largest2 (symb options : Nat) : Nat × Nat :=
  match symb with
  | 7 =>
    let c := options / 16 % 32
    (17 * (if c = 0 then 30 else c) + if options.testBit 9 then 35 else 69, if c = 0 then 90 else min 90 (928 / c))
  | 8 => let v := options / 4 % 64; (17 + 4 * v, 17 + 4 * v)
  | 9 =>
    let n := options % 64
    if 25 ≤ n then [(18, 8), (32, 8), (26, 12), (36, 12), (36, 16), (48, 16)].getD (n - 25) (0, 0)
    else
      let k := [10, 12, 14, 16, 18, 20, 22, 24, 26, 32, 36, 40, 44, 48, 52, 64, 72, 80, 88, 96, 104, 120, 132, 144].getD
        ((if n = 0 then 24 else n) - 1) 0
      (k, k)
  | _ =>
    let l := options / 128 % 64
    let l := if l = 0 then 32 else l
    let k := 15 + 4 * l + 2 * ((6 + 2 * l) / 15)
    (k, k)

end Sys2Proof.Machine
end

