-- ==== Sys2Proof/Machine/QrCode.lean ====
section
/-!
DEFINITION. QR Code model 2 (R213, ISO/IEC 18004): mode, least version, codewords with their error correction, placement,
masks. Its tables are the standard's, which the spec does not print (PRESUMED).
-/

namespace Sys2Proof.Machine

/-! ### Data codewords -/

/-- Place in the 45-character set. -/
def qrAlnum (b : Nat) : Option Nat :=
  if 0x30 ≤ b ∧ b ≤ 0x39 then some (b - 0x30)
  else if 0x41 ≤ b ∧ b ≤ 0x5A then some (b - 0x41 + 10)
  else ([0x20, 0x24, 0x25, 0x2A, 0x2B, 0x2D, 0x2E, 0x2F, 0x3A].findIdx? (· == b)).map (· + 36)

/-- Mode of a content: 0 numeric, 1 alphanumeric, 2 byte. -/
def qrMode (bs : List Nat) : Nat :=
  if bs.all fun b => 0x30 ≤ b && b ≤ 0x39 then 0 else if bs.all fun b => (qrAlnum b).isSome then 1 else 2

/-- Width of the character count of a mode in a version. -/
def qrCountBits (mode v : Nat) : Nat :=
  let g := if v ≤ 9 then 0 else if v ≤ 26 then 1 else 2
  [[10, 12, 14], [9, 11, 13], [8, 16, 16]].getD mode [] |>.getD g 0

/-- Numeric bits: three digits in ten bits, two in seven, one in four. -/
def qrNumeric : List Nat → List Bool
  | a :: b :: c :: rest => barBits 10 (a * 100 + b * 10 + c) ++ qrNumeric rest
  | [a, b] => barBits 7 (a * 10 + b)
  | [a] => barBits 4 a
  | [] => []

/-- Alphanumeric bits: two characters in eleven bits, one in six. -/
def qrPairs : List Nat → List Bool
  | a :: b :: rest => barBits 11 (a * 45 + b) ++ qrPairs rest
  | [a] => barBits 6 a
  | [] => []

/-- Mode indicator, count and data. -/
def qrBits (v : Nat) (bs : List Nat) : List Bool :=
  let m := qrMode bs
  barBits 4 (2 ^ m) ++ barBits (qrCountBits m v) bs.length ++
    (if m = 0 then qrNumeric (bs.map (· - 0x30)) else if m = 1 then qrPairs (bs.map fun b => (qrAlnum b).getD 0) else bs.flatMap (barBits 8))

/-- Error correction codewords of a block, by level L, M, Q, H and version. -/
def qrEcc : List (List Nat) :=
  [[7, 10, 15, 20, 26, 18, 20, 24, 30, 18, 20, 24, 26, 30, 22, 24, 28, 30, 28, 28, 28, 28, 30, 30, 26, 28, 30, 30, 30, 30, 30, 30, 30, 30, 30, 30, 30, 30, 30, 30]] ++
  [[10, 16, 26, 18, 24, 16, 18, 22, 22, 26, 30, 22, 22, 24, 24, 28, 28, 26, 26, 26, 26, 28, 28, 28, 28, 28, 28, 28, 28, 28, 28, 28, 28, 28, 28, 28, 28, 28, 28, 28]] ++
  [[13, 22, 18, 26, 18, 24, 18, 22, 20, 24, 28, 26, 24, 20, 30, 24, 28, 28, 26, 30, 28, 30, 30, 30, 30, 28, 30, 30, 30, 30, 30, 30, 30, 30, 30, 30, 30, 30, 30, 30]] ++
  [[17, 28, 22, 16, 22, 28, 26, 26, 24, 28, 24, 28, 22, 24, 24, 30, 28, 28, 26, 28, 30, 24, 30, 30, 30, 30, 30, 30, 30, 30, 30, 30, 30, 30, 30, 30, 30, 30, 30, 30]]

/-- Blocks, by level and version. -/
def qrBlocks : List (List Nat) :=
  [[1, 1, 1, 1, 1, 2, 2, 2, 2, 4, 4, 4, 4, 4, 6, 6, 6, 6, 7, 8, 8, 9, 9, 10, 12, 12, 12, 13, 14, 15, 16, 17, 18, 19, 19, 20, 21, 22, 24, 25]] ++
  [[1, 1, 1, 2, 2, 4, 4, 4, 5, 5, 5, 8, 9, 9, 10, 10, 11, 13, 14, 16, 17, 17, 18, 20, 21, 23, 25, 26, 28, 29, 31, 33, 35, 37, 38, 40, 43, 45, 47, 49]] ++
  [[1, 1, 2, 2, 4, 4, 6, 6, 8, 8, 8, 10, 12, 16, 12, 17, 16, 18, 21, 20, 23, 23, 25, 27, 29, 34, 34, 35, 38, 40, 43, 45, 48, 51, 53, 56, 59, 62, 65, 68]] ++
  [[1, 1, 2, 4, 4, 4, 5, 6, 8, 8, 11, 11, 16, 16, 18, 16, 19, 21, 25, 25, 25, 34, 30, 32, 35, 37, 40, 42, 45, 48, 51, 54, 57, 60, 63, 66, 70, 74, 77, 81]]

/-- Codewords of a version. -/
def qrTotal (v : Nat) : Nat :=
  let a := v / 7 + 2
  ((16 * v + 128) * v + 64 - (if 2 ≤ v then (25 * a - 10) * a - 55 else 0) - (if 7 ≤ v then 36 else 0)) / 8

def qrEccOf (l v : Nat) : Nat := (qrEcc.getD l []).getD (v - 1) 0
def qrBlocksOf (l v : Nat) : Nat := (qrBlocks.getD l []).getD (v - 1) 0

/-- Data codewords of a version and level. -/
def qrRoom (l v : Nat) : Nat := qrTotal v - qrEccOf l v * qrBlocksOf l v

/-- The least version up to `top` that holds the content. -/
def qrVersion (l top : Nat) (bs : List Nat) : Option Nat :=
  ((List.range top).map (· + 1)).find? fun v => (qrBits v bs).length ≤ 8 * qrRoom l v

/-- Bits as codewords, `n` of them. -/
def qrBytes : Nat → List Bool → List Nat
  | 0, _ => []
  | n + 1, b => (b.take 8).foldl (fun v x => 2 * v + if x then 1 else 0) 0 :: qrBytes n (b.drop 8)

/-- The data codewords: terminator, padding to a codeword, then 0xEC and 0x11 in turn. -/
def qrData (l v : Nat) (bs : List Nat) : List Nat :=
  let n := qrRoom l v
  let b := qrBits v bs
  let b := b ++ List.replicate (min 4 (8 * n - b.length)) false
  let b := b ++ List.replicate ((8 - b.length % 8) % 8) false
  let k := b.length / 8
  qrBytes k b ++ (List.range (n - k)).map fun i => if i % 2 = 0 then 0xEC else 0x11

/-! ### Error correction -/

/-- Product in GF(256) under 0x11D. -/
def gfMul (x y : Nat) : Nat :=
  (List.range 8).foldl (fun z i =>
    let z := z * 2
    let z := if 256 ≤ z then z ^^^ 0x11D else z
    if y.testBit (7 - i) then z ^^^ x else z) 0

/-- Generator polynomial of a degree, leading term left out; `root` is the last power of 2 taken. -/
def rsGenerator : Nat → Nat → List Nat → List Nat
  | 0, _, p => p
  | n + 1, root, p => rsGenerator n (gfMul root 2) (((p ++ [0]).zip (1 :: p)).map fun (c : Nat × Nat) => c.1 ^^^ gfMul root c.2)

/-- The remainder of data by a generator. -/
def rsRemainder (gen : List Nat) (data : List Nat) : List Nat :=
  data.foldl (fun r b =>
    let f := b ^^^ r.headD 0
    ((r.tail ++ [0]).zip gen).map fun (c : Nat × Nat) => c.1 ^^^ gfMul f c.2) (List.replicate gen.length 0)

/-- Data cut into blocks: short ones first. -/
def qrCut (len : Nat) : Nat → Nat → List Nat → List (List Nat)
  | 0, 0, _ => []
  | 0, m + 1, d => d.take (len + 1) :: qrCut len 0 m (d.drop (len + 1))
  | n + 1, m, d => d.take len :: qrCut len n m (d.drop len)

/-- Blocks read across. -/
def qrWeave (len : Nat) (bs : List (List Nat)) : List Nat := (List.range len).flatMap fun i => bs.filterMap fun b => b[i]?

/-- All codewords in the order in which they are placed. -/
def qrCodewords (l v : Nat) (bs : List Nat) : List Nat :=
  let k := qrBlocksOf l v
  let e := qrEccOf l v
  let long := qrTotal v % k
  let len := qrTotal v / k - e
  let blocks := qrCut len (k - long) long (qrData l v bs)
  let gen := rsGenerator e 1 []
  qrWeave (len + 1) blocks ++ qrWeave e (blocks.map (rsRemainder gen))

/-! ### Function patterns -/

def qrSize (v : Nat) : Nat := 17 + 4 * v

/-- Centres of the alignment patterns. -/
def qrAlign (v : Nat) : List Nat :=
  if v < 2 then []
  else
    let n := v / 7 + 2
    let step := if v = 32 then 26 else (v * 4 + n * 2 + 1) / (n * 2 - 2) * 2
    6 :: ((List.range (n - 1)).map fun i => qrSize v - 7 - i * step).reverse

def qrDist (a b : Nat) : Nat := (a - b) + (b - a)

/-- The alignment pattern a module lies in: its distance from the centre. -/
def qrInAlign (v x y : Nat) : Option Nat :=
  let ps := qrAlign v
  let last := qrSize v - 7
  let hit := (ps.flatMap fun a => ps.map fun b => (a, b)).find? fun c =>
    !((c.1 == 6 && c.2 == 6) || (c.1 == 6 && c.2 == last) || (c.1 == last && c.2 == 6)) && qrDist x c.1 ≤ 2 && qrDist y c.2 ≤ 2
  hit.map fun c => max (qrDist x c.1) (qrDist y c.2)

/-- A module that holds no data. -/
def qrIsFunction (v x y : Nat) : Bool :=
  let n := qrSize v
  (x ≤ 8 && y ≤ 8) || (n ≤ x + 8 && y ≤ 8) || (x ≤ 8 && n ≤ y + 8) || x == 6 || y == 6 || (qrInAlign v x y).isSome ||
    (7 ≤ v && ((n ≤ x + 11 && y < 6) || (n ≤ y + 11 && x < 6)))

/-- Remainder of `v` × 2^k by a generator of degree `k`, for a value of `n` bits. -/
def bchRem (gen k : Nat) : Nat → Nat → Nat
  | 0, r => r
  | n + 1, r => let r := bchRem gen k n r; if r.testBit (k - 1) then (2 * r) ^^^ gen else 2 * r

/-- The fifteen format bits and the eighteen version bits. -/
def qrFormat (l mask : Nat) : Nat :=
  let d := [1, 0, 3, 2].getD l 0 * 8 + mask
  (d * 1024 + bchRem 0x537 10 10 d) ^^^ 0x5412
def qrVersionBits (v : Nat) : Nat := v * 4096 + bchRem 0x1F25 12 12 v

/-- The bit of the format that a module shows. -/
def qrFormatAt (v x y : Nat) : Option Nat :=
  let n := qrSize v
  if x = 8 ∧ y ≤ 5 then some y
  else if x = 8 ∧ y = 7 then some 6
  else if x = 8 ∧ y = 8 then some 7
  else if x = 7 ∧ y = 8 then some 8
  else if y = 8 ∧ x ≤ 5 then some (14 - x)
  else if y = 8 ∧ n ≤ x + 8 then some (n - 1 - x)
  else if x = 8 ∧ n ≤ y + 7 then some (y + 15 - n)
  else none

/-- A function module. -/
def qrFunction (v l mask x y : Nat) : Bool :=
  let n := qrSize v
  let ring (a b : Nat) : Bool := let d := max (qrDist x a) (qrDist y b); d != 2 && d ≤ 3
  match qrFormatAt v x y with
  | some i => (qrFormat l mask).testBit i
  | none =>
    if x = 8 ∧ y + 8 = n then true
    else if x ≤ 7 ∧ y ≤ 7 then ring 3 3
    else if n ≤ x + 8 ∧ y ≤ 7 then ring (n - 4) 3
    else if x ≤ 7 ∧ n ≤ y + 8 then ring 3 (n - 4)
    else match qrInAlign v x y with
      | some d => d != 1
      | none =>
        if x = 6 ∨ y = 6 then (x + y) % 2 == 0
        else if y < 6 then (qrVersionBits v).testBit (3 * y + (x + 11 - n))
        else (qrVersionBits v).testBit (3 * x + (y + 11 - n))

/-! ### Placement and masks -/

/-- Right columns of the column pairs, from the right; the timing column is passed over. -/
def qrColumns (n : Nat) : List Nat := (List.range ((n - 1) / 2)).map fun i => let x := n - 1 - 2 * i; if x ≤ 6 then x - 1 else x

/-- The data modules in the order in which they are filled. -/
def qrPath (v : Nat) : List (Nat × Nat) :=
  let n := qrSize v
  ((qrColumns n).zipIdx.flatMap fun c => (List.range n).flatMap fun j =>
    let y := if c.2 % 2 = 0 then n - 1 - j else j
    [(c.1, y), (c.1 - 1, y)]).filter fun p => !qrIsFunction v p.1 p.2

/-- Data modules before masking, row by row; modules left over are light. -/
def qrGrid (v : Nat) (cws : List Nat) : List (List Bool) :=
  ((qrPath v).zip (cws.flatMap (barBits 8))).foldl (fun (g : List (List Bool)) p => g.modify p.1.2 fun r => r.set p.1.1 p.2)
    (List.replicate (qrSize v) (List.replicate (qrSize v) false))

/-- Mask pattern `m` inverts a data module. -/
def qrMask (m x y : Nat) : Bool :=
  match m with
  | 0 => (x + y) % 2 == 0
  | 1 => y % 2 == 0
  | 2 => x % 3 == 0
  | 3 => (x + y) % 3 == 0
  | 4 => (x / 3 + y / 2) % 2 == 0
  | 5 => x * y % 2 + x * y % 3 == 0
  | 6 => (x * y % 2 + x * y % 3) % 2 == 0
  | _ => ((x + y) % 2 + x * y % 3) % 2 == 0

/-- The symbol under a mask. -/
def qrMatrix (v l m : Nat) (grid : List (List Bool)) : List (List Bool) :=
  grid.zipIdx.map fun r => r.1.zipIdx.map fun c =>
    if qrIsFunction v c.2 r.2 then qrFunction v l m c.2 r.2 else c.1 != qrMask m c.2 r.2

/-- Penalty of runs of five or more of one colour in a row: its colour and length so far. -/
def qrRuns : Bool → Nat → List Bool → Nat
  | _, k, [] => if 5 ≤ k then k - 2 else 0
  | c, k, b :: rest => if b = c then qrRuns c (k + 1) rest else (if 5 ≤ k then k - 2 else 0) + qrRuns b 1 rest

/-- Finder-like patterns in a row, light modules added at both its ends. -/
def qrFinders : List Bool → Nat
  | [] => 0
  | b :: rest =>
    let w := (b :: rest).take 11
    let core := [true, false, true, true, true, false, true]
    let light := [false, false, false, false]
    (if w = core ++ light ∨ w = light ++ core then 1 else 0) + qrFinders rest

/-- Blocks of two by two in a pair of rows. -/
def qrSquares : List Bool → List Bool → Nat
  | a :: b :: r, c :: d :: t => (if a = b ∧ a = c ∧ a = d then 1 else 0) + qrSquares (b :: r) (d :: t)
  | _, _ => 0

/-- Columns of a matrix. -/
def qrTurn (m : List (List Bool)) : List (List Bool) := (List.range m.length).map fun i => m.map fun r => r.getD i false

/-- Penalty of a symbol. -/
def qrPenalty (m : List (List Bool)) : Nat :=
  let pad (r : List Bool) : List Bool := List.replicate 4 false ++ r ++ List.replicate 4 false
  let lines := m ++ qrTurn m
  let dark := m.foldl (fun n r => n + (r.filter id).length) 0
  let total := m.length * m.length
  lines.foldl (fun n r => n + qrRuns false 0 r + 40 * qrFinders (pad r)) 0 +
    3 * (m.zip m.tail).foldl (fun n p => n + qrSquares p.1 p.2) 0 +
    10 * ((qrDist (20 * dark) (10 * total) + total - 1) / total - 1)

/-- The mask of least penalty, the lowest of equals. -/
def qrBestMask (v l : Nat) (grid : List (List Bool)) : Nat :=
  ((List.range 8).foldl (fun (b : Nat × Option Nat) m =>
    let p := qrPenalty (qrMatrix v l m grid)
    match b.2 with
    | some q => if p < q then (m, some p) else b
    | none => (m, some p)) (0, none)).1

/-- The modules of a QR Code, row by row; none where no version OPTIONS allow holds the content. -/
def qrCode (options : Nat) (bs : List Nat) : Option (List (List Bool)) :=
  let l := options % 4
  (qrVersion l (options / 4 % 64) bs).map fun v =>
    let grid := qrGrid v (qrCodewords l v bs)
    qrMatrix v l (if options / 256 % 16 < 8 then options / 256 % 16 else qrBestMask v l grid) grid

end Sys2Proof.Machine
end

