-- ==== Sys2Proof/Machine/Sha256.lean ====
section
/-!
DEFINITION. SHA-256 (FIPS 180-4) and HMAC-SHA-256 (RFC 2104) over byte strings, as R214, R538 and R543 name them.
-/

namespace Sys2Proof.Machine

/-- The eight working words. -/
structure Sha where
  a : BitVec 32
  b : BitVec 32
  c : BitVec 32
  d : BitVec 32
  e : BitVec 32
  f : BitVec 32
  g : BitVec 32
  h : BitVec 32
  deriving DecidableEq, Repr

def Sha.init : Sha := ⟨0x6a09e667, 0xbb67ae85, 0x3c6ef372, 0xa54ff53a, 0x510e527f, 0x9b05688c, 0x1f83d9ab, 0x5be0cd19⟩

/-- The round constants. -/
def shaK : List (BitVec 32) :=
  [0x428a2f98, 0x71374491, 0xb5c0fbcf, 0xe9b5dba5, 0x3956c25b, 0x59f111f1, 0x923f82a4, 0xab1c5ed5] ++
  [0xd807aa98, 0x12835b01, 0x243185be, 0x550c7dc3, 0x72be5d74, 0x80deb1fe, 0x9bdc06a7, 0xc19bf174] ++
  [0xe49b69c1, 0xefbe4786, 0x0fc19dc6, 0x240ca1cc, 0x2de92c6f, 0x4a7484aa, 0x5cb0a9dc, 0x76f988da] ++
  [0x983e5152, 0xa831c66d, 0xb00327c8, 0xbf597fc7, 0xc6e00bf3, 0xd5a79147, 0x06ca6351, 0x14292967] ++
  [0x27b70a85, 0x2e1b2138, 0x4d2c6dfc, 0x53380d13, 0x650a7354, 0x766a0abb, 0x81c2c92e, 0x92722c85] ++
  [0xa2bfe8a1, 0xa81a664b, 0xc24b8b70, 0xc76c51a3, 0xd192e819, 0xd6990624, 0xf40e3585, 0x106aa070] ++
  [0x19a4c116, 0x1e376c08, 0x2748774c, 0x34b0bcb5, 0x391c0cb3, 0x4ed8aa4a, 0x5b9cca4f, 0x682e6ff3] ++
  [0x748f82ee, 0x78a5636f, 0x84c87814, 0x8cc70208, 0x90befffa, 0xa4506ceb, 0xbef9a3f7, 0xc67178f2]

/-- One round with its constant and message word. -/
def Sha.round (s : Sha) (k w : BitVec 32) : Sha :=
  let t1 := s.h + (s.e.rotateRight 6 ^^^ s.e.rotateRight 11 ^^^ s.e.rotateRight 25) + ((s.e &&& s.f) ^^^ (~~~s.e &&& s.g)) + k + w
  let t2 := (s.a.rotateRight 2 ^^^ s.a.rotateRight 13 ^^^ s.a.rotateRight 22) + ((s.a &&& s.b) ^^^ (s.a &&& s.c) ^^^ (s.b &&& s.c))
  ⟨t1 + t2, s.a, s.b, s.c, s.d + t1, s.e, s.f, s.g⟩

/-- The window of sixteen message words moves on by one. -/
def shaNext (w : List (BitVec 32)) : List (BitVec 32) :=
  let x := w.getD 1 0
  let y := w.getD 14 0
  w.tail ++ [(y.rotateRight 17 ^^^ y.rotateRight 19 ^^^ y >>> 10) + w.getD 9 0 +
    (x.rotateRight 7 ^^^ x.rotateRight 18 ^^^ x >>> 3) + w.headD 0]

/-- All rounds of one block of sixteen words. -/
def Sha.block (s : Sha) (ws : List (BitVec 32)) : Sha :=
  let r := (shaK.foldl (fun (p : Sha × List (BitVec 32)) k => (p.1.round k (p.2.headD 0), shaNext p.2)) (s, ws)).1
  ⟨s.a + r.a, s.b + r.b, s.c + r.c, s.d + r.d, s.e + r.e, s.f + r.f, s.g + r.g, s.h + r.h⟩

/-- A number as `n` bytes, most significant first. -/
def beBytes : Nat → Nat → List Nat
  | 0, _ => []
  | n + 1, v => beBytes n (v / 256) ++ [v % 256]

/-- The padded message. -/
def shaPad (m : List Nat) : List Nat :=
  m ++ [0x80] ++ List.replicate ((119 - m.length % 64) % 64) 0 ++ beBytes 8 (8 * m.length)

/-- Bytes as 32-bit words, `n` of them. -/
def shaWords : Nat → List Nat → List (BitVec 32)
  | 0, _ => []
  | n + 1, bs => BitVec.ofNat 32 ((bs.take 4).foldl (fun v b => v * 256 + b) 0) :: shaWords n (bs.drop 4)

/-- The blocks of a padded message, `n` of them. -/
def Sha.blocks : Nat → Sha → List Nat → Sha
  | 0, s, _ => s
  | n + 1, s, bs => Sha.blocks n (s.block (shaWords 16 (bs.take 64))) (bs.drop 64)

/-- The digest's 32 bytes. -/
def Sha.digest (s : Sha) : List Nat := [s.a, s.b, s.c, s.d, s.e, s.f, s.g, s.h].flatMap fun w => beBytes 4 w.toNat

def sha256 (m : List Nat) : List Nat :=
  let p := shaPad m
  (Sha.blocks (p.length / 64) Sha.init p).digest

/-- HMAC-SHA-256 of a message under a key of at most 64 bytes. -/
def hmacSha256 (key m : List Nat) : List Nat :=
  let k := key ++ List.replicate (64 - key.length) 0
  sha256 (k.map (· ^^^ 0x5C) ++ sha256 (k.map (· ^^^ 0x36) ++ m))

end Sys2Proof.Machine
end

