-- ==== Sys2Proof/Machine/Compose.lean ====
section
/-!
DEFINITION. Ticket composition as pure functions (chapter 07): reading asset words, the formats of fonts, bitmaps and
templates (R201..R208), UTF-8 and field values (R210), text layout (R211), the objects of a ticket and the gray level
of every dot (R203, R217), signatures (R214). Symbols are those of Symbols and QrCode; of the other symbologies Config holds the
modules.
-/

namespace Sys2Proof.Machine

/-! ### Directory and stored words -/

/-- Directory entry `e`; a FREE entry holds zero in every field (R193). -/
def State.dirEntry (s : State) (e : Nat) : DirEntry :=
  match s.assets.dir.find? (fun c => c.1 == e) with
  | some c => c.2
  | none => DirEntry.empty

/-- Replace directory entry `e`, the list kept in index order without empty entries. -/
def putDir (e : Nat) (d : DirEntry) : List (Nat × DirEntry) → List (Nat × DirEntry)
  | [] => [(e, d)]
  | c :: rest => if e < c.1 then (e, d) :: c :: rest else if e = c.1 then (e, d) :: rest else c :: putDir e d rest

def State.setDir (s : State) (e : Nat) (d : DirEntry) : State :=
  { s with assets := { s.assets with
      dir := if d = DirEntry.empty then s.assets.dir.filter (fun c => c.1 != e) else putDir e d s.assets.dir } }

/-- An erased flash word reads all ones (R456). -/
def erasedWord : Word := BitVec.allOnes 36

/-- Word `w` of the asset region of bank `b`. -/
def State.assetWord (s : State) (b w : Nat) : Word :=
  match (if b = 0 then s.assets.words0 else s.assets.words1).find? (fun c => c.1 == w) with
  | some c => c.2
  | none => erasedWord

/-- A list of (offset, word) pairs, rising, with one word put; a word equal to an erased one is not listed. -/
def putWord (a : Nat) (w : Word) : List (Nat × Word) → List (Nat × Word)
  | [] => if w = erasedWord then [] else [(a, w)]
  | c :: rest =>
    if a < c.1 then (if w = erasedWord then c :: rest else (a, w) :: c :: rest)
    else if a = c.1 then (if w = erasedWord then rest else (a, w) :: rest)
    else c :: putWord a w rest

def State.setAssetWord (s : State) (b w : Nat) (v : Word) : State :=
  if b = 0 then { s with assets := { s.assets with words0 := putWord w v s.assets.words0 } }
  else { s with assets := { s.assets with words1 := putWord w v s.assets.words1 } }

/-- Whether a word of a region reads uncorrectable, or lies in a sector being rewritten in place (R470). -/
def State.assetBad (s : State) (b w : Nat) : Bool :=
  (if b = 0 then s.assets.bad0 else s.assets.bad1).contains w || (at' s.flash.banks b).rewrite.contains (2048 + w / 512)

/-- The bank an asset's words are read from: the first with a copy in service that is not bad at word `i`. -/
def State.readBank (s : State) (d : DirEntry) (i : Nat) : Nat :=
  if d.place = 0 then 0 else if d.place = 1 then 1
  else if at' s.dev.flashRet 0 || s.assetBad 0 (d.off0 + i) then 1 else 0

/-- Word `i` of a stored asset (R192). -/
def State.astWord (s : State) (e i : Nat) : Word :=
  let d := s.dirEntry e
  if s.readBank d i = 0 then s.assetWord 0 (d.off0 + i) else s.assetWord 1 (d.off1 + i)

/-- Words of a stored asset from `i`, `n` of them. -/
def State.astWords (s : State) (e i n : Nat) : List Word := (List.range n).map fun k => s.astWord e (i + k)

/-! ### Formats (R201..R208) -/

/-- Pixel `c` of row `r` of the words of a bitmap of `bpp` bits and `width` columns; one may cross words (R201). -/
def pixelOf (ws : List Word) (bpp width r c : Nat) : Nat :=
  let wpr := (width * bpp + 31) / 32
  let b := c * bpp
  (bits (ws.getD (r * wpr + b / 32) 0) 31 0 + bits (ws.getD (r * wpr + b / 32 + 1) 0) 31 0 * 2 ^ 32) / 2 ^ (b % 32) % 2 ^ bpp

/-- A source pixel widened to four bits (R203). -/
def widen (bpp v : Nat) : Nat := if bpp = 1 then 15 * v else if bpp = 2 then 5 * v else if bpp = 3 then 2 * v + v / 4 else v

/-- The level an element of gray LEVEL `l` writes for a source level `e` (R203). -/
def grayOf (l e : Nat) : Nat := (e * l + 7) / 15

/-- Font header fields. -/
def State.fontBpp (s : State) (e : Nat) : Nat := bits (s.astWord e 0) 35 32
def State.fontAscent (s : State) (e : Nat) : Nat := bits (s.astWord e 0) 31 24
def State.fontDescent (s : State) (e : Nat) : Nat := bits (s.astWord e 0) 23 16
def State.fontGlyphs (s : State) (e : Nat) : Nat := bits (s.astWord e 0) 15 0
def State.fontDefault (s : State) (e : Nat) : Nat := bits (s.astWord e 1) 35 20
def State.fontRanges (s : State) (e : Nat) : Nat := bits (s.astWord e 1) 19 12

/-- FIRST, COUNT and first glyph index of each range. -/
def rangeList : List Word → Nat → List (Nat × Nat × Nat)
  | [], _ => []
  | w :: rest, g => (bits w 35 15, bits w 14 0, g) :: rangeList rest (g + bits w 14 0)

def State.ranges (s : State) (e : Nat) : List (Nat × Nat × Nat) := rangeList (s.astWords e 2 (s.fontRanges e)) 0

/-- The glyph of a code point: its range's, or DEFAULT (R211). -/
def State.glyphOf (s : State) (e cp : Nat) : Nat :=
  match (s.ranges e).find? (fun r => r.1 ≤ cp && cp < r.1 + r.2.1) with
  | some r => r.2.2 + (cp - r.1)
  | none => s.fontDefault e

/-- Glyph `g` of a font (R201). -/
def State.glyph (s : State) (e g : Nat) : Glyph :=
  let a := 2 + s.fontRanges e + 2 * g
  let w0 := s.astWord e a
  let w1 := s.astWord e (a + 1)
  ⟨bits w0 35 16, bits w0 15 8, bits w0 7 0, bits w1 35 24, signed 12 (bits w1 23 12), signed 12 (bits w1 11 0)⟩

/-- Words of a glyph's bitmap. -/
def glyphWords (bpp : Nat) (g : Glyph) : Nat := g.height * ((g.width * bpp + 31) / 32)

/-- Ranges ascend and do not overlap. -/
def rangesAscend : List (Nat × Nat × Nat) → Bool
  | [] => true
  | [_] => true
  | a :: b :: rest => a.1 + a.2.1 ≤ b.1 && rangesAscend (b :: rest)

/-- A font keeps R201. -/
def State.fontOk (s : State) (e size : Nat) : Bool :=
  let bpp := s.fontBpp e
  let rs := s.ranges e
  let n := s.fontGlyphs e
  2 ≤ size && 1 ≤ bpp && bpp ≤ 4 && 1 ≤ s.fontAscent e && 1 ≤ n && 1 ≤ s.fontRanges e && bits (s.astWord e 1) 11 0 == 0 &&
    s.fontDefault e < n && rangesAscend rs && rs.all (fun r => 1 ≤ r.2.1 && r.1 ≤ 0x10FFFF) &&
    (rs.foldl (fun k r => k + r.2.1) 0) == n && 2 + s.fontRanges e + 2 * n ≤ size &&
    (List.range n).all fun g =>
      let gl := s.glyph e g
      (glyphWords bpp gl == 0 || 2 + s.fontRanges e + 2 * n ≤ gl.off) && gl.off + glyphWords bpp gl ≤ size &&
        (s.astWords e gl.off (glyphWords bpp gl)).all (fun w => bits w 35 32 == 0)

/-- A bitmap keeps R202. -/
def State.bitmapOk (s : State) (e size : Nat) : Bool :=
  let h := s.astWord e 0
  let bpp := bits h 35 32
  let w := bits h 31 19
  let n := bits h 18 3
  (bpp == 1 || bpp == 4) && 1 ≤ w && w ≤ 6144 && 1 ≤ n && bits h 2 0 == 0 && size == 1 + n * ((w * bpp + 31) / 32) &&
    (s.astWords e 1 (size - 1)).all fun v => bits v 35 32 == 0

/-! ### Templates (R204..R208) -/

/-- Cut the elements; false where the words run out or are too many. -/
def cutElems : Nat → List Word → List Elem × Bool
  | 0, ws => ([], ws.isEmpty)
  | _ + 1, [] => ([], false)
  | k + 1, w :: rest =>
    let n := bits w 31 24
    if n < 3 ∨ rest.length + 1 < n then ([], false)
    else
      let more := cutElems k (rest.drop (n - 1))
      ((w :: rest.take (n - 1)) :: more.1, more.2)

def fieldDefOf (w : Word) : FieldDef := ⟨bits w 35 28, bits w 27 26, bit w 25, bit w 24, bits w 11 0⟩

/-- The template a list of words holds. -/
def templateOf (ws : List Word) : Template :=
  let w0 := ws.getD 0 0
  let w1 := ws.getD 1 0
  let nf := bits w1 35 30
  let nd := bits w1 19 15
  let sg := bit w1 14
  let depWords := (ws.drop 2).take nd
  let rest := ws.drop (2 + nd)
  let slotWord := if sg then rest.getD 0 0 else 0
  let rest := if sg then rest.drop 1 else rest
  let fws := rest.take nf
  let cut := cutElems (bits w1 29 20) (rest.drop nf)
  { tver := bits w0 35 32, width := bits w0 31 19, length := bits w0 18 3, margin := bits w1 11 0,
    nelem := bits w1 29 20, isSigned := sg,
    zeros := bits w0 2 0 == 0 && bits w1 13 12 == 0 && depWords.all (fun w => bits w 35 12 == 0) &&
      bits slotWord 32 0 == 0 && fws.all (fun w => bits w 23 12 == 0),
    deps := depWords.map fun w => bits w 11 0, slot := bits slotWord 35 33,
    fields := fws.map fieldDefOf, elems := cut.1, wellCut := cut.2 && fws.length == nf && depWords.length == nd }

/-- The template stored in entry `e`. -/
def State.template (s : State) (e : Nat) : Template := templateOf (s.astWords e 0 (s.dirEntry e).size)

def Elem.etype (e : Elem) : Nat := bits (e.getD 0 0) 35 32
def Elem.rot (e : Elem) : Nat := bits (e.getD 0 0) 23 22
def Elem.op (e : Elem) : Nat := bits (e.getD 0 0) 21 20
def Elem.level (e : Elem) : Nat := bits (e.getD 0 0) 19 16
def Elem.x (e : Elem) : Nat := bits (e.getD 1 0) 35 23
def Elem.y (e : Elem) : Nat := bits (e.getD 1 0) 22 7
def Elem.bw (e : Elem) : Nat := bits (e.getD 2 0) 35 23
def Elem.bh (e : Elem) : Nat := bits (e.getD 2 0) 22 7
/-- Width and height of the footprint (R206). -/
def Elem.fw (e : Elem) : Nat := if e.rot % 2 = 0 then e.bw else e.bh
def Elem.fh (e : Elem) : Nat := if e.rot % 2 = 0 then e.bh else e.bw
/-- Content bytes of a TEXT or SYMBOL element (R207). -/
def Elem.nbytes (e : Elem) : Nat := bits (e.getD 4 0) 23 12
def Elem.content (e : Elem) : List Nat := (((e.drop 5).flatMap wordBytes).map BitVec.toNat).take e.nbytes

/-- A piece of content: a literal byte or an escape (R208). -/
inductive Piece where
  | lit (b : Nat)
  | field (id : Nat)
  | jobSeq
  | copy
  | sigRaw
  | sigHex
  | sigBase32
  | bad
  deriving DecidableEq, Repr, Inhabited

/-- Split content into its pieces. -/
def pieces : List Nat → List Piece
  | [] => []
  | 0x1B :: rest =>
    match rest with
    | 0x00 :: f :: more => .field f :: pieces more
    | 0x01 :: more => .jobSeq :: pieces more
    | 0x02 :: more => .copy :: pieces more
    | 0x03 :: more => .sigRaw :: pieces more
    | 0x04 :: more => .sigHex :: pieces more
    | 0x05 :: more => .sigBase32 :: pieces more
    | 0x1B :: more => .lit 0x1B :: pieces more
    | _ => [.bad]
  | b :: rest => .lit b :: pieces rest

/-- Decode one UTF-8 code point: shortest form only, no surrogates, at most U+10FFFF (R210). -/
def utf8One : List Nat → Option (Nat × List Nat)
  | [] => none
  | a :: r =>
    if a < 0x80 then some (a, r)
    else
      let cont (b : Nat) : Bool := 0x80 ≤ b && b < 0xC0
      match r with
      | b :: r1 =>
        if 0xC2 ≤ a ∧ a < 0xE0 then (if cont b then some ((a - 0xC0) * 64 + (b - 0x80), r1) else none)
        else match r1 with
          | c :: r2 =>
            if 0xE0 ≤ a ∧ a < 0xF0 then
              let v := (a - 0xE0) * 4096 + (b - 0x80) * 64 + (c - 0x80)
              if cont b && cont c && 0x800 ≤ v && !(0xD800 ≤ v && v < 0xE000) then some (v, r2) else none
            else match r2 with
              | d :: r3 =>
                if 0xF0 ≤ a ∧ a < 0xF5 then
                  let v := (a - 0xF0) * 262144 + (b - 0x80) * 4096 + (c - 0x80) * 64 + (d - 0x80)
                  if cont b && cont c && cont d && 0x10000 ≤ v && v ≤ 0x10FFFF then some (v, r3) else none
                else none
              | [] => none
          | [] => none
      | [] => none

/-- Decode a byte string; none where it is not valid UTF-8. -/
def utf8 : Nat → List Nat → Option (List Nat)
  | 0, bs => if bs.isEmpty then some [] else none
  | _ + 1, [] => some []
  | fuel + 1, bs =>
    match utf8One bs with
    | some (c, rest) => (utf8 fuel rest).map fun cs => c :: cs
    | none => none

/-- Literal bytes of a TEXT element with its escapes cut out are valid UTF-8 between the escapes. -/
def literalRuns : List Piece → List (List Nat)
  | [] => [[]]
  | .lit b :: rest =>
    match literalRuns rest with
    | r :: more => (b :: r) :: more
    | [] => [[b]]
  | _ :: rest => [] :: literalRuns rest

/-- One element keeps R206..R208 within its template (check 1 of R209). -/
def elemOk (t : Template) (e : Elem) : Bool :=
  let w3 := e.getD 3 0
  let w4 := e.getD 4 0
  let ps := pieces e.content
  let esc (sym : Bool) := ps.all fun p => match p with
    | .lit b => sym || b != 0x1B
    | .field f => t.fields.any fun d => d.id == f && (sym || d.cls != 2)
    | .jobSeq => true
    | .copy => true
    | .sigRaw => sym && t.isSigned
    | .sigHex => sym && t.isSigned
    | .sigBase32 => sym && t.isSigned
    | .bad => false
  let contentFits := e.length == 5 + streamWords e.nbytes && e.nbytes ≤ 1000
  let head := e.op != 3 && 1 ≤ e.level && bits (e.getD 0 0) 15 0 == 0 && e.x ≤ 6143 && bits (e.getD 1 0) 6 0 == 0 &&
    1 ≤ e.bw && e.bw ≤ 6144 && 1 ≤ e.bh && bits (e.getD 2 0) 6 0 == 0 && e.x + e.fw ≤ t.width &&
    (t.length == 0 || e.y + e.fh ≤ t.length)
  head && (match e.etype with
    | 1 => contentFits && bits w3 11 10 != 3 && bits w3 9 8 != 3 && bits w4 11 0 == 0 && esc false &&
        (bits w3 9 8 != 2 || 1 ≤ bits w3 5 0) && (literalRuns ps).all (fun r => (utf8 r.length r).isSome)
    | 2 => e.length == 4 && bits w3 21 0 == 0
    | 3 => e.length == 3
    | 4 => e.length == 4 && bits w3 35 8 == 0 && 1 ≤ bits w3 7 0
    | 5 => e.length == 5 && bits w3 35 32 == 0 && bits w4 35 32 == 0
    | 6 => contentFits && optionsOk (bits w3 35 32) (bits w3 15 0) (bits w3 31 27) && 1 ≤ bits w3 31 27 && bits w3 18 16 == 0 &&
        bits w4 11 0 == 0 && esc true && (bits w3 35 32 < 7 || 1 ≤ bits w3 26 19)
    | _ => false)

/-- Field identifiers are unique and their words valid (R205). -/
def fieldsOk : List FieldDef → Bool
  | [] => true
  | f :: rest => f.cls != 3 && 1 ≤ f.maxBytes && rest.all (fun g => g.id != f.id) && fieldsOk rest

/-- Check 1 of R209. -/
def Template.formatOk (t : Template) : Bool :=
  t.tver == 1 && 1 ≤ t.width && t.width ≤ 6144 && t.zeros && t.wellCut && 1 ≤ t.nelem && t.deps.length ≤ 16 &&
    fieldsOk t.fields && t.elems.all (elemOk t)

/-- Assets an element names, with the kind each must have (1 FONT, 2 BITMAP). -/
def Elem.sources (e : Elem) : List (Nat × Nat) :=
  let w3 := e.getD 3 0
  match e.etype with
  | 1 => (bits w3 35 24, 1) :: (if bits w3 23 12 = 0xFFF then [] else [(bits w3 23 12, 1)])
  | 2 => [(bits w3 35 24, 2)]
  | 6 => if bits (e.getD 4 0) 35 24 = 0xFFF then [] else [(bits (e.getD 4 0) 35 24, 1)]
  | _ => []

/-- Check 2 of R209. -/
def State.depsOk (s : State) (t : Template) : Bool :=
  t.elems.all (fun e => e.sources.all fun d =>
    t.deps.contains d.1 && (s.dirEntry d.1).kind == d.2) &&
  t.deps.all (fun d => (s.dirEntry d).st = .ready && ((s.dirEntry d).kind == 1 || (s.dirEntry d).kind == 2))

/-- Code points an element may reach in the worst case (R209). -/
def worstPoints (t : Template) (e : Elem) : Nat :=
  (pieces e.content).foldl (fun n p => n + match p with
    | .field f => match t.fields.find? (fun d => d.id == f) with | some d => d.maxBytes | none => 0
    | .jobSeq => 11
    | .copy => 3
    | .sigRaw => 16
    | .sigHex => 32
    | .sigBase32 => 26
    | _ => 1) 0

/-- Fields of a SYMBOL element (R207). -/
def Elem.symb (e : Elem) : Nat := bits (e.getD 3 0) 35 32
def Elem.xdim (e : Elem) : Nat := bits (e.getD 3 0) 31 27
def Elem.mh (e : Elem) : Nat := bits (e.getD 3 0) 26 19
def Elem.options (e : Elem) : Nat := bits (e.getD 3 0) 15 0

/-- The HRI font of a 1D symbol. -/
def Elem.hri (e : Elem) : Option Nat :=
  if e.symb ≤ 6 ∧ bits (e.getD 4 0) 35 24 ≠ 0xFFF then some (bits (e.getD 4 0) 35 24) else none

/-- Lines of the HRI block (R212). -/
def State.hriLines (s : State) (e : Elem) : Nat :=
  match e.hri with
  | some f => e.xdim + (s.fontAscent f + s.fontDescent f)
  | none => 0

/-- Object words of an element in the worst case (R209, R216): of a symbol the matrix of the largest. -/
def elemWords (t : Template) (e : Elem) : Nat :=
  match e.etype with
  | 1 => 2 * worstPoints t e + 3 * (if bits (e.getD 3 0) 9 8 = 2 then bits (e.getD 3 0) 5 0 else 1)
  | 2 => 4
  | 3 => 4
  | 4 => 16
  | 5 => 6
  | _ =>
    let matrix :=
      if e.symb ≤ 6 then ((width1 e.symb e.options (worstPoints t e) + 1) / 2 + 31) / 32
      else (largest2 e.symb e.options).2 * (((largest2 e.symb e.options).1 + 31) / 32)
    4 + matrix + if e.hri.isSome then 2 * worstPoints t e else 0

/-- Source words of the fonts and bitmaps a template uses (R209). -/
def State.sourceWords (s : State) (t : Template) : Nat :=
  t.deps.foldl (fun n d =>
    if (s.dirEntry d).kind = 1 then
      let bpp := s.fontBpp d
      let gs := (List.range (s.fontGlyphs d)).map fun g => glyphWords bpp (s.glyph d g)
      let pts := t.elems.foldl (fun k e => if e.sources.any (fun x => x.1 == d) then k + worstPoints t e else k) 0
      n + min (gs.foldl (· + ·) 0) (pts * gs.foldl max 0)
    else if t.elems.any (fun e => e.sources.any fun x => x.1 == d) then n + ((s.dirEntry d).size - 1) else n) 0

/-- The largest symbol of an element, quiet zone and HRI included, fits its box. -/
def State.symbolInBox (s : State) (t : Template) (e : Elem) : Bool :=
  if e.symb ≤ 6 then width1 e.symb e.options (worstPoints t e) * e.xdim ≤ 2 * e.bw && s.hriLines e ≤ e.bh
  else
    let n := largest2 e.symb e.options
    let q := 2 * quiet2 e.symb
    (n.1 + q) * e.xdim ≤ e.bw && (n.2 + q) * e.mh ≤ e.bh

/-- Check 4 of R209. -/
def State.limitsOk (s : State) (t : Template) : Bool :=
  4 + t.elems.foldl (fun n e => n + elemWords t e) 0 + ((if t.length = 0 then 65535 else t.length) + 63) / 64 ≤ 32768 &&
    s.sourceWords t ≤ 49152 && t.elems.all fun e => e.etype != 6 || s.symbolInBox t e

/-! ### Field values of a PRINT record (R142, R210) -/

/-- The fields a PRINT record carries: identifier and value bytes. -/
def printFields : Nat → List Word → List (Nat × List Nat)
  | 0, _ => []
  | _ + 1, [] => []
  | k + 1, h :: rest =>
    let n := bits h 11 0
    (bits h 31 24, (((rest.take (streamWords n)).flatMap wordBytes).map BitVec.toNat).take n) ::
      printFields k (rest.drop (streamWords n))

def Rec.printFields (r : Rec) : List (Nat × List Nat) := Machine.printFields (bits (r.w 1) 23 16) (r.payload.drop 1)
def Rec.copies (r : Rec) : Nat := bits (r.w 1) 31 24
def Rec.templateIx (r : Rec) : Nat := bits (r.w 1) 11 0

/-- A value keeps its CLASS (R205, R210). -/
def valueOk (cls : Nat) (bs : List Nat) : Bool :=
  if cls = 1 then bs.all (fun b => 0x30 ≤ b && b ≤ 0x39)
  else if cls = 0 then bs.all (fun b => 0x20 ≤ b || b == 0x0A) && (utf8 bs.length bs).isSome
  else true

/-- No identifier twice. -/
def noDup : List Nat → Bool
  | [] => true
  | a :: rest => !rest.contains a && noDup rest

/-- Decimal digits of a number, `k` of them. -/
def decDigits : Nat → Nat → List Nat
  | 0, _ => []
  | k + 1, n => decDigits k (n / 10) ++ [0x30 + n % 10]

/-- Upper-case hexadecimal characters of a byte. -/
def hexChars (b : Nat) : List Nat :=
  let d (n : Nat) : Nat := if n < 10 then 0x30 + n else 0x41 + (n - 10)
  [d (b / 16), d (b % 16)]

/-- Base32 characters of RFC 4648 for a bit count, from a number read most significant first. -/
def base32 : Nat → Nat → List Nat
  | 0, _ => []
  | k + 1, n =>
    let d := n % 32
    base32 k (n / 32) ++ [if d < 26 then 0x41 + d else 0x32 + (d - 26)]

/-- The signed message of R214: 0x544B5331, the job number, the HREF, the copy, then the SIGN fields. -/
def signMessage (t : Template) (job href : Word) (copy : Nat) (fs : List (Nat × List Nat)) : List Nat :=
  [0x54, 0x4B, 0x53, 0x31] ++ (wireBytes job).map BitVec.toNat ++ (wireBytes href).map BitVec.toNat ++ [copy] ++
    (t.fields.filter (fun d => d.sign)).flatMap fun d =>
      let v := match fs.find? (fun f => f.1 == d.id) with | some f => f.2 | none => []
      [d.id, v.length / 256, v.length % 256] ++ v

/-- The bytes a piece of content becomes (R208); the signature is sixteen bytes (R214). -/
def expandPiece (sig : List Nat) (job : Word) (copy : Nat) (fs : List (Nat × List Nat)) : Piece → List Nat
  | .lit b => [b]
  | .field f => match fs.find? (fun x => x.1 == f) with | some x => x.2 | none => []
  | .jobSeq => decDigits 11 job.toNat
  | .copy => decDigits 3 copy
  | .sigRaw => sig
  | .sigHex => sig.flatMap hexChars
  | .sigBase32 => base32 26 ((sig.foldl (fun n b => n * 256 + b) 0) * 4)
  | .bad => []

/-! ### Symbols (R212, R213) -/

/-- Modules of a 2D symbol, row by row. -/
def matrixOf (symb options : Nat) (bs : List Nat) : Option (List (List Bool)) :=
  if symb = 8 then qrCode options bs else Config.symbolMatrix symb options bs

/-- The symbology can encode the content, within the largest symbol OPTIONS allow (R210). -/
def symbolFits (symb options : Nat) (bs : List Nat) : Bool :=
  if symb ≤ 6 then (symbol1 symb options bs).isSome else (matrixOf symb options bs).isSome

/-- A matrix with `q` light modules around it. -/
def quieted (q : Nat) (m : List (List Bool)) : List (List Bool) :=
  let side := List.replicate q false
  let w := m.foldl (fun n r => max n r.length) 0 + 2 * q
  List.replicate q (List.replicate w false) ++ m.map (fun r => side ++ r ++ side) ++ List.replicate q (List.replicate w false)

/-! ### Objects and dots (R211, R217) -/

/-- Width of a run of code points in dots: the advances (R211). -/
def State.runWidth (s : State) (font scale : Nat) (cps : List Nat) : Nat :=
  cps.foldl (fun n c => n + (s.glyph font (s.glyphOf font c)).advance * scale) 0

/-- Split at U+000A. -/
def splitLines : List Nat → List (List Nat)
  | [] => [[]]
  | 0x0A :: rest => [] :: splitLines rest
  | c :: rest =>
    match splitLines rest with
    | l :: more => (c :: l) :: more
    | [] => [[c]]

/-- The longest prefix of `cps` that is at most `w` wide (at least one glyph). -/
def State.fitCount (s : State) (font scale w : Nat) (cps : List Nat) : Nat :=
  ((List.range (cps.length + 1)).filter (fun k => s.runWidth font scale (cps.take k) ≤ w)).foldl max 0

/-- Last place of U+0020 in a prefix. -/
def lastSpace (cps : List Nat) : Option Nat :=
  (cps.zipIdx.filter (fun p => p.1 == 0x20)).getLast?.map fun p => p.2

/-- WRAP one line: break before the glyph that would pass W, at the last U+0020 before it, or there (R211). -/
def State.wrapLine (s : State) (font scale w : Nat) : Nat → List Nat → List (List Nat)
  | 0, cps => [cps]
  | fuel + 1, cps =>
    let k := s.fitCount font scale w cps
    if cps.length ≤ k then [cps]
    else match lastSpace (cps.take k) with
      | some j => cps.take j :: s.wrapLine font scale w fuel (cps.drop (j + 1))
      | none =>
        let k := max k 1
        cps.take k :: s.wrapLine font scale w fuel (cps.drop k)

/-- Place the glyphs of one line from pen position `x` on baseline `y`. -/
def State.placeRun (s : State) (font scale : Nat) (y : Int) : List Nat → Int → List Source
  | [], _ => []
  | c :: rest, x =>
    let g := s.glyph font (s.glyphOf font c)
    let bpp := s.fontBpp font
    .glyph font bpp g (s.astWords font g.off (glyphWords bpp g)) (x + g.xoff * scale) (y - g.yoff * scale) scale ::
      s.placeRun font scale y rest (x + (g.advance * scale : Nat))

/-- The objects of a TEXT element (R211). -/
def State.textObjects (s : State) (e : Elem) (cps : List Nat) : List Source :=
  let w3 := e.getD 3 0
  let font := bits w3 35 24
  let font2 := bits w3 23 12
  let fit := bits w3 9 8
  let scale := bits w3 7 6 + 1
  let lines0 := splitLines cps
  let lines := if fit = 2 then
      (lines0.flatMap fun l => s.wrapLine font scale e.bw l.length l).take (bits w3 5 0) else lines0
  let step := bits (e.getD 4 0) 35 24
  let step := if step = 0 then (s.fontAscent font + s.fontDescent font) * scale else step
  let base := s.fontAscent font * scale
  (lines.zipIdx.flatMap fun p =>
    let f := if fit = 1 && e.bw < s.runWidth font scale p.1 && font2 != 0xFFF then font2 else font
    let w := s.runWidth f scale p.1
    let x : Int := if bits w3 11 10 = 0 then 0
      else if bits w3 11 10 = 1 then ((e.bw : Int) - w) / 2 else (e.bw : Int) - w
    s.placeRun f scale (base + p.2 * step : Nat) p.1 x)

/-- The eight words of a key slot (R478). -/
def State.keyWords (s : State) (slot : Nat) : List Word := (List.range 8).map fun j => s.otp (0x20 + 8 * slot + j)

/-- The key's 32 bytes, packed under R6. -/
def keyBytes (ws : List Word) : List Nat := (ws.flatMap wordBytes).map BitVec.toNat

/-- The signature of a copy: the first 16 bytes of its HMAC (R214). -/
def State.signature (s : State) (t : Template) (job href : Word) (copy : Nat) (fs : List (Nat × List Nat)) : List Nat :=
  if t.isSigned then (hmacSha256 (keyBytes (s.keyWords t.slot)) (signMessage t job href copy fs)).take 16 else List.replicate 16 0

/-- The objects of a SYMBOL element: its modules, then the glyphs of its HRI, centred below the bars (R212). -/
def State.symbolObjects (s : State) (e : Elem) (bytes : List Nat) : List Drawn :=
  if e.symb ≤ 6 then
    match bars1 e.symb e.options bytes with
    | none => []
    | some b =>
      let q := quiet1 e.symb
      let lines := e.bh - s.hriLines e
      let halves := List.replicate (2 * q.1) false ++ b ++ List.replicate (2 * q.2) false
      let bearer := if e.symb = 6 ∧ e.options.testBit 3 then e.xdim else 0
      ⟨e, 1, .bars halves e.xdim lines e.bh bearer⟩ ::
        match e.hri with
        | none => []
        | some f =>
          let x : Int := (q.1 * e.xdim : Nat) + (((b.length * e.xdim / 2 : Nat) : Int) - s.runWidth f 1 bytes) / 2
          (s.placeRun f 1 (lines + e.xdim + s.fontAscent f : Nat) bytes x).map fun g => ⟨e, 1, g⟩
  else match matrixOf e.symb e.options bytes with
    | none => []
    | some m => [⟨e, 1, .matrix (quieted (quiet2 e.symb) m) e.xdim e.mh⟩]

/-- The objects of a ticket copy, in element order (R216). -/
def State.ticketObjects (s : State) (t : Template) (job href : Word) (copy : Nat) (fs : List (Nat × List Nat)) : List Drawn :=
  let sig := s.signature t job href copy fs
  t.elems.flatMap fun e =>
    let bytes := (pieces e.content).flatMap (expandPiece sig job copy fs)
    let w3 := e.getD 3 0
    let draw (src : Source) : Drawn := ⟨e, e.op, src⟩
    match e.etype with
    | 1 => (s.textObjects e ((utf8 bytes.length bytes).getD [])).map draw
    | 2 => [draw (.bitmap (bits w3 35 24) (s.astWords (bits w3 35 24) 0 (s.dirEntry (bits w3 35 24)).size) (bits w3 23 22 + 1))]
    | 3 => [draw .solid]
    | 4 => [draw (.outline (bits w3 7 0))]
    | 5 => [draw (.pattern w3 (e.getD 4 0))]
    | _ => s.symbolObjects e bytes

/-- Words an object keeps in the asset cache, with what they are a copy of. -/
def Source.cached : Source → List ((Nat × Nat) × Nat)
  | .glyph a _ g ws _ _ _ => [((a, g.off), ws.length)]
  | .bitmap a ws _ => [((a, 0), ws.length - 1)]
  | _ => []

/-- Words of the asset cache that a list of objects takes; what is used twice is kept once. -/
def cacheWords (objs : List Drawn) : Nat := ((objs.flatMap fun d => d.src.cached).dedup).foldl (fun n c => n + c.2) 0

/-- The copy of an object's bitmap that stands in the cache already serves it (R215). -/
def Source.fromCache (old : List Drawn) (src : Source) : Source :=
  match src with
  | .glyph a bpp g _ x y k =>
    match old.findSome? fun d => match d.src with
      | .glyph b _ h ws _ _ _ => if a = b ∧ g.off = h.off then some ws else none
      | _ => none with
    | some ws => .glyph a bpp g ws x y k
    | none => src
  | .bitmap a _ k =>
    match old.findSome? fun d => match d.src with | .bitmap b ws _ => if a = b then some ws else none | _ => none with
    | some ws => .bitmap a ws k
    | none => src
  | _ => src

/-- Source level at frame place (u, v), ticket place (x, y). -/
def sourceAt (src : Source) (e : Elem) (u v x y : Nat) : Nat :=
  match src with
  | .glyph _ bpp g ws gx gy scale =>
    let c := (u : Int) - gx
    let r := (v : Int) - gy
    if 0 ≤ c ∧ 0 ≤ r ∧ c < (g.width * scale : Nat) ∧ r < (g.height * scale : Nat) then
      widen bpp (pixelOf ws bpp g.width (r.toNat / scale) (c.toNat / scale))
    else 0
  | .bitmap _ ws scale =>
    let h := ws.getD 0 0
    let w := bits h 31 19
    if u < w * scale ∧ v < bits h 18 3 * scale then
      widen (bits h 35 32) (pixelOf ws.tail (bits h 35 32) w (v / scale) (u / scale))
    else 0
  | .solid => 15
  | .outline t => if u < t ∨ v < t ∨ e.bw ≤ u + t ∨ e.bh ≤ v + t then 15 else 0
  | .pattern lo hi =>
    let r := y % 8
    if bit (if r < 4 then lo else hi) (8 * (r % 4) + x % 8) then 15 else 0
  | .bars hs xdim lines _ bearer =>
    if v < lines ∧ (hs.getD (2 * u / xdim) false ∨ (2 * u / xdim < hs.length ∧ (v < bearer ∨ lines ≤ v + bearer))) then 15 else 0
  | .matrix rows xdim mh => if (rows.getD (v / mh) []).getD (u / xdim) false then 15 else 0

/-- Frame place of a footprint place (R206: rotation clockwise). -/
def unrotate (e : Elem) (x y : Nat) : Nat × Nat :=
  match e.rot with
  | 0 => (x, y)
  | 1 => (y, e.bh - 1 - x)
  | 2 => (e.bw - 1 - x, e.bh - 1 - y)
  | _ => (e.bw - 1 - y, x)

/-- The footprint of a symbol, HRI block included, replaces what lies under it (R212). -/
def symbolCovers (src : Source) (u v : Nat) : Bool :=
  match src with
  | .bars hs xdim _ foot _ => 2 * u < hs.length * xdim && v < foot
  | .matrix rows xdim mh => u < (rows.headD []).length * xdim && v < rows.length * mh
  | _ => false

/-- Draw one object on the level of ticket dot (x, y) (R217). -/
def drawAt (x y old : Nat) (d : Drawn) : Nat :=
  let e := d.e
  if e.x ≤ x ∧ x < e.x + e.fw ∧ e.y ≤ y ∧ y < e.y + e.fh then
    let f := unrotate e (x - e.x) (y - e.y)
    let lvl := sourceAt d.src e f.1 f.2 x y
    if symbolCovers d.src f.1 f.2 then (if lvl = 0 then 0 else e.level)
    else if lvl = 0 then old
    else
      let g := grayOf e.level lvl
      if d.op = 0 then max old g else if d.op = 1 then g else 0
  else old

/-- The gray level of a ticket dot: level 0, then every object in display-list order (R217). -/
def levelAt (objs : List Drawn) (x y : Nat) : Nat := objs.foldl (drawAt x y) 0

/-- Left, top, right and bottom of what an object draws in its element's frame, clipped to the box. -/
def extent (d : Drawn) : Nat × Nat × Nat × Nat :=
  let e := d.e
  match d.src with
  | .glyph _ _ g _ gx gy scale =>
    (gx.toNat, gy.toNat, min e.bw (gx + (g.width * scale : Nat)).toNat, min e.bh (gy + (g.height * scale : Nat)).toNat)
  | .bitmap _ ws scale =>
    let h := ws.getD 0 0
    (0, 0, min e.bw (bits h 31 19 * scale), min e.bh (bits h 18 3 * scale))
  | .bars hs xdim _ foot _ => (0, 0, min e.bw ((hs.length * xdim + 1) / 2), min e.bh foot)
  | .matrix rows xdim mh => (0, 0, min e.bw ((rows.headD []).length * xdim), min e.bh (rows.length * mh))
  | _ => (0, 0, e.bw, e.bh)

/-- The first ticket line below an object. -/
def bottom (d : Drawn) : Nat :=
  let x := extent d
  d.e.y + match d.e.rot with
    | 0 => x.2.2.2
    | 1 => x.2.2.1
    | 2 => d.e.bh - x.2.1
    | _ => d.e.bw - x.1

/-- Lines of a ticket: LENGTH, or the bottom of the lowest drawn object plus MARGIN, at most 65,535 (R204). -/
def ticketLines (t : Template) (objs : List Drawn) : Nat :=
  if t.length = 0 then min 65535 (objs.foldl (fun n d => max n (bottom d)) 0 + t.margin) else t.length

/-- The dots of band `n` that are not at level 0: line within the band, dot, level (R217). -/
def bandDots (width : Nat) (objs : List Drawn) (dots lines n : Nat) : List (Nat × Nat × Nat) :=
  (List.range 64).flatMap fun k =>
    if 64 * n + k < lines then
      (List.range (min width (min dots 6144))).filterMap fun x =>
        let g := levelAt objs x (64 * n + k)
        if g = 0 then none else some (k, x, g)
    else []

end Sys2Proof.Machine
end

