-- ==== Sys2Proof/Machine/Assets.lean ====
section
/-!
DEFINITION. Assets (R192..R200, R209, R210): storing, repairing, deleting and aborting, verification, damage, and the
admission checks of PRINT records against their templates.
-/

namespace Sys2Proof.Machine

/-! ### References (R198) -/

/-- The assets a PRINT record uses: its template and the template's dependencies. -/
def State.printAssets (s : State) (r : Rec) : List Nat :=
  if r.typ = tPrint then r.templateIx :: (s.dirEntry r.templateIx).deps else []

/-- The assets a job references, each once. -/
def State.assetsOf (s : State) (recs : List Rec) : List Nat := (recs.flatMap s.printAssets).dedup

/-- JOBS of an entry: outstanding jobs that reference the asset, as counted when they were accepted. -/
def State.jobsOf (s : State) (e : Nat) : Nat := (s.jobs.table.filter fun j => j.assets.contains e).length

/-- DEPS of an entry: stored templates, READY, DAMAGED or under REPAIR, that list it. -/
def State.depsOf (s : State) (e : Nat) : Nat := (s.assets.dir.filter fun c => c.2.deps.contains e).length

/-- Key slot `i` is usable for ticket signing (R543). -/
def State.slotUsable (s : State) (i : Nat) : Bool :=
  let a := s.otp (0x18 + i)
  bit a 35 && !bit a 34 && bits a 33 32 == 1 && at' s.sec.loaded i && !at' s.sec.badKey i && !s.sec.cleared

/-- The template of a PRINT signs with a slot that is not usable. -/
def State.signBlocked (s : State) (r : Rec) : Bool :=
  r.typ == tPrint && (s.template r.templateIx).isSigned && !s.slotUsable (s.template r.templateIx).slot

/-! ### Sectors (R192, R195) -/

/-- Sectors of 512 words an asset of `n` words takes. -/
def assetSectors (n : Nat) : Nat := (n + 511) / 512

/-- A placement covers bank `b` (R192). -/
def placed (place b : Nat) : Bool := place == b || place == 2

/-- Whether an entry's record has a copy in bank `b`. -/
def DirEntry.inBank (d : DirEntry) (b : Nat) : Bool := d.st != .free && placed d.place b

/-- Word offset of its copy in bank `b`; zero where it has none (R193). -/
def DirEntry.offset (d : DirEntry) (b : Nat) : Nat := if d.inBank b then (if b = 0 then d.off0 else d.off1) else 0

/-- A STORE or REPAIR is in progress. -/
def DirEntry.busy (d : DirEntry) : Bool := d.st == .loading || d.st == .repairing || d.st == .verifying

/-- The command in progress writes to bank `b`, and there at this offset. -/
def DirEntry.cInBank (d : DirEntry) (b : Nat) : Bool := d.busy && placed d.cplace b
def DirEntry.cOffset (d : DirEntry) (b : Nat) : Nat := if b = 0 then d.coff0 else d.coff1

/-- Sector `k` of the region lies in the run of a copy at word offset `off`. -/
def DirEntry.covers (d : DirEntry) (off k : Nat) : Bool := off / 512 ≤ k && k < off / 512 + assetSectors d.size

/-- Sector `k` of bank `b` belongs to a copy of the record or of the command in progress. -/
def DirEntry.holds (d : DirEntry) (b k : Nat) : Bool :=
  (d.inBank b && d.covers (d.offset b) k) || (d.cInBank b && d.covers (d.cOffset b) k)

/-- Flash bank `b`. -/
def State.bank (s : State) (b : Nat) : Bank := at' s.flash.banks b
def State.onBank (s : State) (b : Nat) (f : Bank → Bank) : State :=
  { s with flash := { s.flash with banks := upd s.flash.banks b f } }
def State.onFlash (s : State) (f : FlashCtl → FlashCtl) : State := { s with flash := f s.flash }

/-- The bank is retired (R37). -/
def State.bankOut (s : State) (b : Nat) : Bool := at' s.dev.flashRet b

/-- Put a sector behind those to be erased; a bad sector is never erased again (R466). -/
def Bank.queueErase (k : Nat) (q : Bank) : Bank :=
  if q.eraseQ.contains k || q.bad.contains k || q.badNext.contains k then q else { q with eraseQ := q.eraseQ ++ [k] }

/-- Asset sector `k` of bank `b` is taken by an asset, still being erased, or bad (R196, R466). -/
def State.sectorTaken (s : State) (b k : Nat) : Bool :=
  (s.assets.dir.any fun c => c.2.holds b k) ||
    (s.bank b).eraseQ.contains (2048 + k) || (s.bank b).bad.contains (2048 + k) || (s.bank b).badNext.contains (2048 + k)

/-- The lowest-addressed free run of `n` sectors, free in every bank of the placement (R192). -/
def State.findRun (s : State) (place n : Nat) : Option Nat :=
  (List.range 1984).find? fun a =>
    a + n ≤ 1984 && (List.range n).all fun k =>
      (place == 1 || !s.sectorTaken 0 (a + k)) && (place == 0 || !s.sectorTaken 1 (a + k))

/-- Erase `n` asset sectors of a bank from sector `k` on, in the background. -/
def State.eraseRun (s : State) (b k n : Nat) : State :=
  let here (w : Nat) : Bool := k ≤ w / 512 && w / 512 < k + n
  let s := (List.range n).foldl (fun (s : State) j => s.onBank b (Bank.queueErase (2048 + k + j))) s
  if b = 0 then
    { s with assets := { s.assets with words0 := s.assets.words0.filter fun c => !here c.1,
                                       bad0 := s.assets.bad0.filter fun w => !here w } }
  else
    { s with assets := { s.assets with words1 := s.assets.words1.filter fun c => !here c.1,
                                       bad1 := s.assets.bad1.filter fun w => !here w } }

/-- Put the sectors of the record's copies, or of the command's, into the background erase (R195, R196). -/
def State.eraseCopies (s : State) (place off0 off1 size : Nat) : State :=
  let n := assetSectors size
  let s := if placed place 0 then s.eraseRun 0 (off0 / 512) n else s
  if placed place 1 then s.eraseRun 1 (off1 / 512) n else s
def State.eraseRecord (s : State) (d : DirEntry) : State := s.eraseCopies d.place d.off0 d.off1 d.size
def State.eraseCommand (s : State) (d : DirEntry) : State := s.eraseCopies d.cplace d.coff0 d.coff1 d.size

/-! ### Commands on an entry (R194..R196); each answers the state and the RCODE of a refusal, zero for none -/

/-- A command begins to write the run from sector `a` on. -/
def DirEntry.begin (d : DirEntry) (st : AssetState) (p place a : Nat) : DirEntry :=
  { d with st := st, owner := p, result := 0, cplace := place, coff0 := if place = 1 then 0 else a * 512,
           coff1 := if place = 0 then 0 else a * 512, taken := 0, staged := [], ok0 := false, ok1 := false,
           repairing := st == .repairing }

/-- OP 1, STORE. -/
def State.assetStore (s : State) (p e kind place size : Nat) : State × Nat :=
  let d := s.dirEntry e
  if kind = 0 ∨ 3 < kind ∨ 2 < place ∨ size = 0 ∨ 1015808 < size then (s, rcRange)
  else if d.st ≠ .free then (s, rcState)
  else if (at' s.dev.flashRet 0 && place != 1) || (at' s.dev.flashRet 1 && place != 0) then (s, rcRetired)
  else match s.findRun place (assetSectors size) with
    | none => (s.setDir e { d with result := 2 }, 0)
    | some a =>
      let c := ({ d with kind := kind, place := place, size := size } : DirEntry).begin .loading p place a
      ((s.eraseCommand c).setDir e { c with off0 := c.coff0, off1 := c.coff1 }, 0)

/-- OP 2, REPAIR (R200): a run of its own, so that the record stands until the REPAIR succeeds. -/
def State.assetRepair (s : State) (p e size : Nat) : State × Nat :=
  let d := s.dirEntry e
  if d.st ≠ .damaged then (s, rcState)
  else if size ≠ d.size then (s, rcRange)
  else
    let place := if at' s.dev.flashRet 0 then 1 else if at' s.dev.flashRet 1 then 0 else d.place
    match s.findRun place (assetSectors size) with
    | none => (s.setDir e { d with result := 2 }, 0)
    | some a =>
      let c := d.begin .repairing p place a
      ((s.eraseCommand c).setDir e c, 0)

/-- OP 3, DELETE. -/
def State.assetDelete (s : State) (e : Nat) : State × Nat :=
  let d := s.dirEntry e
  if (d.st = .ready ∨ d.st = .damaged) ∧ s.jobsOf e = 0 ∧ s.depsOf e = 0 then
    ((s.eraseRecord d).setDir e { DirEntry.empty with result := 1 }, 0)
  else (s, rcState)

/-- No command is in progress on the entry. -/
def DirEntry.settled (d : DirEntry) : DirEntry :=
  { d with owner := 0, taken := 0, staged := [], repairing := false, cplace := 0, coff0 := 0, coff1 := 0, ok0 := false, ok1 := false }

/-- A command in progress ends with RESULT `r`, its sectors erased: a STORE back to FREE, a REPAIR back to DAMAGED (R196). -/
def State.assetFail (s : State) (e r : Nat) : State :=
  let d := s.dirEntry e
  let s := s.eraseCommand d
  if d.repairing then s.setDir e { d.settled with st := .damaged, result := r }
  else s.setDir e { DirEntry.empty with result := r }

/-- OP 4, ABORT. -/
def State.assetAbort (s : State) (p e : Nat) : State × Nat :=
  let d := s.dirEntry e
  if d.st ≠ .loading ∧ d.st ≠ .repairing then (s, rcState)
  else if d.owner ≠ p then (s, rcBusy)
  else (s.assetFail e 5, 0)

/-- Words in the staging buffer of port `p` (R194). -/
def State.stagedOf (s : State) (p : Nat) : Nat :=
  (s.assets.dir.filter fun c => c.2.owner == p).foldl (fun n c => n + c.2.staged.length) 0

/-- A word written to PORT (R194): staged for programming. -/
def State.assetPort (s : State) (p e : Nat) (w : Word) : State × Nat :=
  let d := s.dirEntry e
  if d.st ≠ .loading ∧ d.st ≠ .repairing then (s, rcState)
  else if d.owner ≠ p then (s, rcBusy)
  else if d.size ≤ d.taken then (s, rcRange)
  else if 512 ≤ s.stagedOf p then (s, rcBusy)
  else (s.setDir e { d with taken := d.taken + 1, staged := d.staged ++ [w] }, 0)

/-- A write to word 6, by its OP (R194). -/
def State.assetOp (s : State) (p e : Nat) (w : Word) : State × Nat :=
  match bits w 35 33 with
  | 1 => s.assetStore p e (bits w 32 29) (bits w 28 27) (bits w 19 0)
  | 2 => s.assetRepair p e (bits w 19 0)
  | 3 => s.assetDelete e
  | 4 => s.assetAbort p e
  | _ => (s, rcRange)

/-! ### Programming and verification (R195) -/

/-- The entry whose oldest staged word is programmed next: none while its sectors are being erased. -/
def State.assetToProgram (s : State) : Option (Nat × DirEntry) :=
  s.assets.dir.find? fun c =>
    !c.2.staged.isEmpty &&
      (List.range (assetSectors c.2.size)).all fun k =>
        (List.range 2).all fun b => !placed c.2.cplace b || !(s.bank b).eraseQ.contains (2048 + c.2.cOffset b / 512 + k)

/-- Asset programming never begins a pulse while a job is PENDING or a welt entry waits (R197). -/
def State.assetPulseFree (s : State) : Bool :=
  s.welt.wq.isEmpty && !s.jobs.batch.any fun b => match b.kind with | .job _ => true | _ => false

/-- The oldest staged word of entry `e` is programmed and verified in bank `b`; once it is in every bank of the placement in
service, the next one follows, and after word SIZE the entry is VERIFYING. -/
def State.assetProgram (s : State) (e b : Nat) : State :=
  let d := s.dirEntry e
  match d.staged with
  | [] => s
  | w :: rest =>
    let i := d.taken - d.staged.length
    let s := s.setAssetWord b (d.cOffset b + i) w
    let d := if b = 0 then { d with ok0 := true } else { d with ok1 := true }
    let done := (d.ok0 || !placed d.cplace 0 || s.bankOut 0) && (d.ok1 || !placed d.cplace 1 || s.bankOut 1)
    if !done then s.setDir e d
    else
      let st := if rest.isEmpty && d.taken == d.size then AssetState.verifying else d.st
      s.setDir e { d with staged := rest, st := st, ok0 := false, ok1 := false }

/-- The state in which the words the command has stored stand for the entry. -/
def State.asStored (s : State) (e : Nat) : State :=
  let d := s.dirEntry e
  s.setDir e { d with place := d.cplace, off0 := d.coff0, off1 := d.coff1 }

/-- RESULT of the checks of R195 on a loaded asset. -/
def State.verifyResult (s : State) (e : Nat) : Nat :=
  let d := s.dirEntry e
  if (crcWords (s.astWords e 0 d.size)).toNat ≠ d.crc then 3
  else if d.kind = 1 then (if s.fontOk e d.size then 1 else 6)
  else if d.kind = 2 then (if s.bitmapOk e d.size then 1 else 6)
  else
    let t := s.template e
    if !t.formatOk then 6
    else if !s.depsOk t then 7
    else if t.isSigned && !s.slotUsable t.slot then 9
    else if !s.limitsOk t then 8
    else 1

/-- A PRINT record that has not started. -/
def notStarted (st : RecStatus) : Bool := st.outcome = .queued || st.outcome = .held

/-- A job held for damaged assets raises RESUMED once no PRINT of it that has not started waits for one (R200). -/
def State.resumeHeldJobs (s : State) : State :=
  s.jobs.table.foldl (fun s j =>
    if j.assetHeld && j.recs.zipIdx.all (fun p =>
        !notStarted (s.recStatus j.seq p.2) || (!s.signBlocked p.1 && (s.printAssets p.1).all fun e => (s.dirEntry e).st == .ready)) then
      (s.onJob j.seq fun k => { k with assetHeld := false }).raiseJob 6
        ((j.recs.find? fun r => r.typ == tPrint).map Rec.lane |>.getD 31) j.seq
    else s) s

/-- Verification of entry `e` ends: the directory record is written, and the copies a REPAIR replaces are erased (R195 steps 4
and 5, R200). -/
def State.assetVerified (s : State) (e : Nat) : State :=
  let d := s.dirEntry e
  let t := s.asStored e
  let r := t.verifyResult e
  if r ≠ 1 then s.assetFail e r
  else
    let new := (t.dirEntry e).settled
    let new := { new with st := .ready, result := 1, deps := if d.kind = 3 then (t.template e).deps else [] }
    if d.repairing then ((s.eraseRecord d).setDir e new).resumeHeldJobs
    else s.setDir e { new with gen := (d.gen + 1) % 4096 }

/-! ### Damage (R199) -/

/-- The argument of a FLASH-class event (R474). -/
def flashArg (bank region index sector : Nat) : Word :=
  field 35 35 bank ||| field 34 32 region ||| field 31 20 index ||| field 11 0 sector

/-- ASSET_HOLD for each job with an unstarted PRINT that `bad` names; layouts of such records are abandoned. -/
def State.holdWhere (s : State) (bad : Rec → Bool) : State :=
    s.jobs.table.foldl (fun s j =>
      let hit := j.recs.zipIdx.filter fun p => bad p.1 && notStarted (s.recStatus j.seq p.2)
      match hit with
      | [] => s
      | p :: _ =>
        let gone (job : Word) (idx : Nat) : Bool := job == j.seq && hit.any fun q => q.2 == idx
        let drop (h : Head) : Head := { h with dl := h.dl.filter fun l => !gone l.job l.idx,
                                               bands := h.bands.filter fun b => !gone b.job b.idx }
        let s := { s with heads := s.heads.map drop }
        if j.assetHeld then s
        else (s.onJob j.seq fun k => { k with assetHeld := true }).raiseJob 5 p.1.lane j.seq) s

/-- ASSET_HOLD for each job with an unstarted PRINT that uses asset `e`. -/
def State.holdUsers (s : State) (e : Nat) : State := s.holdWhere fun r => (s.printAssets r).contains e

/-- An asset becomes DAMAGED for a sector of a bank: ASSET_DAMAGED, and the jobs that use it wait. -/
def State.damageAsset (s : State) (e b sector : Nat) : State :=
  let d := s.dirEntry e
  if d.st ≠ .ready then s
  else ((s.setDir e { d with st := .damaged }).raise 12 4 31 [flashArg b 2 e sector]).holdUsers e

/-- Word `w` of bank `b` reads uncorrectable from now on. -/
def State.markBad (s : State) (b w : Nat) : State :=
  { s with assets := if b = 0 then { s.assets with bad0 := w :: s.assets.bad0.filter (· != w) }
                     else { s.assets with bad1 := w :: s.assets.bad1.filter (· != w) } }

/-- Put the sector of a damaged mirrored word into its rewrite in place: it is erased and then written from the good copy, which
serves the reads meanwhile (R470). -/
def Bank.rewriteIn (k : Nat) (q : Bank) : Bank :=
  if q.rewrite.contains k then q else Bank.queueErase k { q with rewrite := q.rewrite ++ [k] }

/-- An uncorrectable word of an asset: its sector is rewritten in place from a good other copy (R470), else the asset is
DAMAGED (R199). -/
def State.assetWordBad (s : State) (b w : Nat) : State :=
  let s := s.markBad b w
  match s.assets.dir.find? fun c => c.2.inBank b && c.2.offset b ≤ w && w < c.2.offset b + c.2.size with
  | none => s
  | some (e, d) =>
    let other := (1 - b)
    let i := w - d.offset b
    if d.place = 2 ∧ !at' s.dev.flashRet other ∧ !s.assetBad other (d.offset other + i) then
      s.onBank b (Bank.rewriteIn (2048 + w / 512))
    else s.damageAsset e b (2048 + w / 512)

/-- The words of asset sector `k` of bank `b`, erased, are programmed from the other copy of the entry they belong to. -/
def State.rewriteAsset (s : State) (b k : Nat) : State :=
  match s.assets.dir.find? fun c => c.2.inBank b && c.2.covers (c.2.offset b) k with
  | none => s
  | some (_, d) =>
    let copy (w : Nat) : Word := s.assetWord (1 - b) (d.offset (1 - b) + (w - d.offset b))
    let s := (List.range 512).foldl (fun (s : State) o => s.setAssetWord b (512 * k + o) (copy (512 * k + o))) s
    let keep (w : Nat) : Bool := w / 512 != k
    { s with assets := if b = 0 then { s.assets with bad0 := s.assets.bad0.filter keep }
                       else { s.assets with bad1 := s.assets.bad1.filter keep } }

/-- The single assets of a retired bank become DAMAGED (R37); a command that writes to it alone ends with PROGRAM_FAULT (DESIGN
CHOICE). -/
def State.damageBank (s : State) (b : Nat) : State :=
  s.assets.dir.foldl (fun s c =>
    if c.2.busy ∧ c.2.cplace = b then s.assetFail c.1 4
    else if c.2.place = b ∧ c.2.st = .ready then s.damageAsset c.1 b (2048 + c.2.offset b / 512)
    else s) s

/-! ### Admission of PRINT records (R210) -/

/-- Check 1 of R210 for one PRINT record. -/
def State.printFormatOk (s : State) (r : Rec) : Bool :=
  if r.typ ≠ tPrint ∨ (s.dirEntry r.templateIx).st ≠ .ready ∨ (s.dirEntry r.templateIx).kind ≠ 3 then true
  else
    let t := s.template r.templateIx
    let fs := r.printFields
    let bytes (e : Elem) := (pieces e.content).flatMap (expandPiece (List.replicate 16 0) 0 1 fs)
    noDup (fs.map (·.1)) &&
      fs.all (fun f => match t.fields.find? (fun d => d.id == f.1) with
        | some d => f.2.length ≤ d.maxBytes && valueOk d.cls f.2
        | none => false) &&
      t.fields.all (fun d => !d.required || fs.any fun f => f.1 == d.id) &&
      t.elems.all (fun e => e.etype != 6 ||
        symbolFits e.symb e.options (bytes e))

/-- Check 4 of R210 for one PRINT record: its template and dependencies are READY, and a key it signs with is usable
(R543). -/
def State.printAssetsOk (s : State) (r : Rec) : Bool :=
  r.typ != tPrint ||
    ((s.dirEntry r.templateIx).st = .ready && (s.dirEntry r.templateIx).kind == 3 &&
      ((s.dirEntry r.templateIx).deps.all fun d => (s.dirEntry d).st = .ready) && !s.signBlocked r)

/-! ### Meanings -/

/-- Answer a register write: note a refusal at the port, otherwise the new state (R114). -/
def answer (p : Nat) (tbl : Bool) (r : State × Nat) : Host.Outcome State Fault Refusal :=
  .next (if r.2 = 0 then r.1 else r.1.refuse p r.2 tbl)

/-- STORE (R195). -/
def execStore (port : Fin 2) (entry : BitVec 12) (kind : BitVec 4) (place : BitVec 2) (size : BitVec 20) (s : State) :
    Host.Outcome State Fault Refusal :=
  answer port true (s.assetStore port entry.toNat kind.toNat place.toNat size.toNat)

/-- REPAIR (R200); kind and placement are those the entry holds. -/
def execRepair (port : Fin 2) (entry : BitVec 12) (size : BitVec 20) (s : State) : Host.Outcome State Fault Refusal :=
  answer port true (s.assetRepair port entry.toNat size.toNat)

/-- DELETE (R194). -/
def execDelete (port : Fin 2) (entry : BitVec 12) (s : State) : Host.Outcome State Fault Refusal :=
  answer port true (s.assetDelete entry.toNat)

/-- ABORT (R194). -/
def execAssetAbort (port : Fin 2) (entry : BitVec 12) (s : State) : Host.Outcome State Fault Refusal :=
  answer port true (s.assetAbort port entry.toNat)

/-- A write to PORT (R194). -/
def execAssetPortWrite (port : Fin 2) (entry : BitVec 12) (word : Word) (s : State) : Host.Outcome State Fault Refusal :=
  answer port true (s.assetPort port entry.toNat word)

/-- ASSET_VERIFY_DONE (R195): at most 1 ms + 1 ms for each 4096 words after the last word. -/
def execAssetVerifyDone (entry : BitVec 12) (s : State) : Host.Outcome State Fault Refusal :=
  .next (if (s.dirEntry entry.toNat).st = .verifying then s.assetVerified entry.toNat else s)

/-- R197: a store or repair that takes no word for 10 s ends ABORTED. -/
def execAssetIdleTimeout (entry : BitVec 12) (s : State) : Host.Outcome State Fault Refusal :=
  let d := s.dirEntry entry.toNat
  if d.st = .loading ∨ d.st = .repairing then .next (s.assetFail entry.toNat 5) else .next s

end Sys2Proof.Machine
end

