-- ==== Sys2Proof/Machine/LaneOps.lean ====
section
/-!
DEFINITION. What happens to lanes and their records whatever the engine: a record's end, cancellation and stop, a job's
end, lane faults and service (R141, R144, R150, R153..R155, R172..R174, R27), re-admission (R154).
-/

namespace Sys2Proof.Machine

/-! ### Parts of the path (R24, R26, R27, R250) -/

/-- The axis lanes bound to head path `x`: its feed axis and its clicker axis. -/
def State.boundAxes (s : State) (x : Nat) : List Nat :=
  (if s.cfgB (.head x) F.hb_FEED_EN then [s.cfg (.head x) F.hb_FEED_AX + 2] else []) ++
    (if s.cfgB (.head x) F.hb_CLK_EN then [s.cfg (.head x) F.hb_CLK_AX + 2] else [])

/-- A record type that moves the axes of a head path (R26, R250; FEED and CUT move them as PRINT does). -/
def usesPath (typ : Nat) : Bool := typ = tPrint || typ = tFeed || typ = tCut || typ = tPattern

/-- Head lane `x` owns its bound axes: a record that uses them runs on it, or stands stopped for CONTINUE, or its path still
feeds to the end of a copy (R26, R242; DEDUCED). In FAULT, OUT or re-admission it runs none: once its path is at rest the axes
are back with their own lanes (R27). -/
def State.headOwns (s : State) (x : Nat) : Bool :=
  let l := s.lane x
  (s.head x).step == .run ||
    ((l.stopping || l.state == .idle || l.state == .running || l.state == .waiting || l.state == .stopped) &&
      (l.running.toList ++ l.tail).any fun q => usesPath q.r.typ)

/-- The head lane that owns lane `i` as a bound axis. -/
def State.ownerPath (s : State) (i : Nat) : Option Nat :=
  [0, 1].find? fun x => s.headOwns x && (s.boundAxes x).contains i

/-- A gate of the lane is IN_DOUBT (R173). -/
def State.laneDoubt (s : State) (i : Nat) : Bool :=
  s.welt.gates.toList.any fun g => match g with | some g => g.lane == i && g.doubt | none => false

/-! ### Lane state (R149) -/

/-- Records on a lane that are not finished: running, past their release point, queued. -/
def Lane.items (l : Lane) : List QItem := l.running.toList ++ l.tail ++ l.queue

/-- A lane in service shows IDLE, RUNNING or WAITING by what it holds. -/
def Lane.norm (l : Lane) : Lane :=
  match l.state with
  | .idle | .running | .waiting =>
    if l.running.isSome || !l.tail.isEmpty then { l with state := .running, wait := if l.queue.isEmpty then .none else l.wait }
    else if l.queue.isEmpty then { l with state := .idle, wait := .none }
    else { l with state := .waiting }
  | _ => l

/-- A record runs on the lane (R130). -/
def Lane.busy (l : Lane) : Bool :=
  l.state == .running || l.stopping || (!l.tail.isEmpty && (l.state == .waiting || l.state == .idle))

/-- The lane serves its records. -/
def Lane.inService (l : Lane) : Bool := l.state = .idle || l.state = .running || l.state = .waiting

/-- Write the LANE entry of R161 for a lane. -/
def State.writeLane (s : State) (i code : Nat) : State :=
  s.writeEntry 0x6 3 s.jobs.lastSeq [field 35 31 i ||| field 30 27 code ||| field 26 11 (s.lane i).epoch.toNat] .nothing

/-! ### Fences (R153) -/

/-- A fence of a job changes its state. -/
def State.setFence (s : State) (seq : Word) (idx : Nat) (st : FenceState) : State :=
  s.onJob seq fun j => { j with fences := j.fences.map fun f => if f.1 = idx then (idx, st) else f }

/-- A fence completes as FENCE_BROKEN. -/
def State.breakFence (s : State) (seq : Word) (idx : Nat) : State :=
  (((s.setFence seq idx .broken).onJobs fun j => { j with brokenCount := j.brokenCount + 1 }).queueMark 9 idx 0 seq).raise
    3 2 31 [seq]

/-- The mask of the record at an index of a job. -/
def Job.maskAt (j : Job) (idx : Nat) : Nat := ((j.recs[idx]?).map Rec.mask).getD 0

/-- Break every waiting fence that stands over lane `i` (R38, R153). -/
def State.breakFencesOver (s : State) (i : Nat) : State :=
  s.jobs.table.foldl (fun s j =>
    j.fences.foldl (fun s f => if f.2 = .waiting ∧ (j.maskAt f.1).testBit i then s.breakFence j.seq f.1 else s) s) s

/-! ### The end of records and jobs -/

/-- Every record is finished and every gate settled (R144). -/
def Job.complete (j : Job) : Bool := j.status.all fun r => r.finished && r.gate.settled

/-- A job that is complete raises DONE and leaves the outstanding jobs (R144, R155, R169, R190). -/
def State.checkDone (s : State) (seq : Word) : State :=
  match s.job? seq with
  | none => s
  | some j =>
    if j.complete then
      let s := (s.queueMark 6 0 0 seq).raiseJob 3 31 seq
      s.onJobs fun js => { js with table := js.table.filter (fun k => k.seq != seq),
                                   history := ({ j with done := true }, s.welt.head) :: js.history }
    else s

/-- The timeout of a record ends. -/
def State.dropDeadline (s : State) (seq : Word) (idx : Nat) : State :=
  s.onJobs fun j => { j with deadlines := j.deadlines.filter fun d => !(d.1 == seq && d.2.1 == idx) }

/-- Take an item out of a lane. -/
def State.dropItem (s : State) (i : Nat) (q : QItem) : State :=
  (s.dropDeadline q.job q.idx).onLane i fun l =>
    { l with running := if l.running = some q then none else l.running,
             tail := l.tail.filter (· != q), queue := l.queue.filter (· != q) }.norm

/-- What a record's ending means for its gate (R172): SOURCE NONE settles DONE_ENDED; else the window starts to run. -/
def State.gateEnded (s : State) (q : QItem) : State :=
  match s.gate? q.job q.idx with
  | none => s
  | some g =>
    if g.doubt ∨ g.settling then s
    else if g.source = 0 then
      (s.writeSettle q.job q.idx 2 0 0 0).onGate q.job q.idx fun g => some { g with settling := true }
    else s.onGate q.job q.idx fun g => some { g with windowEnd := some (s.stitch.n + g.window) }

/-- A record of lane `i` has ENDED (R141): its status, its mark, its gate, the wait of a CKPT record (R169). -/
def State.endRecord (s : State) (i : Nat) (q : QItem) : State :=
  let s := s.dropItem i q
  let s := s.onRec q.job q.idx fun r => { r with outcome := .ended }
  let s := s.queueMark 2 q.idx 0 q.job
  let s := if q.r.ckpt then (s.flushMarks).onLane i fun l => { l with ckptWait := some (q.job, q.idx) } else s
  (s.gateEnded q).checkDone q.job

/-- The record running on a lane ends. -/
def State.endRunning (s : State) (i : Nat) : State :=
  match (s.lane i).running with
  | some q => s.endRecord i q
  | none => s

/-- The running record has reached its release point before its end (R141): it steps aside, unless CKPT holds the next
record until its ENDED mark is committed (R169). -/
def State.stepAside (s : State) (i : Nat) : State :=
  match (s.lane i).running with
  | some q => if q.r.ckpt then s else s.onLane i fun l => { l with running := none, tail := l.tail ++ [q] }.norm
  | none => s

/-- The gate of a record that a stop or a fault has brought to rest stays ARMED; its window runs from now (R174). -/
def State.gateStopped (s : State) (q : QItem) : State :=
  s.onGate q.job q.idx fun g => some (if g.doubt || g.settling || g.windowEnd.isSome then g
    else { g with windowEnd := some (s.stitch.n + g.window) })

/-- A record ends as CANCELLED (R152); a gate that was armed for it runs out its window. -/
def State.cancelRecord (s : State) (i : Nat) (q : QItem) : State :=
  let s := (s.dropItem i q).gateStopped q
  let s := s.onRec q.job q.idx fun r => { r with outcome := .cancelled }
  (s.queueMark 3 q.idx 0 q.job).checkDone q.job

/-- A record of lane 31 has acted: ENDED, or CANCELLED where it could do nothing it names (R152, R175). -/
def State.endCtrl (s : State) (q : QItem) (ok : Bool) : State :=
  let s := s.onRec q.job q.idx fun r => { r with outcome := if ok then .ended else .cancelled }
  (s.queueMark (if ok then 2 else 3) q.idx 0 q.job).checkDone q.job

/-! ### Stops (R150, R174) -/

/-- The gate of a record has settled DONE: it is never run again (R174, R182). -/
def State.gateDone (s : State) (q : QItem) : Bool :=
  q.r.gate && (s.gate? q.job q.idx).isNone &&
    [GateState.doneEvidence, GateState.doneEnded, GateState.resolvedDone].contains (s.recStatus q.job q.idx).gate

/-- The stop of lane `i` has come to rest: STOPPED, unless the lane has left service; the gate window runs. A check of a RE_ADMIT
that is stopped leaves the lane STOPPED as well (log 71). -/
def State.cameToRest (s : State) (i : Nat) : State :=
  let l := s.lane i
  if !l.stopping then s
  else
    let check : Bool := l.state == .readmit && l.stopTo == .stopped
    let s := s.onLane i fun l => { l with stopping := false, state := if l.inService || check then l.stopTo else l.state,
                                          raStep := if check then 5 else l.raStep,
                                          settledStop := l.settledStop || l.running.any s.gateDone }
    match l.running with
    | some q => (s.gateStopped q).onRec q.job q.idx fun r => if r.finished then r else { r with outcome := .stopped }
    | none => s

/-- Begin to stop lane `i`; the engine brings it to rest. Bound axes stop with a head lane, and a bound axis stops its
head lane (R27): `headFor` is the lane whose work stops. -/
def State.beginStop (s : State) (i : Nat) (goal : LaneState) : State :=
  if (s.lane i).stopping || (s.lane i).state = .stopped then s
  else
    let s := s.onLane i fun l => { l with stopping := true, stopTo := goal }
    if i < 2 then (s.boundAxes i).foldl (fun s a => if s.headOwns i then s.onLane a fun l => { l with pathStop := true } else s) s
    else s

/-! ### Faults and service (R154) -/

/-- The jobs with records on a lane. -/
def Lane.jobs (l : Lane) : List Word := (l.items.map QItem.job).dedup

/-- The waiting records of lane `i` show HELD, or QUEUED again (R187). -/
def State.showHeld (s : State) (i : Nat) (held : Bool) : State :=
  ((s.lane i).queue.filter fun q => q.r.lane == i).foldl (fun (s : State) q => s.onRec q.job q.idx fun r =>
    if held then (if r.outcome = .queued then { r with outcome := .held } else r)
    else if r.outcome = .held then { r with outcome := .queued } else r) s

/-- Hold the records of a lane: HELD once for every job whose records become held. -/
def State.holdLane (s : State) (i : Nat) : State :=
  (s.lane i).jobs.foldl (fun s seq =>
    match s.job? seq with
    | some j =>
      if j.heldOn.contains i then s
      else (s.onJob seq fun j => { j with heldOn := i :: j.heldOn }).raiseJob 4 i seq
    | none => s) (s.showHeld i true)

/-- Lane `i` leaves service: FAULT or OUT at once, its work stopped with what remains kept, its queue held. -/
def State.leaveService (s : State) (i : Nat) (st : LaneState) (code : Nat) : State :=
  let s := s.beginStop i st
  let s := s.onLane i fun l => { l with state := st, wait := .none, raStep := 0 }
  let s := s.raise 4 code i [BitVec.ofNat 36 (s.lane i).epoch.toNat]
  let s := s.breakFencesOver i
  let s := s.holdLane i
  s.writeLane i (if st = .out then 5 else 4)

/-- One lane enters FAULT; nothing where it already is. -/
def State.faultOne (s : State) (i : Nat) : State :=
  if (s.lane i).state = .fault then s else s.leaveService i .fault 1

/-- A lasting fault on lane `i`; on a bound axis that a head lane owns, the head lane faults as well (R27). -/
def State.laneFault (s : State) (i : Nat) : State :=
  match s.ownerPath i with
  | some x => (s.faultOne i).faultOne x
  | none => s.faultOne i

/-- A lane goes out of service at once (LANE_OUT with NOW = 1) or in its order. -/
def State.laneGoesOut (s : State) (i : Nat) : State :=
  if (s.lane i).state = .out ∨ (s.lane i).state = .fault then s else s.leaveService i .out 2

/-- RESUMED for every job held on a lane, which is held no longer. -/
def State.resumeJobs (s : State) (i : Nat) : State :=
  s.jobs.table.foldl (fun s j =>
    if j.heldOn.contains i then
      (s.onJob j.seq fun j => { j with heldOn := j.heldOn.filter (· != i),
                                       status := (j.status.zip j.recs).map fun p =>
                                         if p.1.outcome = .held ∧ p.2.lane = i then { p.1 with outcome := .queued } else p.1 }).raiseJob
        6 i j.seq
    else s) s

/-- Types that run again from their start after a reset or a re-admission (R154, R179). -/
def Rec.rerun (r : Rec) : Bool :=
  r.typ = tScan || r.typ = tPattern || r.typ = tHome || r.typ = tSolDiag ||
    (r.typ = tFeed && bits (r.w 1) 35 34 == 1) || (r.typ = tMove && bits (r.w 1) 35 34 == 1)

/-- The check of a RE_ADMIT has passed (R154 step 3): the lane is in service again with a new epoch. A record that was
running goes back to the head of the lane where it runs again from its start; else the lane shows STOPPED with it. -/
def State.readmitPass (s : State) (i : Nat) : State :=
  let s := s.onLane i fun l => { l with epoch := l.epoch + 1, state := .idle, wait := .none, raStep := 0 }
  let s := s.raise 4 4 i [BitVec.ofNat 36 (s.lane i).epoch.toNat]
  let s := s.writeLane i 0
  let s := s.resumeJobs i
  match (s.lane i).running with
  | none => s.onLane i Lane.norm
  | some q =>
    if (s.gate? q.job q.idx).isSome then s.onLane i fun l => { l with state := .stopped }
    else if q.r.rerun then
      ((s.dropDeadline q.job q.idx).onRec q.job q.idx fun r => { r with outcome := .queued }).onLane i
        fun l => { l with running := none, queue := q :: l.queue }.norm
    else s.onLane i fun l => { l with state := .stopped, raStep := 3 }

/-- The lane fails its re-admission: FAULT again with LANE_FAULT, its records held, the fences over it broken (R153, R154). -/
def State.readmitFail (s : State) (i : Nat) : State :=
  let s := s.onLane i fun l => { l with state := .fault, raStep := 0 }
  (((s.raise 4 1 i [BitVec.ofNat 36 (s.lane i).epoch.toNat]).breakFencesOver i).holdLane i).writeLane i 4

end Sys2Proof.Machine
end

