-- ==== Sys2Proof/Machine/Admission.lean ====
section
/-!
DEFINITION. Admission (R144..R147, R164, R166, R210), the batches of a stitch, acceptance at the commit of the JOB entry,
live words of the welt (R161, R167).
-/

namespace Sys2Proof.Machine

/-! ### Live entries (R161) -/

/-- An entry of the welt is live; `newer` are the entries behind it. -/
def State.live (s : State) (e : Entry) (newer : List Entry) : Bool :=
  let out (q : Word) := s.jobs.table.any fun j => j.seq == q
  match e.kind with
  | 1 => !newer.any fun d => d.kind == 1
  | 3 => out e.seq || e.body.any fun m =>
      s.jobs.table.any fun j => j.seq.toNat % 4096 == bits m 11 0 && Mark.near ⟨0, 0, 0, j.seq⟩ e.seq
  | 4 => (s.gate? e.seq (bits (e.body.getD 0 0) 35 24)).isSome
  | 6 => !newer.any fun d => d.kind == 6 && bits (d.body.getD 0 0) 35 31 == bits (e.body.getD 0 0) 35 31
  | _ => out e.seq

/-- The entries that stand, each at the place of the one it repairs: an entry and its repairs (R177) count once, by the last of
them. -/
def standing (log : List Entry) : List Entry :=
  log.zipIdx.filterMap fun p =>
    if (log.take p.2).any fun d => d.orig == p.1.orig then none else (log.filter fun d => d.orig == p.1.orig).getLast?

/-- Live words of a run of entries. -/
def State.liveWordsOf (s : State) : List Entry → Nat
  | [] => 0
  | e :: rest => (if s.live e rest then e.size else 0) + s.liveWordsOf rest

/-- Live words of the welt, with the JOB entries still being written (R167). -/
def State.liveWords (s : State) : Nat :=
  s.liveWordsOf (standing s.welt.log) +
    (s.welt.wq.filter fun w => w.kind == 2).foldl (fun n w => n + w.words.length) 0

/-! ### The checks of R144 -/

/-- The lane of a gated record (R145). -/
def State.gatedLane (s : State) (seq : Word) (idx : Nat) : Option Nat :=
  match s.job? seq with
  | some j => match j.recs[idx]? with
    | some r => if r.gate && r.lane < 19 then some r.lane else none
    | none => none
  | none => none

/-- Owner of a lane as later items of a batch see it: a job being written has its claims (R146, R147). -/
def State.ownerSeen (s : State) (i : Nat) : Nat :=
  if (s.lane i).owner ≠ 0 then (s.lane i).owner
  else
    match s.welt.wq.find? fun w => match w.act with
      | .accept _ recs => recs.any fun r => (r.lanes s.gatedLane).contains i
      | _ => false with
    | some w => w.port + 1
    | none => 0

/-- The lanes a record names. -/
def State.lanesOf (s : State) (r : Rec) : List Nat := r.lanes s.gatedLane

/-- The first record of a job that fails a test: its index and lane. -/
def firstBad (rs : List Rec) (ok : Rec → Bool) : Option (Nat × Nat) :=
  (rs.zipIdx.find? fun p => !ok p.1).map fun p => (p.2, p.1.lane)

/-- A head lane whose SRAM bank is retired is not re-admitted (R36). -/
def State.headRefused (s : State) (i : Nat) : Bool := i < 2 && at' s.dev.sramRet i

/-- The outcome of the checks: none where the job passes, else the code of R127, the record's index and its lane. -/
def State.judge (s : State) (c : Closed) : Option (Nat × Nat × Nat) :=
  let rs := jobRecords c.words
  let rev := (s.port c.port).rev
  let ver := jobVer c.words
  let other := 2 - c.port
  let fmt := match formatFault c.words c.wellClosed, firstBad rs s.printFormatOk with
    | some a, some b => some (if b.1 < a.1 then b else a)
    | some a, none => some a
    | none, b => b
  match fmt with
  | some (i, l) => some (4, i, l)
  | none =>
  if ver = 0 ∨ rev < ver then some (5, 0, 31)
  else match firstBad rs fun r => r.revision ≤ ver && (rev != 1 || !(s.lanesOf r).any rev1LaneRefused) with
  | some (i, l) => some (5, i, l)
  | none =>
  match firstBad rs fun r => !(s.lanesOf r).any fun i => s.ownerSeen i == other with
  | some (i, l) => some (6, i, l)
  | none =>
  match firstBad rs s.printAssetsOk with
  | some (i, l) => some (7, i, l)
  | none =>
  match firstBad rs fun r =>
      if r.typ = tReAdmit then !(s.lanesOf r).any s.headRefused
      else r.typ = tResume || r.typ = tResolve ||
        !(s.lanesOf r).any fun i => (s.lane i).state = .fault || (s.lane i).state = .out with
  | some (i, l) => some (9, i, l)
  | none =>
  let waiting := (s.welt.wq.filter fun w => w.kind == 2).length
  if 1024 ≤ s.jobs.table.length + waiting ∨ 195840 < s.liveWords + c.words.length + 4 ∨
      (at' s.dev.flashRet 0 && at' s.dev.flashRet 1) then some (8, 0, 31)
  else none

/-! ### Reporting a decision (R127, R78) -/

/-- INFO of a rejection. -/
def rejectInfo (idx lane : Nat) : Nat := min idx 255 * 65536 + lane * 2048

/-- A job of a port is decided: JOB_STAT where it is the last job begun there, and the deferred response for it. -/
def State.report (s : State) (p ser : Nat) (st : JobStat) : State :=
  s.onPort p fun q =>
    { q with jobStat := if q.asm.ser = ser then st else q.jobStat,
             deferred := q.deferred.map fun d => if d.2.1 = ser then (d.1, ser, st) else d }

/-- Reject a closed job. -/
def State.reject (s : State) (c : Closed) (code idx lane : Nat) : State :=
  s.report c.port c.ser ⟨code, c.tag, rejectInfo idx lane⟩

/-- Write a job that passes to the welt under the next number (R144, R164, R185). -/
def State.writeJob (s : State) (c : Closed) : State :=
  let wraps := s.jobs.decided = BitVec.allOnes 36
  let seq := s.jobs.decided + 1
  let s := s.onJobs fun j => { j with decided := seq }
  let s := if wraps then
      ((s.onWelt fun w => { w with jepoch := w.jepoch + 1 }).writeEntry 1 3 seq [s.welt.tail] .nothing).raise 2 8 31 [0]
    else s
  s.writeEntry 2 c.port seq c.words (.accept c (jobRecords c.words))

/-- Decide one closed job (R144). -/
def State.decideJob (s : State) (c : Closed) : State :=
  match s.judge c with
  | some (code, idx, lane) => s.reject c code idx lane
  | none => s.writeJob c

/-! ### Batches (R147) -/

/-- The port with precedence. -/
def State.firstPort (s : State) : Nat := if s.dev.host1First then 1 else 0

/-- The next item in batch order among those of stitches before the current one: stops come first and never wait. -/
def State.nextItem (s : State) : Option BatchItem :=
  let closed := s.jobs.batch.filter fun b => b.stitch < s.stitch.n
  match closed.map (·.stitch) |>.min? with
  | none => none
  | some k =>
    let here := closed.filter fun b => b.stitch = k
    match here.find? fun b => b.port = s.firstPort with
    | some b => some b
    | none => here.head?

/-- Record a refusal of operation `idx` of frame `seq` in TBL_CTL of port `p` (R112, R147). -/
def State.refuseAt (s : State) (p rc seq idx : Nat) : State :=
  s.onPort p fun q => { q with noteCode := rc, noteTbl := false, refusedBit := true, noteIdx := idx, noteSeq := seq }

/-- The RSP status word (R77): LSTAT, RCODE, index, SEQ of the request. -/
def rspWord (lstat rcode ridx rseq : Nat) : Word := field 35 32 lstat ||| field 27 20 rcode ||| field 19 12 ridx ||| field 7 0 rseq

/-- Put an RSP behind the frames waiting to be sent. -/
def State.queueRsp (s : State) (p : Nat) (emerg : Bool) (words : List Word) : State :=
  let f : Frame := ⟨0x20, emerg, 0, 0, words, 0, [], none⟩
  s.onPort p fun q => if emerg then { q with eTxq := q.eTxq ++ [f] } else { q with txq := q.txq ++ [f] }

/-- A deferred write of a frame (LANE_OWN, or a raise of R481) ends with an RCODE, zero for none; the frame's RSP is queued
with the last of them (R147). -/
def State.ownResolved (s : State) (p : Nat) (rsp : Option (Bool × Nat × Nat)) (rc : Nat) : State :=
  let refused := rc != 0
  match rsp with
  | none => if refused then s.refuse p rc false else s
  | some (emerg, seq, idx) =>
    let s := if refused then s.refuseAt p rc seq idx else s
    let hit (h : HeldRsp) : Bool := h.emerg == emerg && h.seq == seq
    let step (h : HeldRsp) : HeldRsp :=
      let first := refused && (h.rcode == 0 || idx < h.ridx)
      if hit h then { h with left := h.left - 1, rcode := if first then rc else h.rcode,
                             ridx := if first then idx else h.ridx } else h
    let hs := (s.port p).ownRsp.map step
    let s := s.onPort p fun q => { q with ownRsp := hs.filter fun h => !(hit h && h.left == 0) }
    match hs.find? fun h => hit h && h.left == 0 with
    | some h => s.queueRsp p emerg [rspWord (if h.rcode = 0 then 0 else 1) h.rcode h.ridx h.seq]
    | none => s

/-- A LANE_OWN item is resolved (R129, R147). -/
def State.resolveOwn (s : State) (b : BatchItem) : State :=
  match b.kind with
  | .claim mask rsp =>
    if (maskList 19 mask).any fun i => s.ownerSeen i == 2 - b.port then s.ownResolved b.port rsp rcOwner
    else ((maskList 19 mask).foldl (fun s i => s.onLane i fun l => { l with owner := b.port + 1 }) s).ownResolved b.port rsp 0
  | .release mask rsp =>
    ((maskList 19 mask).foldl (fun s i => s.onLane i fun l => if l.owner = b.port + 1 then { l with owner := 0 } else l)
      s).ownResolved b.port rsp 0
  | .job _ => s

/-- Core 0 resolves nothing while the device starts up or the core that has its duties restarts (R34, R116). -/
def State.mayDecide (s : State) : Bool := (s.dev.st = .ready || s.dev.st = .safe) && s.dutyRuns 0

/-- Resolve items in order until one must wait for the pacing, or a job waits while held-back events fill their store (R125,
R147, R166); `fuel` bounds the items. -/
def State.resolveBatch : Nat → State → State
  | 0, s => s
  | fuel + 1, s =>
    if !s.mayDecide then s
    else match s.nextItem with
    | none => s
    | some b =>
      let drop (s : State) := s.onJobs fun j => { j with batch := j.batch.erase b }
      match b.kind with
      | .job c =>
        if s.jobs.pacing || s.ev.paused then s
        else State.resolveBatch fuel (((drop s).onJobs fun j => { j with pacing := true }).decideJob c)
      | _ => State.resolveBatch fuel ((drop s).resolveOwn b)

/-- Resolve what can be resolved now. -/
def State.resolve (s : State) : State := State.resolveBatch s.jobs.batch.length s

/-- Put an item into the batch of the current stitch. -/
def State.batch (s : State) (p : Nat) (k : BatchKind) : State :=
  s.onJobs fun j => { j with batch := j.batch ++ [⟨s.stitch.n, p, k⟩] }

/-! ### Acceptance (R144, R146, R155, R164) -/

/-- Put one record of an accepted job where it belongs: its lane, each masked lane for a FENCE or an in-order LANE_OUT,
or the records of lane 31 that act in the next evaluation (R152, R153, R154). -/
def State.queueRecord (s : State) (seq : Word) (idx : Nat) (r : Rec) : State :=
  let q : QItem := ⟨seq, idx, r⟩
  let put (s : State) (i : Nat) := s.onLane i fun l => { l with queue := l.queue ++ [q] }.norm
  if r.typ = tJobBegin ∨ r.typ = tJobEnd then s
  else if r.typ = tFence ∨ (r.typ = tLaneOut ∧ !bit (r.w 1) 35) then (maskList 19 r.mask).foldl put s
  else if r.lane < 19 then put s r.lane
  else s.onJobs fun j => { j with ctrl := j.ctrl ++ [q] }

/-- Status of a record at acceptance: JOB_BEGIN and JOB_END do nothing further. -/
def firstStatus (r : Rec) : RecStatus :=
  ⟨if r.typ = tJobBegin ∨ r.typ = tJobEnd then .ended else .queued, .none, 0, 0, r.typ = tJobBegin || r.typ = tJobEnd⟩

/-- The job of a committed JOB entry is accepted. -/
def State.accept (s : State) (seq : Word) (c : Closed) (recs : List Rec) : State :=
  let fences := (recs.zipIdx.filter fun p => p.1.typ == tFence).map fun p => (p.2, FenceState.waiting)
  let j : Job := ⟨seq, c.port, jobHref c.words, c.words, recs, recs.map firstStatus, fences, false, false, false, [], [],
    s.assetsOf recs⟩
  let ends := (recs.zipIdx.filter fun p => (p.1.typ == tFence || p.1.typ == tReAdmit) && p.1.tmo).map fun p =>
    (seq, p.2, (s.stitch.n + 1) * 4096 + phOf p.1.timeout)
  let s := s.onJobs fun k => { k with table := k.table ++ [j], lastSeq := seq, deadlines := k.deadlines ++ ends }
  let lanes := (recs.flatMap s.lanesOf).dedup
  let s := lanes.foldl (fun s i => s.onLane i fun l => if l.owner = 0 then { l with owner := c.port + 1 } else l) s
  let s := recs.zipIdx.foldl (fun s p => s.queueRecord seq p.2 p.1) s
  let s := (s.raiseJob 1 31 seq).report c.port c.ser ⟨3, c.tag, seq.toNat % 2 ^ 24⟩
  let down := lanes.filter fun i => (s.lane i).state = .fault || (s.lane i).state = .out
  let s := down.foldl (fun s i => (s.holdLane i).breakFencesOver i) s
  s.checkDone seq

/-! ### Meanings -/

/-- BATCH_RESOLVE (R147): the batches of the stitches that have ended are resolved in order. -/
def execBatchResolve (s : State) : Host.Outcome State Fault Refusal := .next s.resolve

/-- DECISION_PACING (R166): 0.5 ms after a decision the next job may be decided. -/
def execDecisionPacing (s : State) : Host.Outcome State Fault Refusal :=
  .next (s.onJobs fun j => { j with pacing := false }).resolve

/-- A LANE_OWN write (R116, R117, R129): CLAIM and RELEASE join the batch of their stitch; `rsp` is the frame whose
response waits for it. Answers the state and the RCODE of a refusal at once. -/
def State.laneOwn (s : State) (p op mask : Nat) (rsp : Option (Bool × Nat × Nat)) : State × Nat :=
  if !(s.dev.st = .ready || s.dev.st = .safe) then (s, rcState)
  else if op = 1 then
    if (s.port p).rev == 1 && (maskList 19 mask).any rev1LaneRefused then (s, rcRevision)
    else (s.batch p (.claim mask rsp), 0)
  else if op = 2 then (s.batch p (.release mask rsp), 0)
  else if op = 0 then (s, 0)
  else (s, rcRange)

/-- CLAIM (R129). -/
def execClaim (port : Fin 2) (mask : BitVec 19) (s : State) : Host.Outcome State Fault Refusal :=
  answer port false (s.laneOwn port 1 mask.toNat none)

/-- RELEASE (R129). -/
def execRelease (port : Fin 2) (mask : BitVec 19) (s : State) : Host.Outcome State Fault Refusal :=
  answer port false (s.laneOwn port 2 mask.toNat none)

end Sys2Proof.Machine
end

