-- ==== Sys2Proof/Machine/Motion.lean ====
section
/-!
DEFINITION. The motion engine (R301..R329): velocities, step events, moves, stops, limits, homing, position confirmation
and gearing, as operations on one axis; the commands that use them stand in AxisCmds.
-/

namespace Sys2Proof.Machine

def State.ax (s : State) (n : Nat) : Axis := at' s.axes n
def State.onAx (s : State) (n : Nat) (f : Axis → Axis) : State := { s with axes := upd s.axes n f }

/-- One microstep on the scale of positions on the line and of velocities. -/
def q22 : Nat := 4194304

/-- Quotient rounded up. -/
def ceilDiv (a b : Nat) : Nat := if b = 0 then 0 else (a + b - 1) / b

/-- Quotient rounded to nearest, halves toward +∞ (R403). -/
def roundDiv (a : Int) (b : Int) : Int := if b < 0 then (2 * (-a) - b) / (2 * (-b)) else (2 * a + b) / (2 * b)

def isqrtFrom : Nat → Nat → Nat → Nat
  | 0, x, r => if (r + 1) * (r + 1) ≤ x then r + 1 else r
  | k + 1, x, r => isqrtFrom k x (if (r + 2 ^ (k + 1)) * (r + 2 ^ (k + 1)) ≤ x then r + 2 ^ (k + 1) else r)

/-- Square root rounded toward zero (R302). -/
def isqrt (x : Nat) : Nat := isqrtFrom 63 x 0

/-- Distance of two values of width `w` (R392). -/
def distw (w : Nat) (a b : Nat) : Int :=
  let d := ((a : Int) - b) % (2 ^ w : Nat)
  if d < (2 ^ (w - 1) : Nat) then d else d - (2 ^ w : Nat)

/-- POS as the register shows it. -/
def Axis.posWord (a : Axis) : Word := wordOfInt a.pos

/-- s32 of a distance, saturated at ±(2^31 − 1) (R312). -/
def sat32 (d : Int) : Nat := unsigned 32 (max (-(2 ^ 31 - 1)) (min (2 ^ 31 - 1) d))

/-! ### Rates (R307) -/

def State.iAx (s : State) (n : Nat) : Nat := ceilDiv 819200000 (s.cfg (.ax n) F.ax_EVT_RATE * s.stitch.period)

/-- v_cap in 2^-22 microsteps per st. -/
def State.vCap (s : State) (n : Nat) : Nat := s.cfg (.ax n) F.ax_STRIDE_MAX * 4096 * q22 / s.iAx n

/-- Profile slot `p` as in force (R309). -/
def State.profile (s : State) (n p : Nat) : Prof :=
  let o : Obj := .pr n p
  { vmax := s.cfg o F.pr_VMAX, acc := s.cfg o F.pr_ACC, dec := s.cfg o F.pr_DEC, jerk := s.cfg o F.pr_JERK,
    jlim := s.cfgB o F.pr_JLIM, vstart := s.cfg o F.pr_VSTART * 2 ^ 14 }

/-! ### The generator (R310) -/

/-- Brake velocity for the distance `rem` (2^-22). -/
def brakeVel (p : Prof) (rem : Nat) : Nat := isqrt (4 * p.vstart * p.vstart + 2 * p.dec * rem) / 2

/-- Velocity and acceleration of the next stitch. -/
def nextVel (p : Prof) (vcap rem v : Nat) (a : Int) : Nat × Int :=
  let vmax := min p.vmax vcap
  let vb := brakeVel p rem
  if rem = 0 then (0, 0)
  else if !p.jlim then (min vmax (min vb (max ((4 * v + p.acc) / 4) p.vstart)), a)
  else
    let lhs : Int := ((rem : Int) - v) * (2 * p.dec * p.jerk : Nat)
    let rhs : Int := ((v * v : Nat) - (p.vstart * p.vstart : Nat) : Int) * (4 * p.jerk : Nat) + (v * p.dec * 2 * p.dec * 256 : Nat)
    let a' : Int :=
      if lhs ≤ rhs then max (-(p.dec : Int)) (Int.tdiv (a * 256 - p.jerk) 256)
      else if (vmax * 2 * p.jerk : Int) ≤ v * 2 * p.jerk + a * a * 64 then max 0 (Int.tdiv (a * 256 - p.jerk) 256)
      else min (p.acc : Int) (Int.tdiv (a * 256 + p.jerk) 256)
    let w : Int := max (Int.tdiv (4 * v + a') 4) (min vb p.vstart : Nat)
    (min vmax (min vb w.toNat), a')

/-- Velocity of the next stitch of a stop (R312). -/
def stopVel (dec vstart vb v : Nat) : Nat :=
  let w := min ((4 * v - dec) / 4) vb
  if w ≤ vstart then 0 else w

/-! ### Placing events (R308) -/

/-- The stride after an event at `e`: `v` is the velocity of the stitch it falls in. -/
def strideAfter (v iax smax : Nat) (tgt e : Int) : Nat :=
  min (max 1 (min smax (ceilDiv (v * iax) (4096 * q22)))) (tgt - e).natAbs

/-- Place the events of one straight piece of the line: from `line0` at phase `ph0`, `dl` long over `len` phase units. -/
def placeSeg (ph0 len : Nat) (line0 : Int) (dl : Nat) (neg : Bool) (v iax smax : Nat) (tgt : Int) :
    Nat → Int → Nat → List (Nat × Int) → Int × Nat × List (Nat × Int)
  | 0, lastP, stride, evs => (lastP, stride, evs)
  | fuel + 1, lastP, stride, evs =>
    let stride := if stride = 0 then strideAfter v iax smax tgt lastP else stride
    if stride = 0 then (lastP, 0, evs)
    else
      let e : Int := if neg then lastP - stride else lastP + stride
      let d : Int := if neg then line0 - e * q22 else e * q22 - line0
      let p : Nat := if d ≤ 0 then ph0 else if dl = 0 then ph0 + len else ph0 + ceilDiv (d.toNat * len) dl
      if ph0 + len ≤ p then (lastP, stride, evs)
      else placeSeg ph0 len line0 dl neg v iax smax tgt fuel e (strideAfter v iax smax tgt e) (evs ++ [(p, e)])

/-- The axis with the straight pieces of the next stitch, which begins at absolute phase `base`, placed: (phase, length, signed
movement), toward `tgt`. -/
def Axis.place (a : Axis) (base iax smax : Nat) (tgt : Int) (v : Nat) (pieces : List (Nat × Nat × Int)) : Axis :=
  pieces.foldl (fun a p =>
    let neg := p.2.2 < 0 || (p.2.2 == 0 && a.negNext)
    let r := placeSeg (base + p.1) p.2.1 a.line p.2.2.natAbs neg v iax smax tgt 4100 a.lastPl (if neg = a.negNext then a.stride else 0) a.events
    { a with line := a.line + p.2.2, lastPl := r.1, stride := r.2.1, events := r.2.2, negNext := neg }) a

/-- Absolute phase of the next stitch's boundary. -/
def State.nextPh (s : State) : Nat := (s.stitch.n + 1) * 4096

/-! ### Starting and halting -/

/-- An axis at rest begins a motion toward `tgt` (R310, R311). Rest ends a second span of R356 that is still open. -/
def State.axStart (s : State) (n : Nat) (m : AxMode) (tgt : Int) (p : Prof) : State :=
  s.onAx n fun a =>
    { a with mode := m, tgt := tgt, remd := if m = .home then a.remd else 0, vel := 0, vNext := 0, a := 0, line := a.pos * q22, lastPl := a.pos, stride := 0,
             events := [], prof := p, stop := none, restN := 0, startN := s.stitch.n, negNext := tgt < a.pos,
             marginMin := 511, stallRun := 0, span := none, stallTr := if a.span.isSome then satInc 4095 a.stallTr else a.stallTr, vclamp := s.vCap n < p.vmax }

/-- Every event not yet issued is cancelled; POS stays at the last event issued (R316, R350). -/
def Axis.halt (a : Axis) : Axis :=
  { a with vel := 0, vNext := 0, a := 0, events := [], line := a.pos * q22, lastPl := a.pos, stride := 0 }

/-- The axis has come to the end of its motion: no velocity and no event placed (R310, R321). -/
def State.axDone (s : State) (n : Nat) : Bool :=
  let a := s.ax n
  a.mode != .rest && a.vel == 0 && a.vNext == 0 && a.events.isEmpty && decide (a.startN < s.stitch.n) &&
    (a.stop.isSome || a.mode = .disengage || (a.mode != .gear && a.pos == a.tgt))

/-- At rest: no velocity, no event placed, no gearing (R321); a DC axis when neither bridge drives (R345). -/
def State.axAtRest (s : State) (n : Nat) : Bool :=
  let a := s.ax n
  a.mode = .rest && !a.a1.drives && !a.b1.drives

/-- A record runs on the axis's lane, or on the head lane that owns it (R321). -/
def State.axisWorks (s : State) (n : Nat) : Bool :=
  (s.lane (n + 2)).busy || (match s.ownerPath (n + 2) with | some x => (s.lane x).busy | none => false)

/-- TARGET (R306): that of the current or last MOVE. -/
def Axis.target (a : Axis) : Int := if a.mode = .home then a.moveTgt else a.tgt

/-- A homing that has ended or is broken off leaves the axis at rest with its TARGET. -/
def Axis.homeOver (a : Axis) : Axis := { a.halt with mode := .rest, tgt := a.target, prof := if a.mode = .home then a.moveProf else a.prof, stop := none, hstep := .none, hcheck := false, refAt := none }

/-- The remaining distance at rest, MOVE_STOPPED where there is one (R312). -/
def State.keepRest (s : State) (n cause : Nat) : State :=
  let a := s.ax n
  let d := a.tgt - a.pos
  let s := s.onAx n fun a => { a.halt with mode := .rest, remd := d, stop := none }
  if d = 0 then s else s.raise 8 0xA (n + 2) [field 35 32 cause ||| field 31 0 (sat32 d)]

/-! ### Where the position becomes doubtful (R323, R324) -/

/-- Source value of the position confirmation and its width. -/
def State.confValue (s : State) (n : Nat) : Nat × Nat :=
  let k := s.cfg (.ax n) F.ax_CONF_IDX
  if s.cfg (.ax n) F.ax_CONF_SRC = 1 then ((at' s.encs k).cnt.toNat, 36)
  else ((at' s.ssis k).raw.toNat, s.cfg (.ssi k) F.ssi_NBITS)

/-- P_src of R324, unwrapped near POS. -/
def State.confPos (s : State) (n : Nat) : Int :=
  let v := s.confValue n
  let d := distw v.2 v.1 (s.cfg (.ax n) F.ax_REF_VAL)
  let p := wordOfInt ((s.cfg (.ax n) F.ax_REF_POS : Int) + roundDiv (d * 2 ^ 18) (s.cfgS (.ax n) F.ax_CONF_CPM))
  (s.ax n).pos + (p - (s.ax n).posWord).toInt

/-- The axis becomes UNCERTAIN. -/
def State.markUncertain (s : State) (n cause : Nat) : State :=
  (s.onAx n fun a => { a with posOk := false, homed := false, uncCause := cause, conf := none }).raise 8 5 (n + 2)
    [BitVec.ofNat 36 cause]

/-- The comparison of R324 with the source's present value. -/
def State.confirmed (s : State) (n : Nat) (lost : Bool) : Bool :=
  let a := s.ax n
  let k := s.cfg (.ax n) F.ax_CONF_IDX
  if s.cfg (.ax n) F.ax_CONF_SRC = 1 then
    !lost && a.refLive && (at' s.encs k).breaks == a.hBreaks && !(at' s.encs k).fault &&
      decide ((s.confPos n - a.pos).natAbs ≤ s.cfg (.ax n) F.ax_CONF_TOL)
  else (at' s.ssis k).sstate == 1 && (lost || decide ((s.confPos n - a.pos).natAbs ≤ s.cfg (.ax n) F.ax_CONF_TOL))

/-- A confirmation has its value: it passes, waits for its second attempt, or the axis is UNCERTAIN. -/
def State.confJudge (s : State) (n : Nat) (c : Conf) : State :=
  if s.confirmed n c.lost then
    let d := s.confPos n - (s.ax n).pos
    s.onAx n fun a =>
      let a := if c.lost then { a with pos := a.pos + d, tgt := a.tgt + d, line := a.line + d * q22, lastPl := a.lastPl + d } else a
      { a with conf := none, posOk := true, confTr := if c.second then satInc 4095 a.confTr else a.confTr }
  else if c.second then s.markUncertain n c.cause
  else s.onAx n fun a => { a with conf := some { c with waits := false } }

/-- A confirmation begins: an SSI source in RUN is read anew, an encoder is read at once; an SSI port that does not run
gives no reading (R398, R403). -/
def State.confBegin (s : State) (n : Nat) (c : Conf) : State :=
  let p := at' s.ssis (s.cfg (.ax n) F.ax_CONF_IDX)
  if s.cfg (.ax n) F.ax_CONF_SRC = 2 ∧ p.sstate = 1 then
    s.onAx n fun a => { a with conf := some { c with waits := true, early := p.busy.isSome } }
  else s.confJudge n c

/-- A cause of R323 occurs on an axis. -/
def State.uncertain (s : State) (n cause : Nat) (lost : Bool) : State :=
  if s.cfg (.ax n) F.ax_CONF_SRC = 0 then s.markUncertain n cause else s.confBegin n ⟨cause, false, false, lost, false⟩

/-! ### Corrections (R319, R338) -/

/-- σ of R338. -/
def State.sigma (s : State) (n : Nat) : Int := if s.cfgB (.ax n) F.ax_DIR_INV then -1 else 1

/-- ANGLE (R338). -/
def State.angle (s : State) (n : Nat) : Nat := ((s.sigma n * (s.ax n).pos + (s.ax n).aofs) % 1024).toNat

/-- Move every stored position by the correction `c`, keeping the electrical angle. -/
def State.shiftPos (s : State) (n : Nat) (c : Int) : State :=
  let sg := s.sigma n
  s.onAx n fun a =>
    { a with pos := a.pos + c, tgt := a.tgt + c, moveTgt := a.moveTgt + c, limPos := a.limPos + c, line := a.line + c * q22, lineS := a.lineS + c * q22, lastPl := a.lastPl + c,
             events := a.events.map fun e => (e.1, e.2 + c), aofs := ((a.aofs - sg * c) % 1024).toNat, homeCorr := c }

/-! ### Limits (R314..R317) -/

/-- Limit input `i` is active, guards the end `neg` and acts HARD or RAMP. -/
def State.guards (s : State) (n i : Nat) (neg : Bool) : Bool :=
  let a := s.ax n
  let act := s.cfg (.ax n) (if i = 0 then F.ax_ACT0 else F.ax_ACT1)
  let side := s.cfgB (.ax n) (if i = 0 then F.ax_SIDE0 else F.ax_SIDE1)
  (if i = 0 then a.lim0 else a.lim1) && (act == 1 || act == 2) && side == !neg

/-- A motion toward `neg` would start against an active guarded end; `free` is the input whose action is suspended. -/
def State.blocked (s : State) (n : Nat) (neg : Bool) (free : Option Nat) : Bool :=
  (s.guards n 0 neg && free != some 0) || (s.guards n 1 neg && free != some 1)

/-- The lane of axis `n` shows STOPPED with its record at once. -/
def State.stoppedNow (s : State) (n : Nat) : State :=
  (s.onLane (n + 2) fun l => { l with stopping := true, stopTo := .stopped }).cameToRest (n + 2)

/-- A record goes back to the head of its lane as held. -/
def State.unrelease (s : State) (i : Nat) (q : QItem) : State :=
  ((s.dropDeadline q.job q.idx).onRec q.job q.idx fun r => { r with outcome := .queued }).onLane i
    fun l => { l with running := none, queue := q :: l.queue }

/-- A record cannot run on its lane: FAULT with the record held (R305, R311). -/
def State.heldFault (s : State) (i : Nat) (q : QItem) : State := (s.unrelease i q).laneFault i

/-! ### MOVE (R311, R313) -/

/-- A MOVE starts toward TARGET, or stops at once for its distance, which leaves TARGET as it was, or for a limit. -/
def State.moveToward (s : State) (n : Nat) (tgt : Int) (p : Prof) : State :=
  let d := tgt - (s.ax n).pos
  if 2 ^ 34 ≤ d.natAbs then
    ((s.onAx n fun a => { a with remd := d }).raise 8 0xA (n + 2) [field 35 32 6 ||| field 31 0 (sat32 d)]).stoppedNow n
  else if d ≠ 0 ∧ s.blocked n (d < 0) none then
    ((s.onAx n fun a => { a with tgt := tgt, prof := p }).keepRest n 2).stoppedNow n
  else s.axStart n .move tgt p

/-- A MOVE record is released. -/
def State.startMove (s : State) (n : Nat) (q : QItem) : State :=
  let a := s.ax n
  let absolute := bits (q.r.w 1) 35 34 = 1
  if s.cfg (.ax n) F.ax_KIND ≠ 1 ∨ (absolute ∧ !a.posOk) then s.heldFault (n + 2) q
  else
    let d := if absolute then (q.r.w 2 - a.posWord).toInt else (q.r.w 2).toInt
    s.moveToward n (a.pos + d) (s.profile n (bits (q.r.w 1) 2 0))

/-! ### Homing (R318..R320) -/

def State.hm (s : State) (n : Nat) (f : Field) : Nat := s.cfg (.hm n (s.ax n).hslot) f

/-- The input named HSW is active. -/
def State.hswActive (s : State) (n : Nat) : Bool := if s.hm n F.hm_HSW = 0 then (s.ax n).lim0 else (s.ax n).lim1

/-- A homing fails, the axis at rest: 20 ms of wait before the second run, or the failure is lasting (R320). -/
def State.homeFail (s : State) (n : Nat) : State :=
  let a := s.ax n
  if a.htry = 1 then s.onAx n fun a => { a.halt with hstep := .failed, mode := .home, stop := none, tgt := a.pos }
  else
    let s := s.onAx n Axis.homeOver
    let s := s.markUncertain n 5
    if a.hcheck then s.readmitFail (n + 2)
    else match (s.lane (n + 2)).running with
      | some q => s.heldFault (n + 2) q
      | none => s.laneFault (n + 2)

/-- A homing fails where the axis may move: it stops at LIM_DEC first (R320 step 1). -/
def State.homeBreak (s : State) (n : Nat) : State :=
  let a := s.ax n
  if a.hstep = .failed then s
  else if a.vel = 0 ∧ a.vNext = 0 ∧ a.events.isEmpty then s.homeFail n
  else s.onAx n fun a => { a with stop := some 2, limDec := if a.stop.isSome then a.limDec else s.cfg (.ax n) F.ax_LIM_DEC, refAt := none }

/-- A travel of the homing: `dist` microsteps, in HDIR or against it; the homing fails where the other limit input guards that end
and is active (R316, R317, R320). -/
def State.homeTravel (s : State) (n : Nat) (step : HomeStep) (dist : Nat) (along : Bool) (slot : Nat) : State :=
  let up := (s.hm n F.hm_HDIR = 1) == along
  let t := (s.ax n).pos + (if up then (dist : Int) else -dist)
  if dist ≠ 0 ∧ s.blocked n (!up) (some (s.hm n F.hm_HSW)) then (s.onAx n fun a => { a with mode := .home }).homeFail n
  else (s.axStart n .home t (s.profile n slot)).onAx n fun a => { a with hstep := step, hmet := false }

/-- A homing of a clicker axis has completed: CSTATE is HOME (R297); so after a jam, which RE_ADMIT clears (R299, DEDUCED). -/
def State.clickerHomed (s : State) (n : Nat) : State :=
  [0, 1].foldl (fun (s : State) x =>
    if s.cfgB (.head x) F.hb_CLK_EN && s.cfg (.head x) F.hb_CLK_AX == n then s.onHead x fun h => { h with cstate := 0 } else s) s

/-- The check of a RE_ADMIT or the HOME record has ended well (R319, R154). -/
def State.homeEnd (s : State) (n : Nat) : State :=
  let a := s.ax n
  let s := s.onAx n fun a =>
    { a.homeOver with posOk := true, homed := true, refLive := true, conf := none,
                      hBreaks := (at' s.encs (s.cfg (.ax n) F.ax_CONF_IDX)).breaks,
                      homeTr := if a.htry = 2 then satInc 4095 a.homeTr else a.homeTr }
  let s := s.putCfg (.ax n) F.ax_REF_POS (s.hm n F.hm_HOME_POS)
  let s := s.putCfg (.ax n) F.ax_REF_VAL a.refVal.toNat
  let s := (s.raise 8 4 (n + 2) [field 35 33 a.hslot ||| field 31 0 (sat32 a.homeCorr)]).clickerHomed n
  if a.hcheck then s.readmitPass (n + 2) else s.endRunning (n + 2)

/-- Extrapolation of R403 to the instant `t`. -/
def Ssi.extrapolate (q : Ssi) (nbits t : Nat) : Nat :=
  match q.good with
  | (r1, t1) :: (r0, t0) :: _ =>
    if t1 ≤ t0 then r1.toNat
    else ((r1.toNat + roundDiv (distw nbits r1.toNat r0.toNat * ((t : Int) - t1)) ((t1 : Int) - t0)) % (2 ^ nbits : Nat)).toNat
  | [(r1, _)] => r1.toNat
  | [] => 0

/-- Value of the confirmation source at the instant `t` in phase units since reset (R319, R403); zero without one. -/
def State.refValue (s : State) (n t : Nat) : Word :=
  let k := s.cfg (.ax n) F.ax_CONF_IDX
  if s.cfg (.ax n) F.ax_CONF_SRC = 1 then (at' s.encs k).cnt
  else if s.cfg (.ax n) F.ax_CONF_SRC = 2 then BitVec.ofNat 36 ((at' s.ssis k).extrapolate (s.cfg (.ssi k) F.ssi_NBITS) t) else 0

/-- A homing meets its reference at the instant `t`: position and source value of that instant (R319, R408). -/
def State.refMet (s : State) (n t : Nat) : State :=
  let v := s.refValue n t
  s.onAx n fun a => { a with refAt := some a.pos, refVal := v }

/-- The method runs from its first step (R319). -/
def State.homeBegin (s : State) (n : Nat) : State :=
  let k := s.hm n F.hm_HKIND
  let sp := s.hm n F.hm_SPROF
  let lp := s.hm n F.hm_LPROF
  let s := s.onAx n fun a => { a with refAt := none, tgt := a.pos }
  if k = 4 then (s.onAx n fun a => { a with mode := .home, hstep := .latch, startN := s.stitch.n }).refMet n (s.stitch.n * 4096)
  else if k = 3 then s.homeTravel n .search (s.hm n F.hm_SEARCH_MAX) true sp
  else if k = 2 then s.homeTravel n .index (s.hm n F.hm_LATCH_MAX) true lp
  else if s.hswActive n then s.homeTravel n .latch (s.hm n F.hm_LATCH_MAX) false lp
  else s.homeTravel n .search (s.hm n F.hm_SEARCH_MAX) true sp

/-- The reference at `p`: every stored position is corrected (R319). -/
def State.homeRef (s : State) (n : Nat) (p : Int) : State :=
  let c := (BitVec.ofNat 36 (s.hm n F.hm_HOME_POS) - wordOfInt p).toInt
  let s := s.shiftPos n c
  let s := s.onAx n fun a => { a with refAt := none, hmet := true }
  if s.hm n F.hm_HKIND = 4 then s.homeEnd n else s.onAx n fun a => { a with stop := some (a.stop.getD 0), limDec := if a.stop.isSome then a.limDec else s.cfg (.ax n) F.ax_LIM_DEC }

/-- A travel of the homing has come to rest (R319). -/
def State.homeRest (s : State) (n : Nat) : State :=
  let a := s.ax n
  let k := s.hm n F.hm_HKIND
  let lp := s.hm n F.hm_LPROF
  let s := s.onAx n fun a => { a.halt with stop := none, tgt := a.pos }
  match a.hstep with
  | .search => if a.hmet ∧ k ≠ 3 then s.homeTravel n .latch (s.hm n F.hm_LATCH_MAX) false lp
               else if a.hmet then s.homeTravel n .backoff (s.hm n F.hm_BACKOFF) false lp
               else s.homeFail n
  | .latch | .index =>
    if a.hmet then s.homeTravel n .backoff (s.hm n F.hm_BACKOFF) false lp else s.homeFail n
  | .backoff => s.homeEnd n
  | _ => s

/-- A HOME record, or the check of a RE_ADMIT with slot 0. -/
def State.startHome (s : State) (n slot : Nat) (check : Bool) : State :=
  (s.onAx n fun a => { a with moveTgt := a.target, moveProf := if a.mode = .home then a.moveProf else a.prof, hslot := slot, htry := 1, hcheck := check }).homeBegin n

def State.startHomeRec (s : State) (n : Nat) (q : QItem) : State :=
  if s.cfg (.ax n) F.ax_KIND ≠ 1 then s.heldFault (n + 2) q else s.startHome n (bits (q.r.w 1) 2 0) false

/-! ### Gearing (R325..R329) -/

/-- Width of a master. -/
def State.masterWidth (s : State) (g : GearSet) : Nat := if g.msrc = 2 then s.cfg (.ssi g.mindex) F.ssi_NBITS else 36

/-- The three latched values of an encoder or SSI master, newest first (R326). -/
def State.latched (s : State) (g : GearSet) : Nat × Nat × Nat :=
  if g.msrc = 0 then
    let e := at' s.encs g.mindex
    (e.q.toNat, e.q0.toNat, e.past.getD 2 e.q0.toNat)
  else
    let p := at' s.ssis g.mindex
    (p.q.toNat, p.q0.toNat, p.q1.toNat)

/-- A velocity with its direction. -/
def signedBy (neg : Bool) (v : Nat) : Int := if neg then -(v : Int) else v

/-- E(S + 1), the master's estimated position at the end of the next stitch (R326); `n` is the slave, whose slot this is. -/
def State.masterE (s : State) (n : Nat) (g : GearSet) : Int :=
  if g.msrc = 1 then
    let m := s.ax g.mindex
    if g.mindex < n then m.line / q22 else (m.line + signedBy m.negNext m.vNext) / q22
  else
    let q := s.latched g
    (q.1 : Int) + 2 * distw (s.masterWidth g) q.1 q.2.1

/-- E(S), the estimate of the stitch before: in the slave's slot, or at the release of its GEAR ahead of all slots. -/
def State.masterNow (s : State) (n : Nat) (g : GearSet) (release : Bool) : Int :=
  if g.msrc = 1 then
    let m := s.ax g.mindex
    if g.mindex < n then (if release then m.line else m.lineS) / q22 else (m.lineS + signedBy m.neg m.vel) / q22
  else
    let q := s.latched g
    (q.2.1 : Int) + 2 * distw (s.masterWidth g) q.2.1 q.2.2

/-- Difference of two master positions over the master's width. -/
def State.distM (s : State) (g : GearSet) (a b : Int) : Int :=
  let w := s.masterWidth g
  distw w (a % (2 ^ w : Nat)).toNat (b % (2 ^ w : Nat)).toNat

/-- The chain of axis masters from `m` leads back to `n` (R328). -/
def State.gearLoops (s : State) (n : Nat) : Nat → Nat → Bool
  | 0, _ => false
  | fuel + 1, m =>
    m == n || (let a := s.ax m
               (a.mode == .gear && a.gear.msrc == 1 && s.gearLoops n fuel a.gear.mindex) ||
                 (match a.pend with | some g => g.msrc == 1 && s.gearLoops n fuel g.mindex | none => false))

/-- A master input that is faulted (R398). -/
def State.masterBroken (s : State) (g : GearSet) : Bool :=
  if g.msrc = 0 then (at' s.encs g.mindex).fault else if g.msrc = 2 then (at' s.ssis g.mindex).sstate == 2 else false

/-- Disengage: the axis decelerates from its last velocity at LIM_DEC (R328). -/
def State.disengage (s : State) (n : Nat) (cause : Option Nat) : State :=
  let dec := s.cfg (.ax n) F.ax_LIM_DEC
  s.onAx n fun a =>
    if a.mode = .gear then { a with mode := .disengage, gstate := .disengaging, pend := none, pendOff := false, grace := none, lag := 0,
                                    limDec := dec, stop := cause, took := false }
    else { a with pend := none, pendOff := false, gstate := if a.gstate = .pending then .none else a.gstate }

/-- The geared axis takes over a gear: ACC starts at 0 from the present position (R325). -/
def State.engage (s : State) (n : Nat) (g : GearSet) : State :=
  s.onAx n fun a =>
    let a := if a.mode = .gear then a
      else { a with mode := .gear, line := a.pos * q22, lastPl := a.pos, stride := 0, events := [], vel := 0, vNext := 0,
                    accG := 0, accS := 0, x0 := a.pos, restN := 0, startN := s.stitch.n, stop := none }
    { a with gear := g, gstate := .geared, pend := none, took := true }

/-- A GEAR record is released. -/
def State.startGear (s : State) (n : Nat) (q : QItem) : State :=
  let w := q.r.w 1
  let g : GearSet := ⟨bits w 33 30, bits w 29 26, (q.r.w 2).toInt⟩
  let at_ := bit w 25
  let h := q.r.w 3
  if s.cfg (.ax n) F.ax_KIND ≠ 1 then s.heldFault (n + 2) q
  else if bits w 35 34 = 2 then
    if (s.ax n).mode ≠ .gear then s.endRecord (n + 2) q
    else if at_ && s.distM (s.ax n).gear h.toInt (s.masterNow n (s.ax n).gear true) != 0 then
      s.onAx n fun a => { a with pendOff := true, gstate := .pending, handover := h }
    else (s.disengage n none)
  else if (g.msrc = 1 ∧ s.gearLoops n 12 g.mindex) ∨ s.masterBroken g then s.heldFault (n + 2) q
  else if at_ && s.distM g h.toInt (s.masterNow n g true) != 0 then
    s.onAx n fun a => { a with pend := some g, pendOff := false, gstate := .pending, handover := h }
  else (s.engage n g).onAx n fun a => { a with handover := if at_ then h else a.handover }

/-- LAG at a boundary and its grace (R329). -/
def Axis.lagCheck (a : Axis) (lagMax : Nat) : Axis :=
  let lag := a.x0 + a.accS / 2 ^ 18 - a.pos
  let tooFar := decide (lagMax < lag.natAbs)
  { a with lag := lag,
           gearTr := if a.grace.isSome && !tooFar then satInc 4095 a.gearTr else a.gearTr,
           grace := if !tooFar then none else match a.grace with
             | none => some 16
             | some k => some (k - 1) }

/-- Movement of a geared axis over the next stitch, held to v_cap. -/
def clampMove (d : Int) (v : Nat) : Int := max (-(v : Int)) (min v d)

/-- A disengaged axis decelerates at LIM_DEC (R328). -/
def State.freeSlot (s : State) (n : Nat) : State :=
  let a := s.ax n
  let v := stopVel a.limDec 0 a.vel a.vel
  let mv := signedBy a.neg v
  s.onAx n fun a =>
    let a := { a with vNext := v }
    let a := a.place s.nextPh (s.iAx n) (s.cfg (.ax n) F.ax_STRIDE_MAX) ((a.line + mv) / q22 + (if a.neg then -1 else 1)) v [(0, 4096, mv)]
    if v = 0 then { a with tgt := a.lastPl } else a

/-- A HARD action that guards the end `neg` is active. -/
def State.guardsHard (s : State) (n : Nat) (neg : Bool) : Bool :=
  (s.guards n 0 neg && s.cfg (.ax n) F.ax_ACT0 == 1) || (s.guards n 1 neg && s.cfg (.ax n) F.ax_ACT1 == 1)

/-- A geared axis turns toward an end that an active input guards, which acts at once (R316, R317, R328). -/
def State.gearLimit (s : State) (n : Nat) (neg : Bool) : State :=
  let still : Bool := (s.ax n).vel == 0 || s.guardsHard n neg
  let s := s.disengage n (some 2)
  let s := if still then s.onAx n Axis.halt else s.freeSlot n
  (s.onLane (n + 2) fun l => { l with stopCause := if l.stopping then l.stopCause else 2 }).beginStop (n + 2) .stopped

/-- Line position that ACC gives (R325), in 2^-22 microsteps. -/
def Axis.gearLine (a : Axis) (acc : Int) : Int := a.x0 * q22 + acc * 16

/-- A geared axis moves over the next stitch by these pieces (phase, length, movement), ACC becoming `acc`. -/
def State.gearMove (s : State) (n : Nat) (acc : Int) (pieces : List (Nat × Nat × Int)) : State :=
  let a := s.ax n
  let mv := pieces.foldl (fun m p => m + p.2.2) 0
  match pieces.find? fun p => p.2.2 != 0 && s.blocked n (p.2.2 < 0) none with
  | some p => s.gearLimit n (p.2.2 < 0)
  | none => s.onAx n fun _ =>
      { a with accG := acc, vNext := mv.natAbs, vclamp := a.line + mv != a.gearLine acc }.place s.nextPh (s.iAx n)
        (s.cfg (.ax n) F.ax_STRIDE_MAX) (a.x0 + acc / 2 ^ 18) mv.natAbs pieces

/-- Where the master `g` reaches HANDOVER in the next stitch: its distance from E(S), and Δm (R327). -/
def State.masterCross (s : State) (n : Nat) (g : GearSet) : Option (Int × Int) :=
  let h := (s.ax n).handover.toInt
  let e0 := s.masterNow n g false
  let e1 := s.masterE n g
  let d0 := s.distM g h e0
  let d1 := s.distM g h e1
  if d1 = 0 ∨ (0 < d0 ∧ d1 < 0) ∨ (d0 < 0 ∧ 0 < d1) then some (d0, s.distM g e1 e0) else none

/-- Crossing phase ceil(4096 × f) of R327. -/
def crossPhase (c : Int × Int) : Nat := min 4096 (ceilDiv (4096 * c.1.natAbs) c.2.natAbs)

/-- The slot of a geared axis: its pieces of line for the next stitch, with a handover in it where the master crosses. The old
ratio holds over the movement of its own master up to the crossing, whole units of it where the masters differ (DEDUCED). -/
def State.gearSlot (s : State) (n : Nat) : State :=
  let a := s.ax n
  let cap := s.vCap n
  let dm := s.distM a.gear (s.masterE n a.gear) (s.masterNow n a.gear false)
  let acc := a.accG + a.gear.ratio * dm
  let straight : State := s.gearMove n acc [(0, 4096, clampMove (a.gearLine acc - a.line) cap)]
  if a.pendOff then (if (s.masterCross n a.gear).isSome then straight.disengage n (straight.ax n).stop else straight)
  else match a.pend with
    | none => straight
    | some g => match s.masterCross n g with
      | none => straight
      | some c =>
        let f := crossPhase c
        let acc1 := a.accG + a.gear.ratio * (if c.2 = 0 then 0 else Int.tdiv (dm * c.1) c.2)
        let acc2 := acc1 + g.ratio * (c.2 - c.1)
        let m1 := clampMove (a.gearLine acc1 - a.line) cap
        let m2 := clampMove (a.gearLine acc2 - a.line - m1) cap
        (s.engage n g).gearMove n acc2 [(0, f, m1), (f, 4096 - f, m2)]

/-! ### The slot of an axis (R59, R308, R310) -/

/-- A pending engagement of an axis at rest: it engages in the next stitch where the master crosses HANDOVER (R327). -/
def State.pendSlot (s : State) (n : Nat) : State :=
  match (s.ax n).pend with
  | none => s
  | some g => match s.masterCross n g with
    | none => s
    | some c =>
      let f := crossPhase c
      let acc := g.ratio * (c.2 - c.1)
      (s.engage n g).gearMove n acc [(f, 4096 - f, clampMove (acc * 16) (s.vCap n))]

/-- Compute the next stitch of a profile motion: velocity, events, line. -/
def State.profileSlot (s : State) (n : Nat) : State :=
  let a := s.ax n
  let gap : Int := a.tgt * q22 - a.line
  let rem := gap.natAbs
  let vb := brakeVel a.prof rem
  let r := if a.stop.isSome then (stopVel a.limDec a.prof.vstart vb a.vel, a.a) else nextVel a.prof (s.vCap n) rem a.vel a.a
  let mv : Int := if rem ≤ r.1 then gap else if gap < 0 then -(r.1 : Int) else r.1
  s.onAx n fun a =>
    let a := { a with vNext := r.1, a := r.2, vclamp := s.vCap n < a.prof.vmax }
    let dl := r.1
    let neg := gap < 0 || (gap == 0 && a.neg)
    let p := placeSeg s.nextPh 4096 a.line dl neg r.1 (s.iAx n) (s.cfg (.ax n) F.ax_STRIDE_MAX) a.tgt 4100 a.lastPl a.stride a.events
    { a with line := a.line + mv, lastPl := p.1, stride := p.2.1, events := p.2.2, negNext := neg }

/-- A stop asked of the lane of an axis, or of its head path, begins to decelerate it (R150, R27, R312). -/
def State.takeStop (s : State) (n : Nat) : State :=
  let l := s.lane (n + 2)
  let a := s.ax n
  if !(l.stopping || l.pathStop) || a.stop.isSome || a.mode = .path then s
  else if a.mode = .rest then
    -- a pending engagement is dropped with the stop
    let s := s.onAx n fun a => { a with pend := none, gstate := if a.gstate = .pending then .none else a.gstate }
    (s.cameToRest (n + 2)).onLane (n + 2) fun l => { l with pathStop := false }
  else if a.mode = .gear then s.disengage n (some l.stopCause)
  else s.onAx n fun a => { a with stop := some (if l.stopping then l.stopCause else 7), limDec := s.cfg (.ax n) F.ax_LIM_DEC }

/-- The slot of axis `n` in the stitch that has just begun: its velocity is the one computed before; the next stitch is
computed and its events placed. A gearing change that has taken effect ends its GEAR. -/
def State.motionSlot (s : State) (n : Nat) : State :=
  if s.cfg (.ax n) F.ax_KIND ≠ 1 then s
  else
    let works := s.axisWorks n
    let s := s.onAx n fun a => { a with vel := a.vNext, neg := if a.vNext = 0 then a.neg else a.negNext,
                                        restN := if a.mode = .rest ∧ !works then satInc 1048575 a.restN else 0 }
    let s := s.takeStop n
    let s := if (s.ax n).mode = .gear ∧ (s.ax n).took ∧ (s.ax n).startN < s.stitch.n then
        match (s.lane (n + 2)).running with
        | some q => if q.r.typ = tGear then (s.endRecord (n + 2) q).onAx n fun a => { a with took := false }
                    else s.onAx n fun a => { a with took := false }
        | none => s.onAx n fun a => { a with took := false }
      else s
    match (s.ax n).mode with
    | .gear => (s.onAx n fun a => { a.lagCheck (s.cfg (.ax n) F.ax_LAG_MAX) with accS := a.accG }).gearSlot n
    | .disengage => s.freeSlot n
    | .move => s.profileSlot n
    | .home => if (s.ax n).hstep = .failed ∨ (s.ax n).refAt.isSome && s.hm n F.hm_HKIND == 4 then s else s.profileSlot n
    | .path => s
    | .rest => s.pendSlot n

end Sys2Proof.Machine
end

