-- ==== Sys2Proof/Machine/Position.lean ====
section
/-!
DEFINITION. The position inputs (R391..R410): quadrature counting and its checks, indexes, SSI transfers and their
extrapolation, pulse counters, probes; the lasting faults of encoders and SSI ports and what they do to their users.
-/

namespace Sys2Proof.Machine

def State.enc (s : State) (n : Nat) : Enc := at' s.encs n
def State.onEnc (s : State) (n : Nat) (f : Enc → Enc) : State := { s with encs := upd s.encs n f }
def State.ssi (s : State) (p : Nat) : Ssi := at' s.ssis p
def State.onSsi (s : State) (p : Nat) (f : Ssi → Ssi) : State := { s with ssis := upd s.ssis p f }
def State.onPrb (s : State) (r : Nat) (f : Prb → Prb) : State := { s with prbs := upd s.prbs r f }

/-- PWM cycles of 5 ns in a stitch of period `p` at X, the fraction dropped; R42 carries it (`Stitch.time`). -/
def stitchCycles (p x : Nat) : Nat := p * x / 65536

/-- PWM cycles since reset, counted at the end of each: the cycle that contains the last boundary (R42, R43). -/
def Stitch.cycles (g : Stitch) : Nat := ceilDiv g.time 65536

/-- A stitch later. -/
def Since.older (t : Since) : Since := { t with age := t.age + 1 }

/-- At least `n` st have passed, at this phase of the stitch: before the sampling point (`phase` 0) only for what happened
before a sampling point itself. -/
def Since.passed (t : Since) (n phase : Nat) : Bool := decide (n < t.age) || (t.age == n && (!t.late || phase == 2048))

/-- Now. -/
def Stitch.since (g : Stitch) : Since := ⟨0, g.phase == 2048⟩

/-- The phase generator begins the next stitch: the one that ends has lasted P × X / 65,536 PWM cycles (R41), a fraction
carried on (R42). -/
def Stitch.advance (g : Stitch) : Stitch :=
  { g with n := g.n + 1, phase := 0, x := g.xNext, period := g.newPeriod.getD g.period, newPeriod := none,
           time := g.time + g.period * g.x, ovrSince := g.ovrSince.older, holdVM := g.holdVM.map Since.older,
           holdVS := g.holdVS.map Since.older, holdVH := g.holdVH.map Since.older }

/-- Phase unit `u` of a stitch at X runs at (K + 1)/256, else at K/256: 16·j of the 4096 units do, evenly spread (R41; which
ones they are is a DESIGN CHOICE). -/
def longUnit (x u : Nat) : Bool := decide (u * (x % 256) / 256 < (u + 1) * (x % 256) / 256)

/-- The instant at which the phase reaches `ph`, from the boundary, in 1/2^20 of a PWM cycle (R9, R41): each unit lasts
P × k / 4096 cycles. -/
def phaseTime (p x ph : Nat) : Nat := p * (x / 256 * ph + ph * (x % 256) / 256)

/-- Phase units that `c` cycles of 5 ns take at period `p` and X. -/
def phOfCycles (p x c : Nat) : Nat := c * 2 ^ 28 / (p * x)

/-- Phase units since reset of the present boundary. -/
def State.nowPh (s : State) : Nat := s.stitch.n * 4096

/-! ### Lasting faults of an input (R398) -/

/-- An axis follows or is about to follow the master `k` of kind `msrc`. -/
def Axis.follows (a : Axis) (msrc k : Nat) : Bool :=
  ((a.gstate = .geared || (a.gstate = .pending && a.mode = .gear)) && a.gear.msrc == msrc && a.gear.mindex == k) ||
    (match a.pend with | some g => g.msrc == msrc && g.mindex == k | none => false)

/-- What a lasting fault of master `k` of kind `msrc` does to the axes geared to it: disengaged, their lanes in FAULT. -/
def State.dropSlaves (s : State) (msrc k : Nat) : State :=
  (List.range 12).foldl (fun s n =>
    if (s.ax n).follows msrc k then (s.disengage n (some 3)).laneFault (n + 2) else s) s

/-- A head path prints in MODE 1 by encoder `k` (R243, R398). -/
def State.printsBy (s : State) (x k : Nat) : Bool :=
  (s.head x).hmode == 1 && s.cfg (.head x) F.hs_MENC == k &&
    ((s.lane x).running.toList ++ (s.lane x).tail).any fun q => q.r.typ == tPrint

/-- A lasting fault of encoder `n`. -/
def State.encFault (s : State) (n code : Nat) : State :=
  if (s.enc n).fault then s
  else
    let s := s.onEnc n fun e => { e with fault := true, fcode := code, breaks := e.breaks + 1, quadOpen := false, idxBad := false }
    let s := s.sensorBroken (BitVec.ofNat 36 (32 + n))
    let s := s.dropSlaves 0 n
    [0, 1].foldl (fun s x => if s.printsBy x n then s.faultOne x else s) s

/-! ### Encoders (R393..R397) -/

/-- Place of a quadrature state in the order in which A leads B. -/
def quadPlace (a b : Bool) : Int := if a then (if b then 2 else 1) else (if b then 3 else 0)

/-- The filtered levels of A and B become `a` and `b`. -/
def execEncCount (enc : Fin 8) (a b : Bool) (s : State) : Host.Outcome State Fault Refusal :=
  let n := enc.val
  let e := s.enc n
  let s' := s.onEnc n fun e => { e with a := a, b := b }
  let d := (quadPlace a b - quadPlace e.a e.b) % 4
  .next (
    if !s.cfgB (.enc n) F.enc_EN ∨ d = 0 then s'
    else if d = 2 then
      if e.fault then s' else if e.quadOpen then s'.encFault n 1 else s'.onEnc n fun e => { e with quadOpen := true }
    else
      let up := (d == 1) != s.cfgB (.enc n) F.enc_DIR_INV
      s'.onEnc n fun e => { e with cnt := if up then e.cnt + 1 else e.cnt - 1 })

/-- The INDEX check of R397 at an accepted index. -/
def State.indexCheck (s : State) (n : Nat) : State :=
  let e := s.enc n
  let cpr := s.cfg (.enc n) F.enc_CPR
  let d := (e.cnt - e.idxCap).toInt.natAbs
  if cpr = 0 ∨ e.nIdx = 0 ∨ e.fault then s
  else if d = 0 ∨ d = cpr then s.onEnc n fun e => { e with qerrTr := if e.idxBad then satInc 4095 e.qerrTr else e.qerrTr, idxBad := false }
  else if e.idxBad then s.encFault n 2
  else s.onEnc n fun e => { e with idxBad := true }

/-- An accepted index is the reference of every homing that waits for it (R319, R396). -/
def State.indexHomes (s : State) (n ph : Nat) : State :=
  (List.range 12).foldl (fun s k =>
    let a := s.ax k
    if a.mode = .home ∧ a.hstep = .index ∧ !a.hmet ∧ a.refAt.isNone ∧ s.hm k F.hm_HENC = n then
      s.refMet k (s.nowPh + ph)
    else s) s

/-- The filtered level of the index input becomes `level` at phase `ph` of the current stitch; its active edge is accepted
where IGATE allows the quadrature state (R396). -/
def execEncIndex (enc : Fin 8) (level : Bool) (ph : BitVec 12) (s : State) : Host.Outcome State Fault Refusal :=
  let n := enc.val
  let e := s.enc n
  let s' := s.onEnc n fun e => { e with i := level }
  let active := level != s.cfgB (.enc n) F.enc_IPOL
  let k := (if e.a then 2 else 0) + (if e.b then 1 else 0)
  if !active ∨ e.i = level ∨ !s.cfgB (.enc n) F.enc_EN ∨ !(s.cfg (.enc n) F.enc_IGATE).testBit k then .next s'
  else
    let s' := s'.indexCheck n
    let m := s.cfg (.enc n) F.enc_IMODE
    let v := BitVec.ofNat 36 (s.cfg (.enc n) F.enc_IDX_VAL)
    let s' := s'.onEnc n fun e =>
      { e with idxCap := e.cnt, idxStamp := s.count, idxPh := ph.toNat, nIdx := satInc 2 e.nIdx,
               zofs := if m = 1 ∨ (m = 2 ∧ e.armed) then e.cnt - v else e.zofs,
               armed := if m = 1 ∨ m = 2 then false else e.armed }
    .next (s'.indexHomes n ph.toNat)

/-- The 1 ms after an illegal transition ends without another one (R397). -/
def execQuadWindowEnd (enc : Fin 8) (s : State) : Host.Outcome State Fault Refusal :=
  .next (if (s.enc enc).quadOpen then
      s.onEnc enc fun e => { e with quadOpen := false, qerrTr := satInc 4095 e.qerrTr }
    else s)

/-- A write of 1 to ARM (R394). -/
def State.encArm (s : State) (n : Nat) : State := s.onEnc n fun e => { e with armed := true }

/-- A write of 1 to ZERO: POSN becomes IDX_VAL. -/
def State.encZero (s : State) (n : Nat) : State :=
  s.onEnc n fun e => { e with zofs := e.cnt - BitVec.ofNat 36 (s.cfg (.enc n) F.enc_IDX_VAL) }

/-- A write of 1 to CLR (R398): the latched fault goes, the INDEX check begins anew. -/
def State.encClr (s : State) (n : Nat) : State :=
  s.onEnc n fun e => { e with fault := false, fcode := 0, nIdx := 0, idxBad := false, quadOpen := false }

def execEncArm (_port : Fin 2) (enc : Fin 8) (s : State) : Host.Outcome State Fault Refusal := .next (s.encArm enc)
def execEncZero (_port : Fin 2) (enc : Fin 8) (s : State) : Host.Outcome State Fault Refusal := .next (s.encZero enc)
def execEncClr (_port : Fin 2) (enc : Fin 8) (s : State) : Host.Outcome State Fault Refusal := .next (s.encClr enc)

/-- An encoder at phase 0 of a stitch: Q is latched (R395). -/
def Enc.latch (e : Enc) : Enc := { e with q0 := e.q, q := e.cnt, past := (e.cnt.toNat :: e.past).take 9 }

/-! ### SSI ports (R400..R404) -/

/-- The words of a transfer as sent. -/
structure SsiCfg where
  nbits : Nat
  lead : Nat
  nstat : Nat
  nchk : Nat
  deriving DecidableEq, Repr

def State.ssiCfg (s : State) (p : Nat) : SsiCfg :=
  let o : Obj := .ssi p
  let c := s.cfg o F.ssi_CHK
  ⟨s.cfg o F.ssi_NBITS, s.cfg o F.ssi_LEAD, s.cfg o F.ssi_NSTAT, if c = 0 then 0 else if c = 3 then s.cfg o F.ssi_CRCLEN else 1⟩

/-- T_x + TM in 5 ns cycles: a clock period is CDIV cycles of 10 ns, TM counts 0.1 µs. -/
def State.ssiBusyCycles (s : State) (p : Nat) : Nat :=
  let c := s.ssiCfg p
  (1 + c.lead + c.nbits + c.nstat + c.nchk) * s.cfg (.ssi p) F.ssi_CDIV * 2 + s.cfg (.ssi p) F.ssi_TM * 20

/-- A transfer starts at phase `ph` of the current stitch; its sample instant is its first falling edge, half a clock
period on (DEDUCED from the example of R405). -/
def State.ssiStart (s : State) (p ph : Nat) : State :=
  let at_ := s.nowPh + ph + phOfCycles s.stitch.period s.stitch.x (s.cfg (.ssi p) F.ssi_CDIV)
  s.onSsi p fun q => { q with busy := some at_, left := s.ssiBusyCycles p + stitchCycles s.stitch.period s.stitch.x * ph / 4096 }

/-- Value of a most significant bit first sequence. -/
def bitsVal (bs : List Bool) : Nat := bs.foldl (fun v b => 2 * v + (if b then 1 else 0)) 0

/-- Gray code to binary, most significant bit first. -/
def grayBits : Bool → List Bool → List Bool
  | _, [] => []
  | p, b :: rest => (p != b) :: grayBits (p != b) rest

/-- One step of the check CRC: register of `len` bits, generator without its leading term (R400). -/
def ssiCrcStep (len poly : Nat) (c : Nat) (b : Bool) : Nat :=
  let top := c.testBit (len - 1) != b
  let c := c * 2 % 2 ^ len
  if top then c ^^^ poly else c

/-- The parts of the bits read: start bits, data, status, check. -/
structure SsiParts where
  lead : List Bool
  data : List Bool
  stat : List Bool
  chk : List Bool
  deriving DecidableEq, Repr

def ssiParts (c : SsiCfg) (bs : List Bool) : SsiParts :=
  let bs := bs ++ List.replicate (c.lead + c.nbits + c.nstat + c.nchk - bs.length) false
  ⟨bs.take c.lead, (bs.drop c.lead).take c.nbits, (bs.drop (c.lead + c.nbits)).take c.nstat,
   (bs.drop (c.lead + c.nbits + c.nstat)).take c.nchk⟩

/-- The check bits agree with the data and status bits (R400). -/
def State.ssiCheckOk (s : State) (p : Nat) (w : SsiParts) : Bool :=
  let k := s.cfg (.ssi p) F.ssi_CHK
  let inv := s.cfgB (.ssi p) F.ssi_CRCINV
  let body := w.data ++ w.stat
  if k = 0 then true
  else if k = 3 then
    bitsVal (w.chk.map fun b => b != inv) == body.foldl (ssiCrcStep (s.cfg (.ssi p) F.ssi_CRCLEN) (s.cfg (.ssi p) F.ssi_POLY)) 0
  else ((body ++ w.chk).filter id).length % 2 == (if k = 1 then 0 else 1)

/-- Data of a reading in binary. -/
def State.ssiValue (s : State) (p : Nat) (w : SsiParts) : Nat :=
  bitsVal (if s.cfgB (.ssi p) F.ssi_GRAY then grayBits false w.data else w.data)

/-- Cause of a failed transfer (R404); none where the reading is good. -/
def State.ssiCause (s : State) (p : Nat) (bs : List Bool) (t : Nat) : Option Nat :=
  let c := s.ssiCfg p
  let w := ssiParts c bs
  let v := s.ssiValue p w
  let jump := s.cfg (.ssi p) F.ssi_JUMP_MAX
  let q := s.ssi p
  if bs.isEmpty then some 5
  else if !s.ssiCheckOk p w then some 1
  else if bitsVal w.stat &&& s.cfg (.ssi p) F.ssi_SERR ≠ 0 then some 2
  else if bitsVal w.lead ≠ s.cfg (.ssi p) F.ssi_LEADPAT / 2 ^ (3 - c.lead) then some 3
  else if jump ≠ 0 ∧ !q.good.isEmpty ∧ jump < (distw c.nbits v (q.extrapolate c.nbits t)).natAbs then some 4
  else none

/-- The confirmations that wait for a reading of port `p` (R324, R403); a transfer begun before the request does not
count. -/
def State.ssiConfs (s : State) (p : Nat) : State :=
  (List.range 12).foldl (fun s n =>
    if s.cfg (.ax n) F.ax_CONF_SRC = 2 ∧ s.cfg (.ax n) F.ax_CONF_IDX = p then
      match (s.ax n).conf with
      | some c =>
        if !c.waits then s
        else if c.early then s.onAx n fun a => { a with conf := some { c with early := false } }
        else s.confJudge n c
      | none => s
    else s) s

/-- A lasting fault of port `p` (R398, R404). -/
def State.ssiFault (s : State) (p : Nat) : State :=
  if (s.ssi p).sstate = 2 then s
  else
    let s := s.onSsi p fun q => { q with sstate := 2 }
    ((s.sensorBroken (BitVec.ofNat 36 (40 + p))).dropSlaves 2 p).ssiConfs p

/-- The transfer in progress ends with the bits read after the first edge; none at all where DATA was low at its start. -/
def execSsiTransferEnd (ssi : Fin 2) (bs : List Bool) (s : State) : Host.Outcome State Fault Refusal :=
  let p := ssi.val
  let q := s.ssi p
  let c := s.ssiCfg p
  match q.busy with
  | none => .next s
  | some t =>
    let w := ssiParts c bs
    let s' := s.onSsi p fun q => { q with busy := none, statbits := if bs.isEmpty then q.statbits else bitsVal w.stat }
    match s.ssiCause p bs t with
    | none =>
      let v := BitVec.ofNat 36 (s.ssiValue p w)
      .next ((s'.onSsi p fun q =>
        { q with raw := v, rstamp := BitVec.ofNat 36 (t / 4096), good := (v, t) :: q.good.take 1,
                 ssiTr := if q.again then satInc 4095 q.ssiTr else q.ssiTr, again := false }).ssiConfs p)
    | some k =>
      let s' := s'.onSsi p fun q => { q with fcode := k, again := !q.again }
      .next (if q.again then s'.ssiFault p else s')

/-- TM has ended after a failed transfer: its repeat starts at phase `ph` of the current stitch (R404). -/
def execSsiRepeat (ssi : Fin 2) (ph : BitVec 12) (s : State) : Host.Outcome State Fault Refusal :=
  .next (if (s.ssi ssi).again ∧ (s.ssi ssi).busy.isNone then s.ssiStart ssi ph.toNat else s)

/-- A write of 1 to CLR (R398). -/
def State.ssiClr (s : State) (p : Nat) : State :=
  s.onSsi p fun q => { q with sstate := if q.sstate = 2 then (if s.cfgB (.ssi p) F.ssi_EN then 1 else 0) else q.sstate, fcode := 0 }

def execSsiClr (_port : Fin 2) (ssi : Fin 2) (s : State) : Host.Outcome State Fault Refusal := .next (s.ssiClr ssi)

/-- Port `p` at phase 0 of a stitch: `len` is the length of the stitch before in 5 ns cycles. Q is latched, SSTATE follows
EN, and the scheduled transfer starts or is skipped (R402, R403). -/
def State.ssiBoundary (s : State) (p len : Nat) : State :=
  let nb := s.cfg (.ssi p) F.ssi_NBITS
  let en := s.cfgB (.ssi p) F.ssi_EN
  let s := s.onSsi p fun q =>
    { q with left := q.left - len, q1 := q.q0, q0 := q.q, q := BitVec.ofNat 36 (q.extrapolate nb s.nowPh),
             sstate := if q.sstate = 2 then 2 else if en then 1 else 0 }
  let q := s.ssi p
  if !en ∨ s.stitch.n % 2 ^ (s.cfg (.ssi p) F.ssi_RATE) ≠ 0 then s
  else if q.busy.isSome ∨ q.again ∨ q.left ≠ 0 then s.onSsi p fun q => { q with skips := satInc 255 q.skips }
  else s.ssiStart p 0

/-! ### Pulse counters (R406) -/

/-- EDGE of a counter or a probe takes an edge to `level`. -/
def edgeTakes (edge : Nat) (level : Bool) : Bool := edge == 2 || (edge == 0) == level

/-- The debounced level becomes `level`, `us` true microseconds after the last counted edge. -/
def execCntEdge (cnt : Fin 16) (level : Bool) (us : BitVec 20) (s : State) : Host.Outcome State Fault Refusal :=
  let c := cnt.val
  let k := at' s.cnts c
  let counts := k.level != level && s.cfgB (.cnt c) F.cnt_EN && edgeTakes (s.cfg (.cnt c) F.cnt_EDGE) level
  .next { s with cnts := upd s.cnts c fun k =>
    if counts then { k with level := level, count := k.count + 1, last := s.count, period := if k.seen then us.toNat else 0, seen := true }
    else { k with level := level } }

/-! ### Probes (R407..R409) -/

/-- Ask for the stop of the lanes of a mask: it takes effect at phase 0 of the next stitch (R150). -/
def State.askStop (s : State) (mask : Nat) : State :=
  s.onJobs fun j => { j with stops := j.stops ++ [(s.stitch.n, mask)] }

/-- What a probe captures. -/
def State.capture (s : State) (r ph : Nat) (rise : Bool) : Capture :=
  let o : Obj := .prb r
  { stamp := s.count, ph := ph, rise := rise,
    cntA := if s.cfgB o F.prb_ENCA_EN then some (s.enc (s.cfg o F.prb_ENCA)).cnt else none,
    cntB := if s.cfgB o F.prb_ENCB_EN then some (s.enc (s.cfg o F.prb_ENCB)).cnt else none,
    posX := if s.cfgB o F.prb_AX_EN then some (s.ax (s.cfg o F.prb_AX)).posWord else none }

/-- The filtered level of probe `prb` becomes `rise` at phase `ph` of the current stitch. -/
def execProbeCapture (prb : Fin 4) (ph : BitVec 12) (rise : Bool) (s : State) : Host.Outcome State Fault Refusal :=
  let r := prb.val
  let p := at' s.prbs r
  let s' := s.onPrb r fun p => { p with level := rise }
  if p.level = rise ∨ !p.armed ∨ !s.cfgB (.prb r) F.prb_EN ∨ !edgeTakes (s.cfg (.prb r) F.prb_EDGE) rise then .next s'
  else if 4 ≤ p.queue.length then .next (s'.onPrb r fun p => { p with ovf := satInc 4095 p.ovf })
  else
    let c := s.capture r ph.toNat rise
    let s' := s'.onPrb r fun p => { p with queue := p.queue ++ [c], armed := s.cfgB (.prb r) F.prb_PMODE }
    .next (if s.cfgB (.prb r) F.prb_STOP_EN then s'.askStop (s.cfg (.prb r) F.prb_SMASK * 4) else s')

def execProbeArm (_port : Fin 2) (prb : Fin 4) (s : State) : Host.Outcome State Fault Refusal :=
  .next (s.onPrb prb fun p => { p with armed := true })

def execProbeDisarm (_port : Fin 2) (prb : Fin 4) (s : State) : Host.Outcome State Fault Refusal :=
  .next (s.onPrb prb fun p => { p with armed := false })

def execProbeFlush (_port : Fin 2) (prb : Fin 4) (s : State) : Host.Outcome State Fault Refusal :=
  .next (s.onPrb prb fun p => { p with queue := [] })

/-- A read of STAMP: the stitch of the oldest capture, which it takes, and the state after it. -/
def State.probeRead (s : State) (r : Nat) : Word × State :=
  match (at' s.prbs r).queue with
  | [] => (0, s.onPrb r fun p => { p with shown := none })
  | c :: rest => (c.stamp, s.onPrb r fun p => { p with queue := rest, shown := some c })

def execProbeStampRead (port : Fin 2) (prb : Fin 4) (s : State) : Host.Outcome State Fault Refusal :=
  let r := s.probeRead prb
  .next (r.2.onPort port fun p => { p with rdata := r.1 })

end Sys2Proof.Machine
end

