-- ==== Sys2Proof/Machine/Bridges.lean ====
section
/-!
DEFINITION. The bridges (R330..R359): microstep tables, current targets, regulation periods, brushed DC, fault detection,
recovery and lasting faults. The bridge check (R343) and the stall rules (R355..R357) stand with re-admission and the axis
commands.
-/

namespace Sys2Proof.Machine

/-- Bridge `b` of 24: bridge A of axis `b / 2` where `b` is even, bridge B where it is odd. -/
def State.br (s : State) (b : Nat) : Bridge := if b % 2 = 0 then (s.ax (b / 2)).a1 else (s.ax (b / 2)).b1

def State.onBr (s : State) (b : Nat) (f : Bridge → Bridge) : State :=
  s.onAx (b / 2) fun a => if b % 2 = 0 then { a with a1 := f a.a1 } else { a with b1 := f a.b1 }

/-- The shank forces the outputs of group `g`, by itself or in the safe state (R422, R424). -/
def State.forced (s : State) (g : Nat) : Bool := s.shank.st != .normal || (at' s.shank.groups g).forced

/-- A trip of either bridge forces all eight gates of the axis (R422). -/
def State.bridgeForced (s : State) (b : Nat) : Bool := s.forced (b / 2 * 2) || s.forced (b / 2 * 2 + 1)

/-- Level of bridge `b` while the shank forces it (R419, R424): the low sides of an axis fused for BRAKE, or of a bridge in
the RELEASE hold, else all gates off. -/
def State.safeSwitch (s : State) (b : Nat) : Switch :=
  if bit (s.otp 0x17) (24 + b / 2) || (at' s.shank.groups b).relHold then .slow else .off

/-- The switch state bridge `b` takes when its engine asks for `w`: held by the shank, or by VGD_LOW (R422, R353). -/
def State.heldSwitch (s : State) (b : Nat) (w : Switch) : Switch :=
  if s.bridgeForced b then s.safeSwitch b else if s.sup.vgdLow then .off else w

/-- A drive field as bridge `b` has adopted it (R337). -/
def State.drv (s : State) (b : Nat) (f : Field) : Nat :=
  match (s.br b).hold.find? fun h => h.1 == f.off with
  | some h => f.get h.2
  | none => s.cfg (.ax (b / 2)) f

/-! ### Targets (R338..R340) -/

/-- Entry `i` of microstep table `t`. -/
def State.stepTable (s : State) (t i : Nat) : Nat :=
  s.cfg (.ust (128 * t + i / 2)) (if i % 2 = 0 then F.ust_EVEN else F.ust_ODD)

/-- |T| and sign of the phase of bridge `b` at the present angle (R339). -/
def State.phase (s : State) (b : Nat) : Nat × Int :=
  let k := s.angle (b / 2)
  let q := k / 256
  let i := k % 256
  let t := s.drv b F.dr_TSEL
  if b % 2 = 0 then (s.stepTable t (if q % 2 = 0 then i else 255 - i), if q ≤ 1 then 1 else -1)
  else (s.stepTable t (if q % 2 = 0 then 255 - i else i), if q = 0 ∨ q = 3 then 1 else -1)

/-- The phase current regulation forms a target (R340, R358): current mode, ACTIVE or HOLD. -/
def State.inCurrent (s : State) (b : Nat) : Bool :=
  s.cfg (.ax (b / 2)) F.ax_KIND == 1 && s.drv b F.dr_CTRL == 0

/-- DAC of bridge `b` (R340). -/
def State.dac (s : State) (b : Nat) : Int :=
  let ss := (s.ax (b / 2)).sstate
  if s.inCurrent b ∧ ss ≤ 1 then
    let p := s.phase b
    p.2 * ((p.1 * s.drv b (if ss = 0 then F.dr_IRUN else F.dr_IHOLD)) / 1023 : Nat)
  else 0

/-! ### Voltage and DC modes (R344, R345) -/

/-- T_pwm in PWM cycles. -/
def State.pwmCycles (s : State) (b : Nat) : Nat := (roundDiv 200000 (s.drv b F.dr_PWM_KHZ)).toNat

/-- The on-part with the least off-part, DT + 100 ns, kept (R332). -/
def State.onPart (s : State) (b on : Nat) : Nat := min on (s.pwmCycles b - (5 * s.drv b F.dr_DT + 20))

/-- True speed in full steps/s from the last event interval; 0 at rest. -/
def State.fullSteps (s : State) (n : Nat) : Nat :=
  let a := s.ax n
  if a.vel = 0 ∨ a.evInt = 0 then 0 else a.evStride * 2 ^ 20 * 200000000 / (a.evInt * s.stitch.period * s.stitch.x)

/-- V moves toward its target by VSLEW × T_pwm / 1 ms codes; `vamp` is V in 1/200000 code. -/
def State.slewV (s : State) (n : Nat) : State :=
  let b := 2 * n
  let goal := s.drv b (if (s.ax n).sstate = 0 then F.dr_VRUN else F.dr_VHOLD) * 200000
  let st := s.drv b F.dr_VSLEW * s.pwmCycles b
  s.onAx n fun a => { a with vamp := if a.vamp < goal then min goal (a.vamp + st) else max goal (a.vamp - st) }

/-- PWM cycles of the on-part of a voltage-mode phase. -/
def State.voltOn (s : State) (b : Nat) : Nat :=
  let v := min 1023 ((s.ax (b / 2)).vamp / 200000 + s.drv b F.dr_KFF * s.fullSteps (b / 2) / 1000)
  s.pwmCycles b * ((s.phase b).1 * v) / (1023 * 1023)

/-- State of a DC bridge in its off-part. -/
def State.dcOff (s : State) (b : Nat) : Switch :=
  if s.drv b (if b % 2 = 0 then F.dr_DEC_A else F.dr_DEC_B) = 1 then .off else .slow

/-- No gate of the bridge can be driven: forced by the shank, VGD low, domain not in RUN (R321, R353, R354). -/
def State.bridgeDead (s : State) (b : Nat) : Bool :=
  s.bridgeForced b || s.sup.vgdLow || (at' s.power.doms (10 + b / 6)).st != .run

/-- The switch state with which bridge `b` begins a regulation period, and its on-part in voltage and DC modes. -/
def State.beginPeriod (s : State) (b : Nat) : Switch × Nat :=
  let a := s.ax (b / 2)
  let q := s.br b
  let kind := s.cfg (.ax (b / 2)) F.ax_KIND
  let side (up : Bool) : Switch := if up then .drivePlus else .driveMinus
  if s.bridgeForced b then (s.safeSwitch b, 0)
  else if s.bridgeDead b ∨ q.st ≠ .run then (.off, 0)
  else if kind = 2 then
    if !q.drives then (if q.brakes then .slow else .off, 0)
    else if q.duty = 0 then (s.dcOff b, 0)
    else (side (!q.dirDc), s.onPart b (s.pwmCycles b * q.duty / 1023))
  else if kind = 0 ∨ a.sstate = 2 ∨ a.sstate = 4 then (.off, 0)
  else if a.sstate = 3 then (.slow, 0)
  else if s.inCurrent b then (if s.dac b = 0 then .fast else side (0 < s.dac b), 0)
  else
    let on := s.onPart b (s.voltOn b)
    (if on = 0 then .slow else side (0 < (s.phase b).2), on)

/-- A regulation period begins: committed words are adopted first (R337). -/
def State.newPeriod (s : State) (b : Nat) : State :=
  let s := s.onBr b fun q => { q with hold := [] }
  let r := s.beginPeriod b
  s.onBr b fun q => { q with sw := r.1, onCycles := r.2 }

/-! ### Lasting faults (R350) -/

/-- The axis's motion ends at once with the position of its last event; MOVE_STOPPED where a distance remains. -/
def State.dropMotion (s : State) (n cause : Nat) : State :=
  let a := s.ax n
  let seeks := match s.ownerPath (n + 2) with | some x => (s.head x).step.searching | none => false
  if a.mode = .home then s.onAx n Axis.homeOver
  else if a.mode = .rest then s.onAx n fun a => { a with gstate := .none, pend := none, pendOff := false }
  else
    let s := s.onAx n fun a =>
      { a with tgt := if (a.mode = .move && !seeks) || a.mode = .path then a.tgt else a.pos, gstate := .none, pend := none, pendOff := false, grace := none,
               hstep := .none, hcheck := false, refAt := none }
    s.keepRest n cause

/-- A DC run in progress stops with its remaining duration (R346, R350). -/
def State.dropDc (s : State) (n : Nat) : State :=
  s.onAx n fun a =>
    { a with dcLeft := match a.dcEnd with | some e => e - s.nowPh | none => a.dcLeft, dcEnd := none, took := false }

/-- One lasting fault: bridge, cause, element, and the other bits of its event's argument. -/
structure Lasting where
  b : Nat
  cause : Nat
  elem : Nat
  extra : Word

/-- Its event (R350, R359). -/
def Lasting.code (f : Lasting) : Nat :=
  if f.cause ≤ 4 then 8 else if f.cause ≤ 7 ∨ f.cause = 11 then 9 else if f.cause = 8 then 6 else 7

def Lasting.arg (f : Lasting) : Word :=
  let side := flag 35 (f.b % 2 == 1)
  if f.cause = 8 then side
  else if f.cause = 9 ∨ f.cause = 10 then side ||| field 31 28 f.cause ||| f.extra
  else side ||| field 34 32 f.elem ||| field 31 28 f.cause

/-- Bridges with lasting faults: all eight gates go OFF and each fault raises its event. -/
def State.bridgesOut (s : State) (n : Nat) (fs : List Lasting) : State :=
  let mark (b : Nat) (q : Bridge) : Bridge :=
    match fs.find? fun f => f.b == b with
    | some f => { q with st := .fault, fcause := f.cause, elem := f.elem, sw := .off, confirm := none, recWaits := false, drives := false, keeps := false, brakes := false }
    | none => { q with st := if q.st = .fault then .fault else .off, sw := .off, confirm := none, recWaits := false, drives := false, keeps := false, brakes := false }
  let s := s.onAx n fun a => { a with a1 := mark (2 * n) a.a1, b1 := mark (2 * n + 1) a.b1 }
  fs.foldl (fun s f => s.raise 8 f.code (n + 2) [f.arg]) s

/-- Lasting faults of bridges of axis `n`: all eight gates go OFF, the motion ends, events in the order of R350, the lane
faults. -/
def State.bridgesLasting (s : State) (n : Nat) (fs : List Lasting) : State :=
  let moving := (s.ax n).vel ≠ 0
  let s := ((s.bridgesOut n fs).dropMotion n 3).dropDc n
  let s := if moving then s.uncertain n 3 false else s
  (s.laneFault (n + 2)).cameToRest (n + 2)

/-! ### Detection and recovery (R347..R349) -/

/-- A cause is detected on a running bridge: OFF and RECOVER, or lasting during a confirmation. -/
def State.bridgeDetect (s : State) (b cause elem : Nat) : State :=
  let q := s.br b
  if q.st ≠ .run ∨ s.bridgeForced b ∨ s.sup.vgdLow then s
  else if q.confirm.isSome then s.bridgesLasting (b / 2) [⟨b, cause, elem, 0⟩]
  else s.onBr b fun q => { q with st := .recover, fcause := cause, elem := elem, sw := .off, nOpen := 0, nSense := 0, nHead := 0 }

/-- Re-enabled at the start of a new regulation period, with its confirmation open. -/
def State.bridgeEnable (s : State) (b : Nat) : State :=
  (s.onBr b fun q => { q with st := .run, confirm := some q.fcause, confirmed1ms := false, recWaits := false,
                              nOpen := 0, nSense := 0, nHead := 0 }).newPeriod b

/-- The shank has released the outputs: a bridge whose REC_DLY has run is re-enabled (R354). -/
def State.bridgeReleased (s : State) (b : Nat) : State :=
  if (s.br b).st = .recover ∧ (s.br b).recWaits ∧ !s.bridgeForced b then s.bridgeEnable b else s

/-- The confirmation passes: the transient counter of the class increments. -/
def State.bridgePass (s : State) (b : Nat) : State :=
  let c := (s.br b).confirm.getD 0
  (s.onBr b fun q => { q with confirm := none, confirmed1ms := false }).onAx (b / 2) fun a =>
    if c ≤ 4 then { a with ocTr := satInc 4095 a.ocTr }
    else if c ≤ 7 then { a with gateTr := satInc 4095 a.gateTr }
    else { a with diagTr := satInc 4095 a.diagTr }

/-- Twice the hard-short threshold in full scales (R336, R364). -/
def hardShort (code : Nat) : Nat := [4, 5, 6, 8].getD code 8

/-- The cause 1..4 that a shunt or a FET gives under these thresholds: hard short and its Vds limit through blanking, the normal
ones after it (R347, R379). -/
def probeOverload (p : Probe) (oc hs vds vdsHs : Nat) : Option Nat :=
  let v := p.value.toNat
  match p.place with
  | .shunt =>
    if p.blank then (if hardShort hs * 1023 < 2 * v then some 2 else none) else if oc * 1023 < 8 * v then some 1 else none
  | .vds => if (if p.blank then 250 * vdsHs else 50 * vds) < v then some (if p.elem.val % 2 = 0 then 3 else 4) else none
  | _ => none

/-- A gate fails its check of R334, or a bootstrap store is low (R333). -/
def probeGateBad (p : Probe) : Bool :=
  let v := p.value.toNat
  match p.place with
  | .gateOn => decide (v + 2000 ≤ p.sup.toNat)
  | .gateOff => decide (1000 ≤ v)
  | .boot => decide (v < 7000)
  | _ => false

/-- FCAUSE 1..7 that a reading gives on bridge `b` (R347). -/
def State.bridgeCause (s : State) (b : Nat) (p : Probe) : Option Nat :=
  if probeGateBad p then some (if p.place = .gateOn then 5 else if p.place = .gateOff then 6 else 7)
  else probeOverload p (s.drv b F.dr_OC_TH) (s.drv b F.dr_HS_TH) (s.drv b F.dr_VDS_TH) (s.drv b F.dr_VDS_HS)

/-- BRIDGE_FAULT: a comparator of R347 finds its cause, with the element of R359. -/
def execBridgeFault (bridge : Fin 24) (site : ProbeAt × Fin 4) (reading : Bool × BitVec 16 × BitVec 16) (s : State) :
    Host.Outcome State Fault Refusal :=
  let probe : Probe := ⟨site.1, site.2, reading.1, reading.2.1, reading.2.2⟩
  .next (match s.bridgeCause bridge probe with
    | some k => s.bridgeDetect bridge k (if probe.place = .shunt then 4 else probe.elem.val)
    | none => s)

/-- REC_DLY ends (R349, R354). -/
def execBridgeRecover (bridge : Fin 24) (s : State) : Host.Outcome State Fault Refusal :=
  .next (if (s.br bridge).st ≠ .recover then s
    else if s.bridgeForced bridge then s.onBr bridge fun q => { q with recWaits := true }
    else s.bridgeEnable bridge)

/-- 1 ms of running ends: the confirmation passes, or for OPEN and SENSE_FULL goes on with its count from zero (R349). -/
def execBridgeConfirmEnd (bridge : Fin 24) (s : State) : Host.Outcome State Fault Refusal :=
  let q := s.br bridge
  .next (match q.confirm with
    | some c =>
      if q.st ≠ .run ∨ q.confirmed1ms then s
      else if c ≤ 7 then s.bridgePass bridge
      else s.onBr bridge fun q => { q with confirmed1ms := true, nOpen := 0, nSense := 0 }
    | none => s)

/-! ### Regulation periods (R341, R351, R352) -/

/-- A period of bridge `b` is judged by R351: current mode with |DAC| of 64 or more, or a DC bridge above half duty. -/
def State.judged (s : State) (b : Nat) : Bool :=
  let q := s.br b
  if s.cfg (.ax (b / 2)) F.ax_KIND = 2 then q.drives && decide (1023 < 2 * q.duty) else s.inCurrent b && decide (64 ≤ (s.dac b).natAbs)

/-- The FETs that a switch state turns on (R331): H1, L1, H2, L2; `minus` is the sign of the drive state before FAST. -/
def Switch.fets (w : Switch) (minus : Bool) : Bool × Bool × Bool × Bool :=
  match w with
  | .off => (false, false, false, false)
  | .drivePlus => (true, false, false, true)
  | .driveMinus => (false, true, true, false)
  | .fast => if minus then (true, false, false, true) else (false, true, true, false)
  | .slow => (false, true, false, true)

/-- The switch state of bridge `b` in current mode `t` PWM cycles after the trip: FAST for its sixteenths of TOFF, then SLOW
(R341). The state's `fast` stands for this off-time as a whole. -/
def State.offSwitchAt (s : State) (b t : Nat) : Switch :=
  if 16 * t < s.drv b F.dr_FAST * s.drv b F.dr_TOFF * 50 then .fast else .slow

/-- TON_MAX in PWM cycles (R341). -/
def State.tonMax (s : State) (b : Nat) : Nat := min (8 * s.drv b F.dr_TOFF * 50) 40000

/-- Blanking in PWM cycles, by the die's band where BLK_BAND is set; BLK0 in voltage and DC modes (R341, R344, R345). -/
def State.blanking (s : State) (b band : Nat) : Nat :=
  let k := if !s.inCurrent b ∨ s.drv b F.dr_BLK_BAND = 0 then 0 else band
  ((if k = 0 then s.drv b F.dr_BLK0 else if k = 1 then s.drv b F.dr_BLK1 else s.drv b F.dr_BLK2) + 1) * 50

/-- Dead-time of a leg whose one FET turns off while the other turns on, in PWM cycles; none for a change of one FET (R332). -/
def State.deadTime (s : State) (b : Nat) (h l h' l' : Bool) : Nat :=
  if (h && !h' && l' && !l) || (l && !l' && h' && !h) then s.drv b F.dr_DT * 5 else 0

/-- The off-time begins: FAST, then SLOW; the OFF state of a DC bridge with fast decay. -/
def State.offPart (s : State) (b : Nat) : Switch :=
  if s.cfg (.ax (b / 2)) F.ax_KIND = 2 then s.dcOff b
  else if s.inCurrent b then (if s.drv b F.dr_FAST = 0 then .slow else .fast) else .slow

/-- The on-phase ends by a trip with shunt reading `code` (R341); for a DC bridge by ILIM_DC (R345). -/
def execChopperTrip (bridge : Fin 24) (code : BitVec 12) (s : State) : Host.Outcome State Fault Refusal :=
  let b := bridge.val
  let q := s.br b
  if q.st ≠ .run ∨ (q.sw ≠ .drivePlus ∧ q.sw ≠ .driveMinus) then .next s
  else
    let judged := s.judged b
    let s := s.onBr b fun q =>
      let n := satInc 64 q.nTrip
      { q with imeas := signed 12 code.toNat, sw := s.offPart b, nTrip := n, headroom := q.headroom && n < 64,
               nOpen := if judged then 0 else q.nOpen, nSense := if judged then 0 else q.nSense,
               nHead := if judged then 0 else q.nHead }
    .next (if judged ∧ q.confirmed1ms ∧ 8 ≤ q.confirm.getD 0 then s.bridgePass b else s)

/-- TOFF ends: the next chopper period begins (R341). -/
def execChopperOffEnd (bridge : Fin 24) (s : State) : Host.Outcome State Fault Refusal :=
  .next (if (s.br bridge).st = .run ∧ s.inCurrent bridge then s.newPeriod bridge else s)

/-- HEADROOM: its bit and, while the bit was clear, its event (R352). -/
def State.headroomAt (s : State) (b : Nat) : State :=
  let q := s.br b
  if q.headroom then s
  else
    ((s.onBr b fun q => { q with headroom := true }).onAx (b / 2) fun a => { a with headCnt := satInc 4095 a.headCnt }).raise 8 2
      (b / 2 + 2) [flag 35 (b % 2 == 1) ||| field 21 12 (s.dac b).natAbs ||| field 10 0 q.imeas.natAbs]

/-- TON_MAX ends without a trip: shunt reading `code`, node commutated or not (R351). -/
def execFullDutyEnd (bridge : Fin 24) (code : BitVec 12) (comm : Bool) (s : State) : Host.Outcome State Fault Refusal :=
  let b := bridge.val
  let q := s.br b
  if q.st ≠ .run ∨ (q.sw ≠ .drivePlus ∧ q.sw ≠ .driveMinus) then .next s
  else
    let i := signed 12 code.toNat
    let s' := s.onBr b fun q => { q with imeas := i, sw := s.offPart b, nTrip := 0 }
    if !s.judged b then .next s'
    else
      let dc := s.cfg (.ax (b / 2)) F.ax_KIND == 2
      let low := decide (64 * i < 1023)
      let absent := if dc then low else decide (16 * i < (s.drv b F.dr_OPEN_FR * (s.dac b).natAbs : Nat))
      let no := if absent && !comm then q.nOpen + 1 else 0
      let ns := if low && comm then q.nSense + 1 else 0
      let nh := if !absent && !dc then q.nHead + 1 else 0
      let s' := s'.onBr b fun q => { q with nOpen := no, nSense := ns, nHead := nh }
      .next (if s.drv b F.dr_OPEN_N ≤ no then s'.bridgeDetect b 8 0
        else if s.drv b F.dr_SENSE_N ≤ ns then s'.bridgeDetect b 9 0
        else if s.drv b F.dr_HEAD_N ≤ nh then s'.headroomAt b
        else s')

/-- A PWM period of voltage or DC mode begins; `code` is the shunt reading at the end of the on-part before it. -/
def execPwmPeriod (bridge : Fin 24) (code : BitVec 12) (s : State) : Host.Outcome State Fault Refusal :=
  let b := bridge.val
  if (s.br b).st ≠ .run ∨ s.inCurrent b then .next s
  else
    let s := s.onBr b fun q => { q with imeas := signed 12 code.toNat }
    let s := if b % 2 = 0 ∧ s.cfg (.ax (b / 2)) F.ax_KIND = 1 then s.slewV (b / 2) else s
    .next (s.newPeriod b)

/-! ### Brushed DC (R345, R346) -/

/-- A DC_RUN is released with duration `left` in phase units: its bridge drives from the next stitch. -/
def State.startDc (s : State) (n : Nat) (q : QItem) (left : Nat) : State :=
  if s.cfg (.ax n) F.ax_KIND ≠ 2 then s.heldFault (n + 2) q
  else s.onAx n fun a =>
    { a with dcBridge := bit (q.r.w 1) 35, dcEnd := some (s.nowPh + 4096 + left), dcLeft := left, took := true,
             startN := s.stitch.n, sstate := 0, restN := 0 }

/-- Put every driving bridge of a DC axis in SLOW (R346). -/
def State.brakeDc (s : State) (n : Nat) : State :=
  let f (b : Nat) (q : Bridge) : Bridge :=
    if q.drives then { q with drives := false, keeps := false, brakes := true, sw := s.heldSwitch b .slow } else q
  s.onAx n fun a => { a with a1 := f (2 * n) a.a1, b1 := f (2 * n + 1) a.b1 }

/-- The slot of a DC axis at phase 0: a stop that takes effect, and the start of a DC_RUN released in the stitch before. -/
def State.dcSlot (s : State) (n : Nat) : State :=
  let a := s.ax n
  let l := s.lane (n + 2)
  if s.cfg (.ax n) F.ax_KIND ≠ 2 then s
  else if l.stopping then ((s.brakeDc n).dropDc n).cameToRest (n + 2)
  else if a.took ∧ a.startN < s.stitch.n then
    match l.running with
    | some q =>
      let b := 2 * n + (if a.dcBridge then 1 else 0)
      ((s.onAx n fun a => { a with took := false }).onBr b fun r =>
        { r with drives := true, keeps := false, brakes := false, duty := bits (q.r.w 1) 9 0, dirDc := bit (q.r.w 1) 34 }).newPeriod b
    | none => s
  else s

/-- The duration of the DC_RUN on this bridge elapses in the current stitch: it ENDS and the bridge takes its AFT state. -/
def execDcRunEnd (bridge : Fin 24) (s : State) : Host.Outcome State Fault Refusal :=
  let b := bridge.val
  let n := b / 2
  let a := s.ax n
  match a.dcEnd with
  | none => .next s
  | some e =>
    if a.dcBridge ≠ (b % 2 == 1) ∨ a.took ∨ s.nowPh + 4096 < e then .next s
    else
      let aft := s.drv b (if b % 2 = 0 then F.dr_AFT_A else F.dr_AFT_B)
      let s := s.onAx n fun a => { a with dcEnd := none, dcLeft := 0 }
      let s := s.onBr b fun q =>
        if aft = 2 then { q with keeps := true }
        else { q with drives := false, keeps := false, brakes := aft == 0, sw := s.heldSwitch b (if aft = 0 then .slow else .off) }
      .next (s.endRunning (n + 2))

/-! ### VGD (R353) -/

/-- VGD falls low: moving axes and driving DC bridges fault lastingly; every bridge goes OFF. -/
def State.vgdFaults (s : State) : State :=
  let s := (List.range 12).foldl (fun s n =>
    let a := s.ax n
    let fs : List Lasting :=
      if s.cfg (.ax n) F.ax_KIND = 2 then
        (if a.a1.drives then [⟨2 * n, 11, 4, 0⟩] else []) ++ (if a.b1.drives then [⟨2 * n + 1, 11, 4, 0⟩] else [])
      else if a.vel ≠ 0 then [⟨2 * n, 11, 4, 0⟩, ⟨2 * n + 1, 11, 4, 0⟩] else []
    if fs.isEmpty then s else s.bridgesLasting n fs) s
  (List.range 24).foldl (fun s b => s.onBr b fun q => { q with sw := .off }) s

end Sys2Proof.Machine
end

