-- ==== Sys2Proof/Machine/Solenoids.lean ====
section
/-!
DEFINITION. The solenoid channels (R360..R390): profiles and their segments, closing detection, the coil's thermal model,
faults with their second attempt, off-state and on-state checks.
-/

namespace Sys2Proof.Machine

def State.chan (s : State) (c : Nat) : Chan := at' s.chans c
def State.onChan (s : State) (c : Nat) (f : Chan → Chan) : State := { s with chans := upd s.chans c f }

/-- The lane of a channel's bank, and the channels of bank `b`. -/
def bankLane (c : Nat) : Nat := 14 + c / 8
def bankChans (b : Nat) : List Nat := (List.range 8).map (8 * b + ·)

/-- A configuration field as channel `c` has adopted it (R365). -/
def State.sc (s : State) (c : Nat) (f : Field) : Nat :=
  match (s.chan c).hold.find? fun h => h.1 == f.off with
  | some h => f.get h.2
  | none => s.cfg (.sol c) f

/-- A field of segment `k` of the copied profile (R366). -/
def Chan.segField (c : Chan) (f : Field) (k : Nat) : Nat := f.get (c.words.getD (f.off + 2 * k) 0)

def Chan.nseg (c : Chan) : Nat := F.sp_NSEG.get (c.words.getD 0 0)
def Chan.cur (c : Chan) (f : Field) : Nat := c.segField f c.seg

/-- A channel at work: not IDLE or FAULT, or with a start pending (R386). -/
def Chan.busy (c : Chan) : Bool := (c.st != .idle && c.st != .fault) || c.start.isSome

/-- The channel's gates are held off: by the shank or by VGD_LOW (R380, R386). -/
def State.solDead (s : State) (c : Nat) : Bool := s.forced (24 + c) || s.sup.vgdLow

/-! ### The end of a profile -/

/-- A record stopped by its bank counts as ENDED; its gate stays ARMED with its window running (R368, R174). -/
def State.endStopped (s : State) (i : Nat) (q : QItem) : State :=
  let s := s.dropItem i q
  let s := s.onRec q.job q.idx fun r => { r with outcome := .ended }
  let s := s.queueMark 2 q.idx 0 q.job
  let s := if q.r.ckpt then (s.flushMarks).onLane i fun l => { l with ckptWait := some (q.job, q.idx) } else s
  (s.gateStopped q).checkDone q.job

/-- A stopping bank is at rest when no channel of it is at work. -/
def State.solRest (s : State) (b : Nat) : State :=
  if (s.lane (14 + b)).stopping && (bankChans b).all (fun c => !(s.chan c).busy) then s.cameToRest (14 + b) else s

/-- The lane's record of the channel's profile. -/
def State.solItem (s : State) (c : Nat) : Option QItem :=
  (s.lane (bankLane c)).items.find? fun q => q.r.typ == tSolRun && q.job == (s.chan c).job && q.idx == (s.chan c).idx

/-- The profile of the channel has ENDED (R371); the channel rests in state `st`. -/
def State.endSol (s : State) (c : Nat) (st : ChanState) : State :=
  let stopped := (s.chan c).stopped
  let item := s.solItem c
  let s := s.onChan c fun q => { q with st := st, sw := .off, start := none, stopped := false, confirm := none, recRelease := false,
                                        recWaits := false, checking := 0, again := false }
  let s := match item with
    | some q => if stopped then s.endStopped (bankLane c) q else s.endRecord (bankLane c) q
    | none => s
  s.solRest (c / 8)

/-! ### Segments (R366..R370) -/

/-- The confirmation passes: the transient counter increments (R380). -/
def Chan.pass (q : Chan) : Chan :=
  match q.confirm with
  | none => q
  | some 6 => { q with confirm := none, diagTr := satInc 4095 q.diagTr }
  | some _ => { q with confirm := none, ocTr := satInc 4095 q.ocTr }

/-- Switch state at the start of a segment or period. -/
def State.segSwitch (s : State) (c : Nat) (q : Chan) : SolSwitch :=
  if s.solDead c then .off
  else if q.cur F.sp_ITGT ≠ 0 then .drive
  else if q.cur F.sp_DECAY = 1 then .fast else .slow

/-- Segment `k` begins; the last one releases the coil. A channel in RECOVER stays off. -/
def State.beginSeg (s : State) (c k : Nat) : State :=
  s.onChan c fun q =>
    let last := decide (q.nseg ≤ k)
    let q := { q with seg := min k q.nseg, segBegan := s.stitch.n, firstTrip := none, tripNow := false, peak := 0, iMax := 0,
                      iMaxAt := 0, duties := [], dMax := 0, dMaxAt := 0, tripUs := 0 }
    if q.st = .recover then { q with recRelease := q.recRelease || last }
    else
      let q := if last then q.pass else q
      { q with st := if last then .release else .run, sw := s.segSwitch c q,
               hold := if q.cur F.sp_ITGT = 0 then q.hold else q.hold.filter fun h => 4 ≤ h.1 }

/-- The profile goes on with the next segment. -/
def State.nextSeg (s : State) (c : Nat) : State := s.beginSeg c ((s.chan c).seg + 1)

/-- A running profile that is not in its last segment jumps to it. -/
def State.jumpLast (s : State) (c : Nat) : State :=
  if (s.chan c).seg < (s.chan c).nseg then s.beginSeg c (s.chan c).nseg else s

/-- A profile starts (R367). -/
def State.beginProfile (s : State) (c : Nat) : State :=
  (s.onChan c fun q => { q with st := .run, start := none, seg := 0, closedRun := false, stopped := false, confirm := none,
                                recRelease := false, recWaits := false, lastUs := 0,
                                runs := (q.runs + 1) % 2 ^ 24 }).beginSeg c 0

/-- The words of profile slot `p` as in force. -/
def State.profileWords (s : State) (c p : Nat) : List Word :=
  (List.range 17).map fun k => s.tbl.force.get ((Obj.sp c p).base + k)

/-- THERM_EN and HOT: the channel may not start (R378). -/
def State.solHot (s : State) (c : Nat) : Bool := (s.chan c).hot && s.sc c F.sc_THERM_EN == 1

/-- Argument of COIL_HOT (R390). -/
def Chan.hotArg (q : Chan) (c : Nat) (cut : Bool) : Word :=
  field 35 24 (unsigned 12 q.tcoil) ||| flag 23 cut ||| field 4 0 c

/-- A start is deferred (R378). -/
def State.deferStart (s : State) (c : Nat) : State :=
  (s.onChan c fun q => { q with st := .hotWait, start := none }).raise 9 4 (bankLane c) [(s.chan c).hotArg c false]

/-- A SOL_RUN is released (R367, R365, R378). -/
def State.startSol (s : State) (b : Nat) (q : QItem) : State :=
  let c := 8 * b + bits (q.r.w 1) 2 0
  let p := bits (q.r.w 1) 6 4
  let ph := phOf (q.r.w 2)
  if s.cfg (.sol c) F.sc_EN = 0 then s.heldFault (14 + b) q
  else
    let s := s.onChan c fun r => { r with slot := p, job := q.job, idx := q.idx, stopped := false }
    if s.solHot c then s.deferStart c
    else
      let ws := s.profileWords c p
      (s.onChan c fun r => { r with words := ws, start := some (s.stitch.n + 1 + ph / 4096, ph % 4096) }).stepAside (14 + b)

/-- Phase 0 of a stitch: deferred starts whose channel is no longer HOT begin, their release point reached (R378). -/
def State.hotStarts (s : State) : State :=
  (List.range 32).foldl (fun s c =>
    if (s.chan c).st = .hotWait ∧ !s.solHot c then
      let ws := s.profileWords c (s.chan c).slot
      let s := s.onChan c fun r => { r with words := ws }
      let s := match (s.lane (bankLane c)).running, s.solItem c with
        | some r, some q => if r = q then s.stepAside (bankLane c) else s
        | _, _ => s
      s.beginProfile c
    else s) s

/-- SOL_PROFILE_START (R367, R368, R378). -/
def execSolProfileStart (chan : Fin 32) (s : State) : Host.Outcome State Fault Refusal :=
  match (s.chan chan).start with
  | none => .next s
  | some (n, _) =>
    .next (if s.stitch.n < n then s else if s.solHot chan then s.deferStart chan else s.beginProfile chan)

/-! ### Closing detection (R372, R373, R388) -/

/-- Evidence for the gate of the channel's own SOL_RUN. -/
def State.closureEvidence (s : State) (c : Nat) (arg : Word) : State :=
  match s.gate? (s.chan c).job (s.chan c).idx with
  | some g =>
    if g.source = 3 ∧ g.live ∧ s.stitch.n ≤ g.windowEnd.getD s.stitch.n then s.gateEvidence g arg else s
  | none => s

/-- A closing at `us` is detected in phase `ph` of the present stitch. -/
def State.closed (s : State) (c us ph : Nat) (method : Bool) : State :=
  let q := s.chan c
  let arg := field 35 33 q.seg ||| flag 32 method ||| field 31 8 us ||| field 4 0 c
  let s := s.onChan c fun q => { q with cseg := q.seg, method := method, ctime := us, cstamp := s.count, cphase := ph, closedRun := true }
  ((s.raise 9 1 (bankLane c) [arg]).closureEvidence c arg).nextSeg c

/-- SOL_TRIP: the on-phase ends (R369), and with it a PEAK segment (R370). -/
def execSolTrip (chan : Fin 32) (code : BitVec 10) (us : BitVec 24) (s : State) : Host.Outcome State Fault Refusal :=
  let q := s.chan chan
  if q.st ≠ .run ∨ q.sw ≠ .drive ∨ q.cur F.sp_ITGT = 0 then .next s
  else
    let s := s.onChan chan fun q =>
      { q with imeas := code.toNat, peak := max q.peak code.toNat, firstTrip := some (q.firstTrip.getD us.toNat), tripNow := true,
               sw := if q.cur F.sp_DECAY = 1 then .fast else .slow }
    .next (if q.cur F.sp_END = 1 then s.nextSeg chan else s)

/-- The kink detector at the end of a period. -/
def State.kink (s : State) (c us ph : Nat) : State :=
  let q := s.chan c
  let k := 2 ^ s.sc c F.sc_KAVG
  match q.firstTrip with
  | none => s
  | some t =>
    if q.cur F.sp_END ≠ 2 ∨ q.closedRun ∨ us < t + 10 * s.sc c F.sc_CBLANK ∨ q.duties.length < k then s
    else
      let d := (q.duties.take k).foldl (· + ·) 0
      if 0 < q.dMax ∧ d + k * s.sc c F.sc_KINK_D ≤ q.dMax then s.closed c q.dMaxAt ph false
      else if q.dMax ≤ d then s.onChan c fun q => { q with dMax := d, dMaxAt := us }
      else s

/-- SOL_PWM_PERIOD: a period ends with `duty`, and the next one begins (R369). -/
def execSolPwmPeriod (chan : Fin 32) (duty : BitVec 10) (us : BitVec 24) (ph : BitVec 12) (s : State) :
    Host.Outcome State Fault Refusal :=
  let q := s.chan chan
  if q.st ≠ .run ∨ q.cur F.sp_ITGT = 0 then .next s
  else
    let s := s.onChan chan fun q =>
      { q with duty := duty.toNat, duties := (duty.toNat :: q.duties).take 16, lastUs := us.toNat, tripNow := false,
               tripUs := if q.tripNow then q.tripUs + (us.toNat - q.lastUs) else 0 }
    let s := s.kink chan us.toNat ph.toNat
    .next (if (s.chan chan).st ≠ .run ∨ (s.chan chan).seg ≠ q.seg then s
      else s.onChan chan fun q => { q with sw := s.segSwitch chan q, hold := q.hold.filter fun h => 4 ≤ h.1 })

/-- DIP_SAMPLE (R372). -/
def execDipSample (chan : Fin 32) (code : BitVec 10) (us : BitVec 24) (ph : BitVec 12) (s : State) :
    Host.Outcome State Fault Refusal :=
  let q := s.chan chan
  let d := s.sc chan F.sc_DIP_I
  if q.st ≠ .run ∨ q.sw ≠ .drive ∨ q.cur F.sp_END ≠ 2 ∨ d = 0 ∨ q.firstTrip.isSome ∨ q.closedRun then .next s
  else
    let s := s.onChan chan fun q => { q with imeas := code.toNat, peak := max q.peak code.toNat }
    .next (if code.toNat + d ≤ q.iMax then s.closed chan q.iMaxAt ph.toNat true
      else if q.iMax ≤ code.toNat then s.onChan chan fun q => { q with iMax := code.toNat, iMaxAt := us.toNat }
      else s)

/-! ### Ends of segments (R370, R371) -/

/-- NO_PEAK and NOT_CLOSED at TMAX (R370, R374, R390). -/
def State.noPeak (s : State) (c vs : Nat) : State :=
  s.raise 9 3 (bankLane c) [field 35 33 (s.chan c).seg ||| field 31 22 (s.chan c).peak ||| field 21 13 vs ||| field 4 0 c]

def State.notClosed (s : State) (c us : Nat) : State :=
  (s.onChan c fun q => { q with noclose := satInc 4095 q.noclose }).raise 9 2 (bankLane c)
    [field 35 33 (s.chan c).seg ||| field 31 8 us ||| field 4 0 c]

/-- MISS (R366). -/
def State.miss (s : State) (c : Nat) : State :=
  if F.sp_MISS.get ((s.chan c).words.getD 0 0) = 1 then s.jumpLast c else s.nextSeg c

/-- The off-state check of a release that TMAX has cut (R371). -/
def State.releaseCheck (s : State) (c : Nat) : State :=
  s.onChan c fun q => { q with st := .diag, sw := .off, checking := 4, onState := false, again := false }

/-- SEGMENT_TMAX: `us` since the profile's start, VS at the segment's end. -/
def execSegmentTmax (chan : Fin 32) (us : BitVec 24) (vs : BitVec 9) (s : State) : Host.Outcome State Fault Refusal :=
  let q := s.chan chan
  let c := chan.val
  if q.st = .release then .next (s.releaseCheck c)
  else if (q.st ≠ .run ∧ q.st ≠ .recover) ∨ q.seg = q.nseg then .next s
  else
    let e := q.cur F.sp_END
    .next (if e = 0 then s.nextSeg c
      else if e = 1 then (s.noPeak c vs.toNat).miss c
      else if e = 2 then
        let s := if q.firstTrip.isSome then s else s.noPeak c vs.toNat
        (s.notClosed c us.toNat).miss c
      else (s.onChan c fun q => { q with tcut := satInc 4095 q.tcut }).nextSeg c)

/-- SEGMENT_STITCH_END (R370): DUR_ST stitches after the segment began. -/
def execSegmentStitchEnd (chan : Fin 32) (s : State) : Host.Outcome State Fault Refusal :=
  let q := s.chan chan
  .next (if (q.st = .run ∨ q.st = .recover) ∧ q.seg < q.nseg ∧ q.cur F.sp_END = 3 ∧ q.segBegan + q.cur F.sp_DUR_ST ≤ s.stitch.n
    then s.nextSeg chan else s)

/-- The releasing channel's coil is in FAST: by its last segment, or after a test pulse (R371, R384). -/
def Chan.releasesFast (q : Chan) : Bool := q.words.isEmpty || q.cur F.sp_DECAY == 1

/-- SOL_RELEASE_DETECT (R371): the shunt below REL_I, or NL below VS − 2 V; the profile ENDS. -/
def execSolReleaseDetect (chan : Fin 32 × BitVec 10 × BitVec 9 × BitVec 9) (s : State) : Host.Outcome State Fault Refusal :=
  let (chan, code, nl, vs) := chan
  let q := s.chan chan
  let gone := if q.releasesFast then decide (nl.toNat + 16 < vs.toNat) else decide (code.toNat < s.sc chan F.sc_REL_I)
  .next (if q.st = .release ∧ gone then (s.onChan chan fun q => if q.releasesFast then q else { q with imeas := code.toNat }).endSol chan .idle
    else s)

/-! ### Stops (R150, R368, R384) -/

/-- A SOL_DIAG of the channel is abandoned: its check is not judged (R384). -/
def Chan.abandon (q : Chan) : Chan :=
  if q.checking = 3 then
    { q with dresult := 0, checking := 0, again := false, pulseCause := 0, st := if q.onState then .release else .idle,
             sw := if q.onState then .fast else .off, words := [], seg := 0 }
  else q

/-- A check of a RE_ADMIT is broken off: a channel that was in FAULT is so again. -/
def Chan.dropCheck (q : Chan) : Chan :=
  if q.checking = 2 then { q with checking := 0, again := false, stopped := false, st := if q.stopped then .fault else .idle } else q

/-- What a stop or a lasting fault of the bank does to one channel's profile. -/
def State.solStopChan (s : State) (c : Nat) : State :=
  let q := s.chan c
  if q.st = .run then
    if q.seg < q.nseg then (s.onChan c fun q => { q with stopped := true }).jumpLast c else s
  else if q.st = .recover then
    (s.onChan c fun q => { q with stopped := q.stopped || decide (q.seg < q.nseg), seg := q.nseg, recRelease := true })
  else if q.st = .hotWait ∨ (q.st = .idle ∧ q.start.isSome) then
    (s.onChan c fun q => { q with stopped := true }).endSol c .idle
  else s

/-- Profiles of bank `b` jump to their last segments; pending and deferred starts are withdrawn. -/
def State.solStopProfiles (s : State) (b : Nat) : State := (bankChans b).foldl State.solStopChan s

/-! ### Lasting faults (R381) -/

/-- Event code of R381 for a FCAUSE of R379. -/
def solEvent (cause : Nat) : Nat :=
  if cause = 3 then 6 else if cause = 4 then 7 else if cause = 6 then 5 else 8

/-- DRESULT of a FCAUSE detected during a test pulse. -/
def solResult (cause : Nat) : Nat :=
  if cause = 3 then 3 else if cause = 4 then 4 else if cause = 6 then 2 else 5

/-- Event code of a DRESULT. -/
def resultEvent (r : Nat) : Nat := if r = 2 then 5 else if r = 3 then 6 else if r = 4 then 7 else 8

/-- A lasting fault of the channel: FAULT, the event, the bank's profiles released, the lane faulted. -/
def State.solLasting (s : State) (c cause code : Nat) (driving : Bool) (nh nl : Nat) : State :=
  let b := c / 8
  let q := s.chan c
  let ran := q.st = .run ∨ q.st = .release ∨ q.st = .recover ∨ q.checking = 4
  let s := s.onChan c fun q => { q with st := .fault, sw := .off, fcause := cause, stopped := true, confirm := none,
                                        recRelease := false, recWaits := false }
  let s := s.raise 9 code (bankLane c) [flag 35 driving ||| field 34 31 cause ||| field 30 22 nh ||| field 21 13 nl ||| field 4 0 c]
  let s := (s.solStopProfiles b).laneFault (bankLane c)
  let s := if ran then s.endSol c .fault else s.onChan c fun q => { q with stopped := false }
  s.solRest b

/-- Lasting results of a SOL_DIAG that is over: the channels' faults, in their order. -/
def State.diagFaults (s : State) (b : Nat) : State :=
  (bankChans b).foldl (fun (s : State) c =>
    let q := s.chan c
    if q.st = .diag ∧ q.checking = 0 then s.solLasting c q.fcause (resultEvent q.dresult) q.dstate q.dnh q.dnl else s) s

/-- The slot of a bank: a stop that takes effect. A SOL_DIAG in progress is abandoned and counts as ENDED. -/
def State.solSlot (s : State) (b : Nat) : State :=
  let l := s.lane (14 + b)
  if !l.stopping then s
  else
    let s := s.solStopProfiles b
    let s := match l.running with
      | some q =>
        if q.r.typ = tSolDiag ∧ l.inService then
          (((bankChans b).foldl (fun (s : State) c => s.onChan c Chan.abandon) s).endStopped (14 + b) q).diagFaults b
        else s
      | none => s
    s.solRest b

/-- The nodes of a driving channel stand near VS and ground: nothing but an open coil holds a small current (R379, R383). -/
def drivenNodes (nh nl vs : Nat) : Bool := decide (vs ≤ nh + 8) && decide (nl < 8)

/-- FCAUSE 1..6 that a reading gives on channel `c` (R379); OPEN is read at the end of its judgement time. -/
def State.solCause (s : State) (c : Nat) (p : Probe) (nh nl : Nat) : Option Nat :=
  if probeGateBad p then some 5
  else if p.place = .coil then
    (if p.value.toNat < s.sc c F.sc_OPEN_I ∧ drivenNodes nh nl (p.sup.toNat / 125) then some 6 else none)
  else probeOverload p (s.sc c F.sc_OC_TH) (s.sc c F.sc_HS_TH) (s.sc c F.sc_VDS_TH) (s.sc c F.sc_VDS_HS)

/-- SOL_FAULT: a cause 1..6 is detected while the channel drives (R379, R380, R383). -/
def execSolFault (chan : Fin 32) (probe : Probe) (nh nl : BitVec 9) (s : State) : Host.Outcome State Fault Refusal :=
  let q := s.chan chan
  let k := (s.solCause chan probe nh.toNat nl.toNat).getD 0
  if k = 0 ∨ s.solDead chan then .next s
  else if q.st = .diag ∧ q.checking = 3 ∧ q.onState then
    .next (if k ≤ 5 ∧ q.pulseCause = 0 then
        s.onChan chan fun q => { q with pulseCause := k, fcause := k, sw := .off, dnh := nh.toNat, dnl := nl.toNat }
      else s)
  else if q.st ≠ .run ∧ q.st ≠ .release then .next s
  else if q.confirm.isSome then .next (s.solLasting chan k (solEvent k) true nh.toNat nl.toNat)
  else .next (s.onChan chan fun q => { q with st := .recover, fcause := k, sw := .off, recRelease := false, recWaits := false })

/-- The channel resumes its segment at a new period, or passes to its release (R380, R386). -/
def State.solResume (s : State) (c : Nat) : State :=
  let q := s.chan c
  if q.st ≠ .recover then s
  else if s.solDead c then s.onChan c fun q => { q with recWaits := true }
  else if q.recRelease then
    (s.onChan c fun q => { q with st := .run, recRelease := false, recWaits := false }).beginSeg c q.nseg
  else s.onChan c fun q => { q with st := if q.seg = q.nseg then .release else .run, confirm := some q.fcause, recWaits := false,
                                    sw := s.segSwitch c q, tripNow := false }

/-- SOL_RECOVER: REC_DLY ends. -/
def execSolRecover (chan : Fin 32) (s : State) : Host.Outcome State Fault Refusal := .next (s.solResume chan)

/-- The shank has released the outputs, or VGD is back: channels whose re-enable waits for it. -/
def State.solReleased (s : State) (c : Nat) : State :=
  if (s.chan c).st = .recover ∧ (s.chan c).recWaits then s.solResume c else s

/-- SOL_CONFIRM_END (R380). -/
def execSolConfirmEnd (chan : Fin 32) (s : State) : Host.Outcome State Fault Refusal :=
  .next (if (s.chan chan).st = .run ∨ (s.chan chan).st = .release then s.onChan chan Chan.pass else s)

/-- VGD_LOW: channels that drive have a lasting fault (R379, R380). -/
def State.vgdSols (s : State) : State :=
  (List.range 32).foldl (fun s c =>
    let q := s.chan c
    if q.st = .run ∨ (q.st = .diag ∧ q.onState ∧ q.checking = 3) then s.solLasting c 9 8 true 0 0
    else s.onChan c fun q => { q with sw := .off }) s

/-! ### Checks (R382..R385) -/

/-- Result of the off-state check from the node samples in 1/8 V (R382). -/
def offResult (nh1 nh2 nl2 vs : Nat) : Nat :=
  let sup (v : Nat) : Bool := max 52 (vs - 12) ≤ v
  let low (v : Nat) : Bool := v < 8
  let high (v : Nat) : Bool := 20 ≤ v && v ≤ 48
  if sup nh2 || sup nl2 then 4
  else if low nh1 then 3
  else if !low nh2 && low nl2 then 2
  else if high nh1 && low nh2 then 1
  else 2

/-- The re-admission of bank `b` has all its results (R381). -/
def State.solReadmit (s : State) (b : Nat) : State :=
  let cs := (bankChans b).filter fun c => s.cfg (.sol c) F.sc_EN == 1
  if (s.lane (14 + b)).state ≠ .readmit ∨ cs.any (fun c => (s.chan c).checking == 2) then s
  else if cs.all (fun c => (s.chan c).st == .idle) then s.readmitPass (14 + b)
  else s.readmitFail (14 + b)

/-- The SOL_DIAG of bank `b` has all its results (R384): it ENDS, and the lasting ones act. -/
def State.solDiagEnd (s : State) (b : Nat) : State :=
  if (bankChans b).any fun c => (s.chan c).checking == 3 then s
  else
    let s := match (s.lane (14 + b)).running with
      | some q => if q.r.typ = tSolDiag then s.endRecord (14 + b) q else s
      | none => s
    (s.diagFaults b).solRest b

/-- A check has its final result `r`; `cause` and `driving` are for a lasting one. -/
def State.solFinal (s : State) (c r cause : Nat) (driving : Bool) (nh nl : Nat) : State :=
  let k := (s.chan c).checking
  let b := c / 8
  let s := s.onChan c fun q =>
    { q with dresult := r, dstate := driving, dnh := nh, dnl := nl, checking := 0, again := false, pulseCause := 0, sw := .off,
             diagTr := if r = 1 ∧ q.again then satInc 4095 q.diagTr else q.diagTr }
  if r = 1 then
    if k = 4 then s.endSol c .idle
    else
      let s := s.onChan c fun q => { q with st := .idle, stopped := false }
      if k = 2 then s.solReadmit b else if k = 3 then s.solDiagEnd b else s
  else
    let s := if k = 4 then s.onChan c fun q => { q with checking := 4 } else s
    if k = 2 then
      ((s.onChan c fun q => { q with st := .fault, fcause := cause, stopped := false }).raise 9 (resultEvent r) (bankLane c)
        [flag 35 driving ||| field 34 31 cause ||| field 30 22 nh ||| field 21 13 nl ||| field 4 0 c]).solReadmit b
    else if k = 3 then (s.onChan c fun q => { q with fcause := cause }).solDiagEnd b
    else s.solLasting c cause (resultEvent r) driving nh nl

/-- OFF_STATE_CHECK_DONE: node samples of both tests, VS, the shunt offset measured before it at start-up. -/
def execOffStateCheckDone (chan : Fin 32) (nh1 nl1 nh2 nl2 vs : BitVec 9) (ofs : BitVec 12) (s : State) :
    Host.Outcome State Fault Refusal :=
  let c := chan.val
  let q := s.chan c
  if q.checking = 0 ∨ (q.checking = 3 ∧ q.onState) then .next s
  else
    let o := signed 12 ofs.toNat
    let s := if q.checking = 1 ∧ !q.again then
        s.onChan c fun q => { q with ofs := max (-500) (min 500 o), ofsClamp := decide (500 < o.natAbs) }
      else s
    if q.checking = 1 ∧ s.cfg (.sol c) F.sc_EN = 0 then .next (s.onChan c fun q => { q with st := .idle, checking := 0 })
    else
      let r := offResult nh1.toNat nh2.toNat nl2.toNat vs.toNat
      if r ≠ 1 ∧ !q.again then .next (s.onChan c fun q => { q with again := true })
      else if r = 3 then .next (s.solFinal c r 7 false nh1.toNat nl1.toNat)
      else .next (s.solFinal c r 7 false nh2.toNat nl2.toNat)

/-- ON_STATE_CHECK_DONE: the current, the nodes and VS at the end of the pulse; the coil has released since (R383). -/
def execOnStateCheckDone (chan : Fin 32) (code : BitVec 10) (nh : BitVec 9) (low : BitVec 9 × BitVec 9) (s : State) :
    Host.Outcome State Fault Refusal :=
  let (nl, vs) := low
  let c := chan.val
  let q := s.chan c
  let low := decide (code.toNat < s.sc c F.sc_DIAG_IMIN) && drivenNodes nh.toNat nl.toNat vs.toNat
  if q.checking ≠ 3 ∨ !q.onState then .next s
  else
    let det := decide (q.pulseCause ≠ 0)
    let r := if det then solResult q.pulseCause else if low then 2 else 1
    if r ≠ 1 ∧ !q.again then
      .next (s.onChan c fun q => { q with again := true, pulseCause := 0, sw := if s.solDead c then .off else .drive })
    else .next (s.solFinal c r (if det then q.pulseCause else 8) true (if det then q.dnh else nh.toNat) (if det then q.dnl else nl.toNat))

/-- A SOL_DIAG is released (R384, R365). -/
def State.startSolDiag (s : State) (b : Nat) (q : QItem) : State :=
  let on := bit (q.r.w 1) 8
  let mask := bits (q.r.w 1) 7 0
  let s := (bankChans b).foldl (fun s c =>
    if !mask.testBit (c % 8) then s
    else if s.cfg (.sol c) F.sc_EN = 0 then s.onChan c fun r => { r with dresult := 0 }
    else s.onChan c fun r => { r with st := .diag, checking := 3, onState := on, again := false, pulseCause := 0,
                                      sw := if on && !s.solDead c then .drive else .off }) s
  if (bankChans b).any fun c => (s.chan c).checking == 3 then s else s.endRecord (14 + b) q

/-- RE_ADMIT of a bank: the off-state check on its channels with EN = 1 (R154). -/
def State.solReadmitCheck (s : State) (b : Nat) : State :=
  let s := (bankChans b).foldl (fun s c =>
    if s.cfg (.sol c) F.sc_EN = 0 then s
    else s.onChan c fun r => { r with st := .diag, stopped := r.st == .fault, checking := 2, onState := false, again := false, sw := .off }) s
  s.solReadmit b

/-! ### The thermal model (R375..R378) -/

/-- One kelvin in the model's unit. -/
def kelvin : Nat := 2 ^ 32

/-- Reading of a temperature input in 1/8 °C: 200 °C where it is broken (R434). -/
def TempIn.shown (t : TempIn) : Int := if t.brk then 1600 else t.val

/-- T_amb of channel `c`, and whether its NTC is broken. -/
def State.ambient (s : State) (c : Nat) : Int × Bool :=
  if s.sc c F.sc_AMB_EXT = 1 then
    let t := at' s.sup.ins (10 + s.sc c F.sc_AMB_IDX)
    (t.shown, t.brk)
  else (s.sup.dieT, false)

/-- 2^32 × e^-f for f in 2^-32 below 1, by its series. -/
def expFrac (f : Nat) : Nat :=
  let term (k : Nat) : Nat := (List.range k).foldl (fun t j => t * f / (2 ^ 32 * (j + 1))) (2 ^ 32)
  let ev := (List.range 8).foldl (fun a k => a + term (2 * k)) 0
  let od := (List.range 8).foldl (fun a k => a + term (2 * k + 1)) 0
  ev - od

/-- `x` × e^−(num/den), rounded toward zero; 1580030168 is 2^32/e. -/
def decayBy (x num den : Nat) : Nat :=
  if den = 0 then x
  else
    let n := num / den
    let y := x * expFrac (num % den * 2 ^ 32 / den) / 2 ^ 32
    if 80 < n then 0 else (List.range n).foldl (fun y _ => y * 1580030168 / 2 ^ 32) y

/-- The poles decay over `dt` × 10 ms while the model does not run (R377). -/
def State.thetaDecay (s : State) (c dt : Nat) : State :=
  s.onChan c fun q => { q with theta1 := decayBy q.theta1 dt (s.cfg (.sol c) F.sc_TAU1),
                               theta2 := decayBy q.theta2 dt (10 * s.cfg (.sol c) F.sc_TAU2) }

/-- AON retention was lost: the coil counts as warm (R377). -/
def State.thetaLost (s : State) (c : Nat) : State :=
  let w := (s.cfg (.sol c) F.sc_COIL_WARN : Int) * 8 - (s.ambient c).1
  s.onChan c fun q => { q with theta1 := 0, theta2 := w.toNat * kelvin / 8 }

/-- P × RTH in the model's unit: `isq` the mean square of the shunt code. -/
def State.coilRise (s : State) (c isq rth : Nat) : Nat :=
  let fs := 500 * 2 ^ s.cfg (.sol c) F.sc_VFS
  let rs := 1023 * s.cfg (.sol c) F.sc_RSHUNT
  let hot := (800000 + 393 * ((s.chan c).tcoil - 200)).toNat
  isq * fs * fs * s.cfg (.sol c) F.sc_RCOLD * hot * rth * kelvin / (rs * rs * 80000000)

/-- One pole's update. -/
def poleStep (th goal tau : Nat) : Nat := if tau = 0 then th else (th * (tau - 1) + goal) / tau

/-- R_meas gives T_meas in 1/8 °C (R376). -/
def State.coilMeasured (s : State) (c mv ma : Nat) : Int :=
  let rc := s.cfg (.sol c) F.sc_RCOLD
  200 + Int.tdiv (800000 * ((10 * mv : Nat) - (ma * rc : Nat) : Int)) (393 * (ma * rc) : Nat)

/-- The condition of R376. -/
def State.coilMeasures (s : State) (c ma : Nat) : Bool :=
  let q := s.chan c
  q.st == .run && (q.cur F.sp_END == 0 || q.cur F.sp_END == 3) && decide (64 ≤ q.cur F.sp_ITGT) && decide (2000 ≤ q.tripUs) &&
    decide (0 < ma) && decide (0 < s.cfg (.sol c) F.sc_RCOLD)

/-- θ1 and θ2 after a measurement. -/
def Chan.corrected (q : Chan) (t amb : Int) : Chan :=
  let rise := (t - amb) * (kelvin / 8 : Nat)
  if 0 ≤ rise - q.theta2 then { q with tmeas := t, theta1 := (rise - q.theta2).toNat }
  else { q with tmeas := t, theta1 := 0, theta2 := rise.toNat }

/-- WARN and HOT (R378). -/
def State.coilFlags (s : State) (c : Nat) (broken : Bool) : State :=
  let w := (s.sc c F.sc_COIL_WARN : Int) * 8
  let m := (s.sc c F.sc_COIL_MAX : Int) * 8
  let h := (s.sc c F.sc_CHYST : Int) * 16
  s.onChan c fun q => { q with warn := decide (w ≤ q.tcoil) || (q.warn && decide (w - h < q.tcoil)),
                               hot := broken || decide (m ≤ q.tcoil) || (q.hot && decide (m - h < q.tcoil)) }

/-- HOT cuts a running profile (R378). -/
def State.hotCut (s : State) (c : Nat) : State :=
  let q := s.chan c
  if (q.st = .run ∨ q.st = .recover) ∧ q.seg < q.nseg then
    (s.raise 9 4 (bankLane c) [q.hotArg c true]).jumpLast c
  else s

/-- COIL_MODEL_UPDATE: mean square of the shunt code over 10 ms; mean node difference in mV and current in mA over 1 ms. -/
def execCoilModelUpdate (chan : Fin 32) (isq : BitVec 20) (mv ma : BitVec 16) (s : State) : Host.Outcome State Fault Refusal :=
  let c := chan.val
  if (at' s.power.doms (14 + c / 16)).st = .off then .next s
  else
    let s := s.onChan c fun q => { q with hold := q.hold.filter fun h => h.1 < 4 }
    let amb := s.ambient c
    let g1 := s.coilRise c isq.toNat (s.cfg (.sol c) F.sc_RTH1)
    let g2 := s.coilRise c isq.toNat (s.cfg (.sol c) F.sc_RTH2)
    let s := s.onChan c fun q => { q with theta1 := poleStep q.theta1 g1 (s.cfg (.sol c) F.sc_TAU1),
                                          theta2 := poleStep q.theta2 g2 (10 * s.cfg (.sol c) F.sc_TAU2) }
    let t := s.coilMeasured c mv.toNat ma.toNat
    let s := if s.coilMeasures c ma.toNat then s.onChan c fun q => q.corrected t amb.1 else s
    let s := s.onChan c fun q => { q with tcoil := amb.1 + ((q.theta1 + q.theta2) * 8 / kelvin : Nat) }
    let was := s.solHot c
    let s := s.coilFlags c amb.2
    .next (if !was ∧ s.solHot c then s.hotCut c else s)

/-! ### The domain (R385) -/

/-- SOLGg has reached RUN after `dt` × 10 ms: the poles decay and every channel begins its start-up check. -/
def State.solDomainUp (s : State) (g dt : Nat) : State :=
  ((List.range 16).map (16 * g + ·)).foldl (fun s c =>
    (s.thetaDecay c dt).onChan c fun q => { q with st := .calib, sw := .off, checking := 1, onState := false, again := false }) s

/-- A start-up check of the bank's domain runs (R23, R385). -/
def State.solChecking (s : State) (b : Nat) : Bool := (bankChans b).any fun c => (s.chan c).checking == 1

end Sys2Proof.Machine
end

