-- ==== Sys2Proof/Machine/HeadCore.lean ====
section
/-!
DEFINITION. The head's descriptor in force (R225..R229), the times of a line (R231..R234), and the dot-energy pipeline
(R257..R280).
-/

namespace Sys2Proof.Machine

/-! ### The descriptor in force (R225, R228, R229) -/

/-- A descriptor in version 2 terms; `bstart` holds BSTART(0)..BSTART(NBLOCK + 1). -/
structure Desc where
  ver : Nat
  dots : Nat
  pitch : Nat
  lanes : Nat
  map : Nat
  dir : Nat
  hsckN : Nat
  nblock : Nat
  slices : Nat
  latW : Nat
  stbPol : Nat
  latPol : Nat
  clkEdge : Nat
  bstart : List Nat
  mapLo : Nat
  mapHi : Nat
  rdot : Nat
  thFit : Nat
  thNom : Nat
  thBeta : Nat
  lineMax : Nat
  stbMax : Nat
  dutyMax : Nat
  vhMin : Nat
  vhMax : Nat
  tmax : Nat
  vhSettle : Nat
  deriving DecidableEq, Repr, Inhabited

/-- BSTART(b), 1 ≤ b ≤ 16, of version 2 words. -/
def bstart2 (w : Nat → Word) (b : Nat) : Nat :=
  if b % 2 = 1 then bits (w (2 + (b - 1) / 2)) 28 16 else bits (w (2 + (b - 1) / 2)) 12 0

/-- A descriptor from its words as written. -/
def descOf (w : Nat → Word) : Desc :=
  let g (f : Field) : Nat := f.get (w f.off)
  if bits (w 0) 35 32 = 1 then
    let dots := bits (w 0) 31 21
    let nb := bits (w 0) 10 8
    { ver := 1, dots := dots, pitch := bits (w 0) 20 20, lanes := bits (w 0) 19 18, map := 0, dir := 0,
      hsckN := bits (w 0) 17 11, nblock := nb, slices := bits (w 0) 7 6, latW := 20, stbPol := bits (w 0) 5 5,
      latPol := bits (w 0) 4 4, clkEdge := 0,
      bstart := (List.range (nb + 1)).map (fun b => b * dots / (nb + 1)) ++ [dots],
      mapLo := 0x76543210, mapHi := 0xFEDCBA98, rdot := bits (w 1) 35 20, thFit := 1, thNom := bits (w 1) 19 2,
      thBeta := bits (w 2) 35 22, lineMax := bits (w 2) 21 8, stbMax := 2000, dutyMax := 1000, vhMin := bits (w 3) 35 27,
      vhMax := bits (w 3) 26 18, tmax := bits (w 3) 17 10, vhSettle := 100 }
  else
    let nb := g F.hd_NBLOCK
    { ver := 2, dots := g F.hd_DOTS, pitch := g F.hd_PITCH, lanes := g F.hd_LANES, map := g F.hd_MAP, dir := g F.hd_DIR,
      hsckN := g F.hd_HSCK_N, nblock := nb, slices := g F.hd_SLICES, latW := g F.hd_LAT_W, stbPol := g F.hd_STB_POL,
      latPol := g F.hd_LAT_POL, clkEdge := g F.hd_CLK_EDGE,
      bstart := (0 :: (List.range nb).map fun b => bstart2 w (b + 1)) ++ [g F.hd_DOTS],
      mapLo := g F.hd_STB_MAP_LO, mapHi := g F.hd_STB_MAP_HI, rdot := g F.hd_RDOT, thFit := g F.hd_TH_FIT,
      thNom := g F.hd_TH_NOM, thBeta := g F.hd_TH_BETA, lineMax := g F.hd_LINE_MAX, stbMax := g F.hd_STB_MAX,
      dutyMax := g F.hd_DUTY_MAX, vhMin := g F.hd_VH_MIN, vhMax := g F.hd_VH_MAX, tmax := g F.hd_TMAX,
      vhSettle := g F.hd_VH_SETTLE }

/-- The descriptor in force of head `x`. -/
def State.desc (s : State) (x : Nat) : Desc := descOf fun i => s.tbl.force.get ((Obj.head x).base + i)

/-- Dots per mm (R225). -/
def Desc.dpmm (d : Desc) : Nat := if d.pitch = 0 then 8 else if d.pitch = 1 then 12 else if d.pitch = 2 then 16 else 24

/-- The block a dot lies in. -/
def Desc.block (d : Desc) (k : Nat) : Nat := ((d.bstart.drop 1).filter (· ≤ k)).length

/-- Shift clocks of a lane, slices, T_shift and T_sl in PWM cycles (R231..R233). -/
def Desc.c (d : Desc) : Nat := (d.dots + 2 ^ d.lanes - 1) / 2 ^ d.lanes
def Desc.nsl (d : Desc) : Nat := 2 ^ d.slices
def Desc.tShift (d : Desc) : Nat := d.c * d.hsckN
def Desc.tSl (d : Desc) : Nat := d.tShift + 20 + d.latW

/-- VH lies within VH_MIN..VH_MAX (R238). -/
def Desc.vhOk (d : Desc) (vh : Nat) : Bool := d.vhMin ≤ vh && vh ≤ d.vhMax

/-! ### Line constants (R262..R264, R278, R280) -/

/-- TB1..TB7 in °C. -/
def State.tbs (s : State) (x : Nat) : List Int :=
  [F.en_TB1, F.en_TB2, F.en_TB3, F.en_TB4, F.en_TB5, F.en_TB6, F.en_TB7].map fun f => s.cfgS (.head x) f

/-- The band for a temperature in 1/8 °C (R262). -/
def tBand (tb : List Int) (hyst : Nat) (t : Int) (prev : Nat) : Nat :=
  let up := (List.range 7).foldl (fun b _ => if b < 7 && decide (tb.getD b 0 * 8 ≤ t) then b + 1 else b) prev
  (List.range 7).foldl (fun b _ => if 0 < b && decide (t < tb.getD (b - 1) 0 * 8 - 4 * hyst) then b - 1 else b) up

/-- Head temperature in 1/8 °C (R442). -/
def State.headTemp (s : State) (x : Nat) : Int := at' s.sup.thead x

/-- Band of head `x` now, from the band it had. -/
def State.bandNow (s : State) (x : Nat) : Nat :=
  tBand (s.tbs x) (s.cfg (.head x) F.en_HYST) (s.headTemp x) (s.head x).bandPrev

/-- The band taken afresh at start-up and when its thresholds change (R262). -/
def State.bandAfresh (s : State) (x : Nat) : State :=
  let t := s.headTemp x
  s.onHead x fun h => { h with bandPrev := ((s.tbs x).filter fun b => decide (b * 8 ≤ t)).length }

/-- VH step for a reading in 1/8 V. -/
def State.vStep (s : State) (x vh : Nat) : Nat :=
  let lo := s.cfg (.head x) F.en_VH_LO
  let st := s.cfg (.head x) F.en_VH_STEP
  if vh < lo ∨ st = 0 then 0 else min 15 ((vh - lo) / st)

/-- THERM_STAT.HEADx_THROT (R441). -/
def State.headThrot (s : State) (x : Nat) : Bool := (s.sup.thr && s.sup.dieCut) || decide (2 ≤ at' s.sup.hzone x)

/-- TBASE of a band and step. -/
def State.tBase (s : State) (x b v : Nat) : Nat :=
  if (s.desc x).ver = 1 then s.cfg (.v1t x (8 * (b / 2) + v / 2)) F.v1t_TBASE else s.cfg (.tb x (16 * b + v)) F.tb_TBASE

/-- HF of a history code. -/
def State.hFactor (s : State) (x h : Nat) : Nat :=
  if (s.desc x).ver = 1 then s.cfg (.v1h x (h / 4)) F.v1h_HF else s.cfg (.hf x h) F.hf_HF

/-- W_u in 5 ns (R264). -/
def unitWidth (tbase emax nsl : Nat) : Nat := (2 * tbase * emax + 5 * 64 * nsl) / (2 * 5 * 64 * nsl)

/-- The fill order (R270). -/
def State.fillOrder (s : State) (x nsl : Nat) : List Nat :=
  let v := s.cfg (.head x) F.en_FILL_LO + s.cfg (.head x) F.en_FILL_HI * 2 ^ 32
  ((List.range 16).map fun k => v / 16 ^ k % 16).filter (· < nsl)

/-! ### Demand (R265, R268, R269, R273) -/

/-- Level of a dot in a sparse line. -/
def lvlAt (l : List (Nat × Nat)) (d : Nat) : Nat := match l.find? fun p => p.1 == d with | some p => p.2 | none => 0

/-- The history code of a dot (R265). -/
def histCode (on0 on1 on2 : Nat → Bool) (d : Nat) : Nat :=
  let b (v : Bool) (k : Nat) : Nat := if v then 2 ^ k else 0
  let left (f : Nat → Bool) : Bool := if d = 0 then false else f (d - 1)
  b (on1 d) 5 + b (on2 d) 4 + b (left on1) 3 + b (on1 (d + 1)) 2 + b (left on0) 1 + b (on0 (d + 1)) 0

def State.dotClass (s : State) (x d : Nat) : Nat := s.cfg (.dot x d) F.dot_CLASS

/-- Trim factor in 1/512. -/
def State.trimOf (s : State) (x d : Nat) : Nat :=
  let t := s.cfg (.dot x d) F.dot_TRIM
  if s.cfg (.dot x d) F.dot_TSCALE = 1 then 512 + 2 * t else 384 + t

/-- What stage 3 uses for a line: its levels, the two lines before, throttle factor. -/
structure LineIn where
  x : Nat
  cur : List (Nat × Nat)
  h1 : List (Nat × Nat)
  h2 : List (Nat × Nat)
  thr : Nat
  deriving DecidableEq, Repr, Inhabited

/-- Demand of dot `d` with trim factor `tf`, in 2^-38. -/
def State.demand (s : State) (l : LineIn) (d tf : Nat) : Nat :=
  let on (ls : List (Nat × Nat)) (k : Nat) : Bool := s.cfg (.head l.x) F.en_HTHR ≤ lvlAt ls k
  let h := histCode (on l.cur) (on l.h1) (on l.h2) d
  s.cfg (.gs l.x (lvlAt l.cur d)) F.gs_GS * s.hFactor l.x h * tf * l.thr

/-- Stage 5 input of a dot in 2^-45: its own demand and what its OPEN neighbours hand over (R273). -/
def State.dotEnergy (s : State) (l : LineIn) (dots d : Nat) : Nat :=
  let opens (k : Nat) : Nat := if k < dots ∧ s.dotClass l.x k = 2 then s.demand l k 512 else 0
  let share := (if d = 0 then 0 else opens (d - 1)) + opens (d + 1)
  128 * s.demand l d (s.trimOf l.x d) + s.cfg (.head l.x) F.en_OBOOST * share

/-- Slices of an energy before the clip to NSL (R269). -/
def sliceCount (e emax nsl : Nat) : Nat :=
  let den := 2 ^ 45 * emax
  if den = 0 then 0 else (2 * e * nsl * 64 + den) / (2 * den)

/-- Mask of `n` slices from offset `rho` of the fill order (R270). -/
def fillMask (fo : List Nat) (nsl rho n : Nat) : Nat :=
  (List.range n).foldl (fun m i => m ||| 2 ^ fo.getD ((rho + i) % nsl) 0) 0

/-! ### The peak budget (R274) -/

/-- Masks being budgeted. -/
structure Budget where
  masks : List (Nat × Nat)
  reloc : Nat
  dropped : Nat
  deriving DecidableEq, Repr, Inhabited

/-- Dots with bit `j`, and those of them in block `b`. -/
def Budget.head (m : Budget) (j : Nat) : Nat := (m.masks.filter fun p => p.2.testBit j).length
def Budget.blk (m : Budget) (d : Desc) (j b : Nat) : Nat := (m.masks.filter fun p => p.2.testBit j && d.block p.1 == b).length

/-- move_or_drop (R274). -/
def Budget.moveOrDrop (m : Budget) (d : Desc) (capB : Nat → Nat) (capH : Nat) (fo : List Nat) (k dot : Nat) : Budget :=
  let j := fo.getD k 0
  let b := d.block dot
  let mask := lvlAt m.masks dot
  let put (v : Nat) (m : Budget) : Budget := { m with masks := m.masks.map fun p => if p.1 = dot then (dot, v) else p }
  let m := put (mask - 2 ^ j) m
  match (fo.drop (k + 1)).find? fun j2 => !mask.testBit j2 && m.blk d j2 b < capB b && m.head j2 < capH with
  | some j2 => { put (mask - 2 ^ j + 2 ^ j2) m with reloc := m.reloc + 1 }
  | none => { m with dropped := m.dropped + 1 }

/-- One slice of the fill order: every block within its cap, then the head. -/
def Budget.slice (m : Budget) (d : Desc) (capB : Nat → Nat) (capH : Nat) (fo : List Nat) (k : Nat) : Budget :=
  let j := fo.getD k 0
  let m := (List.range (d.nblock + 1)).foldl (fun (m : Budget) b =>
    let here := (m.masks.filter fun p => p.2.testBit j && d.block p.1 == b).reverse
    (here.take (here.length - capB b)).foldl (fun m p => m.moveOrDrop d capB capH fo k p.1) m) m
  let all := (m.masks.filter fun p => p.2.testBit j).reverse
  (all.take (all.length - capH)).foldl (fun m p => m.moveOrDrop d capB capH fo k p.1) m

/-! ### A line (R257) -/

/-- The head's VH sag monitor is asserted (R275). -/
def State.vhSag (s : State) (x : Nat) : Bool := at' s.sup.sag (2 + x)

/-- Stages 2 to 7 of a line with constants `b`, `v`. -/
def State.makeLine (s : State) (l : LineIn) (b v : Nat) : LineOut :=
  let d := s.desc l.x
  let nsl := d.nsl
  let emax := s.cfg (.head l.x) F.en_EMAX
  let fo := s.fillOrder l.x nsl
  let spread := s.cfgB (.head l.x) F.en_SPREAD
  let raw := (List.range d.dots).filterMap fun k =>
    let cls := s.dotClass l.x k
    if cls = 2 ∨ cls = 3 then none
    else
      let n := sliceCount (s.dotEnergy l d.dots k) emax nsl
      if n = 0 then none else some (k, n)
  let tb := s.tBase l.x b v
  let masks := raw.map fun p => (p.1, fillMask fo nsl (if spread then d.block p.1 % nsl else 0) (min nsl p.2))
  let capH := if s.vhSag l.x then min (s.cfg (.head l.x) F.en_CAP_H) (s.cfg (.head l.x) F.en_CAP_SAG)
              else s.cfg (.head l.x) F.en_CAP_H
  let m := (List.range nsl).foldl (fun (m : Budget) k => m.slice d (fun b => s.cfg (.head l.x) (F.en_CAP_B.plus b)) capH fo k)
    ⟨masks, 0, 0⟩
  { masks := if tb = 0 then [] else m.masks.filter fun p => p.2 != 0, wu := unitWidth tb emax nsl, nsl := nsl,
    reloc := m.reloc, dropped := m.dropped, clipped := (raw.filter fun p => nsl < p.2).length }

/-- Physical levels of a composed line: shifted by XOFS, and REG_X on path B (R294). -/
def State.physLevels (s : State) (x : Nat) (line : List (Nat × Nat)) : List (Nat × Nat) :=
  let sh := s.cfgS (.path x) F.cal_XOFS + (if x = 1 then s.cfgS (.path 1) F.cal_REG_X else 0)
  let dots := (s.desc x).dots
  line.filterMap fun p =>
    let d := (p.1 : Int) + sh
    if 0 ≤ d ∧ d < dots then some (d.toNat, p.2) else none

/-- The dots of line `n` of a band. -/
def Band.lineDots (b : Band) (n : Nat) : List (Nat × Nat) :=
  b.dots.filterMap fun p => if p.1 = n % 64 then some p.2 else none

/-- Stages 1 to 7 for the line with physical levels `cur`: its masks with the history of the lines started, and without. -/
def State.stageLevels (s : State) (x : Nat) (cur : List (Nat × Nat)) : State :=
  let h := s.head x
  let b := s.bandNow x
  let v := s.vStep x h.vhRead
  let throt := s.headThrot x
  let thr := if throt then s.cfg (.head x) F.en_THROT_CUT else 256
  let a := s.makeLine ⟨x, cur, h.hist.getD 0 [], h.hist.getD 1 [], thr⟩ b v
  let f := s.makeLine ⟨x, cur, [], [], thr⟩ b v
  s.onHead x fun h => { h with tband := b, bandPrev := b, vstep := v, throt := throt, nextLevels := cur, ready := some a, readyFresh := some f }

/-- The same for the line with composed dots `line`. -/
def State.stage1 (s : State) (x : Nat) (line : List (Nat × Nat)) : State := s.stageLevels x (s.physLevels x line)

/-- The VH value that the monitor holds at a stage 1 whose command carries no reading: a free value (R262). -/
def State.freshVh (s : State) (x : Nat) : State :=
  let r := s.takeFresh
  r.2.onHead x fun h => { h with vhRead := Config.freeNat r.1 % 512 }

/-! ### Strobing (R234, R275) -/

/-- The width limited under R234, in 5 ns, for a true interval of `tint` PWM cycles. -/
def Desc.limitWidth (d : Desc) (wu tint : Nat) : Nat :=
  min wu (min d.tShift (min (d.stbMax * 200) (d.dutyMax * tint / (1000 * d.nsl))))

/-- Blocks, each with its dots, put in groups within CAP_SAG in ascending order, each group with its dots (R275). -/
def sagGroups (cap : Nat) : List (Nat × Nat) → Option (List Nat × Nat) → List (List Nat × Nat)
  | [], none => []
  | [], some g => [g]
  | c :: rest, none => sagGroups cap rest (some ([c.1], c.2))
  | c :: rest, some g =>
    if g.2 + c.2 ≤ cap then sagGroups cap rest (some (g.1 ++ [c.1], g.2 + c.2)) else g :: sagGroups cap rest (some ([c.1], c.2))

/-- The blocks that hold a dot heating in slice `j`, each with its dots. -/
def LineOut.heating (l : LineOut) (d : Desc) (j : Nat) : List (Nat × Nat) :=
  ((List.range (d.nblock + 1)).map fun b => (b, (l.masks.filter fun p => p.2.testBit j && d.block p.1 == b).length)).filter (·.2 != 0)

/-- The groups of slice `j`, each with its opening after that of the window, in 5 ns. -/
def LineOut.groups (l : LineOut) (d : Desc) (cap w j : Nat) : List ((List Nat × Nat) × Nat) :=
  (sagGroups cap (l.heating d j) none).zipIdx.map fun g => (g.1, g.2 * (w + 10))

/-- Dot-slices lost in slice `j` when it is strobed in groups. -/
def LineOut.skip (l : LineOut) (d : Desc) (cap w j : Nat) : Nat :=
  ((l.groups d cap w j).filter fun g => d.tShift < g.2 + w).foldl (fun n g => n + g.1.2) 0

/-- From window `win` on the line in progress is strobed in groups. -/
def State.groupFrom (s : State) (x win : Nat) : State :=
  let d := s.desc x
  let cap := s.cfg (.head x) F.en_CAP_SAG
  let h := s.head x
  match h.fired with
  | [] => s
  | f :: rest =>
    let sk := ((List.range f.out.nsl).filter fun j => win ≤ j && !f.skips.any fun p => p.1 == j).map fun j => (j, f.out.skip d cap f.width j)
    s.onHead x fun h => { h with fired := { f with skips := f.skips ++ sk } :: rest,
                                 sagSkip := h.sagSkip + BitVec.ofNat 36 (sk.foldl (fun n p => n + p.2) 0) }

/-- From window `win` on the line in progress is strobed whole again. -/
def State.ungroupFrom (s : State) (x win : Nat) : State :=
  match (s.head x).fired with
  | [] => s
  | f :: rest =>
    let gone := f.skips.filter fun p => win ≤ p.1
    s.onHead x fun h => { h with fired := { f with skips := f.skips.filter fun p => !(win ≤ p.1) } :: rest,
                                 sagSkip := h.sagSkip - BitVec.ofNat 36 (gone.foldl (fun n p => n + p.2) 0) }

end Sys2Proof.Machine
end

