-- ==== Sys2Proof/Machine/Path.lean ====
section
/-!
DEFINITION. The head path while it prints (R62..R67, R215..R222, R235..R247): layout, bands, release and rate, the path
rate and its ramps, placing of lines, the feed axis that follows, line starts, the end of a copy.
-/

namespace Sys2Proof.Machine

/-! ### Parts -/

def State.feedAx (s : State) (x : Nat) : Nat := s.cfg (.head x) F.hb_FEED_AX
def State.clkAx (s : State) (x : Nat) : Nat := s.cfg (.head x) F.hb_CLK_AX

/-- NPHASE, FEED(i), their sum and the least of them, u18.18 (R246, R247). -/
def State.nph (s : State) (x : Nat) : Nat := s.cfg (.head x) F.hi_NPH + 1
def State.feedOf (s : State) (x i : Nat) : Nat := s.cfg (.head x) (F.hi_FEED.plus i)
def State.feeds (s : State) (x : Nat) : List Nat := (List.range (s.nph x)).map (s.feedOf x)
def State.feedSum (s : State) (x : Nat) : Nat := (s.feeds x).foldl (· + ·) 0
def State.feedMin (s : State) (x : Nat) : Nat := (s.feeds x).foldl min (s.feedOf x 0)

/-- X(n), u.18 (R241). -/
def State.lineX (s : State) (x n : Nat) : Nat :=
  n / s.nph x * s.feedSum x + ((s.feeds x).take (n % s.nph x)).foldl (· + ·) 0

/-- p of R63..R65: the smallest FEED in whole microsteps, at least 1. -/
def State.pStep (s : State) (x : Nat) : Nat := max 1 (s.feedMin x / 2 ^ 18)

def State.fscale (s : State) (x : Nat) : Nat := s.cfg (.path x) F.cal_FSCALE

/-- Media sensor bound as MSA or MSB is OUT (R287). -/
def State.msaOut (s : State) (x : Nat) : Bool :=
  s.cfgB (.head x) F.hb_MSA_EN && (at' s.mss (s.cfg (.head x) F.hb_MSA)).mstate == 2
def State.msbOut (s : State) (x : Nat) : Bool :=
  s.cfgB (.head x) F.hb_MSB_EN && (at' s.mss (s.cfg (.head x) F.hb_MSB)).mstate == 2

/-- The path has a feed axis that can move by microsteps (R250). -/
def State.feedBound (s : State) (x : Nat) : Bool :=
  s.cfgB (.head x) F.hb_FEED_EN && s.cfg (.ax (s.feedAx x)) F.ax_KIND == 1

/-- Media out, or for a PRINT or PATTERN the stop zone (R287, R442): the record does not start. -/
def State.pathBlocked (s : State) (x typ : Nat) : Bool :=
  s.msaOut x || s.msbOut x || ((typ == tPrint || typ == tPattern) && at' s.sup.hzone x == 3)

/-- The lane of head `x` shows STOPPED with its record at once. -/
def State.stoppedWith (s : State) (x : Nat) : State :=
  (s.onLane x fun l => { l with stopping := true, stopTo := .stopped }).cameToRest x

/-- The lane's record running now. -/
def State.runRec (s : State) (x : Nat) : Option QItem := (s.lane x).running

/-- The shank forces the head or a bound axis: no line starts (R422). -/
def State.pathForced (s : State) (x : Nat) : Bool :=
  s.forced (56 + x) || (s.boundAxes x).any fun i => s.bridgeForced (2 * (i - 2))

/-! ### VH enable (R238, R239) -/

/-- HDx_VHEN rises, unless it is high. Whether or not it rises now, what is to fire waits until VH_SETTLE has elapsed since it
rose and the VH sense has been found in range. -/
def State.vhenUp (s : State) (x : Nat) : State :=
  s.onHead x fun h => { h with vhen := true, settle := if h.settle = 0 then 1 else h.settle }

/-- At a boundary HDx_VHEN falls where the lane has become IDLE, STOPPED, FAULT or OUT. -/
def State.vhenSlot (s : State) (x : Nat) : State :=
  let st := (s.lane x).state
  let idle := st = .idle ∨ st = .stopped ∨ st = .fault ∨ st = .out
  if idle ∧ (s.head x).sstate ≠ 1 then s.onHead x fun h => { h with vhen := false, settle := 0 } else s

/-! ### The rate (R235, R236, R242, R65) -/

/-- u in 2^-22 microsteps per st at r = 1 for a period in 1/256 ph. -/
def State.uOf (s : State) (x period : Nat) : Nat :=
  s.feedSum x * s.fscale x * 2 ^ 24 / (s.nph x * period * 2 ^ 20)

/-- d of R64 in 2^-22 microsteps for a velocity `u`. -/
def holdDist (u dec : Nat) : Nat := u * (ceilDiv (4 * u) dec - 1) / 2

/-- d at this period is at most 48 × p. -/
def State.holdOk (s : State) (x period : Nat) : Bool :=
  decide (holdDist (s.uOf x period) (s.cfg (.ax (s.feedAx x)) F.ax_LIM_DEC) ≤ 48 * s.pStep x * q22)

/-- The least period in `lo`..`lo` + 2^k − 1 that keeps R65. -/
def State.leastPeriod (s : State) (x : Nat) : Nat → Nat → Nat
  | 0, lo => lo
  | k + 1, lo => if s.holdOk x (lo + 2 ^ k - 1) then s.leastPeriod x k lo else s.leastPeriod x k (lo + 2 ^ k)

/-- The shortest period that meets the slice budget, LINE_MAX and R65, in 1/256 ph. -/
def State.minPeriod (s : State) (x : Nat) : Nat :=
  let d := s.desc x
  let a := 2 ^ 20 * s.feedSum x
  let b := s.stitch.period * s.nph x * s.feedMin x
  max (max (ceilDiv (10 * d.nsl * d.tSl * a) (9 * b)) (ceilDiv (200000000 * a) (d.lineMax * b))) (s.leastPeriod x 36 1)

/-- Profile FPROF of the feed axis. -/
def State.pathProf (s : State) (x : Nat) : Prof := s.profile (s.feedAx x) (s.cfg (.head x) F.hs_FPROF)

/-- The period a record runs at, the velocity limit of its feed profile, and whether it is clamped (R236). -/
def State.rateOf (s : State) (x mode : Nat) : Nat × Nat × Bool :=
  let least := s.minPeriod x
  let vmax := (s.pathProf x).vmax
  if mode = 0 then
    let p := s.cfg (.head x) F.hs_PERIOD
    (max p least, vmax, decide (p < least))
  else
    let driven := mode = 2 ∨ s.cfgB (.head x) F.hs_ENC_DRIVEN
    let cap := s.uOf x least
    let v := if driven then min vmax cap else vmax
    (max 1 (s.feedSum x * 2 ^ 24 / (s.nph x * max 1 v)), v, decide (driven ∧ cap < vmax))

/-! ### Layout and bands (R215..R222, R295) -/

/-- The display lists of a record. -/
def Head.listsOf (h : Head) (q : QItem) : List DispList := h.dl.filter fun l => l.job == q.job && l.idx == q.idx

/-- The template of a PRINT: the one its lists were laid out from, else the stored one. -/
def State.printTemplate (s : State) (x : Nat) (q : QItem) : Template :=
  match (s.head x).listsOf q with
  | l :: _ => l.tmpl
  | [] => s.template q.r.templateIx

/-- A template is laid out again for each copy: it signs, or uses the COPY escape. -/
def Template.perCopy (t : Template) : Bool :=
  t.isSigned || t.elems.any fun e => (pieces e.content).any fun p => match p with | .copy => true | _ => false

/-- The drawn objects of copy `c` of a PRINT. -/
def State.printObjects (s : State) (x : Nat) (q : QItem) (c : Nat) : List Drawn :=
  let old := ((s.head x).listsOf q).flatMap DispList.objs
  (s.ticketObjects (s.printTemplate x q) q.job (((s.job? q.job).map Job.href).getD 0) c q.r.printFields).map fun d =>
    { d with src := d.src.fromCache old }

/-- The record and copy whose layout is next on head `x` (R215). -/
def State.layoutNext (s : State) (x : Nat) : Option (QItem × Nat) :=
  let h := s.head x
  let prints := ((s.lane x).running.toList ++ (s.lane x).queue).filter fun q => q.r.typ == tPrint
  prints.findSome? fun q =>
    let mine := h.listsOf q
    if (s.printTemplate x q).perCopy then
      let last := mine.foldl (fun n l => max n l.copy) 0
      let c := if last ≠ 0 then last + 1 else if h.job = q.job ∧ h.idx = q.idx ∧ h.typ = tPrint then h.pcopy else (s.recStatus q.job q.idx).copies + 1
      if c ≤ q.r.copies then some (q, c) else none
    else if mine.isEmpty then some (q, 0) else none

/-- Words of the asset cache of head `x`'s SRAM bank; less where the other bank is retired (R31, R36). -/
def State.cacheRoom (s : State) (x : Nat) : Nat := if at' s.dev.sramRet (1 - x) then 65536 else 106496

/-- The layout of a PRINT may read its assets: they are READY, or it goes on from the copies of an earlier list (R199). -/
def State.layoutOk (s : State) (x : Nat) (q : QItem) : Bool := s.printAssetsOk q.r || !((s.head x).listsOf q).isEmpty

/-- Core 1 reads an uncorrectable word of an asset the record uses (R199); `w` counts within the asset region. -/
def State.layoutBad (s : State) (q : QItem) (b w : Nat) : State :=
  if (s.printAssets q.r).any fun e => (s.dirEntry e).holds b (w / 512) then s.assetWordBad b w else s

/-- Core 1 lays out copy `c` of a PRINT, where its sources find room beside those in the cache (R215). -/
def State.layOut (s : State) (x : Nat) (q : QItem) (c : Nat) : State :=
  let t := s.printTemplate x q
  let objs := s.printObjects x q (max c 1)
  if s.cacheRoom x < cacheWords ((s.head x).dl.flatMap DispList.objs ++ objs) then s
  else
    let first := if c = 0 then (s.recStatus q.job q.idx).copies + 1 else c
    s.onHead x fun h => { h with dl := h.dl ++ [⟨q.job, q.idx, c, t, objs, ticketLines t objs, first, 0, false⟩] }

/-- LAYOUT: core 1 completes a display list; `found` tells whether its soft deadline was missed (R62, R120, R215), and of an
uncorrectable word it has read. -/
def execLayout (head : Fin 2) (found : Bool × Option (Fin 2 × BitVec 20)) (s : State) : Host.Outcome State Fault Refusal :=
  let x := head.val
  match s.layoutNext x with
  | none => .next s
  | some (q, c) =>
    if 2 ≤ (s.head x).dl.length || !s.layoutOk x q || !s.dutyRuns 1 || at' s.dev.sramRet x then .next s
    else
      let s := match found.2 with | some w => s.layoutBad q w.1 w.2.toNat | none => s
      if !s.layoutOk x q then .next s
      else
        let s := if found.1 then
            s.onDev fun d => { d with missed := satInc 4095 d.missed, missedAll := d.missedAll + 1, transient := true }
          else s
        .next (s.layOut x q c)

/-- Lines per mm (R295). -/
def State.linesMm (s : State) (x : Nat) : Nat := (s.desc x).dpmm * s.nph x
/-- μ of R295 in 2^-38 microsteps. -/
def State.muOf (s : State) (x : Nat) : Nat := s.feedSum x * (s.desc x).dpmm * s.fscale x

/-- Lines of a PATTERN (R295); for pattern 1, `dist` holds P once E1 is found. -/
def State.patternLines (s : State) (x : Nat) : Nat :=
  let h := s.head x
  let mm := s.linesMm x
  if h.pattern = 1 then
    (ceilDiv ((h.dist + (s.cfgS (.path x) F.cal_COFS).toNat) * 2 ^ 38) (s.muOf x) + 10) * mm
  else if h.pattern = 2 then 74 * mm else 15 * mm

/-- What the header of pattern 2 shows: TBAND, VSTEP, TBASE, EMAX, NSL, W_u. -/
def State.ladderHeader (s : State) (x : Nat) : List Nat :=
  let h := s.head x
  let nsl := (s.desc x).nsl
  let tb := s.tBase x h.tband h.vstep
  let emax := s.cfg (.head x) F.en_EMAX
  [h.tband, h.vstep, tb, emax, nsl, unitWidth tb emax nsl]

/-- The parts of rulers and scales whose place R295 gives: of pattern 1 the millimetre ticks at both edges of the print, of pattern 3
the crosshair and the points at which the divisions of its scales meet its arms (log 73). -/
def State.patternMark (s : State) (x line dot : Nat) : Bool :=
  let d := s.desc x
  let mm := max 1 (s.linesMm x)
  if (s.head x).pattern = 1 then line % mm == 0 && (dot == 0 || dot + 1 == d.dots)
  else
    let dl := if x = 0 then mm else d.dpmm - 1
    let dx := if x = 0 then d.dpmm else d.dpmm - 1
    let away (a b : Nat) : Nat := max a b - min a b
    (dot == d.dots / 2 && away line (10 * mm) % dl == 0 && away line (10 * mm) ≤ 5 * dl) ||
      (line == 10 * mm && away dot (d.dots / 2) % dx == 0 && away dot (d.dots / 2) ≤ 5 * dx)

/-- Level of a dot of a PATTERN: what R295 lays down, lettering and the rest of rulers and scales as the firmware draws them. -/
def State.patternLevel (s : State) (x line dot : Nat) : Nat :=
  let h := s.head x
  let mm := line / max 1 (s.linesMm x)
  let ink := (h.pattern != 2 && s.patternMark x line dot) ||
    Config.patternInk h.pattern x line dot (if h.pattern = 2 then s.ladderHeader x else [])
  if h.pattern ≠ 2 then (if ink then 15 else 0)
  else if mm < 6 then (if ink then 15 else 0)
  else if mm < 66 then (if ink then 0 else (mm - 6) / 4 + 1)
  else if mm < 70 then (if (line + dot) % 2 = 0 then 15 else 0)
  else if line % 4 = 0 ∧ dot % 4 = 0 then 15 else 0

/-- The dots of the next band of a display list, from the list alone (R218); a PATTERN's as R295 gives them. -/
def State.composeBand (s : State) (x : Nat) (l : DispList) : List (Nat × Nat × Nat) :=
  let dots := (s.desc x).dots
  match ((s.job? l.job).bind fun j => j.recs[l.idx]?) with
  | some r =>
    if r.typ = tPrint then bandDots l.tmpl.width l.objs dots l.lines l.bnext
    else
      (List.range 64).flatMap fun k =>
        if 64 * l.bnext + k < l.lines then
          (List.range dots).filterMap fun d =>
            let g := s.patternLevel x (64 * l.bnext + k) d
            if g = 0 then none else some (k, d, g)
        else []
  | none => []

/-- A display list after its next band has been composed; `copies` for a list that serves every copy. -/
def DispList.step (l : DispList) (copies : Nat) : DispList :=
  if 64 * (l.bnext + 1) < l.lines then { l with bnext := l.bnext + 1 }
  else if l.copy = 0 ∧ l.cnext < copies then { l with bnext := 0, cnext := l.cnext + 1 }
  else { l with done := true }

/-- Copies of a record. -/
def State.copiesOf (s : State) (job : Word) (idx : Nat) : Nat :=
  match (s.job? job).bind fun j => j.recs[idx]? with
  | some r => if r.typ = tPrint then r.copies else 1
  | none => 1

/-- The band after the one in force takes effect at a seam now: committed in an earlier stitch, of the same copy. -/
def State.seamBand (s : State) (x : Nat) : Option Band :=
  let h := s.head x
  match h.cur, h.bands with
  | some c, b :: _ =>
    if b.stitch < s.stitch.n ∧ b.job = c.job ∧ b.idx = c.idx ∧ b.copy = c.copy ∧ b.num = c.num + 1 then some b else none
  | _, _ => none

/-- Lines of the copy that are ready: through the band in force and one that will take effect at the coming seam. -/
def State.readyLines (s : State) (x : Nat) : Nat :=
  match (s.head x).cur with
  | none => 0
  | some c => c.num * 64 + c.lines + (match s.seamBand x with | some b => b.lines | none => 0)

/-- M of R63: lines ready beyond the line now loading. -/
def State.lookahead (s : State) (x : Nat) : Nat :=
  s.readyLines x - (if (s.head x).lineOn then (s.head x).line + 1 else 0)

/-- Every remaining line of the ticket is ready. -/
def State.allReady (s : State) (x : Nat) : Bool :=
  match (s.head x).cur with
  | none => true
  | some c => c.last || (match s.seamBand x with | some b => b.last | none => false)

/-- The whole ticket has been composed. -/
def State.allComposed (s : State) (x : Nat) : Bool :=
  match (s.head x).cur with
  | none => true
  | some c => c.last || (s.head x).bands.any fun b => b.last && b.job == c.job && b.idx == c.idx && b.copy == c.copy

/-- OVERRUN (R57, R63), by the settings that the last sampling point took (R53). -/
def State.checkOverrun (s : State) (x : Nat) : State :=
  let h := s.head x
  let low := s.stitch.govLines
  if h.cur.isNone then s
  else if low ≤ s.lookahead x then s.onHead x fun h => { h with ovrArmed := true }
  else if !h.ovrArmed ∨ s.allComposed x ∨ h.step ≠ .run then s
  else
    ((s.onHead x fun h => { h with ovrArmed := false }).onStitch fun g =>
      { g with ovrSeen := true, ovrReq := min 0x400 (g.ovrReq + g.govStep), ovrSince := g.since }).raise 6 4 x []

/-- COMMIT_LATE (R221). -/
def State.commitLate (s : State) (x : Nat) (b : Band) : State := s.raise 7 1 x [field 19 12 b.copy ||| field 9 0 b.num]

/-- Forget the layouts and bands of a record that has ended. -/
def State.dropPrint (s : State) (x : Nat) (job : Word) (idx : Nat) : State :=
  s.onHead x fun h =>
    let mine (j : Word) (i : Nat) : Bool := j == job && i == idx
    { h with dl := h.dl.filter fun l => !mine l.job l.idx, bands := h.bands.filter fun b => !mine b.job b.idx,
             cur := (match h.cur with | some b => if mine b.job b.idx then none else some b | none => none),
             redo := h.redo.filter fun r => !mine r.pl.job r.pl.idx, redoNext := if h.redo.any fun r => mine r.pl.job r.pl.idx then none else h.redoNext }

/-! ### Release (R220, R236, R238, R250) -/

/-- Bands 0 and 1 of a copy are committed, or band 0 alone of a short copy (R220). -/
def Head.bandsReady (h : Head) (job : Word) (idx c : Nat) : Bool :=
  let begun : List Band := match h.cur with | some b => if b.num = 0 ∧ b.job = job ∧ b.idx = idx ∧ b.copy = c then [b] else [] | none => []
  match begun ++ h.bands with
  | a :: rest =>
    a.job == job && a.idx == idx && a.copy == c && a.num == 0 &&
      (a.last || (match rest with | b :: _ => b.job == job && b.idx == idx && b.copy == c && b.num == 1 | [] => false))
  | [] => false

/-- Lines of a copy, from its display list. -/
def Head.copyLines (h : Head) (job : Word) (idx c : Nat) : Nat :=
  match h.dl.find? fun l => l.job == job && l.idx == idx && (l.copy == 0 || l.copy == c) with
  | some l => l.lines
  | none => 0

/-- The record takes over the path: its fields, its rate, VH. -/
def State.takePath (s : State) (x : Nat) (q : QItem) : State :=
  let mode := if q.r.typ = tPattern then 0 else s.cfg (.head x) F.hs_MODE
  let r := s.rateOf x mode
  let s := s.onHead x fun h =>
    { h with job := q.job, idx := q.idx, typ := q.r.typ, copies := if q.r.typ = tPrint then q.r.copies else 1,
             pattern := if q.r.typ = tPattern then bits (q.r.w 1) 3 0 else 0, hmode := mode, period := r.1,
             pcopy := if q.r.typ = tPrint then (s.recStatus q.job q.idx).copies + 1 else 1 }
  if r.2.2 then s.raise 6 8 x [] else s

/-- A PATTERN lays itself out when its lines are known (R295). -/
def State.patternLayout (s : State) (x : Nat) : State :=
  let n := s.patternLines x
  s.onHead x fun h => { h with dl := h.dl ++ [⟨h.job, h.idx, 0, default, [], n, 1, 0, false⟩], step := .wait }

/-- Position of boundary `n` on the feed axis, in 2^-22 microsteps from the copy's start (R294). -/
def State.boundary (s : State) (x n : Nat) : Nat :=
  let m := (s.head x).hmode
  if m = 1 then s.lineX x n * 16
  else (2 * s.lineX x n * s.fscale x + 2 ^ 38) / 2 ^ 39 * q22

/-- Path time of the end of the copy in MODE 0, in ph / 65,536. -/
def State.endTime (s : State) (x n : Nat) : Nat :=
  ceilDiv ((s.head x).period * s.nph x * s.lineX x n * 256) (s.feedSum x)

/-- What the follow-on of a copy takes over from it: its length, the path time of its end, the encoder count of its end. -/
def State.copyEnd (s : State) (x : Nat) : Nat × Nat × Nat :=
  let h := s.head x
  (s.boundary x h.total, if h.hmode = 0 then s.endTime x h.total else 0,
    (s.lineX x h.total * s.cfg (.head x) F.hs_CPM / 2 ^ 36 + h.q0) % 2 ^ 36)

/-- The path goes on with copy `c` of the record that holds it, from the end of the copy before. -/
def State.rollTo (s : State) (x c : Nat) (e : Nat × Nat × Nat) : State :=
  let s := s.onHead x fun h =>
    { h with pcopy := c, nline := 0, total := h.copyLines h.job h.idx c, ptime := h.ptime - e.2.1, origin := h.origin + (e.1 : Int),
             q0 := e.2.2, follow := false }
  let h := s.head x
  s.onAx (s.feedAx x) fun a => if a.mode = .path then { a with tgt := (h.origin + (s.boundary x h.total : Int)) / q22 } else a

/-- The path prints in MODE 1 by an encoder in lasting fault (R398). -/
def State.masterFaulted (s : State) (x : Nat) : Bool :=
  s.cfg (.head x) F.hs_MODE == 1 && (at' s.encs (s.cfg (.head x) F.hs_MENC)).fault

/-- A PRINT is released (R236). A follow-on goes on with the path; one released while the path still runs waits for its end;
else it waits for its first line. -/
def State.startPrint (s : State) (x : Nat) (q : QItem) : State :=
  if !s.feedBound x || s.masterFaulted x then s.heldFault x q
  else if s.pathBlocked x q.r.typ then s.stoppedWith x
  else if q.r.copies ≤ (s.recStatus q.job q.idx).copies then s.endRecord x q
  else
    let h := s.head x
    if h.step = .run ∧ h.follow then
      let e := s.copyEnd x
      let s := s.takePath x q
      s.rollTo x (s.head x).pcopy e
    else if h.step = .run then s.onHead x fun h => { h with later := some (q.job, q.idx) }
    else ((s.takePath x q).vhenUp x).onHead x fun h => { h with step := .wait, midCopy := false, follow := false, stopAfter := false }

/-! ### A copy begins (R242, R243) -/

/-- Where the path's feed profile ends: this copy's last line, and the follow-on's where it runs on. -/
def State.pathEnd (s : State) (x : Nat) : Int :=
  let h := s.head x
  let n := if h.follow ∧ h.pcopy < h.copies then h.total + h.copyLines h.job h.idx (h.pcopy + 1) else h.total
  h.origin + (s.boundary x n : Int)

/-- The feed axis moves with the path from here on. -/
def State.axisToPath (s : State) (x : Nat) : State :=
  let n := s.feedAx x
  let r := s.rateOf x (s.head x).hmode
  s.onAx n fun a =>
    { a with mode := .path, prof := { s.pathProf x with vmax := r.2.1 }, vel := 0, vNext := 0, a := 0, stride := 0, lastPl := a.pos,
             events := [], stop := none, restN := 0, startN := s.stitch.n,
             tgt := s.pathEnd x / q22 }

/-- The feed axis is to start against an active guarded end: it does not, and the head lane stops with the distance kept (R316). -/
def State.feedLimited (s : State) (x : Nat) (tgt : Int) : State :=
  ((s.onAx (s.feedAx x) fun a => { a with tgt := tgt }).keepRest (s.feedAx x) 2).stoppedWith x

/-- The feed axis of the path would start against an active guarded end. -/
def State.feedBlocked (s : State) (x : Nat) : Bool := s.blocked (s.feedAx x) false none

/-- The copy's first line can be placed: bands and VH are ready and the axis rests. -/
def State.beginCopy (s : State) (x : Nat) : State :=
  let h := s.head x
  match h.bands with
  | [] => s
  | b :: rest =>
    let n := s.feedAx x
    let q := (at' s.encs (s.cfg (.head x) F.hs_MENC)).q.toNat
    let rise := h.hmode = 0
    let k := if rise then max 1 (ceilDiv (4 * s.uOf x h.period) (s.pathProf x).acc) else 1
    let s := s.onAx n fun a => { a with line := a.pos * q22 }
    let s := s.onHead x fun h =>
      { h with step := .run, cur := some b, curRead := decide (b.lines ≤ 1), bands := rest, seamMissed := false, copy := h.pcopy, line := 0,
               lineOn := false, nline := 0, total := h.copyLines h.job h.idx h.pcopy, ptime := 0, pvel := 0,
               origin := (s.ax n).pos * q22, cutOff := false, ramp := if rise then .rising else .full, rk := 0, rkNext := 1, rampN := k,
               holding := false, midCopy := true, resuming := false, follow := false, hist := [],
               trail := [(s.nextPh, (s.ax n).pos)], q0 := q, ovrArmed := true }
    ((s.axisToPath x).freshVh x).stage1 x (b.lineDots 0)

/-! ### Placing lines (R241..R244) -/

/-- The phase at which the commanded position equals `b`: that of the step event that reaches it, or interpolated between the two
that bracket it (R243). -/
def crossing (b : Int) : List (Nat × Int) → Option Nat
  | [] => none
  | (p1, e1) :: rest =>
    if e1 = b then some p1
    else match rest with
      | (p2, e2) :: _ => if e1 < b ∧ b < e2 then some (p1 + ceilDiv ((b - e1).toNat * (p2 - p1)) (e2 - e1).toNat) else crossing b rest
      | [] => none

/-- Step events from the last one at or before `base` on. -/
def trailFrom (base : Nat) : List (Nat × Int) → List (Nat × Int)
  | a :: b :: rest => if b.1 ≤ base then trailFrom base (b :: rest) else a :: b :: rest
  | l => l

/-- Phase at which line `n` falls in this stitch, where it does; whether it is late. -/
def State.linePhase (s : State) (x : Nat) (p0 p1 : Int) (r16 n : Nat) : Option (Nat × Bool) :=
  let h := s.head x
  if h.hmode = 0 then
    let t := h.period * s.nph x * s.lineX x n * 256
    let sm := s.feedSum x
    let ph := ceilDiv ((t : Int) - p0 * sm).toNat (sm * r16)
    if (t : Int) < p1 * sm ∧ 0 < r16 ∧ ph < 4096 then some (ph, false) else none
  else if h.hmode = 2 then
    match crossing ((h.origin + (s.boundary x n : Int)) / q22) h.trail with
    | some p => if p < s.nextPh then some (p - s.stitch.n * 4096, false) else none
    | none => none
  else
    -- an encoder in lasting fault places no further line (R398)
    if (at' s.encs (s.cfg (.head x) F.hs_MENC)).fault then none else
    let w := s.cfg (.head x) F.hs_VWIN
    let past := (at' s.encs (s.cfg (.head x) F.hs_MENC)).past
    let now := past.getD 0 h.q0
    let dq := distw 36 now (past.getD (2 ^ w) (past.getLast?.getD h.q0))
    let prog := distw 36 now h.q0 * 2 ^ 36
    let b : Int := (s.lineX x n * s.cfg (.head x) F.hs_CPM : Nat)
    if r16 = 0 then none
    else if b ≤ prog then some (0, true)
    else if dq ≤ 0 ∨ prog + dq * (2 ^ 36 / 2 ^ w : Nat) < b then none
    else some (min 4095 (((b - prog) * (4096 * 2 ^ w : Nat)) / (dq * 2 ^ 36)).toNat, false)

/-- Place the line starts of this stitch. -/
def State.placeLines (s : State) (x : Nat) (p0 p1 : Int) (r16 : Nat) : Nat → State
  | 0 => s
  | fuel + 1 =>
    let h := s.head x
    if h.total ≤ h.nline ∨ s.readyLines x ≤ h.nline ∨ h.seamMissed ∨ h.cutOff then s
    else match s.linePhase x p0 p1 r16 h.nline with
      | none => s
      | some (ph, late) =>
        let n := h.nline
        let s := s.onHead x fun h =>
          { h with placed := h.placed ++ [⟨h.job, h.idx, h.copies, h.pcopy, n, ph, late, n + 1 = h.total⟩], nline := n + 1 }
        let s := if n + 1 = h.total then
            s.onHead x fun h =>
              if h.typ = tPrint then { h with tend := (h.origin + (s.boundary x h.total : Int)) / q22, tendValid := true }
              else if h.pattern = 1 then { h with tend := h.goal + (h.dist : Int), tendValid := true } else h
          else s
        s.placeLines x p0 p1 r16 fuel

/-! ### The path rate (R64, R66, R242) -/

/-- u of the path at r = 1. -/
def State.pathU (s : State) (x : Nat) : Nat := if (s.head x).hmode = 0 then s.uOf x (s.head x).period else (s.head x).pvel

/-- Lower r from now on by 1/n with n = ceil(u / D). -/
def State.beginFall (s : State) (x : Nat) : State :=
  let n := max 1 (ceilDiv (4 * s.pathU x) (s.cfg (.ax (s.feedAx x)) F.ax_LIM_DEC))
  s.onHead x fun h =>
    let k := ceilDiv (h.rkNext * n) h.rampN
    { h with ramp := .falling, rampN := n, rkNext := k - 1 }

/-- Raise r from now on by 1/n: n = ceil(u / A) at a start, that of the hold after one. -/
def State.beginRise (s : State) (x : Nat) : State :=
  s.onHead x fun h => { h with ramp := .rising, rkNext := min h.rampN (h.rkNext + 1) }

/-- The path has come to rest with its copy unfinished (R150, R27): its feed axis keeps the rest of the copy (R312). -/
def State.pathRest (s : State) (x : Nat) : State :=
  let s := s.onHead x fun h =>
    { h with step := .rest, holding := false, rk := 0, rkNext := 0, restAt := (s.ax (s.feedAx x)).pos, follow := false,
             stopAfter := false }
  let s := if (s.ax (s.feedAx x)).mode = .path then s.keepRest (s.feedAx x) 7 else s
  s.cameToRest x

/-- The line belongs to the copy being placed. -/
def Head.places (h : Head) (p : PlacedLine) : Bool := p.job == h.job && p.idx == h.idx && p.copy == h.pcopy

/-- Line starts placed and not yet taken are withdrawn: their lines are to be placed again; those of a copy that the path has
left start as soon as it goes on, their boundaries being passed. -/
def State.unplace (s : State) (x : Nat) : State :=
  s.onHead x fun h =>
    let fresh := h.placed.filter fun p => !h.redo.any fun r => r.pl.line == p.line && r.pl.copy == p.copy && r.pl.job == p.job
    { h with placed := [], redo := h.redo ++ (fresh.filter fun p => !h.places p).map fun p => ⟨p, [], false⟩,
             nline := match fresh.filter h.places with | p :: _ => p.line | [] => h.nline }

/-- The hold condition of R64; an encoder that the feed axis does not drive cannot be held (R67). -/
def State.holdDue (s : State) (x : Nat) : Bool :=
  let h := s.head x
  !s.allReady x && (h.hmode != 1 || s.cfgB (.head x) F.hs_ENC_DRIVEN) &&
    decide (s.lookahead x * s.pStep x * q22 ≤ holdDist (s.pathU x) (s.cfg (.ax (s.feedAx x)) F.ax_LIM_DEC))

/-- The ramp down to the end of the copy is due (R242) in the stitch at whose start the path time is `p`. -/
def State.endDue (s : State) (x : Nat) (p : Int) : Bool :=
  let h := s.head x
  let u := s.uOf x h.period
  let n := max 1 (ceilDiv (4 * u) (s.pathProf x).acc)
  h.hmode == 0 && !h.follow && decide (((s.endTime x h.total : Int) - p).toNat * u * 2 ≤ u * (n - 1) * 2 ^ 28)

/-- Decide r of the next stitch, which begins at the path time reached. A stop or a fault that comes during a coherent hold ends it
with no HOLD_END, then or later: R66 speaks only of a hold that is released (DESIGN CHOICE). -/
def State.rampSlot (s : State) (x : Nat) : State :=
  let h := s.head x
  let l := s.lane x
  if l.stopping ∧ h.nline < h.total then
    if h.ramp = .falling ∧ !h.holding then s.onHead x fun h => { h with rkNext := h.rk - 1 }
    else (s.onHead x fun h => { h with holding := false }).beginFall x
  else if h.holding then
    if h.rk = 0 ∧ (s.stitch.govLines ≤ s.lookahead x ∨ s.allReady x) ∧ !h.seamMissed then
      ((s.onHead x fun h => { h with holding := false, rkNext := 0 }).raise 6 6 x []).beginRise x
    else s.onHead x fun h => { h with rkNext := h.rk - 1 }
  else if s.holdDue x then
    ((s.onHead x fun h => { h with holding := true, rkNext := h.rk }).raise 6 5 x []).beginFall x
  else if s.endDue x h.ptime then
    s.onHead x fun h => { h with ramp := .creep, rkNext := max 1 (h.rk - 1) }
  else s.onHead x fun h => { h with ramp := if h.rampN ≤ h.rk + 1 then .full else .rising, rkNext := min h.rampN (h.rk + 1) }

/-! ### Follow-ons (R242) -/

/-- Stitches from the start of this one until path time `t` is reached at the present rate `r16`. -/
def Head.stitchesTo (h : Head) (r16 : Nat) (t : Nat) : Nat := ((t : Int) - h.ptime).toNat / (4096 * max 1 r16)

/-- A next PRINT released once the last line of this copy has started acts in time for the place of its line 0: the dispatcher
releases it in the stitch after that start at the earliest, and it acts from the next one on (R59, R60; DEDUCED). -/
def State.releaseInTime (s : State) (x : Nat) : Bool :=
  let h := s.head x
  let r16 := 65536 * h.rk / h.rampN
  h.hmode != 0 || h.stitchesTo r16 (s.endTime x (h.total - 1)) + 2 ≤ h.stitchesTo r16 (s.endTime x h.total)

/-- The next record of the lane is a PRINT that waits for nothing but the release point of this one (R242). -/
def State.nextPrint (s : State) (x : Nat) : Option QItem :=
  let l := s.lane x
  match l.queue with
  | q :: _ =>
    if q.r.typ = tPrint ∧ l.inService ∧ !(l.running.any fun r => r.r.ckpt) ∧ l.ckptWait.isNone ∧ !s.laneDoubt x ∧
        s.printAssetsOk q.r ∧ !s.ev.paused ∧ !s.pathBlocked x tPrint then some q else none
  | [] => none

/-- A follow-on is ready. -/
def State.followReady (s : State) (x : Nat) : Bool :=
  let h := s.head x
  h.typ == tPrint && !h.stopAfter && !(s.lane x).stopping &&
    (if h.pcopy < h.copies then h.bandsReady h.job h.idx (h.pcopy + 1)
     else match s.nextPrint x with
       | some q => h.bandsReady q.job q.idx ((s.recStatus q.job q.idx).copies + 1) && (h.follow || s.releaseInTime x)
       | none => false)

/-- The last line of the copy being placed has not started. -/
def Head.lastToCome (h : Head) : Bool := decide (h.nline < h.total) || h.placed.any fun p => p.last && h.places p

/-- Whether the path runs on: decided while the last line of the copy is still to start; a next PRINT must stay ready until it is
released. -/
def State.followCheck (s : State) (x : Nat) : State :=
  let h := s.head x
  let go : Bool :=
    if h.pcopy < h.copies then !(s.lane x).stopping && (h.follow || (h.lastToCome && s.followReady x))
    else (h.follow || h.lastToCome) && s.followReady x
  s.onHead x fun h => { h with follow := go }

/-- The display list of which the composer has a band to compose, where a buffer of the head is free (R220). -/
def Head.toCompose (h : Head) : Option DispList :=
  let used := (if h.cur.isSome ∧ !h.curRead then 1 else 0) + h.bands.length
  if 2 ≤ used then none else h.dl.find? fun l => !l.done

/-- BAND_COMMIT: the composer commits the next band into a free buffer (R217..R222); while both heads have a band to compose they
take turns (R218). -/
def execBandCommit (head : Fin 2) (s : State) : Host.Outcome State Fault Refusal :=
  let x := head.val
  let h := s.head x
  match h.toCompose with
  | none => .next s
  | some l =>
    if h.hadBand ∧ (s.head (1 - x)).toCompose.isSome then .next s
    else
      let b : Band := { job := l.job, idx := l.idx, copy := l.cnext, num := l.bnext, lines := min 64 (l.lines - 64 * l.bnext),
                        dots := s.composeBand x l, last := decide (l.lines ≤ 64 * (l.bnext + 1)), stitch := s.stitch.n }
      let l' := l.step (s.copiesOf l.job l.idx)
      let late := h.seamMissed ∧ h.bands.isEmpty
      let s := (s.onHead x fun h => { h with bands := h.bands ++ [b], dl := h.dl.map fun k => if k = l then l' else k,
                                             hadBand := true }).onHead (1 - x) fun h => { h with hadBand := false }
      let s := if late then s.commitLate x b else s
      let s := s.checkOverrun x
      .next (if h.step = .run then s.followCheck x else s)

/-- The path's placing goes on with the next copy. -/
def State.rollOver (s : State) (x : Nat) : State :=
  let h := s.head x
  if !h.follow ∨ h.nline < h.total ∨ h.copies ≤ h.pcopy ∨ h.copyLines h.job h.idx (h.pcopy + 1) = 0 then s
  else s.rollTo x (h.pcopy + 1) (s.copyEnd x)

/-! ### The end of a path (R242, R27) -/

/-- A follow-on whose first band the pipeline has begun, and which the path does not run on into, gives the band back: it is
read again when the follow-on starts from rest (R242). -/
def Head.giveBack (h : Head) : Head :=
  match h.cur with
  | some b => if b.num = 0 ∧ h.total ≤ h.line + 1 ∧ ¬(b.job = h.job ∧ b.idx = h.idx ∧ b.copy = h.pcopy) then
      { h with cur := none, bands := b :: h.bands, ready := none, readyFresh := none } else h
  | none => h

/-- The path stands at the end of its copy: the next copy waits for its bands, or the path is free. A stop, or a media-out of
MSB (R287), that waited for the end of the copy comes to rest here. -/
def State.pathDone (s : State) (x : Nat) : State :=
  let s := s.onAx (s.feedAx x) fun a => if a.mode = .path then { a.halt with mode := .rest, tgt := a.pos, remd := 0 } else a
  let s := s.onHead x Head.giveBack
  let h := s.head x
  let more := h.typ = tPrint ∧ h.pcopy < h.copies
  let s := if h.stopAfter ∧ (more ∨ h.lastDue.isNone) then s.beginStop x .stopped else s
  let stops := (s.lane x).stopping
  let s := s.onHead x fun h =>
    { h with midCopy := false, rk := 0, rkNext := 0, holding := false, follow := false,
             stopAfter := h.stopAfter && !stops, pcopy := if more then h.pcopy + 1 else h.pcopy,
             step := if more then (if stops then .rest else .wait) else .idle }
  if stops then s.cameToRest x else s

/-- The feed axis has left the path by a fault: the path is at rest at once (R27). -/
def State.pathBroken (s : State) (x : Nat) : Bool :=
  (s.head x).step = .run && (s.ax (s.feedAx x)).mode != .path

/-- The line starts of this stitch are placed, those of a follow-on copy too (R241, R242); none while r = 0 (R66) or the shank
holds the path. -/
def State.placeSlot (s : State) (x : Nat) (p0 p1 : Int) (r16 : Nat) : State :=
  if s.pathForced x ∨ (s.head x).rk = 0 then s
  else
    let c := (s.head x).pcopy
    let s := (s.placeLines x p0 p1 r16 64).rollOver x
    let t := (s.head x).ptime
    if (s.head x).pcopy ≠ c then s.placeLines x t (t + (p1 - p0)) r16 64 else s

/-- The end of the copy falls in the stitch that begins. -/
def State.endFalls (s : State) (x : Nat) : Bool :=
  let h := s.head x
  if h.hmode = 0 then decide ((s.endTime x h.total : Int) < h.ptime + (4096 * (65536 * h.rkNext / h.rampN) : Nat))
  else (s.linePhase x 0 0 1 h.total).isSome

/-- A next PRINT that is not released when the place of its line 0 comes does not follow: one released in this stitch acts from
the next on (R59, R60). -/
def State.followLost (s : State) (x : Nat) : State :=
  let h := s.head x
  if h.step = .run ∧ h.follow ∧ h.copies ≤ h.pcopy ∧ s.endFalls x then s.onHead x fun h => { h with follow := false } else s

def State.followsLost (s : State) : State := (s.followLost 0).followLost 1

/-- The path slot of a stitch, before the motion slots; lines of MODE 2 are placed after them, by the step events. r is held as `rk`
of its n steps and taken to 16 fraction bits, rounded down, in each stitch; R64 does not say how its 1/n is held (DESIGN CHOICE). -/
def State.runSlot (s : State) (x : Nat) : State :=
  if s.pathBroken x then s.pathRest x
  else
    let s := s.onHead x fun h => { h with rk := h.rkNext }
    -- a band committed after its seam takes effect at the first boundary after its commit (R222)
    let s := match (s.head x).seamMissed, s.seamBand x with
      | true, some b =>
        ((s.onHead x fun h => { h with cur := some b, curRead := decide (b.lines ≤ 1), bands := h.bands.drop 1, seamMissed := false }).freshVh x).stage1 x
          (b.lineDots 0)
      | _, _ => s
    let s := s.followCheck x
    let h := s.head x
    let r16 := 65536 * h.rk / h.rampN
    let p0 := h.ptime
    let stop : Int := s.endTime x h.total
    let p1 : Int := if h.hmode = 0 ∧ !(h.follow ∧ h.pcopy < h.copies) then min stop (p0 + (4096 * r16 : Nat)) else p0 + (4096 * r16 : Nat)
    let s := if h.hmode = 2 then s else s.placeSlot x p0 p1 r16
    let s := s.onHead x fun h => { h with ptime := h.ptime + (p1 - p0) }
    let h := s.head x
    let atEnd := if h.hmode = 0 then decide (stop ≤ p1 ∧ h.total ≤ h.nline) else
      decide (h.total ≤ h.nline ∧ 0 < h.total ∧ (s.ax (s.feedAx x)).line = h.origin + (s.boundary x h.total : Int) ∧
        (s.ax (s.feedAx x)).vNext = 0)
    if atEnd ∧ h.rk = 0 ∧ (s.ax (s.feedAx x)).events.isEmpty then s.pathDone x
    else if atEnd then s.onHead x fun h => { h with rkNext := 0 }
    else
      let s := s.rampSlot x
      if (s.lane x).stopping ∧ (s.head x).rk = 0 then s.pathRest x else s

/-- HOLD_SHORT: the head lane faults, and no later line of the copy is printed (R67). -/
def State.holdShort (s : State) (x : Nat) : State :=
  ((s.onHead x fun h => { h with cutOff := true }).raise 6 7 x []).faultOne x

/-- The next line of a path that cannot be held is not ready at its load point (R67). -/
def State.shortSlot (s : State) (x : Nat) : State :=
  let h := s.head x
  if h.step = .run ∧ h.hmode = 1 ∧ !s.cfgB (.head x) F.hs_ENC_DRIVEN ∧ h.nline < h.total ∧
      (s.readyLines x ≤ h.nline ∨ h.seamMissed) ∧ (s.linePhase x 0 0 1 h.nline).isSome ∧ !(s.lane x).stopping
  then s.holdShort x else s

/-- The line to start first after a stop goes through the pipeline afresh, under what is in force now (R227, R257). -/
def State.restage (s : State) (x : Nat) : State :=
  let h := s.head x
  match h.redo with
  | r :: _ => if r.done then s.stageLevels x r.levels else if h.ready.isSome then s.stageLevels x h.nextLevels else s
  | [] => if h.ready.isSome then s.stageLevels x h.nextLevels else s

/-- The path goes on in the frame of its axis: a clamp by the descriptor in force now lengthens the period (R227, R236) and keeps the
place on the copy; an axis moved by its own lane meanwhile takes the copy along (R27). -/
def State.reframe (s : State) (x : Nat) : State :=
  let h := s.head x
  let p := if h.hmode = 0 then max h.period (s.minPeriod x) else h.period
  s.onHead x fun h => { h with period := p, ptime := h.ptime * (p : Int) / (h.period : Int),
                               origin := h.origin + ((s.ax (s.feedAx x)).pos - h.restAt) * q22 }

/-- Lines that wait to be started again are placed at once, their boundaries being passed (R245). -/
def State.redoSlot (s : State) (x : Nat) : State :=
  let h := s.head x
  if h.redo ≠ [] ∧ h.placed = [] ∧ h.vhen ∧ h.settle = 0 ∧ !s.pathForced x ∧ (s.lane x).state = .running ∧ !(s.lane x).stopping ∧
      (h.step = .idle ∨ h.step = .wait ∨ (h.step = .run ∧ h.rk ≠ 0)) then
    s.onHead x fun h => { h with placed := h.redo.map fun r => { r.pl with phase := 0 } }
  else s

/-- A path asked to go on after a stop: VH first and its feed axis at rest, then r rises (R238, R66). -/
def State.resumeSlot (s : State) (x : Nat) : State :=
  let h := s.head x
  if h.settle ≠ 0 ∨ (s.ax (s.feedAx x)).mode ≠ .rest then s
  else if s.feedBlocked x then (s.onHead x fun h => { h with resuming := false }).feedLimited x (s.ax (s.feedAx x)).tgt
  else
    let s := (((s.freshVh x).restage x).reframe x).axisToPath x
    let h := s.head x
    let k := if h.hmode = 0 then max 1 (ceilDiv (4 * s.uOf x h.period) (s.pathProf x).acc) else h.rampN
    s.onHead x fun h => { h with step := .run, resuming := false, ramp := .rising, rk := 0, rkNext := 1, rampN := k, placed := [],
                                 trail := [(s.nextPh, (s.ax (s.feedAx x)).pos)] }

/-! ### The feed axis on the path (R242, R243) -/

/-- The pieces of line of the feed axis over the next stitch: phase, length, start, movement; and the head's new path
velocity and the axis's acceleration. -/
def State.pathPieces (s : State) (x : Nat) (r16 : Nat) : List (Nat × Nat × Int × Nat) × Nat × Int :=
  let h := s.head x
  let a := s.ax (s.feedAx x)
  if h.hmode = 0 then
    let stop : Int := s.endTime x h.total
    let p1 : Int := if h.follow then h.ptime + (4096 * r16 : Nat) else min (max stop h.ptime) (h.ptime + (4096 * r16 : Nat))
    let at1 : Int := h.origin + p1 * (s.feedSum x * s.fscale x : Nat) / (2 ^ 24 * s.nph x * h.period : Nat)
    let len := if r16 = 0 then 4096 else min 4096 (ceilDiv (p1 - h.ptime).toNat r16)
    let len := max 1 len
    let mv := (at1 - a.line).toNat
    ((0, len, a.line, mv) :: (if len < 4096 then [(len, 4096 - len, a.line + mv, 0)] else []), h.pvel, a.a)
  else
    let full : Nat := 2 ^ 28
    let pf := (h.ptime % (full : Int)).toNat
    let adv := 4096 * r16
    let goal := s.pathEnd x
    let vcap := s.vCap (s.feedAx x)
    let rem (line : Int) : Nat := (goal - line).toNat
    let first := if pf = 0 then nextVel a.prof vcap (rem a.line) h.pvel a.a else (h.pvel, a.a)
    if pf + adv ≤ full then
      let mv := min (rem a.line) (first.1 * adv / full)
      ([(0, 4096, a.line, mv)], first.1, first.2)
    else
      let f := min 4096 (ceilDiv (full - pf) (max 1 r16))
      let m1 := min (rem a.line) (first.1 * (full - pf) / full)
      let second := nextVel a.prof vcap (rem (a.line + m1)) first.1 first.2
      let m2 := min (rem (a.line + m1)) (second.1 * (pf + adv - full) / full)
      ([(0, f, a.line, m1), (f, 4096 - f, a.line + m1, m2)], second.1, second.2)

/-- The slot of a feed axis that follows its path: velocity in force, events of the next stitch. -/
def State.pathAxisSlot (s : State) (x : Nat) : State :=
  let n := s.feedAx x
  let h := s.head x
  let s := s.onAx n fun a => { a with vel := a.vNext, neg := if a.vNext = 0 then a.neg else a.negNext,
                                      restN := 0 }
  let r16 := 65536 * h.rkNext / h.rampN
  let p := s.pathPieces x r16
  let mv := p.1.foldl (fun m g => m + g.2.2.2) 0
  let s := s.onHead x fun h => { h with pvel := p.2.1 }
  let s := s.onAx n fun a =>
    let a := { a with vNext := mv, a := p.2.2, vclamp := s.vCap n < a.prof.vmax }
    a.place s.nextPh (s.iAx n) (s.cfg (.ax n) F.ax_STRIDE_MAX) (max a.tgt ((a.line + mv) / q22)) mv (p.1.map fun g => (g.1, g.2.1, (g.2.2.2 : Int)))
  if h.hmode ≠ 2 then s
  else
    let placedNow := (s.ax n).events.filter fun e => s.nextPh ≤ e.1
    let s := s.onHead x fun h => { h with trail := trailFrom (s.stitch.n * 4096) (h.trail ++ placedNow) }
    if h.step = .run then s.placeSlot x 0 0 1 else s

/-! ### A line starts (R231..R237, R245, R251) -/

/-- The PWM cycle in which an event at a phase of the present stitch takes effect: the first whose accumulated phase, at its
end, is `ph` or more (R43). -/
def State.cycleOf (s : State) (ph : Nat) : Nat :=
  ceilDiv (s.stitch.time * 16 + phaseTime s.stitch.period s.stitch.x ph) (2 ^ 20)

/-- The seam and stage 1 of the next line after line `n` of the band in force has started (R221, R257). With the last line of a copy
the next copy is in force for the lookahead too: none of its lines loads yet (R63). -/
def State.afterStart (s : State) (x n : Nat) : State :=
  let h := s.head x
  match h.cur with
  | none => s
  | some c =>
    if n + 1 < c.num * 64 + c.lines then
      (s.stage1 x (c.lineDots (n + 1))).onHead x fun h => { h with curRead := decide (n + 2 = c.num * 64 + c.lines) }
    else if c.last then
      let s := s.onHead x fun h => { h with ready := none, readyFresh := none, cur := none, lineOn := false,
                                            dl := h.dl.filter fun l => !(l.job == c.job && l.idx == c.idx && l.copy == c.copy) }
      match h.step == .run && (h.follow || h.pcopy != c.copy), h.bands with
      | true, b :: rest =>
        (s.onHead x fun h => { h with cur := some b, curRead := decide (b.lines ≤ 1), bands := rest }).stage1 x (b.lineDots 0)
      | _, _ => s
    else match s.seamBand x with
      | some b =>
        (s.onHead x fun h => { h with cur := some b, curRead := decide (b.lines ≤ 1), bands := h.bands.drop 1 }).stage1 x (b.lineDots 0)
      | none =>
        let s := s.onHead x fun h => { h with seamMissed := true, ready := none, readyFresh := none, curRead := true }
        match h.bands with
        | b :: _ => s.commitLate x b
        | [] => s

/-- What the pipeline makes ready after a line has started: after one started again, the next of those or the line it had ready
before; else the line after it. -/
def State.afterLine (s : State) (x n : Nat) : State :=
  match (s.head x).redo with
  | [] => s.afterStart x n
  | r :: rest =>
    let s := s.onHead x fun h => { h with redo := rest }
    if !r.done then s.afterStart x n
    else match rest.find? (·.done), (s.head x).redoNext with
      | some q, _ => s.stageLevels x q.levels
      | none, some lv => (s.onHead x fun h => { h with redoNext := none }).stageLevels x lv
      | none, none => s.onHead x fun h => { h with ready := none, readyFresh := none }

/-- The record of a started line is the one that runs on the lane. -/
def State.runsRecord (s : State) (x : Nat) (p : PlacedLine) : Bool :=
  match (s.lane x).running with | some q => q.job == p.job && q.idx == p.idx | none => false

/-- LINE_START: the placed line loads, latches and strobes; VH is read for the next line. -/
def execLineStart (head : Fin 2) (vh : BitVec 9) (s : State) : Host.Outcome State Fault Refusal :=
  let x := head.val
  let h := s.head x
  match h.placed with
  | [] => .next s
  | p :: rest =>
    let n := p.line
    let s := s.onHead x fun h => { h with placed := rest }
    match h.ready, h.readyFresh with
    | some a, some f =>
      let d := s.desc x
      let want := s.cycleOf p.phase
      let least := match h.lastStart with | some t => t + d.nsl * d.tSl | none => 0
      let t := max want least
      let gap := match h.lastStart with | some t0 => decide (200 * s.cfg (.head x) F.en_HIST_GAP < t - t0) | none => false
      let tint := match h.lastStart with
        | some t0 => if 0 < n then t - t0 else h.period * s.stitch.period / 2 ^ 20
        | none => h.period * s.stitch.period / 2 ^ 20
      let out := if gap then f else a
      let w := d.limitWidth out.wu tint
      let s := s.onHead x fun h =>
        { h with copy := p.copy, line := n, lineOn := true, lines := h.lines + 1, late := if p.late || want < t then h.late + 1 else h.late,
                 lateMax := min 0x3FFFF (max h.lateMax (t - want)),
                 minInt := match h.lastStart with | some t0 => min h.minInt (t - t0) | none => h.minInt,
                 lastStart := some t, wclamp := decide (w < out.wu),
                 reloc := h.reloc + BitVec.ofNat 36 out.reloc, dropped := h.dropped + BitVec.ofNat 36 out.dropped,
                 clipped := h.clipped + BitVec.ofNat 36 out.clipped, vhRead := vh.toNat,
                 hist := h.nextLevels :: (if gap then [] else h.hist.take 3), fired := ⟨p, t, h.nextLevels, out, w, []⟩ :: h.fired.take 1,
                 lastDue := if p.last then some ⟨p.job, p.idx, p.copy, p.copies⟩ else h.lastDue }
      let s := if s.vhSag x then s.groupFrom x 0 else s
      let s := (s.afterLine x n).checkOverrun x
      .next (if p.last && h.typ == tPrint && p.copy == p.copies && s.runsRecord x p then
          match (s.lane x).queue with
          | nq :: _ => if nq.r.typ = tPrint then s.stepAside x else s
          | [] => s
        else s)
    | _, _ => .next ((s.unplace x).holdShort x)

/-! ### The last slice (R141, R169, R287) -/

/-- No line is loading or strobing on head `x`, and none is placed (R153). -/
def State.headQuiet (s : State) (x : Nat) : Bool :=
  let h := s.head x
  let d := s.desc x
  h.placed.isEmpty && (match h.lastStart with | some t => decide (t + d.nsl * d.tSl + d.tShift ≤ s.stitch.cycles) | none => true)

/-- The item of lane `x` for a record, running or stepped aside. -/
def Lane.itemOf (l : Lane) (job : Word) (idx : Nat) : Option QItem :=
  (l.running.toList ++ l.tail).find? fun q => q.job == job && q.idx == idx

/-- A PRINT or PATTERN has ended: its record, what core 1 laid out for it; MSB's stop follows. -/
def State.printEnded (s : State) (x : Nat) (q : QItem) : State :=
  let s := (s.endRecord x q).dropPrint x q.job q.idx
  let s := s.onHead x fun h => if h.job = q.job ∧ h.idx = q.idx then { h with typ := 0 } else h
  if (s.head x).stopAfter then
    let s := s.onHead x fun h => { h with stopAfter := false }
    if (s.head x).step = .run then s.beginStop x .stopped else s.stoppedWith x
  else s

/-- The path takes up again after a stop (R66, R238, R287): from the line it stood at, or from the start of the copy that was
waiting. -/
def State.contPath (s : State) (x : Nat) : State :=
  if s.pathBlocked x (s.head x).typ then s.stoppedWith x
  else (s.vhenUp x).onHead x fun h =>
    if h.midCopy then { h with resuming := true } else if h.step = .idle ∧ h.redo ≠ [] then h else { h with step := .wait }

end Sys2Proof.Machine
end

