-- ==== Sys2Proof/Machine/Scan.lean ====
section
/-!
DEFINITION. The resistance scan (R252..R256) and the adoption of its results (R271, R272).
-/

namespace Sys2Proof.Machine

/-- The dot at position `i` of the scan, lane by lane and from shift index C − 1 down (R231, R253); none where the position
carries no dot. -/
def Desc.scanDot (d : Desc) (i : Nat) : Option Nat :=
  let c := max 1 d.c
  let lane := i / c
  let pos := if d.dir = 0 then i % c else c - 1 - i % c
  let k := if d.map = 0 then lane * c + pos else pos * 2 ^ d.lanes + lane
  if k < d.dots ∧ lane < 2 ^ d.lanes then some k else none

/-- The first position from `i` on that carries a dot, among the next `fuel`. -/
def Desc.scanFrom (d : Desc) : Nat → Nat → Option Nat
  | 0, _ => none
  | fuel + 1, i => if (d.scanDot i).isSome then some i else d.scanFrom fuel (i + 1)

/-- Positions of a scan. -/
def Desc.scanLen (d : Desc) : Nat := 2 ^ d.lanes * d.c

/-- The position to measure from `i` on. -/
def Desc.scanNext (d : Desc) (i : Nat) : Option Nat := d.scanFrom (d.scanLen - i) i

/-! ### Classes (R272) -/

/-- CLASS, TSCALE and TRIM from a measured resistance. -/
def State.classOf (s : State) (x rmeas : Nat) : Nat × Nat × Nat :=
  let r := (s.desc x).rdot
  let near (k : Nat) : Int := roundDiv (k * rmeas : Nat) (r : Nat)
  let clamp (v : Int) : Nat := (max 0 (min 255 v)).toNat
  if r = 0 then (0, 0, 0x80)
  else if rmeas * 256 < s.cfg (.head x) F.en_SHORT_R * r then (3, 0, 0x80)
  else if s.cfg (.head x) F.en_OPEN_R * r < rmeas * 16 then (2, 0, 0x80)
  else if s.cfg (.head x) F.en_HIGH_R * r < rmeas * 128 then (1, 1, clamp (near 256 - 256))
  else (0, 0, clamp (near 512 - 384))

/-- Dots of a head whose last measurement falls in a class. -/
def State.foundIn (s : State) (x cls : Nat) : Nat :=
  min 4095 ((List.range (s.desc x).dots).filter fun d => (s.classOf x (s.cfg (.dot x d) F.dot_RMEAS)).1 == cls).length

/-- One dot takes the class and trim of its measurement, in force and in shadow where they change; no port's pending set holds a
changed word longer. -/
def State.adoptDot (s : State) (x d : Nat) : State :=
  if s.cfgB (.dot x d) F.dot_LOCK then s
  else
    let k := s.classOf x (s.cfg (.dot x d) F.dot_RMEAS)
    if s.dotClass x d = k.1 ∧ s.cfg (.dot x d) F.dot_TSCALE = k.2.1 ∧ s.cfg (.dot x d) F.dot_TRIM = k.2.2 then s
    else
      let s := ((s.putCfg (.dot x d) F.dot_CLASS k.1).putCfg (.dot x d) F.dot_TSCALE k.2.1).putCfg (.dot x d) F.dot_TRIM k.2.2
      { s with ports := s.ports.map fun p => { p with pend := p.pend.filter (· != (Obj.dot x d).base) } }

/-- DOT_OPEN, DOT_SHORT or DOT_HIGH for the dots that have entered a class. -/
def State.raiseDots (s : State) (x code cls : Nat) (old : List Nat) : State :=
  let new := (List.range (s.desc x).dots).filter fun d => s.dotClass x d == cls && old.getD d 0 != cls
  match new with
  | [] => s
  | d :: _ => s.raise 7 code x [field 25 13 d ||| field 12 0 new.length]

/-- The results of the scan are adopted. -/
def State.adoptScan (s : State) (x : Nat) : State :=
  let dots := (s.desc x).dots
  let old := (List.range dots).map (s.dotClass x)
  let s := (List.range dots).foldl (fun (s : State) d => s.adoptDot x d) s
  ((s.raiseDots x 3 2 old).raiseDots x 4 3 old).raiseDots x 5 1 old

/-! ### Course of a scan (R256) -/

/-- The scan ends with SSTATE `st`: SCAN_DONE. -/
def State.scanEnd (s : State) (x st : Nat) : State :=
  let h := s.head x
  (s.onHead x fun h => { h with sstate := st, retryDot := false, scanVh := if h.vhNum = 0 then 0 else h.vhSum / h.vhNum }).raise 7 2 x
    [field 35 32 st ||| field 31 30 h.skind ||| field 12 0 h.measured]

/-- A scan starts from the first dot. -/
def State.scanStart (s : State) (x kind : Nat) (apply : Bool) : State :=
  let p := ((s.desc x).scanNext 0).getD 0
  (s.vhenUp x).onHead x fun h =>
    { h with sstate := 1, skind := kind, scanPos := p, measured := 0, retries := 0, retryDot := false, scanApply := apply,
             scanTemp := s.headTemp x, scanBand := s.bandNow x, vhSum := 0, vhNum := 0 }

/-- A scan that was stopped goes on at NEXT after a lane load. -/
def State.scanResume (s : State) (x : Nat) : State := (s.vhenUp x).onHead x fun h => { h with sstate := 1 }

/-- A background scan in progress or paused ends ABANDONED (R252, R256). -/
def State.scanAbandon (s : State) (x : Nat) : State :=
  let h := s.head x
  if h.skind = 0 ∧ (h.sstate = 1 ∨ h.sstate = 2) then s.scanEnd x 5 else s

/-- The background scan waits for the lane; the SCAN record comes to rest: both at a dot boundary. -/
def State.scanBoundary (s : State) (x : Nat) : State :=
  let h := s.head x
  let l := s.lane x
  if h.sstate ≠ 1 then s
  else if h.skind = 0 ∧ !l.queue.isEmpty then s.onHead x fun h => { h with sstate := 2 }
  else if h.skind ≠ 2 ∧ l.stopping then (s.onHead x fun h => { h with sstate := 2 }).cameToRest x
  else s

/-- The scan ends DONE: stamp, counts, adoption, the end of its record or check. -/
def State.scanDone (s : State) (x : Nat) : State :=
  let h := s.head x
  let s := s.onHead x fun h => { h with scanStamp := s.count, scanOpen := s.foundIn x 2, scanShort := s.foundIn x 3, scanHigh := s.foundIn x 1 }
  let adopts := h.skind = 2 ∨ (h.skind = 1 ∧ h.scanApply) ∨ (h.skind = 0 ∧ s.cfgB (.head x) F.hsc_AUTO_APPLY)
  let s := s.scanEnd x 3
  let s := if adopts then s.adoptScan x else s
  if h.skind = 1 then (s.endRunning x).onHead x fun h => { h with step := .idle }
  else if h.skind = 2 then s.readmitPass x else s

/-- The scan ends FAILED (R255): the lane faults, or the check of a RE_ADMIT has failed. -/
def State.scanFailed (s : State) (x : Nat) : State :=
  let h := s.head x
  let s := s.scanEnd x 4
  if h.skind = 2 then s.readmitFail x else (s.faultOne x).cameToRest x

/-- VH_SETTLE_END with a VH reading (R239): in range, what waits goes on; else a second wait, then the lane faults, a scan ending
FAILED with it. -/
def execVhSettleEnd (head : Fin 2) (vh : BitVec 9) (s : State) : Host.Outcome State Fault Refusal :=
  let h := s.head head
  let ok := (s.desc head).vhOk vh.toNat
  let s := if h.settle = 0 then s else s.onHead head fun h => { h with vhRead := vh.toNat }
  if h.settle = 0 then .next s
  else if ok then
    .next (s.onHead head fun h => { h with settle := 0, vhTr := if h.settle = 2 then satInc 4095 h.vhTr else h.vhTr })
  else if h.settle = 1 then .next (s.onHead head fun h => { h with settle := 2 })
  else
    let s := s.onHead head fun h => { h with settle := 0, vhen := false }
    .next (if h.sstate = 1 then s.scanFailed head else s.faultOne head)

/-- RMEAS of a dot, in force and in shadow (R271). -/
def State.setRmeas (s : State) (x d r : Nat) : State := s.putCfg (.dot x d) F.dot_RMEAS r

/-- SCAN_DOT: one slot has measured its dot, or found its measurement invalid (R254, R255). Its end is a dot boundary. -/
def execScanDot (head : Fin 2) (valid : Bool) (rmeas : BitVec 20) (vh : BitVec 9) (s : State) :
    Host.Outcome State Fault Refusal :=
  let x := head.val
  let h := s.head x
  let d := s.desc x
  match h.sstate, d.scanDot h.scanPos with
  | 1, some dot =>
    if h.settle ≠ 0 ∨ !h.vhen then .next s
    else
      let s := s.onHead x fun h => { h with vhRead := vh.toNat, vhSum := h.vhSum + vh.toNat, vhNum := h.vhNum + 1 }
      if valid && d.vhOk vh.toNat then
        let s := (s.setRmeas x dot rmeas.toNat).onHead x fun h =>
          { h with measured := h.measured + 1, retries := if h.retryDot then satInc 4095 h.retries else h.retries, retryDot := false }
        match d.scanNext (h.scanPos + 1) with
        | some p => .next ((s.onHead x fun h => { h with scanPos := p }).scanBoundary x)
        | none => .next (s.scanDone x)
      else if h.retryDot then .next (s.scanFailed x)
      else .next ((s.onHead x fun h => { h with retryDot := true }).scanBoundary x)
  | _, _ => .next s

/-- BACKGROUND_SCAN_START: AUTO_MIN minutes have passed since STAMP or start-up (R256). -/
def execBackgroundScanStart (head : Fin 2) (s : State) : Host.Outcome State Fault Refusal :=
  let x := head.val
  let h := s.head x
  if (s.lane x).state = .idle ∧ (at' s.power.doms (8 + x)).st = .run ∧ s.cfg (.head x) F.hsc_AUTO_MIN ≠ 0 ∧ h.sstate ≠ 1 ∧
      !(h.sstate = 2 && h.skind = 0) ∧ h.step = .idle ∧ 1 ≤ (s.desc x).dots
  then .next (s.scanStart x 0 false)
  else .next s

/-- A SCAN record is released. -/
def State.startScan (s : State) (x : Nat) (q : QItem) : State :=
  (s.scanStart x 1 (bit (q.r.w 1) 0)).onHead x fun h => { h with step := .scan }

/-- The scan at a stitch boundary: a scan that waits for VH stops at once; a paused background scan goes on when its lane is
idle, in the same temperature band, or starts again. -/
def State.scanSlot (s : State) (x : Nat) : State :=
  let h := s.head x
  if h.sstate = 1 ∧ (h.settle ≠ 0 ∨ !h.vhen) then s.scanBoundary x
  else if h.sstate = 2 ∧ h.skind = 0 ∧ (s.lane x).state = .idle ∧ h.step = .idle then
    if s.bandNow x = h.scanBand then s.scanResume x else s.scanStart x 0 false
  else s

end Sys2Proof.Machine
end

