-- ==== Sys2Proof/Machine/Clicker.lean ====
section
/-!
DEFINITION. The clicker (R296..R299): home switch, the steps of a CUT, jams and their second attempt.
-/

namespace Sys2Proof.Machine

/-! ### Parts -/

def State.clk (s : State) (x : Nat) (f : Field) : Nat := s.cfg (.path x) f

/-- The home switch reads home (R296). -/
def State.atHome (s : State) (x : Nat) : Bool :=
  let a := s.ax (s.clkAx x)
  let active := if s.clk x F.clk_HOME_SRC = 0 then a.lim0 else if s.clk x F.clk_HOME_SRC = 1 then a.lim1
                else (at' s.snss (s.clk x F.clk_HOME_SNS)).active
  active != (s.clk x F.clk_HOME_POL == 1)

/-- The limit input that is the home switch: its limit action is suspended while a CUT runs (R296, R317). -/
def State.homeInput (s : State) (x : Nat) : Option Nat :=
  if s.clk x F.clk_HOME_SRC < 2 then some (s.clk x F.clk_HOME_SRC) else none

def State.rotary (s : State) (x : Nat) : Bool := s.clk x F.clk_CTYPE == 1

/-- Stroke of the CUT in progress. -/
def State.strokeLen (s : State) (x : Nat) : Nat :=
  if s.rotary x || !(s.head x).cutPart then s.clk x F.clk_FULL_STROKE else s.clk x F.clk_PART_STROKE

/-- A step of the clicker. -/
def HStep.cutting : HStep → Bool
  | .cutHome | .cutFeed | .stroke | .ret | .jamHalt | .recover | .backoff => true
  | _ => false

/-- A bound axis of path `x` moves to `tgt`; against an active guarded end it does not start and the lane stops (R316). -/
def State.pathMove (s : State) (x n : Nat) (tgt : Int) (p : Prof) (free : Option Nat) : State :=
  let d := tgt - (s.ax n).pos
  if d ≠ 0 ∧ s.blocked n (d < 0) free then
    ((s.onAx n fun a => { a with tgt := tgt, prof := p }).keepRest n 2).stoppedWith x
  else s.axStart n .move tgt p

/-- A bound axis at rest with nothing left to go. -/
def State.axSettle (s : State) (n : Nat) : State := s.onAx n fun a => { a.halt with mode := .rest, tgt := a.pos, remd := 0, stop := none }

/-- A bound axis is brought to rest at LIM_DEC where it moves. -/
def State.axBrake (s : State) (n : Nat) : State :=
  s.onAx n fun a => if a.mode = .move ∧ a.stop.isNone then { a with stop := some 0, limDec := s.cfg (.ax n) F.ax_LIM_DEC } else a

/-! ### The steps of a CUT (R298) -/

/-- The clicker moves `d` microsteps with profile slot `prof`. -/
def State.clkMove (s : State) (x : Nat) (step : HStep) (d : Int) (prof : Nat) : State :=
  let n := s.clkAx x
  (s.onHead x fun h => { h with step := step }).pathMove x n ((s.ax n).pos + d) (s.profile n prof) (s.homeInput x)

/-- The back-off of R299: toward home, reverse for either type. -/
def State.backOff (s : State) (x : Nat) (step : HStep) : State :=
  s.clkMove x step (-((s.strokeLen x + s.clk x F.clk_RETURN_MAX : Nat) : Int)) (s.clk x F.clk_PROF_RET)

/-- Step 3: the stroke, or the one move of a rotary cutter. -/
def State.strokeBegin (s : State) (x : Nat) : State :=
  let far : Int := ((s.strokeLen x + s.clk x F.clk_RETURN_MAX : Nat) : Int)
  let s := s.onHead x fun h => { h with cutFrom := (s.ax (s.clkAx x)).pos, left := !s.atHome x, cstate := 1 }
  if s.rotary x then s.clkMove x .ret (if (s.head x).cutPart then -far else far) (s.clk x F.clk_PROF_CUT)
  else s.clkMove x .stroke (s.strokeLen x) (s.clk x F.clk_PROF_CUT)

/-- The return move of a guillotine. -/
def State.returnBegin (s : State) (x : Nat) : State :=
  (s.onHead x fun h => { h with cstate := 2 }).clkMove x .ret (-((s.strokeLen x + s.clk x F.clk_RETURN_MAX : Nat) : Int))
    (s.clk x F.clk_PROF_RET)

/-- Step 2: the feed moves to TEND + COFS where that lies ahead. -/
def State.cutFeed (s : State) (x : Nat) : State :=
  let h := s.head x
  let to_ := h.tend + s.cfgS (.path x) F.cal_COFS
  if h.tendValid ∧ s.feedBound x ∧ (s.ax (s.feedAx x)).pos < to_ then
    (s.onHead x fun h => { h with step := .cutFeed }).pathMove x (s.feedAx x) to_ (s.pathProf x) none
  else s.strokeBegin x

/-- Step 1. -/
def State.cutBegin (s : State) (x : Nat) (part : Bool) : State :=
  let s := s.onHead x fun h => { h with cutTry := 1, cutPart := part, noLeave := 0 }
  if s.atHome x then s.cutFeed x else s.backOff x .cutHome

/-- A CUT record is released. -/
def State.startCut (s : State) (x : Nat) (q : QItem) : State :=
  if !s.cfgB (.head x) F.hb_CLK_EN || s.cfg (.ax (s.clkAx x)) F.ax_KIND != 1 then s.heldFault x q
  else if (s.head x).step = .run then s.onHead x fun h => { h with later := some (q.job, q.idx) }
  else (s.onHead x fun h => { h with job := q.job, idx := q.idx, typ := tCut }).cutBegin x (bits (q.r.w 1) 35 32 = 1)

/-- Step 4: the stroke is complete; evidence for the gate of the CUT (R300), and its record ends. -/
def State.cutDone (s : State) (x : Nat) : State :=
  let n := s.clkAx x
  let corr := (s.ax n).homeCorr
  let s := s.axSettle n
  let s := (s.shiftPos n (-(s.ax n).pos)).onAx n fun a => { a with homeCorr := corr }
  let s := s.onHead x fun h =>
    { h with step := .idle, typ := 0, cstate := 0, cuts := h.cuts + 1, lastCut := s.count, tendValid := false, swBroken := false,
             jamTr := if h.cutTry = 2 then satInc 4095 h.jamTr else h.jamTr }
  match (s.lane x).running with
  | none => s
  | some q =>
    let s := match s.gate? q.job q.idx with
      | some g => if g.source = 4 ∧ s.stitch.n ≤ g.windowEnd.getD s.stitch.n then s.gateEvidence g 0 else s
      | none => s
    if (s.lane x).stopping ∧ q.r.gate then s.cameToRest x
    else
      let s := s.endRecord x q
      if (s.lane x).stopping then s.cameToRest x else s

/-! ### Jams (R299) -/

/-- A lasting jam. -/
def State.jamLasting (s : State) (x cause : Nat) : State :=
  let n := s.clkAx x
  let s := s.onHead x fun h => { h with cstate := 4, swBroken := h.swBroken || (cause == 2 && h.noLeave == 2) }
  let s := s.raise 7 8 x [field 3 0 n ||| field 7 4 cause]
  let s := s.laneFault (n + 2)
  if (s.ax n).mode = .rest then (s.faultOne x).cameToRest x else s.faultOne x

/-- A jam: the second attempt after the first, else lasting; so is a failed back-off. -/
def State.jam (s : State) (x cause : Nat) : State :=
  let n := s.clkAx x
  let s := s.onHead x fun h => { h with noLeave := if cause = 2 then h.noLeave + 1 else h.noLeave }
  if (s.head x).cutTry = 2 ∨ cause = 4 then s.jamLasting x cause
  else
    let s := s.onHead x fun h => { h with cutTry := 2, cstate := 3 }
    if (s.ax n).mode = .rest then s.onHead x fun h => { h with step := .recover }
    else (s.axBrake n).onHead x fun h => { h with step := .jamHalt }

/-- CLICKER_RECOVER: RECOVER has passed; the back-off, then the stroke once more. -/
def execClickerRecover (head : Fin 2) (s : State) : Host.Outcome State Fault Refusal :=
  let x := head.val
  if (s.head x).step = .recover ∧ (s.lane x).state = .running ∧ !(s.lane x).stopping then
    .next (if s.atHome x then s.strokeBegin x else s.backOff x .backoff)
  else .next s

/-- The home switch of path `x` has changed (R297, R298). -/
def State.homeSwitch (s : State) (x : Nat) : State :=
  let h := s.head x
  if s.atHome x then
    let s := s.onHead x fun h => { h with cstate := if h.cstate = 5 then 0 else h.cstate }
    match h.step with
    | .cutHome => (s.axSettle (s.clkAx x)).cutFeed x
    | .backoff => (s.axSettle (s.clkAx x)).strokeBegin x
    | .ret => if h.left then s.cutDone x else s
    | _ => s
  else s.onHead x fun h => { h with left := h.left || h.step = .stroke || h.step = .ret }

/-- The paths whose home switch is this input: limit input `i` of axis `n`. -/
def State.limitSwitch (s : State) (n i : Nat) : State :=
  [0, 1].foldl (fun (s : State) x =>
    if s.cfgB (.head x) F.hb_CLK_EN && s.clkAx x == n && s.clk x F.clk_HOME_SRC == i then s.homeSwitch x else s) s

/-- The paths whose home switch is sensor input `k`. -/
def State.sensorSwitch (s : State) (k : Nat) : State :=
  [0, 1].foldl (fun (s : State) x =>
    if s.cfgB (.head x) F.hb_CLK_EN && s.clk x F.clk_HOME_SRC == 2 && s.clk x F.clk_HOME_SNS == k then s.homeSwitch x else s) s

/-- An event of the clicker axis has been issued: the switch still reads home LEAVE_MAX into the stroke. -/
def State.clickStep (s : State) (x : Nat) : State :=
  let h := s.head x
  let gone := ((s.ax (s.clkAx x)).pos - h.cutFrom).natAbs
  if (h.step = .stroke ∨ (h.step = .ret ∧ s.rotary x)) ∧ !h.left ∧ s.clk x F.clk_LEAVE_MAX ≤ gone ∧ !(s.lane x).stopping then s.jam x 2
  else s

/-- The clicker axis has come to rest in a step of a CUT. -/
def State.clickRest (s : State) (x : Nat) : State :=
  let n := s.clkAx x
  let s := s.axSettle n
  match (s.head x).step with
  | .cutHome => if s.atHome x then s.cutFeed x else s.jam x 4
  | .backoff => if s.atHome x then s.strokeBegin x else s.jam x 4
  | .stroke => s.returnBegin x
  | .ret => s.jam x (if (s.head x).left then 3 else 2)
  | .jamHalt => s.onHead x fun h => { h with step := .recover }
  | _ => s

end Sys2Proof.Machine
end

