-- ==== Sys2Proof/Machine/Feed.lean ====
section
/-!
DEFINITION. Feeds and searches (R287..R289, R295), media sensors (R283..R286), general sensor inputs (R290..R292), and what
a head lane does when a record is released on it, stopped and continued.
-/

namespace Sys2Proof.Machine

/-! ### Searches (R288, R289) -/

def State.onMs (s : State) (n : Nat) (f : Ms → Ms) : State := { s with mss := upd s.mss n f }
def State.msa (s : State) (x : Nat) : Nat := s.cfg (.head x) F.hb_MSA

/-- The feed runs forward with FPROF until a condition stops it. -/
def State.feedOn (s : State) (x : Nat) : State :=
  let n := s.feedAx x
  s.pathMove x n ((s.ax n).pos + 2 ^ 33) (s.pathProf x) none

/-- The search for the next edge. -/
def State.seekBegin (s : State) (x : Nat) : State :=
  let s := s.onHead x fun h => { h with step := .seek }
  if (s.ax (s.feedAx x)).mode = .rest then s.feedOn x else s

/-- The LED search begins with the feed at rest. -/
def State.ledBegin (s : State) (x : Nat) (second : Bool) : State :=
  (s.onMs (s.msa x) fun m => { m with cstate := 1, lo := 0, hi := 160, led := 80, ledStep := 0, ledCyc := 0, ledFound := none,
                                      second := second, waits := false }).onHead x fun h => { h with step := .led }

/-- The bound of a search has passed without an edge: the feed stops at LIM_DEC. -/
def State.searchLost (s : State) (x : Nat) : State := (s.axBrake (s.feedAx x)).onHead x fun h => { h with step := .lost }

/-- MARK_LOST: the feed is at rest; the lane is STOPPED with its record. -/
def State.markLost (s : State) (x : Nat) : State :=
  let d := ((s.ax (s.feedAx x)).pos - (s.head x).from_).natAbs
  (s.raise 7 7 x [field 31 0 (min d (2 ^ 32 - 1))]).stoppedWith x

/-- A search begins: calibration first where it is asked for. -/
def State.searchBegin (s : State) (x bound : Nat) : State :=
  let s := s.onHead x fun h => { h with dist := bound, from_ := (s.ax (s.feedAx x)).pos, edges := 0 }
  if bound = 0 then (s.onHead x fun h => { h with step := .lost }).markLost x
  else if s.cfgB (.ms (s.msa x)) F.ms_CAL_REQ then s.ledBegin x false
  else s.seekBegin x

/-- The target after the edge: TOF, and REG_F on path B for a TO_MARK search (R288, R294, R295). -/
def State.searchGoal (s : State) (x : Nat) (edge : Int) : Int :=
  let own := (s.head x).typ = tPattern ∧ (s.head x).pattern = 1
  edge + s.cfgS (.path x) F.cal_TOF + (if x = 1 ∧ !own then s.cfgS (.path 1) F.cal_REG_F else 0)

/-- The axis turns to the target: it brakes to it where it can, else it stops first and returns. -/
def State.toGoal (s : State) (x : Nat) (goal : Int) : State :=
  let n := s.feedAx x
  let a := s.ax n
  let gap := goal * q22 - a.line
  let s := s.onHead x fun h => { h with goal := goal, step := .target }
  if a.mode = .rest then s.pathMove x n goal (s.pathProf x) none
  else if 0 ≤ gap ∧ 4 * a.vel ≤ 4 * brakeVel a.prof gap.toNat + a.prof.dec then s.onAx n fun a => { a with tgt := goal }
  else s.onAx n fun a => { a with stop := some 0, limDec := a.prof.dec }

/-- An edge has been counted during a search (R288, R295). -/
def State.edgeFound (s : State) (x : Nat) (edge : Int) : State :=
  let h := s.head x
  if h.step ≠ .seek ∨ (s.lane x).stopping then s
  else if h.typ = tPattern ∧ h.pattern = 1 ∧ h.edges = 0 then s.onHead x fun h => { h with edges := 1, edge0 := edge }
  else
    let s := s.onHead x fun h => { h with edges := h.edges + 1, dist := if h.typ = tPattern then (edge - h.edge0).natAbs else h.dist }
    s.toGoal x (s.searchGoal x edge)

/-- The target of a search has been reached: a FEED ends, a PATTERN prints. -/
def State.searchDone (s : State) (x : Nat) : State :=
  let s := s.onHead x fun h => { h with step := .idle }
  if (s.head x).typ = tPattern then s.patternLayout x else (s.endRunning x).onHead x fun h => { h with typ := 0 }

/-- Step 1 or 2 of a calibration has failed (R289). -/
def State.calFail (s : State) (x : Nat) : State :=
  let n := s.msa x
  if (at' s.mss n).second then
    let s := (s.onMs n fun m => { m with cstate := 4, calFail := satInc 4095 m.calFail }).faultOne x
    if (s.ax (s.feedAx x)).mode = .rest then s.cameToRest x else s
  else if (s.ax (s.feedAx x)).mode = .rest then (s.onHead x fun h => { h with step := .retryWait }).onMs n fun m => { m with waits := true }
  else (s.axBrake (s.feedAx x)).onHead x fun h => { h with step := .retryHalt }

/-- An event of the feed axis has been issued: the bounds of a learning feed and of a search. -/
def State.feedStep (s : State) (x : Nat) : State :=
  let h := s.head x
  let pos := (s.ax (s.feedAx x)).pos
  if (s.lane x).stopping then s
  else if h.step = .learn ∧ s.cfg (.ms (s.msa x)) F.ms_CAL_LEN ≤ (pos - (at' s.mss (s.msa x)).learnAt).natAbs then s.calFail x
  else if (h.step = .learn ∨ h.step = .seek) ∧ h.dist ≤ (pos - h.from_).natAbs then s.searchLost x
  else s

/-- The feed axis has come to rest in a step of its own. -/
def State.feedRest (s : State) (x : Nat) : State :=
  let n := s.feedAx x
  let s := s.axSettle n
  match (s.head x).step with
  | .feed => (s.onHead x fun h => { h with step := .idle, typ := 0 }).endRunning x
  | .cutFeed => s.strokeBegin x
  | .retryHalt => (s.onHead x fun h => { h with step := .retryWait }).onMs (s.msa x) fun m => { m with waits := true }
  | .lost => s.markLost x
  | .target => if (s.ax n).pos = (s.head x).goal then s.searchDone x else s.toGoal x (s.head x).goal
  | _ => s

/-- Axis `n`, bound to path `x` and moving for it, has come to rest: a stop of the path comes to rest with it (R27, R312). -/
def State.boundRest (s : State) (x n : Nat) : State :=
  let h := s.head x
  if (s.lane x).stopping then
    let s := if h.step.searching then s.onAx n fun a => { a with tgt := a.pos } else s
    let s := if h.step = .feed ∧ (s.ax n).pos = (s.ax n).tgt then (s.onHead x fun h => { h with step := .idle, typ := 0 }).endRunning x else s
    (s.keepRest n 7).cameToRest x
  else if h.step.cutting && n == s.clkAx x then s.clickRest x
  else s.feedRest x

/-! ### Records on a head lane (R250, R287, R295) -/

/-- A FEED is released. -/
def State.startFeed (s : State) (x : Nat) (q : QItem) : State :=
  let mode := bits (q.r.w 1) 35 34
  if !s.feedBound x ∨ (mode = 1 ∧ !s.cfgB (.head x) F.hb_MSA_EN) then s.heldFault x q
  else if s.pathBlocked x tFeed then s.stoppedWith x
  else if (s.head x).step = .run then s.onHead x fun h => { h with later := some (q.job, q.idx) }
  else
    let n := s.feedAx x
    let s := s.onHead x fun h => { h with job := q.job, idx := q.idx, typ := tFeed, fmode := mode, step := .feed }
    if mode = 1 then s.searchBegin x (bits (q.r.w 1) 31 0)
    else s.pathMove x n ((s.ax n).pos + signed 32 (bits (q.r.w 1) 31 0)) (s.pathProf x) none

/-- A PATTERN is released (R295). -/
def State.startPattern (s : State) (x : Nat) (q : QItem) : State :=
  let pat := bits (q.r.w 1) 3 0
  if !s.feedBound x ∨ (pat ≠ 2 ∧ !s.cfgB (.head x) F.hb_MSA_EN) then s.heldFault x q
  else if s.pathBlocked x tPattern then s.stoppedWith x
  else if (s.head x).step = .run then s.onHead x fun h => { h with later := some (q.job, q.idx) }
  else
    let s := ((s.takePath x q).vhenUp x).onHead x fun h => { h with midCopy := false, follow := false, stopAfter := false, lineOn := false }
    if pat = 2 then s.patternLayout x else s.searchBegin x (2 * s.cfg (.ms (s.msa x)) F.ms_CAL_LEN)

/-- A record is released on head lane `x`. -/
def State.startHead (s : State) (x : Nat) (q : QItem) : State :=
  if q.r.typ = tPrint then s.startPrint x q
  else if q.r.typ = tFeed then s.startFeed x q
  else if q.r.typ = tCut then s.startCut x q
  else if q.r.typ = tScan then s.startScan x q
  else s.startPattern x q

/-- The head holds this record: it had begun. -/
def Head.holds (h : Head) (q : QItem) : Bool := h.job == q.job && h.idx == q.idx && h.typ == q.r.typ

/-- CONTINUE for the record on a stopped head lane (R150, R179, R298, R313): none where it can do nothing. -/
def State.contHead (s : State) (x : Nat) (q : QItem) : Option State :=
  let h := s.head x
  let n := s.feedAx x
  let cut := (s.recStatus q.job q.idx).outcome = .interrupted
  if q.r.typ = tScan then some (if h.step = .scan ∧ h.sstate = 2 ∧ h.skind = 1 then s.scanResume x else s.startScan x q)
  else if !h.holds q then
    if cut ∧ q.r.typ = tCut then none
    else if cut ∧ q.r.typ = tFeed ∧ bits (q.r.w 1) 35 34 ≠ 1 then
      if !(s.ax n).posOk then none
      else
        let s := s.onHead x fun h => { h with job := q.job, idx := q.idx, typ := tFeed, fmode := bits (q.r.w 1) 35 34, step := .feed }
        some (s.pathMove x n (s.ax n).tgt (s.pathProf x) none)
    else some (s.startHead x q)
  else if h.step.cutting then some (s.cutBegin x h.cutPart)
  else if q.r.typ = tPrint then some (s.contPath x)
  else if s.pathBlocked x q.r.typ then some (s.stoppedWith x)
  else match h.step with
    | .feed => some (s.pathMove x n (s.ax n).tgt (s.ax n).prof none)
    | .target => some ((if q.r.typ = tPattern then s.vhenUp x else s).toGoal x h.goal)
    | .rest | .wait => some (s.contPath x)
    | _ => some ((if q.r.typ = tPattern then s.vhenUp x else s).searchBegin x
        (if q.r.typ = tFeed then bits (q.r.w 1) 31 0 else 2 * s.cfg (.ms (s.msa x)) F.ms_CAL_LEN))

/-- The work of a stopped record on head lane `x` is dropped (R152, R174). -/
def State.dropHead (s : State) (x : Nat) : State :=
  let h := s.head x
  let s := s.dropPrint x h.job h.idx
  let s := if h.step = .scan ∧ h.skind = 1 ∧ (h.sstate = 1 ∨ h.sstate = 2) then s.scanEnd x 5 else s
  s.onHead x fun h =>
    { h with step := .idle, typ := 0, later := none, lastDue := none, placed := [], midCopy := false, resuming := false, follow := false,
             redo := [], redoNext := none, ready := none, readyFresh := none, stopAfter := false }

/-! ### The head slot of a stitch (R59, R220, R242, R287) -/

/-- The bound axes of path `x` that move for it are at rest. -/
def State.boundStill (s : State) (x : Nat) : Bool := (s.boundAxes x).all fun i => (s.ax (i - 2)).mode == .rest

/-- A path that waits for its first line. -/
def State.waitSlot (s : State) (x : Nat) : State :=
  let h := s.head x
  let s := if h.stopAfter then s.beginStop x .stopped else s
  if (s.lane x).stopping then (s.onHead x fun h => { h with step := .rest, midCopy := false, stopAfter := false }).cameToRest x
  else if h.settle = 0 ∧ h.vhen ∧ h.bandsReady h.job h.idx h.pcopy ∧ (s.ax (s.feedAx x)).mode = .rest ∧ !s.pathForced x then
    if s.feedBlocked x then
      (s.onHead x fun h => { h with step := .rest, midCopy := false }).feedLimited x
        ((s.ax (s.feedAx x)).pos + s.boundary x (h.copyLines h.job h.idx h.pcopy) / q22)
    else s.beginCopy x
  else s

/-- The clicker's CSTATE leaves UNKNOWN once its switch reads home (R297). -/
def State.homeSeen (s : State) (x : Nat) : State :=
  if (s.head x).cstate = 5 ∧ s.cfgB (.head x) F.hb_CLK_EN ∧ s.atHome x then s.onHead x fun h => { h with cstate := 0 } else s

/-- What a head does at a stitch boundary once records have been released. -/
def State.headSlot (s : State) (x : Nat) : State :=
  let s := ((s.homeSeen x).scanSlot x).redoSlot x
  let idle := (s.head x).step = .idle
  let s := match (s.head x).step with
    | .run => (s.runSlot x).shortSlot x
    | .wait => s.waitSlot x
    | .rest => if (s.head x).resuming ∧ !(s.lane x).stopping then s.resumeSlot x
               else if (s.lane x).stopping then (s.onHead x fun h => { h with resuming := false }).cameToRest x else s
    | .scan => s
    | _ => if (s.lane x).stopping ∧ s.boundStill x ∧ (s.head x).sstate ≠ 1 then s.cameToRest x else s
  match (s.head x).later with
  | some r =>
    if idle ∧ (s.lane x).state = .running then
      let s := s.onHead x fun h => { h with later := none }
      match (s.lane x).itemOf r.1 r.2 with
      | some q => if (s.head x).holds q ∧ q.r.typ = tPattern then s.cutBegin x false else s.startHead x q
      | none => s
    else s
  | none => s

/-- LAST_SLICE_END (R141): the copy is complete; the last one ends its PRINT, or its PATTERN once pattern 1 has been cut. -/
def execLastSliceEnd (head : Fin 2) (s : State) : Host.Outcome State Fault Refusal :=
  let x := head.val
  match (s.head x).lastDue with
  | none => .next s
  | some c =>
    let s := s.onHead x fun h => { h with lastDue := none }
    match (s.lane x).itemOf c.job c.idx with
    | none => .next s
    | some q =>
      let s := if q.r.typ = tPrint ∧ 1 < c.copies then s.queueMark 4 c.idx c.copy c.job else s
      if c.copy < c.copies then .next s
      else if q.r.typ = tPattern ∧ (s.head x).pattern = 1 ∧ s.cfgB (.head x) F.hb_CLK_EN then
        let s := s.dropPrint x c.job c.idx
        .next (if (s.head x).step = .run then s.onHead x fun h => { h with later := some (c.job, c.idx) } else s.cutBegin x false)
      else .next (s.printEnded x q)

/-! ### Media sensors (R283, R286, R289) -/

/-- Mean of the last readings (R283). -/
def Ms.level (m : Ms) : Nat := if m.reads.isEmpty then 0 else m.reads.foldl (· + ·) 0 / m.reads.length

/-- The path that binds a media sensor, and its role there: 0 MSA, 1 MSB (R287). -/
def State.msPath (s : State) (n : Nat) : Option (Nat × Nat) :=
  ([0, 1].flatMap fun x =>
    (if s.cfgB (.head x) F.hb_MSA_EN && s.msa x == n then [(x, 0)] else []) ++
      (if s.cfgB (.head x) F.hb_MSB_EN && s.cfg (.head x) F.hb_MSB == n then [(x, 1)] else [])).head?

/-- Commanded position of an axis at a phase since reset, interpolated between its step events and rounded down (R283). -/
def Axis.posAt (a : Axis) (t : Nat) : Int :=
  if a.lastEv ≤ t then
    match a.events with
    | e :: _ => a.pos + (e.2 - a.pos) * (min t e.1 - a.lastEv : Nat) / (max 1 (e.1 - a.lastEv) : Nat)
    | [] => a.pos
  else
    let back : Int := (a.evStride * (a.lastEv - t) / max 1 a.evInt : Nat)
    if a.neg then a.pos + back else a.pos - back

/-- Feed position 15 µs before phase `ph` of this stitch (R283): of the feed axis of the path that binds the sensor. -/
def State.msPos (s : State) (n ph : Nat) : Int :=
  match s.msPath n with
  | none => 0
  | some (x, _) =>
    if s.feedBound x then
      (s.ax (s.feedAx x)).posAt (s.stitch.n * 4096 + ph - 3000 * 4096 / max 1 (stitchCycles s.stitch.period s.stitch.x))
    else 0

/-- Gap side and media side of a level (R286): keeps its side between the thresholds. -/
def gapSide (mode lo hi level : Nat) (was : Bool) : Bool :=
  if mode = 2 then (if level ≤ lo then true else if hi < level then false else was)
  else (if hi ≤ level then true else if level < lo then false else was)

/-- MEDIA_OUT and what the head lane does (R287). -/
def State.mediaOut (s : State) (n : Nat) : State :=
  match s.msPath n with
  | none => s
  | some (x, role) =>
    let s := s.raise 7 6 x [field 1 0 n ||| field 2 2 role]
    let l := s.lane x
    let on (t : Nat) : Bool := (l.running.toList ++ l.tail).any fun q => q.r.typ == t
    if role = 0 then (if on tPrint || on tPattern || on tFeed then s.beginStop x .stopped else s)
    else if on tPrint || on tPattern then s.onHead x fun h => { h with stopAfter := true } else s

/-- Side, counting and OUT of a sensor after a reading. -/
def State.msSide (s : State) (n ph : Nat) : State :=
  let m := at' s.mss n
  let mode := s.cfg (.ms n) F.ms_MODE
  let pos := s.msPos n ph
  let gap := gapSide mode (s.cfg (.ms n) F.ms_TH_LO) (s.cfg (.ms n) F.ms_TH_HI) m.level m.gap
  let len := (pos - m.sideAt).natAbs
  let s := if gap = m.gap then s.onMs n fun m => { m with sideCyc := m.sideCyc + 1 }
    else s.onMs n fun m => { m with gap := gap, sideAt := pos, sideCyc := 1, counted := false,
                                    len := if !gap && m.counted then len % 2 ^ 32 else m.len,
                                    mstate := if !gap ∧ m.mstate = 1 then 0 else m.mstate }
  let m := at' s.mss n
  let len := (pos - m.sideAt).natAbs
  if m.gap then
    let counts := !m.counted && decide (s.cfg (.ms n) F.ms_EDGE_MIN ≤ len)
    let s := if counts then
        s.onMs n fun m => { m with counted := true, pitch := if m.hadEdge then (m.sideAt - m.edge).natAbs % 2 ^ 32 else m.pitch,
                                   edge := m.sideAt, hadEdge := true, len := len % 2 ^ 32, mstate := if m.mstate = 2 then 2 else 1 }
      else s
    let s := if counts then match s.msPath n with
        | some (x, 0) => s.edgeFound x m.sideAt
        | _ => s
      else s
    let isOut := if mode = 3 then decide (500 ≤ m.sideCyc) else decide (s.cfg (.ms n) F.ms_OUT_LEN ≤ len)
    if isOut ∧ m.mstate ≠ 2 then (s.onMs n fun m => { m with mstate := 2 }).mediaOut n else s
  else if m.mstate = 2 ∧ (if mode = 3 then 500 ≤ m.sideCyc else s.cfg (.ms n) F.ms_EDGE_MIN ≤ len) then
    (s.onMs n fun m => { m with mstate := 0 }).putCfg (.ms n) F.ms_CAL_REQ 1
  else s

/-- A cycle of the LED search: 20 cycles to a step, 8 steps (R289). -/
def State.ledCycle (s : State) (x n : Nat) : State :=
  let m := at' s.mss n
  if m.ledCyc < 19 then s.onMs n fun m => { m with ledCyc := m.ledCyc + 1 }
  else
    let target := s.cfg (.ms n) F.ms_TARGET
    let v := m.level
    let near := decide ((v : Int) - target ≤ 256 ∧ (target : Int) - v ≤ 256)
    let lo := if v < target then min 160 (m.led + 1) else m.lo
    let hi := if v < target then m.hi else m.led - 1
    let s := s.onMs n fun m => { m with ledFound := if near then some m.led else m.ledFound, lo := lo, hi := max lo hi,
                                        led := (lo + max lo hi) / 2, ledStep := m.ledStep + 1, ledCyc := 0 }
    if m.ledStep < 7 then s
    else if (at' s.mss n).ledFound.isNone then s.calFail x
    else
      let s := s.onMs n fun m => { m with cstate := 2, lo := m.level, hi := m.level, crossed := 0, learnAt := (s.ax (s.feedAx x)).pos }
      (s.onHead x fun h => { h with step := .learn }).feedOn x

/-- A cycle of the learning feed (R289). -/
def State.learnCycle (s : State) (x n ph : Nat) : State :=
  let s := s.onMs n fun m => { m with lo := min m.lo m.level, hi := max m.hi m.level }
  let m := at' s.mss n
  let enough := decide (s.cfg (.ms n) F.ms_CONTRAST_MIN ≤ m.hi - m.lo)
  let up := decide (m.lo + m.hi < 2 * m.level)
  let onGap := if s.cfg (.ms n) F.ms_MODE = 2 then decide (2 * m.level < m.lo + m.hi) else up
  let crossed := if m.crossed = 0 ∧ enough ∧ onGap then 1 else if m.crossed = 1 ∧ !onGap then 2 else m.crossed
  let s := s.onMs n fun m => { m with crossed := crossed }
  if crossed = 2 ∧ enough then
    let d := m.hi - m.lo
    let s := ((s.putCfg (.ms n) F.ms_LED_I (m.ledFound.getD 0)).putCfg (.ms n) F.ms_TH_HI (m.lo + 5 * d / 8)).putCfg (.ms n) F.ms_TH_LO
      (m.lo + 3 * d / 8)
    let s := s.putCfg (.ms n) F.ms_CAL_REQ 0
    let s := s.onMs n fun m => { m with cstate := 3, gap := false, counted := false, sideAt := s.msPos n ph, sideCyc := 0,
                                        calTr := if m.second then satInc 4095 m.calTr else m.calTr }
    s.seekBegin x
  else s

/-- MS_CYCLE: one 10 µs cycle has given its two samples, the second, dark, with its phase. A record released in this stitch takes none of it (R60). -/
def execMsCycle (ms : Fin 4) (lit : BitVec 12) (dark : BitVec 12 × BitVec 12) (s : State) : Host.Outcome State Fault Refusal :=
  let n := ms.val
  if s.cfg (.ms n) F.ms_MODE = 0 then .next s
  else
    let s := s.onMs n fun m => { m with reads := ((lit.toNat - dark.1.toNat) :: m.reads).take 4 }
    let s : State := match s.msPath n with
      | some (x, 0) =>
        if (s.lane x).state ≠ .running ∨ (s.lane x).stopping ∨ s.stitch.n < (s.lane x).relStitch then s
        else if (s.head x).step = .led then s.ledCycle x n
        else if (s.head x).step = .learn then s.learnCycle x n dark.2.toNat
        else s
      | _ => s
    .next (s.msSide n dark.2.toNat)

/-- CAL_RETRY: the 1 ms of the second attempt has passed (R289). -/
def execCalRetry (ms : Fin 4) (s : State) : Host.Outcome State Fault Refusal :=
  match s.msPath ms with
  | some (x, 0) =>
    if (s.head x).step = .retryWait ∧ (at' s.mss ms).waits ∧ (s.lane x).state = .running ∧ !(s.lane x).stopping
    then .next (s.ledBegin x true) else .next s
  | _ => .next s

/-! ### General sensor inputs (R291, R292) -/

def State.onSns (s : State) (n : Nat) (f : Sns → Sns) : State := { s with snss := upd s.snss n f }

/-- A counted occurrence. -/
def State.snsCount (s : State) (n : Nat) : State :=
  s.onSns n fun v => { v with count := (v.count + 1) % 2 ^ 32, last := s.count }

/-- ACTIVE changes: what its function counts, and a home switch wired to it. -/
def State.snsChange (s : State) (n : Nat) (on : Bool) : State :=
  let f := s.cfg (.sns n) F.sns_FUNC
  let run := (at' s.snss n).run
  let s := s.onSns n fun v => { v with active := on, steady := 0, run := 0 }
  let s :=
    if f = 0 ∧ on then s.snsCount n
    else if f = 1 ∧ on then (s.snsCount n).raise 7 0xA 31 [field 2 0 n]
    else if f = 2 ∧ on then s.onSns n fun v => { v with present := true }
    else if f = 3 ∧ !on ∧ run ≤ 20 * s.cfg (.sns n) F.sns_DROP_MAX then (s.snsCount n).evidence 2 n 0
    else s
  s.sensorSwitch n

/-- The level a sample gives: none in MID, and in a rail band of an input that watches them (R291). -/
def snsLevel (code : Nat) (brk : Bool) : Option Bool :=
  let c := 100 * code
  if brk ∧ (c < 5 * 4095 ∨ 95 * 4095 < c) then none
  else if c < 35 * 4095 then some false
  else if 65 * 4095 < c then some true else none

/-- SNS_SAMPLE: one 50 µs sample. -/
def execSnsSample (sns : Fin 8) (code : BitVec 12) (s : State) : Host.Outcome State Fault Refusal :=
  let n := sns.val
  let k := code.toNat
  let brk := s.cfgB (.sns n) F.sns_BRK_EN
  let rail := brk && (decide (100 * k < 5 * 4095) || decide (95 * 4095 < 100 * k))
  let s := s.onSns n fun v =>
    { v with code := k, rail := if rail then min 400 (v.rail + 1) else 0, okRun := if rail then 0 else min 2000 (v.okRun + 1),
             high := (snsLevel k brk).getD v.high, run := v.run + 1 }
  let v := at' s.snss n
  if v.broken then
    .next (if 2000 ≤ v.okRun ∨ !brk then s.onSns n fun v => { v with broken := false, steady := 0 } else s)
  else if brk ∧ 400 ≤ v.rail then .next ((s.onSns n fun v => { v with broken := true, okRun := 0, steady := 0 }).sensorBroken (BitVec.ofNat 36 (24 + n)))
  else
    let on := v.high != s.cfgB (.sns n) F.sns_POL
    if on = v.active then .next (s.onSns n fun v => { v with steady := 0 })
    else if v.steady + 1 < 2 * s.cfg (.sns n) F.sns_DEB then .next (s.onSns n fun v => { v with steady := v.steady + 1 })
    else .next (s.snsChange n on)

/-- TICKET_TAKEN: ACTIVE has stayed 0 for TAKEN with PRESENT = 1. -/
def execTicketTaken (sns : Fin 8) (s : State) : Host.Outcome State Fault Refusal :=
  let n := sns.val
  let v := at' s.snss n
  if s.cfg (.sns n) F.sns_FUNC = 2 ∧ v.present ∧ !v.active ∧ !v.broken ∧ 20 * s.cfg (.sns n) F.sns_TAKEN ≤ v.run then
    .next ((((s.onSns n fun v => { v with present := false }).snsCount n).raise 7 9 31 [field 2 0 n]).evidence 1 n 0)
  else .next s

end Sys2Proof.Machine
end

