-- ==== Sys2Proof/Machine/Shank.lean ====
section
/-!
DEFINITION. The shank (R411..R430): energy windows and trips, inductive release, on-time and strobe limits, group force and
its release, the device safe state, stored energy and discharge, the limit fields with their ceilings.
-/

namespace Sys2Proof.Machine

/-! ### Output groups (R411) -/

def State.grp (s : State) (g : Nat) : Group := at' s.shank.groups g
def State.onGrp (s : State) (g : Nat) (f : Group → Group) : State := { s with shank := { s.shank with groups := upd s.shank.groups g f } }
def State.onShank (s : State) (f : Shank → Shank) : State := { s with shank := f s.shank }

/-- The lane of a group. -/
def groupLane (g : Nat) : Nat := if g < 24 then g / 2 + 2 else if g < 56 then 14 + (g - 24) / 8 else g - 56

/-! ### Energy window and release current (R417, R419) -/

/-- E_WIN in 0.1 pJ. -/
def Group.energy (q : Group) : Nat := q.buckets.foldl (· + ·) 0

/-- P_LIM × 0.1 W × WIN × 0.1 s in 0.1 pJ. -/
def State.energyLimit (s : State) (g : Nat) : Nat :=
  s.cfg (.grp g) F.grp_P_LIM * ((s.grp g).oldWin.getD (s.cfg (.grp g) F.grp_WIN)) * 10 ^ 11

def State.overEnergy (s : State) (g : Nat) : Bool := decide (s.energyLimit g < (s.grp g).energy)

/-- |I| above I_REL: I² × L / 2 beyond E_REL, in mA, 10 µH and mJ. -/
def State.overRelease (s : State) (g : Nat) : Bool :=
  g < 56 && decide (200 * s.cfg (.grp g) F.grp_E_REL * 10 ^ 6 < (s.grp g).amps ^ 2 * s.cfg (.grp g) F.grp_L_GRP)

/-- |I| below I_REL / 8. -/
def State.underRelease (s : State) (g : Nat) : Bool :=
  decide (64 * (s.grp g).amps ^ 2 * s.cfg (.grp g) F.grp_L_GRP < 200 * s.cfg (.grp g) F.grp_E_REL * 10 ^ 6)

/-! ### What a force does to the outputs (R419, R422, R424) -/

/-- Both bridges of axis `n` take the levels the shank holds them at. -/
def State.safeAxis (s : State) (n : Nat) : State :=
  s.onAx n fun a => { a with a1 := { a.a1 with sw := s.safeSwitch (2 * n) }, b1 := { a.b1 with sw := s.safeSwitch (2 * n + 1) } }

/-- The bridges of axis `n` are forced; a moving axis loses its drive (R323). -/
def State.forceAxis (s : State) (n : Nat) : State :=
  let s := s.safeAxis n
  if (s.ax n).vel ≠ 0 ∧ s.cfg (.ax n) F.ax_KIND = 1 then s.uncertain n 3 false else s

/-- A channel's gates: both off, or GL on in the RELEASE hold. -/
def State.forceSol (s : State) (c : Nat) : State :=
  s.onChan c fun q => { q with sw := if (s.grp (24 + c)).relHold then .slow else .off }

/-- The PWM cycle of an event whose command does not carry it: a free value between the last boundary or line start and the
next boundary. -/
def State.instant (s : State) (x : Nat) : Nat × State :=
  let r := s.takeFresh
  let lo := max s.stitch.cycles ((s.head x).lastStart.getD 0)
  (lo + Config.freeNat r.1 % max 1 (s.stitch.advance.cycles - lo), r.2)

/-- Lines still strobing at cycle `t` count as not printed and are to be started again, oldest first, before the line the
pipeline had ready (R245). -/
def Head.cutShort (h : Head) (d : Desc) (t : Nat) : Head :=
  let cut := h.fired.filter fun f => decide (t < f.start + d.nsl * d.tSl + d.tShift)
  if cut.isEmpty then { h with fired := [] }
  else
    { h with fired := [], hist := h.hist.drop cut.length,
             redo := (cut.reverse.map fun f => ⟨f.pl, f.levels, true⟩) ++ h.redo,
             redoNext := if h.redo.any (·.done) then h.redoNext else if h.ready.isSome then some h.nextLevels else none,
             lastDue := if cut.any (·.pl.last) then none else h.lastDue }

/-- VHEN falls and strobes end: a line cut short counts as not printed, no placed line starts (R245, R422). -/
def State.forceHead (s : State) (x : Nat) : State :=
  let r := s.instant x
  let s := r.2.onHead x fun h => { h.cutShort (s.desc x) r.1 with vhen := false, settle := 0 }
  let s := s.unplace x
  -- a scan in progress stops with its lane; a check of a RE_ADMIT has failed
  let h := s.head x
  if h.sstate ≠ 1 then s
  else if h.skind = 0 then s.onHead x fun h => { h with sstate := 2 }
  else if h.skind = 2 then (s.scanEnd x 5).readmitFail x
  else s

/-- No further line of a path starts once one of its bound axes is forced. -/
def State.forcePaths (s : State) (n : Nat) : State :=
  [0, 1].foldl (fun (s : State) x => if (s.boundAxes x).contains (n + 2) && s.headOwns x then s.unplace x else s) s

/-- Force the outputs of group `g`. -/
def State.forceOutputs (s : State) (g : Nat) : State :=
  if g < 24 then (s.forceAxis (g / 2)).forcePaths (g / 2) else if g < 56 then s.forceSol (g - 24) else s.forceHead (g - 56)

/-! ### Trips (R422, R429) -/

/-- Code of the EMERGENCY event of a cause. -/
def tripCode (cause : Nat) : Nat := if cause = 1 then 3 else if cause = 2 then 4 else if cause ≤ 5 then 5 else 6

/-- A trip of group `g`: its status, SHANK_STAT, its outputs forced, its lane's stop asked for, the EMERGENCY event. -/
def State.trip (s : State) (g cause elem : Nat) : State :=
  let i := groupLane g
  let s := s.onGrp g fun q =>
    { q with forced := true, cause := cause, elem := if cause ≤ 2 then q.elem else elem, trips := (q.trips + 1) % 256,
             relHold := q.relHold || cause == 2, seenE := q.seenE || cause == 1, seenR := q.seenR || cause == 2 }
  let s := s.onShank fun k =>
    { k with energyTrip := k.energyTrip || cause == 1, releaseTrip := k.releaseTrip || cause == 2,
             interlockTrip := k.interlockTrip || (3 ≤ cause && cause ≤ 5), headTrip := k.headTrip || decide (6 ≤ cause),
             tripLanes := k.tripLanes ||| 2 ^ i }
  ((s.raise 1 (tripCode cause) i []).forceOutputs g).askStop (2 ^ i)

/-- The RELEASE hold of group `g` is over: it takes its safe-state levels (R419). -/
def State.relHoldOver (s : State) (g : Nat) : State := if g < 24 then s.safeAxis (g / 2) else s.forceSol (g - 24)

/-- MONITOR_SAMPLE: the supply in mV and the sense in mA over 100 ns; `draws` where the group draws from its supply (R412). -/
def execMonitorSample (group : Fin 58) (draws : Bool) (volts amps : BitVec 16) (s : State) : Host.Outcome State Fault Refusal :=
  let g := group.val
  let overE := s.overEnergy g
  let overR := s.overRelease g
  let s := s.onGrp g fun q =>
    { q with amps := amps.toNat,
             buckets := match q.buckets with
               | b :: rest => (if draws then b + volts.toNat * amps.toNat else b) :: rest
               | [] => [] }
  let s := if (s.grp g).relHold && s.underRelease g then (s.onGrp g fun q => { q with relHold := false }).relHoldOver g else s
  let s := if s.overRelease g && (!overR || !(s.grp g).forced) then s.trip g 2 0 else s
  .next (if s.overEnergy g && (!overE || !(s.grp g).seenE) then s.trip g 1 0 else s)

/-- ENERGY_BUCKET: the bucket in progress is completed; a WIN written since then comes into force, the energy held spread
evenly over its buckets (R416). -/
def execEnergyBucket (group : Fin 58) (s : State) : Host.Outcome State Fault Refusal :=
  .next (s.onGrp group fun q =>
    if q.oldWin.isSome then
      let t := (q.buckets.take 32).foldl (· + ·) 0
      { q with buckets := 0 :: (t - 31 * (t / 32)) :: List.replicate 31 (t / 32), oldWin := none }
    else { q with buckets := 0 :: q.buckets.take 32 })

/-- ONTIME: a high side has been on for TON (R420). -/
def execOntime (group : Fin 58) (elem : BitVec 4) (s : State) : Host.Outcome State Fault Refusal :=
  .next (if group.val < 56 then s.trip group 5 elem.toNat else s)

/-- STROBE_LIMIT: a strobe line reaches STB_SH, or its duty DUTY_SH (R421). -/
def execStrobeLimit (head : Fin 2) (elem : BitVec 4) (duty : Bool) (s : State) : Host.Outcome State Fault Refusal :=
  .next (s.trip (56 + head) (if duty then 7 else 6) elem.toNat)

/-! ### The device safe state (R424..R426) -/

/-- A self-test that runs is aborted (R136). -/
def State.bistAbort (s : State) : State :=
  if s.sec.bistResult = 1 then { s with sec := { s.sec with bistResult := 4 } } else s

/-- Every output takes its safe level. -/
def State.forceAll (s : State) : State := (List.range 58).foldl (fun (s : State) g =>
  if g < 24 ∧ g % 2 = 1 then s else s.forceOutputs g) s

/-- Start a discharge (R428); the outputs of supplies above E_SAFE are driven. -/
def State.startDischarge (s : State) : State :=
  let e := s.cfg .shk F.shk_E_SAFE
  s.onShank fun k => { k with st := .discharging, discT := 0, dmOn := decide (e < k.em), dsOn := decide (e < k.es) }

/-- A device cause is accepted: the safe state, a discharge where it calls for one, its EMERGENCY event on lane 31. -/
def State.enterSafe (s : State) (code : Nat) (disch : Bool) : State :=
  let was := s.shank.st
  let s := (s.onShank fun k => { k with st := if k.st = .normal then .safe else k.st }).raise 1 code 31 []
  let s := if was = .normal then ((s.onDev fun d => { d with st := if d.st = .ready then .safe else d.st }).forceAll.bistAbort).askStop 0x3FFFF
           else s
  if disch ∧ was ≠ .discharging then s.startDischarge else s

/-- STOP_INPUT: STOP_N has been low for 1 µs, or returns high; the pin's state is in STOP_IN. -/
def execStopInput (low : Bool) (s : State) : Host.Outcome State Fault Refusal :=
  let was := s.shank.stopLow
  let s := s.onShank fun k => { k with stopLow := low }
  .next (if low ∧ !was then (s.onShank fun k => { k with stopped := true }).enterSafe 1 (bit (s.otp 0x17) 23) else s)

/-- DOOR_OPEN: DOOR_N has indicated open for 1 ms, or indicates closed again. -/
def execDoorOpen (isOpen : Bool) (s : State) : Host.Outcome State Fault Refusal :=
  let was := s.shank.doorOpen
  let s := s.onShank fun k => { k with doorOpen := isOpen }
  .next (if isOpen ∧ !was then s.enterSafe 7 true else s)

/-! ### Release (R423, R426) -/

/-- The condition of R423 for the force of group `g`. -/
def State.mayRelease (s : State) (g : Nat) : Bool :=
  let q := s.grp g
  (!q.seenE || decide (2 * q.energy ≤ s.energyLimit g)) && (!q.seenR || s.underRelease g)

/-- The force of a group ends. -/
def Group.unforce (q : Group) : Group := { q with forced := false, relHold := false, seenE := false, seenR := false }

/-- The outputs of group `g` go back to their engine: waiting recoveries go on, a bridge in RUN drives its idle state. -/
def State.outputsFree (s : State) (g : Nat) : State :=
  if g < 24 then
    let b := g / 2 * 2
    [b, b + 1].foldl (fun (s : State) b =>
      let s := s.bridgeReleased b
      if (s.br b).st = .run ∧ !s.bridgeForced b then s.newPeriod b else s) s
  else if g < 56 then s.solReleased (g - 24) else s

/-- A write of GREL = 1. -/
def State.writeGrel (s : State) (g : Nat) : State × Nat :=
  if !(s.grp g).forced then (s, 0)
  else if s.shank.st ≠ .normal ∨ !s.mayRelease g then (s, rcState)
  else ((s.onGrp g Group.unforce).outputsFree g, 0)

/-- A write of REL = 1. -/
def State.writeRel (s : State) : State × Nat :=
  if s.shank.stopLow ∨ s.shank.doorOpen ∨ s.shank.st = .discharging ∨ s.sup.shut ∨ s.sec.intrusive.isSome ∨
      (List.range 58).any (fun g => (s.grp g).forced && !s.mayRelease g)
  then (s, rcState)
  else
    let held (g : Nat) : Bool := s.shank.st != .normal || (s.grp g).forced
    let gs := (List.range 58).filter held
    let s := s.onShank fun k => { k with st := .normal, groups := k.groups.map Group.unforce }
    let s := s.onDev fun d => { d with st := if d.st = .safe then .ready else d.st }
    (gs.foldl State.outputsFree s, 0)

/-- A write of DISCH = 1. -/
def State.writeDisch (s : State) : State × Nat :=
  if s.shank.st = .discharging then (s, rcState) else (s.enterSafe 0xA true, 0)

/-- A write to the shank control word: with both bits it acts as DISCH, and the REL is refused (R427). -/
def State.writeShankCtl (s : State) (w : Word) : State × Nat :=
  if bit w 34 then
    let r := s.writeDisch
    (r.1, if bit w 35 then rcState else r.2)
  else if bit w 35 then s.writeRel else (s, 0)

/-- A write that a port of revision 1 is refused (R117). -/
def State.beyondRev1 (s : State) (p : Nat) (r : State × Nat) : State × Nat := if (s.port p).rev = 1 then (s, rcRevision) else r

/-- GREL, REL, DISCH: writes to the words of the shank (R422, R427). -/
def execGrel (port : Fin 2) (group : Fin 58) (s : State) : Host.Outcome State Fault Refusal :=
  answer port true (s.beyondRev1 port (s.writeGrel group))
def execRel (port : Fin 2) (s : State) : Host.Outcome State Fault Refusal := answer port true (s.beyondRev1 port s.writeRel)
def execDisch (port : Fin 2) (s : State) : Host.Outcome State Fault Refusal := answer port true (s.beyondRev1 port s.writeDisch)

/-! ### Stored energy (R427, R428) -/

/-- ½ × C × V² in 10 mJ, C in 10 µF and V in 1/8 V. -/
def storedEnergy (c v : Nat) : Nat := min 262143 (c * v * v / 128000)

/-- DISCHARGE_UPDATE: the estimates every 100 µs from the supplies' senses, and what follows from them. -/
def execDischargeUpdate (vm vs : BitVec 9) (s : State) : Host.Outcome State Fault Refusal :=
  let e := s.cfg .shk F.shk_E_SAFE
  let em := storedEnergy (s.cfg .shk F.shk_C_M) vm.toNat
  let es := storedEnergy (s.cfg .shk F.shk_C_S) vs.toNat
  let s := s.onShank fun k => { k with em := em, es := es }
  .next (match s.shank.st with
    | .discharging =>
      s.onShank fun k =>
        let t := k.discT + 1
        let done := decide (em ≤ e) && decide (es ≤ e)
        { k with discT := t, dmOn := (k.dmOn || k.discT == 0) && decide (e < em), dsOn := (k.dsOn || k.discT == 0) && decide (e < es),
                 st := if done then .discharged else k.st, tLast := if done then min 4095 (t / 100) else k.tLast }
    | .discharged => if s.shank.doorOpen ∧ (2 * e < em ∨ 2 * e < es) then s.startDischarge else s
    | _ => s)

/-- DISCHARGE_TIMEOUT: T_DISCH has elapsed. -/
def execDischargeTimeout (s : State) : Host.Outcome State Fault Refusal :=
  .next (if s.shank.st ≠ .discharging then s
    else (s.onShank fun k => { k with st := .safe, dmOn := false, dsOn := false, dischFail := true }).raise 1 8 31 [])

/-! ### Limit fields (R414, R415) -/

/-- OTP ceilings bound the limit fields. -/
def State.ceilFused (s : State) : Bool := bit (s.otp 0x11) 35

/-- The ceiling enforced for a field of R415, in the place where the shank region shows it: the top of its range while not
fused, at least one unit after (R478). -/
def State.ceiling (s : State) (f : Field) (top : Nat) : Nat := if s.ceilFused then max 1 (f.get (s.otp (0x11 + f.off))) else top

/-- The ceiling of a limit field of group `g` or of the stored-energy objects; none for the capacitances. -/
def State.limitCeil (s : State) (o : Obj) (f : Field) : Option Nat :=
  match o with
  | .grp g =>
    if f = F.grp_P_LIM then
      some (s.ceiling (if g < 24 then F.shk_PB_CEIL else if g < 56 then F.shk_PS_CEIL else F.shk_PH_CEIL) 65535)
    else if f = F.grp_WIN then some (s.ceiling F.shk_WIN_CEIL 255)
    else if f = F.grp_TON then some (s.ceiling (if g < 24 then F.shk_TONB_CEIL else F.shk_TONS_CEIL) 65535)
    else if f = F.grph_STB_SH then some (s.ceiling F.shk_STB_CEIL 200)
    else if f = F.grph_DUTY_SH then some (s.ceiling F.shk_DUTY_CEIL 1000)
    else none
  | .shk =>
    if f = F.shk_E_SAFE then some (s.ceiling F.shk_ESAFE_CEIL 4095)
    else if f = F.shk_T_DISCH then some (s.ceiling F.shk_TDISCH_CEIL 4095)
    else none
  | _ => none

/-- I_REL of an E_REL and an L_GRP lies above IREL_CEIL: 20,000 × E > c² × L in mJ, 0.1 A, 10 µH. -/
def State.irelOver (s : State) (e l : Nat) : Bool := decide ((s.ceiling F.shk_IREL_CEIL 4095) ^ 2 * l < 20000 * e)

/-- A field has had its first write since reset (R12). -/
def State.wlSet (s : State) (a : Nat) (f : Field) : Bool := s.tbl.wlDone.contains (a, f.lo)

/-- The first check of R414 that refuses a write of `w` to the limit word at `a`: its RCODE, zero for none. -/
def State.limitFault (s : State) (p : Nat) (o : Obj) (a : Nat) (fs : List Field) (w : Word) : Nat :=
  let pairOver := match o with
    | .grp g =>
      if fs.contains F.grp_E_REL then
        s.irelOver (if s.wlSet a F.grp_E_REL then s.cfg (.grp g) F.grp_E_REL else F.grp_E_REL.get w) (s.cfg (.grp g) F.grp_L_GRP)
      else if fs.contains F.grp_L_GRP then
        s.irelOver (s.cfg (.grp g) F.grp_E_REL) (if s.wlSet a F.grp_L_GRP then s.cfg (.grp g) F.grp_L_GRP else F.grp_L_GRP.get w)
      else false
    | _ => false
  if (s.port p).rev = 1 then rcRevision
  else if s.shank.locked then rcLocked
  else if fs.any fun f => !f.ok w then rcRange
  else if pairOver || fs.any (fun f => match s.limitCeil o f with | some c => decide (c < f.get w) | none => false) then rcCeiling
  else 0

/-- Set one limit field that has had no write since reset; a WIN waits for the next bucket boundary (R416). -/
def State.setLimit (s : State) (o : Obj) (a : Nat) (f : Field) (w : Word) : State :=
  if s.wlSet a f then s
  else
    let s := match o with
      | .grp g => if f = F.grp_WIN then s.onGrp g fun q => { q with oldWin := some (q.oldWin.getD (s.cfg (.grp g) F.grp_WIN)) } else s
      | _ => s
    let s := s.putCfg o f (f.get w)
    { s with tbl := { s.tbl with wlDone := (a, f.lo) :: s.tbl.wlDone } }

/-- A write to a limit word (R414). -/
def State.writeLimit (s : State) (p a : Nat) (w : Word) : State × Nat :=
  match region a with
  | none => (s, rcUnmapped)
  | some (o, _) =>
    let fs := (wordFields a).filter fun f => f.acc = .wl
    let rc := s.limitFault p o a fs w
    if rc ≠ 0 then (s, rc)
    else
      let noted := fs.any fun f => s.wlSet a f && f.get w != s.cfg o f
      let s := fs.foldl (fun (s : State) f => s.setLimit o a f w) s
      (if noted then s.noteAccess p noteIgnWl true else s, 0)

/-- SHANK_LIMIT_WRITE: a write to one of the words that hold limit fields. -/
def execShankLimitWrite (port : Fin 2) (addr : BitVec 24) (value : Word) (s : State) : Host.Outcome State Fault Refusal :=
  let a := addr.toNat
  if (a = 0xC0010 ∨ a = 0xC0011 ∨ (0xC0100 ≤ a ∧ a < 0xC01E8 ∧ a % 4 ≤ 1)) then answer port true (s.writeLimit port a value)
  else .next s

end Sys2Proof.Machine
end

