-- ==== Sys2Proof/Machine/Thermal.lean ====
section
/-!
DEFINITION. Temperature and supply (R431..R453): thermistors, second attempts, the die's median and its levels, head zones,
NTC inputs, sag monitors, VGD, VM loss.
-/

namespace Sys2Proof.Machine

def State.onSup (s : State) (f : Supply → Supply) : State := { s with sup := f s.sup }
def State.tin (s : State) (i : Nat) : TempIn := at' s.sup.ins i
def State.onTin (s : State) (i : Nat) (f : TempIn → TempIn) : State := s.onSup fun u => { u with ins := upd u.ins i f }

/-- Index of R431 of a temperature input. -/
def tempIndex (i : Nat) : Nat := if i < 6 then i else if i < 10 then i + 2 else i + 6

/-! ### Reading a thermistor (R433) -/

/-- ln(num / den) in 2^-32: powers of two apart, by the series of the inverse hyperbolic tangent. -/
def lnRatio (num den : Nat) : Int :=
  let y := num * 2 ^ 96 / den
  let k := Nat.log2 y
  let m := y * 2 ^ 32 / 2 ^ k
  let z := (m - 2 ^ 32) * 2 ^ 32 / (m + 2 ^ 32)
  let zz := z * z / 2 ^ 32
  let r := (List.range 12).foldl (fun (a : Nat × Nat) j => (a.1 + a.2 / (2 * j + 1), a.2 * zz / 2 ^ 32)) (0, z)
  ((k : Int) - 96) * 2977044471 + 2 * (r.1 : Nat)

/-- T in 1/8 °C of a code under a pull-up, R_nom and B, rounded to nearest and held to s12. -/
def thermistor (n rpu rnom beta : Nat) : Int :=
  let l := lnRatio (rpu * n) ((4095 - n) * rnom)
  let d : Int := (20 * beta * 2 ^ 32 : Nat) + 5963 * l
  if d ≤ 0 then 2047
  else max (-2048) (min 2047 (roundDiv ((8 * 5963 * beta * 2 ^ 32 * 10 : Nat) - 21852 * d) (10 * d)))

/-- Pull-up, R_nom and B of an input that is a thermistor (R225, R443, R444). -/
def State.thermConsts (s : State) (i : Nat) : Nat × Nat × Nat :=
  if i < 10 then
    let x := (i - 6) / 2
    let d := s.desc x
    (s.cfg (.hth x) (if i % 2 = 0 then F.hth_RPU0 else F.hth_RPU1), d.thNom, d.thBeta)
  else (s.cfg (.ntc (i - 10)) F.ntc_RPU, s.cfg (.ntc (i - 10)) F.ntc_RNOM, s.cfg (.ntc (i - 10)) F.ntc_BETA)

/-- Temperature of a thermistor code; with no R_nom or no B constant set the spec states none: a free value. -/
def State.readTherm (s : State) (i code : Nat) : Int × State :=
  let c := s.thermConsts i
  if c.2.1 = 0 ∨ c.2.2 = 0 then
    let f := s.takeFresh
    (signed 12 (Config.freeNat f.1), f.2)
  else (thermistor code c.1 c.2.1 c.2.2, s)

/-! ### The second attempt (R434) -/

/-- An input has a reading `v` in range. A broken one is used again at a reading 100 ms or more after the first of them: at
1 kHz the 101st, at 10 Hz the second (DEDUCED). -/
def State.tempGood (s : State) (i : Nat) (v : Int) : State :=
  let t := s.tin i
  if t.brk then
    if i < 6 then s
    else if t.okRun = 0 then s.onTin i fun t => { t with okRun := 1 }
    else if t.fast && decide (t.okRun < 100) then s.onTin i fun t => { t with okRun := t.okRun + 1 }
    else s.onTin i fun t => { t with brk := false, okRun := 0, val := v }
  else
    let s := if t.recheck then s.onSup fun u => { u with brkTr := satInc 4095 u.brkTr } else s
    s.onTin i fun t => { t with recheck := false, val := v }

/-- A reading out of range: the second attempt starts, or goes on; a broken input's run of good readings is broken. -/
def State.tempBad (s : State) (i : Nat) : State :=
  s.onTin i fun t => if t.brk then { t with okRun := 0 } else { t with recheck := true }

/-- An input is judged broken. -/
def State.tempBroken (s : State) (i : Nat) : State :=
  (s.onTin i fun t => { t with brk := true, recheck := false, okRun := 0 }).sensorBroken
    (field 35 24 (s.tin i).code ||| field 7 0 (tempIndex i))

/-- Rate of an input whose reading is `v`, against its throttle threshold in °C: 10 Hz again with the reading 1 s after the first
below the level (R437). -/
def TempIn.rate (t : TempIn) (v thr : Int) : TempIn :=
  if (thr - 10) * 8 ≤ v then { t with fast := true, cool := 0 }
  else if !t.fast then t
  else if t.cool < 1000 then { t with cool := t.cool + 1 }
  else { t with fast := false, cool := 0 }

/-! ### Zone events (R439, R442, R445, R446) -/

/-- TEMP_WARN, TEMP_THROTTLE or TEMP_NORMAL with a temperature, a zone and an index; LANE is the head's lane for a head's
zone, else 31 (R122; DEDUCED). -/
def State.tempEvent (s : State) (code : Nat) (v : Int) (zone index : Nat) (lane : Nat := 31) : State :=
  s.raise 10 code lane [field 35 24 (unsigned 12 v) ||| field 11 8 zone ||| field 7 0 index]

/-! ### Heads (R442) -/

/-- Head temperature and the input that gives it: the higher of the fitted thermistors, or DIE_T. -/
def State.headReading (s : State) (x : Nat) : Int × Nat :=
  let f := (s.desc x).thFit
  let a := 6 + 2 * x
  let t0 := (s.tin a).shown
  let t1 := (s.tin (a + 1)).shown
  if f = 0 then (s.sup.dieT, s.sup.dieIdx)
  else if f = 1 then (t0, a)
  else if f = 2 then (t1, a + 1)
  else if t0 < t1 then (t1, a + 1) else (t0, a)

/-- Zone of a head at temperature `v`, from its zone before. -/
def headZone (z : Nat) (v : Int) (tmax hstop : Nat) : Nat :=
  if ((tmax + hstop : Nat) : Int) * 8 ≤ v then 3
  else if z = 3 ∧ (tmax : Int) * 8 ≤ v then 3
  else if (tmax : Int) * 8 ≤ v then 2
  else if 2 ≤ z ∧ ((tmax : Int) - 5) * 8 ≤ v then 2
  else 0

/-- A PRINT or PATTERN runs on the head lane. -/
def State.printsNow (s : State) (x : Nat) : Bool :=
  ((s.lane x).running.toList ++ (s.lane x).tail).any fun q => q.r.typ == tPrint || q.r.typ == tPattern

/-- The head's temperature and zone after a sample of one of its inputs. -/
def State.headSample (s : State) (x : Nat) : State :=
  let r := s.headReading x
  let z := at' s.sup.hzone x
  let z' := headZone z r.1 (s.desc x).tmax (s.cfg .therm F.thr_HSTOP)
  let s := s.onSup fun u => { u with thead := upd u.thead x fun _ => r.1, hzone := upd u.hzone x fun _ => z' }
  let s := if z < 2 ∧ 2 ≤ z' then s.tempEvent 6 r.1 2 (tempIndex r.2) x else s
  let s := if 2 ≤ z ∧ z' = 0 then s.tempEvent 7 r.1 0 (tempIndex r.2) x else s
  if z ≠ 3 ∧ z' = 3 then
    let s := s.tempEvent 6 r.1 3 (tempIndex r.2) x
    if s.printsNow x then s.beginStop x .stopped else s
  else s

/-! ### The die (R435, R438..R440, R447) -/

/-- Grade EB: thresholds 10 °C higher. -/
def State.gradeEB (s : State) : Bool := bits (s.otp 4) 35 34 == 1
def State.warnT (s : State) : Int := if s.gradeEB then 115 else 105
def State.throtT (s : State) : Int := if s.gradeEB then 125 else 115
def State.shutT (s : State) : Int := if s.gradeEB then 140 else 130

/-- s_i, the raw reading of die sensor `i` around the ring. -/
def State.dieRaw (s : State) (i : Nat) : Int := signed 12 (s.tin (i % 6)).code

/-- The reading of a die sensor as it enters a median. -/
def State.dieEff (s : State) (i : Nat) : Int :=
  let t := s.tin (i % 6)
  let a := s.tin ((i + 5) % 6)
  let b := s.tin ((i + 1) % 6)
  if t.brk then
    if a.brk && b.brk then s.dieRaw i
    else if a.brk then s.dieRaw (i + 1)
    else if b.brk then s.dieRaw (i + 5)
    else (s.dieRaw (i + 1) + s.dieRaw (i + 5)) / 2
  else if t.recheck then t.val else s.dieRaw i

def median3 (a b c : Int) : Int := max (min a b) (min (max a b) c)

/-- |s_i − (s_{i−1} + s_{i+1})/2| exceeds 15 °C. -/
def State.dieOut (s : State) (i : Nat) : Bool :=
  decide (240 < (2 * s.dieRaw i - s.dieRaw (i + 5) - s.dieRaw (i + 1)).natAbs)

/-- The greatest of a list with its place, the first where several are. -/
def maxAt : List (Nat × Int) → Option (Nat × Int)
  | [] => none
  | p :: rest => match maxAt rest with
    | some q => if p.2 < q.2 then some q else some p
    | none => some p

/-- DIE_T and the sensor that gives it; with no sensor unbroken the 200 °C of a broken input (R434, DEDUCED). -/
def State.dieMax (s : State) : Nat × Int :=
  let sound := (List.range 6).filter fun i => !(s.tin i).brk
  if 4 < sound.length then
    (maxAt ((List.range 6).map fun i => (i, at' s.sup.checked i))).getD (0, 0)
  else match maxAt (sound.map fun i => (i, s.dieRaw i)) with
    | some p => (p.1, min 2047 (p.2 + 80))
    | none => (0, 1600)

/-- DBAND (R447). -/
def dieBand (b : Nat) (v : Int) : Nat :=
  if 720 ≤ v ∨ (b = 2 ∧ 696 < v) then 2
  else if 320 ≤ v ∨ (1 ≤ b ∧ 296 < v) then 1 else 0

/-- A level with its hysteresis, in °C. -/
def level (was : Bool) (v thr hyst : Int) : Bool := decide (thr * 8 ≤ v) || (was && decide ((thr - hyst) * 8 ≤ v))

/-- Zone of the die (R439). -/
def Supply.zone (u : Supply) : Nat := if u.shut || u.thr then 2 else if u.warn then 1 else 0

/-- The levels, the clock action and the band at DIE_T. -/
def State.dieLevels (s : State) : State :=
  let u := s.sup
  let v := u.dieT
  let warn := level u.warn v s.warnT 5
  let thr := level u.thr v s.throtT 5
  let shut := level u.shut v s.shutT 20
  let esc := thr && level u.escal v (s.throtT + s.cfg .therm F.thr_ESC) 5
  let z := u.zone
  let s := s.onSup fun u =>
    { u with warn := warn, thr := thr, shut := shut, escal := esc, dband := dieBand u.dband v, dieCut := s.cfgB .therm F.thr_DIE_CUT,
             clkdiv := if esc then 2 else if thr then s.cfg .therm F.thr_CLK_ACT else 0,
             warnSeen := u.warnSeen || (warn && !u.warn), throtSeen := u.throtSeen || (thr && !u.thr) }
  let z' := s.sup.zone
  let s := if z' = z then s else s.tempEvent (if z' = 0 then 7 else if z' = 1 then 5 else 6) v z' s.sup.dieIdx
  if shut ∧ !u.shut then s.enterSafe 9 false else s

/-- The six die sensors have been sampled together. -/
def State.dieSet (s : State) : State :=
  let s := (List.range 6).foldl (fun (s : State) i => if s.dieOut i then s.tempBad i else s.tempGood i (s.dieRaw i)) s
  let s := s.onSup fun u => { u with checked := Vector.ofFn fun (i : Fin 6) => median3 (s.dieEff (i + 5)) (s.dieEff i) (s.dieEff (i + 1)) }
  let m := s.dieMax
  let s := s.onSup fun u => { u with dieT := m.2, dieIdx := m.1 }
  let s := s.onTin 0 fun t => t.rate m.2 s.throtT
  let s := s.dieLevels
  [0, 1].foldl (fun (s : State) x => if (s.desc x).thFit = 0 then s.headSample x else s) s

/-! ### NTC inputs (R444, R445) -/

/-- HOT of input `k` after a sample, and what entry and exit bring about. -/
def State.ntcSample (s : State) (k : Nat) : State :=
  let o : Obj := .ntc k
  let v := (s.tin (10 + k)).shown
  let was := at' s.sup.hot k
  let hot := s.cfgB o F.ntc_EN && level was v (s.cfg o F.ntc_LIMIT) (s.cfg o F.ntc_NHYST)
  let act := s.cfg o F.ntc_NACT
  let s := s.onSup fun u =>
    { u with hot := upd u.hot k fun _ => hot, nact := upd u.nact k fun _ => act, lmask := upd u.lmask k fun _ => s.cfg o F.ntc_LMASK }
  if hot = was then s
  else if !hot then s.tempEvent 7 v 0 (16 + k)
  else
    let s := s.tempEvent (if act = 0 then 5 else 6) v (act + 1) (16 + k)
    if act = 2 then s.askStop (s.cfg o F.ntc_LMASK) else s

/-- A HOT input with NACT STOP holds lane `i` (R445). -/
def State.ntcHolds (s : State) (i : Nat) : Bool :=
  (List.range 8).any fun k => at' s.sup.hot k && at' s.sup.nact k == 2 && (at' s.sup.lmask k).testBit i

/-- EXT_HOT. -/
def State.extHot (s : State) : Bool := s.sup.hot.any id

/-- The thermal request of R49 (R441). -/
def State.thermReq (s : State) : Bool :=
  s.sup.thr || s.sup.hzone.any (2 ≤ ·) ||
    (List.range 8).any fun k => at' s.sup.hot k && at' s.sup.nact k == 1

/-! ### Samples (R434, R437) -/

/-- The throttle threshold of a thermistor input. -/
def State.inputLimit (s : State) (i : Nat) : Int :=
  if i < 10 then (s.desc ((i - 6) / 2)).tmax else s.cfg (.ntc (i - 10)) F.ntc_LIMIT

/-- What follows from the state of a thermistor input. -/
def State.inputUsers (s : State) (i : Nat) : State :=
  let s := s.onTin i fun t => t.rate t.shown (s.inputLimit i)
  if i < 10 then s.headSample ((i - 6) / 2) else s.ntcSample (i - 10)

/-- TEMP_SAMPLE: one input is read; the die sensors are judged together at DIE5's reading. -/
def execTempSample (input : Fin 18) (code : BitVec 12) (s : State) : Host.Outcome State Fault Refusal :=
  let i := input.val
  let n := code.toNat
  if i < 6 then
    let s := s.onTin i fun t => { t with code := n }
    .next (if i = 5 then s.dieSet else s)
  else if 10 ≤ i ∧ !s.cfgB (.ntc (i - 10)) F.ntc_EN then
    .next ((s.onTin i fun _ => TempIn.reset).ntcSample (i - 10))
  else
    let s := s.onTin i fun t => { t with code := n }
    let s := if n < 82 ∨ 4013 < n then s.tempBad i
      else
        let r := s.readTherm i n
        r.2.tempGood i r.1
    .next (s.inputUsers i)

/-- SENSOR_RECHECK: the reading 20 ms after the one out of range, none between having been in range; a die sensor's is judged
against its neighbours' last readings. -/
def execSensorRecheck (input : Fin 18) (code : BitVec 12) (s : State) : Host.Outcome State Fault Refusal :=
  let i := input.val
  let n := code.toNat
  if !(s.tin i).recheck then .next s
  else
    let s := s.onTin i fun t => { t with code := n }
    if i < 6 then .next (if s.dieOut i then s.tempBroken i else s.tempGood i (s.dieRaw i))
    else if n < 82 ∨ 4013 < n then .next ((s.tempBroken i).inputUsers i)
    else
      let r := s.readTherm i n
      .next ((r.2.tempGood i r.1).inputUsers i)

/-! ### Supplies (R448..R451) -/

/-- Argument of the supply events (R446). -/
def sagArg (m volts : Nat) : Word := field 35 27 volts ||| field 7 0 (48 + m)

/-- SAG_ASSERT: the supply has stayed below its threshold for FILT; a VH sag cuts the line in progress from window `win` on
(R274, R275). -/
def execSagAssert (supply : Fin 4) (volts : BitVec 9) (win : BitVec 5) (s : State) : Host.Outcome State Fault Refusal :=
  let m := supply.val
  if s.cfg (.sup m) F.sup_NOM = 0 ∨ at' s.sup.sag m ∨ s.power.st ≠ .run then .next s
  else
    let s := s.onSup fun u => { u with sag := upd u.sag m fun _ => true, sags := upd u.sags m (satInc 4095), sagSeen := true }
    let s := s.raise 10 (min (m + 1) 3) 31 [sagArg m volts.toNat]
    .next (if m < 2 then s else (s.groupFrom (m - 2) win.toNat).onHead (m - 2) fun h => { h with sagcut := true })

/-- SAG_CLEAR: the supply has stayed at its clearing level for 4 × FILT; the request stays for SAG_HOLD st (R49). -/
def execSagClear (supply : Fin 4) (volts : BitVec 9) (win : BitVec 5) (s : State) : Host.Outcome State Fault Refusal :=
  let m := supply.val
  if !at' s.sup.sag m then .next s
  else
    let s := s.onSup fun u => { u with sag := upd u.sag m fun _ => false }
    let s := s.onStitch fun g =>
      if m = 0 then { g with holdVM := some g.since } else if m = 1 then { g with holdVS := some g.since }
      else if at' s.sup.sag (5 - m) then g else { g with holdVH := some g.since }
    let s := s.raise 10 4 31 [sagArg m volts.toNat]
    .next (if m < 2 then s else (s.ungroupFrom (m - 2) win.toNat).onHead (m - 2) fun h => { h with sagcut := false })

/-- VGD_LOW (R450, R353, R380). -/
def execVgdLow (s : State) : Host.Outcome State Fault Refusal :=
  .next (if s.sup.vgdLow then s else ((s.onSup fun u => { u with vgdLow := true }).vgdFaults).vgdSols)

/-- VGD_CLEAR: bridges resume their drive at a new regulation period, waiting channels go on. -/
def execVgdClear (s : State) : Host.Outcome State Fault Refusal :=
  if !s.sup.vgdLow then .next s
  else
    let s := s.onSup fun u => { u with vgdLow := false }
    let s := (List.range 24).foldl (fun (s : State) b => if (s.br b).st = .run ∧ !s.bridgeForced b then s.newPeriod b else s) s
    .next ((List.range 32).foldl State.solReleased s)

/-- VM_LOSS: flags of the axis domains that are off, the axes of the others, in RUN or IDLE, at once (R451, R323; IDLE
DEDUCED). -/
def execVmLoss (s : State) : Host.Outcome State Fault Refusal :=
  if s.sup.vmLow then .next s
  else
    let s := s.onSup fun u => { u with vmLow := true }
    .next ((List.range 4).foldl (fun (s : State) g =>
      let st := (at' s.power.doms (10 + g)).st
      if st ≠ .run ∧ st ≠ .idle then s.onSup fun u => { u with vmLostG := upd u.vmLostG g fun _ => true }
      else
        [0, 1, 2].foldl (fun (s : State) k =>
          let n := 3 * g + k
          if s.cfg (.ax n) F.ax_KIND = 1 then s.uncertain n 1 false else s) s) s)

/-- VM_REARM: VM has stayed at 6.0 V for 10 µs after a loss. -/
def execVmRearm (s : State) : Host.Outcome State Fault Refusal :=
  .next (s.onSup fun u => { u with vmLow := false })

end Sys2Proof.Machine
end

