-- ==== Sys2Proof/Machine/Reset.lean ====
section
/-!
DEFINITION. Reset (R14, R322, R399, R417, R439, R518, R519): what a reset leaves of the state: the levels at the input pins,
what AON holds, what the flash banks and the OTP row hold. Start-up is a command of its own.
-/

namespace Sys2Proof.Machine

/-! ### What each part keeps -/

/-- An axis: its retention, AOFS, the levels of its limit inputs. With retention lost every retained field takes its reset
value. -/
def Axis.afterReset (a : Axis) (lost : Bool) : Axis :=
  let r := if lost then AxisRet.reset else a.ret
  { Axis.reset with
    pos := r.pos, tgt := r.tgt, remd := r.remd, posOk := r.posOk, homed := r.homed, uncCause := r.uncCause, ret := r,
    line := r.pos * 4194304, lineS := r.pos * 4194304, lastPl := r.pos, aofs := r.aofs, lim0 := a.lim0, lim1 := a.lim1 }

def Enc.afterReset (e : Enc) : Enc := { Enc.reset with a := e.a, b := e.b, i := e.i }
def Cnt.afterReset (c : Cnt) : Cnt := { Cnt.reset with level := c.level }
def Prb.afterReset (q : Prb) : Prb := { Prb.reset with level := q.level }
def Sns.afterReset (q : Sns) : Sns := { Sns.reset with high := q.high }

/-- A channel keeps the temperature rises of its coil. -/
def Chan.afterReset (c : Chan) (lost : Bool) : Chan :=
  if lost then Chan.reset else { Chan.reset with theta1 := c.theta1, theta2 := c.theta2 }

/-- The energy held in the windows survives a reset that keeps AON retention (R417). -/
def Group.afterReset (q : Group) (lost : Bool) : Group := if lost then Group.reset else { Group.reset with buckets := q.buckets }

def Shank.afterReset (k : Shank) (lost : Bool) : Shank :=
  { Shank.reset with groups := k.groups.map fun q => q.afterReset lost, stopLow := k.stopLow, doorOpen := k.doorOpen }

/-- The shutdown level, the loss flags of VM and the brown-out record stay in AON. -/
def Supply.afterReset (u : Supply) (lost : Bool) (cause : Nat) : Supply :=
  { Supply.reset with shut := !lost && u.shut, vmLow := !lost && u.vmLow,
                      vmLostG := if lost then Supply.reset.vmLostG else u.vmLostG,
                      boSrc := if lost then 0 else u.boSrc, bor := cause == 2 }

/-- Domains 8..15 are OFF and the word of R506 is reset by POR only. -/
def Power.afterReset (w : Power) (cause sub : Nat) (lost : Bool) : Power :=
  { Power.reset with inReset := some (cause, sub, lost), wakeSrc := if cause = 1 then 0 else w.wakeSrc,
                     vgdPin := w.vgdPin, testPin := w.testPin, vgdExt := w.vgdExt, testMode := w.testMode, offPend := cause != 1 && w.offPend, aonXtal := cause != 1 && w.aonXtal,
                     clkTr := if cause = 1 then 0 else w.clkTr, sleeps := if cause = 1 then 0 else w.sleeps }

/-- A bank keeps what its cells hold; an erase cut short is made up by the blank check of R457. -/
def Bank.afterReset (q : Bank) : Bank :=
  { Bank.reset with eraseQ := q.eraseQ, erases := q.erases, worn := q.worn, bad := q.bad, rewrite := q.rewrite, setAt := q.setAt,
                    at_ := q.at_, first := q.first, ahead := q.ahead, used := q.used }

/-- The settings region keeps the stored configuration (R473). -/
def FlashCtl.afterReset (f : FlashCtl) : FlashCtl :=
  { FlashCtl.reset with banks := f.banks.map Bank.afterReset, stored := f.stored, lostRecs := f.lostRecs }

/-- What the directory records give: a store in progress is gone, a repair in progress leaves the record it was to replace, each
with RESULT ABORTED (R193, R196, R197). -/
def DirEntry.afterReset (d : DirEntry) : DirEntry :=
  if d.st = .free then DirEntry.empty
  else if d.busy then
    if d.repairing then { d.settled with st := .damaged, result := 5 } else { DirEntry.empty with result := 5 }
  else { d with owner := 0, result := 0 }

/-- The directory after a reset; the sectors of interrupted commands are erased and freed (R197). -/
def State.assetsAfterReset (s : State) : State :=
  let s := s.assets.dir.foldl (fun (s : State) c => if c.2.busy then s.eraseCommand c.2 else s) s
  { s with assets := { s.assets with dir := (s.assets.dir.map fun c => (c.1, c.2.afterReset)).filter fun c => c.2 != DirEntry.empty } }

/-- A port keeps the level of its CTS_N pin. -/
def Port.afterReset (q : Port) : Port := { Port.reset with cts := q.cts }

/-- The jobs whose JOB_DONE mark is in the welt stay findable (R187, R190); the rest is rebuilt by recovery. -/
def Jobs.afterReset (j : Jobs) (log : List Entry) : Jobs :=
  let done (seq : Word) : Bool := log.any fun e =>
    e.kind == 3 && e.body.any fun m => bits m 35 32 == 6 && bits m 11 0 == seq.toNat % 4096 && Mark.near ⟨0, 0, 0, seq⟩ e.seq
  { Jobs.reset with history := j.history.filter fun h => done h.1.seq }

/-- The copy a bank holds of an entry whose writing a reset cuts short: `done` words are programmed, and the one in flight, if
any, reads as its old value, its new one or uncorrectable (R462): the free value `v`. -/
def cutCopy (out flying : Bool) (done v : Nat) : Copy :=
  if out then ⟨0, [], true⟩
  else if !flying || v % 3 == 0 then ⟨done, [], false⟩
  else ⟨done + 1, if v % 3 = 1 then [] else [done], false⟩

/-- The welt keeps what its pool holds; of an entry being written, the words programmed so far (R462). -/
def State.weltAfterReset (s : State) : Welt × State :=
  let w := s.welt
  let kept : Welt := { Welt.reset with log := w.log, head := w.head, tail := w.tail }
  match w.wq with
  | [] => (kept, s)
  | q :: _ =>
    let d (b : Nat) : Nat := (at' s.flash.banks b).done
    let flying (b : Nat) : Bool := decide (d b < q.words.length) && (s.bankOut (1 - b) || decide (d b ≤ d (1 - b)))
    let (n0, s) := s.takeFresh
    let (n1, s) := s.takeFresh
    let c0 := cutCopy (s.bankOut 0) (flying 0) (d 0) (Config.freeNat n0)
    let c1 := cutCopy (s.bankOut 1) (flying 1) (d 1) (Config.freeNat n1)
    if c0.done = 0 ∧ c1.done = 0 then (kept, s)
    else
      let orig := match q.act with | .repair o => o | _ => w.head
      ({ kept with log := w.log ++ [⟨q.words, w.head, orig, c0, c1⟩] }, s)

/-- An update in progress is ABORTED and its target INVALID; the running slot of a FAULT reset leaves TRIAL as INVALID; the
OTP row, the key attributes and an instruction in the test access port stay (R539, R541, R545). -/
def Sec.afterReset (q : Sec) (cause : Nat) : Sec :=
  let busy := q.upd.tstate = 1 || q.upd.tstate = 2
  let slots := if busy then Machine.upd q.slots (1 - q.run) fun t => { t with st := 1 } else q.slots
  let slots := if cause = 4 ∧ (at' slots q.run).st = 3 then Machine.upd slots q.run fun t => { t with st := 1 } else slots
  { Sec.reset with slots := slots, run := q.run, otp := { Otp.reset with words := q.otp.words },
                   upd := if busy then { Update.reset with tstate := 4, result := 7 } else Update.reset,
                   ir := q.ir, guard := q.guard }

/-! ### The reset -/

/-- A reset is asserted: `cause` and `sub` of R518, `lost` where AON retention is lost. -/
def State.resetBy (s : State) (cause sub : Nat) (lost : Bool) : State :=
  let (welt, s) := s.assetsAfterReset.weltAfterReset
  { State.reset with
    pending := s.pending, fresh := s.fresh,
    ports := s.ports.map Port.afterReset,
    jobs := s.jobs.afterReset s.welt.log,
    welt := welt,
    assets := s.assets,
    axes := s.axes.map fun a => a.afterReset lost,
    encs := s.encs.map Enc.afterReset,
    cnts := s.cnts.map Cnt.afterReset,
    prbs := s.prbs.map Prb.afterReset,
    chans := s.chans.map fun c => c.afterReset lost,
    shank := s.shank.afterReset lost,
    power := s.power.afterReset cause sub lost,
    snss := s.snss.map Sns.afterReset,
    sup := s.sup.afterReset lost cause,
    flash := s.flash.afterReset,
    sec := s.sec.afterReset cause }

/-- The causes that hold the safe state from the reset on (R424). -/
def State.safeAtReset (s : State) (cause : Nat) : State :=
  let s := if cause = 4 then s.enterSafe 0xA false else s
  let s := if s.shank.stopLow then (s.onShank fun k => { k with stopped := true }).enterSafe 1 (bit (s.otp 0x17) 23) else s
  let s := if s.shank.doorOpen then s.enterSafe 7 true else s
  if s.sup.shut then s.enterSafe 9 false else s

/-- A reset from its assertion to its release. -/
def State.takeReset (s : State) (cause sub : Nat) (lost : Bool) : State := (s.resetBy cause sub lost).safeAtReset cause

/-- A device fault (R29, R40): the safe state with DEVICE_SAFE, then the FAULT reset with its sub-cause. -/
def State.faultReset (s : State) (sub : Nat) : State := (s.enterSafe 0xA false).takeReset 4 sub false

end Sys2Proof.Machine
end

