-- ==== Sys2Proof/Machine/Flash.lean ====
section
/-!
DEFINITION. Flash and SRAM (R34, R36, R37, R454..R476): word programs and erases with their second attempts, the journal
pool's sectors, bad sectors and retirement, the scrubbers, the settings.
-/

namespace Sys2Proof.Machine

/-! ### Parts that fail (R34, R39, R120) -/

/-- Part codes of R525 that are retired: 1, 2 cores, 3, 4 SRAM banks, 5, 6 flash banks. -/
def State.retiredParts (s : State) : List Nat :=
  [1, 2, 3, 4, 5, 6].filter fun c =>
    if c ≤ 2 then at' s.dev.cores (c - 1) = .retired else if c ≤ 4 then at' s.dev.sramRet (c - 3) else at' s.dev.flashRet (c - 5)

/-- A part has been retired while another was: SECOND_PART (R39). Where several were, bits 7:4 name the lowest part code among them;
R525 says only 'the part already retired' (DESIGN CHOICE). -/
def State.secondPart (s : State) (code : Nat) : State :=
  match s.retiredParts.filter (· != code) with
  | [] => s
  | c :: _ => (s.onDev fun d => { d with secondPart := true }).raise 13 4 31 [field 7 4 c ||| field 3 0 code]

/-- Region of a sector (R454, R474). -/
def sectorRegion (k : Nat) : Nat := if k < 1536 then 0 else if k < 2048 then 1 else if k < 4032 then 2 else 3

/-! ### The journal pool (R157, R168, R190) -/

/-- LPOS lies in the sector of 510 words that begins at `first`. -/
def lposIn (first p : Word) : Bool := (p - first).toNat < 510

/-- The pool sectors entered, oldest first, each with its FIRST; the one the head is in comes last. -/
def Bank.entered (q : Bank) : List (Nat × Word) := q.used ++ [(q.at_, q.first)]

/-- The bank's head must enter a sector before it can program LPOS `p`: the data words of its sector end before it, or a lasting
fault has made the sector bad (R465). -/
def Bank.needsSector (q : Bank) (p : Word) : Bool := !lposIn q.first p || q.bad.contains q.at_ || q.badNext.contains q.at_

/-- The next pool sector in index order that is not bad (R157). -/
def Bank.nextIndex (q : Bank) : Nat :=
  (((List.range 1536).map fun j => (q.at_ + 1 + j) % 1536).find? fun k => !q.bad.contains k && !q.badNext.contains k).getD q.at_

/-- The bank's head enters sector `k`, whose FIRST is `p`. -/
def Bank.enter (q : Bank) (k : Nat) (p : Word) : Bank :=
  { q with used := q.entered, at_ := k, first := p, ahead := q.ahead.filter (· != k) }

/-- The earliest FIRST of some sectors. -/
def earliest : List (Nat × Word) → Option Word
  | [] => none
  | (_, f) :: rest => match earliest rest with
    | some g => some (if f.after g then g else f)
    | none => some f

/-- A later sector holds every LPOS from its FIRST on (R465): the sector in which LPOS `p` lies. -/
def Bank.sectorOf (q : Bank) (p : Word) : Nat := ((q.entered.filter fun c => !c.2.after p).getLast?.map Prod.fst).getD q.at_

/-- Keep 16 erased sectors: the oldest used sectors whose data lie before TAIL_LPOS are erased (R168, R190); `n` bounds them. -/
def Bank.reserve (tail : Word) : Nat → Bank → Bank
  | 0, q => q
  | n + 1, q =>
    if 16 < q.ahead.length + (q.eraseQ.filter (· < 1536)).length then q
    else match q.used with
    | [] => q
    | (k, _) :: rest =>
      if ((earliest (rest ++ [(q.at_, q.first)])).getD q.first).after tail then q
      else (Bank.queueErase k { q with used := rest }).reserve tail n

/-! ### Faults, bad sectors, retirement (R464..R466, R37) -/

/-- The update of the image ends with PROGRAM_FAULT (R541). -/
def State.imageFail (s : State) (result : Nat) : State :=
  let t := 1 - s.sec.run
  { s with sec := { s.sec with slots := upd s.sec.slots t fun q => { q with st := 1 },
                               upd := { s.sec.upd with tstate := 4, result := result, words := [], done := 0 } } }

/-- An update is being loaded or verified. -/
def State.updating (s : State) : Bool := s.sec.upd.tstate == 1 || s.sec.upd.tstate == 2

/-- Power domain `d` (R502). -/
def State.dom (s : State) (d : Nat) : Domain := at' s.power.doms d
def State.onDom (s : State) (d : Nat) (f : Domain → Domain) : State :=
  { s with power := { s.power with doms := upd s.power.doms d f } }

/-- The bank is out of service and its domain OFF until the next reset. -/
def State.dropBank (s : State) (b : Nat) : State :=
  (((s.onDev fun d => { d with flashRet := upd d.flashRet b fun _ => true }).onDom (6 + b) fun d => { d with st := .off }).onBank b
    fun q => { q with eraseQ := [], susp := false, again := false })

/-- What the loss of a bank does to assets, an update and the running image. -/
def State.bankLost (s : State) (b : Nat) : State :=
  let s := s.damageBank b
  let s := if s.updating && s.sec.run != b then s.imageFail 6 else s
  if s.sec.run == b && s.dev.st != .boot then s.faultReset 2 else s

/-- A bank is retired: BANK_RETIRED, its single assets damaged, an update into it ended, and a fault reset where the running
image lies in it. -/
def State.retireBank (s : State) (b : Nat) : State :=
  if s.bankOut b then s
  else (((s.dropBank b).raise 12 8 31 [flashArg b 7 0 0]).secondPart (5 + b)).bankLost b

/-- The bank's sectors that are or will be in its bad-sector table, of region `r`. -/
def Bank.badIn (q : Bank) (r : Nat) : Nat := ((q.bad ++ q.badNext).filter fun k => sectorRegion k == r).length

/-- The bank holds too many bad sectors. -/
def Bank.tooBad (q : Bank) : Bool := decide (112 < q.badIn 0) || decide (32 < q.badIn 1) || decide (8 < q.badIn 3)

/-- A lasting program or erase fault in a sector: PROGRAM_FAULT, the sector is bad; two such faults in different sectors
within 60 s, or too many bad sectors, retire the bank. `later` where data being written must commit first. -/
def State.lastingFlash (s : State) (b sector : Nat) (later : Bool) : State :=
  let now := s.stitch.cycles
  let twice : Bool := match (s.bank b).lastFault with
    | some (k, t) => k != sector && decide (now - t ≤ 12000000000)
    | none => false
  let s := s.onBank b fun q => { q with bad := if later then q.bad else sector :: q.bad,
                                        badNext := if later then sector :: q.badNext else q.badNext,
                                        lastFault := some (sector, now) }
  let s := (s.onFlash fun f => { f with progFault := true }).raise 12 7 31 [flashArg b (sectorRegion sector) 0 sector]
  if twice ∨ (s.bank b).tooBad then s.retireBank b else s

/-- A transient occurrence in a bank (R34, R121). -/
def State.flashTransient (s : State) (b : Nat) : State :=
  s.onDev fun d => { d with flashTr := upd d.flashTr b (· + 1), transient := true }

/-- A stored or loading asset lies on an asset sector. -/
def State.assetOn (s : State) (b k : Nat) : Option (Nat × DirEntry) := s.assets.dir.find? fun c => c.2.holds b k

/-- What a bad sector of the image or asset region does to the work that needs it (R465). -/
def State.sectorLost (s : State) (b sector : Nat) : State :=
  match sectorRegion sector with
  | 1 => if s.sec.upd.tstate = 1 ∧ b = 1 - s.sec.run then s.imageFail 6 else s
  | 2 => match s.assetOn b (sector - 2048) with
    | some (e, d) => if d.cInBank b ∧ d.covers (d.cOffset b) (sector - 2048) then s.assetFail e 4 else s
    | none => s
  | _ => s

/-! ### Word programs (R456, R464, R465) -/

/-- Words of the entry at the front of the queue. -/
def State.frontWords (s : State) : Nat := match s.welt.wq with | w :: _ => w.words.length | [] => 0

/-- LPOS of the word of the entry at the front that bank `b` programs next. -/
def State.nextLpos (s : State) (b : Nat) : Word := s.welt.head + BitVec.ofNat 36 (s.bank b).done

/-- What bank `b` programs next for the welt: FIRST of the sector its head enters, once that sector is erased, or a word of the
entry at the front. Both banks program a word in the same pulse, so the one that is ahead waits for the other (R159, R465). -/
inductive WeltPulse where
  | first (k : Nat) | word
  deriving DecidableEq, Repr

def State.weltPulse (s : State) (b : Nat) : Option WeltPulse :=
  let q := s.bank b
  let o := s.bank (1 - b)
  if s.bankOut b || decide (s.frontWords ≤ q.done) then none
  else if q.needsSector (s.nextLpos b) then (if q.ahead.contains q.nextIndex then some (.first q.nextIndex) else none)
  else if s.bankOut (1 - b) || decide (q.done < o.done) || (q.done == o.done && !o.needsSector (s.nextLpos (1 - b))) then some .word
  else none

/-- A welt program is pending and can run: not one that waits for an erase (R168). -/
def State.weltPending (s : State) : Bool := (s.weltPulse 0).isSome || (s.weltPulse 1).isSome

/-- What the next program pulse of a bank serves. -/
inductive Pulse where
  | welt | first (k : Nat) | settings | asset (e : Nat) | image | none
  deriving DecidableEq, Repr

/-- An image word waits and its sector is erased. -/
def State.imageToProgram (s : State) : Bool :=
  let u := s.sec.upd
  u.tstate == 1 && decide (u.done < u.words.length) &&
    !(s.bank (1 - s.sec.run)).eraseQ.contains (1536 + u.done / 512)

/-- Welt entries come first; settings, asset and image pulses wait for them (R197, R473, R541). The settings go before assets
and images (DESIGN CHOICE, log 61). -/
def State.pulse (s : State) (b : Nat) : Pulse :=
  match s.weltPulse b with
  | some (.first k) => .first k
  | some .word => .welt
  | none =>
    if !s.welt.wq.isEmpty then .none
    else if s.flash.saving.isSome then .settings
    else if !s.assetPulseFree then .none
    else match s.assetToProgram with
      | some c => .asset c.1
      | none => if s.imageToProgram then .image else .none

/-- The sector bank `b` programs in; none where it programs nothing. -/
def State.programming (s : State) (b : Nat) : Option Nat :=
  if s.bankOut b then none
  else match s.pulse b with
  | .welt => some (s.bank b).at_
  | .first k => some k
  | .settings => some (s.bank b).setAt
  | .asset e =>
    let d := s.dirEntry e
    if d.cInBank b ∧ !(if b = 0 then d.ok0 else d.ok1) then
      some (2048 + (d.cOffset b + (d.taken - d.staged.length)) / 512)
    else none
  | .image => if b = 1 - s.sec.run then some (1536 + s.sec.upd.done / 512) else none
  | .none => none

/-- The bank whose head decides on an ANCHOR (R190). -/
def State.anchorBank (s : State) : Nat := if s.bankOut 0 then 1 else 0

/-- FIRST of sector `k` is programmed: the head of bank `b` is in it; an ANCHOR follows where its index is a multiple of 16. -/
def State.enterSector (s : State) (b k : Nat) : State :=
  let s := s.onBank b fun q => (q.enter k (s.nextLpos b)).reserve s.welt.tail 16
  if b = s.anchorBank ∧ k % 16 = 0 then s.writeEntry 1 3 s.jobs.decided [s.welt.tail] .nothing else s

/-- A data word counts towards a bank's load (R189). -/
def Welt.count (w : Welt) (b : Nat) : Welt :=
  { w with load := upd w.load b fun l => match l with | n :: m => (n + 1) :: m | [] => [1] }

/-- A word is programmed and verified in bank `b`. -/
def State.programmed (s : State) (b : Nat) : State :=
  match s.pulse b with
  | .welt => (s.onBank b fun q => { q with done := q.done + 1 }).onWelt fun w => w.count b
  | .first k => s.enterSector b k
  | .asset e => s.assetProgram e b
  | .image =>
    let u := s.sec.upd
    { s with sec := { s.sec with upd := { u with done := u.done + 1, tstate := if u.done + 1 = u.clen then 2 else 1 } } }
  | .settings | .none => s

/-- The settings record goes to the next sector of the region that is not bad (R465). -/
def Bank.nextSettings (q : Bank) : Bank :=
  let next := ((List.range 64).map fun j => 4032 + (q.setAt - 4032 + 1 + j) % 64).find? fun k => !q.bad.contains k && !q.badNext.contains k
  { q with setAt := next.getD q.setAt }

/-- A lasting program fault in bank `b`; the owner of the data acts (R465): the welt restarts the entry in the next erased
sector, whose FIRST is the entry's first LPOS. -/
def State.programLost (s : State) (b sector : Nat) : State :=
  match s.pulse b with
  | .welt => (s.onBank b fun q => { q with done := 0 }).lastingFlash b sector true
  | .first k => (s.onBank b fun q => { q with ahead := q.ahead.filter (· != k) }).lastingFlash b sector true
  | .settings => (s.lastingFlash b sector false).onBank b Bank.nextSettings
  | .asset e => (s.assetFail e 4).lastingFlash b sector false
  | .image => (s.imageFail 6).lastingFlash b sector false
  | .none => s

/-- An erase is in progress in the bank. -/
def Bank.erasing (q : Bank) : Bool := !q.eraseQ.isEmpty

/-- An erase runs and is not suspended (R455). -/
def State.eraseRuns (s : State) : Bool :=
  [0, 1].any fun b => !s.bankOut b && (s.bank b).erasing && !(s.bank b).susp

/-- The erases in progress are suspended (R460). -/
def State.suspend (s : State) : State := s.onFlash fun f => { f with banks := f.banks.map fun q => { q with susp := q.erasing } }

/-- The pulse of bank `b` fails a first time, or is made good by its repeat pulse, or fails for good (R464). -/
def State.pulseEnd (s : State) (b sector : Nat) (ok : Bool) : State :=
  let again (s : State) (v : Bool) : State := s.onBank b fun q => { q with again := v }
  if ok then (if (s.bank b).again then (again s false).flashTransient b else s).programmed b
  else if (s.bank b).again then (again s false).programLost b sector
  else again s true

/-- WORD_PROGRAM_DONE: a pulse of bank `b` ends with its margin verify; an erase stands suspended meanwhile, and only the welt
suspends one (R460). -/
def execWordProgramDone (bank : Fin 2) (ok : Bool) (s : State) : Host.Outcome State Fault Refusal :=
  match s.programming bank with
  | none => .next s
  | some sector => if s.eraseRuns && !s.weltPending then .next s else .next (s.suspend.pulseEnd bank sector ok)

/-! ### Erases (R457, R460, R464, R471) -/

/-- The erases a sector has had. -/
def Bank.erasesOf (q : Bank) (k : Nat) : Nat := match q.erases.find? (fun c => c.1 == k) with | some c => c.2 | none => 0

/-- An erase counts against its sector's endurance: WEAR_WARN at 80,000 cycles (R471). -/
def State.countErase (s : State) (b k : Nat) : State :=
  let n := (s.bank b).erasesOf k + 1
  let warn := decide (80000 ≤ n) && !(s.bank b).worn.contains k
  let s := s.onBank b fun q =>
    { q with erases := (k, n) :: q.erases.filter (fun c => c.1 != k), worn := if warn then k :: q.worn else q.worn }
  if warn then (s.onFlash fun f => { f with wearWarn := true }).raise 12 1 31 [flashArg b (sectorRegion k) 0 k] else s

/-- A sector has been erased and its blank check has passed: a journal sector joins the erased reserve, its header word 0
programmed with it (R157); a sector rewritten in place takes its words from the good copy again (R470). -/
def State.sectorErased (s : State) (b k : Nat) : State :=
  let again := (s.bank b).rewrite.contains k
  let s := s.onBank b fun q =>
    { q with eraseQ := q.eraseQ.filter (· != k), slices := 0, eraseTwo := false, rewrite := q.rewrite.filter (· != k),
             ahead := if k < 1536 then q.ahead ++ [k] else q.ahead }
  let s := if again ∧ sectorRegion k = 2 then s.rewriteAsset b (k - 2048) else s
  s.countErase b k

/-- ERASE_SLICE_END: a slice ends with its blank check. -/
def execEraseSliceEnd (bank : Fin 2) (blank : Bool) (s : State) : Host.Outcome State Fault Refusal :=
  let b := bank.val
  match (s.bank b).eraseQ with
  | [] => .next s
  | k :: _ =>
    if s.bankOut b ∨ (s.bank b).susp ∨ s.weltPending then .next s
    else if blank then
      let s := if (s.bank b).eraseTwo then s.flashTransient b else s
      .next (s.sectorErased b k)
    else if (s.bank b).slices + 1 < 32 then .next (s.onBank b fun q => { q with slices := q.slices + 1 })
    else if !(s.bank b).eraseTwo then .next (s.onBank b fun q => { q with slices := 0, eraseTwo := true })
    else
      let s := s.onBank b fun q => { q with eraseQ := q.eraseQ.drop 1, slices := 0, eraseTwo := false }
      .next ((s.sectorLost b k).lastingFlash b k false)

/-- ERASE_RESUME: no welt program is pending and no read waits (R460). -/
def execEraseResume (bank : Fin 2) (s : State) : Host.Outcome State Fault Refusal :=
  .next (if s.weltPending then s else s.onBank bank fun q => { q with susp := false })

/-! ### The scrubber (R467..R470) -/

/-- A pass starts. -/
def FlashCtl.startPass (f : FlashCtl) (fast : Bool) : FlashCtl :=
  { f with pass := true, fast := fast, sector := 0,
           banks := f.banks.map fun q => { q with corrSeen := [], uncorrSeen := [] } }

/-- SCRUB_PASS_START: SCRUB_H hours after the previous pass started. -/
def execScrubPassStart (s : State) : Host.Outcome State Fault Refusal :=
  .next (if s.flash.scrubEn ∧ !s.flash.pass ∧ (s.dev.st = .ready ∨ s.dev.st = .safe) then s.onFlash fun f => f.startPass false else s)

/-- LPOS of word `o` of pool sector `k`, where the sector holds the word of that position: no later sector does (R465). -/
def Bank.lposAt (q : Bank) (k o : Nat) : Option Word :=
  if o < 2 then none
  else match q.entered.findIdx? (fun c => c.1 == k) with
  | some i =>
    let p := (q.entered.getD i (0, 0)).2 + BitVec.ofNat 36 (o - 2)
    if (q.entered.drop (i + 1)).any fun c => !c.2.after p then none else some p
  | none => none

/-- The committed entry that holds an LPOS. -/
def State.entryAt (s : State) (p : Word) : Option Entry :=
  s.welt.log.find? fun e => decide ((p - e.lpos).toNat < e.size)

/-- A later entry is or will be its repair. -/
def State.repaired (s : State) (e : Entry) : Bool :=
  (s.welt.log.any fun d => d.orig == e.orig && d.lpos.after e.lpos) || s.welt.wq.any fun w => w.act == .repair e.orig

/-- Rewrite an entry at the head from its good copy: JOURNAL_REPAIRED (R177). -/
def State.repairAt (s : State) (b sector : Nat) (e : Entry) : State :=
  (s.onWelt fun w => { w with wq := w.wq ++ [⟨e.words, .repair e.orig⟩] }).raise 12 5 31 [flashArg b 0 0 sector]

/-- The entry is live, at the place of the one it stands for. -/
def State.liveEntry (s : State) (e : Entry) : Bool :=
  let rec go : List Entry → Bool
    | [] => false
    | d :: rest => if d.lpos = e.lpos then s.live d rest else go rest
  go (standing s.welt.log)

/-- Word `i` of an entry reads bad in a bank: repaired at the head from its good copy, or a double fault (R177, R469). A
committed entry is never torn, whatever follows it (DEDUCED, log 64). -/
def State.entryBad (s : State) (b sector i : Nat) (e : Entry) : State :=
  let lose (d : Entry) : Entry := if d.lpos = e.lpos then d.onCopy b fun c => { c with lost := i :: c.lost } else d
  let t := s.onWelt fun w => { w with log := w.log.map lose }
  if !e.goodIn b || !s.liveEntry e || s.repaired e then t
  else if e.goodIn (1 - b) && !s.bankOut (1 - b) then t.repairAt b sector e
  else (t.onDev fun d => { d with jdf := true }).raise 12 6 31 [flashArg b 0 0 sector]

/-- Act on the entry that holds word `o` of journal sector `k`, with the word's index in it. -/
def State.atEntry (s : State) (b k o : Nat) (f : Nat → Entry → State) : State :=
  match (s.bank b).lposAt k o with
  | some p => match s.entryAt p with
    | some e => f (p - e.lpos).toNat e
    | none => s
  | none => s

/-- A lasting uncorrectable word of the journal. -/
def State.journalBad (s : State) (b k o : Nat) : State := s.atEntry b k o fun i e => s.entryBad b k i e

/-- A correctable word of the journal that its top-up did not restore: the entry is repaired at the head (R470). -/
def State.journalWeak (s : State) (b k o : Nat) : State :=
  s.atEntry b k o fun _ e => if s.liveEntry e && !s.repaired e then s.repairAt b k e else s

/-- Lanes 0..17 are all IDLE. -/
def State.lanesIdle (s : State) : Bool := (List.range 18).all fun i => (s.lane i).state = .idle

/-- IMAGE_SWITCH has been raised and lanes 0..17 are all IDLE: the fault reset follows. -/
def State.switchImage (s : State) : State := if s.flash.imageSwitch ∧ s.lanesIdle then s.faultReset 3 else s

/-- A lasting uncorrectable word of image slot `b`. -/
def State.imageBad (s : State) (b : Nat) : State :=
  if b ≠ s.sec.run then
    { s with sec := { s.sec with slots := upd s.sec.slots b fun q => { q with st := if q.st = 0 then 0 else 1 } } }
  else if s.flash.imageSwitch then s
  else
    let s : State := { s with sec := { s.sec with slots := upd s.sec.slots b fun q => { q with sig := false } } }
    ((s.onFlash fun f => { f with imageSwitch := true }).raise 12 9 31 [flashArg (1 - b) 1 0 0]).switchImage

/-- LEN of the image in a slot (R537). -/
def Slot.len (q : Slot) : Nat := bits (q.hdr.getD 1 0) 18 0

/-- A sector holds no data. -/
def State.sectorFree (s : State) (b k : Nat) : Bool :=
  match sectorRegion k with
  | 0 => (s.bank b).ahead.contains k
  | 1 => (at' s.sec.slots b).st = 0 && !s.updating || decide ((at' s.sec.slots b).len + 511 < (k - 1536) * 512)
  | 2 => !s.sectorTaken b (k - 2048)
  | _ => false

/-- A lasting uncorrectable word of the settings: rewritten in place from the other copy; where that is none, a record is lost,
which one the internal layout of the region decides: a free value (R469, R472). -/
def State.settingsBad (s : State) (b k : Nat) : State :=
  if !s.bankOut (1 - b) && !(s.bank (1 - b)).rewrite.contains k then s.onBank b (Bank.rewriteIn k)
  else
    let (n, s) := s.takeFresh
    s.onFlash fun f => { f with lostRecs := Config.freeNat n % 4097 :: f.lostRecs }

/-- A lasting uncorrectable word, by its region (R469). -/
def State.wordBad (s : State) (b addr : Nat) : State :=
  let k := addr / 512
  match sectorRegion k with
  | 0 => s.journalBad b k (addr % 512)
  | 1 => s.imageBad b
  | 2 => s.assetWordBad b (addr - 2048 * 512)
  | _ => s.settingsBad b k

/-- INDEX of R474 for a scrubber finding in an asset. -/
def State.scrubIndex (s : State) (b k : Nat) : Nat :=
  if sectorRegion k = 2 then match s.assetOn b (k - 2048) with | some c => c.1 | none => 0 else 0

/-- A correctable word is refreshed; whether the top-up verifies is the cell's, a free value. Where it does not, a journal entry is
repaired at the head, a mirrored asset's or a settings sector is rewritten in place, and any other word stays correctable
(R470). -/
def State.scrubCorrectable (s : State) (b addr : Nat) : State :=
  let k := addr / 512
  let seen := (s.bank b).corrSeen.contains k
  let s := s.onFlash fun f => { f with corr := true }
  let s := if seen then s else
    (s.onBank b fun q => { q with corrSeen := k :: q.corrSeen }).raise 12 2 31 [flashArg b (sectorRegion k) (s.scrubIndex b k) k]
  let (n, s) := s.takeFresh
  if Config.freeBool n then s
  else match sectorRegion k with
  | 0 => s.journalWeak b k (addr % 512)
  | 2 => match s.assetOn b (k - 2048) with
    | some c => if c.2.st = .ready ∧ c.2.place = 2 ∧ !s.bankOut (1 - b) then s.onBank b (Bank.rewriteIn k) else s
    | none => s
  | 3 => if s.bankOut (1 - b) then s else s.onBank b (Bank.rewriteIn k)
  | _ => s

/-- An uncorrectable word whose second attempt has failed. -/
def State.scrubUncorrectable (s : State) (b addr : Nat) : State :=
  let k := addr / 512
  let seen := (s.bank b).uncorrSeen.contains k
  let s := s.onFlash fun f => { f with uncorr := true }
  let s := if seen then s else
    (s.onBank b fun q => { q with uncorrSeen := k :: q.uncorrSeen }).raise 12 3 31 [flashArg b (sectorRegion k) (s.scrubIndex b k) k]
  let s := s.wordBad b addr
  if 16 ≤ (s.bank b).uncorrSeen.length then s.retireBank b else s

/-- The pass comes to a word; it ends behind the last word of the last bank in service. -/
def State.scrubAt (s : State) (b addr : Nat) : State :=
  let last := addr + 1 == 2 ^ 21 && (b == 1 || s.bankOut 1)
  s.onFlash fun f => { f with sector := addr / 512, pass := !last, fast := f.fast && !last }

/-- SCRUB_READ: the scrubber reads word `addr` of a bank; the verdict, after the second attempt of R464, is 0 erased,
1 correct, 2 correctable, 3 uncorrectable. -/
def execScrubRead (bank : Fin 2) (addr : BitVec 21) (verdict : BitVec 2) (s : State) : Host.Outcome State Fault Refusal :=
  let b := bank.val
  let k := addr.toNat / 512
  if !s.flash.pass ∨ !s.flash.scrubEn ∨ s.bankOut b ∨ (s.bank b).eraseQ.head? = some k then .next s
  else
    let s := s.scrubAt b addr.toNat
    if s.sectorFree b k then
      if verdict = 0 then .next s
      else .next (s.onBank b fun q => Bank.queueErase k { q with ahead := q.ahead.filter (· != k) })
    else if verdict = 0 then .next (if sectorRegion k = 0 then s.journalBad b k (addr.toNat % 512) else s)
    else if verdict = 1 then .next s
    else if verdict = 2 then .next (s.scrubCorrectable b addr.toNat)
    else .next (s.scrubUncorrectable b addr.toNat)

/-! ### SRAM (R34, R36, R475) -/

/-- An SRAM bank is retired: its head lane faults. -/
def State.retireSram (s : State) (b : Nat) : State :=
  if at' s.dev.sramRet b then s
  else
    let s := s.onDev fun d => { d with sramRet := upd d.sramRet b fun _ => true }
    let s := s.onDom (4 + b) fun d => { d with st := .off }
    ((s.raise 13 3 31 [field 3 0 (3 + b)]).secondPart (3 + b)).laneFault b

/-- SRAM_SCRUB_TICK: the pass of one second over a bank finds nothing (0), corrects (1), or finds an uncorrectable word
whose second attempt succeeds (2) or fails (3). -/
def execSramScrubTick (bank : Fin 2) (verdict : BitVec 2) (s : State) : Host.Outcome State Fault Refusal :=
  let b := bank.val
  if at' s.dev.sramRet b then .next s
  else
    let now := s.stitch.cycles
    let soon : Bool := match at' s.dev.sramErr b with | some t => decide (now - t ≤ 200000000) | none => false
    if verdict = 3 ∨ (verdict = 2 ∧ soon) then .next (s.retireSram b)
    else if verdict = 2 then
      .next (s.onDev fun d => { d with sramErr := upd d.sramErr b fun _ => some now, sramTr := upd d.sramTr b (· + 1),
                                       transient := true })
    else .next s

/-! ### The settings (R472, R473) -/

/-- Words of the configuration image: those with a field whose reset value is stored in flash, and RECOV_MODE. -/
def inSettings (a : Nat) : Bool := (0x1000 ≤ a && a < 0x1100) || a == 0x2000 || (0x10000 ≤ a && a < 0x100000)

/-- The settings may be written in the device's state (R116). -/
def State.mayFlash (s : State) : Bool := s.dev.st = .ready || s.dev.st = .safe

/-- A save or a scrub pass runs; a pass that a clear SCRUB_EN has halted does not (R116, R467). -/
def State.flashBusy (s : State) : Bool := s.flash.saving.isSome || (s.flash.pass && s.flash.scrubEn)

/-- A write of SAVE = 1: a snapshot of the configuration in force. -/
def State.writeSave (s : State) : State × Nat :=
  if !s.mayFlash then (s, rcState)
  else if s.flashBusy then (s, rcBusy)
  else (s.onFlash fun f => { f with saving := some (s.tbl.force.filter fun c => inSettings c.1) }, 0)

/-- A write of SCRUB_NOW = 1. -/
def State.writeScrubNow (s : State) : State × Nat :=
  if !s.mayFlash then (s, rcState)
  else if s.flashBusy then (s, rcBusy)
  else (s.onFlash fun f => f.startPass true, 0)

def execSave (port : Fin 2) (s : State) : Host.Outcome State Fault Refusal := answer port false s.writeSave
def execScrubNow (port : Fin 2) (s : State) : Host.Outcome State Fault Refusal := answer port false s.writeScrubNow

/-- SAVE_DONE: the new image has committed in every bank in service; not while a bank's last pulse waits for its repeat. -/
def execSaveDone (s : State) : Host.Outcome State Fault Refusal :=
  match s.flash.saving with
  | some st =>
    if [0, 1].any fun b => !s.bankOut b && (s.bank b).again then .next s
    else .next (s.onFlash fun f => { f with saving := none, stored := st, lostRecs := f.lostRecs.filter (· != 0) })
  | none => .next s

end Sys2Proof.Machine
end

