-- ==== Sys2Proof/Machine/Uart.lean ====
section
/-!
DEFINITION. The UARTs (R135, R484..R501): characters and their flags, the AUX ports with their registers, the AUX_XFER
record, flow control on the host ports.
-/

namespace Sys2Proof.Machine

/-- AUX port `k` (0 AUX2, 1 AUX3). -/
def State.aux (s : State) (k : Nat) : Aux := at' s.uarts.aux k
def State.onAux (s : State) (k : Nat) (f : Aux → Aux) : State := { s with uarts := { s.uarts with aux := upd s.uarts.aux k f } }
def State.setXfer (s : State) (x : Option Xfer) : State := { s with uarts := { s.uarts with xfer := x } }

/-! ### Sending (R485, R489, R497) -/

/-- Bits of a character with its start, parity and stop bits. -/
def Aux.charBits (a : Aux) : Nat :=
  1 + (if a.nine then 9 else 8) + (if !a.nine && a.par != 0 then 1 else 0) + (if a.stop2 then 2 else 1)

/-- UARTCLK cycles of a character in 1/6250; 5 ns are 2304/6250 of a UARTCLK cycle. -/
def Aux.charCost (a : Aux) : Nat := a.charBits * 16 * a.div * 6250

/-- Free places of the transmit queue; the first character waiting is in the shifter, not in the queue (R497). -/
def Aux.txFree (a : Aux) : Nat := 64 - (a.tx.length - 1)

/-- TX_DONE. -/
def Aux.txDone (a : Aux) : Bool := a.tx.isEmpty

/-- Characters leave the queue while the time given covers them; `n` bounds them. -/
def Aux.send : Nat → Aux → Aux
  | 0, a => a
  | n + 1, a =>
    match a.tx with
    | [] => { a with credit := 0 }
    | _ :: rest => if a.charCost ≤ a.credit then Aux.send n { a with tx := rest, credit := a.credit - a.charCost } else a

/-- A stitch of `cycles` 5 ns cycles has passed for the transmitter. -/
def Aux.drain (a : Aux) (cycles : Nat) : Aux := Aux.send a.tx.length { a with credit := a.credit + cycles * 2304 }

/-- Transmission stops at the end of the character in progress, the queue is emptied (R497). -/
def Aux.cut (a : Aux) : Aux := { a with tx := a.tx.take 1 }

/-! ### AUX_XFER (R500) -/

/-- Fields of an AUX_XFER's first word (R142). -/
def Rec.auxPort (r : Rec) : Nat := bits (r.w 1) 35 35
def Rec.auxAddr (r : Rec) : Bool := bit (r.w 1) 34
def Rec.rxMax (r : Rec) : Nat := bits (r.w 1) 23 12
def Rec.ntx (r : Rec) : Nat := bits (r.w 1) 11 0

/-- The bytes to send. -/
def Rec.txBytes (r : Rec) : List Nat := (((r.payload.drop 1).flatMap wordBytes).map BitVec.toNat).take r.ntx

/-- An AUX_XFER is released; on a port that is not enabled for it the lane faults with the record held. -/
def State.startXfer (s : State) (q : QItem) : State :=
  let k := q.r.auxPort
  let a := s.aux k
  if !a.en ∨ !a.tunnel then s.heldFault 18 q
  else
    let cs := q.r.txBytes.zipIdx.map fun c => if a.nine && q.r.auxAddr && c.2 == 0 then c.1 + 256 else c.1
    s.setXfer (some ⟨k, q.r.rxMax, s.stitch.n, false, cs, false, []⟩)

/-- RESULT entries of received characters, 21 to an entry (R161); `n` bounds them. -/
def State.writeResults (s : State) (q : QItem) : Nat → List Nat → State
  | 0, _ => s
  | n + 1, cs =>
    if cs.isEmpty then s
    else
      let p := cs.take 21
      let ws := p.zipIdx.foldl (fun (ws : List Word) c =>
        match c.2 % 3 with
        | 0 => ws ++ [field 35 24 c.1]
        | 1 => ws.dropLast ++ [(ws.getLast?.getD 0) ||| field 23 12 c.1]
        | _ => ws.dropLast ++ [(ws.getLast?.getD 0) ||| field 11 0 c.1]) []
      State.writeResults (s.writeEntry 8 (s.portOf q.job) q.job ((field 35 24 q.idx ||| field 11 0 p.length) :: ws) .nothing)
        q n (cs.drop 21)

/-- Reception ends: the results are written, then the record ENDS (R500 step 4). -/
def State.endXfer (s : State) : State :=
  match s.uarts.xfer, (s.lane 18).running with
  | some x, some q =>
    let s := s.setXfer none
    let s := s.writeResults q (x.got.length + 1) x.got
    let s := s.onJob q.job fun j => { j with results := (q.idx, x.got) :: j.results.filter fun r => r.1 != q.idx }
    s.endRecord 18 q
  | _, _ => s.setXfer none

/-- A stop or the record's timeout: transmission ends after the character in progress, reception at once. -/
def State.stopXfer (s : State) : State :=
  match s.uarts.xfer with
  | some x => (s.onAux x.port Aux.cut).endXfer
  | none => s

/-- Reception opens once the last stop bit is sent; with RXMAX = 0 it ends as it opens. -/
def State.openRx (s : State) : State :=
  match s.uarts.xfer with
  | some x =>
    if x.started && !x.rxOpen && (s.aux x.port).txDone then
      let s := s.setXfer (some { x with rxOpen := true })
      if x.rxMax = 0 then s.endXfer else s
    else s
  | none => s

/-- The AUX lane at a stitch boundary: characters sent in the stitch that ends, a transfer released in it begins. -/
def State.auxSlot (s : State) (cycles : Nat) : State :=
  let s := { s with uarts := { s.uarts with aux := s.uarts.aux.map fun (a : Aux) => a.drain (if s.uartsRun then cycles else 0) } }
  let s := s.openRx
  match s.uarts.xfer with
  | some x =>
    if !x.started && decide (x.from_ < s.stitch.n) then
      ((s.onAux x.port fun a => { a with tx := x.chars, credit := 0 }).setXfer (some { x with started := true })).openRx
    else s
  | none => s

/-- AUX_XFER_END: the line has been idle for 2 t_ch after a character, or 64 t_ch have passed without one. -/
def execAuxXferEnd (s : State) : Host.Outcome State Fault Refusal :=
  match s.uarts.xfer with
  | some x => .next (if x.rxOpen then s.endXfer else s)
  | none => .next s

/-! ### Receiving (R488..R494) -/

/-- The majority of samples 7, 8 and 9 of a bit (R488). -/
def majority (v : BitVec 3) : Bool := (v &&& (v >>> 1)) != 0 || (v &&& 5) == 5

/-- A character as decoded. -/
structure Heard where
  char : Nat
  noise : Bool
  ferr : Bool
  perr : Bool
  deriving DecidableEq, Repr

/-- The samples of a character's bits in their order on the line. -/
def charSamples (start : BitVec 3) (data parity : List (BitVec 3)) (stop : BitVec 3) : List (BitVec 3) :=
  start :: (data ++ parity ++ [stop])

/-- Decode a character from samples 7, 8 and 9 of each of its bits, the start bit first; none for a false start. A bit without
samples reads as an idle line (R488, R489). -/
def decodeChar (nine : Bool) (par : Nat) (samples : List (BitVec 3)) : Option Heard :=
  let b (k : Nat) : BitVec 3 := samples.getD k 7
  let n := if nine then 9 else 8
  let p := !nine && par != 0
  let stop := if p then n + 2 else n + 1
  let data := (List.range n).map fun k => majority (b (k + 1))
  if majority (b 0) then none
  else some { char := (data.zipIdx.map fun c => if c.1 then 2 ^ c.2 else 0).foldl (· + ·) 0,
              noise := (List.range (stop + 1)).any fun k => b k != 0 && b k != 7,
              ferr := !majority (b stop),
              perr := p && ((data.foldl xor (majority (b (n + 1)))) != (par == 2)) }

/-- The element a character becomes (R492). -/
def element (char : Nat) (noise ferr perr : Bool) : Nat :=
  char % 512 + (if perr then 512 else 0) + (if ferr then 1024 else 0) + (if noise then 2048 else 0)

/-- Characters in ring and FIFO of a host port (R495). -/
def Port.rxFill (q : Port) : Nat := q.rxRing.length + q.rxFifo.length

/-- RTS_N follows the fill of ring and FIFO, 3136 characters together (R495). -/
def Port.setRts (q : Port) : Port :=
  { q with rts := if 3136 < q.rxFill + 64 then false else if q.rxFill + 1024 ≤ 3136 then true else q.rts }

/-- A character on a host port: its element stored in the FIFO, the overrun bit telling of characters lost before it, or the
character lost (R492, R494); the noise flag counted (R91, R105). -/
def Port.char (q : Port) (char : Nat) (noise ferr : Bool) : Port :=
  let q := if noise then { q with noiseSeen := true, noise := q.noise + 1 } else q
  if q.rxFill < 3136 then
    Port.setRts { q with rxFifo := q.rxFifo ++ [element (char % 256) noise ferr q.rxLost], rxLost := false }
  else { q with rxLost := true }

/-- A character accepted on an AUX port that the host reads directly. -/
def Aux.store (a : Aux) (e : Nat) (noise ferr perr : Bool) : Aux :=
  if 255 ≤ a.rx.length then { a with ovr := true }
  else { a with rx := a.rx ++ [e], noise := a.noise || noise, ferr := a.ferr || ferr, perr := a.perr || perr }

/-- A character on an AUX port: ADDR_ONLY, then the transfer's result or the direct queue. -/
def State.auxChar (s : State) (k char : Nat) (noise ferr perr : Bool) : State :=
  let a := s.aux k
  if !a.en then s
  else
    let addr := a.nine && char.testBit 8
    let take := !a.addrOnly || a.taking || addr
    let s := s.onAux k fun a => { a with idle := false, taking := take }
    if !take then s
    else
      let e := element (if a.nine then char else char % 256) noise ferr perr
      if !a.tunnel then s.onAux k fun a => a.store e noise ferr perr
      else match s.uarts.xfer with
        | some x =>
          if x.port = k ∧ x.rxOpen then
            let s := (s.onAux k fun a => { a with noise := a.noise || noise, ferr := a.ferr || ferr, perr := a.perr || perr }).setXfer
              (some { x with got := x.got ++ [e] })
            if x.rxMax ≤ x.got.length + 1 then s.endXfer else s
          else s
        | none => s

/-- LINE_IDLE: RXD has been high for one character time (R490, R491). -/
def execLineIdle (uart : Fin 4) (s : State) : Host.Outcome State Fault Refusal :=
  .next (if uart.val < 2 then s else s.onAux (uart.val - 2) fun a => if a.en then { a with idle := true, taking := false } else a)

/-! ### AUX registers (R135, R499) -/

/-- A TX write. -/
def State.writeAuxTx (s : State) (k char : Nat) : State × Nat :=
  let a := s.aux k
  if !s.mayFlash ∨ a.tunnel ∨ !a.en then (s, rcState)
  else if a.txFree = 0 then (s, rcBusy)
  else (s.onAux k fun a => { a with tx := a.tx ++ [if a.nine then char % 512 else char % 256] }, 0)

/-- An RX read: the word and the state after it. -/
def State.readAuxRx (s : State) (k : Nat) : Word × State :=
  let a := s.aux k
  match a.rx with
  | e :: rest =>
    if a.tunnel then (0, s)
    else (flag 35 true ||| flag 34 (e.testBit 11) ||| flag 33 (e.testBit 10) ||| flag 32 (e.testBit 9) ||| field 8 0 e,
      s.onAux k fun a => { a with rx := rest })
  | [] => (0, s)

/-- A CTL write. -/
def State.writeAuxCtl (s : State) (k : Nat) (w : Word) : State × Nat :=
  let a := s.aux k
  let b := { a with div := bits w 23 8, en := bit w 7, nine := bit w 6, par := bits w 5 4, stop2 := bit w 3,
                    addrOnly := bit w 2, tunnel := bit w 1 }
  let changes := a.div != b.div || a.en != b.en || a.nine != b.nine || a.par != b.par || a.stop2 != b.stop2 || a.tunnel != b.tunnel
  let runs := match s.uarts.xfer with | some x => x.port == k | none => false
  if b.div = 0 ∨ 640 < b.div ∨ b.par = 3 then (s, rcRange)
  else if changes && (!a.txDone || runs) then (s, rcBusy)
  else
    let b := if a.en && !b.en then { b with rx := [], tx := [], credit := 0, idle := false } else b
    (s.onAux k fun _ => { b with taking := if a.addrOnly then b.taking else false,
                                 idle := b.idle && a.en }, 0)

def execAuxTxWrite (port : Fin 2) (aux : Fin 2) (char : BitVec 9) (s : State) : Host.Outcome State Fault Refusal :=
  answer port false (s.writeAuxTx aux char.toNat)

/-- AUX_RX_READ: the word is returned to the port. -/
def execAuxRxRead (port : Fin 2) (aux : Fin 2) (s : State) : Host.Outcome State Fault Refusal :=
  let r := s.readAuxRx aux
  .next (r.2.onPort port fun q => { q with rdata := r.1 })

def execAuxCtlWrite (port : Fin 2) (aux : Fin 2) (value : Word) (s : State) : Host.Outcome State Fault Refusal :=
  answer port false (s.writeAuxCtl aux value)

end Sys2Proof.Machine
end

