-- ==== Sys2Proof/Machine/Power.lean ====
section
/-!
DEFINITION. Power domains, clocks, the power states, reset sources and the job cores (R28..R35, R452, R502..R520).
-/

namespace Sys2Proof.Machine

/-! ### Engine domains (R503..R505) -/

/-- KEEP of an engine domain. -/
def State.keep (s : State) (d : Nat) : Bool := s.cfgB .pwr (F.pwr_KEEP.plus (d - 8))

/-- A lane leaves its engine domain idle: it runs nothing and no record at its head waits for POWER only. -/
def Lane.quiet (l : Lane) : Bool := l.state != .running && l.running.isNone && l.tail.isEmpty && !(l.state == .waiting && l.wait == .power)

/-- The state conditions of a head's lane. -/
def Lane.headIdle (l : Lane) : Bool := l.quiet && (l.state == .idle || l.state == .stopped || l.state == .fault || l.state == .out)

/-- An axis lets its group power down: no axis motor, or one that rests in FREE, and no bridge that drives or is checked. -/
def State.axisIdle (s : State) (n : Nat) : Bool :=
  let a := s.ax n
  let free (b : Bridge) : Bool := b.st != .recover && b.st != .calib && !b.drives && !b.keeps
  (s.lane (n + 2)).quiet && free a.a1 && free a.b1 &&
    (s.cfg (.ax n) F.ax_KIND == 0 || s.cfg (.ax n) F.ax_KIND == 2 || (a.mode == .rest && (a.sstate == 2 || a.sstate == 4)))

/-- A channel lets its group power down. -/
def Chan.domIdle (c : Chan) : Bool := (c.st == .idle || c.st == .fault) && c.start.isNone

/-- The conditions of R504, KEEP apart. -/
def State.domConditions (s : State) (d : Nat) : Bool :=
  if d < 8 then false
  else if d < 10 then (s.lane (d - 8)).headIdle && (s.head (d - 8)).sstate != 1 && !(s.head (d - 8)).vhen
  else if d < 14 then [0, 1, 2].all fun k => s.axisIdle (3 * (d - 10) + k)
  else (s.lane (14 + 2 * (d - 14))).quiet && (s.lane (15 + 2 * (d - 14))).quiet &&
    (List.range 16).all fun k => (s.chan (16 * (d - 14) + k)).domIdle

/-- A running self-test holds the domains of its pins in RUN (R528). -/
def State.bistHolds (s : State) (d : Nat) : Bool :=
  s.sec.bistResult == 1 &&
    (if s.sec.bistTest = 3 then d == 8 || d == 9 else (s.sec.bistTest == 1 || s.sec.bistTest == 2) && 10 ≤ d)

/-- A domain counts as idle. -/
def State.domIdle (s : State) (d : Nat) : Bool := s.domConditions d && !s.keep d && !s.bistHolds d && !(s.dom d).req

/-- DOMAIN_IDLE: the domain has been idle for IDLE_T. -/
def execDomainIdle (dom : Fin 16) (s : State) : Host.Outcome State Fault Refusal :=
  .next (if s.domIdle dom && (s.dom dom).st == .run then s.onDom dom fun d => { d with st := .idle } else s)

/-- An engine domain that is off: its working state is lost, no gate is driven. -/
def State.domainDown (s : State) (d : Nat) : State :=
  let s := s.onDom d fun w => { w with st := .off, req := false }
  let down (b : Bridge) : Bridge := { Bridge.reset with st := if b.st = .fault then .fault else .off, fcause := b.fcause, elem := b.elem, ofs := b.ofs }
  if d < 10 then
    s.onHead (d - 8) fun h => { h with hist := [], fired := [], ready := none, readyFresh := none }
  else if d < 14 then
    [0, 1, 2].foldl (fun (s : State) k => s.onAx (3 * (d - 10) + k) fun a =>
      { a with a1 := down a.a1, b1 := down a.b1, sstate := 4, vamp := 0, stallRun := 0, stallOk := false }) s
  else
    (List.range 16).foldl (fun (s : State) k => s.onChan (16 * (d - 14) + k) fun c => { c with sw := .off, hold := [] }) s

/-- DOMAIN_OFF: the domain has been in IDLE for OFF_T. -/
def execDomainOff (dom : Fin 16) (s : State) : Host.Outcome State Fault Refusal :=
  .next (if s.domIdle dom && (s.dom dom).st == .idle then s.domainDown dom else s)

/-- SSTATE of an axis at rest whose domain has come up (R321). -/
def State.restState (s : State) (n : Nat) : Nat :=
  if s.cfg (.ax n) F.ax_IDLE_ST ≤ (s.ax n).restN then s.cfg (.ax n) F.ax_SS_MODE + 1 else 0

/-- The bridges of a group begin their check with every gate off (R343). -/
def State.bridgeChecks (s : State) (n : Nat) : State :=
  let begin (b : Bridge) : Bridge := { b with st := if b.st = .fault then .fault else .calib, sw := .off }
  s.onAx n fun a => { a with a1 := begin a.a1, b1 := begin a.b1, sstate := s.restState n }

/-- A domain's power switch has closed: RUN, and its check begins. -/
def State.domainUp (s : State) (d dt : Nat) : State :=
  let s := s.onDom d fun w => { w with st := .run, req := false, powerups := (w.powerups + 1) % 2 ^ 18 }
  if d < 10 then s
  else if d < 14 then [0, 1, 2].foldl (fun (s : State) k => s.bridgeChecks (3 * (d - 10) + k)) s
  else s.solDomainUp (d - 14) dt

/-- DOMAIN_POWER_UP: a lane requests RUN, or KEEP is set; `dt` is the time the domain was off in 10 ms (R377). -/
def execDomainPowerUp (dom : Fin 16) (dt : BitVec 32) (s : State) : Host.Outcome State Fault Refusal :=
  .next (if 8 ≤ dom.val && (s.dom dom).st == .off && ((s.dom dom).req || s.keep dom || s.bistHolds dom) && s.power.st == .run
    then s.domainUp dom dt.toNat else s)

/-- Clocks of domains in IDLE resume at a stitch boundary where they are requested or no longer idle (R503). -/
def State.wakeDomains (s : State) : State :=
  (List.range 16).foldl (fun (s : State) d =>
    if (s.dom d).st == .idle && ((s.dom d).req || !s.domIdle d) then s.onDom d fun w => { w with st := .run, req := false } else s) s

/-! ### SLEEP and OFF (R508..R511) -/

/-- No word is programmed, nothing erased, no store or save runs. -/
def State.flashQuiet (s : State) : Bool :=
  s.flash.saving.isNone && s.flash.banks.all (fun q => q.eraseQ.isEmpty) && !s.updating &&
    s.assets.dir.all fun c => c.2.st != .loading && c.2.st != .repairing && c.2.st != .verifying

/-- A port lets the device sleep (R99). -/
def Port.maySleep (q : Port) : Bool :=
  q.st == .hunt || (q.st == .up && q.unacked.isEmpty && q.eUnacked.isEmpty && q.rxRing.isEmpty && q.rxFifo.isEmpty)

/-- No lane works or waits (R508). -/
def Lane.maySleep (l : Lane) : Bool := !(l.state == .running || l.state == .waiting || l.state == .readmit || l.state == .recovery)

/-- The conditions of R508, SLEEP_EN and SLEEP_T apart. -/
def State.maySleep (s : State) : Bool :=
  s.mayFlash && s.ports.all Port.maySleep && s.lanes.all Lane.maySleep &&
    s.jobs.batch.all (fun b => match b.kind with | .job _ => false | _ => true) && s.welt.wq.isEmpty && s.welt.marks.isEmpty &&
    s.welt.gates.all (fun g => match g with | some g => g.doubt | none => true) && s.flashQuiet && s.shank.st != .discharging &&
    (List.range 16).all fun d => d < 8 || (s.dom d).st == .off || s.domIdle d

/-- The domains in SLEEP. -/
def sleepDomain (d : Nat) : DomState := if d = 0 then .run else if d = 3 ∨ d = 4 ∨ d = 5 then .retain else .off

/-- The engine domains go to OFF: step 1 of R508. -/
def State.enginesOff (s : State) : State :=
  (List.range 16).foldl (fun (s : State) d => if 8 ≤ d && (s.dom d).st != .off then s.domainDown d else s) s

/-- The device enters SLEEP at the boundary at which the stitch stops: steps 2 to 5 of R508; encoder counts break (R399), the sag
monitors stop and request nothing (R453).
DESIGN CHOICE (log 70): SLEEPS counts an entry here, an entry abandoned before the boundary not. -/
def State.enterSleep (s : State) : State :=
  let s := { s with encs := s.encs.map fun (e : Enc) => { e with breaks := e.breaks + 1 },
                    ports := s.ports.map fun (q : Port) => { q with rts := true } }
  let s := s.onStitch fun g => { g with running := false, holdVM := none, holdVS := none, holdVH := none }
  let s := (s.onSup fun u => { u with sag := Vector.replicate 4 false }).onHead 0 fun h => { h with sagcut := false }
  let s := s.onHead 1 fun h => { h with sagcut := false }
  { s with power := { s.power with st := .sleep, sleeps := (s.power.sleeps + 1) % 2 ^ 18,
                                   entering := false,
                                   doms := s.power.doms.mapIdx fun d (w : Domain) => { w with st := if w.st = .off then .off else sleepDomain d } } }

/-- SLEEP_ENTRY: the conditions have held for SLEEP_T, or GO_OFF waits for them. The engine domains go to OFF; the rest
follows at the next boundary. -/
def execSleepEntry (s : State) : Host.Outcome State Fault Refusal :=
  .next (if s.power.st == .run && !s.power.entering && (s.cfgB .pwr F.pwr_SLEEP_EN || s.power.offPend) && s.maySleep then
      { s.enginesOff with power := { s.enginesOff.power with entering := true } }
    else s)

/-- OFF_ENTRY: OFF_H hours in SLEEP, or at once under GO_OFF (R511). -/
def execOffEntry (s : State) : Host.Outcome State Fault Refusal :=
  .next (if s.power.st == .sleep && (s.power.offPend || s.cfg .pwr F.pwr_OFF_H != 0) then
    { s with power := { s.power with st := .off, offPend := false, doms := s.power.doms.mapIdx fun d (w : Domain) => { w with st := if d = 0 then .run else .off } } }
    else s)

/-- A write of GO_OFF = 1. -/
def State.writeGoOff (s : State) : State × Nat := ({ s with power := { s.power with offPend := true } }, 0)

def execGoOff (port : Fin 2) (s : State) : Host.Outcome State Fault Refusal := answer port true s.writeGoOff

/-- State that SLEEP does not retain: prefetch and readings, pipeline history, SSI history (R510). -/
def State.sleepLoss (s : State) : State :=
  { s with heads := s.heads.map fun (h : Head) => { h with hist := [], fired := [], lastStart := none },
           ssis := s.ssis.map fun (q : Ssi) => { q with good := [], busy := none, left := 0, again := false },
           uarts := { s.uarts with aux := s.uarts.aux.map fun (a : Aux) => { a with rx := [], tx := [], credit := 0, taking := false, idle := false } } }

/-- The device leaves SLEEP: the stitch restarts at phase 0 with X = 0x1_0000, coils have cooled for `dt` in 10 ms. -/
def State.wakeUp (s : State) (src dt : Nat) : State :=
  let up (d : Nat) (w : Domain) : Domain :=
    if 8 ≤ d then w
    else { w with st := if (d = 1 ∨ d = 2) && at' s.dev.cores (d - 1) == .retired || (d = 4 ∨ d = 5) && at' s.dev.sramRet (d - 4) ||
                           (d = 6 ∨ d = 7) && at' s.dev.flashRet (d - 6) then .off else .run }
  let s := { s with power := { s.power with st := .run, wakeSrc := src, doms := s.power.doms.mapIdx up } }
  let s := s.sleepLoss.onStitch fun g => { g with running := true, phase := 0, x := 0x10000, xNext := 0x10000 }
  (List.range 32).foldl (fun (s : State) c => s.thetaDecay c dt) s

/-- WAKE: a wake source, coded as WAKE_SRC; it abandons an entry under way (R508), and in OFF causes a WAKE reset (R509,
R511). -/
def execWake (src : BitVec 4) (dt : BitVec 32) (s : State) : Host.Outcome State Fault Refusal :=
  .next (match s.power.st with
    | .sleep => s.wakeUp src.toNat dt.toNat
    | .off => { s.takeReset 5 0 false with power := { (s.takeReset 5 0 false).power with wakeSrc := src.toNat } }
    | .run => if s.power.entering then { s with power := { s.power with entering := false, wakeSrc := src.toNat } } else s)

/-! ### Clocks (R514..R517) -/

/-- AON_XTAL_LOSS: the RC times AON from now on. -/
def execAonXtalLoss (s : State) : Host.Outcome State Fault Refusal := .next { s with power := { s.power with aonXtal := false } }

/-- PLL_U_FAULT: the UARTs stop until the relock. -/
def execPllUFault (s : State) : Host.Outcome State Fault Refusal := .next { s with power := { s.power with pllU := true } }

/-- PLL_U_RELOCK: the second attempt succeeds, or the fault is handled as a clock fault. -/
def execPllURelock (ok : Bool) (s : State) : Host.Outcome State Fault Refusal :=
  .next (if !s.power.pllU then s
    else if ok then { s with power := { s.power with pllU := false, clkTr := satInc 4095 s.power.clkTr } }
    else s.faultReset 5)

/-- AON's finding is a fault: 0 the reference is missing, 1 it is off by `dev` in 0.1 %, 2 PLL_A has lost lock (R515); 3 stands for a
lasting fault of the shank, the OTP row, the boot ROM or AON (R40). -/
def State.clockBad (s : State) (kind dev : Nat) : Bool := kind != 1 || decide ((if s.power.aonXtal then 20 else 120) < dev)

/-- CLOCK_FAULT: the safe state and a FAULT reset, sub-cause CLOCK, or INFRA (R40, R516). -/
def execClockFault (finding : BitVec 2 × BitVec 10) (s : State) : Host.Outcome State Fault Refusal :=
  .next (if s.clockBad finding.1.toNat finding.2.toNat then s.faultReset (if finding.1 = 3 then 4 else 5) else s)

/-- FABRIC_PARITY_ERROR: the transfer is repeated once (R29). -/
def execFabricParityError (repeatOk : Bool) (s : State) : Host.Outcome State Fault Refusal :=
  .next (if repeatOk then s.onDev fun d => { d with fabricTr := d.fabricTr + 1, transient := true } else s.faultReset 1)

/-! ### Job cores (R34, R35, R520) -/

def State.setCore (s : State) (k : Nat) (c : CoreState) : State := s.onDev fun d => { d with cores := upd d.cores k fun _ => c }

/-- A core is retired: CORE_RETIRED, its domain OFF, a fault reset where no core remains. -/
def State.retireCore (s : State) (k : Nat) : State :=
  let s := ((s.setCore k .retired).onDom (1 + k) fun d => { d with st := .off }).raise 13 2 31 [field 3 0 (1 + k)]
  let s := s.secondPart (1 + k)
  if at' s.dev.cores (1 - k) = .retired then s.faultReset 6 else s

/-- WATCHDOG_MISS: a heartbeat is missed; the watchdogs are suspended while DEBUG is in the instruction register (R533). -/
def execWatchdogMiss (core : Fin 2) (s : State) : Host.Outcome State Fault Refusal :=
  if s.sec.intrusive = some 0x10 then .next s
  else .next (match at' s.dev.cores core with
    | .running => s.setCore core .restarting
    | .probation => s.retireCore core
    | _ => s)

/-- CORE_PROBATION_END: 10 s without a further miss. -/
def execCoreProbationEnd (core : Fin 2) (s : State) : Host.Outcome State Fault Refusal :=
  .next (if at' s.dev.cores core = .probation then
      (s.setCore core .running).onDev fun d => { d with coreTr := upd d.coreTr core (· + 1), transient := true }
    else s)

/-! ### Reset sources (R518) -/

/-- POR: AON retention is lost, and the straps are sampled at its release (R552); whether the 32.768 kHz crystal is fitted and starts
is the board's (R514). -/
def execPor (s : State) : Host.Outcome State Fault Refusal :=
  let r := s.takeFresh
  let t := r.2.takeReset 1 0 true
  .next { t with power := { t.power with aonXtal := Config.freeBool r.1, vgdExt := t.power.vgdPin, testMode := t.power.testPin } }

/-- PIN_RESET: RESET_N has been low for 1 µs. -/
def execPinReset (s : State) : Host.Outcome State Fault Refusal := .next (s.takeReset 3 0 false)

/-- BROWN_OUT: the supplies below their falling thresholds, bits as BO_SRC (R452). -/
def execBrownOut (src : BitVec 4) (s : State) : Host.Outcome State Fault Refusal :=
  .next (if src = 0 then s else (s.takeReset 2 0 false).onSup fun u => { u with boSrc := src.toNat })

end Sys2Proof.Machine
end

