-- ==== Sys2Proof/Machine/Security.lean ====
section
/-!
DEFINITION. Pin self-test, boundary scan, firmware images, the OTP row and the protection level (R134, R136, R477..R482,
R528..R546).
-/

namespace Sys2Proof.Machine

def State.onSec (s : State) (f : Sec → Sec) : State := { s with sec := f s.sec }
def State.onOtp (s : State) (f : Otp → Otp) : State := { s with sec := { s.sec with otp := f s.sec.otp } }

/-! ### Balls (R528, R531; ball table) -/

/-- Ball index of a row (A is 0) and a column from 1. -/
def ball (r c : Nat) : Nat := 34 * r + (c - 1)

/-- Row and first column offset of the balls of bridge `b`. -/
def bridgeRow (b : Nat) : Nat := 7 + 2 * (b / 4) + b % 2
def bridgeCol (b : Nat) : Nat := 17 * (b / 2 % 2)

/-- Balls of FET `e` of bridge `b`: 0 H1, 1 L1, 2 H2, 3 L2. -/
def fetBalls (b e : Nat) : List Nat :=
  let c := bridgeCol b + [1, 4, 7, 10].getD e 1
  [ball (bridgeRow b) c, ball (bridgeRow b) (c + 1)]

/-! ### Pin self-test (R136, R528..R531) -/

/-- The supplies a test needs to be below 3.0 V are. -/
def State.bistSafe (s : State) (test : Nat) : Bool :=
  if test = 3 then !at' s.sec.guard 2 && !at' s.sec.guard 3
  else if test = 1 ∨ test = 2 then !at' s.sec.guard 0 && !at' s.sec.guard 1
  else true

/-- A write of START = 1 with TEST in force. -/
def State.startBist (s : State) (test : Nat) : State × Nat :=
  if test = 0 ∨ 4 < test then (s, rcRange)
  else if s.dev.st != .ready ∨ (List.range 18).any (fun i => (s.lane i).state != .idle || (s.lane i).running.isSome) ∨ !s.bistSafe test then
    (s, rcState)
  else (s.onSec fun q => { q with bistTest := test, bistResult := 1, bistFails := 0, bistFirst := 0 }, 0)

/-- BIST_START: a BIST_CTL write with TEST and START = 1. -/
def execBistStart (port : Fin 2) (test : BitVec 4) (s : State) : Host.Outcome State Fault Refusal :=
  answer port false (s.startBist test.toNat)

/-- A pin code counts as a failure. -/
def bistFailing (c : Nat) : Bool := 2 ≤ c && c ≤ 5

/-- BIST_DONE: the test has taken the pins of its group in ball-table order; `samples` holds what it sampled, and rise, pin by pin
(R529). Every pin of the group gets its code by R530; codes of other pins stay. -/
def execBistDone (samples : List PinSample) (s : State) : Host.Outcome State Fault Refusal :=
  if s.sec.bistResult ≠ 1 then .next s
  else
    let balls := bistBalls s.sec.bistTest
    let new := bistCodes s.sec.bistTest samples
    let bad := (new.filter fun c => bistFailing c.2).map Prod.fst
    .next (s.onSec fun q =>
      { q with codes := new ++ q.codes.filter fun c => !balls.contains c.1,
               bistFails := min 4095 bad.length, bistFirst := bad.min?.getD 0, bistResult := if bad.isEmpty then 2 else 3 })

/-! ### Boundary scan (R532..R536, R420) -/

/-- FET `e` of bridge `b` is driven on by boundary values. -/
def driven (drive : List Bool) (b e : Nat) : Bool := (fetBalls b e).any fun k => drive.getD k false

/-- One leg of a bridge: `h` and `l` its FETs. Both on trips the group with INTERLOCK, a turn-on that follows the other FET's
turn-off without the dead time with DEADTIME. -/
def State.legCheck (s : State) (prev new : List Bool) (b h l : Nat) : State :=
  if driven new b h && driven new b l then s.trip b 3 h
  else if driven new b h && driven prev b l then s.trip b 4 h
  else if driven new b l && driven prev b h then s.trip b 4 l
  else s

/-- The pad-ring rules on every value the boundary register drives while VM lies below 3.0 V. -/
def State.driveCheck (s : State) (prev new : List Bool) : State :=
  if at' s.sec.guard 0 then s
  else (List.range 24).foldl (fun (s : State) b => (s.legCheck prev new b 0 1).legCheck prev new b 2 3) s

/-- The boundary register drives the pins: EXTEST, or CLAMP. -/
def State.pinsDriven (s : State) : Bool := s.sec.intrusive == some 0 || s.sec.intrusive == some 3

/-- An instruction code is intrusive at the protection level (R533). -/
def intrusiveAt (pl code : Nat) : Bool :=
  code == 0 || code == 3 || code == 4 || (code == 0x10 && pl ≤ 1) || (code == 0x11 && pl == 0)

/-- Bits set in a field. -/
def ones (n v : Nat) : Nat := popCount n v

/-- PL in force (R480). -/
def State.protLevel (s : State) : Nat :=
  let w := s.otp 0x10
  if bit w 35 then 2 else if ones 16 (bits w 15 0) < ones 16 (bits w 31 16) then 1 else 0

/-- A mass erase is pending (R480). -/
def State.erasePending (s : State) : Bool := ones 16 (bits (s.otp 0x10) 15 0) < ones 16 (bits (s.otp 0x11) 15 0)

/-- An OTP operation stops after the word in progress (R546). -/
def OtpOp.cutShort (o : OtpOp) : OtpOp := if o.todo.length ≤ 1 then o else { o with todo := o.todo.take 1, what := 4 }

/-- What the boundary register puts on ball `k`: nothing on balls it does not hold, the off level where the guarding supply is at or
above 3.0 V (R532, R535). -/
def State.cellDrives (s : State) (k : Nat) : Bool :=
  (pinAt k).inBoundary && s.sec.drive.getD k false &&
    match (pinAt k).guardedBy with
    | some m => !at' s.sec.guard m
    | none => true

/-- The GUARD cell captures 1 while a guarding supply is at or above 3.0 V (R535). -/
def State.guardCell (s : State) : Bool := s.pinsDriven && s.sec.guard.any id

/-- IDCODE (R533), and what Capture-IR takes (R532). -/
def idcode : BitVec 32 := 0x29640B89
def captureIr : BitVec 8 := 1

/-- The steps of R534. -/
def State.intrude (s : State) (code : Nat) : State :=
  let s := (s.enterSafe 0xA false).bistAbort
  let s := s.onSec fun q => { q with loaded := Vector.replicate 8 false, cleared := true, ir := code }
  let s := s.onOtp fun o => { o with op := o.op.map OtpOp.cutShort }
  let s := s.holdWhere s.signBlocked
  if s.pinsDriven then s.driveCheck [] s.sec.drive else s

/-- The instruction a code selects: any other code than those of the table BYPASS, as one that the protection level shuts out
(R533). -/
def irSelects (pl code : Nat) : Nat := if intrusiveAt pl code || code == 1 || code == 2 then code else 0xFF

/-- UPDATE_IR_INTRUSIVE: an Update-IR loads instruction `instr`; one that is not intrusive returns the pins (R536). -/
def execUpdateIrIntrusive (instr : BitVec 8) (s : State) : Host.Outcome State Fault Refusal :=
  if s.power.st != .run then .next s
  else if intrusiveAt s.protLevel instr.toNat then .next (s.intrude instr.toNat)
  else .next (s.onSec fun q => { q with ir := irSelects s.protLevel instr.toNat })

/-- TEST_LOGIC_RESET: IDCODE is selected and the pins return to the shank's levels; in SLEEP and OFF the TAP does not respond
(R532). -/
def execTestLogicReset (s : State) : Host.Outcome State Fault Refusal :=
  .next (if s.power.st != .run then s else s.onSec fun q => { q with ir := 2 })

/-- UPDATE_DR: under EXTEST and SAMPLE/PRELOAD the boundary register takes its value, by ball index; not under another instruction,
and not early, within 20 µs of the Update-IR of an intrusive one (R534). -/
def execUpdateDr (scan : List Bool × Bool) (s : State) : Host.Outcome State Fault Refusal :=
  if s.power.st != .run || 1 < s.sec.ir || (scan.2 && s.sec.ir == 0) then .next s
  else
    let prev := s.sec.drive
    let s := s.onSec fun q => { q with drive := scan.1 }
    .next (if s.sec.ir == 0 then s.driveCheck prev scan.1 else s)

/-- GUARD_SUPPLY: VM, VS, VH A or VH B (0..3) crosses 3.0 V. -/
def execGuardSupply (supply : Fin 4) (above : Bool) (s : State) : Host.Outcome State Fault Refusal :=
  let s := s.onSec fun q => { q with guard := Machine.upd q.guard supply fun _ => above }
  let s := if s.bistSafe s.sec.bistTest then s else s.bistAbort
  .next (if supply.val = 0 ∧ !above ∧ s.pinsDriven then s.driveCheck [] s.sec.drive else s)

/-! ### Images (R537..R542) -/

/-- FMT, KEYIDX, SECVER of an image header. -/
def hdrFmt (h : List Word) : Nat := bits (h.getD 0 0) 23 20
def hdrKey (h : List Word) : Nat := bits (h.getD 0 0) 19 18
def hdrSecver (h : List Word) : Nat := if hdrFmt h = 2 then 0 else bits (h.getD 4 0) 11 0

/-- MAGIC, KEYIDX and FMT of word 0, checked on arrival. -/
def headWordOk (w : Word) : Bool := bits w 35 24 == 0x46E && bits w 19 18 ≤ 1 && 2 ≤ bits w 23 20 && bits w 23 20 ≤ 3

/-- PART, DIE_MIN and KEYIDX fit the device. -/
def State.imageFits (s : State) (h : List Word) : Bool :=
  bits (h.getD 3 0) 35 20 == 0x9640 && bits (h.getD 3 0) 19 12 ≤ 0x21 && (hdrKey h == 0 || hdrKey h == 1 && s.protLevel == 0)

/-- The words the signature check reads: bits 35:32 of the signature's byte streams are ignored (R7, R537). -/
def signedWords (ws : List Word) : List Word :=
  let n := ws.length - 16
  ws.take n ++ (ws.drop n).map fun w => field 31 0 (bits w 31 0)

/-- RESULT of the verification of an update. -/
def State.imageVerdict (s : State) (u : Update) : Nat :=
  let running := at' s.sec.slots s.sec.run
  if bits (u.words.getD 1 0) 18 0 ≠ u.clen then 2
  else if !Config.imageSigOk (signedWords u.words) then 3
  else if !s.imageFits u.words then 4
  else if hdrSecver u.words < hdrSecver running.hdr then 5
  else 1

/-- The target slot of an update. -/
def State.target (s : State) : Nat := 1 - s.sec.run

/-- OP 1, BEGIN. -/
def State.imageBegin (s : State) (p len : Nat) : State × Nat :=
  let u := s.sec.upd
  if u.tstate = 1 ∨ u.tstate = 2 then (s, rcState)
  else if len < 64 ∨ 262144 < len then (s, rcRange)
  else if s.bankOut s.target then (s, rcRetired)
  else
    let s := (List.range ((len + 511) / 512)).foldl (fun (s : State) k => s.onBank s.target (Bank.queueErase (1536 + k))) s
    (s.onSec fun q => { q with slots := Machine.upd q.slots (1 - q.run) fun _ => Slot.reset,
                               upd := ⟨1, p, 0, len, [], 0⟩ }, 0)

/-- OP 2, ACTIVATE: the target becomes TRIAL, or CONFIRMED for format 2. -/
def State.imageActivate (s : State) : State × Nat :=
  if s.sec.upd.tstate ≠ 3 then (s, rcState)
  else
    let seq := (at' s.sec.slots s.sec.run).seq + 1
    (s.onSec fun q => { q with slots := Machine.upd q.slots (1 - q.run) fun (t : Slot) => { t with st := if hdrFmt t.hdr = 2 then 4 else 3, seq := seq },
                               upd := { q.upd with tstate := 0 } }, 0)

/-- OP 3, CONFIRM. -/
def State.imageConfirm (s : State) : State × Nat :=
  if (at' s.sec.slots s.sec.run).st ≠ 3 then (s, rcState)
  else (s.onSec fun q => { q with slots := Machine.upd q.slots q.run fun (t : Slot) => { t with st := 4 } }, 0)

/-- OP 4, ABORT. -/
def State.imageAbort (s : State) (p : Nat) : State × Nat :=
  let u := s.sec.upd
  if u.tstate ≠ 1 then (s, rcState) else if u.owner ≠ p then (s, rcBusy) else (s.imageFail 7, 0)

/-- A fresh link start of the owner ends the update (R541). -/
def State.imageDropped (s : State) (p : Nat) : State := if s.updating && s.sec.upd.owner == p then s.imageFail 7 else s

/-- A word at PORT, refused as an asset word is (R194). -/
def State.imagePort (s : State) (p : Nat) (w : Word) : State × Nat :=
  let u := s.sec.upd
  if u.tstate ≠ 1 then (s, rcState)
  else if u.owner ≠ p then (s, rcBusy)
  else if u.clen ≤ u.words.length then (s, rcRange)
  else if 512 ≤ u.words.length - u.done then (s, rcBusy)
  else if u.words.isEmpty && !headWordOk w then (s.imageFail 2, 0)
  else (s.onSec fun q => { q with upd := { q.upd with words := q.upd.words ++ [w] } }, 0)

def execBegin (port : Fin 2) (len : BitVec 19) (s : State) : Host.Outcome State Fault Refusal := answer port true (s.imageBegin port len.toNat)
def execConfirm (port : Fin 2) (s : State) : Host.Outcome State Fault Refusal := answer port true s.imageConfirm
def execImageAbort (port : Fin 2) (s : State) : Host.Outcome State Fault Refusal := answer port true (s.imageAbort port)
def execImagePortWrite (port : Fin 2) (word : Word) (s : State) : Host.Outcome State Fault Refusal := answer port true (s.imagePort port word)

/-- IMAGE_VERIFY_DONE: the target becomes VALID or the update FAILED. -/
def execImageVerifyDone (s : State) : Host.Outcome State Fault Refusal :=
  let u := s.sec.upd
  if u.tstate ≠ 2 then .next s
  else
    let r := s.imageVerdict u
    if r ≠ 1 then .next (s.imageFail r)
    else .next (s.onSec fun q =>
      { q with slots := Machine.upd q.slots (1 - q.run) fun _ => ⟨2, 0, u.words.take 6, true⟩,
               upd := { q.upd with tstate := 3, result := 1 } })

/-- IMAGE_IDLE_TIMEOUT: 10 s without a word at PORT. -/
def execImageIdleTimeout (s : State) : Host.Outcome State Fault Refusal := .next (if s.sec.upd.tstate = 1 then s.imageFail 7 else s)

/-! ### The OTP row (R477, R481, R482, R543..R545) -/

/-- Bits of an OTP word are programmed; none is ever cleared. -/
def State.blow (s : State) (i : Nat) (w : Word) : State := s.onOtp fun o => { o with words := Machine.upd o.words i fun v => v ||| w }

/-- The host may program OTP. -/
def State.otpClosed (s : State) : Bool :=
  s.dev.st == .boot || s.dev.st == .recovery || s.sec.otp.op.isSome || s.sec.cleared

/-- An operation of the OTP object begins. -/
def State.otpBegin (s : State) (op : OtpOp) : State := s.onOtp fun o => { o with ostate := 1, op := some op }

/-- OP 1, PROGRAM_WORD. -/
def State.programWord (s : State) (p i : Nat) (v : Word) : State × Nat :=
  let fused := bit (s.otp 0x11) 35
  if s.otpClosed then (s, rcState)
  else if !((0x08 ≤ i && i ≤ 0x0B) || (0x11 ≤ i && i ≤ 0x17)) ∨ (i = 0x11 ∧ bits v 34 0 ≠ 0) ∨ (0x11 ≤ i ∧ fused) then (s, rcProt)
  else (s.otpBegin ⟨[(i, v)], false, 0, 0, p, none⟩, 0)

/-- KCV of a key: the first four bytes of its HMAC over 4B 43 56 31, most significant first. -/
def kcvOf (key : List Word) : Nat :=
  ((hmacSha256 (keyBytes key) [0x4B, 0x43, 0x56, 0x31]).take 4).foldl (fun n b => n * 256 + b) 0

/-- Attribute word of a key slot being written. -/
def keyAttr (key : List Word) : Word := flag 35 true ||| field 33 32 1 ||| field 31 0 (kcvOf key)

/-- OP 2, PROGRAM_KEY. -/
def State.programKey (s : State) (p slot use : Nat) : State × Nat :=
  if s.otpClosed ∨ bit (s.otp (0x18 + slot)) 35 ∨ (s.keyWords slot).any (· != 0) then (s, rcState)
  else if use ≠ 1 then (s, rcRange)
  else
    let key := s.sec.otp.kstage.toList
    let todo := (key.zipIdx.map fun c => (0x20 + 8 * slot + c.2, c.1)) ++ [(0x18 + slot, keyAttr key)]
    ((s.otpBegin ⟨todo, false, 1, slot, p, none⟩).onOtp fun o => { o with kstage := Vector.replicate 8 0 }, 0)

/-- An outstanding job has a PRINT of a template that signs with a slot. -/
def State.signsWith (s : State) (slot : Nat) : Bool :=
  s.jobs.table.any fun j => j.recs.any fun r =>
    r.typ == tPrint && (s.template r.templateIx).isSigned && (s.template r.templateIx).slot == slot

/-- OP 3, REVOKE_KEY. -/
def State.revokeKey (s : State) (p slot : Nat) : State × Nat :=
  if s.otpClosed ∨ s.signsWith slot then (s, rcState)
  else (s.otpBegin ⟨[(0x18 + slot, flag 34 true)], false, 2, slot, p, none⟩, 0)

/-- A write of OP at 0x00_40D8. -/
def State.otpOp (s : State) (p : Nat) (w : Word) : State × Nat :=
  match bits w 35 33 with
  | 1 => s.programWord p (bits w 32 26) s.sec.otp.value
  | 2 => s.programKey p (bits w 25 23) (bits w 22 21)
  | 3 => s.revokeKey p (bits w 25 23)
  | _ => (s, rcRange)

/-- PROGRAM_WORD, with the VALUE written before it. -/
def execProgramWord (port : Fin 2) (oword : BitVec 7) (value : Word) (s : State) : Host.Outcome State Fault Refusal :=
  answer port true ((s.onOtp fun o => { o with value := value }).programWord port oword.toNat value)

def execProgramKey (port : Fin 2) (slot : Fin 8) (use : BitVec 2) (s : State) : Host.Outcome State Fault Refusal :=
  answer port true (s.programKey port slot use.toNat)
def execRevokeKey (port : Fin 2) (slot : Fin 8) (s : State) : Host.Outcome State Fault Refusal :=
  answer port true (s.revokeKey port slot)

/-- The lowest clear bit of a field of an OTP word, as a word with that bit set. -/
def nextClear (w : Word) (hi lo : Nat) : Option Word :=
  ((List.range (hi + 1 - lo)).find? fun i => !bit w (lo + i)).map fun i => flag (lo + i) true

/-- Begin to raise the level by one bit of word 0x10; the response waits. -/
def State.raiseLevel (s : State) (p : Nat) (w : Word) (rsp : Option (Bool × Nat × Nat)) : State :=
  s.onOtp fun o => { o with op := some ⟨[(0x10, w)], false, 3, 0, p, rsp⟩ }

/-- Steps 1 and 2 of R482: DONE is reported, the safe state is entered, the boot ROM takes over with the erase pending. -/
def State.lowerLevel (s : State) (w : Word) : State := ((s.enterSafe 0xA false).blow 0x11 w).takeReset 4 0 false

/-- Outcome of a PROT_LEVEL write. -/
inductive ProtResult where
  | done (s : State) | wait (s : State) | refused (rc : Nat)

/-- A PROT_LEVEL write (R116, R134, R481, R482). While an OTP operation is in progress it is refused with BUSY; the spec is silent
(DESIGN CHOICE). -/
def State.writeProt (s : State) (p key target : Nat) (rsp : Option (Bool × Nat × Nat)) : ProtResult :=
  let pl := s.protLevel
  let w := s.otp 0x10
  if s.dev.st != .ready then .refused rcState
  else if target = pl then .done s
  else if key ≠ 0x5A9 ∨ target = 3 ∨ pl = 2 then .refused rcProt
  else if s.sec.otp.op.isSome then .refused rcBusy
  else if target = 2 then .wait (s.raiseLevel p (flag 35 true) rsp)
  else if target = 1 then match nextClear w 31 16 with
    | some b => .wait (s.raiseLevel p b rsp)
    | none => .refused rcProt
  else match nextClear (s.otp 0x11) 15 0, nextClear w 15 0 with
    | some b, some _ => .done (s.lowerLevel b)
    | _, _ => .refused rcProt

/-- The state after a PROT_LEVEL write outside a frame. -/
def State.afterProt (s : State) (p : Nat) : ProtResult → State
  | .done t => t
  | .wait t => t
  | .refused rc => s.refuse p rc false

/-- PROT_RAISE. -/
def execProtRaise (port : Fin 2) (key : BitVec 12) (target : BitVec 2) (s : State) : Host.Outcome State Fault Refusal :=
  .next (s.afterProt port (s.writeProt port key.toNat target.toNat none))

/-- PROT_LOWER. -/
def execProtLower (port : Fin 2) (key : BitVec 12) (target : BitVec 2) (s : State) : Host.Outcome State Fault Refusal :=
  .next (s.afterProt port (s.writeProt port key.toNat target.toNat none))

/-- An OTP operation has programmed its last word. -/
def State.otpFinish (s : State) (op : OtpOp) : State :=
  let s := s.onOtp fun o => { o with op := none, ostate := if op.what = 3 then o.ostate else if op.what = 4 then 3 else 2 }
  if op.what = 3 then s.ownResolved op.port op.rsp 0
  else if op.what = 1 then s.onSec fun q => { q with loaded := Machine.upd q.loaded op.slot fun _ => !q.cleared }
  else s

/-- A word has failed its second attempt: it holds whatever bits were set; a level bit leaves the level as it was. -/
def State.otpFail (s : State) (op : OtpOp) (i : Nat) (w : Word) : State :=
  if op.what = 3 then (s.onOtp fun o => { o with op := none }).ownResolved op.port op.rsp rcProt
  else
    let (n, s) := s.takeFresh
    (s.blow i (w &&& Config.freeWord n)).onOtp fun o => { o with op := none, ostate := 3, fword := i }

/-- OTP_PROGRAM_DONE: the program of a word ends after 1 ms with its verify. -/
def execOtpProgramDone (ok : Bool) (s : State) : Host.Outcome State Fault Refusal :=
  match s.sec.otp.op with
  | none => .next s
  | some op =>
    match op.todo with
    | [] => .next (s.otpFinish op)
    | (i, w) :: rest =>
      if ok then
        let s := (s.blow i w).onOtp fun o =>
          { o with otpTr := if op.again then satInc 4095 o.otpTr else o.otpTr, op := some { op with todo := rest, again := false } }
        .next (if rest.isEmpty then s.otpFinish op else s)
      else if op.again then .next (s.otpFail op i w)
      else .next (s.onOtp fun o => { o with op := some { op with again := true } })

end Sys2Proof.Machine
end

