-- ==== Sys2Proof/Machine/EngineOps.lean ====
section
/-!
DEFINITION. What the welt and the dispatcher ask of the engines: dropping and continuing the work of a stopped record
(R152, R174, R313, R346), the hint of a gate (R178, R300), outputs the shank holds (R151, R422, R424).
-/

namespace Sys2Proof.Machine

/-- The work kept of the stopped record of lane `i` is dropped. -/
def State.dropWork (s : State) (i : Nat) : State :=
  if i < 2 then s.dropHead i
  else if i < 14 then s.onAx (i - 2) fun a => { a with remd := 0, dcLeft := 0, hstep := .none, hcheck := false, refAt := none }
  else s

/-- HINT of a gate, from the present state of its source. -/
def State.gateHint (s : State) (g : Gate) : Nat :=
  if g.source = 1 then
    let q := at' s.snss g.srcidx
    if q.broken then 3 else if q.present then 2 else 1
  else if g.source = 4 ∧ g.lane < 2 then
    if (s.head g.lane).swBroken then 3 else if s.atHome g.lane then 1 else 2
  else 0

/-- The shank holds outputs of lane `i`: the device safe state, or the force of one of its groups or of a bound axis. -/
def State.laneHeld (s : State) (i : Nat) : Bool :=
  i < 18 && (s.shank.st != .normal ||
    (List.range 58).any fun g => (s.grp g).forced && (groupLane g == i || (i < 2 && (s.boundAxes i).contains (groupLane g))))

/-- CONTINUE for the record on a stopped axis lane; none where it can compute nothing. -/
def State.contAxis (s : State) (n : Nat) (q : QItem) : Option State :=
  let cut := (s.recStatus q.job q.idx).outcome = .interrupted
  if q.r.typ = tMove then
    if !(s.ax n).posOk then none
    else if s.cfg (.ax n) F.ax_KIND ≠ 1 then some (s.heldFault (n + 2) q)
    else if 2 ^ 34 ≤ (s.ax n).remd.natAbs then some (s.startMove n q)
    else some (s.moveToward n (s.ax n).tgt (if cut then s.profile n (bits (q.r.w 1) 2 0) else (s.ax n).prof))
  else if q.r.typ = tHome then some (s.startHomeRec n q)
  else if q.r.typ = tDcRun ∧ !cut then some (s.startDc n q (s.ax n).dcLeft)
  else none

/-- CONTINUE for the record of a stopped lane. -/
def State.contRec (s : State) (i : Nat) (q : QItem) : Option State :=
  if i < 2 then s.contHead i q else if i < 14 then s.contAxis (i - 2) q else none

/-- The gate of a record is ARMED or IN_DOUBT: CONTINUE and SKIP do nothing to it (R174). -/
def State.gateOpen (s : State) (q : QItem) : Bool :=
  (s.gate? q.job q.idx).isSome || !(s.recStatus q.job q.idx).gate.settled

/-- CONTINUE on a STOPPED lane: what it comes to, or none where it does nothing. A lane whose outputs the shank or a hot
NTC holds stays STOPPED. -/
def State.continueLane (s : State) (i : Nat) : Option State :=
  let l := s.lane i
  if l.state ≠ .stopped ∨ l.stopping then none
  else if s.laneHeld i || s.ntcHolds i then some s
  else
    let run := s.onLane i fun l => { l with state := .running, wait := .none, stopCause := 1 }
    match l.running with
    | none =>
      if i < 2 ∧ !l.tail.isEmpty ∧ (s.head i).step = .rest then some (run.contPath i)
      else some (s.onLane i fun l => { l with state := .idle, wait := .none, stopCause := 1 }.norm)
    | some q =>
      if s.gateOpen q then none
      else match run.contRec i q with
        | none => none
        | some t => some (if (t.lane i).state = .running then t.onRec q.job q.idx fun r => { r with outcome := .running } else t)

end Sys2Proof.Machine
end

