-- ==== Sys2Proof/Machine/Welt.lean ====
section
/-!
DEFINITION. The welt in operation (R157..R175, R185..R191): the commit of an entry and what it brings about, marks, gate
windows, job lookup, load and rotation.
-/

namespace Sys2Proof.Machine

/-! ### What a commit brings about -/

/-- The ENDED mark that a CKPT record's lane waits for is committed (R169). -/
def State.ckptCommitted (s : State) (m : Mark) : State :=
  { s with lanes := s.lanes.map fun l => if l.ckptWait = some (m.job, m.idx) then { l with ckptWait := none } else l }

/-- Marks are committed: ENDED and CANCELLED ones show on their records (R170). -/
def State.marksCommitted (s : State) (ms : List Mark) : State :=
  ms.foldl (fun s m =>
    if m.code = 2 ∨ m.code = 3 then (s.onRec m.job m.idx fun r => { r with marked := true }).ckptCommitted m
    else if m.code = 4 then s.onRec m.job m.idx fun r => { r with copies := max r.copies m.arg }
    else s) s

/-- A GATE_ARM entry is committed: the gate takes the lowest-numbered empty entry of the list (R171, R188). -/
def State.gateArmed (s : State) (seq : Word) (idx i : Nat) (r : Rec) : State :=
  match s.freeGate with
  | none => s
  | some k =>
    let n := s.welt.armseq + 1
    let g : Gate := { job := seq, idx := idx, lane := i, doubt := false, told := false, source := r.source, hint := 0, srcidx := r.srcidx,
                      href := ((s.job? seq).map Job.href).getD 0, armseq := n, window := r.window, windowEnd := none,
                      settling := false, live := false }
    (s.onRec seq idx fun t => { t with gate := .armed }).onWelt fun w =>
      { w with armseq := n, gates := upd w.gates k fun _ => some g }

/-- Gate state after a verdict of R163. -/
def verdictState : Nat → GateState
  | 1 => .doneEvidence
  | 2 => .doneEnded
  | 3 => .inDoubt
  | 4 => .resolvedDone
  | _ => .resolvedRedo

/-- The gate of a stopped or faulted record has settled DONE: the record counts as ENDED, its remaining work dropped, and the lane
leaves STOPPED; where the stop still decelerates, once it has come to rest (R174). -/
def State.endGated (s : State) (i : Nat) (q : QItem) : State :=
  if (s.lane i).stopping then s.onLane i fun l => { l with settledStop := true }
  else
    let s := (s.dropWork i).endRecord i q
    s.onLane i fun (l : Lane) => if l.state = .stopped then { l with state := .idle, wait := .none, stopCause := 1 }.norm else l

/-- The stops at rest whose record's gate has settled meanwhile (R174). -/
def State.endSettled (s : State) : State :=
  (List.range 18).foldl (fun (s : State) i =>
    let l := s.lane i
    if l.settledStop && !l.stopping then
      let s := s.onLane i fun l => { l with settledStop := false }
      match l.running with | some q => s.endGated i q | none => s
    else s) s

/-- A GATE_SETTLE entry is committed (R172..R175): its event, and the end of a stopped record whose gate is DONE. -/
def State.settleCommitted (s : State) (seq : Word) (idx verdict hint : Nat) : State :=
  let i : Nat := (s.gatedLane seq idx).getD 31
  if verdict = 3 then
    -- nothing where the gate has been resolved while the entry was being written
    if (s.recStatus seq idx).gate = .inDoubt then
      ((s.onRec seq idx fun t => { t with hint := hint }).onGate seq idx fun g => some { g with told := true }).raise 5 2 i [seq]
    else s
  else
    let s := s.onGate seq idx fun _ => none
    let s := s.onRec seq idx fun t => { t with gate := verdictState verdict, hint := 0 }
    let s := if verdict ≤ 2 then s.raise 5 1 i [seq] else s
    let s : State := match (s.lane i).running with
      | some q =>
        if verdict ≤ 2 ∧ q.job = seq ∧ q.idx = idx ∧ ((s.lane i).stopping ∨ (s.lane i).state ≠ .running) then s.endGated i q
        else s
      | none => s
    s.checkDone seq

/-- What the commit of a request brings about beyond its entry. -/
def State.onCommit (s : State) (w : WriteReq) : State :=
  match w.act with
  | .accept c recs => s.accept w.seq c recs
  | .gateArmed i =>
    let idx := bits (w.body.getD 0 0) 35 24
    match (s.job? w.seq).bind fun j => j.recs[idx]? with
    | some r => s.gateArmed w.seq idx i r
    | none => s
  | .marks ms => s.marksCommitted ms
  | .tail p => s.onWelt fun w => { w with tail := p, log := w.log.filter fun e => !p.after e.lpos }
  | .repair _ => s
  | .nothing =>
    if w.kind = 5 then
      let b := w.body.getD 0 0
      s.settleCommitted w.seq (bits b 35 24) (bits b 23 20) (bits b 15 12)
    else s

/-! ### Rotation (R190) -/

/-- The pieces of at most seven words in which a job's words are carried (R161). -/
def carryPieces (ws : List Word) : Nat → Nat → List (List Word)
  | 0, _ => []
  | fuel + 1, off =>
    if ws.length ≤ off then []
    else
      let piece := (ws.drop off).take 7
      (((field 23 12 off ||| field 11 0 piece.length) :: piece)) :: carryPieces ws fuel (off + 7)

/-- FIRST of the sector after the one that holds LPOS `p`, in the bank whose head decides; none where the head is in that one. -/
def State.nextSector (s : State) (p : Word) : Option Word :=
  earliest ((s.bank s.anchorBank).entered.filter fun c => c.2.after p)

/-- The entry has a word of a job in it: its marks of the job, its gates, its results. -/
def Entry.ofJob (e : Entry) (seq : Word) : Bool :=
  (e.kind == 3 && e.body.any fun m => bits m 11 0 == seq.toNat % 4096 && Mark.near ⟨0, 0, 0, seq⟩ e.seq) ||
    ((e.kind == 4 || e.kind == 5 || e.kind == 8) && e.seq == seq)

/-- A new entry with the words of an old one but for its body. -/
def State.copyEntry (s : State) (e : Entry) (body : List Word) : State := s.writeEntry e.kind e.port e.seq body (.marks [])

/-- The marks of one job in a MARKS entry (R161: ITS marks). -/
def Entry.marksOf (e : Entry) (seq : Word) : List Word := e.body.filter fun m => bits m 11 0 == seq.toNat % 4096

/-- A job in CARRY pieces, and its later entries in their order: of a MARKS entry, its own marks. -/
def State.copyJob (s : State) (e : Entry) (newer : List Entry) : State :=
  let ws := ((s.job? e.seq).map Job.words).getD e.body
  let s := (carryPieces ws ws.length 0).foldl (fun s b => s.writeEntry 7 e.port e.seq b .nothing) s
  (newer.filter fun d => d.ofJob e.seq).foldl (fun (s : State) d =>
    if d.kind = 3 then s.writeEntry 3 e.port e.seq (d.marksOf e.seq) (.marks []) else s.copyEntry d d.body) s

/-- The outstanding jobs that have marks in a MARKS entry and are not carried behind it. -/
def State.marksLeft (s : State) (e : Entry) (newer : List Entry) : List Word :=
  e.body.filter fun m => s.jobs.table.any fun j =>
    j.seq.toNat % 4096 == bits m 11 0 && Mark.near ⟨0, 0, 0, j.seq⟩ e.seq && !newer.any fun d => d.kind == 7 && d.seq == j.seq

/-- Copy one live entry forward; `newer` are the entries behind it. What a carried job took with it is not copied again. -/
def State.copyForward (s : State) (e : Entry) (newer : List Entry) : State :=
  match e.kind with
  | 1 => s
  | 2 => s.copyJob e newer
  | 7 => if bits (e.body.getD 0 0) 23 12 = 0 then s.copyJob e newer else s
  | 3 => if (s.marksLeft e newer).isEmpty then s else s.copyEntry e (s.marksLeft e newer)
  | _ => if newer.any fun d => d.kind == 7 && d.seq == e.seq then s else s.copyEntry e e.body

/-- Copy the live ones of the entries that lie before LPOS `stop`. -/
def State.copyLive (s : State) (stop : Word) : List Entry → State
  | [] => s
  | e :: rest => (if stop.after e.lpos && s.live e rest then s.copyForward e rest else s).copyLive stop rest

/-- Carry the live entries of the tail sector forward when the head has come 1024 sectors beyond it and nothing waits to be
written; TAIL_LPOS moves past the sector once the copies are committed (R190). -/
def State.carryForward (s : State) : State :=
  if (s.welt.head - s.welt.tail).toNat < 1024 * 510 ∨ !s.welt.wq.isEmpty then s
  else match s.nextSector s.welt.tail with
    | none => s
    | some stop => (s.copyLive stop (standing s.welt.log)).writeEntry 1 3 s.jobs.decided [stop] (.tail stop)

/-! ### The commit (R159) -/

/-- Every word of the entry at the front is verified in every bank in service. -/
def State.frontDone (s : State) : Bool :=
  !s.welt.wq.isEmpty && !(s.bankOut 0 && s.bankOut 1) &&
    [0, 1].all fun b => s.bankOut b || decide (s.frontWords ≤ (s.bank b).done)

/-- The entry of a request, written whole at the head. -/
def State.entryOf (s : State) (w : WriteReq) : Entry :=
  let copy (b : Nat) : Copy := ⟨if s.bankOut b then 0 else w.words.length, [], s.bankOut b⟩
  ⟨w.words, s.welt.head, match w.act with | .repair o => o | _ => s.welt.head, copy 0, copy 1⟩

/-- Sectors kept back are bad now that the data has committed (R466). -/
def Bank.committed (q : Bank) : Bank := { q with done := 0, bad := q.bad ++ q.badNext, badNext := [] }

/-- The commit word of the entry at the front is verified in every bank in service: what it brings about follows. -/
def State.commitEntry (s : State) : State :=
  match s.welt.wq with
  | [] => s
  | w :: rest =>
    if !s.frontDone then s
    else
      let e := s.entryOf w
      let s := s.onWelt fun v => { v with log := v.log ++ [e], head := v.head + BitVec.ofNat 36 w.words.length, wq := rest }
      let s := s.onFlash fun f => { f with banks := f.banks.map Bank.committed }
      let s := s.onCommit w
      (s.onFlash fun f => { f with banks := f.banks.map fun q => q.reserve s.welt.tail 16 }).carryForward

/-- The banks program the entry at the front without a fault, pulse by pulse; `n` bounds the pulses. -/
def State.programFront : Nat → State → State
  | 0, s => s
  | n + 1, s =>
    if s.frontDone then s
    else
      let go (s : State) (b : Nat) : State := if (s.weltPulse b).isSome then s.programmed b else s
      State.programFront n (go (go s 0) 1)

/-- Write every waiting entry (R176 step 6). -/
def State.writeAll : Nat → State → State
  | 0, s => s
  | n + 1, s => if s.welt.wq.isEmpty then s else State.writeAll n (State.programFront (2 * s.frontWords + 16) s).commitEntry

/-! ### Job lookup (R187) -/

/-- Words written since a job became DONE, within which it stays findable (R190). -/
def retentionWords : Nat := 252960

/-- The jobs a lookup can find. -/
def State.retained (s : State) : List Job :=
  s.jobs.table ++ ((s.jobs.history.filter fun h => (s.welt.head - h.2).toNat ≤ retentionWords).map Prod.fst)

/-- The newest of some jobs. -/
def newestJob : List Job → Option Job
  | [] => none
  | j :: rest => match newestJob rest with
    | some k => some (if k.seq.after j.seq then k else j)
    | none => some j

/-- OUTCOME codes of R187. -/
def outcomeCode : RecOutcome → Nat
  | .queued => 0
  | .running => 1
  | .ended => 2
  | .cancelled => 3
  | .stopped => 4
  | .held => 5
  | .interrupted => 6

/-- GATE codes of R187. -/
def gateCode : GateState → Nat
  | .none => 0
  | .armed => 1
  | .doneEvidence => 2
  | .doneEnded => 3
  | .inDoubt => 4
  | .resolvedDone => 5
  | .resolvedRedo => 6

/-- Three received characters to a word (R161). -/
def packChars : List Nat → List Word
  | [] => []
  | [a] => [field 35 24 a]
  | [a, b] => [field 35 24 a ||| field 23 12 b]
  | a :: b :: c :: rest => (field 35 24 a ||| field 23 12 b ||| field 11 0 c) :: packChars rest

/-- The data window of a lookup. -/
def Job.window (j : Job) (part start : Nat) : List Word :=
  if part = 0 then
    (j.status.drop start).map fun r =>
      field 35 32 (outcomeCode r.outcome) ||| field 31 28 (gateCode r.gate) ||| field 27 24 r.hint
  else match j.results.find? fun r => r.1 == start with
    | some r => packChars r.2
    | none => []

/-- The answer of a lookup that found a job. -/
def Lookup.found (l : Lookup) (j : Job) (n : Nat) : Lookup :=
  { l with status := 2, nrec := j.recs.length, matches' := min n 255, jobseq := j.seq, href := j.href,
           jstate := if j.done then 2 else 1,
           ended := (j.status.filter fun r => r.outcome = .ended || r.gate = .resolvedDone).length,
           cancelled := (j.status.filter fun r => r.outcome = .cancelled).length,
           openGates := (j.status.filter fun r => !r.gate.settled).length,
           window := (j.window l.part l.start).take 2048 }

/-- Finish a lookup. -/
def State.lookupAnswer (s : State) (l : Lookup) : Lookup :=
  let js := s.retained
  if l.byCode = 1 then
    match js.find? fun j => j.seq == l.key with
    | some j => l.found j (js.filter fun k => k.href == j.href).length
    | none => { l with status := if l.key.after s.jobs.lastSeq then 3 else 4, nrec := 0, matches' := 0, window := [] }
  else
    match newestJob (js.filter fun j => j.href == l.key) with
    | some j => l.found j (js.filter fun k => k.href == l.key).length
    | none => { l with status := 3, nrec := 0, matches' := 0, window := [] }

/-- A write of GO to a lookup block (R187): refused while it is BUSY, and where BY or PART is reserved. -/
def State.lookupStart (s : State) (b : Nat) : State × Nat :=
  let l := at' s.welt.lookups b
  if l.status = 1 then (s, rcBusy)
  else if (l.byCode ≠ 1 ∧ l.byCode ≠ 2) ∨ 1 < l.part then (s, rcRange)
  else
    let l' : Lookup := { Lookup.reset with key := l.key, byCode := l.byCode, part := l.part, start := l.start, status := 1 }
    (s.onWelt fun v => { v with lookups := upd v.lookups b fun _ => l' }, 0)

/-! ### Load (R189) -/

/-- Words of one bank programmed over the last `n` whole seconds; of the bank with the higher load. -/
def loadOf (l : List Nat) (n : Nat) : Nat := ((l.drop 1).take n).foldl (· + ·) 0
def Welt.loadSum (w : Welt) (n : Nat) : Nat := max (loadOf (at' w.load 0) n) (loadOf (at' w.load 1) n)

/-- The end of a second: a new bucket in each bank, and the two limits judged. -/
def Welt.tick (w : Welt) : Welt :=
  let w := { w with load := w.load.map fun l => (0 :: l).take 3601 }
  { w with loadOver := w.loadOver || decide (120 * 3600 < w.loadSum 3600),
           burstOver := w.burstOver || decide (2000 * 60 < w.loadSum 60) }

/-! ### Meanings -/

/-- WELT_ENTRY_COMMIT (R159). -/
def execWeltEntryCommit (s : State) : Host.Outcome State Fault Refusal := .next s.commitEntry

/-- MARKS_FLUSH_TIMER (R169): 10 ms after the oldest waiting mark. -/
def execMarksFlushTimer (s : State) : Host.Outcome State Fault Refusal := .next s.flushMarks

/-- GATE_WINDOW_EXPIRY (R173): the window of an ARMED gate has run out, so it is IN_DOUBT and its entry is written. -/
def execGateWindowExpiry (entry : Fin 64) (s : State) : Host.Outcome State Fault Refusal :=
  match at' s.welt.gates entry with
  | none => .next s
  | some g =>
    if g.doubt || g.settling || !(match g.windowEnd with | some e => decide (e ≤ s.stitch.n) | none => false) then .next s
    else
      let h := s.gateHint g
      .next (((s.onGate g.job g.idx fun g => some { g with doubt := true, hint := h }).onRec g.job g.idx
        fun r => { r with gate := .inDoubt }).writeSettle g.job g.idx 3 0 h 0)

/-- LOOKUP_GO (R187). -/
def execLookupGo (port : Fin 2) (block : Fin 2) (s : State) : Host.Outcome State Fault Refusal :=
  answer port true (s.lookupStart block)

/-- LOOKUP_DONE (R187). -/
def execLookupDone (block : Fin 2) (s : State) : Host.Outcome State Fault Refusal :=
  let l := at' s.welt.lookups block
  if l.status = 1 then
    .next (s.onWelt fun w => { w with lookups := upd w.lookups block fun _ => s.lookupAnswer l })
  else .next s

/-- WELT_LOAD_TICK (R189). -/
def execWeltLoadTick (s : State) : Host.Outcome State Fault Refusal := .next (s.onWelt Welt.tick)

end Sys2Proof.Machine
end

