-- ==== Sys2Proof/Machine/AxisCmds.lean ====
section
/-!
DEFINITION. Events of an axis: step events and the stall estimate (R308, R355..R357), coming to rest (R312), homing (R319,
R320), confirmations (R324), limits (R314..R317), standstill (R321), gearing lag (R329).
-/

namespace Sys2Proof.Machine

/-! ### Step events (R308) and stall (R355..R357) -/

/-- The full step of ANGLE a position lies in, unwrapped. -/
def State.fullStepOf (s : State) (n : Nat) (pos : Int) : Int := (s.sigma n * pos + (s.ax n).aofs) / 256

/-- An estimate can be formed for a full step. -/
def State.stallEst (s : State) (n : Nat) : Bool :=
  s.cfgB (.ax n) F.dr_STALL_EN && s.inCurrent (2 * n) && 64 ≤ s.cfg (.ax n) F.dr_FAST * s.cfg (.ax n) F.dr_TOFF &&
    s.cfg (.ax n) F.dr_STALL_FMIN ≤ s.fullSteps n

/-- The head path on which axis `n` is the clicker in a step of a CUT. -/
def State.cutPath (s : State) (n : Nat) : Option Nat :=
  [0, 1].find? fun x => s.cfgB (.head x) F.hb_CLK_EN && s.clkAx x == n && (s.head x).step.cutting

/-- A stall is lasting. -/
def State.stallLasting (s : State) (n : Nat) : State :=
  let a := s.ax n
  let s := s.onAx n fun a => { a with stallRun := 0, span := none }
  let s := s.raise 8 1 (n + 2) [field 35 26 (unsigned 10 a.lambda) ||| field 9 0 (unsigned 10 a.marginMin)]
  if a.mode = .home then s.homeBreak n
  else (((s.dropMotion n 3).uncertain n 4 false).laneFault (n + 2)).cameToRest (n + 2)

/-- A detection: the end of a HARD_STOP search, a jam of a clicker, the begin of the second span, or a lasting stall. -/
def State.stallFound (s : State) (n : Nat) : State :=
  let a := s.ax n
  let s := s.onAx n fun a => { a with stallRun := 0 }
  if a.mode = .home ∧ a.hstep = .search ∧ s.hm n F.hm_HKIND = 3 then
    if a.refAt.isSome || a.hmet then s else s.refMet n a.lastEv
  else match s.cutPath n with
    | some x => s.jam x 1
    | none => match a.span with
      | none => s.onAx n fun a => { a with span := some 0 }
      | some k =>
        if k ≤ 4 * s.cfg (.ax n) F.dr_STALL_FS then s.stallLasting n
        else s.onAx n fun a => { a with span := some 0, stallTr := satInc 4095 a.stallTr }

/-- The back-EMF of one FAST part on axis `n` in mV times `emfDen` (R355): −σ_d × VM − R × (i1 + i2)/2 − L × (i2 − i1)/Δt, Δt being
half the part. -/
def State.emfDen (s : State) (n : Nat) : Nat :=
  2046 * s.cfg (.ax n) F.dr_RSHUNT * s.cfg (.ax n) F.dr_FAST * s.cfg (.ax n) F.dr_TOFF

def State.backEmf (s : State) (n : Nat) (e : EmfSample) : Int :=
  let part := s.cfg (.ax n) F.dr_FAST * s.cfg (.ax n) F.dr_TOFF
  let fs := 50 * 2 ^ s.cfg (.ax n) F.dr_VFS
  (if e.minus then 1 else -1) * (e.vm.toNat * s.emfDen n : Nat) -
    (s.cfg (.ax n) F.dr_RCOIL * 100 * fs * part : Nat) * (e.i1.toInt + e.i2.toInt) -
    (s.cfg (.ax n) F.dr_LCOIL * 25600000 * fs : Nat) * (e.i2.toInt - e.i1.toInt)

/-- Mean of a phase's estimates over a full step; none without any. -/
def State.phaseEmf (s : State) (n : Nat) (es : List EmfSample) : Option Int :=
  if es.isEmpty then none else some (roundDiv (es.foldl (fun t e => t + s.backEmf n e) 0) (es.length : Nat))

/-- sin and cos of k/1024 of a cycle, k below 256, in 2^-32: their series. -/
def sinFix (k : Nat) : Nat :=
  let x := k * 26353589
  let term (j : Nat) : Nat := (List.range j).foldl (fun t i => t * x / (2 ^ 32 * (i + 1))) (2 ^ 32)
  term 1 + term 5 + term 9 + term 13 - term 3 - term 7 - term 11 - term 15

/-- Angle index of (x, y) within the first quadrant, `x` positive and `y` not negative: the last index whose direction (x, y) has
reached. -/
def quadrantAngle (x y : Nat) : Nat :=
  ((List.range 256).filter fun k => decide (x * sinFix k ≤ y * sinFix (256 - k))).length - 1

/-- Angle of (x, y) in 1/1024 of a cycle, a fraction dropped (DESIGN CHOICE). -/
def angleOf (x y : Int) : Nat :=
  if 0 < x ∧ 0 ≤ y then quadrantAngle x.toNat y.toNat
  else if x ≤ 0 ∧ 0 < y then 256 + quadrantAngle y.toNat (-x).toNat
  else if x < 0 ∧ y ≤ 0 then 512 + quadrantAngle (-x).toNat (-y).toNat
  else if 0 ≤ x ∧ y < 0 then 768 + quadrantAngle (-y).toNat x.toNat
  else 0

/-- Wrapped to −512..511. -/
def wrapAngle (a : Int) : Int := (a + 512) % 1024 - 512

/-- The load angle of R355 for φ_E: d × (ANGLE − (φ_E − 256 × d)); `up` for a rising ANGLE. -/
def loadAngle (angle phi : Nat) (up : Bool) : Int :=
  let d : Int := if up then 1 else -1
  wrapAngle (d * ((angle : Int) - (phi - 256 * d)))

/-- The load angle that the samples of a full step give. -/
def State.lambdaOf (s : State) (n : Nat) (up : Bool) (emfA emfB : List EmfSample) : Option Int :=
  match s.phaseEmf n emfB, s.phaseEmf n emfA with
  | some b, some a => some (loadAngle (s.angle n) (angleOf b a) up)
  | _, _ => none

/-- A full step of ANGLE has been moved, with load angle `lam` where it gave an estimate. -/
def State.fullStepDone (s : State) (n : Nat) (est : Bool) (lam : Int) : State :=
  let s := s.onAx n fun a => { a with stallOk := est, span := a.span.map (· + 1) }
  if !est then s
  else
    let mu := 256 - lam
    let low := decide (mu < s.cfg (.ax n) F.dr_STALL_TH)
    let s := s.onAx n fun a =>
      { a with lambda := lam, marginMin := min a.marginMin mu, stallRun := if low then a.stallRun + 1 else 0 }
    if s.cfg (.ax n) F.dr_STALL_FS ≤ (s.ax n).stallRun then s.stallFound n else s

/-- What an event of a bound axis means for its head path. -/
def State.pathStep (s : State) (n : Nat) : State :=
  [0, 1].foldl (fun (s : State) x =>
    if s.cfgB (.head x) F.hb_CLK_EN && s.clkAx x == n then s.clickStep x
    else if s.cfgB (.head x) F.hb_FEED_EN && s.feedAx x == n then s.feedStep x else s) s

/-- STEP_EVENT: the next event placed in the current stitch is issued. Where it completes a full step of ANGLE, `emfA` and `emfB` hold
what the FAST parts of that step have sampled on bridges A and B (R355). -/
def execStepEvent (axis : Fin 12) (emfA emfB : List EmfSample) (s : State) : Host.Outcome State Fault Refusal :=
  let n := axis.val
  let a := s.ax n
  match a.events with
  | [] => .next s
  | e :: rest =>
    if s.nextPh ≤ e.1 then .next s
    else
      let crossed := s.fullStepOf n a.pos != s.fullStepOf n e.2
      let s := s.onAx n fun a =>
        { a with events := rest, pos := e.2, evInt := e.1 - a.lastEv, evStride := (e.2 - a.pos).natAbs, lastEv := e.1 }
      let up : Bool := (0 < e.2 - a.pos) == (s.sigma n == 1)
      let lam := if s.stallEst n then s.lambdaOf n up emfA emfB else none
      let s := if crossed then s.fullStepDone n lam.isSome (lam.getD 0) else s
      .next (s.pathStep n)

/-- STALL_SPAN_END (R356): the second span has been moved, or the axis has come to rest. -/
def execStallSpanEnd (axis : Fin 12) (s : State) : Host.Outcome State Fault Refusal :=
  .next (match (s.ax axis).span with
    | some k =>
      if 4 * s.cfg (.ax axis) F.dr_STALL_FS ≤ k ∨ (s.ax axis).vel = 0 then
        s.onAx axis fun a => { a with span := none, stallRun := 0, stallTr := satInc 4095 a.stallTr }
      else s
    | none => s)

/-! ### Rest (R312) -/

/-- The axis of a stopping lane is at rest: the remaining distance is kept; a MOVE that reached its target has ENDED. -/
def State.stopRest (s : State) (n cause : Nat) : State :=
  let a := s.ax n
  let s := if a.mode = .home then s.onAx n Axis.homeOver else s.keepRest n cause
  let s := if a.mode = .move ∧ a.pos = a.tgt then s.endRunning (n + 2) else s
  (s.onLane (n + 2) fun l => { l with pathStop := false }).cameToRest (n + 2)

/-- An axis at rest by its motion: what its mode and its lane make of it. -/
def State.restNow (s : State) (n : Nat) : State :=
  let a := s.ax n
  let l := s.lane (n + 2)
  let cause := if l.stopping then l.stopCause else a.stop.getD 1
  match a.mode with
  | .rest => s
  | .path => s
  | .gear => s
  | .disengage =>
    let s := (s.onAx n fun a => { a with gstate := .none, tgt := a.pos }).keepRest n cause
    let s := if a.stop = some 3 then s.raise 8 0xA (n + 2) [field 35 32 3] else s
    if l.stopping then s.cameToRest (n + 2) else if a.stop.isNone then s.endRunning (n + 2) else s.stoppedNow n
  | .home =>
    if l.stopping then s.stopRest n cause
    else if a.hstep = .failed then s
    else if a.stop = some 2 then s.homeFail n
    else s.homeRest n
  | .move =>
    if l.stopping ∨ l.pathStop then s.stopRest n (if l.stopping then cause else 7)
    else if a.stop = some 2 then (s.stopRest n 2).stoppedNow n
    else if a.pos = a.tgt then (s.keepRest n 1).endRunning (n + 2)
    else s.stopRest n cause

/-- AXIS_AT_REST: velocity zero and nothing placed. -/
def execAxisAtRest (axis : Fin 12) (s : State) : Host.Outcome State Fault Refusal :=
  let n := axis.val
  .next (if !s.axDone n then s
    else match s.ownerPath (n + 2) with
      | some x => if (s.ax n).mode = .move then s.boundRest x n else s
      | none => s.restNow n)

/-! ### Homing and confirmation (R319, R320, R324) -/

/-- HOME_REFERENCE: the reference met by a homing is set. -/
def execHomeReference (axis : Fin 12) (s : State) : Host.Outcome State Fault Refusal :=
  .next (if (s.ax axis).mode ≠ .home then s
    else match (s.ax axis).refAt with
      | some p => s.homeRef axis p
      | none => s)

/-- HOME_RETRY: the 20 ms after a failed run have passed. -/
def execHomeRetry (axis : Fin 12) (s : State) : Host.Outcome State Fault Refusal :=
  .next (if (s.ax axis).mode = .home ∧ (s.ax axis).hstep = .failed ∧ !(s.lane (axis + 2)).stopping then
      (s.onAx axis fun a => { a with htry := 2 }).homeBegin axis
    else s)

/-- CONF_RETRY: the 1 ms after a failed confirmation has passed. -/
def execConfRetry (axis : Fin 12) (s : State) : Host.Outcome State Fault Refusal :=
  .next (match (s.ax axis).conf with
    | some c => if c.waits ∨ c.second then s else s.confBegin axis { c with second := true }
    | none => s)

/-! ### Limits (R314..R317) -/

/-- The axis moves toward the end that input `i` guards. -/
def State.toward (s : State) (n i : Nat) : Bool :=
  let a := s.ax n
  let side := s.cfgB (.ax n) (if i = 0 then F.ax_SIDE0 else F.ax_SIDE1)
  (a.vel != 0 && side == !a.neg) || (a.vNext != 0 && side == !a.negNext) ||
    (match a.events with | e :: _ => e.2 != a.pos && side == decide (a.pos < e.2) | [] => false)

/-- The action of input `i` is suspended: HSW during HOME, a clicker home input during a CUT. -/
def State.suspended (s : State) (n i : Nat) : Bool :=
  ((s.ax n).mode == .home && s.hm n F.hm_HSW == i) ||
    (match s.cutPath n with | some x => s.clk x F.clk_HOME_SRC == i | none => false)

/-- HARD: what has not been issued is cancelled. -/
def State.limitHard (s : State) (n : Nat) : State :=
  match s.ownerPath (n + 2) with
  | some x => (((s.unplace x).dropMotion n 2).laneFault (n + 2)).cameToRest (n + 2)
  | none =>
    match (s.ax n).mode with
    | .home => s.homeFail n
    | .rest => s
    | _ =>
      let s := s.onAx n fun a => { a.halt with stop := some 2, mode := if a.mode = .gear then .disengage else a.mode,
                                               gstate := if a.mode = .gear then .disengaging else a.gstate, pend := none }
      (s.onLane (n + 2) fun l => { l with stopCause := 2 }).beginStop (n + 2) .stopped

/-- RAMP: as a stop request. -/
def State.limitRamp (s : State) (n : Nat) : State :=
  match s.ownerPath (n + 2) with
  | some x => s.beginStop x .stopped
  | none =>
    if (s.ax n).mode = .home then s.homeBreak n
    else (s.onLane (n + 2) fun l => { l with stopCause := if l.stopping then l.stopCause else 2 }).beginStop (n + 2) .stopped

/-- HSW becomes active in the search of a homing that looks for it. -/
def State.homeSwitchOn (s : State) (n i : Nat) : State :=
  if (s.ax n).mode = .home ∧ (s.ax n).hstep = .search ∧ s.hm n F.hm_HSW = i ∧ s.hm n F.hm_HKIND ≤ 1 then
    s.onAx n fun a => { a with hmet := true, stop := some (a.stop.getD 0), limDec := if a.stop.isSome then a.limDec else s.cfg (.ax n) F.ax_LIM_DEC }
  else s

/-- HSW releases in the latch of a homing: its reference, or the latch goes on to the next index. -/
def State.homeSwitchOff (s : State) (n i ph : Nat) : State :=
  if (s.ax n).mode = .home ∧ (s.ax n).hstep = .latch ∧ s.hm n F.hm_HSW = i ∧ !(s.ax n).hmet then
    if s.hm n F.hm_HKIND = 0 then s.refMet n (s.nowPh + ph)
    else
      let d : Int := s.hm n F.hm_LATCH_MAX
      s.onAx n fun a => { a with hstep := .index, tgt := if s.hm n F.hm_HDIR = 1 then a.pos - d else a.pos + d }
  else s

/-- LIMIT: input `input` has been active for DEB. -/
def execLimit (axis : Fin 12) (input : Fin 2) (s : State) : Host.Outcome State Fault Refusal :=
  let n := axis.val
  let i := input.val
  let act := s.cfg (.ax n) (if i = 0 then F.ax_ACT0 else F.ax_ACT1)
  if (if i = 0 then (s.ax n).lim0 else (s.ax n).lim1) then .next s
  else
    let s := s.onAx n fun a => if i = 0 then { a with lim0 := true } else { a with lim1 := true }
    let s := if act = 0 then s else
      (s.onAx n fun a => { a with limPos := a.pos }).raise 8 3 (n + 2)
        [flag 35 (i == 1) ||| field 34 33 act ||| field 31 0 ((s.ax n).posWord.toNat % 2 ^ 32)]
    let s := if s.suspended n i || !s.toward n i then s
      else if act = 1 then s.limitHard n else if act = 2 then s.limitRamp n else s
    .next ((s.homeSwitchOn n i).limitSwitch n i)

/-- LIMIT_RELEASE: the input has held the other level for DEB, at the phase given with it. -/
def execLimitRelease (axis : Fin 12) (input : Fin 2 × BitVec 12) (s : State) : Host.Outcome State Fault Refusal :=
  let n := axis.val
  let i := input.1.val
  if (if i = 0 then (s.ax n).lim0 else (s.ax n).lim1) then
    let s := s.onAx n fun a => if i = 0 then { a with lim0 := false } else { a with lim1 := false }
    .next ((s.homeSwitchOff n i input.2.toNat).limitSwitch n i)
  else .next s

/-! ### Standstill and gearing lag (R321, R329) -/

/-- STANDSTILL: the axis has been at rest for IDLE_ST stitches; its bridges take the standstill drive with their next regulation
period (R342). -/
def execStandstill (axis : Fin 12) (s : State) : Host.Outcome State Fault Refusal :=
  let n := axis.val
  let a := s.ax n
  if s.cfg (.ax n) F.ax_KIND = 1 ∧ a.sstate = 0 ∧ a.mode = .rest ∧ !s.axisWorks n ∧ s.cfg (.ax n) F.ax_IDLE_ST ≤ a.restN then
    .next (s.onAx n fun a => { a with sstate := s.cfg (.ax n) F.ax_SS_MODE + 1 })
  else .next s

/-- GEAR_LAG_GRACE: 16 stitches after the lag first passed LAG_MAX it still lies beyond it. -/
def execGearLagGrace (axis : Fin 12) (s : State) : Host.Outcome State Fault Refusal :=
  let n := axis.val
  if (s.ax n).mode = .gear ∧ (s.ax n).grace = some 0 then
    .next (((s.disengage n (some 4)).raise 8 0xA (n + 2) [field 35 32 4]).laneFault (n + 2))
  else .next s

end Sys2Proof.Machine
end

