-- ==== Sys2Proof/Machine/Readmit.lean ====
section
/-!
DEFINITION. The bridge check (R343) and re-admission (R154): the checks of each kind of lane, their outcomes, the timeout.
-/

namespace Sys2Proof.Machine

/-! ### Domains of lanes (R22, R23) -/

/-- The power domain a lane's records need. -/
def laneDom (i : Nat) : Option Nat :=
  if i < 2 then some (8 + i) else if i < 14 then some (10 + (i - 2) / 3) else if i < 18 then some (14 + (i - 14) / 2) else none

/-- The lane's domain is in RUN. -/
def State.domReady (s : State) (i : Nat) : Bool := match laneDom i with | some d => (s.dom d).st == .run | none => true

/-- The lane requests its domain to RUN. -/
def State.request (s : State) (i : Nat) : State :=
  match laneDom i with
  | some d => if (s.dom d).st = .run then s else s.onDom d fun w => { w with req := true }
  | none => s

/-! ### The bridge check (R343) -/

/-- A window's offset, s12 in 0.01 mV, is in range. -/
def ofsOk (w : BitVec 12) : Bool := w.toInt.natAbs ≤ 500

/-- What a check found on one bridge: the offset adopted, windows out of range in passing, gate re-checks passed, lasting
faults. Of `gates`, bits 2e + 1..2e are 0 where element e passed, 1 where it passed its re-check, 2 and 3 where its turn-on
or turn-off failed twice. -/
structure CheckOut where
  ofs : Option Int
  ofsTr : Nat
  gateTr : Nat
  bad : List Lasting

def bridgeOutcome (b : Nat) (w1 w2 : BitVec 12) (gates : BitVec 8) : CheckOut :=
  let g (e : Nat) : Nat := gates.toNat / 4 ^ e % 4
  let es := [0, 1, 2, 3]
  { ofs := if ofsOk w1 && ofsOk w2 then some (roundDiv (w1.toInt + w2.toInt) 2)
           else if ofsOk w1 then some w1.toInt else if ofsOk w2 then some w2.toInt else none,
    ofsTr := if ofsOk w1 == ofsOk w2 then 0 else 1,
    gateTr := (es.filter fun e => g e == 1).length,
    bad := (if ofsOk w1 || ofsOk w2 then [] else [⟨b, 10, 4, field 11 0 w2.toNat⟩]) ++
      (es.filter fun e => 2 ≤ g e).map fun e => ⟨b, if g e = 2 then 5 else 6, e, 0⟩ }

/-- The bridges of axis `n` begin their check with every gate off. -/
def State.bridgeRecheck (s : State) (n : Nat) : State :=
  let begin (b : Bridge) : Bridge := { b with st := .calib, sw := .off, confirm := none, recWaits := false, drives := false, keeps := false, brakes := false }
  s.onAx n fun a => { a with a1 := begin a.a1, b1 := begin a.b1 }

/-- The bridge check of axis `n` runs. -/
def State.calibrating (s : State) (n : Nat) : Bool := (s.ax n).a1.st == .calib || (s.ax n).b1.st == .calib

/-- VM was lost while the group's domain was off (R323, R451): tested for each axis of the group after its check; the flag
clears with the last of them. -/
def State.vmLostTest (s : State) (n : Nat) : State :=
  let g := n / 3
  if !at' s.sup.vmLostG g then s
  else
    let s := if s.cfg (.ax n) F.ax_KIND = 1 then s.uncertain n 1 false else s
    if [0, 1, 2].any fun k => s.calibrating (3 * g + k) then s
    else s.onSup fun u => { u with vmLostG := upd u.vmLostG g fun _ => false }

/-- The lane is in the check of its RE_ADMIT. -/
def State.inCheck (s : State) (i : Nat) : Bool := (s.lane i).state == .readmit && (s.lane i).raStep == 4

/-- BRIDGE_CHECK_DONE: the window offsets and gate results of both bridges of an axis. -/
def execBridgeCheckDone (axis : Fin 12) (a1 a2 b1 b2 : BitVec 12) (gateA gateB : BitVec 8) (s : State) :
    Host.Outcome State Fault Refusal :=
  let n := axis.val
  if !s.calibrating n then .next s
  else
    let ra := bridgeOutcome (2 * n) a1 a2 gateA
    let rb := bridgeOutcome (2 * n + 1) b1 b2 gateB
    let done (q : Bridge) (r : CheckOut) : Bridge := { q with st := if q.st = .calib then .run else q.st, ofs := r.ofs.getD q.ofs }
    let s := s.onAx n fun a =>
      { a with a1 := done a.a1 ra, b1 := done a.b1 rb,
               ofsTr := min 4095 (a.ofsTr + ra.ofsTr + rb.ofsTr), gateTr := min 4095 (a.gateTr + ra.gateTr + rb.gateTr) }
    let bad := ra.bad ++ rb.bad
    let s := if bad = [] then (s.newPeriod (2 * n)).newPeriod (2 * n + 1)
      else if s.inCheck (n + 2) then (s.bridgesOut n bad).readmitFail (n + 2)
      else s.bridgesLasting n bad
    let s := s.vmLostTest n
    .next (if s.inCheck (n + 2) then
        if s.cfg (.ax n) F.ax_KIND = 1 then s.startHome n 0 true else s.readmitPass (n + 2)
      else s)

/-! ### Re-admission (R154) -/

/-- The engine of a lane begins its check; the lane's domain is in RUN. -/
def State.checkBegin (s : State) (i : Nat) : State :=
  let s := s.onLane i fun l => { l with raStep := 4 }
  if i < 2 then (if (s.desc i).dots = 0 then s.readmitFail i else s.scanStart i 2 true)
  else if i < 14 then s.bridgeRecheck (i - 2)
  else s.solReadmitCheck (i - 14)

/-- A lane in FAULT or OUT. -/
def State.outOfService (s : State) (i : Nat) : Bool := (s.lane i).state == .fault || (s.lane i).state == .out

/-- One masked lane of a RE_ADMIT; `s0` is the state before the record acted. A head lane waits for its bound axes where
the record re-admits them too. -/
def State.reAdmitLane (s0 : State) (q : QItem) (s : State) (i : Nat) : State :=
  if !s0.outOfService i then s
  else
    let down := if i < 2 then (s0.boundAxes i).filter s0.outOfService else []
    let s := s.onLane i fun l =>
      { l with state := .readmit, wait := .none, raStep := if down = [] then 1 else 2, raRec := some (q.job, q.idx) }
    let s := s.raise 4 3 i [BitVec.ofNat 36 (s.lane i).epoch.toNat]
    if (down.all fun a => q.r.mask.testBit a) && !s.headRefused i then s else s.readmitFail i

/-- A RE_ADMIT acts (R152): it ENDS with the last of its lanes. -/
def State.reAdmit (s : State) (q : QItem) : State :=
  if (maskList 19 q.r.mask).any s.outOfService then (maskList 19 q.r.mask).foldl (s.reAdmitLane q) s
  else s.endCtrl q true

/-- A lane in re-admission at an evaluation of the dispatcher. -/
def State.readmitSlot (s : State) (i : Nat) : State :=
  let l := s.lane i
  if l.state = .readmit ∧ l.raStep = 2 then
    let axes := s.boundAxes i
    if axes.any s.outOfService then s.readmitFail i
    else if axes.any fun a => (s.lane a).state == .readmit then s
    else s.onLane i fun l => { l with raStep := 1 }
  else if l.state = .readmit ∧ l.raStep = 1 then
    if i = 18 ∨ s.cfg (.lane i) F.lane_RA_ACT = 0 then s.readmitPass i
    else if s.domReady i ∧ !(14 ≤ i && s.solChecking (i - 14)) then s.checkBegin i
    else s.request i
  else if l.state = .stopped ∧ l.raStep = 3 then
    let s := s.onLane i fun l => { l with raStep := 0 }
    (s.continueLane i).getD s
  else s

/-- The record of an index of an outstanding job, as a queue item. -/
def State.item? (s : State) (job : Word) (idx : Nat) : Option QItem :=
  (s.job? job).bind fun j => (j.recs[idx]?).map fun r => ⟨job, idx, r⟩

/-- The re-admission of lane `i` goes on, its check stopped or not. -/
def State.readmitting (s : State) (i : Nat) : Bool := (s.lane i).state == .readmit || ((s.lane i).state == .stopped && (s.lane i).raStep == 5)

/-- A lane whose re-admission is over lets go of its record; the record ENDS with its last lane. -/
def State.readmitClose (s : State) (i : Nat) : State :=
  match (s.lane i).raRec with
  | none => s
  | some r =>
    if s.readmitting i then s
    else
      let s := s.onLane i fun l => { l with raRec := none }
      if s.lanes.any fun l => l.raRec == some r then s
      else
        let s := s.dropDeadline r.1 r.2
        match s.item? r.1 r.2 with
        | some q => s.endCtrl q true
        | none => s

/-- The check of a lane is broken off. -/
def State.checkAbort (s : State) (i : Nat) : State :=
  if i < 2 then (if (s.head i).sstate = 1 ∧ (s.head i).skind = 2 then s.scanEnd i 5 else s)
  else if i < 14 then
    s.onAx (i - 2) fun a => if a.hcheck then a.homeOver else a
  else if i < 18 then (bankChans (i - 14)).foldl (fun (s : State) c => s.onChan c Chan.dropCheck) s
  else s

/-- The check of a RE_ADMIT is stopped as R150 gives it: an axis that moves decelerates, everything else is broken off at once.
DEDUCED (log 71): after a stop the lane comes to rest in STOPPED, its re-admission open until CONTINUE, SKIP or its timeout. -/
def State.stopCheck (s : State) (i : Nat) (goal : LaneState) : State :=
  let moves : Bool := 2 ≤ i && i < 14 && (s.ax (i - 2)).hcheck && (s.ax (i - 2)).vel != 0
  let s := if moves then s else s.checkAbort i
  let s := s.onLane i fun l => { l with stopping := true, stopTo := goal }
  if moves then s else s.cameToRest i

/-- READMIT_TIMEOUT: the timeout of a RE_ADMIT has run out: its lanes still in re-admission return to FAULT. -/
def execReadmitTimeout (s : State) : Host.Outcome State Fault Refusal :=
  let due := s.jobs.deadlines.find? fun d =>
    decide (d.2.2 < s.nextPh) && (match s.item? d.1 d.2.1 with | some q => q.r.typ == tReAdmit | none => false)
  match due with
  | none => .next s
  | some d =>
    let s := s.onJobs fun j => { j with deadlines := j.deadlines.erase d }
    let ls := (List.range 19).filter fun i => (s.lane i).raRec == some (d.1, d.2.1) && s.readmitting i
    .next (ls.foldl (fun (s : State) i => ((s.stopCheck i .fault).readmitFail i).readmitClose i) (s.raiseJob 7 31 d.1))

end Sys2Proof.Machine
end

