-- ==== Sys2Proof/Machine/Dispatcher.lean ====
section
/-!
DEFINITION. The lane dispatcher (R22, R23, R26, R141, R149..R156, R171, R173, R174, R188): what a record waits for, its
release, fences, the records of lane 31; and the commands that release a record or let a record of lane 31 act.
-/

namespace Sys2Proof.Machine

/-! ### What a record waits for (R149) -/

/-- The previous record of the lane has not reached its release point (R141). -/
def State.waitsPrevious (s : State) (i : Nat) (q : QItem) : Bool :=
  let l := s.lane i
  l.running.isSome || l.ckptWait.isSome ||
    (if i < 2 then !l.tail.isEmpty && q.r.typ != tPrint
     else if i < 14 then !l.tail.isEmpty
     else if i < 18 then
       if q.r.typ = tSolRun then (s.chan (8 * (i - 14) + bits (q.r.w 1) 2 0)).busy
       else (bankChans (i - 14)).any fun c => (bits (q.r.w 1) 7 0).testBit (c % 8) && (s.chan c).busy
     else !l.tail.isEmpty)

/-- A bound axis moves for a record of its own lane. -/
def State.axisBusyAlone (s : State) (i : Nat) : Bool :=
  let m := (s.ax (i - 2)).mode
  m == .move || m == .home || m == .disengage

/-- A bound axis lane waits for its head lane, a record that uses a path for the axes of the path (R26). -/
def State.waitsPath (s : State) (i : Nat) (q : QItem) : Bool :=
  if 2 ≤ i && i < 14 then (s.ownerPath i).isSome
  else i < 2 && usesPath q.r.typ && !s.headOwns i && (s.boundAxes i).any s.axisBusyAlone

/-- The lanes whose engines a record needs. -/
def State.enginesOf (s : State) (i : Nat) (q : QItem) : List Nat := i :: (if i < 2 ∧ usesPath q.r.typ then s.boundAxes i else [])

/-- A calibration that is none of the lane's own records runs on the lane's engine (R156). -/
def State.laneCalib (s : State) (i : Nat) : Bool :=
  if i < 2 then (s.head i).sstate == 1 && (s.head i).skind == 0
  else if i < 14 then s.calibrating (i - 2)
  else i < 18 && s.solChecking (i - 14)

/-- The first thing the record at the head of a lane waits for, apart from its gate. -/
def State.obstacle (s : State) (i : Nat) (q : QItem) : Option Wait :=
  if s.waitsPrevious i q then some .previous
  else if s.laneDoubt i then some .inDoubt
  else if 2 ≤ i && i < 14 && (s.ax (i - 2)).mode == .gear && q.r.typ != tGear then some .geared
  else if s.waitsPath i q then some .path
  else if (s.enginesOf i q).any fun k => !s.domReady k then some .power
  else if (s.enginesOf i q).any s.laneCalib then some .calib
  else if q.r.typ = tPrint ∧ !s.printAssetsOk q.r then some .asset
  else if s.ev.paused then some .events
  else none

/-- The record at the head of lane `i` waits with a reason. -/
def State.waitFor (s : State) (i : Nat) (w : Wait) : State := s.onLane i fun l => { l with wait := w }.norm

/-! ### Arming (R171, R188) -/

/-- GATE_ARM entries that wait to be written. -/
def State.arming (s : State) : List (Word × Nat) :=
  s.welt.wq.filterMap fun w => match w.act with
    | .gateArmed _ => some (w.seq, bits (w.body.getD 0 0) 35 24)
    | _ => none

/-- Empty entries of the gate list that no GATE_ARM in flight will take. -/
def State.gatesFree (s : State) : Nat := (s.welt.gates.toList.filter Option.isNone).length - s.arming.length

/-- The gate word of R163. -/
def armWord (i : Nat) (q : QItem) : Word :=
  field 35 24 q.idx ||| field 23 19 i ||| field 15 12 q.r.source ||| field 7 0 q.r.srcidx

/-- The gate of a record that could be released: what it waits for, none where it is ARMED or there is none. -/
def State.arm (s : State) (i : Nat) (q : QItem) : State × Option Wait :=
  if !q.r.gate || (s.gate? q.job q.idx).isSome then (s, none)
  else if s.arming.contains (q.job, q.idx) then (s, some .arming)
  else if s.gatesFree = 0 then (s, some .gateFull)
  else (s.flushMarks.writeEntry 4 (s.portOf q.job) q.job [armWord i q] (.gateArmed i), some .arming)

/-! ### Release (R22, R60, R155) -/

/-- The engine of a lane takes a released record. -/
def State.startEngine (s : State) (i : Nat) (q : QItem) : State :=
  if i < 2 then s.startHead i q
  else if i < 14 then
    let n := i - 2
    if q.r.typ = tMove then s.startMove n q
    else if q.r.typ = tHome then s.startHomeRec n q
    else if q.r.typ = tGear then s.startGear n q
    else s.startDc n q (phOf (q.r.w 2))
  else if i < 18 then (if q.r.typ = tSolRun then s.startSol (i - 14) q else s.startSolDiag (i - 14) q)
  else if q.r.typ = tAuxXfer then s.startXfer q
  else s.endRecord i q

/-- The first record of a job is released: JOB_STARTED and STARTED. -/
def State.jobStarts (s : State) (i : Nat) (seq : Word) : State :=
  match s.job? seq with
  | some j => if j.started then s
    else ((s.onJob seq fun j => { j with started := true }).queueMark 1 0 0 seq).raiseJob 2 i seq
  | none => s

/-- The record at the head of lane `i` is released. -/
def State.release (s : State) (i : Nat) (q : QItem) : State :=
  let n := s.stitch.n
  let s := s.onLane i fun l =>
    { l with queue := l.queue.drop 1, running := some q, relStitch := n + 1, state := .running, wait := .none, stopCause := 1 }
  let s := if q.r.tmo then s.onJobs fun j => { j with deadlines := j.deadlines ++ [(q.job, q.idx, (n + 1) * 4096 + phOf q.r.timeout)] }
    else s
  let s := s.onGate q.job q.idx fun g => some { g with live := true }
  let s := (s.onRec q.job q.idx fun r => { r with outcome := .running }).jobStarts i q.job
  let s := if i < 18 then s.bistAbort else s
  s.startEngine i q

/-- Release it where nothing holds it back; else it waits. -/
def State.tryRecord (s : State) (i : Nat) (q : QItem) : State :=
  match s.obstacle i q with
  | some w => (if w = .power then (s.enginesOf i q).foldl State.request s else s).waitFor i w
  | none =>
    let a := s.arm i q
    match a.2 with
    | some w => a.1.waitFor i w
    | none => a.1.release i q

/-! ### Fences and LANE_OUT in a lane (R153, R154) -/

/-- State of the fence that stands in a lane. -/
def State.fenceOf (s : State) (q : QItem) : FenceState :=
  match (s.job? q.job).bind fun j => j.fences.find? fun f => f.1 == q.idx with
  | some f => f.2
  | none => .resumed

/-- Take an item that stands in lanes out of lane `i`. -/
def State.popItem (s : State) (i : Nat) (q : QItem) : State :=
  s.onLane i fun l => { l with queue := l.queue.filter (· != q) }.norm

/-- LANE_OUT with NOW = 0 has reached the head of lane `i`; its record ENDS with the last of its lanes. -/
def State.outInOrder (s : State) (i : Nat) (q : QItem) : State :=
  let s := (s.popItem i q).laneGoesOut i
  if s.lanes.any fun l => l.queue.contains q then s else s.endCtrl q true

/-- Every record before the head of the lane's queue has ENDED. -/
def Lane.clear (l : Lane) : Bool := l.running.isNone && l.tail.isEmpty && l.ckptWait.isNone

/-- The dispatcher may act on lane `i` in this stitch: in service, not stopping, no record released yet, outputs free. -/
def State.mayDispatch (s : State) (i : Nat) : Bool :=
  let l := s.lane i
  l.inService && !l.stopping && l.relStitch != s.stitch.n + 1 && !s.laneHeld i

/-- Evaluate the head of lane `i`: fences that are done are passed; at most `fuel` items. -/
def State.evalLane : Nat → State → Nat → State
  | 0, s, _ => s
  | fuel + 1, s, i =>
    match (s.lane i).queue with
    | [] => s
    | q :: _ =>
      if q.r.typ = tFence then
        match s.fenceOf q with
        | .waiting => s.waitFor i .fence
        | .broken => s.waitFor i .broken
        | _ => State.evalLane fuel (s.popItem i q) i
      else if q.r.typ = tLaneOut then (if (s.lane i).clear then s.outInOrder i q else s.waitFor i .previous)
      else s.tryRecord i q

/-- The dispatcher evaluates lane `i` (R22). -/
def State.dispatch (s : State) (i : Nat) : State :=
  if s.mayDispatch i then State.evalLane (s.lane i).queue.length s i else s

/-! ### Fences (R153) -/

/-- The fence at index `idx` of a job stands at the head of lane `i`, and every record before it has ENDED with its gate
settled. -/
def State.fenceAt (s : State) (seq : Word) (idx i : Nat) : Bool :=
  let l := s.lane i
  l.running.isNone && l.tail.isEmpty && (match l.queue with | q :: _ => q.job == seq && q.idx == idx | [] => false) &&
    !(s.welt.gates.toList.any fun g => match g with | some g => g.lane == i | none => false)

/-- The lane of a record of an outstanding or finished job. -/
def State.recLane (s : State) (seq : Word) (idx : Nat) : Nat :=
  match (s.jobs.table ++ s.jobs.history.map Prod.fst).find? fun j => j.seq == seq with
  | some j => ((j.recs[idx]?).map Rec.lane).getD 31
  | none => 31

/-- A mark of a record on a lane of the mask. -/
def State.markOn (s : State) (mask : Nat) (m : Mark) : Bool := mask.testBit (s.recLane m.job m.idx)

/-- Marks of records on the lanes of a mask wait to be flushed. -/
def State.marksWait (s : State) (mask : Nat) : Bool := s.welt.marks.any (s.markOn mask)

/-- Marks, settle entries or results of records on the lanes of a mask are being written (R170). -/
def State.marksFly (s : State) (mask : Nat) : Bool :=
  s.welt.wq.any fun w => match w.act with
    | .marks ms => ms.any (s.markOn mask)
    | _ => (w.kind == 5 || w.kind == 8) && mask.testBit (s.recLane w.seq (bits (w.body.getD 0 0) 35 24))

/-- Lane `i` is physically settled. -/
def State.settled (s : State) (i : Nat) : Bool :=
  if i < 2 then s.headQuiet i
  else if i < 14 then s.axAtRest (i - 2)
  else if i < 18 then (bankChans (i - 14)).all fun c => !(s.chan c).busy
  else s.uarts.aux.all Aux.txDone

/-- A record that stands in lanes, a FENCE or an in-order LANE_OUT, is taken out of them all; its timeout ends. -/
def State.dropStanding (s : State) (seq : Word) (idx : Nat) : State :=
  let s := s.dropDeadline seq idx
  { s with lanes := s.lanes.map fun (l : Lane) => { l with queue := l.queue.filter fun q => !(q.job == seq && q.idx == idx) }.norm }

/-- A fence is over: its mark, its record ENDED, its items out of the lanes. -/
def State.fenceOver (s : State) (seq : Word) (idx : Nat) (st : FenceState) (code arg : Nat) : State :=
  (((s.setFence seq idx st).queueMark code idx arg seq).dropStanding seq idx).onRec seq idx fun r => { r with outcome := .ended }

/-- A record that waits in lane `i` ends as CANCELLED (R152): one that stands in several lanes in all of them. -/
def State.cancelWaiting (s : State) (i : Nat) (q : QItem) : State :=
  if q.r.lane < 19 then s.cancelRecord i q
  else if (s.recStatus q.job q.idx).finished then s
  else
    let s := ((s.setFence q.job q.idx .resumed).dropStanding q.job q.idx).onRec q.job q.idx fun r => { r with outcome := .cancelled }
    s.queueMark 3 q.idx 0 q.job

/-- The timeout of a recovered fence runs from its first evaluation (R176). -/
def State.fenceClock (s : State) (seq : Word) (idx : Nat) (r : Rec) : State :=
  if r.tmo && !(s.jobs.deadlines.any fun d => d.1 == seq && d.2.1 == idx) then
    s.onJobs fun j => { j with deadlines := j.deadlines ++ [(seq, idx, s.stitch.n * 4096 + phOf r.timeout)] }
  else s

/-- Evaluate one waiting fence. -/
def State.evalFence (s : State) (seq : Word) (idx : Nat) (r : Rec) : State :=
  let lanes := maskList 19 r.mask
  let kind := bits (r.w 1) 35 34
  if lanes.any fun i => (s.lane i).state == .recovery then s
  else
    let s := s.fenceClock seq idx r
    if !lanes.all (s.fenceAt seq idx) then s
    else if kind = 2 ∧ s.marksWait r.mask then s.flushMarks
    else if (kind = 2 ∧ s.marksFly r.mask) ∨ (kind = 3 ∧ !lanes.all s.settled) then s
    else ((s.fenceOver seq idx .satisfied 8 0).raise 3 1 31 [seq]).checkDone seq

/-- Evaluate every waiting fence, jobs and records in order. -/
def State.fences (s : State) : State :=
  s.jobs.table.foldl (fun (s : State) j =>
    j.fences.foldl (fun (s : State) f =>
      match s.job? j.seq, j.recs[f.1]? with
      | some k, some r => if k.fences.contains (f.1, .waiting) then s.evalFence j.seq f.1 r else s
      | _, _ => s) s) s

/-- FENCE_PROCEED and FENCE_CANCEL: the records behind a broken fence go on; those of its own job end as CANCELLED first. -/
def State.fenceResume (s : State) (seq : Word) (idx : Nat) (cancel : Bool) : State :=
  match s.job? seq with
  | none => s
  | some j =>
    if !j.fences.contains (idx, .broken) then s
    else
      let behind (l : Lane) : List QItem :=
        (l.queue.dropWhile fun q => !(q.job == seq && q.idx == idx)).filter fun q => q.job == seq && q.idx != idx
      let s := if cancel then
          (maskList 19 (j.maskAt idx)).foldl (fun (s : State) i => (behind (s.lane i)).foldl (fun (s : State) q => s.cancelWaiting i q) s) s
        else s
      (s.fenceOver seq idx .resumed 10 (if cancel then 5 else 4)).checkDone seq

/-! ### RESUME (R152, R174, R179, R180) -/

/-- A lane leaves RECOVERY (R180): RESUMED for each of its jobs. Its FAULT or OUT state is restored, its jobs held; a stop that took
effect meanwhile leaves it STOPPED (R150), and so does a record that only CONTINUE or SKIP may take up (R179). -/
def State.leaveRecovery (s : State) (i : Nat) : State :=
  if (s.lane i).state ≠ .recovery then s
  else
    let out : Bool := (s.lane i).after == .fault || (s.lane i).after == .out
    let s := (s.lane i).jobs.foldl (fun (s : State) seq =>
      let s := s.raiseJob 6 i seq
      if out then s.onJob seq fun j => { j with heldOn := i :: j.heldOn.filter (· != i) } else s) s
    let lost (q : QItem) : Bool :=
      q.r.typ == tMove && 2 ≤ i && (s.recStatus q.job q.idx).outcome == .interrupted && !(s.ax (i - 2)).posOk
    let s := if out then s else s.showHeld i false
    s.onLane i fun l =>
      let l := match l.running, l.queue with
        | none, q :: rest => if lost q && !q.r.gate then { l with running := some q, queue := rest } else l
        | _, _ => l
      let l := { l with wait := Wait.none, after := LaneState.idle }
      if out then { l with state := (s.lane i).after }
      else if l.running.isSome || (s.lane i).after == .stopped then { l with state := .stopped }
      else { l with state := .idle }.norm

/-- SKIP on a STOPPED lane: the stopped record ends as CANCELLED and the lane leaves STOPPED; a stopped check of a RE_ADMIT is
given up (log 71). -/
def State.skipLane (s : State) (i : Nat) : State :=
  let l := s.lane i
  let go (s : State) : State := s.onLane i fun l => { l with state := .idle, wait := .none, stopCause := 1 }.norm
  if l.state ≠ .stopped ∨ l.stopping ∨ l.stopStitch = s.stitch.n + 1 then s
  else if l.raStep = 5 then s.readmitFail i
  else match l.running, l.tail with
    | some q, _ => if s.gateOpen q then s else go ((s.dropWork i).cancelRecord i q)
    | none, q :: _ => if i < 2 then go ((s.dropWork i).cancelRecord i q) else go s
    | none, [] => if l.raStep = 5 then s.readmitFail i else go s

/-- CONTINUE on a lane; nothing on a stop of the same evaluation. A stopped check of a RE_ADMIT begins anew (log 71). -/
def State.continueOn (s : State) (i : Nat) : State :=
  let l := s.lane i
  if l.stopStitch = s.stitch.n + 1 then s
  else if l.state = .stopped ∧ l.raStep = 5 ∧ !l.stopping then
    if s.laneHeld i then s else s.onLane i fun l => { l with state := .readmit, raStep := 1 }
  else (s.continueLane i).getD s

/-- CANCEL_HELD on a lane in FAULT or OUT: its records, of one job where `seq` is not zero. -/
def State.cancelHeld (s : State) (seq : Word) (i : Nat) : State :=
  if !s.outOfService i then s
  else
    let hit (q : QItem) : Bool := q.r.lane < 19 && (seq == 0 || q.job == seq)
    let l := s.lane i
    let s := (l.running.toList ++ l.tail).foldl (fun (s : State) q =>
      if hit q && !l.stopping && !s.gateOpen q then (s.dropWork i).cancelRecord i q else s) s
    let s := (l.queue.filter hit).foldl (fun (s : State) q => s.cancelRecord i q) s
    let rest := (s.lane i).jobs
    s.onJobs fun k => { k with table := k.table.map fun (j : Job) =>
      if (rest.contains j.seq : Bool) then j else { j with heldOn := j.heldOn.filter (· != i) } }

/-- A RESUME acts. -/
def State.resumeOp (s : State) (q : QItem) : State :=
  let op := bits (q.r.w 1) 35 32
  let lanes := maskList 19 q.r.mask
  let seq := q.r.w 2
  let idx := bits (q.r.w 1) 31 20
  match op with
  | 1 => lanes.foldl State.leaveRecovery s
  | 2 => lanes.foldl State.continueOn s
  | 3 => lanes.foldl State.skipLane s
  | 4 => s.fenceResume seq idx false
  | 5 => s.fenceResume seq idx true
  | _ => lanes.foldl (fun (s : State) i => s.cancelHeld seq i) s

/-! ### RESOLVE (R175) -/

/-- The gated record is over: ENDED where it had not ended, its lane leaves STOPPED. -/
def State.resolvedDone (s : State) (i : Nat) (q : QItem) : State :=
  let l := s.lane i
  if l.running = some q then
    let s := (s.dropWork i).endRecord i q
    if l.state = .stopped then s.onLane i fun l => { l with state := .idle, wait := .none, stopCause := 1 }.norm else s
  else if l.queue.contains q ∨ l.tail.contains q then s.endRecord i q
  else s

/-- The gated record runs again at the head of its lane. -/
def State.resolvedRedo (s : State) (i : Nat) (q : QItem) : State :=
  let l := s.lane i
  let s := if l.running = some q then s.dropWork i else s
  ((s.dropDeadline q.job q.idx).onRec q.job q.idx fun r => { r with outcome := .queued, marked := false }).onLane i fun l =>
    let l := { l with running := if l.running = some q then none else l.running,
                      tail := l.tail.filter (· != q), queue := q :: l.queue.filter (· != q) }
    (if l.state = .stopped then { l with state := .idle, stopCause := 1 } else l).norm

/-- A RESOLVE acts: only on a gate IN_DOUBT; else its own outcome is CANCELLED. -/
def State.resolveGate (s : State) (q : QItem) : State :=
  let seq := q.r.w 2
  let idx := bits (q.r.w 1) 11 0
  match s.gate? seq idx, s.item? seq idx with
  | some g, some it =>
    if !g.doubt then s.endCtrl q false
    else
      let done := bits (q.r.w 1) 35 34 = 1
      let s := s.writeSettle seq idx (if done then 4 else 5) 0 0 0
      let s := s.onGate seq idx fun _ => none
      let s := s.onRec seq idx fun r => { r with gate := if done then .resolvedDone else .resolvedRedo, hint := 0 }
      let s := s.raise 5 3 g.lane [seq]
      let s := if done then s.resolvedDone g.lane it else s.resolvedRedo g.lane it
      (s.checkDone seq).endCtrl q true
  | _, _ => s.endCtrl q false

/-! ### The records of lane 31 (R152) -/

/-- One of them acts. -/
def State.actCtrl (s : State) (q : QItem) : State :=
  if q.r.typ = tResolve then s.resolveGate q
  else if q.r.typ = tResume then (s.resumeOp q).endCtrl q true
  else if q.r.typ = tLaneOut then ((maskList 19 q.r.mask).foldl State.laneGoesOut s).endCtrl q true
  else s.reAdmit q

/-- The first of them acts, where it passes a test. -/
def State.ctrlFront (s : State) (ok : QItem → Bool) : State :=
  match s.jobs.ctrl with
  | q :: rest => if ok q then (s.onJobs fun j => { j with ctrl := rest }).actCtrl q else s
  | [] => s

/-- All of them act, in order. -/
def State.ctrlAll (s : State) : State := (List.range s.jobs.ctrl.length).foldl (fun (s : State) _ => s.ctrlFront fun _ => true) s

/-! ### Stops and timeouts (R150, R155) -/

/-- A stop takes effect on lane `i`; a bound axis stops its head path as well (R27). -/
def State.stopLane (s : State) (i : Nat) : State :=
  let n := s.stitch.n
  let s := s.raise 1 2 i []
  let s := s.onLane i fun l => { l with stopStitch := n + 1, stopCause := 1 }
  if (s.lane i).state = .readmit then s.stopCheck i .stopped
  else if (s.lane i).state = .recovery then
    s.onLane i fun l => { l with after := if l.after = .idle then .stopped else l.after }
  else
    let s := match s.ownerPath i with
      | some x => s.beginStop x .stopped
      | none => s
    let s := s.beginStop i .stopped
    if i = 18 then (s.stopXfer).cameToRest i
    else if 2 ≤ i && i < 14 && s.cfg (.ax (i - 2)) F.ax_KIND = 0 then s.cameToRest i
    else s

/-- Stops written in earlier stitches take effect. -/
def State.takeStops (s : State) : State :=
  let due := s.jobs.stops.filter fun p => p.1 < s.stitch.n
  let s := s.onJobs fun j => { j with stops := j.stops.filter fun p => s.stitch.n ≤ p.1 }
  ((List.range 19).filter fun i => due.any fun p => p.2.testBit i).foldl State.stopLane s

/-- RECORD_TIMEOUT: the timeout of a record released on the lane and not ENDED has expired. -/
def execRecordTimeout (lane : Fin 19) (s : State) : Host.Outcome State Fault Refusal :=
  let i := lane.val
  let out := (s.lane i).running.toList ++ (s.lane i).tail
  match out.find? fun q => s.jobs.deadlines.any fun d => d.1 == q.job && d.2.1 == q.idx && decide (d.2.2 < s.nextPh) with
  | none => .next s
  | some q =>
    let s := (s.dropDeadline q.job q.idx).raiseJob 7 i q.job
    if (s.lane i).inService then
      let s := (s.onLane i fun l => { l with stopCause := if l.stopping then l.stopCause else 5 }).beginStop i .stopped
      .next (if i = 18 then (s.stopXfer).cameToRest i else s)
    else .next s

/-- FENCE_TIMEOUT: the timeout of a waiting fence has expired: FENCE_BROKEN. -/
def execFenceTimeout (s : State) : Host.Outcome State Fault Refusal :=
  let due := s.jobs.deadlines.find? fun d =>
    decide (d.2.2 < s.nextPh) && (match s.job? d.1 with | some j => j.fences.contains (d.2.1, .waiting) | none => false)
  match due with
  | none => .next s
  | some d =>
    let s := s.onJobs fun j => { j with deadlines := j.deadlines.erase d }
    .next ((s.raiseJob 7 31 d.1).breakFence d.1 d.2.1)

/-! ### Releases as commands -/

/-- Lane `i` is evaluated where the record at its head is of the type named. -/
def State.dispatchType (s : State) (i typ : Nat) : State :=
  match (s.lane i).queue with
  | q :: _ => if q.r.typ = typ then s.dispatch i else s
  | [] => s

/-- PRINT_RELEASE (R236). -/
def execPrintRelease (head : Fin 2) (s : State) : Host.Outcome State Fault Refusal := .next (s.dispatchType head tPrint)
/-- FEED_RELEASE (R288). -/
def execFeedRelease (head : Fin 2) (s : State) : Host.Outcome State Fault Refusal := .next (s.dispatchType head tFeed)
/-- CUT_RELEASE (R298). -/
def execCutRelease (head : Fin 2) (s : State) : Host.Outcome State Fault Refusal := .next (s.dispatchType head tCut)
/-- SCAN_RELEASE (R252). -/
def execScanRelease (head : Fin 2) (s : State) : Host.Outcome State Fault Refusal := .next (s.dispatchType head tScan)
/-- PATTERN_RELEASE (R295). -/
def execPatternRelease (head : Fin 2) (s : State) : Host.Outcome State Fault Refusal := .next (s.dispatchType head tPattern)
/-- MOVE_RELEASE (R311). -/
def execMoveRelease (axis : Fin 12) (s : State) : Host.Outcome State Fault Refusal := .next (s.dispatchType (axis + 2) tMove)
/-- HOME_RELEASE (R318). -/
def execHomeRelease (axis : Fin 12) (s : State) : Host.Outcome State Fault Refusal := .next (s.dispatchType (axis + 2) tHome)
/-- GEAR_RELEASE (R325). -/
def execGearRelease (axis : Fin 12) (s : State) : Host.Outcome State Fault Refusal := .next (s.dispatchType (axis + 2) tGear)
/-- DC_RUN_RELEASE (R345). -/
def execDcRunRelease (axis : Fin 12) (s : State) : Host.Outcome State Fault Refusal := .next (s.dispatchType (axis + 2) tDcRun)
/-- SOL_RUN_RELEASE (R367). -/
def execSolRunRelease (bank : Fin 4) (s : State) : Host.Outcome State Fault Refusal := .next (s.dispatchType (bank + 14) tSolRun)
/-- SOL_DIAG_RELEASE (R384). -/
def execSolDiagRelease (bank : Fin 4) (s : State) : Host.Outcome State Fault Refusal := .next (s.dispatchType (bank + 14) tSolDiag)
/-- AUX_XFER_RELEASE (R500). -/
def execAuxXferRelease (s : State) : Host.Outcome State Fault Refusal := .next (s.dispatchType 18 tAuxXfer)
/-- NOTE (R141): its words stand in the JOB entry, so it ENDS with its release. -/
def execNote (s : State) : Host.Outcome State Fault Refusal := .next (s.dispatchType 18 tNote)
/-- LANE_OUT_IN_ORDER (R154). -/
def execLaneOutInOrder (lane : Fin 19) (s : State) : Host.Outcome State Fault Refusal := .next (s.dispatchType lane tLaneOut)
/-- FENCE (R153): the fences that stand in lanes are evaluated. -/
def execFence (s : State) : Host.Outcome State Fault Refusal := .next s.fences

/-! ### Records of lane 31 as commands -/

/-- A RESUME with operation `op`. -/
def QItem.resumes (q : QItem) (op : Nat) : Bool := q.r.typ == tResume && bits (q.r.w 1) 35 32 == op

/-- RESOLVE (R175). -/
def execResolve (s : State) : Host.Outcome State Fault Refusal := .next (s.ctrlFront fun q => q.r.typ == tResolve)
/-- START_RECOVERED (R152, R180). -/
def execStartRecovered (s : State) : Host.Outcome State Fault Refusal := .next (s.ctrlFront fun q => q.resumes 1)
/-- CONTINUE (R152). -/
def execContinue (s : State) : Host.Outcome State Fault Refusal := .next (s.ctrlFront fun q => q.resumes 2)
/-- SKIP (R152). -/
def execSkip (s : State) : Host.Outcome State Fault Refusal := .next (s.ctrlFront fun q => q.resumes 3)
/-- FENCE_PROCEED (R152). -/
def execFenceProceed (s : State) : Host.Outcome State Fault Refusal := .next (s.ctrlFront fun q => q.resumes 4)
/-- FENCE_CANCEL (R152). -/
def execFenceCancel (s : State) : Host.Outcome State Fault Refusal := .next (s.ctrlFront fun q => q.resumes 5)
/-- CANCEL_HELD (R152). -/
def execCancelHeld (s : State) : Host.Outcome State Fault Refusal := .next (s.ctrlFront fun q => q.resumes 6)
/-- LANE_OUT with NOW = 1 (R154). -/
def execLaneOut (s : State) : Host.Outcome State Fault Refusal := .next (s.ctrlFront fun q => q.r.typ == tLaneOut)
/-- RE_ADMIT (R154). -/
def execReAdmit (s : State) : Host.Outcome State Fault Refusal := .next (s.ctrlFront fun q => q.r.typ == tReAdmit)
/-- STOP (R150): CMD = 1 written to the state word of a lane; an empty mask means that lane alone. -/
def execStop (_port : Fin 2) (lane : Fin 19) (mask : BitVec 19) (s : State) : Host.Outcome State Fault Refusal :=
  .next (s.askStop (if mask = 0 then 2 ^ lane.val else mask.toNat))

end Sys2Proof.Machine
end

