-- ==== Sys2Proof/Machine/Stitch.lean ====
section
/-!
DEFINITION. The stitch (R41..R70): its boundary and the per-stitch schedule of R59, the governor's sample (R49, R50, R58),
the requests that run out (R49, R57), the base period (R46).
-/

namespace Sys2Proof.Machine

/-! ### The boundary (R41, R42, R59, R68) -/

/-- A field of an object changes between two stores. -/
def changes (old new : Store) (o : Obj) (f : Field) : Bool := f.get (old.get (o.base + f.off)) != f.get (new.get (o.base + f.off))

/-- A commit that changes DIR_INV keeps the electrical angle (R338): `old` is what was in force. -/
def State.keepAngle (old : Store) (s : State) (n : Nat) : State :=
  if changes old s.tbl.force (.ax n) F.ax_DIR_INV then
    s.onAx n fun a => { a with aofs := unsigned 10 (a.aofs - 2 * s.sigma n * a.pos) }
  else s

/-- An encoder that is switched on starts its index check afresh (R398). -/
def State.freshIndex (old : Store) (s : State) (n : Nat) : State :=
  if changes old s.tbl.force (.enc n) F.enc_EN then s.onEnc n fun e => { e with nIdx := 0, idxBad := false } else s

/-- A head lane whose descriptor in force has DOTS = 0 is OUT (R227). -/
def State.headGone (s : State) (x : Nat) : State :=
  if (s.desc x).dots = 0 ∧ (s.lane x).state ≠ .out then s.leaveService x .out 2 else s

/-- The words of adopted commits that act at this boundary (R20), with what they bring about. -/
def State.adoptDue (s : State) : State :=
  if s.tbl.due.isEmpty then s
  else
    let old := s.tbl.force
    let s : State := { s with tbl := { s.tbl with force := s.tbl.due.foldl (fun st d => st.set d.1 d.2) s.tbl.force, due := [] } }
    let s := (List.range 12).foldl (fun (s : State) n => State.keepAngle old s n) s
    let s := (List.range 8).foldl (fun (s : State) n => State.freshIndex old s n) s
    (s.headGone 0).headGone 1

/-- What AON retention holds of an axis is written at every boundary (R322). -/
def Axis.retain (a : Axis) : Axis :=
  { a with ret := ⟨a.pos, a.target, a.remd, a.posOk, a.homed, a.uncCause, a.vel != 0, a.aofs⟩ }

/-- The head path whose feed axis is axis `n`. -/
def State.pathOf (s : State) (n : Nat) : Nat := if s.feedBound 0 && s.feedAx 0 == n then 0 else 1

/-- Run current comes back at phase 0 of the stitch after the release of a record that moves the axis (R321, R342). -/
def State.runCurrent (s : State) (n : Nat) : State :=
  let a := s.ax n
  if a.mode = .rest ∨ s.stitch.n ≤ a.startN ∨ a.sstate = 0 ∨ a.sstate = 4 then s
  else
    let s' := s.onAx n fun a => { a with sstate := 0 }
    if a.sstate = 1 then s' else (s'.newPeriod (2 * n)).newPeriod (2 * n + 1)

/-- The motion engine's slot of one axis. -/
def State.axisSlot (s : State) (n : Nat) : State :=
  let s := (s.runCurrent n).onAx n fun a => { a with lineS := a.line }
  (if (s.ax n).mode = .path then s.pathAxisSlot (s.pathOf n) else s.motionSlot n).dcSlot n

/-- A head lane in a state in which its VH is to fall (R238). -/
def State.vhOver (s : State) (x : Nat) : Bool :=
  let st := (s.lane x).state
  st == .idle || st == .stopped || st == .fault || st == .out

/-- HDx_VHEN falls in the stitch after the one in which the lane entered such a state; `was` is what it was then. -/
def State.vhenFall (was : List Nat) (s : State) : State := was.foldl State.vhenSlot s

/-- The dispatcher's evaluation (R22, R152, R153): stops first, the records of lane 31, fences, re-admissions, the lanes. -/
def State.evaluate (s : State) : State :=
  let s := s.endSettled.takeStops.ctrlAll.fences
  let s := (List.range 19).foldl (fun (s : State) i => (s.readmitSlot i).readmitClose i) s
  (List.range 19).foldl State.dispatch s

/-- The engines' work at phase 0. -/
def State.engineSlots (s : State) (len : Nat) : State :=
  let s := (s.headSlot 0).headSlot 1
  let s := (List.range 12).foldl State.axisSlot s
  let s := ((List.range 4).foldl State.solSlot s).hotStarts
  s.auxSlot len

/-- Positions latched at phase 0 (R326, R395, R402). -/
def State.latchInputs (s : State) (len : Nat) : State :=
  (({ s with encs := s.encs.map Enc.latch } : State).ssiBoundary 0 len).ssiBoundary 1 len

/-- STITCH_BOUNDARY (R59); at the one at which SLEEP is entered the stitch stops (R69, R508). -/
def execStitchBoundary (s : State) : Host.Outcome State Fault Refusal :=
  if !s.stitch.running then .next s
  else if s.power.entering && s.maySleep then .next (s.onStitch Stitch.advance).adoptDue.enterSleep
  else
    let s : State := { s with power := { s.power with entering := false } }
    let len := s.stitch.advance.cycles - s.stitch.cycles
    let was := [0, 1].filter s.vhOver
    let s := ((s.onStitch Stitch.advance).adoptDue.latchInputs len).followsLost
    let s := (s.evaluate.vhenFall was).engineSlots len
    let s : State := { s with axes := s.axes.map Axis.retain }
    .next s.wakeDomains.switchImage

/-! ### The governor (R49, R50, R57, R58) -/

/-- A sag request whose hold has run out ends. -/
def Stitch.endHold (g : Stitch) (h : Option Since) : Option Since := h.filter fun t => !t.passed g.govHold g.phase

/-- Sag requests whose hold has run out end. -/
def Stitch.endHolds (g : Stitch) : Stitch :=
  { g with holdVM := g.endHold g.holdVM, holdVS := g.endHold g.holdVS, holdVH := g.endHold g.holdVH }

/-- The overrun request falls by one step when OVR_RELAX st have passed without an OVERRUN. -/
def Stitch.relax (g : Stitch) : Stitch :=
  if decide (0x100 < g.ovrReq) && g.ovrSince.passed g.govRelax g.phase then
    { g with ovrReq := max 0x100 (g.ovrReq - g.govStep), ovrSince := { g.ovrSince with age := g.ovrSince.age - g.govRelax } }
  else g

/-- The sampling point takes the settings of the governor object as they are in force now (R53). -/
def State.takeGov (s : State) : State :=
  s.onStitch fun g => { g with govHold := s.cfg .gov F.gov_SAG_HOLD, govRelax := s.cfg .gov F.gov_OVR_RELAX,
                               govLines := s.cfg .gov F.gov_OVR_LINES, govStep := s.cfg .gov F.gov_OVR_STEP }

/-- The active requests of R49: host, sag VM, VS, VH, thermal, overrun, each with its level. -/
def State.actHost (s : State) : Bool := decide (0x100 < s.stitch.kHost)
def State.actVM (s : State) : Bool := s.stitch.sagEn && (at' s.sup.sag 0 || s.stitch.holdVM.isSome)
def State.actVS (s : State) : Bool := s.stitch.sagEn && (at' s.sup.sag 1 || s.stitch.holdVS.isSome)
def State.actVH (s : State) : Bool := s.stitch.sagEn && (at' s.sup.sag 2 || at' s.sup.sag 3 || s.stitch.holdVH.isSome)
def State.actTherm (s : State) : Bool := s.stitch.thermEn && s.thermReq
def State.actOvr (s : State) : Bool := s.stitch.ovrEn && decide (0x100 < s.stitch.ovrReq)

/-- The largest active level, 0x100 where none is active. -/
def State.largest (s : State) : Nat :=
  let on (b : Bool) (k : Nat) : Nat := if b then k else 0x100
  [on s.actHost s.stitch.kHost, on s.actVM (s.cfg .gov F.gov_K_VM), on s.actVS (s.cfg .gov F.gov_K_VS),
   on s.actVH (s.cfg .gov F.gov_K_VH), on s.actTherm (s.cfg .gov F.gov_K_THERM), on s.actOvr s.stitch.ovrReq].foldl max 0x100

/-- next_x of R50: `t` is the target in u3.8. -/
def nextX (x t slew : Nat) : Nat :=
  let t := t * 256
  let step := x / 2 ^ (4 + slew)
  if x < t then min t (x + step) else if t < x then max t (x - step) else x

/-- The sample at phase 2048. -/
def State.sample (s : State) : State :=
  let k := s.largest
  let g := s.stitch
  let isOver := decide (g.kMax < k)
  let x := nextX g.x (min k g.kMax) g.slew
  let s := s.onStitch fun g => { g with phase := 2048, xNext := x, atMax := g.atMax || isOver, atMaxEpisode := isOver }
  let s := if isOver && !g.atMaxEpisode then s.raise 6 3 31 [] else s
  if g.x = 0x10000 ∧ x ≠ 0x10000 then s.raise 6 1 31 []
  else if g.x ≠ 0x10000 ∧ x = 0x10000 then s.raise 6 2 31 []
  else s

/-- GOVERNOR_SAMPLE (R50). -/
def execGovernorSample (s : State) : Host.Outcome State Fault Refusal :=
  if !s.stitch.running then .next s else .next ((s.takeGov.onStitch fun g => g.endHolds.relax).sample)

/-- OVERRUN_RELAX (R57). -/
def execOverrunRelax (s : State) : Host.Outcome State Fault Refusal := .next (s.onStitch Stitch.relax)

/-- SAG_HOLD_EXPIRY (R49) of VM, VS or VH. -/
def execSagHoldExpiry (supply : Fin 3) (s : State) : Host.Outcome State Fault Refusal :=
  .next (s.onStitch fun g =>
    if supply = 0 then { g with holdVM := g.endHold g.holdVM }
    else if supply = 1 then { g with holdVS := g.endHold g.holdVS }
    else { g with holdVH := g.endHold g.holdVH })

/-! ### The base period (R45, R46) -/

/-- The device is starting up: BOOT or RECOVERY (R116). -/
def State.startingUp (s : State) : Bool := s.dev.st == .boot || s.dev.st == .recovery

/-- Everything R46 asks to be at rest is: a lane on which a record stands stopped or held runs none (R130). -/
def State.periodRest (s : State) : Bool :=
  ((List.range 18).all fun i => !(s.lane i).busy) && (List.range 12).all s.axAtRest &&
    s.heads.all fun h => !h.holding

/-- A write to STITCH_PERIOD. -/
def State.writePeriod (s : State) (w : Word) : State × Nat :=
  let p := bits w 14 0
  if p < 2048 ∨ 16384 < p then (s, rcRange)
  else if s.startingUp || !s.periodRest then (s, rcState)
  else (s.onStitch fun g => { g with newPeriod := some p }, 0)

/-- STITCH_PERIOD_WRITE (R46). -/
def execStitchPeriodWrite (port : Fin 2) (value : Word) (s : State) : Host.Outcome State Fault Refusal :=
  answer port false (s.writePeriod value)

end Sys2Proof.Machine
end

