-- ==== Sys2Proof/Machine/Commit.lean ====
section
/-!
DEFINITION. COMMIT and DISCARD of a port's pending shadow words (R113): the range and consistency checks of the values a
commit would put in force (R226, R228, R237, R240, R246, R261, R284, R293, R296, R305, R309, R318, R337, R364, R365, R366,
R394..R407, R440, R443, R448), the rest conditions (R25, R227, R305, R337, R365, R405), the adoption (R20).
-/

namespace Sys2Proof.Machine

/-! ### Values a commit would put in force -/

/-- A field of an object in a store. -/
def Store.cfg (st : Store) (o : Obj) (f : Field) : Nat := f.get (st.get (o.base + f.off))

/-- The values in force once every commit adopted so far acts (R20). -/
def State.soon (s : State) : Store := s.tbl.due.foldl (fun st d => st.set d.1 d.2) s.tbl.force

/-- The values in force after a commit of port `p`'s pending set (R113). -/
def State.candidate (s : State) (p : Nat) : Store :=
  (s.port p).pend.foldl (fun st a => st.set a (s.tbl.shadow.get a)) s.soon

/-- Every stored field of a word lies in its stated range. -/
def Store.wordOk (st : Store) (a : Nat) : Bool := (wordFields a).all fun f => f.acc != .rw || f.ok (st.get a)

/-- Numbers that rise strictly. -/
def rising : List Int → Bool
  | a :: b :: rest => decide (a < b) && rising (b :: rest)
  | _ => true

/-- The descriptor a store holds for head `x`. -/
def Store.desc (st : Store) (x : Nat) : Desc := descOf fun i => st.get ((Obj.head x).base + i)

/-- HDx_STB line of block `b` (R225). -/
def Desc.stbLine (d : Desc) (b : Nat) : Nat := (d.mapLo + d.mapHi * 2 ^ 32) / 16 ^ b % 16

/-- The ranges of a version 1 descriptor: its values and the bits shown as zero (R228). -/
def desc1Ok (w : Nat → Word) : Bool :=
  let d := descOf w
  1 ≤ d.dots && d.dots ≤ 1728 && d.lanes ≤ 2 && d.slices ≤ 2 && bits (w 0) 3 0 == 0 && bits (w 1) 1 0 == 0 &&
    bits (w 2) 7 0 == 0 && bits (w 3) 9 0 == 0

/-- The ranges of a version 2 descriptor (R225, R226). -/
def desc2Ok (d : Desc) : Bool :=
  d.dots ≤ 6144 && d.lanes ≤ 4 && d.slices ≤ 4 && 20 ≤ d.latW && 1 ≤ d.stbMax && d.stbMax ≤ 2000 && 1 ≤ d.dutyMax &&
    d.dutyMax ≤ 1000 && rising ((d.bstart.dropLast.map fun (b : Nat) => (b : Int))) &&
    (d.bstart.drop 1).dropLast.all (fun b => decide (b < d.dots)) &&
    ((List.range (d.nblock + 1)).map d.stbLine).Nodup

/-- The highest line rate the slice budget allows is below LINE_MAX (R235, R237). -/
def Desc.overBudget (d : Desc) : Bool := decide (180000000 < d.lineMax * (d.nsl * d.tSl))

/-- A descriptor with its scheduling, interlace and binding words may come into force (R226, R237, R240, R246, R248). -/
def Store.headOk (st : Store) (x : Nat) : Bool :=
  let w (i : Nat) : Word := st.get ((Obj.head x).base + i)
  let d := st.desc x
  let ver := bits (w 0) 35 32
  let o := Obj.head x
  (if ver = 1 then desc1Ok w else ver == 2 && desc2Ok d) && 4 ≤ d.hsckN && d.hsckN ≤ 64 && 1 ≤ d.lineMax &&
    d.lineMax ≤ 12000 && decide (d.vhMin < d.vhMax) && (List.range 9).all (fun i => st.wordOk (o.base + 0x10 + i)) &&
    1024 * 256 ≤ st.cfg o F.hs_PERIOD && !(st.cfg o F.hs_MODE == 1 && d.overBudget) &&
    (List.range (st.cfg o F.hi_NPH + 1)).all fun i => st.cfg o (F.hi_FEED.plus i) != 0

/-- The energy settings of a head may come into force (R260, R261). -/
def Store.energyOk (st : Store) (x a : Nat) : Bool :=
  let o := Obj.head x
  let tb := [F.en_TB1, F.en_TB2, F.en_TB3, F.en_TB4, F.en_TB5, F.en_TB6, F.en_TB7].map fun f => signed 8 (st.cfg o f)
  let fill := st.cfg o F.en_FILL_LO + st.cfg o F.en_FILL_HI * 2 ^ 32
  st.wordOk a && rising tb && ((List.range 16).map fun k => fill / 16 ^ k % 16).Nodup &&
    decide (st.cfg o F.en_HIGH_R < 8 * st.cfg o F.en_OPEN_R) && decide (st.cfg o F.en_SHORT_R < 2 * st.cfg o F.en_HIGH_R)

/-- Sum of EVT_RATE over the stepper axes (R305). -/
def Store.evtSum (st : Store) : Nat :=
  ((List.range 12).map fun n => if st.cfg (.ax n) F.ax_KIND = 1 then st.cfg (.ax n) F.ax_EVT_RATE else 0).sum

/-- An axis word may come into force (R304, R305). -/
def Store.axisOk (st : Store) (n a : Nat) : Bool :=
  st.wordOk a && decide (st.evtSum ≤ 8000) && !(st.cfg (.ax n) F.ax_CONF_SRC == 2 && decide (2 ≤ st.cfg (.ax n) F.ax_CONF_IDX))

/-- A drive word may come into force (R336, R337). -/
def Store.driveOk (st : Store) (n a : Nat) : Bool :=
  let g (f : Field) : Nat := st.cfg (.ax n) f
  st.wordOk a && g F.dr_DEC_A ≤ 1 && g F.dr_DEC_B ≤ 1 && g F.dr_AFT_A ≤ 2 && g F.dr_AFT_B ≤ 2 &&
    !(g F.dr_STALL_EN == 1 && (g F.dr_RCOIL == 0 || g F.dr_LCOIL == 0 || g F.dr_RSHUNT == 0))

/-- A solenoid channel word may come into force (R364, R365). -/
def Store.solOk (st : Store) (c a : Nat) : Bool :=
  let g (f : Field) : Nat := st.cfg (.sol c) f
  st.wordOk a && !(g F.sc_EN == 1 && (g F.sc_RSHUNT == 0 || g F.sc_RCOLD == 0)) && decide (g F.sc_COIL_WARN < g F.sc_COIL_MAX)

/-- A profile slot is valid (R366). -/
def Store.slotOk (st : Store) (c p : Nat) : Bool :=
  let g (f : Field) (k : Nat) : Nat := st.cfg (.sp c p) (f.plus (2 * k))
  let n := st.cfg (.sp c p) F.sp_NSEG
  g F.sp_ITGT n == 0 && (List.range (n + 1)).all fun k =>
    let e := if k = n then 0 else g F.sp_END k
    !((e == 1 || e == 2) && g F.sp_ITGT k == 0) && !(e == 3 && g F.sp_DUR_ST k == 0) &&
      5 ≤ g F.sp_PWM_KHZ k && g F.sp_PWM_KHZ k ≤ 100 && 1 ≤ g F.sp_TMAX k

/-- Check bits of an SSI transfer (R400). -/
def ssiCheckBits (chk crcLen : Nat) : Nat := if chk = 3 then crcLen else if chk = 0 then 0 else 1

/-- An SSI port may come into force: ranges, the CRC, its busy time within its transfer interval (R405). -/
def Store.ssiOk (st : Store) (period p a : Nat) : Bool :=
  let g (f : Field) : Nat := st.cfg (.ssi p) f
  let len := g F.ssi_CRCLEN
  let nbits := 1 + g F.ssi_LEAD + g F.ssi_NBITS + g F.ssi_NSTAT + ssiCheckBits (g F.ssi_CHK) len
  st.wordOk a && 3 ≤ len && len ≤ 8 && decide (g F.ssi_POLY < 2 ^ len) &&
    decide (nbits * g F.ssi_CDIV * 2 + g F.ssi_TM * 20 ≤ 2 ^ g F.ssi_RATE * period)

/-- The value of a word, and what it does to its object, may come into force. -/
def Store.inRange (st : Store) (period a : Nat) : Bool :=
  match region a with
  | some (.head x, o) => if o < 0x19 then st.headOk x else st.energyOk x a
  | some (.ax n, o) => if o < 0x100 then st.axisOk n a else st.driveOk n a
  | some (.pr n p, _) => st.wordOk a && decide (st.cfg (.pr n p) F.pr_VSTART * 2 ^ 14 ≤ st.cfg (.pr n p) F.pr_VMAX)
  | some (.sol c, _) => st.solOk c a
  | some (.sp c p, _) => st.slotOk c p
  | some (.ssi p, _) => st.ssiOk period p a
  | some (.ms n, _) => st.wordOk a && decide (st.cfg (.ms n) F.ms_TH_LO < st.cfg (.ms n) F.ms_TH_HI)
  | some (.path x, _) => st.wordOk a &&
      (let i (f : Field) : Int := signed 13 (st.cfg (.path x) f)
       decide (-1024 ≤ i F.cal_XOFS) && decide (i F.cal_XOFS ≤ 1023) && decide (-1024 ≤ i F.cal_REG_X) && decide (i F.cal_REG_X ≤ 1023))
  | some (.sup m, _) => st.wordOk a && decide (st.cfg (.sup m) F.sup_SAG_PCT + st.cfg (.sup m) F.sup_HYST_PCT ≤ 100)
  | some (.prb _, o) => st.wordOk a && (o != 1 || st.get a &&& ~~~ F.prb_SMASK.mask == 0)
  | _ => st.wordOk a

/-! ### Bindings (R24, R25, R249) -/

/-- The axes and media sensors a binding word names: axes of the path, then its sensors. -/
def bindingAxes (w : Word) : List Nat :=
  (if F.hb_FEED_EN.get w = 1 then [F.hb_FEED_AX.get w] else []) ++ (if F.hb_CLK_EN.get w = 1 then [F.hb_CLK_AX.get w] else [])
def bindingMs (w : Word) : List Nat :=
  (if F.hb_MSA_EN.get w = 1 then [F.hb_MSA.get w] else []) ++ (if F.hb_MSB_EN.get w = 1 then [F.hb_MSB.get w] else [])

/-- Two bindings break R24: an axis twice in one path, or an axis or sensor in both. -/
def bindingBroken (w other : Word) : Bool :=
  !(bindingAxes w).Nodup || (bindingAxes w).any (bindingAxes other).contains || (bindingMs w).any (bindingMs other).contains

/-- Address of a head's binding word. -/
def bindingAddr (x : Nat) : Nat := (Obj.head x).base + 0x10

/-- The bindings of a store break R24. -/
def Store.bindingsBroken (st : Store) : Bool :=
  bindingBroken (st.get (bindingAddr 0)) (st.get (bindingAddr 1)) || !(bindingAxes (st.get (bindingAddr 1))).Nodup

/-- A lane in none of whose records anything is under way (R25): IDLE, FAULT or OUT. -/
def Lane.rests (l : Lane) : Bool :=
  !l.stopping && l.running.isNone && l.tail.isEmpty && (l.state == .idle || l.state == .fault || l.state == .out)

/-- R25: the head lane and every axis of the old and the new binding are idle. -/
def State.mayBind (s : State) (st : Store) (x : Nat) : Bool :=
  let ns := bindingAxes (s.tbl.force.get (bindingAddr x)) ++ bindingAxes (st.get (bindingAddr x))
  (s.lane x).rests && ns.all fun n => 12 ≤ n || ((s.lane (n + 2)).rests && s.axAtRest n)

/-! ### Rest conditions -/

/-- A lane in IDLE, STOPPED, FAULT or OUT; a lane on its way to a stop is not yet STOPPED (R150). -/
def Lane.parked (l : Lane) : Bool :=
  (!l.stopping && (l.state == .idle || l.state == .stopped)) || l.state == .fault || l.state == .out

/-- The condition of R227 on a head: its lane is parked, its path in no hold. -/
def State.headParked (s : State) (x : Nat) : Bool := (s.lane x).parked && !(s.head x).holding

/-- The condition of R305 on an axis. -/
def State.axisParked (s : State) (n : Nat) : Bool :=
  s.axAtRest n && (s.ax n).gstate == .none && (s.lane (n + 2)).parked

/-- An input is a master in use (R405). -/
def State.masterUsed (s : State) (msrc k : Nat) : Bool :=
  ((List.range 12).any fun n =>
    let a := s.ax n
    (a.gstate == .geared && a.gear.msrc == msrc && a.gear.mindex == k) ||
      (match a.pend with | some g => g.msrc == msrc && g.mindex == k | none => false)) ||
    (msrc == 0 && [0, 1].any fun x =>
      (s.lane x).state == .running && s.cfg (.head x) F.hs_MODE == 1 && s.cfg (.head x) F.hs_MENC == k)

/-- The rest condition of the chapter that owns a word is met. -/
def State.atRestFor (s : State) (st : Store) (a : Nat) : Bool :=
  match region a with
  | some (.head x, o) => 0x19 ≤ o || (s.headParked x && (o != 0x10 || s.mayBind st x))
  | some (.path x, _) => s.headParked x
  | some (.ax n, o) => !(o == 0 || (4 ≤ o && o < 8) || o == 0x100 || o == 0x109) || s.axisParked n
  | some (.sol c, o) => 2 ≤ o || (s.chan c).st == .idle || (s.chan c).st == .fault
  | some (.enc n, o) =>
    o != 0 || [F.enc_EN, F.enc_FILT, F.enc_DIR_INV].all (fun f => f.get (st.get a) == f.get (s.tbl.force.get a)) || !s.masterUsed 0 n
  | some (.ssi p, o) => 2 ≤ o || st.get a == s.tbl.force.get a || !s.masterUsed 2 p
  | some (.ms n, _) => match s.msPath n with
    | some (x, _) => (s.lane x).parked
    | none => true
  | _ => true

/-! ### Adoption (R20) -/

/-- Whether a word is adopted at the next stitch boundary; the others are in force at once, for the regulation period, line or
sample that comes next. -/
def atBoundary (a : Nat) : Bool :=
  match region a with
  | some (.head _, o) => o < 0x19
  | some (.ax _, o) => o < 0x100
  | some (.pr _ _, _) | some (.hm _ _, _) | some (.enc _, _) | some (.ssi _, _) | some (.cnt _, _) | some (.prb _, _)
  | some (.ms _, _) | some (.sns _, _) | some (.path _, _) => true
  | _ => false

/-- Keep the old value of a word under its offset, where none is kept yet. -/
def keepOld (o : Nat) (w : Word) (l : List (Nat × Word)) : List (Nat × Word) := if l.any (fun h => h.1 == o) then l else (o, w) :: l

/-- The old value of a drive or channel word stays with a regulator at work until its next period (R337, R365). -/
def State.holdOld (s : State) (a : Nat) : State :=
  let w := s.tbl.force.get a
  match region a with
  | some (.ax n, o) =>
    let busy (q : Bridge) : Bool := q.st == .run || q.st == .recover || q.st == .calib
    let f (q : Bridge) : Bridge := if busy q then { q with hold := keepOld o w q.hold } else q
    s.onAx n fun x => { x with a1 := f x.a1, b1 := f x.b1 }
  | some (.sol c, o) =>
    s.onChan c fun q => if q.st == .idle || q.st == .fault then q else { q with hold := keepOld o w q.hold }
  | _ => s

/-- A word of an adopted set comes into force, or waits for the boundary. -/
def State.adoptWord (s : State) (a : Nat) : State :=
  let w := s.tbl.shadow.get a
  if atBoundary a then { s with tbl := { s.tbl with due := Store.insert a w s.tbl.due } }
  else
    let s := s.holdOld a
    { s with tbl := { s.tbl with force := s.tbl.force.set a w } }

/-- A commit changes one of TB1..TB7 or HYST of head `x`. -/
def bandChanged (old new : Store) (x : Nat) : Bool :=
  [F.en_TB1, F.en_TB2, F.en_TB3, F.en_TB4, F.en_TB5, F.en_TB6, F.en_TB7, F.en_HYST].any fun f =>
    old.cfg (.head x) f != new.cfg (.head x) f

/-- The set holds a word of head `x`'s descriptor. -/
def touchesDesc (ws : List Nat) (x : Nat) : Bool := ws.any fun a => (Obj.head x).base ≤ a && a < (Obj.head x).base + 0x10

/-- Adopt a set of words whose checks have passed. -/
def State.adopt (s : State) (ws : List Nat) : State :=
  let old := s.tbl.force
  let s := ws.foldl State.adoptWord s
  let s := [0, 1].foldl (fun (s : State) x =>
    let s := if bandChanged old s.tbl.force x then s.bandAfresh x else s
    if touchesDesc ws x then s.scanAbandon x else s) s
  { s with ports := s.ports.map fun q => { q with pend := q.pend.filter fun a => !ws.contains a } }

/-! ### COMMIT and DISCARD (R112, R113, R116) -/

/-- COMMIT of port `p`: the new state and the RCODE. Where the words that become in force together break R24, though each passed its
write, the refusal is BINDING; R113 names none (DESIGN CHOICE). -/
def State.commit (s : State) (p : Nat) : State × Nat :=
  let ws := (s.port p).pend
  let st := s.candidate p
  if s.startingUp then (s, rcState)
  else if !ws.all (st.inRange s.stitch.period) then (s, rcRange)
  else if (ws.contains (bindingAddr 0) || ws.contains (bindingAddr 1)) && st.bindingsBroken then (s, rcBinding)
  else if !ws.all (s.atRestFor st) then (s, rcState)
  else (s.adopt ws, 0)

/-- DISCARD of port `p`: its pending words return to their values in force. -/
def State.discard (s : State) (p : Nat) : State :=
  let st := s.soon
  let sh := (s.port p).pend.foldl (fun sh a => Store.set sh a (st.get a)) s.tbl.shadow
  ({ s with tbl := { s.tbl with shadow := sh } } : State).onPort p fun q => { q with pend := [] }

/-- COMMIT: a write of TBL_CTL with COMMIT = 1. -/
def execCommit (port : Fin 2) (s : State) : Host.Outcome State Fault Refusal := answer port false (s.commit port)

/-- DISCARD: a write of TBL_CTL with DISCARD = 1. -/
def execDiscard (port : Fin 2) (s : State) : Host.Outcome State Fault Refusal := .next (s.discard port)

end Sys2Proof.Machine
end

