-- ==== Sys2Proof/Machine/Recovery.lean ====
section
/-!
DEFINITION. The recovery of the welt (R176..R181): which entries count (R177), the jobs, lanes, gates and fences they give,
the judgement of gates (R178), interrupted records (R179), lanes in RECOVERY (R180), the recovery events (R181).
-/

namespace Sys2Proof.Machine

/-! ### Which entries count (R160, R177) -/

/-- An entry is good in some bank in service. -/
def Entry.good (e : Entry) (out0 out1 : Bool) : Bool := (!out0 && e.goodIn 0) || (!out1 && e.goodIn 1)

/-- It is good in every bank in service. -/
def Entry.whole (e : Entry) (out0 out1 : Bool) : Bool := (out0 || e.goodIn 0) && (out1 || e.goodIn 1)

/-- It was committed in every bank in service when it was written, so it is not torn though a bank then retired lacks it (R37;
DEDUCED, log 65). -/
def Entry.committedAlone (e : Entry) (out0 out1 : Bool) : Bool :=
  (e.c0.absent && !out1 && e.goodIn 1) || (e.c1.absent && !out0 && e.goodIn 0)

/-- The entries before the first torn one, and that one. -/
def cutTorn (out0 out1 : Bool) : List Entry → List Entry × Option Entry
  | [] => ([], none)
  | e :: rest =>
    if !e.whole out0 out1 && !e.committedAlone out0 out1 && !rest.any (fun d => d.good out0 out1) then ([], some e)
    else
      let r := cutTorn out0 out1 rest
      (e :: r.1, r.2)

/-- The entry is replaced by a good repair behind it. -/
def replaced (out0 out1 : Bool) (log : List Entry) (e : Entry) : Bool :=
  log.any fun d => d.orig == e.orig && d.lpos.after e.lpos && d.good out0 out1

/-! ### The write head resumes at a torn entry (R177) -/

/-- Its head resumes at LPOS `p`: the sectors that hold nothing else are erased and free again, and the one in which the entry begins
is the head's. -/
def Bank.resumeAt (q : Bank) (p : Word) : Bank :=
  let keep := q.entered.filter fun u => p.after u.2
  let gone := (q.entered.filter fun u => !p.after u.2).map Prod.fst
  match keep.getLast? with
  | some u => { q with at_ := u.1, first := u.2, used := keep.dropLast, ahead := q.ahead ++ gone.filter fun k => !q.bad.contains k }
  | none => { q with at_ := gone.headD q.at_, first := p, used := [], ahead := q.ahead ++ (gone.drop 1).filter fun k => !q.bad.contains k }

/-- The sectors of a bank that hold words of a torn entry: they are erased, and the words of earlier entries among them programmed
again, before the head resumes (DESIGN CHOICE, log 66). -/
def State.discardTorn (s : State) (e : Entry) (b : Nat) : State :=
  if s.bankOut b then s
  else
    let q := s.bank b
    let hit := if (e.copy b).done = 0 then [] else
      ((q.entered.filter fun u => !e.lpos.after u.2).map Prod.fst ++ [q.sectorOf e.lpos]).dedup.filter fun k => !q.bad.contains k
    (hit.foldl (fun (s : State) k => s.countErase b k) s).onBank b fun q => q.resumeAt e.lpos

/-! ### Jobs from entries (R161, R162, R176) -/

/-- Number of the job a mark word names: SEQLO expanded against the entry's SEQ. -/
def markJob (ref : Word) (lo : Nat) : Word := ref + wordOfInt (signed 12 (lo + 4096 - ref.toNat % 4096))

/-- The marks of an entry. -/
def Entry.marks (e : Entry) : List Mark :=
  if e.kind = 3 then e.body.map fun w => ⟨bits w 35 32, bits w 31 20, bits w 19 12, markJob e.seq (bits w 11 0)⟩ else []

/-- The entry begins a job or a job carried forward. -/
def Entry.begins (e : Entry) : Bool := e.kind == 2 || (e.kind == 7 && bits (e.body.getD 0 0) 23 12 == 0)

/-- The words of a job from its CARRY pieces. -/
def carried (es : List Entry) (seq : Word) : List Word :=
  es.foldl (fun acc e =>
    if e.kind = 7 ∧ e.seq = seq ∧ bits (e.body.getD 0 0) 23 12 = acc.length then
      acc ++ (e.body.drop 1).take (bits (e.body.getD 0 0) 11 0)
    else acc) []

/-- The words of a job. -/
def jobWords (es : List Entry) (seq : Word) : List Word :=
  match es.find? fun e => e.kind == 2 && e.seq == seq with
  | some e => e.body
  | none => carried es seq

/-- An accepted job of which nothing has run yet. -/
def newJob (seq : Word) (port : Nat) (words : List Word) : Job :=
  let recs := jobRecords words
  let fences := (recs.zipIdx.filter fun p => p.1.typ == tFence).map fun p => (p.2, FenceState.waiting)
  ⟨seq, port, jobHref words, words, recs, recs.map firstStatus, fences, false, false, false, [], [], []⟩

/-- Change one record's status. -/
def Job.onRec (j : Job) (idx : Nat) (f : RecStatus → RecStatus) : Job := { j with status := j.status.modify idx f }

/-- Change one fence of a job. -/
def Job.onFence (j : Job) (idx : Nat) (st : FenceState) : Job :=
  { j with fences := j.fences.map fun f => if f.1 = idx then (idx, st) else f }

/-- A record is over: ENDED unless it was cancelled. -/
def RecStatus.over (r : RecStatus) : RecStatus := { r with outcome := if r.finished then r.outcome else .ended, marked := true }

/-- A mark acts on its job. -/
def Job.mark (j : Job) (m : Mark) : Job :=
  if m.job ≠ j.seq then j
  else match m.code with
    | 1 => { j with started := true }
    | 2 => j.onRec m.idx fun r => { r with outcome := .ended, marked := true }
    | 3 => j.onRec m.idx fun r => { r with outcome := .cancelled, marked := true }
    | 4 => j.onRec m.idx fun r => { r with copies := max r.copies m.arg }
    | 8 => (j.onFence m.idx .satisfied).onRec m.idx RecStatus.over
    | 9 => if j.fences.contains (m.idx, .waiting) then j.onFence m.idx .broken else j
    | 10 => (j.onFence m.idx .resumed).onRec m.idx RecStatus.over
    | _ => j

/-- A GATE_ARM entry acts on its record; the copy of one that is settled does nothing. -/
def RecStatus.arm (r : RecStatus) : RecStatus :=
  match r.gate with
  | .none | .resolvedRedo => { r with gate := .armed }
  | _ => r

/-- A GATE_SETTLE entry acts on its record (R163, R175, R179). -/
def RecStatus.settle (r : RecStatus) (verdict hint : Nat) : RecStatus :=
  let r := { r with gate := verdictState verdict, hint := if verdict = 3 then hint else 0 }
  if verdict = 3 then r else if verdict = 5 then { r with outcome := .queued, marked := false } else r.over

/-- Three characters of a word of a RESULT entry (R161). -/
def resultChars (e : Entry) : List Nat :=
  ((e.body.drop 1).flatMap fun w => [bits w 35 24, bits w 23 12, bits w 11 0]).take (bits (e.body.getD 0 0) 11 0)

/-- The characters of an AUX_XFER: those of the newest whole set of pieces. -/
def resultOf (es : List Entry) (seq : Word) (idx : Nat) : List Nat :=
  let r := es.foldl (fun (acc : List Nat × List Nat) e =>
    if e.seq = seq ∧ e.begins then (if acc.2.length < acc.1.length then acc else (acc.2, []))
    else if e.kind = 8 ∧ e.seq = seq ∧ bits (e.body.getD 0 0) 35 24 = idx then (acc.1, acc.2 ++ resultChars e)
    else acc) ([], [])
  if r.2.length < r.1.length then r.1 else r.2

/-- An entry acts on a job. -/
def Job.entry (j : Job) (e : Entry) : Job :=
  let w := e.body.getD 0 0
  if e.kind = 3 then e.marks.foldl Job.mark j
  else if e.seq ≠ j.seq then j
  else if e.kind = 4 then j.onRec (bits w 35 24) RecStatus.arm
  else if e.kind = 5 then j.onRec (bits w 35 24) fun r => r.settle (bits w 23 20) (bits w 15 12)
  else j

/-- The outstanding jobs of a log, in the order of their acceptance. -/
def rebuildJobs (es : List Entry) : List Job :=
  let begun := (es.filter Entry.begins).map fun e => (e.seq, e.port)
  let firsts := begun.zipIdx.filter fun p => !((begun.take p.2).any fun b => b.1 == p.1.1)
  let marks := es.flatMap Entry.marks
  let open' := firsts.filter fun p => !marks.any fun m => m.code == 6 && m.job == p.1.1
  open'.map fun p =>
    let j := es.foldl Job.entry (newJob p.1.1 p.1.2 (jobWords es p.1.1))
    { j with results := (j.recs.zipIdx.filter fun r => r.1.typ == tAuxXfer && !(resultOf es j.seq r.2).isEmpty).map fun r =>
               (r.2, resultOf es j.seq r.2) }

/-- The newest LANE entry of a lane: its state code and epoch. -/
def laneEntry (es : List Entry) (i : Nat) : Option (Nat × Nat) :=
  ((es.filter fun e => e.kind == 6 && bits (e.body.getD 0 0) 35 31 == i).getLast?).map fun e =>
    (bits (e.body.getD 0 0) 30 27, bits (e.body.getD 0 0) 26 11)

/-! ### Lanes and gates -/

/-- Queue what is unfinished of a recovered job. -/
def State.queueRecovered (s : State) (j : Job) : State :=
  j.recs.zipIdx.foldl (fun (s : State) p =>
    if (j.status.getD p.2 ⟨.ended, .none, 0, 0, true⟩).finished then s else s.queueRecord j.seq p.2 p.1) s

/-- A RE_ADMIT not yet over runs under its timeout again. -/
def State.recoverDeadlines (s : State) (j : Job) : State :=
  let ends := (j.recs.zipIdx.filter fun p => p.1.typ == tReAdmit && p.1.tmo &&
    !(j.status.getD p.2 ⟨.ended, .none, 0, 0, true⟩).finished).map fun p => (j.seq, p.2, (s.stitch.n + 1) * 4096 + phOf p.1.timeout)
  s.onJobs fun k => { k with deadlines := k.deadlines ++ ends }

/-- The gates that are ARMED or IN_DOUBT, in the order of their GATE_ARM entries. -/
def State.openGates (s : State) (es : List Entry) : List (Word × Nat) :=
  ((es.filter fun e => e.kind == 4).map fun e => (e.seq, bits (e.body.getD 0 0) 35 24)).dedup.filter fun g =>
    !(s.recStatus g.1 g.2).gate.settled && (s.job? g.1).isSome

/-- Enter an open gate into the gate list. -/
def State.recoverGate (s : State) (g : Word × Nat) : State :=
  let st := s.recStatus g.1 g.2
  match (s.job? g.1).bind fun j => j.recs[g.2]? with
  | none => s
  | some r =>
    let s := s.gateArmed g.1 g.2 r.lane r
    if st.gate = .inDoubt then
      (s.onRec g.1 g.2 fun t => { t with gate := .inDoubt }).onGate g.1 g.2 fun e =>
        some { e with doubt := true, told := true, hint := st.hint }
    else s

/-- An EVIDENCE mark is committed for the present arming of a gate. -/
def evidenceSeen (es : List Entry) (g : Word × Nat) : Bool :=
  es.foldl (fun b e =>
    if e.kind = 4 ∧ e.seq = g.1 ∧ bits (e.body.getD 0 0) 35 24 = g.2 then false
    else b || e.marks.any fun m => m.code == 5 && m.job == g.1 && m.idx == g.2) false

/-- Write a settle entry whose effects are in force already. -/
def State.recoverySettle (s : State) (job : Word) (idx verdict source hint : Nat) : State :=
  s.writeEntry 0x5 (s.portOf job) job (settleWords idx verdict source hint 0) (.marks [])

/-- An ARMED gate is judged (R178): settled by its evidence, else IN_DOUBT with its hint. -/
def State.judgeGate (es : List Entry) (s : State) (g : Word × Nat) : State :=
  match s.gate? g.1 g.2 with
  | none => s
  | some e =>
    if e.doubt then s
    else if evidenceSeen es g then
      let s := s.onRec g.1 g.2 fun r => { r.over with gate := .doneEvidence }
      let s := { s with lanes := s.lanes.map fun (l : Lane) => { l with queue := l.queue.filter fun q => !(q.job == g.1 && q.idx == g.2) } }
      (s.onGate g.1 g.2 fun _ => none).recoverySettle g.1 g.2 1 e.source 0
    else
      let h := s.gateHint e
      ((s.onRec g.1 g.2 fun r => { r with gate := .inDoubt, hint := h }).onGate g.1 g.2
        fun e => some { e with doubt := true, told := true, hint := h }).recoverySettle g.1 g.2 3 0 h

/-! ### Interrupted records (R179) -/

/-- The first unfinished record of lane `i`, where its job has started and no fence stands before it. -/
def State.interruptedOn (s : State) (i : Nat) : Option QItem :=
  match (s.lane i).queue with
  | q :: _ => if q.r.lane = i ∧ (s.job? q.job).any Job.started then some q else none
  | [] => none

/-- It is marked INTERRUPTED; one that runs again only by CONTINUE leaves the queue for the lane's place of running. -/
def State.interrupt (s : State) (i : Nat) : State :=
  match s.interruptedOn i with
  | none => s
  | some q =>
    let s := (s.onRec q.job q.idx fun r => { r with outcome := .interrupted }).queueMark 7 q.idx 0 q.job
    if q.r.gate || q.r.rerun || q.r.typ == tPrint then s
    else s.onLane i fun l => { l with running := some q, queue := l.queue.drop 1 }

/-! ### Lanes after recovery (R180) -/

/-- LANE state of lane `i`: RECOVERY where it holds recovered jobs or the welt has a double fault; FAULT or OUT from its newest LANE
entry are its state then when it leaves RECOVERY, else at once (R180). -/
def State.recoverLane (es : List Entry) (double : Bool) (s : State) (i : Nat) : State :=
  let e := laneEntry es i
  let code := (e.map Prod.fst).getD 0
  let after : LaneState := if code = 5 ∨ (i < 2 ∧ (s.desc i).dots = 0) then .out else if code = 4 then .fault else .idle
  let held : Bool := double || !(s.lane i).items.isEmpty
  (s.showHeld i held).onLane i fun l =>
    { l with epoch := BitVec.ofNat 16 ((e.map Prod.snd).getD 0), wait := .none,
             state := if held then .recovery else after, after := if held then after else .idle }

/-- Lane `i` leaves RECOVERY by itself in AUTO: nothing interrupted, no gate IN_DOUBT. -/
def State.autoLeave (s : State) (i : Nat) : State :=
  let cut (q : QItem) : Bool := (s.recStatus q.job q.idx).outcome == .interrupted
  if (s.lane i).items.any cut || s.laneDoubt i then s else s.leaveRecovery i

/-! ### The recovery events (R181) -/

/-- The job is held by a lane. -/
def State.heldJob (s : State) (seq : Word) : Bool := (List.range 19).any fun i => (s.lane i).jobs.contains seq

/-- The events an entry causes: `log` all entries, `before` those before it, `gates` the gates judged. One replaced by its repair
causes none for its state (R177). -/
def State.entryEvents (out0 out1 : Bool) (log : List Entry) (gates : List (Word × Nat)) (s : State) (e : Entry)
    (before : List Entry) : State :=
  let b := if out0 || (!out1 && e.goodIn 0) then 1 else 0
  let arg := flashArg b 0 0 ((s.bank b).sectorOf e.lpos)
  let g := (e.seq, bits (e.body.getD 0 0) 35 24)
  let again := replaced out0 out1 log e
  if !e.good out0 out1 then (if again then s else s.raise 12 6 31 [arg])
  else
    let s := if e.whole out0 out1 || again then s else s.raise 12 5 31 [arg]
    if e.begins ∧ s.heldJob e.seq ∧ !(before.any fun d => d.begins && d.seq == e.seq) then s.raise 2 4 31 [e.seq]
    else if e.kind = 4 ∧ gates.contains g ∧ !(before.any fun d => d.kind == 4 && (d.seq, bits (d.body.getD 0 0) 35 24) == g) then
      let doubt := (s.recStatus g.1 g.2).gate == .inDoubt
      s.raise 5 (if doubt then 2 else 1) ((s.gatedLane g.1 g.2).getD 31) [e.seq]
    else s

/-- The events of the entries, in their order. -/
def State.logEvents (out0 out1 : Bool) (log : List Entry) (gates : List (Word × Nat)) (before : List Entry) (s : State) :
    List Entry → State
  | [] => s
  | e :: rest =>
    State.logEvents out0 out1 log gates (before ++ [e]) (s.entryEvents out0 out1 log gates e before) rest

/-- Events queued from number `n` on are recovery events. -/
def EventQ.recoveryFrom (n : Nat) (q : EventQ) : EventQ :=
  let f (e : Event) : Event := if n ≤ e.id then { e with recovery := true } else e
  { q with entries := q.entries.map f, store := q.store.map f }

/-! ### Recovery as a whole (R176) -/

/-- Repairs: an entry good in one bank only, and not replaced yet, is written again at the head (R177). -/
def State.repairEntry (out0 out1 : Bool) (log : List Entry) (s : State) (e : Entry) : State :=
  if e.good out0 out1 && !e.whole out0 out1 && !replaced out0 out1 log e then
    s.onWelt fun w => { w with wq := w.wq ++ [⟨e.words, .repair e.orig⟩] }
  else s

/-- JOB_SEQ and JEPOCH from the welt (R127, R185). -/
def State.recoverSeq (s : State) (es : List Entry) : State :=
  let anchor := ((es.filter fun e => e.kind == 1).getLast?).map Entry.seq
  let job := ((es.filter fun e => e.kind == 2).getLast?).map Entry.seq
  let last := job.getD (anchor.getD 0)
  let top := match anchor with
    | some a => if a.after last then a else last
    | none => last
  let s := s.onJobs fun k => { k with lastSeq := last, decided := top }
  s.onWelt fun w => { w with jepoch := ((es.getLast?).map Entry.jepoch).getD 0 }

/-- Steps 1 to 5 of R176 on the entries `log` before a torn one, of which `es` are accepted. -/
def State.rebuild (s : State) (log es : List Entry) (out0 out1 double : Bool) : State × List (Word × Nat) :=
  let s := log.foldl (State.repairEntry out0 out1 log) (s.recoverSeq es)
  let st := standing es
  let js := (rebuildJobs st).map fun j => { j with assets := s.assetsOf j.recs }
  let s := s.onJobs fun k => { k with table := js }
  let s := js.foldl State.queueRecovered s
  let s := js.foldl State.recoverDeadlines s
  let gates := s.openGates es
  let s := gates.foldl State.recoverGate s
  let armed := gates.filter fun g => (s.recStatus g.1 g.2).gate == .armed
  let s := armed.foldl (State.judgeGate st) s
  let s := (List.range 19).foldl State.interrupt s
  ((List.range 19).foldl (State.recoverLane st double) s, armed)

/-- Lanes in RECOVERY as a mask. -/
def State.recoveryLanes (s : State) : Nat :=
  (List.range 19).foldl (fun m i => if (s.lane i).state = .recovery then m + 2 ^ i else m) 0

/-- The write head after the entries of a log. -/
def headAfter (log : List Entry) (head : Word) : Word :=
  match log.getLast? with
  | some e => e.lpos + BitVec.ofNat 36 e.size
  | none => head

/-- Steps 1 to 6 of R176: the entries judged, what they give, and the recovery's own entries written. Answers the judged gates. -/
def State.replay (s : State) : State × List (Word × Nat) × Bool :=
  let out0 := s.bankOut 0
  let out1 := s.bankOut 1
  let (log, torn) := cutTorn out0 out1 s.welt.log
  let es := log.filter fun e => e.good out0 out1
  let double := log.any fun e => !e.good out0 out1 && !replaced out0 out1 log e
  let s : State := match torn with
    | some e => (s.discardTorn e 0).discardTorn e 1
    | none => s
  let head := match torn with | some e => e.lpos | none => headAfter log s.welt.head
  let s := (s.onWelt fun w => { w with log := log, head := head }).onDev fun d => { d with jdf := d.jdf || double }
  let (s, armed) := s.rebuild log es out0 out1 double
  let s := (s.writeEntry 1 3 s.jobs.decided [s.welt.tail] .nothing).flushMarks
  (State.writeAll (s.welt.wq.length + 8) s, armed, double)

/-- Step 7: the recovery events, RECOVERY_DONE last. -/
def State.recoveryDone (s : State) (log : List Entry) (out0 out1 : Bool) (armed : List (Word × Nat)) : State :=
  let from_ := s.ev.nextId
  let jobs := min 1023 s.jobs.table.length
  let lanes := s.recoveryLanes
  let s := State.logEvents out0 out1 log armed [] s log
  let s := (s.raise 13 5 31 [field 28 10 lanes ||| field 9 0 jobs]).onEv (EventQ.recoveryFrom from_)
  let s : State := { s with power := { s.power with rcd := { s.power.rcd with jobs := jobs, lanes := lanes } } }
  s.onWelt fun w => { w with ready := true }

/-- The recovery of the welt; STATE reads RECOVERY until its events are queued. -/
def State.recover (s : State) : State :=
  let s := s.onDev fun d => { d with st := .recovery }
  let log := (cutTorn (s.bankOut 0) (s.bankOut 1) s.welt.log).1
  let (t, armed, double) := s.replay
  let t := t.recoveryDone log (s.bankOut 0) (s.bankOut 1) armed
  let t := if t.cfgB .welt F.welt_RECOV_MODE && !double then (List.range 19).foldl State.autoLeave t else t
  t.jobs.table.foldl (fun (s : State) j => s.checkDone j.seq) t

end Sys2Proof.Machine
end

