-- ==== Sys2Proof/Machine/Startup.lean ====
section
/-!
DEFINITION. Start-up (R465, R466, R472, R473, R477, R482, R516, R520..R526, R537..R539, R542, R543): the OTP row, the stored
configuration, the parts' tests, the choice of the image, positions across the reset (R322..R324), recovery, READY.
-/

namespace Sys2Proof.Machine

/-! ### The stored configuration (R413, R472, R473, R227) -/

/-- A limit field beyond its ceiling is clamped to it. -/
def State.clampField (s : State) (o : Obj) (f : Field) : State :=
  match s.limitCeil o f with
  | some c => if c < s.cfg o f then s.putCfg o f c else s
  | none => s

/-- The limit fields of the shank under their ceilings. -/
def State.clampLimits (s : State) : State :=
  let s := (s.clampField .shk F.shk_E_SAFE).clampField .shk F.shk_T_DISCH
  (List.range 58).foldl (fun (s : State) g =>
    let s := (s.clampField (.grp g) F.grp_P_LIM).clampField (.grp g) F.grp_WIN
    if 56 ≤ g then (s.clampField (.grp g) F.grph_STB_SH).clampField (.grp g) F.grph_DUTY_SH
    else s.clampField (.grp g) F.grp_TON) s

/-- The stored descriptor, binding, scheduling and interlace of head `x` are checked as a commit; where they fail, those in
force take their reset values and the stored ones stay in the shadow copy. -/
def State.checkHead (s : State) (x : Nat) : State :=
  if s.tbl.force.headOk x then s
  else
    let a := (Obj.head x).base
    { s with tbl := { s.tbl with force := s.tbl.force.filter fun c => !(a ≤ c.1 && c.1 < a + 0x19) } }

/-- What the settings region has lost is absent: the stored configuration, or an asset whose sectors are erased and freed (R469). -/
def State.dropLost (s : State) : State :=
  s.flash.lostRecs.foldl (fun (s : State) n =>
    if n = 0 then s.onFlash fun f => { f with stored := [] }
    else if (s.dirEntry (n - 1)).st = .free then s
    else (s.eraseRecord (s.dirEntry (n - 1))).setDir (n - 1) DirEntry.empty) s

/-- The jobs that use a lost asset wait (R469). -/
def State.holdLost (s : State) : State :=
  (s.flash.lostRecs.foldl (fun (s : State) n => if n = 0 then s else s.holdUsers (n - 1)) s).onFlash fun f => { f with lostRecs := [] }

/-- Rewrites in place that the reset interrupted are completed from their markers (R470). -/
def State.finishRewrites (s : State) : State :=
  [0, 1].foldl (fun (s : State) b => (s.bank b).rewrite.foldl (fun (s : State) k => s.sectorErased b k) s) s

/-- The configuration of the settings region is loaded. -/
def State.loadSettings (s : State) : State :=
  let s := s.dropLost.finishRewrites
  let s : State := { s with tbl := { Tables.reset with shadow := s.flash.stored, force := s.flash.stored } }
  let s := (s.clampLimits.checkHead 0).checkHead 1
  let s := if s.tbl.force.bindingsBroken then
      { s with tbl := { s.tbl with force := s.tbl.force.filter fun c => c.1 != bindingAddr 0 && c.1 != bindingAddr 1 } }
    else s
  (s.bandAfresh 0).bandAfresh 1

/-- Endurance used by the most worn journal sector, in % of 100,000 cycles (R133, R471). -/
def Bank.wear (q : Bank) : Nat := (((q.erases.filter fun e => e.1 < 1536).map fun e => e.2 / 1000).foldl max 0) % 256

/-- Settings, wear, the bands of the heads, and what the general inputs show of a ticket (R262, R292, R300). -/
def State.loadInputs (s : State) : State :=
  let s := ((s.bandAfresh 0).bandAfresh 1).onSup fun u => { u with sampled := true }
  let s := s.onFlash fun f => { f with wear0 := (at' f.banks 0).wear, wear1 := (at' f.banks 1).wear }
  (List.range 8).foldl (fun (s : State) n =>
    let on := (at' s.snss n).high != s.cfgB (.sns n) F.sns_POL
    s.onSns n fun q => { q with active := on, present := on && s.cfg (.sns n) F.sns_FUNC == 2 }) s

/-! ### The parts' tests (R521, R522) -/

/-- An SRAM bank is tested: `first` and `second` say that the first and the second attempt failed. -/
def State.testSram (s : State) (b : Nat) (first second : Bool) : State :=
  if !first then s
  else if second then
    let s := s.onDev fun d => { d with sramRet := upd d.sramRet b fun _ => true }
    let s := s.onDom (4 + b) fun d => { d with st := .off }
    (s.raise 13 3 31 [field 3 0 (3 + b)]).secondPart (3 + b)
  else s.onDev fun d => { d with sramTr := upd d.sramTr b (· + 1), transient := true }

/-- A flash bank is judged under R466. -/
def State.testBank (s : State) (b : Nat) : State := if (s.bank b).tooBad then s.retireBank b else s

/-- A job core must give its first heartbeat; after a second attempt that succeeds it is judged for 10 s (R34). -/
def State.testCore (s : State) (k : Nat) (first second : Bool) : State :=
  if !first then s
  else if second then
    (((s.setCore k .retired).onDom (1 + k) fun d => { d with st := .off }).raise 13 2 31 [field 3 0 (1 + k)]).secondPart (1 + k)
  else s.setCore k .probation

/-! ### The image (R538, R539) -/

/-- A slot's image is acceptable. -/
def State.imageRuns (s : State) (b : Nat) : Bool :=
  let t := at' s.sec.slots b
  let len := bits (t.hdr.getD 1 0) 18 0
  !s.bankOut b && headWordOk (t.hdr.getD 0 0) && 64 ≤ len && len ≤ 262144 && s.imageFits t.hdr && t.sig

/-- The slots in TRIAL or CONFIRMED, newest SEQ first; after a reset onto the other image that one comes first. -/
def State.imageOrder (s : State) (sub : Nat) : List Nat :=
  let sa := at' s.sec.slots 0
  let sb := at' s.sec.slots 1
  let order := if sub = 2 then [1 - s.sec.run, s.sec.run] else if sb.seq.after sa.seq then [1, 0] else [0, 1]
  order.filter fun b => 3 ≤ (at' s.sec.slots b).st

/-- The first acceptable slot; those that fail become INVALID. -/
def State.tryImages : List Nat → State → State × Option Nat
  | [], s => (s, none)
  | b :: rest, s =>
    if s.imageRuns b then (s, some b)
    else State.tryImages rest (s.onSec fun q => { q with slots := Machine.upd q.slots b fun (t : Slot) => { t with st := 1 } })

/-- The keys that are written are loaded; one whose KCV differs is bad (R543). -/
def State.loadKeys (s : State) : State :=
  (List.range 8).foldl (fun (s : State) i =>
    let a := s.otp (0x18 + i)
    let bad := bit a 35 && kcvOf (s.keyWords i) != bits a 31 0
    s.onSec fun q => { q with loaded := Machine.upd q.loaded i fun _ => bit a 35, badKey := Machine.upd q.badKey i fun _ => bad }) s

/-! ### Positions across the reset (R322..R324) -/

/-- A reading of SSI port `p` that start-up takes for a confirmation: free, as its source decides; none from a port that is
off. -/
def State.startReading (s : State) (p : Nat) : Bool × State :=
  let (n, s) := s.takeFresh
  let v := (Config.freeWord n).toNat % 2 ^ s.cfg (.ssi p) F.ssi_NBITS
  (s.cfgB (.ssi p) F.ssi_EN && Config.freeBool n, s.onSsi p fun q => { q with raw := BitVec.ofNat 36 v })

/-- One attempt to confirm axis `n` by its SSI port: whether it passes. -/
def State.startAttempt (s : State) (n : Nat) (lost : Bool) : Bool × State :=
  let (ok, s) := s.startReading (s.cfg (.ax n) F.ax_CONF_IDX)
  (ok && (lost || decide ((s.confPos n - (s.ax n).pos).natAbs ≤ s.cfg (.ax n) F.ax_CONF_TOL)), s)

/-- The axis takes its confirmed position. -/
def State.startConfirmed (s : State) (n : Nat) (lost second : Bool) : State :=
  let d := if lost then s.confPos n - (s.ax n).pos else 0
  s.onAx n fun a => { a with pos := a.pos + d, tgt := a.tgt + d, line := a.line + d * q22, lastPl := a.lastPl + d, posOk := true,
                             confTr := if second then satInc 4095 a.confTr else a.confTr }

/-- A position in doubt: confirmed by the SSI port, at the latest in its second attempt, else UNCERTAIN. REF_LIVE has been
cleared by the reset, so no encoder confirms. -/
def State.startConfirm (s : State) (n cause : Nat) (lost : Bool) : State :=
  if s.cfg (.ax n) F.ax_CONF_SRC ≠ 2 then s.markUncertain n cause
  else
    let (ok, s) := s.startAttempt n lost
    if ok then s.startConfirmed n lost false
    else
      let (ok, s) := s.startAttempt n lost
      if ok then s.startConfirmed n lost true else s.markUncertain n cause

/-- The axes whose position a reset has put in doubt. -/
def State.startAxes (s : State) (lost : Bool) : State :=
  (List.range 12).foldl (fun (s : State) n =>
    if s.cfg (.ax n) F.ax_KIND ≠ 1 then s
    else if lost then s.startConfirm n 2 true
    else if (s.ax n).ret.moving then s.startConfirm n 3 false
    else s) s

/-! ### Steps 7 to 11 (R521, R524) -/

/-- The start-up record (R526). -/
def State.onRcd (s : State) (f : StartRec → StartRec) : State := { s with power := { s.power with rcd := f s.power.rcd } }

/-- Retired parts as RETIRED shows them: CORE0 highest. -/
def State.retiredMask (s : State) : Nat := s.retiredParts.foldl (fun m c => m + 2 ^ (6 - c)) 0

/-- Recovery and READY; lanes of a head whose SRAM bank is retired fault (R36). -/
def State.goReady (s : State) (lost : Bool) (bootT recovT : Nat) : State :=
  let s := s.onRcd fun r => { r with bootT := bootT }
  let s := s.startAxes lost
  let s := if lost then (List.range 32).foldl State.thetaLost s else s
  let s := s.recover.holdLost
  let s := [0, 1].foldl (fun (s : State) b => if at' s.dev.sramRet b then s.laneFault b else s) s
  let s := s.onDev fun d => { d with st := if s.shank.st = .normal then .ready else .safe }
  (s.onRcd fun r => { r with recovT := recovT, retired := s.retiredMask }).resolve

/-- Start-up waits in BOOT with the safe state held (R520, R522, R542). -/
def State.stayInBoot (s : State) (noImage : Bool) : State :=
  let s : State := { s with power := { s.power with inReset := none, noImage := noImage } }
  if s.shank.st = .normal then s.enterSafe 0xA false else s

/-- Step 7 on: the image, the cores, recovery. -/
def State.bootImage (s : State) (sub : Nat) (lost : Bool) (tests : BitVec 12) (bootT recovT : Nat) : State :=
  let order := s.imageOrder sub
  let (s, run) := State.tryImages order s
  match run with
  | none => s.stayInBoot true
  | some b =>
    let s := s.onSec fun q => { q with run := b }
    let s := s.onRcd fun r => { r with img := b == 1, fallback := order.head? != some b }
    let s := if sub = 2 then s.raise 12 9 31 [flashArg b 1 0 0] else s
    let s := (s.testCore 0 (tests.getLsbD 8) (tests.getLsbD 9)).testCore 1 (tests.getLsbD 10) (tests.getLsbD 11)
    if at' s.dev.cores 0 = .retired ∧ at' s.dev.cores 1 = .retired then s.stayInBoot false
    else
      let s : State := { s with power := { s.power with inReset := none, noImage := false } }
      s.goReady lost bootT recovT

/-! ### The mass erase (R482) -/

/-- Every sector of a bank is erased; one whose two erases fail is recorded as bad, and not taken for the pool (R482). -/
def Bank.massErased (q : Bank) (bad : List Nat) : Bank :=
  { Bank.reset with erases := (List.range 4096).map fun k => (k, q.erasesOf k + 1), bad := bad,
                    ahead := Bank.reset.ahead.filter fun k => !bad.contains k }

/-- Steps 3 and 4: everything in flash goes, the next LOWER bit is programmed, the device resets at PL0. `bad` are the sectors that
fail their erase twice. -/
def State.massErase (s : State) (bad : List (Fin 2 × BitVec 12)) : State :=
  let of (b : Fin 2) : List Nat := ((bad.filter fun c => c.1 == b).map fun c => c.2.toNat).dedup
  let s : State := { s with jobs := Jobs.reset, welt := Welt.reset, assets := Assets.reset,
                            flash := { FlashCtl.reset with banks := #v[(at' s.flash.banks 0).massErased (of 0),
                                                                       (at' s.flash.banks 1).massErased (of 1)] },
                            sec := { s.sec with slots := Vector.replicate 2 Slot.reset, upd := Update.reset } }
  match nextClear (s.otp 0x10) 15 0 with
  | some b => (s.blow 0x10 b).takeReset 4 0 false
  | none => s

/-! ### Start-up as a whole -/

/-- Steps 2 to 6, then the rest. `tests` names the attempts that fail: bits 0, 1 the PLLs; 2, 3 the OTP double read; 4, 5 SRAM0;
6, 7 SRAM1; 8, 9 core 0; 10, 11 core 1: the first attempt, then the second. -/
def State.startUp (s : State) (cause sub : Nat) (lost : Bool) (tests : BitVec 12) (bootT recovT : Nat) : State :=
  let t (i : Nat) : Bool := tests.getLsbD i
  if t 0 ∧ t 1 then (s.enterSafe 0xA false).takeReset 4 5 lost
  else
    let s : State := { s with power := { s.power with clkTr := if t 0 then satInc 4095 s.power.clkTr else s.power.clkTr } }
    let s := s.onRcd fun r => { r with cause := cause, sub := sub, retKept := !lost }
    let s := s.raise 13 1 31 [field 35 32 cause ||| field 31 28 sub ||| flag 27 (!lost)]
    if t 2 ∧ t 3 then s.stayInBoot false
    else
      let s : State := { s with power := { s.power with hostOn := true } }
      let s := if t 2 then s.onOtp fun o => { o with rdTr := satInc 4095 o.rdTr } else s
      let s := s.loadSettings.loadInputs.loadKeys
      let s := (s.testSram 0 (t 4) (t 5)).testSram 1 (t 6) (t 7)
      let s := (s.testBank 0).testBank 1
      s.bootImage sub lost tests bootT recovT

/-- START_UP: from reset release to READY or SAFE. In factory test mode no firmware runs, and the safe state is held (R552). `tests`
names the attempts that fail, and the sectors that fail their erase where a mass erase is pending. -/
def execStartUp (tests : BitVec 12 × List (Fin 2 × BitVec 12)) (bootT recovT : BitVec 18) (s : State) :
    Host.Outcome State Fault Refusal :=
  match s.power.inReset with
  | none => .next s
  | some (cause, sub, lost) =>
    if s.power.testMode then .next (s.stayInBoot false)
    else if s.erasePending then .next (s.massErase tests.2)
    else .next (s.startUp cause sub lost tests.1 bootT.toNat recovT.toNat)

/-- ACTIVATE of an accepted write: in BOOT without an image, start-up goes on from step 7; the times it takes are free. -/
def State.activate (s : State) : State × Nat :=
  let r := s.imageActivate
  if r.2 = 0 ∧ r.1.power.noImage then
    let (n, s) := r.1.takeFresh
    let (m, s) := s.takeFresh
    (s.bootImage 0 (!s.power.rcd.retKept) 0 (Config.freeNat n % 2 ^ 18) (Config.freeNat m % 2 ^ 18), 0)
  else r

/-- ACTIVATE (R541, R542). -/
def execActivate (port : Fin 2) (s : State) : Host.Outcome State Fault Refusal := answer port true s.activate

end Sys2Proof.Machine
end

