-- ==== Sys2Proof/Machine/Flags.lean ====
section
/-!
DEFINITION. The status words: every register and table word whose fields show the state of the machine (R97, R103, R104,
R112, R118..R136, and the status tables of the objects of R107), composed from the state when it is read.
-/

namespace Sys2Proof.Machine

/-- A field that shows a signed number (R8). -/
def Field.putS (f : Field) (i : Int) : Word := f.put (unsigned (f.hi + 1 - f.lo) i)

/-- A one-bit field. -/
def Field.putB (f : Field) (b : Bool) : Word := f.put b.toNat

/-- A mask with bit `i` set where `p i` holds, for `i < n`. -/
def maskOf (n : Nat) (p : Nat → Bool) : Nat := (List.range n).foldl (fun m i => if p i then m + 2 ^ i else m) 0

/-! ### Encodings of states -/

/-- STATE of R149. -/
def LaneState.code : LaneState → Nat
  | .idle => 0 | .running => 1 | .waiting => 2 | .stopped => 3 | .fault => 4 | .out => 5 | .readmit => 6 | .recovery => 7

/-- WAIT of R149. -/
def Wait.code : Wait → Nat
  | .none => 0 | .previous => 1 | .fence => 2 | .power => 3 | .calib => 4 | .path => 5 | .broken => 6 | .asset => 7
  | .inDoubt => 8 | .geared => 9 | .gateFull => 10 | .events => 11 | .arming => 12

/-- STATE of R120. -/
def DevState.code : DevState → Nat
  | .boot => 0 | .recovery => 1 | .ready => 2 | .safe => 3

/-- STATE of R131. -/
def ShankState.code : ShankState → Nat
  | .normal => 0 | .safe => 1 | .discharging => 2 | .discharged => 3

/-- STATE of R104. -/
def LinkState.code : LinkState → Nat
  | .hunt => 0 | .confirm => 1 | .up => 2 | .sync => 3

/-- STATE of R193. -/
def AssetState.code : AssetState → Nat
  | .free => 0 | .loading => 1 | .verifying => 2 | .ready => 3 | .damaged => 4 | .repairing => 5

/-- BSTATE of R358. -/
def BState.code : BState → Nat
  | .off => 0 | .calib => 1 | .run => 2 | .recover => 3 | .fault => 4

/-- BSTATE of a bridge: one in RUN is held in OFF while VGD is low, and in FREE and UNPOWERED (R321, R342, R353). -/
def State.bstate (s : State) (b : Nat) : Nat :=
  let ss := (s.ax (b / 2)).sstate
  let held := s.sup.vgdLow || (s.cfg (.ax (b / 2)) F.ax_KIND == 1 && (ss == 2 || ss == 4))
  if (s.br b).st = .run ∧ held then 0 else (s.br b).st.code

/-- CSTATE of R389. -/
def ChanState.code : ChanState → Nat
  | .idle => 0 | .run => 1 | .release => 2 | .diag => 3 | .recover => 4 | .fault => 5 | .hotWait => 6 | .calib => 7

/-- GSTATE of R306. -/
def GearState.code : GearState → Nat
  | .none => 0 | .geared => 1 | .pending => 2 | .disengaging => 3

/-- DSTATE of R506. -/
def DomState.code : DomState → Nat
  | .run => 0 | .idle => 1 | .off => 2 | .retain => 3

/-- MSTATE of R306; a homing decelerates at its references as part of itself. -/
def Axis.mstate (a : Axis) : Nat :=
  match a.mode with
  | .rest => 0
  | .home => if a.stop.getD 0 = 0 then 3 else 2
  | .gear => 4
  | .disengage => 5
  | _ => if a.stop.isSome then 2 else 1

/-- PSTATE of R251; a FEED or CUT leaves the printing states. -/
def State.pstate (s : State) (x : Nat) : Nat :=
  let h := s.head x
  if h.step = .scan ∨ h.sstate = 1 then 5
  else if (s.lane x).state = .stopped ∨ (s.lane x).stopping then 6
  else match h.step with
  | .wait => if h.settle = 0 then 2 else 1
  | .run => if h.holding then 4 else 3
  | .rest => 6
  | _ => 0

/-! ### Counts -/

/-- Jobs of the lane with held records (R148). -/
def State.heldJobs (s : State) (i : Nat) : Nat :=
  if (s.lane i).state = .recovery then (s.lane i).jobs.length
  else ((s.lane i).jobs.filter fun seq => (s.job? seq).any fun j => j.heldOn.contains i).length

/-- Fences accepted and not complete (R128). -/
def State.openFences (s : State) : Nat :=
  s.jobs.table.foldl (fun n j => n + (j.fences.filter fun f => f.2 = .waiting).length) 0

/-- Gates whose IN_DOUBT entry is committed (R173, R186). -/
def State.doubtful (s : State) : Nat := (s.welt.gates.toList.filter fun g => g.any Gate.told).length

/-- Recovery events that some port has still to take (R120, R181). -/
def State.recoveryDue (s : State) : Bool := (s.ev.entries ++ s.ev.store).any fun e => e.recovery && e.due

/-- Entries due to a port and not yet taken (R126). -/
def State.pendingFor (s : State) (p : Nat) : Nat := (s.ev.entries.filter fun e => e.dueP p).foldl (fun n e => n + e.size) 0

/-- Link errors of the current window (R91). -/
def Port.errCnt (q : Port) : Nat := min 255 ((q.buckets.take q.errWin).foldl (· + ·) 0)

/-- Erase counts of the pool sectors of both banks (R186). -/
def State.poolErases (s : State) : List Nat :=
  [0, 1].flatMap fun b => (List.range 1536).map fun k => (s.bank b).erasesOf k

/-! ### Direct registers -/

/-- DEV_STAT (R120). -/
def State.devStat (s : State) : Word :=
  let d := s.dev
  field 35 32 d.st.code ||| flag 31 (at' d.cores 0 == .retired) ||| flag 30 (at' d.cores 1 == .retired) |||
    flag 29 (at' d.sramRet 0) ||| flag 28 (at' d.sramRet 1) ||| flag 27 (at' d.flashRet 0) ||| flag 26 (at' d.flashRet 1) |||
    flag 25 d.secondPart ||| flag 24 d.jdf ||| flag 23 (s.doubtful != 0) |||
    flag 22 (s.lanes.any fun l => l.state == .recovery) ||| flag 21 s.recoveryDue ||| flag 20 d.transient ||| field 11 0 d.missed

/-- LINK_CTL of a port (R103). -/
def Port.linkCtl (q : Port) : Word := field 23 16 q.errLimit ||| field 15 8 q.errWin ||| flag 3 q.evtStream

/-- LINK_STAT of a port (R104). -/
def Port.linkStat (q : Port) : Word :=
  field 35 32 q.rev ||| field 31 28 q.st.code ||| field 27 12 q.div ||| field 11 4 q.errCnt ||| flag 3 q.fellBack |||
    flag 2 q.resynced ||| flag 1 q.noiseSeen ||| flag 0 (!q.eUnacked.isEmpty)

/-- TBL_CTL of a port (R112). -/
def Port.tblCtl (q : Port) : Word :=
  field 35 28 q.noteCode ||| flag 27 q.noteTbl ||| flag 26 q.refusedBit ||| flag 25 q.notedBit ||| field 24 17 q.noteIdx |||
    field 15 8 q.noteSeq ||| flag 5 (!q.pend.isEmpty) ||| flag 0 q.autoinc

/-- JOB_STAT in its format of R127. -/
def JobStat.word (j : JobStat) : Word := field 35 32 j.code ||| field 31 24 j.tag ||| field 23 0 j.info

/-- CAPS (R119). -/
def State.caps (s : State) : Word :=
  field 35 34 (bits (s.otp 4) 35 34) ||| field 31 28 3 ||| field 27 24 2 ||| field 23 20 0xC ||| field 19 14 0x20 ||| field 13 10 8 |||
    field 9 8 2 ||| field 7 4 3 ||| field 1 0 (maskOf 2 fun k => at' s.dev.cores k != .retired)

/-- DEV_ID (R118). -/
def devId : Word := 0x5C4964021

/-- ALERT_CTL (R97); ALERT is 1 while any pending bit is set (R96). -/
def Dev.alertCtl (d : Dev) : Word :=
  flag 24 d.host1First ||| field 23 8 d.classMask.toNat ||| flag 3 d.linkPend ||| flag 2 d.evtPend ||| flag 1 d.emergPend |||
    flag 0 (d.linkPend || d.evtPend || d.emergPend)

/-- FENCE_STAT (R128). -/
def State.fenceStat (s : State) : Word :=
  field 35 28 s.jobs.brokenCount.toNat ||| field 27 19 (min 511 s.openFences) |||
    field 18 0 (maskOf 19 fun i => (s.lane i).state == .waiting && ((s.lane i).wait == .fence || (s.lane i).wait == .broken))

/-- STITCH_CTL (R51). -/
def Stitch.ctl (g : Stitch) : Word :=
  field 26 16 g.kMax ||| field 15 12 g.slew ||| flag 3 g.ovrEn ||| flag 2 g.thermEn ||| flag 1 g.sagEn

/-- STITCH_STRETCH (R52). -/
def State.stretch (s : State) : Word :=
  flag 35 s.stitch.ovrSeen ||| flag 34 s.stitch.atMax ||| flag 33 s.actHost ||| flag 32 (s.actVM || s.actVS || s.actVH) |||
    flag 31 s.actTherm ||| flag 30 s.actOvr ||| field 29 19 s.stitch.kHost ||| field 18 0 s.stitch.x

/-- LANE_STAT (R130). -/
def State.laneStat (s : State) : Word :=
  flag 20 (s.head 1).holding ||| flag 19 (s.head 0).holding ||| field 18 0 (maskOf 19 fun i => (s.lane i).busy)

/-- SHANK_STAT (R131). -/
def Shank.stat (k : Shank) : Word :=
  field 35 32 k.st.code ||| flag 31 k.stopLow ||| flag 30 k.doorOpen ||| flag 29 k.stopped ||| flag 28 k.energyTrip |||
    flag 27 k.releaseTrip ||| flag 26 k.interlockTrip ||| flag 25 k.headTrip ||| flag 24 k.dischFail ||| field 18 0 k.tripLanes

/-- THERM_STAT (R132). -/
def State.thermStat (s : State) : Word :=
  field 27 16 (unsigned 12 s.sup.dieT) ||| field 15 14 s.sup.zone ||| field 13 12 s.sup.clkdiv ||| flag 11 s.sup.warnSeen |||
    flag 10 s.sup.throtSeen ||| flag 9 s.sup.broken ||| flag 8 (s.headThrot 0) ||| flag 7 (s.headThrot 1) ||| flag 6 s.extHot

/-- SUPPLY_STAT (R132) with readings `vm` and `vs` of the supplies. -/
def Supply.stat (u : Supply) (vm vs : Nat) : Word :=
  field 35 27 vm ||| field 26 18 vs ||| flag 7 (at' u.sag 0) ||| flag 6 (at' u.sag 1) ||| flag 5 (at' u.sag 2) |||
    flag 4 (at' u.sag 3) ||| flag 3 u.vgdLow ||| flag 2 u.sagSeen ||| flag 1 u.bor ||| flag 0 (u.vmLostG.any id)

/-- A bank is programming or erasing (R133). -/
def State.bankBusy (s : State) (b : Nat) : Bool := (s.programming b).isSome || (s.bank b).erasing

/-- FLASH_STAT (R133). -/
def State.flashStat (s : State) : Word :=
  let f := s.flash
  field 35 28 f.wear0 ||| field 27 20 f.wear1 ||| field 19 13 (if f.pass then min 100 (f.sector * 100 / 4096) else 0) |||
    flag 12 (s.bankBusy 0) ||| flag 11 (s.bankBusy 1) ||| flag 10 (f.banks.any Bank.susp) ||| flag 9 f.saving.isSome |||
    flag 8 f.wearWarn ||| flag 7 f.corr ||| flag 6 f.uncorr ||| flag 5 f.progFault

/-- AUXn_CTL and AUXn_STAT (R135). -/
def Aux.ctl (a : Aux) : Word :=
  field 23 8 a.div ||| flag 7 a.en ||| flag 6 a.nine ||| field 5 4 a.par ||| flag 3 a.stop2 ||| flag 2 a.addrOnly ||| flag 1 a.tunnel

def Aux.stat (a : Aux) : Word :=
  field 23 16 a.rx.length ||| field 15 8 a.txFree ||| flag 7 a.noise ||| flag 6 a.ferr ||| flag 5 a.perr |||
    flag 4 a.ovr ||| flag 3 a.idle ||| flag 2 a.txDone

/-- BIST_STAT (R136). -/
def Sec.bistStat (q : Sec) : Word := field 35 32 q.bistResult ||| field 31 20 q.bistFails ||| field 19 8 q.bistFirst

/-! ### Table words -/

/-- Identity words from OTP (R479). -/
def State.identity (s : State) (k : Nat) : Word :=
  devFields.foldl (fun w f => if f.off = k ∧ f.acc = .ot then w ||| f.put (f.get (s.otp k)) else w) 0

/-- Link statistics (R105). -/
def Port.counter (q : Port) (k : Nat) : Word := [q.crcErr, q.fmtErr, q.retxOk, q.resync, q.fallbacks, q.stray, q.noise].getD k 0

/-- Part fault counters (R121). -/
def Dev.counter (d : Dev) (k : Nat) : Word :=
  [at' d.coreTr 0, at' d.coreTr 1, at' d.sramTr 0, at' d.sramTr 1, at' d.flashTr 0, at' d.flashTr 1, d.fabricTr, d.missedAll].getD k 0

/-- The lane table (R148). -/
def State.laneWord (s : State) (i k : Nat) : Word :=
  let l := s.lane i
  if k = 0 then F.lane_OWNER.put l.owner
  else if k = 1 then F.lane_EPOCH.put l.epoch.toNat
  else if k = 2 then F.lane_STATE.put l.state.code ||| F.lane_WAIT.put (if l.state = .waiting ∨ l.state = .running then l.wait.code else 0)
  else F.lane_QUEUED.put l.jobs.length ||| F.lane_HELD.put (s.heldJobs i)

/-- The state of a domain as its word shows it: the common domains read OFF when retired, RUN otherwise (R506). -/
def State.domState (s : State) (d : Nat) : Nat :=
  if d < 8 then
    if (d == 1 || d == 2) && at' s.dev.cores (d - 1) == .retired || (d == 4 || d == 5) && at' s.dev.sramRet (d - 4) ||
       (d == 6 || d == 7) && at' s.dev.flashRet (d - 6) then 2 else (s.dom d).st.code
  else (s.dom d).st.code

/-- The power objects (R506). -/
def State.powerWord (s : State) (k : Nat) : Word :=
  if k < 16 then
    F.pwr_DSTATE.put (s.domState k) ||| F.pwr_REQ.putB (s.dom k).req |||
      F.pwr_HELD.putB (8 ≤ k && !(s.domConditions k && !s.keep k && !s.bistHolds k)) ||| F.pwr_POWERUPS.put (s.dom k).powerups
  else if k = 0x21 then
    F.pwr_WAKE_SRC.put s.power.wakeSrc ||| F.pwr_OFF_PEND.putB s.power.offPend ||| F.pwr_AON_XTAL.putB s.power.aonXtal |||
      F.pwr_CLK_TR.put s.power.clkTr ||| F.pwr_SLEEPS.put s.power.sleeps
  else 0

/-- The start-up record (R526). -/
def StartRec.word (r : StartRec) (k : Nat) : Word :=
  if k = 0x30 then
    F.su_CAUSE.put r.cause ||| F.su_SUB.put r.sub ||| F.su_RET_KEPT.putB r.retKept ||| F.su_IMG.putB r.img ||| F.su_FALLBACK.putB r.fallback
  else if k = 0x31 then F.su_BOOT_T.put r.bootT ||| F.su_RECOV_T.put r.recovT
  else if k = 0x32 then F.su_RETIRED.put r.retired
  else F.su_JOBS.put r.jobs ||| F.su_LANES.put r.lanes

/-- Banks in service. -/
def State.liveBanks (s : State) : List Nat := [0, 1].filter fun b => !s.bankOut b

/-- The welt status (R186): zero until RECOVERY ends. -/
def State.weltWord (s : State) (k : Nat) : Word :=
  let w := s.welt
  if k = 5 then F.welt_LOAD_OVER.putB w.loadOver ||| F.welt_BURST_OVER.putB w.burstOver
  else if !w.ready then 0
  else if k = 0 then F.welt_JEPOCH.put w.jepoch.toNat ||| F.welt_SINGLE.putB (s.liveBanks.length < 2)
  else if k = 1 then w.head
  else if k = 2 then w.tail
  else if k = 3 then
    F.welt_ERASED.put ((s.liveBanks.map fun b => (s.bank b).ahead.length).min?.getD 0) |||
      F.welt_LIVE_SECT.put ((s.liveWordsOf (standing w.log) + 509) / 510)
  else if k = 4 then F.welt_LOAD_1H.put (w.loadSum 3600 / 3600) ||| F.welt_LOAD_60S.put (w.loadSum 60 / 60)
  else if k = 6 then F.welt_OUTSTANDING.put s.jobs.table.length ||| F.welt_DOUBT.put s.doubtful
  else F.welt_ERASE_MAX.put (s.poolErases.max?.getD 0) ||| F.welt_ERASE_MIN.put (s.poolErases.min?.getD 0)

/-- The lookup block (R187). -/
def Lookup.word (l : Lookup) (k : Nat) : Word :=
  if k = 0 then l.key
  else if k = 1 then F.look_BY.put l.byCode ||| F.look_PART.put l.part ||| F.look_FROM.put l.start
  else if k = 2 then
    F.look_STATUS.put l.status ||| F.look_NREC.put l.nrec ||| F.look_MATCHES.put l.matches' ||| F.look_WORDS.put l.window.length
  else if k = 3 then l.jobseq
  else if k = 4 then l.href
  else F.look_JSTATE.put l.jstate ||| F.look_ENDED.put l.ended ||| F.look_CANCELLED.put l.cancelled ||| F.look_OPEN_GATES.put l.openGates

/-- The gate list (R188). -/
def gateWordOf (g : Option Gate) (k : Nat) : Word :=
  match g with
  | none => 0
  | some g =>
    if k = 0 then g.job
    else if k = 1 then
      field 35 24 g.idx ||| field 23 19 g.lane ||| field 18 16 (if g.doubt then 2 else 1) ||| field 15 12 g.source |||
        field 11 8 g.hint ||| field 7 0 g.srcidx
    else if k = 2 then g.href
    else g.armseq

/-- The pin codes of nine balls (R531). -/
def Sec.pinWord (q : Sec) (w : Nat) : Word :=
  (List.range 9).foldl (fun v j =>
    match q.codes.find? fun c => c.1 = 9 * w + j with
    | some c => v ||| field (4 * j + 3) (4 * j) c.2
    | none => v) 0

/-- VERSION of a slot's image: word 5 of its header; zero when EMPTY or INVALID (R537, R540). -/
def Slot.version (q : Slot) : Word := if q.st ≤ 1 then 0 else q.hdr.getD 2 0

/-- The image update object (R540). -/
def Sec.imageWord (q : Sec) (k : Nat) : Word :=
  let a := at' q.slots 0
  let b := at' q.slots 1
  if k = 2 then
    F.img_TSTATE.put q.upd.tstate ||| F.img_OWNER.put q.upd.owner ||| F.img_RESULT.put q.upd.result ||| F.img_TAKEN.put q.upd.words.length
  else if k = 3 then a.version
  else if k = 4 then b.version
  else if k = 5 then
    F.img_ST_A.put a.st ||| F.img_ST_B.put b.st ||| F.img_RUN.put q.run |||
      F.img_SV_A.put (if a.st ≤ 1 then 0 else hdrSecver a.hdr) ||| F.img_SV_B.put (if b.st ≤ 1 then 0 else hdrSecver b.hdr)
  else if k = 6 then (at' q.slots q.run).seq
  else 0

/-- Key slot attributes and key status (R543). -/
def State.keyWord (s : State) (k : Nat) : Word :=
  if k < 8 then s.otp (0x18 + k)
  else
    F.key_USABLE.put (maskOf 8 fun i => s.slotUsable i) ||| F.key_BADKEY.put (maskOf 8 fun i => at' s.sec.badKey i) |||
      F.key_CLEARED.putB s.sec.cleared

/-- The OTP program object (R544). -/
def Otp.word (o : Otp) (k : Nat) : Word :=
  if k = 0xA then F.otp_OSTATE.put o.ostate ||| F.otp_FWORD.put o.fword ||| F.otp_OTP_TR.put o.otpTr ||| F.otp_RD_TR.put o.rdTr else 0

/-- The asset directory (R193). -/
def State.dirWord (s : State) (e k : Nat) : Word :=
  let d := s.dirEntry e
  if k = 0 then
    F.dir_STATE.put d.st.code ||| F.dir_KIND.put d.kind ||| F.dir_PLACE.put d.place ||| F.dir_OWNER.put d.owner |||
      F.dir_RESULT.put d.result ||| F.dir_GEN.put d.gen
  else if k = 1 then F.dir_SIZE.put d.size
  else if k = 2 then F.dir_CRC.put d.crc
  else if k = 3 then F.dir_JOBS.put (s.jobsOf e) ||| F.dir_OFFSET0.put d.off0
  else if k = 4 then F.dir_DEPS.put (s.depsOf e) ||| F.dir_OFFSET1.put d.off1
  else if k = 5 then d.label
  else 0

/-- The descriptor in force in version 2 form (R225, R227). -/
def Desc.word (d : Desc) (k : Nat) : Word :=
  let bs (b : Nat) : Nat := if b ≤ d.nblock then d.bstart.getD b 0 else 0
  if k = 0 then
    F.hd_VER.put 2 ||| F.hd_DOTS.put d.dots ||| F.hd_PITCH.put d.pitch ||| F.hd_LANES.put d.lanes ||| F.hd_MAP.put d.map |||
      F.hd_DIR.put d.dir ||| F.hd_HSCK_N.put d.hsckN
  else if k = 1 then
    F.hd_NBLOCK.put d.nblock ||| F.hd_SLICES.put d.slices ||| F.hd_LAT_W.put d.latW ||| F.hd_STB_POL.put d.stbPol |||
      F.hd_LAT_POL.put d.latPol ||| F.hd_CLK_EDGE.put d.clkEdge
  else if k < 0xA then field 28 16 (bs (2 * (k - 2) + 1)) ||| field 12 0 (bs (2 * (k - 2) + 2))
  else if k = 0xA then F.hd_STB_MAP_LO.put d.mapLo
  else if k = 0xB then F.hd_STB_MAP_HI.put d.mapHi
  else if k = 0xC then F.hd_RDOT.put d.rdot ||| F.hd_TH_FIT.put d.thFit
  else if k = 0xD then F.hd_TH_NOM.put d.thNom ||| F.hd_TH_BETA.put d.thBeta
  else if k = 0xE then F.hd_LINE_MAX.put d.lineMax ||| F.hd_STB_MAX.put d.stbMax ||| F.hd_DUTY_MAX.put d.dutyMax
  else F.hd_VH_MIN.put d.vhMin ||| F.hd_VH_MAX.put d.vhMax ||| F.hd_TMAX.put d.tmax ||| F.hd_VH_SETTLE.put d.vhSettle

/-- A descriptor in force as its words show it: version 2 words with their reserved bits zero, those of H + 0x29 too
(R225, i = 7), BSTART above NBLOCK as written (R227). -/
def State.descWord (s : State) (x k : Nat) : Word :=
  let w : Word := s.tbl.force.get ((Obj.head x).base + k)
  if (s.desc x).ver = 1 then (s.desc x).word k
  else
    let v := ((hdFields.filter fun f => f.off = k).foldl (fun (m : Word) f => m ||| f.mask) 0) &&& w
    if k = 9 then v - field 12 0 (bits v 12 0) else v

/-- Dots of a head in force in a class (R271, R276). -/
def State.classCount (s : State) (x cls : Nat) : Nat :=
  min 4095 ((List.range (s.desc x).dots).filter fun d => s.cfg (.dot x d) F.dot_CLASS == cls).length

/-- Head status, scan status, pipeline status (R251, R252, R276). -/
def State.headWord (s : State) (x k : Nat) : Word :=
  let h := s.head x
  if 0x20 ≤ k ∧ k < 0x30 then s.descWord x (k - 0x20)
  else if k = 0x30 then
    F.hst_PSTATE.put (s.pstate x) ||| F.hst_COPY.put h.copy ||| F.hst_LINE.put h.line ||| F.hst_PHASE.put (h.line % s.nph x) |||
      F.hst_SLICES.put (s.desc x).slices
  else if k = 0x31 then h.lines
  else if k = 0x32 then h.late
  else if k = 0x33 then F.hst_LATE_MAX.put h.lateMax ||| F.hst_MIN_INT.put h.minInt
  else if k = 0x34 then F.hst_VH_TR.put h.vhTr
  else if k = 0x41 then
    F.hsc_SSTATE.put h.sstate ||| F.hsc_SKIND.put h.skind |||
      F.hsc_NEXT.put (if h.sstate = 0 then 0 else ((s.desc x).scanDot h.scanPos).getD 0) ||| F.hsc_RETRIES.put h.retries
  else if k = 0x42 then h.scanStamp
  else if k = 0x43 then F.hsc_OPEN.put h.scanOpen ||| F.hsc_SHORT.put h.scanShort ||| F.hsc_HIGH.put h.scanHigh
  else if k = 0x44 then F.hsc_VH.put h.scanVh ||| F.hsc_TEMP.putS h.scanTemp ||| F.hsc_TBAND.put h.scanBand
  else if k = 0x300 then
    F.enst_TBAND.put h.tband ||| F.enst_VSTEP.put h.vstep ||| F.enst_SAGCUT.putB h.sagcut ||| F.enst_THROT.putB h.throt |||
      F.enst_WCLAMP.putB h.wclamp
  else if k = 0x301 then h.reloc
  else if k = 0x302 then h.dropped
  else if k = 0x303 then h.sagSkip
  else if k = 0x304 then h.clipped
  else if k = 0x305 then
    F.enst_N_OPEN.put (s.classCount x 2) ||| F.enst_N_SHORT.put (s.classCount x 3) ||| F.enst_N_HIGH.put (s.classCount x 1)
  else 0

/-- Axis and drive status (R306, R358). -/
def State.axisWord (s : State) (n k : Nat) : Word :=
  let a := s.ax n
  if k = 0x10 then wordOfInt a.pos
  else if k = 0x11 then wordOfInt a.target
  else if k = 0x12 then wordOfInt a.remd
  else if k = 0x13 then BitVec.ofNat 36 a.vel
  else if k = 0x14 then
    F.axst_MSTATE.put a.mstate ||| F.axst_SSTATE.put a.sstate ||| F.axst_DIR.putB a.neg ||| F.axst_POS_OK.putB a.posOk |||
      F.axst_HOMED.putB a.homed ||| F.axst_LIM0.putB a.lim0 ||| F.axst_LIM1.putB a.lim1 ||| F.axst_VCLAMP.putB (a.vclamp && a.mode != .rest) |||
      F.axst_UNC_CAUSE.put a.uncCause
  else if k = 0x15 then wordOfInt a.limPos
  else if k = 0x16 then wordOfInt a.homeCorr
  else if k = 0x17 then F.axst_GSTATE.put a.gstate.code ||| F.axst_MSRC.put a.gear.msrc ||| F.axst_MINDEX.put a.gear.mindex
  else if k = 0x18 then wordOfInt a.gear.ratio
  else if k = 0x19 then wordOfInt a.lag
  else if k = 0x1A then a.handover
  else if k = 0x1B then F.axst_HOME_TR.put a.homeTr ||| F.axst_GEAR_TR.put a.gearTr ||| F.axst_CONF_TR.put a.confTr
  else if k = 0x120 then F.drst_ANGLE.put (s.angle n) ||| F.drst_DAC_A.putS (s.dac (2 * n)) ||| F.drst_DAC_B.putS (s.dac (2 * n + 1))
  else if k = 0x121 then F.drst_IMEAS_A.putS a.a1.imeas ||| F.drst_IMEAS_B.putS a.b1.imeas ||| F.drst_VAMP.put a.vamp
  else if k = 0x122 then
    F.drst_BSTATE_A.put (s.bstate (2 * n)) ||| F.drst_BSTATE_B.put (s.bstate (2 * n + 1)) ||| F.drst_FCAUSE_A.put a.a1.fcause |||
      F.drst_FCAUSE_B.put a.b1.fcause ||| F.drst_HEADROOM_A.putB a.a1.headroom ||| F.drst_HEADROOM_B.putB a.b1.headroom |||
      F.drst_STALL_OK.putB a.stallOk ||| F.drst_AOFS.put a.aofs
  else if k = 0x123 then F.drst_LAMBDA.putS a.lambda ||| F.drst_MARGIN_MIN.putS a.marginMin
  else if k = 0x124 then F.drst_OFS_A.putS a.a1.ofs ||| F.drst_OFS_B.putS a.b1.ofs
  else if k = 0x125 then F.drst_OC_TR.put a.ocTr ||| F.drst_GATE_TR.put a.gateTr ||| F.drst_DIAG_TR.put a.diagTr
  else if k = 0x126 then F.drst_STALL_TR.put a.stallTr ||| F.drst_OFS_TR.put a.ofsTr ||| F.drst_HEAD_CNT.put a.headCnt
  else 0

/-- Channel status (R389). -/
def Chan.word (c : Chan) (k : Nat) : Word :=
  if k = 0x10 then
    F.scst_CSTATE.put c.st.code ||| F.scst_SEG.put c.seg ||| F.scst_PROFILE.put c.slot ||| F.scst_FCAUSE.put c.fcause |||
      F.scst_IMEAS.put c.imeas ||| F.scst_DUTY.put c.duty
  else if k = 0x11 then F.scst_CSEG.put c.cseg ||| F.scst_METHOD.putB c.method ||| F.scst_CTIME.put c.ctime
  else if k = 0x12 then c.cstamp
  else if k = 0x13 then F.scst_CPHASE.put c.cphase ||| F.scst_CLOSED_RUN.putB c.closedRun ||| F.scst_PENDING.putB c.start.isSome
  else if k = 0x14 then F.scst_TCOIL.putS c.tcoil ||| F.scst_TMEAS.putS c.tmeas ||| F.scst_HOT.putB c.hot ||| F.scst_WARN.putB c.warn
  else if k = 0x15 then F.scst_THETA1.put (c.theta1 / 2 ^ 24) ||| F.scst_THETA2.put (c.theta2 / 2 ^ 24)
  else if k = 0x16 then F.scst_OC_TR.put c.ocTr ||| F.scst_DIAG_TR.put c.diagTr ||| F.scst_NOCLOSE.put c.noclose
  else if k = 0x17 then F.scst_RUNS.put c.runs ||| F.scst_TCUT.put c.tcut
  else if k = 0x18 then
    F.scst_DRESULT.put c.dresult ||| F.scst_DSTATE.putB c.dstate ||| F.scst_DNH.put c.dnh ||| F.scst_DNL.put c.dnl |||
      F.scst_OFS.putS c.ofs ||| F.scst_OFS_CLAMP.putB c.ofsClamp
  else 0

/-- The words of the shank region that show OTP or state (R415, R424, R427). -/
def State.shankWord (s : State) (k : Nat) : Word :=
  let c (f : Field) (top : Nat) : Word := f.put (s.ceiling f top)
  if k = 0 then F.shk_AX_BRAKE.put (F.shk_AX_BRAKE.get (s.otp 0x17)) ||| F.shk_STOP_DISCH.put (F.shk_STOP_DISCH.get (s.otp 0x17))
  else if k = 1 then c F.shk_PB_CEIL 65535 ||| c F.shk_PS_CEIL 65535
  else if k = 2 then c F.shk_PH_CEIL 65535 ||| c F.shk_WIN_CEIL 255 ||| c F.shk_IREL_CEIL 4095
  else if k = 3 then c F.shk_TONB_CEIL 65535 ||| c F.shk_TONS_CEIL 65535
  else if k = 4 then c F.shk_STB_CEIL 200 ||| c F.shk_DUTY_CEIL 1000 ||| c F.shk_ESAFE_CEIL 4095
  else if k = 5 then c F.shk_TDISCH_CEIL 4095
  else if k = 0x12 then F.shk_E_M.put s.shank.em ||| F.shk_E_S.put s.shank.es
  else if k = 0x13 then F.shk_T_LAST.put s.shank.tLast ||| F.shk_DM_ON.putB s.shank.dmOn ||| F.shk_DS_ON.putB s.shank.dsOn
  else 0

/-- Group status (R423): energy in 0.1 J. -/
def Group.word (q : Group) (k : Nat) : Word :=
  if k = 2 then
    F.grp_E_WIN.put (min 0xFFFFF (q.energy / 10 ^ 12)) ||| F.grp_TRIPS.put q.trips ||| F.grp_CAUSE.put q.cause ||| F.grp_FORCED.putB q.forced
  else if k = 3 then F.grp_ELEM.put q.elem
  else 0

/-- Die sensors, their summary and thresholds (R436, R438). -/
def State.dieWord (s : State) (i : Nat) : Word :=
  F.die_RAW.putS (s.dieRaw i) ||| F.die_CHECKED.putS (at' s.sup.checked i) ||| F.die_BRK.putB (s.tin i).brk

def State.dieSummary (s : State) : Word :=
  F.dsum_NBROKEN.put ((List.range 6).filter fun i => (s.tin i).brk).length ||| F.dsum_DBAND.put s.sup.dband |||
    F.dsum_FAST.putB ((List.range 6).any fun i => (s.tin i).fast) ||| F.dsum_SHUT.putB s.sup.shut ||| F.dsum_ESCAL.putB s.sup.escal |||
    F.dsum_BRK_TR.put s.sup.brkTr

def State.dieThresholds (s : State) (k : Nat) : Word :=
  if k = 9 then
    F.dth_WARN_T.put s.warnT.toNat ||| F.dth_THROT_T.put s.throtT.toNat ||| F.dth_SHUT_T.put s.shutT.toNat
  else if k = 0xA then
    F.dth_WARN_H.put 5 ||| F.dth_THROT_H.put 5 ||| F.dth_SHUT_H.put 20 ||| F.dth_DB1.put 40 ||| F.dth_DB2.put 90
  else 0

/-- Head thermistors (R443). -/
def State.headTherm (s : State) (x k : Nat) : Word :=
  let a := s.tin (6 + 2 * x)
  let b := s.tin (7 + 2 * x)
  if k = 1 then F.hth_T0.putS a.shown ||| F.hth_T1.putS b.shown ||| F.hth_BRK0.putB a.brk ||| F.hth_BRK1.putB b.brk
  else if k = 2 then
    F.hth_THEAD.putS (at' s.sup.thead x) ||| F.hth_HZONE.put (at' s.sup.hzone x) ||| F.hth_HFAST.putB (a.fast || b.fast)
  else 0

/-- NTC inputs (R444). -/
def State.ntcWord (s : State) (j k : Nat) : Word :=
  let t := s.tin (10 + j)
  if k = 3 then F.ntc_TNTC.putS (if s.cfgB (.ntc j) F.ntc_EN then t.shown else 0) ||| F.ntc_HOT.putB (at' s.sup.hot j) ||| F.ntc_BRK.putB t.brk ||| F.ntc_NFAST.putB t.fast else 0

/-- Encoders (R395). -/
def Enc.word (e : Enc) (k : Nat) : Word :=
  if k = 8 then e.cnt
  else if k = 9 then e.cnt - e.zofs
  else if k = 10 then e.q
  else if k = 11 then e.idxCap
  else if k = 12 then e.idxStamp
  else if k = 13 then
    F.encst_IDX_PH.put e.idxPh ||| F.encst_ARMED.putB e.armed ||| F.encst_FAULT.putB e.fault ||| F.encst_FCODE.put e.fcode |||
      F.encst_QERR_TR.put e.qerrTr ||| F.encst_BREAKS.put e.breaks.toNat
  else 0

/-- SSI ports (R402). -/
def Ssi.word (q : Ssi) (k : Nat) : Word :=
  if k = 8 then q.raw
  else if k = 9 then q.q
  else if k = 10 then
    F.ssist_SSTATE.put q.sstate ||| F.ssist_FCODE.put q.fcode ||| F.ssist_SSI_TR.put q.ssiTr ||| F.ssist_SKIPS.put q.skips |||
      F.ssist_STATBITS.put q.statbits
  else if k = 11 then q.rstamp
  else 0

/-- Pulse counters (R406). -/
def Cnt.word (c : Cnt) (k : Nat) : Word :=
  if k = 1 then c.count
  else if k = 2 then c.last
  else if k = 3 then F.cnt_PERIOD.put c.period ||| F.cnt_LEVEL.putB c.level
  else 0

/-- Probes (R407): words 9..12 show the capture last taken. -/
def Prb.word (q : Prb) (k : Nat) : Word :=
  if k = 2 then F.prb_ARMED.putB q.armed ||| F.prb_LEVEL.put q.queue.length ||| F.prb_OVF.put q.ovf
  else match q.shown with
  | none => 0
  | some c =>
    if k = 9 then
      F.prb_PH.put c.ph ||| F.prb_RISE.putB c.rise ||| F.prb_VA.putB c.cntA.isSome ||| F.prb_VB.putB c.cntB.isSome |||
        F.prb_VX.putB c.posX.isSome
    else if k = 10 then c.cntA.getD 0
    else if k = 11 then c.cntB.getD 0
    else if k = 12 then c.posX.getD 0
    else 0

/-- A limit input's level before its POL (R410). -/
def State.limLevel (s : State) (n i : Nat) : Bool :=
  let a := s.ax n
  (if i = 0 then a.lim0 else a.lim1) != s.cfgB (.ax n) (if i = 0 then F.ax_POL0 else F.ax_POL1)

/-- Input levels (R410). -/
def State.levelWord (s : State) (k : Nat) : Word :=
  if k = 0 then F.lev_LIM.put (maskOf 24 fun j => s.limLevel (j / 2) (j % 2))
  else if k = 1 then
    F.lev_ENC.put (maskOf 24 fun j =>
      let e := s.enc (j / 3)
      if j % 3 = 0 then e.a else if j % 3 = 1 then e.b else e.i)
  else F.lev_PRB.put (maskOf 4 fun r => (at' s.prbs r).level) ||| F.lev_CNT.put (maskOf 16 fun c => (at' s.cnts c).level)

/-- Media sensors (R285). -/
def Ms.word (m : Ms) (k : Nat) : Word :=
  if k = 8 then F.msst_LEVEL.put m.level ||| F.msst_MSTATE.put m.mstate ||| F.msst_CSTATE.put m.cstate
  else if k = 9 then wordOfInt m.edge
  else if k = 10 then F.msst_PITCH_M.put m.pitch
  else if k = 11 then F.msst_LEN_M.put m.len
  else if k = 12 then F.msst_CAL_TR.put m.calTr ||| F.msst_CAL_FAIL.put m.calFail
  else 0

/-- General sensor inputs (R290). -/
def Sns.word (q : Sns) (k : Nat) : Word :=
  if k = 1 then F.sns_ACTIVE.putB q.active ||| F.sns_BROKEN.putB q.broken ||| F.sns_PRESENT.putB q.present ||| F.sns_COUNT.put q.count
  else if k = 2 then q.last
  else 0

/-- Clicker status (R297). -/
def State.pathWord (s : State) (x k : Nat) : Word :=
  let h := s.head x
  if k = 0x10 then
    F.clkst_CSTATE.put h.cstate ||| F.clkst_AT_HOME.putB (s.atHome x) ||| F.clkst_SW_BROKEN.putB h.swBroken |||
      F.clkst_JAM_TR.put h.jamTr ||| F.clkst_TEND_VALID.putB h.tendValid
  else if k = 0x11 then h.cuts
  else if k = 0x12 then wordOfInt h.tend
  else if k = 0x13 then h.lastCut
  else 0


/-- What the state shows in a word of the table space, beside what the window has stored there. -/
def State.statusWord (s : State) (o : Obj) (k : Nat) : Word :=
  match o with
  | .dev => s.identity k
  | .lst p => (s.port p).counter k
  | .pcnt => s.dev.counter k
  | .lane i => s.laneWord i k
  | .pwr => s.powerWord k
  | .su => s.power.rcd.word k
  | .welt => s.weltWord k
  | .look p => (at' s.welt.lookups p).word k
  | .lookWin p i => (at' s.welt.lookups p).window.getD i 0
  | .gateList e w => gateWordOf (at' s.welt.gates e) w
  | .pinCode w => s.sec.pinWord w
  | .img => s.sec.imageWord k
  | .key => s.keyWord k
  | .otp => s.sec.otp.word k
  | .dir e => s.dirWord e k
  | .head x => s.headWord x k
  | .ax n => s.axisWord n k
  | .sol c => (s.chan c).word k
  | .shk => s.shankWord k
  | .grp g => (s.grp g).word k
  | .die i => s.dieWord i
  | .dsum => s.dieSummary
  | .therm => s.dieThresholds k
  | .hth x => s.headTherm x k
  | .ntc j => s.ntcWord j k
  | .sup m => if k = 1 then F.sup_SAG.putB (at' s.sup.sag m) ||| F.sup_SAGS.put (at' s.sup.sags m) else 0
  | .vgd => flag 35 s.sup.vgdLow ||| field 25 22 (maskOf 4 fun g => at' s.sup.vmLostG g) ||| field 21 18 s.sup.boSrc
  | .enc n => (s.enc n).word k
  | .ssi p => (s.ssi p).word k
  | .cnt c => (at' s.cnts c).word k
  | .prb r => (at' s.prbs r).word k
  | .lev => s.levelWord k
  | .ms n => (at' s.mss n).word k
  | .sns n => (at' s.snss n).word k
  | .path x => s.pathWord x k
  | .asset b w => s.assetWord b w
  | _ => 0

end Sys2Proof.Machine
end

