-- ==== Sys2Proof/Machine/Access.lean ====
section
/-!
DEFINITION. Reads and writes of the direct registers and of the table space through the window (R106..R117, R118..R136),
the event window (R124..R126) and the job window (R138, R140).
-/

namespace Sys2Proof.Machine

/-! ### The job window (R138, R140) -/

/-- The assembler takes a word: its next state, and whether the job closes with it. TOTAL is known once the word after the
JOB_BEGIN header has come; a TOTAL of 0 or 1, a count already passed, closes the job with that word: R138 is silent (DESIGN
CHOICE). -/
def Assembler.take (a : Assembler) (w : Word) : Assembler × Bool :=
  if !a.isOpen || (a.left == 0 && hdrType w == tJobBegin) then
    if hdrType w = tJobBegin then (⟨true, bits w 7 0, [w], hdrLen w, false, a.ser + 1⟩, false) else (a, false)
  else
    let inEnd := if a.left = 0 then hdrType w == tJobEnd else a.inEnd
    let rest := if a.left = 0 then hdrLen w else a.left - 1
    let ws := a.words ++ [w]
    let closes := (inEnd && rest == 0) || bits (ws.getD 1 0) 11 0 ≤ ws.length
    ({ a with words := ws, left := rest, inEnd := inEnd, isOpen := !closes }, closes)

/-- Jobs of a port that are PENDING: closed and not decided, or written and not yet committed (R127, R140). -/
def State.pendingJobs (s : State) (p : Nat) : Nat :=
  (s.jobs.batch.filter fun b => match b.kind with | .job _ => b.port == p | _ => false).length +
    (s.welt.wq.filter fun w => match w.act with | .accept c _ => c.port == p | _ => false).length

/-- A closed job joins the batch of its stitch; a ninth pending one is decided at once (R140). -/
def State.closeJob (s : State) (p : Nat) (a : Assembler) : State :=
  if 8 ≤ s.pendingJobs p then s.report p a.ser ⟨8, a.tag, rejectInfo 0 31⟩
  else
    (s.report p a.ser ⟨2, a.tag, 0⟩).batch p
      (.job ⟨p, a.tag, a.words, decide (a.words.length = bits (a.words.getD 1 0) 11 0), a.ser⟩)

/-- A word written to JOB_WIN of port `p`. -/
def State.jobWord (s : State) (p : Nat) (w : Word) : State :=
  let a := (s.port p).asm
  let r := a.take w
  let s := s.onPort p fun q => { q with asm := r.1 }
  if r.2 then s.closeJob p r.1
  else if r.1.ser ≠ a.ser then s.onPort p fun q => { q with jobStat := ⟨1, r.1.tag, 0⟩ }
  else if !a.isOpen then s.onPort p fun q => { q with jobStat := ⟨4, 0, rejectInfo 0 31⟩ }
  else s

/-! ### The event window (R124..R126) -/

/-- The event port `p` takes next: the oldest EMERGENCY event due to it and not in flight there, else the oldest other. -/
def State.nextEvent (s : State) (p : Nat) : Option Event :=
  let free := s.ev.entries.filter fun e => e.dueP p && !e.flyP p
  match free.find? fun e => e.cls == 1 with
  | some e => some e
  | none => free.head?

/-- Apply `f` to the events whose ids are listed. -/
def EventQ.onIds (q : EventQ) (ids : List Nat) (f : Event → Event) : EventQ :=
  { q with entries := q.entries.map fun e => if ids.contains e.id then f e else e }

/-- Port `p` has taken the events listed. -/
def State.takeEvents (s : State) (p : Nat) (ids : List Nat) : State :=
  s.onEv fun q => (q.onIds ids fun e => e.take p).free

/-- A read of EVENT_POP. -/
def State.popEvent (s : State) (p : Nat) : Word × State :=
  match (s.port p).popArgs with
  | w :: rest => (w, s.onPort p fun q => { q with popArgs := rest })
  | [] =>
    match s.nextEvent p with
    | some e => (e.word, (s.takeEvents p [e.id]).onPort p fun q => { q with popArgs := e.args })
    | none => (field 19 15 31 ||| field 14 0 s.stamp, s)

/-! ### Reads of the table space -/

/-- The stored asset a word of an asset region belongs to. -/
def State.assetAt (s : State) (b w : Nat) : Option (Nat × DirEntry) :=
  s.assets.dir.find? fun c => c.2.inBank b && c.2.offset b ≤ w && decide (w < c.2.offset b + c.2.size)

/-- What a read of an uncorrectable asset word returns: the other copy's word of a mirrored asset, else zero (R469). -/
def State.otherCopy (s : State) (b w : Nat) : Word :=
  match s.assetAt b w with
  | some (_, d) =>
    let v := d.offset (1 - b) + (w - d.offset b)
    if d.place = 2 ∧ !s.bankOut (1 - b) ∧ !s.assetBad (1 - b) v then s.assetWord (1 - b) v else 0
  | none => 0

/-- Word numbers of a template that carry content bytes (R207): those of TEXT and SYMBOL elements from their word 5 on; `i` is the
number of the first element's first word. -/
def contentWords : List Elem → Nat → List Nat
  | [], _ => []
  | e :: rest, i =>
    (if e.etype = 1 ∨ e.etype = 6 then (List.range (e.length - 5)).map (· + i + 5) else []) ++ contentWords rest (i + e.length)

/-- Bits 35:32 of a byte-stream word of a stored template read as zero (R7). -/
def State.streamMask (s : State) (b w : Nat) (v : Word) : Word :=
  match s.assetAt b w with
  | some (e, d) =>
    let t := s.template e
    let first := d.size - (t.elems.map List.length).sum
    if d.kind = 3 ∧ (contentWords t.elems first).contains (w - d.offset b) then field 31 0 (bits v 31 0) else v
  | none => v

/-- The word of an address, its access code seen to; nothing is taken or advanced. A V or VGD reading, and a word of a bank
out of service, is a free value: the spec states none. -/
def State.tableWord (s : State) (o : Obj) (k : Nat) : Word × State :=
  let a := o.base + k
  let held := s.tbl.shadow.get a ||| s.statusWord o k
  let r := s.takeFresh
  match o with
  | .prb n => if k = 8 then s.probeRead n else (held, s)
  | .sup _ => if k = 1 ∧ s.sup.sampled then (held ||| F.sup_V.put (Config.freeNat r.1), r.2) else (held, s)
  | .vgd => if s.sup.sampled then (held ||| field 34 26 (Config.freeNat r.1), r.2) else (held, s)
  | .asset b w =>
    if s.bankOut b then (Config.freeWord r.1, r.2)
    else (s.streamMask b w (if s.assetBad b w then s.otherCopy b w else held), s)
  | _ => (held, s)

/-- A read through the window; an unmapped address reads as zero and is noted (R108, R115). -/
def State.readTable (s : State) (p a : Nat) : Word × State :=
  match region a with
  | some (o, k) => if mapped a then s.tableWord o k else (0, s.noteAccess p noteUnmappedRd true)
  | none => (0, s.noteAccess p noteUnmappedRd true)

/-- The address advances after an access of TBL_DATA: under AUTOINC, or always within a TBL_RD or TBL_WR (R78, R111). -/
def State.advance (s : State) (p : Nat) (always : Bool) : State :=
  s.onPort p fun q => if always || q.autoinc then { q with tblAddr := q.tblAddr + 1 } else q

/-- A read of TBL_DATA. -/
def State.readData (s : State) (p : Nat) (always : Bool) : Word × State :=
  let r := s.readTable p (s.port p).tblAddr.toNat
  (r.1, r.2.advance p always)

/-! ### Writes to the table space -/

/-- Objects whose writes a revision 1 port is refused (R117). -/
def rev1Refused (a : Nat) : Bool :=
  (0x20000 ≤ a && a < 0x30000) || (0x41800 ≤ a && a < 0x43000) || (0x80800 ≤ a && a < 0x82000) || (0xC0000 ≤ a && a < 0xC1000) ||
    (0xD0000 ≤ a && a < 0xD1000)

/-- The stored bits of an address replaced by those of `w` (R13). -/
def mergeStored (a : Nat) (old w : Word) : Word := (old &&& ~~~ storedMask a) ||| (w &&& storedMask a)

/-- A write to a shadowed word: taken into the shadow copy whatever its value, but for a binding that breaks R24 (R113,
R249) and a revision 1 descriptor of another version (R230). -/
def State.writeShadow (s : State) (p a : Nat) (w : Word) : State × Nat :=
  let sh := s.tbl.shadow
  let new := mergeStored a (sh.get a) w
  if (s.port p).rev = 1 ∧ a = 0x10000 ∧ bits w 35 32 ≠ 1 then (s, rcRevision)
  else if a = bindingAddr 0 && bindingBroken new (sh.get (bindingAddr 1)) then (s, rcBinding)
  else if a = bindingAddr 1 && bindingBroken new (sh.get (bindingAddr 0)) then (s, rcBinding)
  else
    (({ s with tbl := { s.tbl with shadow := sh.set a new } } : State).onPort p fun q =>
      { q with pend := if q.pend.contains a then q.pend else q.pend ++ [a] }, 0)

/-- A write to the RW fields of a word that is not shadowed: in range, or refused whole. -/
def State.writePlain (s : State) (a : Nat) (w : Word) : State × Nat :=
  if (wordFields a).any fun f => f.acc == .rw && !f.ok w then (s, rcRange)
  else (s.setWord a (mergeStored a (s.tbl.force.get a) w), 0)

/-- A write to OT fields is ignored, and noted where it differs from the value held (R12, R115). -/
def State.writeOt (s : State) (p : Nat) (tbl : Bool) (held mask w : Word) : State × Nat :=
  (if w &&& mask = held &&& mask then s else s.noteAccess p noteIgnOt tbl, 0)

/-- The OT bits of an address. -/
def otMask (a : Nat) : Word := (wordFields a).foldl (fun m f => if f.acc = .ot then m ||| f.mask else m) 0

/-- A write to a lane word (R148). -/
def State.writeLaneWord (s : State) (i k : Nat) (w : Word) : State × Nat :=
  if k = 0 then
    if 1 < bits w 1 0 then (s, rcRange) else s.writePlain (0x400 + 4 * i) w
  else if k = 2 then
    match bits w 35 33 with
    | 0 => (s, 0)
    | 1 => (s.askStop (if bits w 18 0 = 0 then 2 ^ i else bits w 18 0), 0)
    | _ => (s, rcRange)
  else (s, 0)

/-- A write to a power word (R506). -/
def State.writePower (s : State) (k : Nat) (w : Word) : State × Nat :=
  let r := s.writePlain (0x1000 + k) w
  if r.2 ≠ 0 then (s, r.2)
  else if k = 0x20 ∧ F.pwr_GO_OFF.get w = 1 then r.1.writeGoOff
  else r

/-- A write to the welt status (R186). -/
def State.writeWelt (s : State) (k : Nat) (w : Word) : State × Nat :=
  if k = 0 then s.writePlain 0x2000 w
  else if k = 5 then
    (s.onWelt fun q => { q with loadOver := q.loadOver && !bit w 1, burstOver := q.burstOver && !bit w 0 }, 0)
  else (s, 0)

/-- A write to a lookup block (R187). -/
def State.writeLookup (s : State) (b k : Nat) (w : Word) : State × Nat :=
  let put (f : Lookup → Lookup) : State := s.onWelt fun q => { q with lookups := upd q.lookups b f }
  if k = 0 then (put fun l => { l with key := w }, 0)
  else if k = 1 then
    let code := F.look_BY.get w
    if (code ≠ 1 ∧ code ≠ 2) ∨ 1 < F.look_PART.get w then (s, rcRange)
    else if F.look_GO.get w = 1 ∧ (at' s.welt.lookups b).status = 1 then (s, rcBusy)
    else
      let t := put fun l => { l with byCode := code, part := F.look_PART.get w, start := F.look_FROM.get w }
      if F.look_GO.get w = 1 then t.lookupStart b else (t, 0)
  else (s, 0)

/-- A write of the image object's OP (R541, R542). -/
def State.imageCmd (s : State) (p : Nat) (w : Word) : State × Nat :=
  match F.img_OP.get w with
  | 1 => s.imageBegin p (F.img_CLEN.get w)
  | 2 => s.activate
  | 3 => s.imageConfirm
  | 4 => s.imageAbort p
  | _ => (s, rcRange)

/-- A write to the OTP object (R544): key words are byte streams, whose bits 35:32 are ignored (R7). -/
def State.writeOtp (s : State) (p k : Nat) (w : Word) : State × Nat :=
  if k < 8 then (s.onOtp fun o => { o with kstage := upd o.kstage k fun _ => w &&& fieldMask 31 0 }, 0)
  else if k = 8 then s.otpOp p w
  else if k = 9 then (s.onOtp fun o => { o with value := w }, 0)
  else (s, 0)

/-- A write to a directory entry (R193, R194). -/
def State.writeDir (s : State) (p e k : Nat) (w : Word) : State × Nat :=
  let d := s.dirEntry e
  if k = 2 then if d.st = .free then (s.setDir e { d with crc := F.dir_CRC.get w }, 0) else (s, rcState)
  else if k = 5 then if d.st = .free then (s.setDir e { d with label := w }, 0) else (s, rcState)
  else if k = 6 then s.assetOp p e w
  else if k = 7 then s.assetPort p e w
  else (s, 0)

/-- A write to the scan control word (R252). -/
def State.writeScan (s : State) (x : Nat) (w : Word) : State × Nat :=
  let r := s.writePlain (0x10000 * (x + 1) + 0x40) w
  if r.2 ≠ 0 then r else if F.hsc_ABANDON.get w = 1 then (r.1.scanAbandon x, 0) else r

/-- Command words of encoders, SSI ports and probes (R394, R401, R407). -/
def State.encCmd (s : State) (n : Nat) (w : Word) : State :=
  let s := if bit w 35 then s.encArm n else s
  let s := if bit w 34 then s.encZero n else s
  if bit w 33 then s.encClr n else s

def State.prbCmd (s : State) (r : Nat) (w : Word) : State :=
  let s := if bit w 35 then s.onPrb r fun q => { q with armed := true } else s
  let s := if bit w 34 then s.onPrb r fun q => { q with armed := false } else s
  if bit w 33 then s.onPrb r fun q => { q with queue := [] } else s

/-- A write to a word of an object that is not shadowed. -/
def State.writeObject (s : State) (p : Nat) (o : Obj) (k : Nat) (w : Word) : State × Nat :=
  let a := o.base + k
  match o with
  | .dev => s.writeOt p true (s.identity k) (otMask a) w
  | .gov => s.writePlain a w
  | .lane i => s.writeLaneWord i k w
  | .pwr => if k < 0x10 ∨ k = 0x21 then (s, 0) else s.writePower k w
  | .welt => s.writeWelt k w
  | .look b => s.writeLookup b k w
  | .img => if k = 0 then s.imageCmd p w else if k = 1 then s.imagePort p w else (s, 0)
  | .key => if k < 8 then s.writeOt p true (s.keyWord k) (otMask a) w else (s, 0)
  | .otp => s.writeOtp p k w
  | .dir e => s.writeDir p e k w
  | .head x => if k = 0x40 then s.writeScan x w else (s, 0)
  | .shk =>
    if k = 8 then s.writeShankCtl w
    else if k = 0x10 ∨ k = 0x11 then s.writeLimit p a w
    else if k < 6 then s.writeOt p true (s.shankWord k) (otMask a) w
    else (s, 0)
  | .grp g =>
    if k < 2 then s.writeLimit p a w
    else if k = 3 ∧ F.grp_GREL.get w = 1 then s.writeGrel g
    else (s, 0)
  | .enc n => if k = 7 then (s.encCmd n w, 0) else (s, 0)
  | .ssi n => if k = 7 ∧ F.ssi_CLR.get w = 1 then (s.ssiClr n, 0) else (s, 0)
  | .prb r => if k = 7 then (s.prbCmd r w, 0) else (s, 0)
  | _ => (s, 0)

/-- A write through the window: the state and the RCODE, zero for none. -/
def State.writeTable (s : State) (p a : Nat) (w : Word) : State × Nat :=
  if 0x400000 ≤ a ∧ a < 0x5F8000 then (s, rcReadonly)
  else match region a with
  | none => (s, rcUnmapped)
  | some (o, k) =>
    if !mapped a then (s, rcUnmapped)
    else if (s.port p).rev = 1 ∧ rev1Refused a then (s, rcRevision)
    else if shadowed (o.base + k) then s.writeShadow p (o.base + k) w
    else s.writeObject p o k w

/-- A write of TBL_DATA: the address advances even where the write is refused (R111). -/
def State.writeData (s : State) (p : Nat) (always : Bool) (w : Word) : State × Nat :=
  let r := s.writeTable p (s.port p).tblAddr.toNat w
  ((if r.2 = 0 then r.1 else r.1.refuse p r.2 true).advance p always, r.2)

/-! ### Direct registers -/

/-- Fields of a port's link registers and statistics zeroed by CLR_STATS (R105). -/
def Port.clearStats (q : Port) : Port :=
  { q with crcErr := 0, fmtErr := 0, retxOk := 0, resync := 0, fallbacks := 0, stray := 0, noise := 0 }

/-- ALERT_N and LINK_PEND of a fallback, at once (R92 step 1). -/
def State.fallAlert (s : State) : State := s.onDev fun d => { d with linkPend := true }

/-- A port falls back (R92): ALERT_N, divider 40, HUNT; the sequenced frames waiting are kept, a frame being received is
discarded (R501). -/
def State.fallBack (s : State) (p : Nat) : State :=
  let s := s.fallAlert.onPort p fun q =>
    { q with st := .hunt, div := 40, newDiv := none, syncSent := 0, fbPend := none, fallen := true, fellBack := true,
             fallbacks := q.fallbacks + 1, held := [], upOnAck := false, rxRing := [], rxFifo := [] }
  s.raise 11 3 31 [BitVec.ofNat 36 p]

/-- A write of LINK_CTL (R103); `rsp` is the frame that carries it, whose RSP a commanded fallback lets finish (R92). -/
def State.writeLinkCtl (s : State) (p : Nat) (rsp : Option (Bool × Nat × Nat)) (w : Word) : State × Nat :=
  if bits w 23 16 = 0 ∨ bits w 15 8 = 0 then (s, rcRange)
  else if bit w 3 ∧ (s.port p).rev = 1 then (s, rcRevision)
  else
    let t := s.onPort p fun q =>
      let q := { q with errLimit := bits w 23 16, errWin := bits w 15 8, evtStream := bit w 3 }
      let q := if bit w 2 then q.clearStats else q
      if bit w 1 then { q with fbPend := rsp.map fun r => (r.1, r.2.1) } else q
    (if !bit w 1 then t else if rsp.isNone then t.fallBack p else t.fallAlert, 0)

/-- CLR_CNT (R120, R121). -/
def State.clearCounts (s : State) : State :=
  s.onDev fun d =>
    { d with missed := 0, missedAll := 0, coreTr := Vector.replicate 2 0, sramTr := Vector.replicate 2 0,
             flashTr := Vector.replicate 2 0, fabricTr := 0 }

/-- A write of DEV_STAT. -/
def State.writeDevStat (s : State) (w : Word) : State :=
  let s := if bit w 20 then s.onDev fun d => { d with transient := false } else s
  if bit w 19 then s.clearCounts else s

/-- A write of ALERT_CTL: a pending bit whose cause persists sets again at once (R96, R97). -/
def State.writeAlert (s : State) (w : Word) : State :=
  let emerg := s.ev.entries.any fun e => e.cls == 1 && e.due
  let link := s.ports.any fun q => q.fallen && q.st == .hunt
  s.onDev fun d =>
    { d with host1First := bit w 24, classMask := BitVec.ofNat 16 (bits w 23 8), linkPend := if bit w 3 then link else d.linkPend,
             evtPend := d.evtPend && !bit w 2, emergPend := if bit w 1 then emerg else d.emergPend }

/-- A write of TBL_CTL (R112). -/
def State.writeTblCtl (s : State) (p : Nat) (w : Word) : State × Nat :=
  let clear (s : State) : State := s.onPort p fun q =>
    { q with autoinc := bit w 0, refusedBit := q.refusedBit && !bit w 26, notedBit := q.notedBit && !bit w 25 }
  if bit w 7 ∧ bit w 6 then (s, rcRange)
  else if bit w 7 then
    let r := s.commit p
    if r.2 = 0 then (clear r.1, 0) else (s, r.2)
  else if bit w 6 then (clear (s.discard p), 0)
  else (clear s, 0)

/-- A level of the governor within 0x100..0x400 (R53). -/
def levelOk (v : Nat) : Bool := 0x100 ≤ v && v ≤ 0x400

/-- Writes of STITCH_CTL and STITCH_STRETCH (R51, R52, R53). -/
def State.writeStitchCtl (s : State) (w : Word) : State × Nat :=
  if !levelOk (bits w 26 16) ∨ 8 < bits w 15 12 then (s, rcRange)
  else (s.onStitch fun g =>
    { g with kMax := bits w 26 16, slew := bits w 15 12, ovrEn := bit w 3, thermEn := bit w 2, sagEn := bit w 1 }, 0)

def State.writeStretch (s : State) (w : Word) : State × Nat :=
  if !levelOk (bits w 29 19) then (s, rcRange)
  else (s.onStitch fun g => { g with kHost := bits w 29 19, ovrSeen := g.ovrSeen && !bit w 35, atMax := g.atMax && !bit w 34 }, 0)

/-- A write of SHANK_STAT: its W1C bits (R131). -/
def Shank.clearStat (k : Shank) (w : Word) : Shank :=
  { k with stopped := k.stopped && !bit w 29, energyTrip := k.energyTrip && !bit w 28, releaseTrip := k.releaseTrip && !bit w 27,
           interlockTrip := k.interlockTrip && !bit w 26, headTrip := k.headTrip && !bit w 25, dischFail := k.dischFail && !bit w 24,
           tripLanes := maskOf 19 fun i => k.tripLanes.testBit i && !bit w i }

/-- Where the first write of SHANK_LOCK.LOCK is kept: beyond the table space. -/
def lockKey : Nat × Nat := (0x1000019, 0)

/-- A write of SHANK_LOCK: LOCK takes its first write, CEIL_FUSED is OTP (R12, R131). -/
def State.writeLock (s : State) (p : Nat) (w : Word) : State :=
  let s := (s.writeOt p false (flag 1 s.ceilFused) (flag 1 true) w).1
  if s.tbl.wlDone.contains lockKey then if bit w 0 = s.shank.locked then s else s.noteAccess p noteIgnWl false
  else ({ s with tbl := { s.tbl with wlDone := lockKey :: s.tbl.wlDone } } : State).onShank fun k => { k with locked := bit w 0 }

/-- A write of THERM_STAT (R132). -/
def State.writeTherm (s : State) (w : Word) : State :=
  s.onSup fun u => { u with warnSeen := u.warnSeen && !bit w 11, throtSeen := u.throtSeen && !bit w 10, broken := u.broken && !bit w 9 }

/-- A write of FLASH_CTL: refused whole where SCRUB_H is zero, or SAVE or SCRUB_NOW is refused (R116, R133). -/
def State.writeFlashCtl (s : State) (w : Word) : State × Nat :=
  let now := if bit w 1 then s.writeScrubNow.2 else 0
  let save := if bit w 0 then s.writeSave.2 else 0
  if bits w 23 16 = 0 then (s, rcRange)
  else if save ≠ 0 then (s, save)
  else if now ≠ 0 then (s, now)
  else
    let s := if bit w 1 then s.writeScrubNow.1 else s
    let s := if bit w 0 then s.writeSave.1 else s
    (s.onFlash fun f => { f with scrubH := bits w 23 16, scrubEn := bit w 2 }, 0)

/-- A write of FLASH_STAT (R133). -/
def FlashCtl.clearStat (f : FlashCtl) (w : Word) : FlashCtl :=
  { f with wearWarn := f.wearWarn && !bit w 8, corr := f.corr && !bit w 7, uncorr := f.uncorr && !bit w 6,
           progFault := f.progFault && !bit w 5 }

/-- A write of AUXn_STAT (R135). -/
def Aux.clearStat (a : Aux) (w : Word) : Aux :=
  { a with noise := a.noise && !bit w 7, ferr := a.ferr && !bit w 6, perr := a.perr && !bit w 5, ovr := a.ovr && !bit w 4 }

/-- A write of BIST_CTL (R136). -/
def State.writeBist (s : State) (w : Word) : State × Nat :=
  if 4 < bits w 7 4 then (s, rcRange)
  else if bit w 0 then s.startBist (bits w 7 4)
  else (s.onSec fun q => { q with bistTest := bits w 7 4 }, 0)

/-- What a write of a direct register answers: the state, the RCODE of a refusal, whether its response waits. -/
structure Written where
  s : State
  rc : Nat
  waits : Bool

/-- An answer that does not wait. -/
def Written.ofPair (r : State × Nat) : Written := ⟨r.1, r.2, false⟩

/-- A write of PROT_LEVEL: a write with another PL than the one held is noted where it completes (R115, R134). -/
def State.writeProtLevel (s : State) (p : Nat) (rsp : Option (Bool × Nat × Nat)) (w : Word) : Written :=
  match s.writeProt p (bits w 35 24) (bits w 1 0) rsp with
  | .done t => ⟨(t.writeOt p false (field 3 2 s.protLevel) (fieldMask 3 2) w).1, 0, false⟩
  | .wait t => ⟨(t.writeOt p false (field 3 2 s.protLevel) (fieldMask 3 2) w).1, 0, true⟩
  | .refused rc => ⟨s, rc, false⟩

/-- A write of an AUX register: CTL, STAT, TX, RX (R135). -/
def State.writeAux (s : State) (k off : Nat) (w : Word) : State × Nat :=
  if off = 0 then s.writeAuxCtl k w
  else if off = 1 then (s.onAux k fun a => a.clearStat w, 0)
  else if off = 2 then s.writeAuxTx k (bits w 8 0)
  else (s, 0)

/-- A write of direct register `r` by port `p` (R106); `rsp` is the frame whose response waits for a deferred write. -/
def State.writeDirect (s : State) (p r : Nat) (w : Word) (rsp : Option (Bool × Nat × Nat)) : Written :=
  let done (t : State) : Written := ⟨t, 0, false⟩
  match r with
  | 0x01 => .ofPair (s.writeOt p false s.caps (fieldMask 35 34) w)
  | 0x02 => .ofPair (s.writeLinkCtl p rsp w)
  | 0x03 => done (s.onPort p fun q =>
      { q with fellBack := q.fellBack && !bit w 3, resynced := q.resynced && !bit w 2, noiseSeen := q.noiseSeen && !bit w 1 })
  | 0x04 => done (s.writeDevStat w)
  | 0x06 => done (s.onPort p fun q => { q with classEn := BitVec.ofNat 16 (bits w 15 0) &&& 0x7FFC ||| 2 })
  | 0x07 => done (s.writeAlert w)
  | 0x08 => done (s.jobWord p w)
  | 0x0C => done (s.onPort p fun q => { q with tblAddr := BitVec.ofNat 24 (bits w 23 0) })
  | 0x0D => .ofPair (s.writeData p false w)
  | 0x0E => .ofPair (s.writeTblCtl p w)
  | 0x10 => .ofPair (s.writeStitchCtl w)
  | 0x11 => .ofPair (s.writePeriod w)
  | 0x12 => .ofPair (s.writeStretch w)
  | 0x14 =>
    let t := s.laneOwn p (bits w 35 34) (bits w 18 0) rsp
    ⟨t.1, t.2, t.2 == 0 && (bits w 35 34 == 1 || bits w 35 34 == 2)⟩
  | 0x18 => done (s.onShank fun k => k.clearStat w)
  | 0x19 => done (s.writeLock p w)
  | 0x1A => done (s.writeTherm w)
  | 0x1B => done (s.onSup fun u => { u with sagSeen := u.sagSeen && !bit w 2 })
  | 0x1C => .ofPair (s.writeFlashCtl w)
  | 0x1D => done (s.onFlash fun f => f.clearStat w)
  | 0x1E => s.writeProtLevel p rsp w
  | 0x20 | 0x21 | 0x22 | 0x23 => .ofPair (s.writeAux 0 (r - 0x20) w)
  | 0x24 | 0x25 | 0x26 | 0x27 => .ofPair (s.writeAux 1 (r - 0x24) w)
  | 0x30 => .ofPair (s.writeBist w)
  | 0x3F => done (s.onDev fun d => { d with scratch := w })
  | 0x00 | 0x05 | 0x09 | 0x0A | 0x0B | 0x0F | 0x13 | 0x15 | 0x16 | 0x17 | 0x31 => done s
  | _ => ⟨s, rcUnmapped, false⟩

/-- A write of a direct register with its refusal noted in the port's TBL_CTL (R112). -/
def State.writeReg (s : State) (p r : Nat) (w : Word) (rsp : Option (Bool × Nat × Nat)) : Written :=
  let a := s.writeDirect p r w rsp
  if a.rc = 0 ∨ r = 0x0D then a else { a with s := a.s.refuse p a.rc false }

/-- A read of an AUX register. -/
def State.readAux (s : State) (k off : Nat) : Word × State :=
  if off = 0 then ((s.aux k).ctl, s)
  else if off = 1 then ((s.aux k).stat, s)
  else if off = 2 then (0, s)
  else s.readAuxRx k

/-- The value of a direct register whose read changes nothing. -/
def State.directWord (s : State) (p r : Nat) : Word :=
  let q := s.port p
  match r with
  | 0x00 => devId
  | 0x01 => s.caps
  | 0x02 => q.linkCtl
  | 0x03 => q.linkStat
  | 0x04 => s.devStat
  | 0x06 => field 35 27 (s.pendingFor p) ||| field 26 19 q.lost ||| field 15 0 q.classEn.toNat
  | 0x07 => s.dev.alertCtl
  | 0x09 => q.jobStat.word
  | 0x0A => s.jobs.lastSeq
  | 0x0B => s.fenceStat
  | 0x0C => field 23 0 q.tblAddr.toNat
  | 0x0E => q.tblCtl
  | 0x0F => field 35 27 (s.ev.emergUsed + s.ev.otherUsed) ||| field 26 21 s.ev.emergUsed
  | 0x10 => s.stitch.ctl
  | 0x11 => field 14 0 s.stitch.period
  | 0x12 => s.stretch
  | 0x13 => s.count
  | 0x14 => field 18 0 (maskOf 19 fun i => (s.lane i).owner != 0)
  | 0x15 => s.laneStat
  | 0x16 => field 18 0 (maskOf 19 fun i => (s.lane i).state == .fault)
  | 0x17 => field 18 0 (maskOf 19 fun i => (s.lane i).state == .out || (s.lane i).state == .readmit)
  | 0x18 => s.shank.stat
  | 0x19 => flag 1 s.ceilFused ||| flag 0 s.shank.locked
  | 0x1A => s.thermStat
  | 0x1C => field 23 16 s.flash.scrubH ||| flag 2 s.flash.scrubEn
  | 0x1D => s.flashStat
  | 0x1E => field 3 2 s.protLevel
  | 0x30 => field 7 4 s.sec.bistTest
  | 0x31 => s.sec.bistStat
  | 0x3F => s.dev.scratch
  | _ => 0

/-- A read of direct register `r` by port `p` (R106, R109); VM and VS read zero until the first sample after reset, then free
values (R132). -/
def State.readReg (s : State) (p r : Nat) : Word × State :=
  match r with
  | 0x05 => s.popEvent p
  | 0x0D => s.readData p false
  | 0x1B =>
    let a := s.takeFresh
    let b := a.2.takeFresh
    if s.sup.sampled then (s.sup.stat (Config.freeNat a.1) (Config.freeNat b.1), b.2) else (s.sup.stat 0 0, s)
  | 0x20 | 0x21 | 0x22 | 0x23 => s.readAux 0 (r - 0x20)
  | 0x24 | 0x25 | 0x26 | 0x27 => s.readAux 1 (r - 0x24)
  | _ =>
    if r = 0x1F ∨ (0x28 ≤ r ∧ r < 0x30) ∨ (0x32 ≤ r ∧ r < 0x3F) then (0, s.noteAccess p noteUnmappedRd false)
    else (s.directWord p r, s)

/-- The value a read command returns, kept at its port. -/
def State.returned (r : Word × State) (p : Nat) : State := r.2.onPort p fun q => { q with rdata := r.1 }

/-! ### Meanings -/

/-- REGISTER_WRITE: a write of a direct register outside a frame. -/
def execRegisterWrite (port : Fin 2) (addr : BitVec 6) (value : Word) (s : State) : Host.Outcome State Fault Refusal :=
  .next (s.writeReg port addr.toNat value none).s

/-- EVENT_POP (R124, R126). -/
def execEventPop (port : Fin 2) (s : State) : Host.Outcome State Fault Refusal :=
  .next (State.returned (s.popEvent port) port)

/-- TBL_DATA_READ (R108, R111). -/
def execTblDataRead (port : Fin 2) (s : State) : Host.Outcome State Fault Refusal :=
  .next (State.returned (s.readData port false) port)

/-- TBL_DATA_WRITE (R111..R117). -/
def execTblDataWrite (port : Fin 2) (value : Word) (s : State) : Host.Outcome State Fault Refusal :=
  .next (s.writeData port false value).1

/-- JOB_WIN_WRITE (R138..R140). -/
def execJobWinWrite (port : Fin 2) (word : Word) (s : State) : Host.Outcome State Fault Refusal := .next (s.jobWord port word)

/-- CLR_CNT (R120). -/
def execClrCnt (_port : Fin 2) (s : State) : Host.Outcome State Fault Refusal := .next s.clearCounts

/-- CLR_STATS (R105). -/
def execClrStats (port : Fin 2) (s : State) : Host.Outcome State Fault Refusal := .next (s.onPort port Port.clearStats)

/-- ABANDON (R252); head B's is beyond revision 1 (R117). -/
def execAbandon (port : Fin 2) (head : Fin 2) (s : State) : Host.Outcome State Fault Refusal :=
  answer port true (if head = 1 then s.beyondRev1 port (s.scanAbandon head, 0) else (s.scanAbandon head, 0))

/-- HELD_BACK_EVENT_QUEUE (R125). -/
def execHeldBackEventQueue (s : State) : Host.Outcome State Fault Refusal := .next (State.queueHeld s.ev.store.length s)

/-- EVENT_LOST (R125): for the port alone, once an entry is free. -/
def execEventLost (port : Fin 2) (s : State) : Host.Outcome State Fault Refusal :=
  let n := (s.port port).lost
  if n = 0 ∨ 224 < s.ev.otherUsed + 2 then .next s
  else
    let e : Event := { id := s.ev.nextId, cls := 14, code := 1, lane := 31, stamp := s.stamp, args := [BitVec.ofNat 36 n],
                       due0 := port == 0, due1 := port == 1, fly0 := false, fly1 := false, taken0 := false, taken1 := false,
                       recovery := false }
    .next (((s.onEv fun q => { q with nextId := q.nextId + 1 }).appendEvent e).onPort port fun q => { q with lost := 0 })

end Sys2Proof.Machine
end

