-- ==== Sys2Proof/Machine/Link.lean ====
section
/-!
DEFINITION. The Nelal link of the host ports (R71..R105): bring-up, the sequence spaces, acknowledgement and the second
attempt, SYNC, requests and their responses, events in EVT frames, fallback.
-/

namespace Sys2Proof.Machine

/-! ### Frame types (R75), LSTAT (R77) -/

def tyHelloAck : Nat := 0x02
def tyAck : Nat := 0x03
def tyNak : Nat := 0x04
def tySync : Nat := 0x05
def tySyncAck : Nat := 0x06
def tyRegRd : Nat := 0x10
def tyRegWr : Nat := 0x11
def tyJobWr : Nat := 0x12
def tyTblRd : Nat := 0x13
def tyTblWr : Nat := 0x14
def tyRsp : Nat := 0x20
def tyEvt : Nat := 0x21

def lsDone : Nat := 0
def lsRefused : Nat := 1
def lsUnsupported : Nat := 2
def lsMalformed : Nat := 3

/-- A TYPE that a revision gives the host a sequenced request for (R75). -/
def hostRequest (rev typ : Nat) : Bool :=
  typ == tyRegRd || typ == tyRegWr || (2 ≤ rev && (typ == tyJobWr || typ == tyTblRd || typ == tyTblWr))

/-- Control frames (R75). -/
def isControl (typ : Nat) : Bool := 1 ≤ typ && typ ≤ 6

/-! ### Frames on the wire -/

/-- Put a frame on the wire; while CTS_N is high it waits for it (R98, R496). -/
def Port.emit (q : Port) (f : Frame) : Port :=
  if q.cts then { q with wire := q.wire ++ [f] } else { q with held := q.held ++ [f] }

/-- Frames put on the wire one after the other. -/
def Port.emitAll (q : Port) (fs : List Frame) : Port := fs.foldl Port.emit q

/-- A control frame of the device; its ACKSEQ names the host's NORMAL space, or the EMERGENCY space where EMERG is set. -/
def Port.control (q : Port) (typ : Nat) (emerg : Bool) (payload : List Word) : Port :=
  q.emit ⟨typ, emerg, 0, if emerg then q.eNextRx else q.nextRx, payload, 1, [], none⟩

/-- The word of SYNC and SYNC_ACK (R90). -/
def Port.syncWord (q : Port) : Word := field 15 8 q.eNextRx.toNat ||| field 7 0 q.nextRx.toNat

/-- The transmitter may begin a sequenced frame: UP, flow control open, no divider waiting to be adopted. -/
def Port.maySend (q : Port) : Bool := q.st == .up && q.cts && q.newDiv.isNone

/-- A new sequenced frame of a space leaves: it takes the next SEQ and waits for its acknowledgement (R86). -/
def Port.transmit (q : Port) (f : Frame) : Port :=
  let g := { f with seq := if f.emerg then q.eNextTx else q.nextTx, ackseq := q.nextRx, sends := 1 }
  let q := q.emit g
  if f.emerg then { q with eNextTx := q.eNextTx + 1, eUnacked := q.eUnacked ++ [g] }
  else { q with nextTx := q.nextTx + 1, unacked := q.unacked ++ [g] }

/-- A frame on its next send. -/
def Port.again (q : Port) (f : Frame) : Frame := { f with sends := f.sends + 1, ackseq := q.nextRx }

/-- The unacknowledged frames of a space, but for the first `skip`, are sent once more, in order (R89). -/
def Port.resend (q : Port) (emerg : Bool) (skip : Nat) : Port :=
  let fs := if emerg then q.eUnacked else q.unacked
  let again := (fs.drop skip).map q.again
  let q := q.emitAll again
  if emerg then { q with eUnacked := fs.take skip ++ again } else { q with unacked := fs.take skip ++ again }

/-- Send counts are reset and both spaces sent, the EMERGENCY space first. R90 says so of SYNC; that the counts restart under
CONT too (R85) is a DESIGN CHOICE. -/
def Port.resendAll (q : Port) : Port :=
  let zero (f : Frame) : Frame := { f with sends := 0 }
  (({ q with unacked := q.unacked.map zero, eUnacked := q.eUnacked.map zero } : Port).resend true 0).resend false 0

/-! ### Errors (R91) -/

/-- A link error is counted; until the next in-order frame of a space a gap there is not counted again (R87). At ERR_LIMIT
the port falls back (R92). -/
def State.countError (s : State) (p : Nat) : State :=
  let q := s.port p
  if q.st = .hunt ∨ q.st = .confirm then s
  else
    let t := s.onPort p fun q => 
      { q with buckets := (q.buckets.headD 0 + 1) :: q.buckets.tail, errSince := true, eErrSince := true }
    if q.errLimit ≤ (t.port p).errCnt then t.fallBack p else t

/-- A frame is discarded under R74: counted as a CRC or a format discard, and as a link error. A control frame is in no
sequence space; of its space at most WINDOW frames, or 2, are on their second send (R86, R89). -/
def State.discardFrame (s : State) (p : Nat) (crc ctl emerg : Bool) : State :=
  let s := s.onPort p fun q =>
    let q := if crc then { q with crcErr := q.crcErr + 1 } else { q with fmtErr := q.fmtErr + 1 }
    if q.st = .hunt ∨ q.st = .confirm ∨ ctl then q
    else if emerg then { q with eDiscarded := max q.eDiscarded (min 2 (q.eDiscarded + 1)) }
    else { q with discarded := max q.discarded (min q.window (q.discarded + 1)) }
  s.countError p

/-! ### Acknowledgement (R86, R89) -/

/-- Frames of a space before `seq` are acknowledged: they leave, their events are taken, a transient fault is counted for
those sent a second time. A number beyond the frames sent acknowledges nothing. -/
def State.ackBefore (s : State) (p : Nat) (emerg : Bool) (seq : BitVec 8) : State :=
  let q := s.port p
  let fs := if emerg then q.eUnacked else q.unacked
  match fs with
  | [] => s
  | f :: _ =>
    let n := (seq - f.seq).toNat
    if fs.length < n then s
    else
      let gone := fs.take n
      let again := (gone.filter fun f => 2 ≤ f.sends).length
      let s := s.onPort p fun q =>
        let q := { q with retxOk := q.retxOk + BitVec.ofNat 36 again }
        if emerg then { q with eUnacked := fs.drop n } else { q with unacked := fs.drop n }
      s.takeEvents p (gone.flatMap (·.events))

/-- The frame of a space behind its first `skip` is lost: a second attempt, or SYNC after its second send (R89, R90). -/
def State.secondAttempt (s : State) (p : Nat) (emerg : Bool) (skip : Nat) : State :=
  let q := s.port p
  match (if emerg then q.eUnacked else q.unacked).drop skip with
  | [] => s
  | f :: _ =>
    if 2 ≤ f.sends then
      (s.onPort p fun q => ({ q with st := .sync, syncSent := 1 } : Port).control tySync false [q.syncWord]).raise 11 2 31
        [BitVec.ofNat 36 p]
    else s.onPort p fun q => q.resend emerg skip

/-! ### UP, and a good frame (R84) -/

/-- The port enters UP: LINK_UP from HUNT or CONFIRM, and the frames not acknowledged are sent. -/
def State.enterUp (s : State) (p : Nat) : State :=
  let st := (s.port p).st
  let s := s.onPort p fun q => { q with st := .up, everUp := true, upSinceReset := true, fallen := false, syncSent := 0 }
  let s := if st = .hunt ∨ st = .confirm then s.raise 11 1 31 [BitVec.ofNat 36 p] else s
  s.onPort p Port.resendAll

/-- A frame has passed its CRC: a port in CONFIRM enters UP. -/
def State.heard (s : State) (p : Nat) : State :=
  let s := s.onPort p fun q => { q with wire := [] }
  if (s.port p).st = .confirm then s.enterUp p else s

/-! ### HELLO (R81..R85) -/

/-- What a HELLO asks for, and what is agreed. -/
structure Hello where
  rev : Nat
  window : Nat
  div : Nat
  cont : Bool
  nextRx : BitVec 8

/-- Agreement on a HELLO (R83); `div` is the divider in force. A requested DIV of 0 keeps it, clamped at revision 1 to that
revision's range (DESIGN CHOICE: R81 keeps it, R83 clamps it). -/
def agree (w0 w1 : Word) (div : Nat) (upSince : Bool) : Hello :=
  let top := min (bits w0 7 0) 3
  let rev := if max 1 (bits w0 15 8) ≤ top then top else 0
  let largest := if rev = 1 then 1 else if rev = 2 then 8 else 16
  let asked := bits w1 15 0
  { rev := rev, window := min (max 1 (bits w0 23 16)) largest,
    div := if asked = 0 ∧ rev ≠ 1 then div else min 640 (max (if rev = 1 then 5 else 1) (if asked = 0 then div else asked)),
    cont := bit w1 16 && rev == 3 && upSince, nextRx := BitVec.ofNat 8 (bits w1 31 24) }

/-- Start a link afresh (R85). DESIGN CHOICE: an RSP of the EMERGENCY space is kept with its space; revision 1, which has no
EMERGENCY space, drops its frames and makes their events due again; a commanded fallback whose RSP has not left goes with that
RSP, its alert stays (R92). -/
def State.freshLink (s : State) (p : Nat) (rev : Nat) : State :=
  let q := s.port p
  let lost := if rev = 1 then q.txq ++ q.unacked ++ q.eUnacked ++ q.eTxq else q.txq ++ q.unacked
  let kept := if rev = 1 then [] else (q.eUnacked ++ q.eTxq).map fun f => { f with sends := 0 }
  let s := s.onEv fun e => e.onIds (lost.flatMap (·.events)) fun d => d.setFly p false
  let s := s.onPort p fun q =>
    { q with nextRx := 0, eNextRx := 0, nextTx := 0, eNextTx := 0, unacked := [], eUnacked := [], txq := [], eTxq := kept,
             deferred := [], ownRsp := [], fbPend := none, errSince := false, eErrSince := false, discarded := 0,
             eDiscarded := 0, syncSent := 0, held := q.held.filter (fun f => isControl f.typ), asm := { Assembler.reset with ser := q.asm.ser },
             jobStat := if q.asm.isOpen then ⟨0, 0, 0⟩ else q.jobStat }
  let s := ((s.discard p).imageDropped p)
  let mine := s.assets.dir.filter fun c => (c.2.st == .loading || c.2.st == .repairing) && c.2.owner == p
  mine.foldl (fun s c => s.assetFail c.1 5) s

/-- HELLO_ACK (R82). -/
def State.helloAck (s : State) (p window maxlen rev div : Nat) (cont : Bool) : State :=
  s.onPort p fun q => q.control tyHelloAck false
    [field 23 16 window ||| field 15 8 maxlen ||| field 7 0 rev, flag 16 cont ||| field 15 0 div, devId,
     flag 24 (p == 1) ||| field 23 16 q.eNextRx.toNat |||
       field 15 8 (match q.unacked with | f :: _ => f.seq.toNat | [] => q.nextTx.toNat) ||| field 7 0 q.nextRx.toNat]

/-- HELLO: refused with REV 0, whose other agreed values the spec leaves open, or agreed on. UP is entered when HELLO_ACK is
sent (R84), which CTS_N may hold (R98). -/
def State.hello (s : State) (p : Nat) (w0 w1 : Word) : State :=
  let inConfirm := (s.port p).st == .confirm
  let s := s.heard p
  let s := if inConfirm then s.onPort p fun q => q.control tyAck false [] else s
  let q := s.port p
  let h := agree w0 w1 q.div q.upSinceReset
  if h.rev = 0 then
    let a := s.takeFresh
    let b := a.2.takeFresh
    let c := b.2.takeFresh
    c.2.helloAck p (Config.freeNat a.1) (Config.freeNat b.1) 0 (Config.freeNat c.1) false
  else
    let maxlen := if h.rev = 1 then 32 else 128
    let s := if h.cont then s.ackBefore p false h.nextRx else s.freshLink p h.rev
    let s := (s.onPort p fun q => { q with rev := h.rev, window := h.window, maxlen := maxlen, newDiv := none }).helloAck
      p h.window maxlen h.rev h.div h.cont
    if h.div = q.div then (if q.cts then s.enterUp p else s.onPort p fun q => { q with upOnAck := true })
    else s.onPort p fun q => { q with newDiv := some h.div }

/-- DIVIDER_ADOPT: once HELLO_ACK has gone (R84). -/
def execDividerAdopt (port : Fin 2) (s : State) : Host.Outcome State Fault Refusal :=
  match (s.port port).newDiv with
  | some d =>
    .next (if (s.port port).held.any fun f => f.typ == tyHelloAck then s
      else s.onPort port fun q => { q with div := d, st := .confirm, newDiv := none })
  | none => .next s

/-- CONFIRM_TIMEOUT (R84). -/
def execConfirmTimeout (port : Fin 2) (s : State) : Host.Outcome State Fault Refusal :=
  .next (if (s.port port).st = .confirm then s.onPort port fun q => { q with div := 40, st := .hunt } else s)

/-! ### Control frames -/

/-- The EMERG flag of a frame, ignored at revision 1 (R80). -/
def State.emergOf (s : State) (p : Nat) (emerg : Bool) : Bool := emerg && decide (2 ≤ (s.port p).rev)

/-- ACK (R86); at the start of CONFIRM it is acknowledged (R88). -/
def State.ackFrame (s : State) (p : Nat) (emerg : Bool) (ackseq : BitVec 8) : State :=
  let was := (s.port p).st
  let s := s.heard p
  if was = .hunt then s
  else
    let s := s.ackBefore p (s.emergOf p emerg) ackseq
    if was = .confirm then s.onPort p fun q => q.control tyAck false [] else s

/-- How many unacknowledged frames of a space stand before the one a number names, where it names one. -/
def Port.before (q : Port) (emerg : Bool) (seq : BitVec 8) : Option Nat :=
  match if emerg then q.eUnacked else q.unacked with
  | [] => none
  | f :: more => if (seq - f.seq).toNat ≤ more.length then some (seq - f.seq).toNat else none

/-- NAK (R89): the frame named and those behind it go once more. Its ACKSEQ acknowledges the frames before in the NORMAL space;
only an ACK frame acknowledges in the EMERGENCY space (R86). -/
def State.nakFrame (s : State) (p : Nat) (emerg : Bool) (ackseq : BitVec 8) : State :=
  let s := s.heard p
  if (s.port p).st = .hunt then s
  else
    let e := s.emergOf p emerg
    let s := if e then s else s.ackBefore p false ackseq
    match (s.port p).before e ackseq with
    | some k => if (s.port p).st = .up then s.secondAttempt p e k else s
    | none => s

/-- The numbers of a SYNC or SYNC_ACK acknowledge both spaces; send counts restart (R90). -/
def State.syncNumbers (s : State) (p : Nat) (w : Word) : State :=
  ((s.ackBefore p true (BitVec.ofNat 8 (bits w 15 8))).ackBefore p false (BitVec.ofNat 8 (bits w 7 0))).onPort p fun q =>
    { q with discarded := 0, eDiscarded := 0 }

/-- SYNC (R90). -/
def State.syncFrame (s : State) (p : Nat) (w : Word) : State :=
  let s := s.heard p
  if (s.port p).st = .hunt then s
  else
    let s := (s.onPort p fun q => q.control tySyncAck false [q.syncWord]).syncNumbers p w
    if (s.port p).st = .up then s.onPort p Port.resendAll else s

/-- SYNC_ACK (R90). -/
def State.syncAckFrame (s : State) (p : Nat) (w : Word) : State :=
  let s := s.heard p
  if (s.port p).st = .sync then
    ((s.syncNumbers p w).onPort p fun q => { q with resync := q.resync + 1, resynced := true }).enterUp p
  else s

/-- ACK_TIMEOUT (R88, R89). -/
def execAckTimeout (port : Fin 2) (emerg : Bool) (s : State) : Host.Outcome State Fault Refusal :=
  let q := s.port port
  if q.st ≠ .up ∨ (if emerg then q.eUnacked else q.unacked).isEmpty then .next s
  else
    let s := (s.onPort port fun q => { q with wire := [] }).countError port
    .next (if (s.port port).st = .up then s.secondAttempt port emerg 0 else s)

/-- SYNC_TIMEOUT (R90). -/
def execSyncTimeout (port : Fin 2) (s : State) : Host.Outcome State Fault Refusal :=
  if (s.port port).st ≠ .sync then .next s
  else
    let s := (s.onPort port fun q => { q with wire := [] }).countError port
    let q := s.port port
    if q.st ≠ .sync then .next s
    else if q.syncSent < 2 then
      .next (s.onPort port fun q => ({ q with syncSent := 2 } : Port).control tySync false [q.syncWord])
    else .next (s.fallBack port)

/-- ERR_BUCKET_TICK (R91). -/
def execErrBucketTick (port : Fin 2) (s : State) : Host.Outcome State Fault Refusal :=
  .next (s.onPort port fun q => { q with buckets := (0 :: q.buckets).take 255 })

/-- FALLBACK (R92): commanded by a single write, with no RSP to finish. -/
def execFallback (port : Fin 2) (s : State) : Host.Outcome State Fault Refusal := .next (s.fallBack port)

/-! ### Operations of a request (R76..R78) -/

/-- What the operations of a frame have come to: the state, the values read, the first refusal (RCODE and index), the
writes whose answer waits, whether a job the frame closed defers its RSP. -/
structure Ran where
  s : State
  data : List Word
  rcode : Nat
  ridx : Nat
  waits : Nat
  closed : Bool

/-- Operation `j` of frame `seq` begins. -/
def State.opBegin (s : State) (p seq j : Nat) : State := s.onPort p fun q => { q with frameSeq := seq, opIdx := j }

/-- One write ends with an RCODE. -/
def Ran.wrote (r : Ran) (s : State) (rc j : Nat) (waits : Bool) : Ran :=
  let first := rc != 0 && r.rcode == 0
  { r with s := s, rcode := if first then rc else r.rcode, ridx := if first then j else r.ridx,
           waits := if waits then r.waits + 1 else r.waits }

/-- The reads of REG_RD. -/
def runReads (p seq : Nat) (r : Ran) (ops : List (Word × Nat)) : Ran :=
  ops.foldl (fun r o =>
    let a := (r.s.opBegin p seq o.2).readReg p o.1.toNat
    { r with s := a.2, data := r.data ++ [a.1] }) r

/-- The pairs of REG_WR. -/
def pairsOf : List Word → List (Word × Word)
  | a :: v :: rest => (a, v) :: pairsOf rest
  | _ => []

/-- The writes of REG_WR. -/
def runWrites (p seq : Nat) (emerg : Bool) (r : Ran) (ops : List ((Word × Word) × Nat)) : Ran :=
  ops.foldl (fun r o =>
    let a := (r.s.opBegin p seq o.2).writeReg p o.1.1.toNat o.1.2 (some (emerg, seq, o.2))
    r.wrote a.s a.rc o.2 a.waits) r

/-- One word of a JOB_WR: with OUTCOME, a JOB_END header defers the frame's response to the job it closes, the last one where
it closes more (R78). -/
def Ran.jobWrWord (r : Ran) (p seq : Nat) (outcome : Bool) (w : Word) : Ran :=
  let a := (r.s.port p).asm
  if outcome && a.isOpen && a.left == 0 && hdrType w == tJobEnd then
    let s := r.s.onPort p fun q =>
      { q with deferred := (if r.closed then q.deferred.dropLast else q.deferred) ++ [(seq, a.ser, ⟨2, a.tag, 0⟩)] }
    { r with s := s.jobWord p w, closed := true }
  else { r with s := r.s.jobWord p w }

/-- The words of JOB_WR. -/
def runJobWords (p seq : Nat) (outcome : Bool) (r : Ran) (ops : List (Word × Nat)) : Ran :=
  ops.foldl (fun r o => ({ r with s := r.s.opBegin p seq o.2 } : Ran).jobWrWord p seq outcome o.1) r

/-- The write of TBL_ADDR that begins TBL_RD and TBL_WR. -/
def State.tblBegin (s : State) (p seq : Nat) (w : Word) : State :=
  (s.opBegin p seq 0).onPort p fun q => { q with tblAddr := BitVec.ofNat 24 (bits w 23 0) }

/-- The reads of TBL_RD: operations 1 to `c`. -/
def runTblReads (p seq : Nat) (r : Ran) (ops : List Nat) : Ran :=
  ops.foldl (fun r j =>
    let a := (r.s.opBegin p seq (j + 1)).readData p true
    { r with s := a.2, data := r.data ++ [a.1] }) r

/-- The writes of TBL_WR: operations 1 on. -/
def runTblWrites (p seq : Nat) (r : Ran) (ops : List (Word × Nat)) : Ran :=
  ops.foldl (fun r o =>
    let a := (r.s.opBegin p seq (o.2 + 1)).writeData p true o.1
    r.wrote a.1 a.2 (o.2 + 1) false) r

/-- The payload agrees with TYPE and LEN (R75, R77, R78). An address word of REG_RD or REG_WR with any other bit set is
malformed, since its other bits are zero; bits 35:24 of the address word of TBL_RD and TBL_WR are ignored, as reserved bits are
(R13): DESIGN CHOICE, the spec states neither. -/
def framePayloadOk (typ maxlen : Nat) (emerg : Bool) (ws : List Word) : Bool :=
  let n := ws.length
  if emerg then typ == tyRegWr && 2 ≤ n && n ≤ 8 && n % 2 == 0 && (pairsOf ws).all fun a => a.1.toNat < 64
  else if typ = tyRegRd then 1 ≤ n && n < maxlen && ws.all fun w => w.toNat < 64
  else if typ = tyRegWr then 2 ≤ n && n % 2 == 0 && (pairsOf ws).all fun a => a.1.toNat < 64
  else if typ = tyJobWr then 1 ≤ n
  else if typ = tyTblRd then n == 2 && 1 ≤ (ws.getD 1 0).toNat && (ws.getD 1 0).toNat < maxlen
  else 2 ≤ n

/-- Run the operations of a request in payload order. -/
def State.run (s : State) (p typ seq : Nat) (emerg outcome : Bool) (ws : List Word) : Ran :=
  let r : Ran := ⟨s, [], 0, 0, 0, false⟩
  if typ = tyRegRd then runReads p seq r ws.zipIdx
  else if typ = tyRegWr then runWrites p seq emerg r (pairsOf ws).zipIdx
  else if typ = tyJobWr then runJobWords p seq outcome r ws.zipIdx
  else
    let r := { r with s := s.tblBegin p seq (ws.headD 0) }
    if typ = tyTblRd then runTblReads p seq r (List.range (ws.getD 1 0).toNat) else runTblWrites p seq r ws.tail.zipIdx

/-- A standalone ACK where no sequenced frame of the NORMAL space can begin at once (R79, R88). -/
def State.ackAlone (s : State) (p : Nat) (emerg : Bool) : State :=
  s.onPort p fun q =>
    if emerg || q.txq.isEmpty || q.window ≤ q.unacked.length || !q.maySend then q.control tyAck emerg [] else q

/-- Execute a request that has come in order, and answer it (R77, R95); `bad` where a word of it has bits 7:4 of its first
byte set. -/
def State.runRequest (s : State) (p typ seq : Nat) (emerg outcome bad : Bool) (ws : List Word) : State :=
  let q := s.port p
  let s :=
    if !emerg && !hostRequest q.rev typ then s.queueRsp p false [rspWord lsUnsupported 0 0 seq]
    else if bad || !framePayloadOk typ q.maxlen emerg ws then s.queueRsp p emerg [rspWord lsMalformed 0 0 seq]
    else
      let r := s.run p typ seq emerg (outcome && q.rev == 3) ws
      if r.waits ≠ 0 then r.s.onPort p fun q => { q with ownRsp := q.ownRsp ++ [⟨emerg, seq, r.waits, r.rcode, r.ridx⟩] }
      else if r.closed then r.s
      else r.s.queueRsp p emerg (rspWord (if r.rcode = 0 then lsDone else lsRefused) r.rcode r.ridx seq :: r.data)
  s.ackAlone p emerg

/-- A sequenced frame that has passed its CRC (R74, R87). -/
def State.frame (s : State) (p typ : Nat) (emerg outcome bad : Bool) (seq ackseq : BitVec 8) (ws : List Word) : State :=
  if (s.port p).maxlen < ws.length then s.discardFrame p false false emerg
  else
    let s := s.heard p
    let q := s.port p
    if q.st = .hunt then s
    else
      let s := s.ackBefore p false ackseq
      let d := (seq - (if emerg then q.eNextRx else q.nextRx)).toNat
      if d = 0 then
        let more := if emerg then q.eDiscarded else q.discarded
        let s := s.onPort p fun q =>
          let q := if 0 < more then { q with retxOk := q.retxOk + 1 } else q
          if emerg then { q with eNextRx := q.eNextRx + 1, eErrSince := false, eDiscarded := more - 1 }
          else { q with nextRx := q.nextRx + 1, errSince := false, discarded := more - 1 }
        s.runRequest p typ seq.toNat emerg outcome bad ws
      else if 240 ≤ d then s.onPort p fun q => q.control tyAck emerg []
      else
        let counted := if emerg then q.eErrSince else q.errSince
        let s := s.onPort p fun q =>
          let q := if emerg then { q with eDiscarded := max (d + 1) q.eDiscarded }
            else { q with discarded := max (d + 1) q.discarded }
          q.control tyNak emerg []
        if counted then s else s.countError p

/-! ### Frames of the device (R79, R94) -/

/-- A commanded fallback follows once the RSP to its frame has been sent (R92). -/
def State.afterRsp (s : State) (p : Nat) (f : Frame) : State :=
  match (s.port p).fbPend with
  | some (emerg, seq) =>
    if f.typ = tyRsp ∧ f.emerg = emerg ∧ bits (f.payload.headD 0) 7 0 = seq then s.fallBack p else s
  | none => s

/-- The words of an event: its word and its arguments (R122). -/
def Event.words (e : Event) : List Word := e.word :: e.args

/-- The oldest events that fit in `room` words, none split. -/
def takeFitting (room : Nat) : List Event → List Event
  | [] => []
  | e :: rest => if e.size ≤ room then e :: takeFitting (room - e.size) rest else []

/-- An EVT frame of some events leaves; they are in flight until it is acknowledged (R94). -/
def State.sendEvents (s : State) (p : Nat) (emerg : Bool) (es : List Event) : State :=
  let ids := es.map (·.id)
  (s.onEv fun q => q.onIds ids fun e => e.setFly p true).onPort p fun q =>
    q.transmit ⟨tyEvt, emerg, 0, 0, es.flatMap Event.words, 0, ids, none⟩

/-- EMERGENCY events due to the port that no frame carries yet. -/
def State.emergDue (s : State) (p : Nat) : List Event := s.ev.entries.filter fun e => e.cls == 1 && e.dueP p && !e.flyP p

/-- The EMERGENCY frame that goes ahead of every NORMAL one: the oldest kept or queued, else one of the events due; none where
none waits or may go (R85, R94). -/
def State.sendEmerg (s : State) (p : Nat) : Option State :=
  let q := s.port p
  if !q.maySend || decide (q.rev < 2) || decide (2 ≤ q.eUnacked.length) then none
  else match q.eTxq with
    | f :: rest => some ((s.onPort p fun q => ({ q with eTxq := rest } : Port).transmit f).afterRsp p f)
    | [] =>
      let es := takeFitting q.maxlen (s.emergDue p)
      if es.isEmpty then none else some (s.sendEvents p true es)

/-- A NORMAL frame may go: no EMERGENCY frame waits to, and the window is open. -/
def Port.mayNormal (q : Port) : Bool := q.maySend && decide (q.unacked.length < q.window)

/-- The wire begins anew for the command of a port. -/
def State.clearWire (s : State) (p : Nat) : State := s.onPort p fun q => { q with wire := [] }

/-- RSP_SEND: the frame at the head of the queues leaves, the EMERGENCY space first (R79, R94). -/
def execRspSend (port : Fin 2) (s : State) : Host.Outcome State Fault Refusal :=
  if !s.uartsRun then .next s
  else
  let s := s.clearWire port
  match s.sendEmerg port with
  | some t => .next t
  | none =>
    match (s.port port).txq with
    | f :: rest =>
      .next (if (s.port port).mayNormal then (s.onPort port fun q => ({ q with txq := rest } : Port).transmit f).afterRsp port f
        else s)
    | [] => .next s

/-- OUTCOME_RESPONSE: the oldest deferred response whose job has been decided (R78). -/
def execOutcomeResponse (port : Fin 2) (s : State) : Host.Outcome State Fault Refusal :=
  let s := s.clearWire port
  match (s.port port).deferred.find? fun d => 3 ≤ d.2.2.code with
  | none => .next s
  | some d =>
    let words := [rspWord lsDone 0 0 d.1, d.2.2.word]
    let s := s.onPort port fun q => { q with deferred := q.deferred.erase d }
    .next (if (s.port port).mayNormal && (s.port port).txq.isEmpty && (s.sendEmerg port).isNone then
        s.onPort port fun q => q.transmit ⟨tyRsp, false, 0, 0, words, 0, [], none⟩
      else s.queueRsp port false words)

/-- EVT_SEND: events due to the port, in queue order, at most MAXLEN words (R94). -/
def execEvtSend (port : Fin 2) (s : State) : Host.Outcome State Fault Refusal :=
  if !s.uartsRun then .next s
  else
  let s := s.clearWire port
  match s.sendEmerg port with
  | some t => .next t
  | none =>
    let q := s.port port
    let es := takeFitting q.maxlen (s.ev.entries.filter fun e => e.cls != 1 && e.dueP port && !e.flyP port)
    .next (if es.isEmpty || !q.evtStream || decide (q.rev < 2) || !q.mayNormal then s else s.sendEvents port false es)

/-- The NORMAL frame of which `k` characters have gone when an EMERGENCY frame comes: abandoned there (R94). -/
def Port.abandoned (q : Port) (k : Nat) : Option Frame :=
  match q.wire.getLast? with
  | some f => if !f.emerg && !isControl f.typ && f.cut.isNone && decide (k < 10 + 5 * f.payload.length) then some f else none
  | none => none

/-- EMERGENCY_EVT_SEND: the EMERGENCY frame next to go (R94). Where `cut` characters of a NORMAL frame have gone, that frame is
abandoned, and sent again whole behind the EMERGENCY frame. -/
def execEmergencyEvtSend (send : Fin 2 × Option Nat) (s : State) : Host.Outcome State Fault Refusal :=
  let port := send.1
  let cut := send.2
  let broken := cut.bind fun k => ((s.port port).abandoned k).map fun f => (f, k)
  match if s.uartsRun then (s.clearWire port).sendEmerg port else none with
  | none => .next (s.clearWire port)
  | some t =>
    .next (match broken with
      | none => t
      | some (f, k) => t.onPort port fun q => { q with wire := { f with cut := some k } :: q.wire ++ [f] })

end Sys2Proof.Machine
end

