-- ==== Sys2Proof/Machine/Receiver.lean ====
section
/-!
DEFINITION. The bytes of a frame (R71..R73), the receiver of a host port, which hunts for frames in its characters (R74, R492),
and the commands that bring it characters or whole frames.
-/

namespace Sys2Proof.Machine

/-! ### Layout (R71..R73) -/

def sof : Nat := 0xC3

/-- Bytes 1 to 5 + 5L of a frame: what its CRC covers. -/
def frameBody (typ flags : Nat) (seq ackseq : BitVec 8) (payload : List Word) : List Byte :=
  [BitVec.ofNat 8 typ, BitVec.ofNat 8 flags, seq, ackseq, BitVec.ofNat 8 payload.length] ++ payload.flatMap wireBytes

/-- A CRC as sent, bits 7:0 first. -/
def crcBytes (c : BitVec 32) : List Byte := (List.range 4).map fun k => BitVec.ofNat 8 (c.toNat / 256 ^ k)

/-- A frame byte by byte. -/
def frameBytes (typ flags : Nat) (seq ackseq : BitVec 8) (payload : List Word) : List Byte :=
  BitVec.ofNat 8 sof :: (frameBody typ flags seq ackseq payload ++ crcBytes (crc32c (frameBody typ flags seq ackseq payload)))

/-- A frame of the device; of an abandoned one, the characters that were sent. -/
def Frame.bytes (f : Frame) : List Byte :=
  let b := frameBytes f.typ (if f.emerg then 0x80 else 0) f.seq f.ackseq f.payload
  match f.cut with
  | some k => b.take k
  | none => b

/-- What HOSTp_TXD has carried for the latest command of the port. -/
def Port.sent (q : Port) : List Byte := q.wire.flatMap Frame.bytes

/-! ### Hunting (R74) -/

/-- Byte, framing flag and overrun flag of an element. -/
def elByte (e : Nat) : Nat := e % 256
def elFraming (e : Nat) : Bool := e.testBit 10
def elOverrun (e : Nat) : Bool := e.testBit 9

/-- A word off the wire: its value, and whether bits 7:4 of its first byte are zero (R72, R77). -/
def wordOf (bs : List Nat) : Word × Bool :=
  (BitVec.ofNat 36 (bs.foldl (fun n b => n * 256 + b) 0), bs.headD 0 < 16)

/-- The words of a payload of `n` words. -/
def wordsOff : Nat → List Nat → List (Word × Bool)
  | 0, _ => []
  | n + 1, bs => wordOf (bs.take 5) :: wordsOff n (bs.drop 5)

/-- A frame of the host that has passed its CRC. -/
structure HostFrame where
  typ : Nat
  emerg : Bool
  outcome : Bool
  seq : BitVec 8
  ackseq : BitVec 8
  payload : List Word
  /-- A word has bits 7:4 of its first byte set. -/
  bad : Bool
  deriving DecidableEq, Repr

/-- What stands at the head of the characters received. -/
inductive Found where
  /-- Nothing, or a frame of which characters are still to come. -/
  | more
  /-- A byte outside a frame. -/
  | stray
  /-- A frame that is discarded: for its CRC, a control frame, of the EMERGENCY space. -/
  | broken (crc ctl emerg : Bool)
  | frame (f : HostFrame)
  deriving DecidableEq, Repr

/-- LEN of a control frame from the host (R75). -/
def controlLen (typ : Nat) : Nat := if typ = 1 then 2 else if typ = tyHelloAck then 4 else if typ = tyAck ∨ typ = tyNak then 0 else 1

/-- The frame in `cs`, all of whose characters are there, SOF first. -/
def frameIn (cs : List Nat) : Found :=
  let b := cs.map elByte
  let n := b.getD 5 0
  let body := b.tail.take (5 + 5 * n)
  let typ := b.getD 1 0
  let emerg := (b.getD 2 0).testBit 7
  if crcBytes (crc32c (body.map (BitVec.ofNat 8))) ≠ (b.drop (6 + 5 * n)).map (BitVec.ofNat 8) then .broken true (isControl typ) emerg
  else if isControl typ && n != controlLen typ then .broken false true emerg
  else
    let ws := wordsOff n (b.drop 6)
    .frame ⟨typ, emerg, (b.getD 2 0).testBit 6, BitVec.ofNat 8 (b.getD 3 0), BitVec.ofNat 8 (b.getD 4 0), ws.map (·.1),
      ws.any fun w => !w.2⟩

/-- The head of the characters, as the receiver takes it: SOF without the framing flag begins a frame; LEN above MAXLEN, a
framing error or a loss within it breaks it at once. -/
def lookAt (maxlen : Nat) (cs : List Nat) : Found :=
  match cs with
  | [] => .more
  | c :: rest =>
    if elByte c ≠ sof ∨ elFraming c then .stray
    else
      let len := elByte (cs.getD 5 0)
      let known := decide (6 ≤ cs.length)
      let size := if known then 10 + 5 * len else 6
      let ctl := decide (2 ≤ cs.length) && isControl (elByte (cs.getD 1 0))
      let emerg := decide (3 ≤ cs.length) && (elByte (cs.getD 2 0)).testBit 7
      if (rest.take (size - 1)).any fun e => elFraming e || elOverrun e then .broken false ctl emerg
      else if known && decide (maxlen < len) then .broken false ctl emerg
      else if !known || decide (cs.length < size) then .more
      else frameIn (cs.take size)

/-! ### Frames executed (R75, R101) -/

/-- A frame that has passed its CRC, by its TYPE. -/
def State.receive (s : State) (p : Nat) (f : HostFrame) : State :=
  let w (k : Nat) : Word := f.payload.getD k 0
  if f.typ = 1 then s.hello p (w 0) (w 1)
  else if f.typ = tyHelloAck then s.heard p
  else if f.typ = tyAck then s.ackFrame p f.emerg f.ackseq
  else if f.typ = tyNak then s.nakFrame p f.emerg f.ackseq
  else if f.typ = tySync then s.syncFrame p (w 0)
  else if f.typ = tySyncAck then s.syncAckFrame p (w 0)
  else s.frame p f.typ (s.emergOf p f.emerg) f.outcome f.bad f.seq f.ackseq f.payload

/-- Drop `n` characters from the ring. -/
def Port.dropRing (q : Port) (n : Nat) : Port := Port.setRts { q with rxRing := q.rxRing.drop n }

/-- Core 0 works through the ring: stray bytes, discarded frames, after which it hunts on at the byte after their SOF, and good
frames. Each turn takes a character or more; `n` bounds them. -/
def State.hunt (p : Nat) : Nat → State → State
  | 0, s => s
  | n + 1, s =>
    let q := s.port p
    match lookAt q.maxlen q.rxRing with
    | .more => s
    | .stray => State.hunt p n (s.onPort p fun q => { q.dropRing 1 with stray := q.stray + 1 })
    | .broken crc ctl emerg => State.hunt p n ((s.onPort p fun q => q.dropRing 1).discardFrame p crc ctl (s.emergOf p emerg))
    | .frame f => State.hunt p n ((s.onPort p fun q => q.dropRing (10 + 5 * f.payload.length)).receive p f)

/-- The partial block moves into the ring, and core 0, where it runs, works through it (R34, R492, R493). -/
def State.takeChars (s : State) (p : Nat) : State :=
  let s := s.onPort p fun q => { q with rxRing := q.rxRing ++ q.rxFifo, rxFifo := [] }
  if s.dutyRuns 0 then State.hunt p (s.port p).rxRing.length s else s

/-- The frame partly received is broken off: a gap longer than T_GAP, after which hunting goes on behind its SOF. -/
def State.breakOff (p : Nat) : Nat → State → State
  | 0, s => s
  | n + 1, s =>
    match (s.port p).rxRing with
    | [] => s
    | c :: cs =>
      let ctl := isControl (elByte (cs.headD 0))
      let emerg := (elByte ((c :: cs).getD 2 0)).testBit 7
      let s := (s.onPort p fun q => q.dropRing 1).discardFrame p false ctl (s.emergOf p emerg)
      State.breakOff p n (State.hunt p cs.length s)

/-- A frame that comes as one command: core 0 has taken the characters before it. A frame among them that is not complete is
broken off, since none of its characters follows (DESIGN CHOICE). -/
def State.arrive (s : State) (p : Nat) : State :=
  let s := s.takeChars p
  State.breakOff p (s.port p).rxRing.length s

/-- The effect `f` of a frame on a port that receives; before start-up enables it, without a UART clock and in SLEEP the frame is
lost (R498, R517, R523). -/
def State.framed (s : State) (p : Nat) (f : State → State) : State := if s.hears then f (s.arrive p) else s

/-! ### Commands -/

/-- HELLO (R81..R85). -/
def execHello (port : Fin 2) (w0 w1 : Word) (s : State) : Host.Outcome State Fault Refusal := .next (s.framed port fun s => s.hello port w0 w1)

/-- ACK (R86). -/
def execAck (port : Fin 2) (emerg : Bool) (ackseq : BitVec 8) (s : State) : Host.Outcome State Fault Refusal :=
  .next (s.framed port fun s => s.ackFrame port emerg ackseq)

/-- NAK (R89). -/
def execNak (port : Fin 2) (emerg : Bool) (ackseq : BitVec 8) (s : State) : Host.Outcome State Fault Refusal :=
  .next (s.framed port fun s => s.nakFrame port emerg ackseq)

/-- SYNC (R90): any frame being received is discarded. -/
def execSync (port : Fin 2) (w : Word) (s : State) : Host.Outcome State Fault Refusal :=
  .next (if s.hears then ((s.takeChars port).onPort port fun q => q.dropRing q.rxRing.length).syncFrame port w else s)

/-- SYNC_ACK (R90). -/
def execSyncAck (port : Fin 2) (w : Word) (s : State) : Host.Outcome State Fault Refusal := .next (s.framed port fun s => s.syncAckFrame port w)

/-- REG_RD (R78). -/
def execRegRd (port : Fin 2) (seq ackseq : BitVec 8) (payload : List Word) (s : State) : Host.Outcome State Fault Refusal :=
  .next (s.framed port fun s => s.frame port tyRegRd false false false seq ackseq payload)

/-- REG_WR (R78). -/
def execRegWr (port : Fin 2) (seq ackseq : BitVec 8) (payload : List Word) (s : State) : Host.Outcome State Fault Refusal :=
  .next (s.framed port fun s => s.frame port tyRegWr false false false seq ackseq payload)

/-- JOB_WR (R78). -/
def execJobWr (port : Fin 2) (seq ackseq : BitVec 8) (outcome : Bool) (payload : List Word) (s : State) :
    Host.Outcome State Fault Refusal :=
  .next (s.framed port fun s => s.frame port tyJobWr false outcome false seq ackseq payload)

/-- TBL_RD (R78). -/
def execTblRd (port : Fin 2) (seq ackseq : BitVec 8) (payload : List Word) (s : State) : Host.Outcome State Fault Refusal :=
  .next (s.framed port fun s => s.frame port tyTblRd false false false seq ackseq payload)

/-- TBL_WR (R78). -/
def execTblWr (port : Fin 2) (seq ackseq : BitVec 8) (payload : List Word) (s : State) : Host.Outcome State Fault Refusal :=
  .next (s.framed port fun s => s.frame port tyTblWr false false false seq ackseq payload)

/-- UNSUPPORTED_FRAME (R75); a TYPE the port's revision gives a meaning is no such frame. -/
def execUnsupportedFrame (port : Fin 2) (typ seq ackseq : BitVec 8) (s : State) : Host.Outcome State Fault Refusal :=
  .next (if isControl typ.toNat || hostRequest (s.port port).rev typ.toNat then s
    else s.framed port fun s => s.frame port typ.toNat false false false seq ackseq [])

/-- EMERGENCY_REG_WR (R95): a frame with EMERG set; at revision 1 the flag is ignored (R80). -/
def execEmergencyRegWr (port : Fin 2) (typ seq ackseq : BitVec 8) (payload : List Word) (s : State) :
    Host.Outcome State Fault Refusal :=
  .next (if isControl typ.toNat then s
    else s.framed port fun s => s.frame port typ.toNat (s.emergOf port true) false false seq ackseq payload)

/-- STRAY_BYTE (R74): told of one byte that reached no ring. -/
def execStrayByte (port : Fin 2) (s : State) : Host.Outcome State Fault Refusal :=
  .next (if s.hears then s.onPort port fun q => { q with stray := q.stray + 1 } else s)

/-- FRAME_DISCARD (R74): of the frame being received, else of one told of here only: its CRC fails, or its form, `ctl` a control
frame of wrong LEN. Hunting goes on behind its SOF. -/
def execFrameDiscard (port : Fin 2) (crc ctl emerg : Bool) (s : State) : Host.Outcome State Fault Refusal :=
  if !s.hears then .next s
  else
  let s := s.takeChars port
  let t := (s.onPort port fun q => q.dropRing 1).discardFrame port crc ctl (s.emergOf port emerg)
  .next (State.hunt port (t.port port).rxRing.length t)

/-- CHARACTER_RECEIVED: UART 0, 1 HOST0, HOST1; 2, 3 AUX2, AUX3. A block of 16 moves at once (R492). -/
def execCharacterReceived (uart : Fin 4) (start : BitVec 3) (data parity : List (BitVec 3)) (stop : BitVec 3) (s : State) :
    Host.Outcome State Fault Refusal :=
  let samples := charSamples start data parity stop
  .next (if uart.val < 2 then
      match if s.hears then decodeChar false 0 samples else none with
      | none => s
      | some c =>
        let s := s.onPort uart.val fun q => q.char c.char c.noise c.ferr
        if 16 ≤ (s.port uart.val).rxFifo.length then s.takeChars uart.val else s
    else
      let a := s.aux (uart.val - 2)
      match if s.uartsRun then decodeChar a.nine a.par samples else none with
      | none => s
      | some c => s.auxChar (uart.val - 2) c.char c.noise c.ferr c.perr)

/-- RECEIVE_TIMEOUT: the partial block moves, and core 0 takes what a host port holds (R493). -/
def execReceiveTimeout (uart : Fin 4) (s : State) : Host.Outcome State Fault Refusal :=
  .next (if uart.val < 2 then s.takeChars uart.val else s)

/-- CTS_CHANGE (R98, R496): once the host lets the port transmit, the frames held go, the EMERGENCY space first; a frame
acknowledged meanwhile goes no more, and UP is entered where HELLO_ACK was among them. -/
def execCtsChange (port : Fin 2) (low : Bool) (s : State) : Host.Outcome State Fault Refusal :=
  let q := s.port port
  if !low then .next (s.onPort port fun q => { q with cts := false })
  else
    let due := q.held.filter fun f => isControl f.typ || (if f.emerg then q.eUnacked else q.unacked).any fun g => g.seq == f.seq
    let s := s.onPort port fun q =>
      { q with cts := true, held := [], upOnAck := false,
               wire := if due.isEmpty then q.wire else due.filter (·.emerg) ++ due.filter fun f => !f.emerg }
    .next (if q.upOnAck then s.enterUp port else s)

/-- CORE_RESTART: the core has taken up its duties again and is judged for 10 s; core 0 takes what the host ports hold (R34). -/
def execCoreRestart (core : Fin 2) (s : State) : Host.Outcome State Fault Refusal :=
  .next (if at' s.dev.cores core = .restarting then ((s.setCore core .probation).takeChars 0).takeChars 1 else s)

end Sys2Proof.Machine
end

