-- ==== Sys2Proof/Machine/Dispatch.lean ====
section
/-!
DEFINITION. The dispatcher: one arm per command of the table, each one direct call of its meaning.
-/

namespace Sys2Proof.Machine

def exec (i : Instr) (s : State) : Host.Outcome State Fault Refusal :=
  match i with
  | .stitchBoundary => Sys2Proof.Machine.execStitchBoundary s
  | .governorSample => Sys2Proof.Machine.execGovernorSample s
  | .overrunRelax => Sys2Proof.Machine.execOverrunRelax s
  | .sagHoldExpiry supply => Sys2Proof.Machine.execSagHoldExpiry supply s
  | .stitchPeriodWrite port value => Sys2Proof.Machine.execStitchPeriodWrite port value s
  | .lineStart head vh => Sys2Proof.Machine.execLineStart head vh s
  | .lastSliceEnd head => Sys2Proof.Machine.execLastSliceEnd head s
  | .strayByte port => Sys2Proof.Machine.execStrayByte port s
  | .frameDiscard port crc ctl emerg => Sys2Proof.Machine.execFrameDiscard port crc ctl emerg s
  | .hello port w0 w1 => Sys2Proof.Machine.execHello port w0 w1 s
  | .ack port emerg ackseq => Sys2Proof.Machine.execAck port emerg ackseq s
  | .nak port emerg ackseq => Sys2Proof.Machine.execNak port emerg ackseq s
  | .sync port w => Sys2Proof.Machine.execSync port w s
  | .syncAck port w => Sys2Proof.Machine.execSyncAck port w s
  | .regRd port seq ackseq payload => Sys2Proof.Machine.execRegRd port seq ackseq payload s
  | .regWr port seq ackseq payload => Sys2Proof.Machine.execRegWr port seq ackseq payload s
  | .jobWr port seq ackseq outcome payload => Sys2Proof.Machine.execJobWr port seq ackseq outcome payload s
  | .tblRd port seq ackseq payload => Sys2Proof.Machine.execTblRd port seq ackseq payload s
  | .tblWr port seq ackseq payload => Sys2Proof.Machine.execTblWr port seq ackseq payload s
  | .unsupportedFrame port typ seq ackseq => Sys2Proof.Machine.execUnsupportedFrame port typ seq ackseq s
  | .emergencyRegWr port typ seq ackseq payload => Sys2Proof.Machine.execEmergencyRegWr port typ seq ackseq payload s
  | .rspSend port => Sys2Proof.Machine.execRspSend port s
  | .outcomeResponse port => Sys2Proof.Machine.execOutcomeResponse port s
  | .evtSend port => Sys2Proof.Machine.execEvtSend port s
  | .emergencyEvtSend send => Sys2Proof.Machine.execEmergencyEvtSend send s
  | .ackTimeout port emerg => Sys2Proof.Machine.execAckTimeout port emerg s
  | .syncTimeout port => Sys2Proof.Machine.execSyncTimeout port s
  | .dividerAdopt port => Sys2Proof.Machine.execDividerAdopt port s
  | .confirmTimeout port => Sys2Proof.Machine.execConfirmTimeout port s
  | .errBucketTick port => Sys2Proof.Machine.execErrBucketTick port s
  | .fallback port => Sys2Proof.Machine.execFallback port s
  | .clrStats port => Sys2Proof.Machine.execClrStats port s
  | .ctsChange port low => Sys2Proof.Machine.execCtsChange port low s
  | .registerWrite port addr value => Sys2Proof.Machine.execRegisterWrite port addr value s
  | .eventPop port => Sys2Proof.Machine.execEventPop port s
  | .tblDataRead port => Sys2Proof.Machine.execTblDataRead port s
  | .tblDataWrite port value => Sys2Proof.Machine.execTblDataWrite port value s
  | .commit port => Sys2Proof.Machine.execCommit port s
  | .discard port => Sys2Proof.Machine.execDiscard port s
  | .jobWinWrite port word => Sys2Proof.Machine.execJobWinWrite port word s
  | .claim port mask => Sys2Proof.Machine.execClaim port mask s
  | .release port mask => Sys2Proof.Machine.execRelease port mask s
  | .clrCnt port => Sys2Proof.Machine.execClrCnt port s
  | .protRaise port key target => Sys2Proof.Machine.execProtRaise port key target s
  | .protLower port key target => Sys2Proof.Machine.execProtLower port key target s
  | .auxTxWrite port aux char => Sys2Proof.Machine.execAuxTxWrite port aux char s
  | .auxRxRead port aux => Sys2Proof.Machine.execAuxRxRead port aux s
  | .auxCtlWrite port aux value => Sys2Proof.Machine.execAuxCtlWrite port aux value s
  | .bistStart port test => Sys2Proof.Machine.execBistStart port test s
  | .bistDone samples => Sys2Proof.Machine.execBistDone samples s
  | .save port => Sys2Proof.Machine.execSave port s
  | .saveDone => Sys2Proof.Machine.execSaveDone s
  | .scrubNow port => Sys2Proof.Machine.execScrubNow port s
  | .heldBackEventQueue => Sys2Proof.Machine.execHeldBackEventQueue s
  | .eventLost port => Sys2Proof.Machine.execEventLost port s
  | .batchResolve => Sys2Proof.Machine.execBatchResolve s
  | .weltEntryCommit => Sys2Proof.Machine.execWeltEntryCommit s
  | .printRelease head => Sys2Proof.Machine.execPrintRelease head s
  | .feedRelease head => Sys2Proof.Machine.execFeedRelease head s
  | .cutRelease head => Sys2Proof.Machine.execCutRelease head s
  | .scanRelease head => Sys2Proof.Machine.execScanRelease head s
  | .patternRelease head => Sys2Proof.Machine.execPatternRelease head s
  | .moveRelease axis => Sys2Proof.Machine.execMoveRelease axis s
  | .homeRelease axis => Sys2Proof.Machine.execHomeRelease axis s
  | .gearRelease axis => Sys2Proof.Machine.execGearRelease axis s
  | .dcRunRelease axis => Sys2Proof.Machine.execDcRunRelease axis s
  | .solRunRelease bank => Sys2Proof.Machine.execSolRunRelease bank s
  | .solDiagRelease bank => Sys2Proof.Machine.execSolDiagRelease bank s
  | .auxXferRelease => Sys2Proof.Machine.execAuxXferRelease s
  | .note => Sys2Proof.Machine.execNote s
  | .fence => Sys2Proof.Machine.execFence s
  | .resolve => Sys2Proof.Machine.execResolve s
  | .startRecovered => Sys2Proof.Machine.execStartRecovered s
  | .continue' => Sys2Proof.Machine.execContinue s
  | .skip => Sys2Proof.Machine.execSkip s
  | .fenceProceed => Sys2Proof.Machine.execFenceProceed s
  | .fenceCancel => Sys2Proof.Machine.execFenceCancel s
  | .cancelHeld => Sys2Proof.Machine.execCancelHeld s
  | .laneOut => Sys2Proof.Machine.execLaneOut s
  | .laneOutInOrder lane => Sys2Proof.Machine.execLaneOutInOrder lane s
  | .reAdmit => Sys2Proof.Machine.execReAdmit s
  | .readmitTimeout => Sys2Proof.Machine.execReadmitTimeout s
  | .stop port lane mask => Sys2Proof.Machine.execStop port lane mask s
  | .recordTimeout lane => Sys2Proof.Machine.execRecordTimeout lane s
  | .fenceTimeout => Sys2Proof.Machine.execFenceTimeout s
  | .marksFlushTimer => Sys2Proof.Machine.execMarksFlushTimer s
  | .gateWindowExpiry entry => Sys2Proof.Machine.execGateWindowExpiry entry s
  | .lookupGo port block => Sys2Proof.Machine.execLookupGo port block s
  | .lookupDone block => Sys2Proof.Machine.execLookupDone block s
  | .weltLoadTick => Sys2Proof.Machine.execWeltLoadTick s
  | .store port entry kind place size => Sys2Proof.Machine.execStore port entry kind place size s
  | .repair port entry size => Sys2Proof.Machine.execRepair port entry size s
  | .delete port entry => Sys2Proof.Machine.execDelete port entry s
  | .assetAbort port entry => Sys2Proof.Machine.execAssetAbort port entry s
  | .assetPortWrite port entry word => Sys2Proof.Machine.execAssetPortWrite port entry word s
  | .assetVerifyDone entry => Sys2Proof.Machine.execAssetVerifyDone entry s
  | .assetIdleTimeout entry => Sys2Proof.Machine.execAssetIdleTimeout entry s
  | .layout head found => Sys2Proof.Machine.execLayout head found s
  | .bandCommit head => Sys2Proof.Machine.execBandCommit head s
  | .vhSettleEnd head vh => Sys2Proof.Machine.execVhSettleEnd head vh s
  | .backgroundScanStart head => Sys2Proof.Machine.execBackgroundScanStart head s
  | .scanDot head valid rmeas vh => Sys2Proof.Machine.execScanDot head valid rmeas vh s
  | .abandon port head => Sys2Proof.Machine.execAbandon port head s
  | .msCycle ms lit dark => Sys2Proof.Machine.execMsCycle ms lit dark s
  | .calRetry ms => Sys2Proof.Machine.execCalRetry ms s
  | .snsSample sns code => Sys2Proof.Machine.execSnsSample sns code s
  | .ticketTaken sns => Sys2Proof.Machine.execTicketTaken sns s
  | .clickerRecover head => Sys2Proof.Machine.execClickerRecover head s
  | .stepEvent axis emfA emfB => Sys2Proof.Machine.execStepEvent axis emfA emfB s
  | .stallSpanEnd axis => Sys2Proof.Machine.execStallSpanEnd axis s
  | .axisAtRest axis => Sys2Proof.Machine.execAxisAtRest axis s
  | .homeReference axis => Sys2Proof.Machine.execHomeReference axis s
  | .homeRetry axis => Sys2Proof.Machine.execHomeRetry axis s
  | .confRetry axis => Sys2Proof.Machine.execConfRetry axis s
  | .limit axis input => Sys2Proof.Machine.execLimit axis input s
  | .standstill axis => Sys2Proof.Machine.execStandstill axis s
  | .gearLagGrace axis => Sys2Proof.Machine.execGearLagGrace axis s
  | .dcRunEnd bridge => Sys2Proof.Machine.execDcRunEnd bridge s
  | .chopperTrip bridge code => Sys2Proof.Machine.execChopperTrip bridge code s
  | .chopperOffEnd bridge => Sys2Proof.Machine.execChopperOffEnd bridge s
  | .fullDutyEnd bridge code comm => Sys2Proof.Machine.execFullDutyEnd bridge code comm s
  | .bridgeFault bridge site reading => Sys2Proof.Machine.execBridgeFault bridge site reading s
  | .bridgeRecover bridge => Sys2Proof.Machine.execBridgeRecover bridge s
  | .bridgeConfirmEnd bridge => Sys2Proof.Machine.execBridgeConfirmEnd bridge s
  | .bridgeCheckDone axis a1 a2 b1 b2 gateA gateB => Sys2Proof.Machine.execBridgeCheckDone axis a1 a2 b1 b2 gateA gateB s
  | .solProfileStart chan => Sys2Proof.Machine.execSolProfileStart chan s
  | .segmentTmax chan us vs => Sys2Proof.Machine.execSegmentTmax chan us vs s
  | .segmentStitchEnd chan => Sys2Proof.Machine.execSegmentStitchEnd chan s
  | .solTrip chan code us => Sys2Proof.Machine.execSolTrip chan code us s
  | .solReleaseDetect chan => Sys2Proof.Machine.execSolReleaseDetect chan s
  | .coilModelUpdate chan isq mv ma => Sys2Proof.Machine.execCoilModelUpdate chan isq mv ma s
  | .solFault chan probe nh nl => Sys2Proof.Machine.execSolFault chan probe nh nl s
  | .solRecover chan => Sys2Proof.Machine.execSolRecover chan s
  | .solConfirmEnd chan => Sys2Proof.Machine.execSolConfirmEnd chan s
  | .offStateCheckDone chan nh1 nl1 nh2 nl2 vs ofs => Sys2Proof.Machine.execOffStateCheckDone chan nh1 nl1 nh2 nl2 vs ofs s
  | .onStateCheckDone chan code nh low => Sys2Proof.Machine.execOnStateCheckDone chan code nh low s
  | .encCount enc a b => Sys2Proof.Machine.execEncCount enc a b s
  | .encIndex enc level ph => Sys2Proof.Machine.execEncIndex enc level ph s
  | .quadWindowEnd enc => Sys2Proof.Machine.execQuadWindowEnd enc s
  | .encArm port enc => Sys2Proof.Machine.execEncArm port enc s
  | .encZero port enc => Sys2Proof.Machine.execEncZero port enc s
  | .encClr port enc => Sys2Proof.Machine.execEncClr port enc s
  | .ssiClr port ssi => Sys2Proof.Machine.execSsiClr port ssi s
  | .ssiTransferEnd ssi bits => Sys2Proof.Machine.execSsiTransferEnd ssi bits s
  | .ssiRepeat ssi ph => Sys2Proof.Machine.execSsiRepeat ssi ph s
  | .cntEdge cnt level us => Sys2Proof.Machine.execCntEdge cnt level us s
  | .probeCapture prb ph rise => Sys2Proof.Machine.execProbeCapture prb ph rise s
  | .probeArm port prb => Sys2Proof.Machine.execProbeArm port prb s
  | .probeDisarm port prb => Sys2Proof.Machine.execProbeDisarm port prb s
  | .probeFlush port prb => Sys2Proof.Machine.execProbeFlush port prb s
  | .probeStampRead port prb => Sys2Proof.Machine.execProbeStampRead port prb s
  | .monitorSample group draws volts amps => Sys2Proof.Machine.execMonitorSample group draws volts amps s
  | .energyBucket group => Sys2Proof.Machine.execEnergyBucket group s
  | .ontime group elem => Sys2Proof.Machine.execOntime group elem s
  | .strobeLimit head elem duty => Sys2Proof.Machine.execStrobeLimit head elem duty s
  | .grel port group => Sys2Proof.Machine.execGrel port group s
  | .rel port => Sys2Proof.Machine.execRel port s
  | .disch port => Sys2Proof.Machine.execDisch port s
  | .shankLimitWrite port addr value => Sys2Proof.Machine.execShankLimitWrite port addr value s
  | .stopInput low => Sys2Proof.Machine.execStopInput low s
  | .doorOpen isOpen => Sys2Proof.Machine.execDoorOpen isOpen s
  | .dischargeUpdate vm vs => Sys2Proof.Machine.execDischargeUpdate vm vs s
  | .dischargeTimeout => Sys2Proof.Machine.execDischargeTimeout s
  | .tempSample input code => Sys2Proof.Machine.execTempSample input code s
  | .sensorRecheck input code => Sys2Proof.Machine.execSensorRecheck input code s
  | .sagAssert supply volts win => Sys2Proof.Machine.execSagAssert supply volts win s
  | .sagClear supply volts win => Sys2Proof.Machine.execSagClear supply volts win s
  | .vgdLow => Sys2Proof.Machine.execVgdLow s
  | .vgdClear => Sys2Proof.Machine.execVgdClear s
  | .vmLoss => Sys2Proof.Machine.execVmLoss s
  | .brownOut src => Sys2Proof.Machine.execBrownOut src s
  | .wordProgramDone bank ok => Sys2Proof.Machine.execWordProgramDone bank ok s
  | .eraseSliceEnd bank blank => Sys2Proof.Machine.execEraseSliceEnd bank blank s
  | .scrubPassStart => Sys2Proof.Machine.execScrubPassStart s
  | .scrubRead bank addr verdict => Sys2Proof.Machine.execScrubRead bank addr verdict s
  | .sramScrubTick bank verdict => Sys2Proof.Machine.execSramScrubTick bank verdict s
  | .characterReceived uart start data parity stop => Sys2Proof.Machine.execCharacterReceived uart start data parity stop s
  | .receiveTimeout uart => Sys2Proof.Machine.execReceiveTimeout uart s
  | .auxXferEnd => Sys2Proof.Machine.execAuxXferEnd s
  | .pllUFault => Sys2Proof.Machine.execPllUFault s
  | .pllURelock ok => Sys2Proof.Machine.execPllURelock ok s
  | .clockFault finding => Sys2Proof.Machine.execClockFault finding s
  | .fabricParityError repeatOk => Sys2Proof.Machine.execFabricParityError repeatOk s
  | .watchdogMiss core => Sys2Proof.Machine.execWatchdogMiss core s
  | .coreRestart core => Sys2Proof.Machine.execCoreRestart core s
  | .coreProbationEnd core => Sys2Proof.Machine.execCoreProbationEnd core s
  | .domainIdle dom => Sys2Proof.Machine.execDomainIdle dom s
  | .domainOff dom => Sys2Proof.Machine.execDomainOff dom s
  | .domainPowerUp dom dt => Sys2Proof.Machine.execDomainPowerUp dom dt s
  | .sleepEntry => Sys2Proof.Machine.execSleepEntry s
  | .wake src dt => Sys2Proof.Machine.execWake src dt s
  | .offEntry => Sys2Proof.Machine.execOffEntry s
  | .goOff port => Sys2Proof.Machine.execGoOff port s
  | .por => Sys2Proof.Machine.execPor s
  | .pinReset => Sys2Proof.Machine.execPinReset s
  | .startUp tests bootT recovT => Sys2Proof.Machine.execStartUp tests bootT recovT s
  | .updateIrIntrusive instr => Sys2Proof.Machine.execUpdateIrIntrusive instr s
  | .testLogicReset => Sys2Proof.Machine.execTestLogicReset s
  | .begin' port len => Sys2Proof.Machine.execBegin port len s
  | .activate port => Sys2Proof.Machine.execActivate port s
  | .confirm port => Sys2Proof.Machine.execConfirm port s
  | .imageAbort port => Sys2Proof.Machine.execImageAbort port s
  | .imagePortWrite port word => Sys2Proof.Machine.execImagePortWrite port word s
  | .imageVerifyDone => Sys2Proof.Machine.execImageVerifyDone s
  | .imageIdleTimeout => Sys2Proof.Machine.execImageIdleTimeout s
  | .programWord port oword value => Sys2Proof.Machine.execProgramWord port oword value s
  | .programKey port slot use => Sys2Proof.Machine.execProgramKey port slot use s
  | .revokeKey port slot => Sys2Proof.Machine.execRevokeKey port slot s
  | .otpProgramDone ok => Sys2Proof.Machine.execOtpProgramDone ok s
  | .aonXtalLoss => Sys2Proof.Machine.execAonXtalLoss s
  | .vmRearm => Sys2Proof.Machine.execVmRearm s
  | .limitRelease axis input => Sys2Proof.Machine.execLimitRelease axis input s
  | .lineIdle uart => Sys2Proof.Machine.execLineIdle uart s
  | .eraseResume bank => Sys2Proof.Machine.execEraseResume bank s
  | .decisionPacing => Sys2Proof.Machine.execDecisionPacing s
  | .pwmPeriod bridge code => Sys2Proof.Machine.execPwmPeriod bridge code s
  | .solPwmPeriod chan duty us ph => Sys2Proof.Machine.execSolPwmPeriod chan duty us ph s
  | .dipSample chan code us ph => Sys2Proof.Machine.execDipSample chan code us ph s
  | .updateDr scan => Sys2Proof.Machine.execUpdateDr scan s
  | .guardSupply supply above => Sys2Proof.Machine.execGuardSupply supply above s

end Sys2Proof.Machine
end

