-- ==== Sys2Proof/Safety.lean ====
section
/-!
DEFINITION. The terms in which claims about the block are stated: a command that answers a next state with a property, the
parts of the state and what leaves all but some of them alone, the bounds of the stretch, the bits of the OTP row.
-/

namespace Sys2Proof.Machine

/-- The command answers a next state, and the property holds of it. -/
def Answers (c : Instr) (s : State) (p : State → Prop) : Prop := ∃ t, exec c s = .next t ∧ p t

/-- The parts the state is made of. -/
inductive Part where
  | pending | fresh | dev | stitch | ports | ev | tbl | lanes | jobs | welt | assets | heads | axes | encs | ssis | cnts | prbs
  | chans | shank | power | mss | snss | sup | flash | uarts | sec
  deriving DecidableEq, Repr

/-- Two states agree on a part. -/
def Part.same (p : Part) (s t : State) : Prop :=
  match p with
  | .pending => t.pending = s.pending
  | .fresh => t.fresh = s.fresh
  | .dev => t.dev = s.dev
  | .stitch => t.stitch = s.stitch
  | .ports => t.ports = s.ports
  | .ev => t.ev = s.ev
  | .tbl => t.tbl = s.tbl
  | .lanes => t.lanes = s.lanes
  | .jobs => t.jobs = s.jobs
  | .welt => t.welt = s.welt
  | .assets => t.assets = s.assets
  | .heads => t.heads = s.heads
  | .axes => t.axes = s.axes
  | .encs => t.encs = s.encs
  | .ssis => t.ssis = s.ssis
  | .cnts => t.cnts = s.cnts
  | .prbs => t.prbs = s.prbs
  | .chans => t.chans = s.chans
  | .shank => t.shank = s.shank
  | .power => t.power = s.power
  | .mss => t.mss = s.mss
  | .snss => t.snss = s.snss
  | .sup => t.sup = s.sup
  | .flash => t.flash = s.flash
  | .uarts => t.uarts = s.uarts
  | .sec => t.sec = s.sec

/-- `t` differs from `s` in the listed parts at most. -/
def SameBut (ps : List Part) (s t : State) : Prop := ∀ p, p ∉ ps → p.same s t

/-- Whatever next state a command answers, it differs in the listed parts at most. -/
def Touches (c : Instr) (ps : List Part) : Prop := ∀ s t, exec c s = .next t → SameBut ps s t

/-- Two tables agree but for member `i`. -/
def Others {α : Type} [Inhabited α] {n : Nat} (v w : Vector α n) (i : Nat) : Prop := ∀ j, j ≠ i → at' w j = at' v j

/-- `t` differs from `s` in port `p` at most. -/
def OnlyPort (p : Nat) (s t : State) : Prop := SameBut [.ports] s t ∧ Others s.ports t.ports p

/-- `t` differs from `s` in head `x` at most. -/
def OnlyHead (x : Nat) (s t : State) : Prop := SameBut [.heads] s t ∧ Others s.heads t.heads x

/-- `t` differs from `s` in axis `n` and its two bridges at most. -/
def OnlyAxis (n : Nat) (s t : State) : Prop := SameBut [.axes] s t ∧ Others s.axes t.axes n

/-- `t` differs from `s` in encoder `n` at most. -/
def OnlyEnc (n : Nat) (s t : State) : Prop := SameBut [.encs] s t ∧ Others s.encs t.encs n

/-- `t` differs from `s` in SSI port `p` at most. -/
def OnlySsi (p : Nat) (s t : State) : Prop := SameBut [.ssis] s t ∧ Others s.ssis t.ssis p

/-- `t` differs from `s` in probe `r` at most. -/
def OnlyPrb (r : Nat) (s t : State) : Prop := SameBut [.prbs] s t ∧ Others s.prbs t.prbs r

/-- `t` differs from `s` in solenoid channel `c` at most. -/
def OnlyChan (c : Nat) (s t : State) : Prop := SameBut [.chans] s t ∧ Others s.chans t.chans c

/-- X in force and X of the next stitch lie in 1.000..4.000 in u3.16 (R41), and K_MAX in 1.000..4.000 in u3.8 (R51). -/
def State.stretchOk (s : State) : Prop :=
  (65536 ≤ s.stitch.x ∧ s.stitch.x ≤ 262144) ∧ (65536 ≤ s.stitch.xNext ∧ s.stitch.xNext ≤ 262144) ∧
    (256 ≤ s.stitch.kMax ∧ s.stitch.kMax ≤ 1024)

/-- Port `p` receives, and no characters stand in its ring and FIFO: a frame that comes is executed as it comes (R74, R492, R523). -/
def State.quietRx (s : State) (p : Nat) : Prop := s.hears = true ∧ (s.port p).rxRing = [] ∧ (s.port p).rxFifo = []

/-- The port after a link error is counted in the bucket in progress (R91). -/
def Port.errored (q : Port) : Port := { q with buckets := (q.buckets.headD 0 + 1) :: q.buckets.tail }

/-- The state after a sequenced frame in order has been taken and before its operations run: its characters are gone, what its ACKSEQ
acknowledges has left, the next number is expected (R86, R87). -/
def State.accepted (s : State) (p : Nat) (emerg : Bool) (ackseq : BitVec 8) : State :=
  let s := (s.heard p).ackBefore p false ackseq
  let q := s.port p
  let more := if emerg then q.eDiscarded else q.discarded
  s.onPort p fun q =>
    let q := if 0 < more then { q with retxOk := q.retxOk + 1 } else q
    if emerg then { q with eNextRx := q.eNextRx + 1, eErrSince := false, eDiscarded := more - 1 }
    else { q with nextRx := q.nextRx + 1, errSince := false, discarded := more - 1 }

/-- Every bit that is blown in the OTP row of `s` is blown in that of `t`. -/
def OtpKept (s t : State) : Prop := ∀ i < 128, s.otp i &&& ~~~ t.otp i = 0

/-- Record `q` stands at the head of lane `i`, is of type `typ`, has no gate, and nothing holds its release back (R22, R149). -/
def State.releasable (s : State) (i typ : Nat) (q : QItem) : Prop :=
  (s.lane i).queue.head? = some q ∧ q.r.typ = typ ∧ s.mayDispatch i = true ∧ s.obstacle i q = none ∧ q.r.gate = false

/-- Lane `i` has taken record `q` from the head of its queue and runs it, and releases no other in this stitch (R22, R141, R143). -/
def State.tookRecord (s t : State) (i : Nat) (q : QItem) : Prop :=
  (t.lane i).queue = (s.lane i).queue.drop 1 ∧ (t.lane i).running = some q ∧ (t.lane i).state = .running ∧ (t.lane i).wait = .none ∧
    (t.lane i).relStitch = s.stitch.n + 1 ∧
    (q.r.tmo = true → (q.job, q.idx, (s.stitch.n + 1) * 4096 + phOf q.r.timeout) ∈ t.jobs.deadlines)

/-- The first record of lane 31 that waits is `q`, and the rest wait behind it. -/
def State.ctrlIs (s : State) (q : QItem) (rest : List QItem) : Prop := s.jobs.ctrl = q :: rest

/-- `t` is `s` after a reset of cause `cause` and sub-cause `sub`: start-up is to run, nothing works, what the journal holds, the OTP
row and the queue of commands are kept (R14, R518). -/
def State.wasReset (s t : State) (cause sub : Nat) (lost : Bool) : Prop :=
  t.dev.st = .boot ∧ t.power.inReset = some (cause, sub, lost) ∧ t.lanes = State.reset.lanes ∧ t.tbl = State.reset.tbl ∧
    t.stitch = State.reset.stitch ∧ t.jobs.table = [] ∧ t.jobs.batch = [] ∧ t.pending = s.pending ∧ s.welt.log <+: t.welt.log ∧
    t.sec.otp.words = s.sec.otp.words

end Sys2Proof.Machine
end

