-- ==== Sys2Proof/Certificates/Slice0/Obligations.lean ====
section
/-!
DEFINITION. The statements about the block, for the provers: what the block does as a whole, then the effect of every command,
family by family. A clause says under which conditions on the state and the operands the command has its own effect, what that
effect is, and what it leaves alone.
-/

open Sys2Proof Sys2Proof.Machine

/-! ### The block as a whole -/

/-- The command at the front of the queue is executed on the state with the queue's rest. -/
def Obligations.StepRunsFrontCommand : Prop :=
  ∀ (c : Instr) (rest : List Instr) (s : State),
    step { s with pending := c :: rest } = exec c { s with pending := rest }

/-- On an empty queue the block idles: the model's choice (log 2), no rule of the spec. -/
def Obligations.EmptyQueueIdles : Prop := ∀ s : State, s.pending = [] → step s = .next s

/-- No command stops the block: every one answers a next state, whatever the state and the operands (log 3). -/
def Obligations.EveryCommandAnswers : Prop := ∀ (c : Instr) (s : State), ∃ t, exec c s = .next t

/-- A step takes one command off the front of the queue and no command adds one: from every state. -/
def Obligations.StepTakesOneCommand : Prop :=
  ∀ s t : State, step s = .next t → t.pending = s.pending.tail

/-- X in force and of the next stitch stay in 1.000..4.000 and K_MAX in 1.000..4.000, whatever the step (R41, R51). -/
def Obligations.StretchStaysInRange : Prop :=
  ∀ s t : State, s.stretchOk → step s = .next t → t.stretchOk

/-- The stretch is in its range after reset. -/
def Obligations.StretchOkAfterReset : Prop := State.reset.stretchOk

/-- A bit of the OTP row that is blown stays blown, whatever the step (R478). -/
def Obligations.OtpBitsStayBlown : Prop := ∀ s t : State, step s = .next t → OtpKept s t

/-- After reset the device is in BOOT with no job, no event and no entry waiting; every lane is IDLE, unowned, with an empty
queue; both ports are in HUNT at divider 40 and revision 0; the stretch is 1.000. -/
def Obligations.ResetLeaves : Prop :=
  State.reset.dev.st = .boot ∧ State.reset.pending = [] ∧ State.reset.jobs.table = [] ∧ State.reset.ev.entries = [] ∧
    State.reset.welt.wq = [] ∧
    (∀ i < 19, (State.reset.lane i).state = .idle ∧ (State.reset.lane i).owner = 0 ∧ (State.reset.lane i).queue = []) ∧
    (∀ p < 2, (State.reset.port p).st = .hunt ∧ (State.reset.port p).div = 40 ∧ (State.reset.port p).rev = 0) ∧
    State.reset.stitch.x = 0x10000 ∧ State.reset.stitch.xNext = 0x10000

/-- A word of the table store reads back as it was last stored, and no other word changes. Storing a word keeps the store's canonical form:
addresses rising, no entry equal to its reset word (log 6). -/
def Obligations.TableStoreReadsBack : Prop :=
  (∀ (st : Store) (a b : Nat) (w : Word), st.wf = true → (st.set a w).get b = if b = a then w else st.get b) ∧
  (∀ (st : Store) (a : Nat) (w : Word), st.wf = true → (st.set a w).wf = true)

/-! ### The stitch and the governor -/

/-- At a boundary the next stitch begins: the count advances, the X of the governor's last sample and a period that waits come into force, and
what the axes have is kept in AON (R41, R42, R46, R322, R50). While the stitch generator stands nothing happens. Requests that run out:
OVERRUN's falls by OVR_STEP, never below 1.000, where OVR_RELAX stitches have passed (R57); a sag request ends when its hold has run out
and stays until then (R49). Nothing but the stitch changes. -/
def Obligations.StitchTimebaseRuns : Prop :=
  (∀ s : State, s.flash.imageSwitch = false →
       (s.stitch.running = true →
         Answers .stitchBoundary s fun t =>
           t.stitch.n = s.stitch.n + 1 ∧ t.stitch.x = s.stitch.xNext ∧
             t.stitch.period = s.stitch.newPeriod.getD s.stitch.period ∧ t.stitch.newPeriod = none) ∧
       (s.stitch.running = false → exec .stitchBoundary s = .next s)) ∧
  (∀ (s : State) (h : Since),
       let g := s.stitch
       (0x100 < g.ovrReq → g.ovrSince.passed g.govRelax g.phase = true →
         Answers .overrunRelax s fun t =>
           t.stitch.ovrReq = max 0x100 (g.ovrReq - g.govStep) ∧ t.stitch.x = g.x ∧ SameBut [.stitch] s t) ∧
       (g.ovrReq ≤ 0x100 ∨ g.ovrSince.passed g.govRelax g.phase = false → exec .overrunRelax s = .next s) ∧
       (g.holdVM = some h → h.passed g.govHold g.phase = true →
         Answers (.sagHoldExpiry 0) s fun t => t.stitch.holdVM = none ∧ t.stitch.holdVS = g.holdVS ∧ SameBut [.stitch] s t) ∧
       (g.holdVS = some h → h.passed g.govHold g.phase = true →
         Answers (.sagHoldExpiry 1) s fun t => t.stitch.holdVS = none ∧ t.stitch.holdVH = g.holdVH ∧ SameBut [.stitch] s t) ∧
       (g.holdVH = some h → h.passed g.govHold g.phase = true →
         Answers (.sagHoldExpiry 2) s fun t => t.stitch.holdVH = none ∧ t.stitch.holdVM = g.holdVM ∧ SameBut [.stitch] s t) ∧
       (g.holdVM = some h → h.passed g.govHold g.phase = false → exec (.sagHoldExpiry 0) s = .next s))

/-- The governor's sample (R49, R50, R53, R57): it takes its settings as they are in force, ends the sag requests whose hold has run out and
lets the overrun request fall where that is due; next_x is then the step of R50 towards the largest request, bounded by K_MAX; AT_MAX is
noted where the request passes K_MAX; no other part but the event queue and its flags changes. The step of R50: next_x lies between x and
the target, and no further from x than x / 2^(4 + SLEW). The governor takes the largest of the active requests, and 1.000 where none is
active (R49). -/
def Obligations.GovernorFollowsRequests : Prop :=
  (∀ s : State, s.stitch.running = true →
       let u := s.takeGov.onStitch fun g => g.endHolds.relax
       Answers .governorSample s fun t =>
         t.stitch.xNext = nextX s.stitch.x (min u.largest s.stitch.kMax) s.stitch.slew ∧
           t.stitch.x = s.stitch.x ∧ t.stitch.n = s.stitch.n ∧
           t.stitch.atMax = (s.stitch.atMax || decide (s.stitch.kMax < u.largest)) ∧
           t.stitch.ovrReq = u.stitch.ovrReq ∧ t.stitch.holdVM = u.stitch.holdVM ∧ t.stitch.govHold = s.cfg .gov F.gov_SAG_HOLD ∧
           SameBut [.stitch, .dev, .ev, .ports] s t) ∧
  (∀ x t slew : Nat,
       (x ≤ t * 256 → x ≤ nextX x t slew ∧ nextX x t slew ≤ t * 256 ∧ nextX x t slew ≤ x + x / 2 ^ (4 + slew)) ∧
         (t * 256 ≤ x → t * 256 ≤ nextX x t slew ∧ nextX x t slew ≤ x ∧ x ≤ nextX x t slew + x / 2 ^ (4 + slew))) ∧
  (∀ s : State,
       0x100 ≤ s.largest ∧
         (s.actHost = true → s.stitch.kHost ≤ s.largest) ∧ (s.actVM = true → s.cfg .gov F.gov_K_VM ≤ s.largest) ∧
         (s.actVS = true → s.cfg .gov F.gov_K_VS ≤ s.largest) ∧ (s.actVH = true → s.cfg .gov F.gov_K_VH ≤ s.largest) ∧
         (s.actTherm = true → s.cfg .gov F.gov_K_THERM ≤ s.largest) ∧ (s.actOvr = true → s.stitch.ovrReq ≤ s.largest) ∧
         (s.actHost = false → s.actVM = false → s.actVS = false → s.actVH = false → s.actTherm = false → s.actOvr = false →
           s.largest = 0x100))

/-- A write to STITCH_PERIOD outside 2048..16384 is refused RANGE; one in range while the device starts up or not everything is
at rest is refused STATE; otherwise the period acts at the next boundary (R46). -/
def Obligations.PeriodWriteWaitsForBoundary : Prop :=
  ∀ (p : Fin 2) (w : Word) (s : State),
    ((bits w 14 0 < 2048 ∨ 16384 < bits w 14 0) →
      Answers (.stitchPeriodWrite p w) s fun t => t.stitch = s.stitch ∧ (t.port p).noteCode = rcRange ∧ OnlyPort p s t) ∧
    (2048 ≤ bits w 14 0 → bits w 14 0 ≤ 16384 → (s.startingUp = true ∨ s.periodRest = false) →
      Answers (.stitchPeriodWrite p w) s fun t => t.stitch = s.stitch ∧ (t.port p).noteCode = rcState ∧ OnlyPort p s t) ∧
    (2048 ≤ bits w 14 0 → bits w 14 0 ≤ 16384 → s.startingUp = false → s.periodRest = true →
      Answers (.stitchPeriodWrite p w) s fun t =>
        t.stitch = { s.stitch with newPeriod := some (bits w 14 0) } ∧ SameBut [.stitch] s t)

/-! ### The link -/

/-- Bytes and characters on a host port: a stray byte is counted (R74), each 100 ms opens an error bucket (R91), CTS follows its
pin, CLR_STATS zeroes the statistics (R105), a character decoded from its samples is kept with its
flags while ring and FIFO have room, or lost and told of by the next (R488, R492, R494), and a timeout moves the partial block into
the ring (R493); nothing but that port changes. -/
def Obligations.LinkCountersCount : Prop :=
  ∀ (p : Fin 2) (s : State),
    (s.hears = true → Answers (.strayByte p) s fun t =>
      t.port p = { s.port p with stray := (s.port p).stray + 1 } ∧ OnlyPort p s t) ∧
    (Answers (.errBucketTick p) s fun t =>
      (t.port p).buckets = (0 :: (s.port p).buckets).take 255 ∧ (t.port p).st = (s.port p).st ∧ OnlyPort p s t) ∧
    (Answers (.ctsChange p false) s fun t => t.port p = { s.port p with cts := false } ∧ OnlyPort p s t) ∧
    ((s.port p).upOnAck = false → Answers (.ctsChange p true) s fun t =>
      (t.port p).cts = true ∧ (t.port p).held = [] ∧ ((s.port p).held = [] → (t.port p).wire = (s.port p).wire) ∧ OnlyPort p s t) ∧
    (Answers (.clrStats p) s fun t =>
      (t.port p).crcErr = 0 ∧ (t.port p).fmtErr = 0 ∧ (t.port p).retxOk = 0 ∧ (t.port p).resync = 0 ∧ (t.port p).fallbacks = 0 ∧
        (t.port p).stray = 0 ∧ (t.port p).noise = 0 ∧ (t.port p).buckets = (s.port p).buckets ∧ OnlyPort p s t) ∧
    (∀ (u : Fin 4) (a : BitVec 3) (d q : List (BitVec 3)) (z : BitVec 3) (c : Heard), u.val = p.val → s.hears = true → decodeChar false 0 (charSamples a d q z) = some c →
      (s.port p).rxFill < 3136 → (s.port p).rxFifo.length < 15 →
      Answers (.characterReceived u a d q z) s fun t =>
        (t.port p).rxFifo = (s.port p).rxFifo ++ [element (c.char % 256) c.noise c.ferr (s.port p).rxLost] ∧
          (t.port p).rxRing = (s.port p).rxRing ∧ (t.port p).rxLost = false ∧
          (t.port p).noise = (if c.noise then (s.port p).noise + 1 else (s.port p).noise) ∧ OnlyPort p s t) ∧
    (∀ (u : Fin 4) (a : BitVec 3) (d q : List (BitVec 3)) (z : BitVec 3) (c : Heard), u.val = p.val → s.hears = true → decodeChar false 0 (charSamples a d q z) = some c →
      3136 ≤ (s.port p).rxFill → (s.port p).rxFifo.length < 16 →
      Answers (.characterReceived u a d q z) s fun t =>
        (t.port p).rxLost = true ∧ (t.port p).rxFifo = (s.port p).rxFifo ∧ (t.port p).rxRing = (s.port p).rxRing ∧ OnlyPort p s t) ∧
    (∀ (u : Fin 4) (a : BitVec 3) (d q : List (BitVec 3)) (z : BitVec 3), u.val = p.val → decodeChar false 0 (charSamples a d q z) = none →
      exec (.characterReceived u a d q z) s = .next s) ∧
    (∀ u : Fin 4, u.val = p.val →
      (s.dutyRuns 0 = false ∨ lookAt (s.port p).maxlen ((s.port p).rxRing ++ (s.port p).rxFifo) = .more) →
      Answers (.receiveTimeout u) s fun t =>
        t.port p = { s.port p with rxRing := (s.port p).rxRing ++ (s.port p).rxFifo, rxFifo := [] } ∧ OnlyPort p s t)

/-- A discarded frame is counted by its kind; in UP and SYNC it is a link error of the bucket in progress, and when the window
reaches ERR_LIMIT the port falls back; in HUNT and CONFIRM no link error is counted (R74, R91, R92). -/
def Obligations.DiscardsCountAndFallBack : Prop :=
  ∀ (p : Fin 2) (crc ctl em : Bool) (s : State),
    (s.quietRx p → (s.port p).st = .hunt ∨ (s.port p).st = .confirm →
      Answers (.frameDiscard p crc ctl em) s fun t =>
        (t.port p).crcErr = (if crc then (s.port p).crcErr + 1 else (s.port p).crcErr) ∧
          (t.port p).fmtErr = (if crc then (s.port p).fmtErr else (s.port p).fmtErr + 1) ∧
          (t.port p).buckets = (s.port p).buckets ∧ (t.port p).st = (s.port p).st ∧ OnlyPort p s t) ∧
    (s.quietRx p → (s.port p).st = .up ∨ (s.port p).st = .sync → (s.port p).errored.errCnt < (s.port p).errLimit →
      Answers (.frameDiscard p crc ctl em) s fun t =>
        (t.port p).crcErr = (if crc then (s.port p).crcErr + 1 else (s.port p).crcErr) ∧
          (t.port p).fmtErr = (if crc then (s.port p).fmtErr else (s.port p).fmtErr + 1) ∧
          (t.port p).buckets = (s.port p).errored.buckets ∧ (t.port p).st = (s.port p).st ∧ OnlyPort p s t) ∧
    (s.quietRx p → (s.port p).st = .up ∨ (s.port p).st = .sync → (s.port p).errLimit ≤ (s.port p).errored.errCnt →
      Answers (.frameDiscard p crc ctl em) s fun t =>
        (t.port p).st = .hunt ∧ (t.port p).div = 40 ∧ (t.port p).fallbacks = (s.port p).fallbacks + 1 ∧
          t.dev.linkPend = true ∧ SameBut [.ports, .dev, .ev] s t) ∧
    (Answers (.fallback p) s fun t =>
      (t.port p).st = .hunt ∧ (t.port p).div = 40 ∧ (t.port p).newDiv = none ∧ (t.port p).fellBack = true ∧
        (t.port p).fallbacks = (s.port p).fallbacks + 1 ∧ (t.port p).unacked = (s.port p).unacked ∧
        (t.port p).txq = (s.port p).txq ∧ t.dev.linkPend = true ∧ SameBut [.ports, .dev, .ev] s t)

/-- HELLO outside CONFIRM: refused, it is answered with REV 0 and changes neither revision nor divider nor state; agreed at the
divider in force it leads to UP, and at another one to a HELLO_ACK after which the divider is adopted and the port is in CONFIRM
until a good frame or 5 s (R82, R83, R84); without CONT both spaces start at 0 with nothing unacknowledged (R85). -/
def Obligations.HelloAgreesOrRefuses : Prop :=
  ∀ (p : Fin 2) (w0 w1 : Word) (s : State), s.quietRx p → (s.port p).cts = true →
    let h := agree w0 w1 (s.port p).div (s.port p).upSinceReset
    ((s.port p).st ≠ .confirm → h.rev = 0 →
      Answers (.hello p w0 w1) s fun t =>
        (t.port p).st = (s.port p).st ∧ (t.port p).rev = (s.port p).rev ∧ (t.port p).div = (s.port p).div ∧
          (t.port p).nextRx = (s.port p).nextRx ∧
          (∃ f, (t.port p).wire = [f] ∧ f.typ = tyHelloAck ∧ f.payload.length = 4 ∧ bits (f.payload.getD 0 0) 7 0 = 0) ∧
          SameBut [.ports, .fresh] s t) ∧
    ((s.port p).st ≠ .confirm → h.rev ≠ 0 → h.div = (s.port p).div → h.cont = false →
      Answers (.hello p w0 w1) s fun t =>
        (t.port p).st = .up ∧ (t.port p).rev = h.rev ∧ (t.port p).window = h.window ∧
          (t.port p).maxlen = (if h.rev = 1 then 32 else 128) ∧ (t.port p).div = (s.port p).div ∧
          (t.port p).nextRx = 0 ∧ (t.port p).eNextRx = 0 ∧ (t.port p).nextTx = 0 ∧ (t.port p).unacked = [] ∧
          t.lanes = s.lanes ∧ t.jobs = s.jobs ∧ t.welt = s.welt) ∧
    ((s.port p).st ≠ .confirm → h.rev ≠ 0 → h.div ≠ (s.port p).div →
      Answers (.hello p w0 w1) s fun t =>
        (t.port p).newDiv = some h.div ∧ (t.port p).div = (s.port p).div ∧ (t.port p).st = (s.port p).st ∧
          (t.port p).rev = h.rev) ∧
    (∀ d, (s.port p).newDiv = some d → ((s.port p).held.any fun f => f.typ == tyHelloAck) = false →
      Answers (.dividerAdopt p) s fun t =>
        t.port p = { s.port p with div := d, st := .confirm, newDiv := none } ∧ OnlyPort p s t) ∧
    ((s.port p).newDiv = none → exec (.dividerAdopt p) s = .next s) ∧
    ((s.port p).st = .confirm →
      Answers (.confirmTimeout p) s fun t => t.port p = { s.port p with div := 40, st := .hunt } ∧ OnlyPort p s t) ∧
    ((s.port p).st ≠ .confirm → exec (.confirmTimeout p) s = .next s)

/-- Acknowledgement and the second attempt in UP (R86, R89): an ACK takes the frames before its number away; a NAK or the expiry of T_ACK
sends the unacknowledged frames once more, and a frame lost after its second send leads to SYNC. SYNC is answered with a SYNC_ACK that
names both next expected numbers; SYNC_ACK in SYNC brings the port back to UP and counts in RESYNC; an unanswered SYNC is sent a second
time, and after the second the port falls back (R90). A frame out of order executes nothing (R87, R88): a frame already taken is
acknowledged again, one after a gap is answered with a NAK and its gap counted as a link error once. -/
def Obligations.LinkErrorsAreRepaired : Prop :=
  (∀ (p : Fin 2) (k : BitVec 8) (f : Frame) (rest : List Frame) (s : State), s.quietRx p → (s.port p).cts = true →
       (s.port p).st = .up → (s.port p).unacked = f :: rest →
       ((k - f.seq).toNat ≤ (s.port p).unacked.length →
         Answers (.ack p false k) s fun t =>
           (t.port p).unacked = (s.port p).unacked.drop (k - f.seq).toNat ∧ (t.port p).st = .up ∧ (t.port p).wire = [] ∧
             (t.port p).txq = (s.port p).txq ∧ SameBut [.ports, .ev] s t) ∧
       (f.sends < 2 →
         Answers (.nak p false f.seq) s fun t =>
           (t.port p).unacked = (s.port p).unacked.map (fun g => { g with sends := g.sends + 1, ackseq := (s.port p).nextRx }) ∧
             (t.port p).wire = (t.port p).unacked ∧ (t.port p).st = .up ∧ SameBut [.ports, .ev] s t) ∧
       (2 ≤ f.sends →
         Answers (.nak p false f.seq) s fun t =>
           (t.port p).st = .sync ∧ (t.port p).syncSent = 1 ∧ (t.port p).unacked = (s.port p).unacked ∧
             (∃ g, (t.port p).wire = [g] ∧ g.typ = tySync ∧ g.payload = [(s.port p).syncWord]) ∧
             SameBut [.ports, .dev, .ev] s t) ∧
       (f.sends < 2 → (s.port p).errored.errCnt < (s.port p).errLimit →
         Answers (.ackTimeout p false) s fun t =>
           (t.port p).unacked = (s.port p).unacked.map (fun g => { g with sends := g.sends + 1, ackseq := (s.port p).nextRx }) ∧
             (t.port p).wire = (t.port p).unacked ∧ (t.port p).buckets = (s.port p).errored.buckets ∧ OnlyPort p s t)) ∧
  (∀ (p : Fin 2) (w : Word) (s : State), s.quietRx p → (s.port p).cts = true →
       ((s.port p).st = .up ∨ (s.port p).st = .sync →
         Answers (.sync p w) s fun t =>
           (∃ g more, (t.port p).wire = g :: more ∧ g.typ = tySyncAck ∧ g.payload = [(s.port p).syncWord]) ∧
             (t.port p).st = (s.port p).st ∧ (t.port p).nextRx = (s.port p).nextRx ∧ SameBut [.ports, .ev] s t) ∧
       ((s.port p).st = .sync →
         Answers (.syncAck p w) s fun t =>
           (t.port p).st = .up ∧ (t.port p).resync = (s.port p).resync + 1 ∧ (t.port p).resynced = true ∧
             SameBut [.ports, .ev] s t) ∧
       ((s.port p).st = .sync → (s.port p).syncSent < 2 → (s.port p).errored.errCnt < (s.port p).errLimit →
         Answers (.syncTimeout p) s fun t =>
           (t.port p).st = .sync ∧ (t.port p).syncSent = 2 ∧
             (∃ g, (t.port p).wire = [g] ∧ g.typ = tySync ∧ g.payload = [(s.port p).syncWord]) ∧ OnlyPort p s t) ∧
       ((s.port p).st = .sync → 2 ≤ (s.port p).syncSent → (s.port p).errored.errCnt < (s.port p).errLimit →
         Answers (.syncTimeout p) s fun t =>
           (t.port p).st = .hunt ∧ (t.port p).div = 40 ∧ t.dev.linkPend = true ∧ SameBut [.ports, .dev, .ev] s t)) ∧
  (∀ (p : Fin 2) (seq k : BitVec 8) (ws : List Word) (s : State), s.quietRx p → (s.port p).cts = true →
       (s.port p).st = .up → ws.length ≤ (s.port p).maxlen →
       let d := (seq - (s.port p).nextRx).toNat
       (240 ≤ d → Answers (.regWr p seq k ws) s fun t =>
         (t.port p).nextRx = (s.port p).nextRx ∧ (t.port p).txq = (s.port p).txq ∧
           (∃ g, (t.port p).wire = [g] ∧ g.typ = tyAck ∧ g.ackseq = (s.port p).nextRx) ∧ SameBut [.ports, .ev] s t) ∧
       (0 < d → d < 240 → (s.port p).errored.errCnt < (s.port p).errLimit →
         Answers (.regWr p seq k ws) s fun t =>
           (t.port p).nextRx = (s.port p).nextRx ∧ (t.port p).txq = (s.port p).txq ∧
             (∃ g, (t.port p).wire = [g] ∧ g.typ = tyNak ∧ g.ackseq = (s.port p).nextRx) ∧
             (t.port p).buckets =
               (if (s.port p).errSince then (s.port p).buckets else (s.port p).errored.buckets) ∧
             SameBut [.ports, .ev] s t))

/-- A request in order in UP takes its number and is answered by one RSP (R76, R77, R78): REG_RD and TBL_RD with one value for each
read; REG_WR, JOB_WR, TBL_WR and a REG_WR of the EMERGENCY space by running their operations in payload order, DONE or REFUSED with
the first refusal; a TYPE the revision does not know with UNSUPPORTED and nothing executed. -/
def Obligations.RequestsInOrderAreAnswered : Prop :=
  ∀ (p : Fin 2) (k : BitVec 8) (ws : List Word) (s : State), s.quietRx p →
    (s.port p).st = .up → ws.length ≤ (s.port p).maxlen →
    let n := (s.port p).nextRx
    let m := (s.port p).eNextRx
    (framePayloadOk tyRegRd (s.port p).maxlen false ws = true →
      Answers (.regRd p n k ws) s fun t =>
        (t.port p).nextRx = n + 1 ∧
          ∃ data, data.length = ws.length ∧
            (t.port p).txq = (s.port p).txq ++ [⟨tyRsp, false, 0, 0, rspWord lsDone 0 0 n.toNat :: data, 0, [], none⟩]) ∧
    (2 ≤ (s.port p).rev → framePayloadOk tyTblRd (s.port p).maxlen false ws = true →
      Answers (.tblRd p n k ws) s fun t =>
        (t.port p).nextRx = n + 1 ∧
          ∃ data, data.length = (ws.getD 1 0).toNat ∧
            (t.port p).txq = (s.port p).txq ++ [⟨tyRsp, false, 0, 0, rspWord lsDone 0 0 n.toNat :: data, 0, [], none⟩]) ∧
    (framePayloadOk tyRegWr (s.port p).maxlen false ws = true →
      let r := (s.accepted p false k).run p tyRegWr n.toNat false false ws
      r.waits = 0 →
        exec (.regWr p n k ws) s = .next
          ((r.s.queueRsp p false
            (rspWord (if r.rcode = 0 then lsDone else lsRefused) r.rcode r.ridx n.toNat :: r.data)).ackAlone p false)) ∧
    (2 ≤ (s.port p).rev → framePayloadOk tyTblWr (s.port p).maxlen false ws = true →
      let r := (s.accepted p false k).run p tyTblWr n.toNat false false ws
      r.waits = 0 →
        exec (.tblWr p n k ws) s = .next
          ((r.s.queueRsp p false
            (rspWord (if r.rcode = 0 then lsDone else lsRefused) r.rcode r.ridx n.toNat :: r.data)).ackAlone p false)) ∧
    (2 ≤ (s.port p).rev → framePayloadOk tyJobWr (s.port p).maxlen false ws = true →
      let r := (s.accepted p false k).run p tyJobWr n.toNat false false ws
      r.waits = 0 →
        exec (.jobWr p n k false ws) s = .next
          ((r.s.queueRsp p false
            (rspWord (if r.rcode = 0 then lsDone else lsRefused) r.rcode r.ridx n.toNat :: r.data)).ackAlone p false)) ∧
    (2 ≤ (s.port p).rev → framePayloadOk tyRegWr (s.port p).maxlen true ws = true →
      let r := (s.accepted p true k).run p tyRegWr m.toNat true false ws
      r.waits = 0 →
        exec (.emergencyRegWr p 0x11 m k ws) s = .next
          ((r.s.queueRsp p true
            (rspWord (if r.rcode = 0 then lsDone else lsRefused) r.rcode r.ridx m.toNat :: r.data)).ackAlone p true)) ∧
    (∀ typ : BitVec 8, isControl typ.toNat = false → hostRequest (s.port p).rev typ.toNat = false →
      Answers (.unsupportedFrame p typ n k) s fun t =>
        (t.port p).nextRx = n + 1 ∧
          (t.port p).txq = (s.port p).txq ++ [⟨tyRsp, false, 0, 0, [rspWord lsUnsupported 0 0 n.toNat], 0, [], none⟩] ∧
          SameBut [.ports, .ev] s t)

/-- Sequenced frames leave where flow control, the window and the state allow it, each with the next number of its space, and wait for
their acknowledgement: an RSP, a deferred RSP once its job is decided, events due to the port in NORMAL or EMERGENCY frames (R78,
R79, R86, R94). -/
def Obligations.FramesLeaveInTurn : Prop :=
  ∀ (p : Fin 2) (s : State), s.uartsRun = true → (s.port p).maySend = true →
    (∀ f rest, (s.port p).eTxq = [] → s.emergDue p = [] → (s.port p).txq = f :: rest → f.emerg = false →
      (s.port p).unacked.length < (s.port p).window → (s.port p).fbPend = none →
      Answers (.rspSend p) s fun t =>
        (t.port p).txq = rest ∧ (t.port p).nextTx = (s.port p).nextTx + 1 ∧
          (∃ g, (t.port p).wire = [g] ∧ g.seq = (s.port p).nextTx ∧ g.payload = f.payload ∧
            (t.port p).unacked = (s.port p).unacked ++ [g]) ∧ OnlyPort p s t) ∧
    (∀ d, (s.port p).eTxq = [] → s.emergDue p = [] → (s.port p).txq = [] → (s.port p).unacked.length < (s.port p).window →
      ((s.port p).deferred.find? fun d => 3 ≤ d.2.2.code) = some d →
      Answers (.outcomeResponse p) s fun t =>
        (t.port p).nextTx = (s.port p).nextTx + 1 ∧ (t.port p).deferred = (s.port p).deferred.erase d ∧
          (∃ g, (t.port p).wire = [g] ∧ g.typ = tyRsp ∧ g.seq = (s.port p).nextTx ∧
            g.payload = [rspWord lsDone 0 0 d.1, d.2.2.word] ∧ (t.port p).unacked = (s.port p).unacked ++ [g]) ∧
          OnlyPort p s t) ∧
    (∀ d f rest, (s.port p).txq = f :: rest → ((s.port p).deferred.find? fun d => 3 ≤ d.2.2.code) = some d →
      Answers (.outcomeResponse p) s fun t =>
        (t.port p).deferred = (s.port p).deferred.erase d ∧
          (t.port p).txq = (s.port p).txq ++ [⟨tyRsp, false, 0, 0, [rspWord lsDone 0 0 d.1, d.2.2.word], 0, [], none⟩] ∧
          OnlyPort p s t) ∧
    (∀ es, es = takeFitting (s.port p).maxlen (s.ev.entries.filter fun e => e.cls != 1 && e.dueP p && !e.flyP p) →
      (s.port p).eTxq = [] → s.emergDue p = [] → (s.port p).unacked.length < (s.port p).window → (s.port p).evtStream = true →
      2 ≤ (s.port p).rev → es ≠ [] →
      Answers (.evtSend p) s fun t =>
        (t.port p).nextTx = (s.port p).nextTx + 1 ∧
          (∃ g, (t.port p).wire = [g] ∧ g.typ = tyEvt ∧ g.emerg = false ∧ g.payload = es.flatMap Event.words ∧
            (t.port p).unacked = (s.port p).unacked ++ [g]) ∧ SameBut [.ports, .ev] s t) ∧
    (∀ es, es = takeFitting (s.port p).maxlen (s.emergDue p) →
      2 ≤ (s.port p).rev → (s.port p).eUnacked.length < 2 → (s.port p).eTxq = [] → es ≠ [] →
      Answers (.emergencyEvtSend (p, none)) s fun t =>
        (t.port p).eNextTx = (s.port p).eNextTx + 1 ∧
          (∃ g, (t.port p).wire = [g] ∧ g.typ = tyEvt ∧ g.emerg = true ∧ g.payload = es.flatMap Event.words ∧
            (t.port p).eUnacked = (s.port p).eUnacked ++ [g]) ∧ SameBut [.ports, .ev] s t) ∧
    (∀ es f k, es = takeFitting (s.port p).maxlen (s.emergDue p) →
      2 ≤ (s.port p).rev → (s.port p).eUnacked.length < 2 → (s.port p).eTxq = [] → es ≠ [] → (s.port p).abandoned k = some f →
      Answers (.emergencyEvtSend (p, some k)) s fun t =>
        (t.port p).eNextTx = (s.port p).eNextTx + 1 ∧
          (∃ g, (t.port p).wire = [{ f with cut := some k }, g, f] ∧ g.typ = tyEvt ∧ g.emerg = true ∧
            g.payload = es.flatMap Event.words ∧ (t.port p).eUnacked = (s.port p).eUnacked ++ [g]) ∧ SameBut [.ports, .ev] s t)

/-! ### Registers, the table window, events -/

/-- A write of a direct register: SCRATCH and TBL_ADDR take the value, a read-only register is left alone, an unmapped number is
refused UNMAPPED and changes only the refusal kept at the port (R106, R112, R115); CLR_CNT zeroes the counters of R120 and R121. -/
def Obligations.DirectRegisterWrites : Prop :=
  ∀ (p : Fin 2) (w : Word) (s : State),
    (Answers (.registerWrite p 0x3F w) s fun t => t.dev = { s.dev with scratch := w } ∧ SameBut [.dev] s t) ∧
    (Answers (.registerWrite p 0x0C w) s fun t =>
      t.port p = { s.port p with tblAddr := BitVec.ofNat 24 (bits w 23 0) } ∧ OnlyPort p s t) ∧
    (∀ r ∈ [0x00, 0x05, 0x09, 0x0A, 0x0B, 0x0F, 0x13, 0x15, 0x16, 0x17, 0x31], exec (.registerWrite p r w) s = .next s) ∧
    (∀ r : BitVec 6, 0x32 ≤ r.toNat → r.toNat < 0x3F →
      Answers (.registerWrite p r w) s fun t =>
        (t.port p).noteCode = rcUnmapped ∧ (t.port p).refusedBit = true ∧ OnlyPort p s t) ∧
    (Answers (.clrCnt p) s fun t =>
      t.dev.missed = 0 ∧ t.dev.missedAll = 0 ∧ t.dev.coreTr = Vector.replicate 2 0 ∧ t.dev.sramTr = Vector.replicate 2 0 ∧
        t.dev.flashTr = Vector.replicate 2 0 ∧ t.dev.fabricTr = 0 ∧ t.dev.st = s.dev.st ∧ t.dev.transient = s.dev.transient ∧
        SameBut [.dev] s t)

/-- The table window (R111, R113, R115): a read returns the word and an unmapped one zero with a note; a write of a shadowed word goes
to the shadow copy and joins the port's pending set while the value in force stays; a write to the asset words is refused READONLY
and one to an unmapped address UNMAPPED; the address advances under AUTOINC in every case. -/
def Obligations.TableWindowAccess : Prop :=
  ∀ (p : Fin 2) (w : Word) (s : State),
    let a := (s.port p).tblAddr
    let next := if (s.port p).autoinc then a + 1 else a
    (region a.toNat = none →
      Answers (.tblDataRead p) s fun t =>
        (t.port p).rdata = 0 ∧ (t.port p).noteCode = noteUnmappedRd ∧ (t.port p).tblAddr = next ∧ OnlyPort p s t) ∧
    (∀ k, region a.toNat = some (.gov, k) → mapped a.toNat = true →
      Answers (.tblDataRead p) s fun t =>
        (t.port p).rdata = s.tbl.shadow.get (Obj.gov.base + k) ||| s.statusWord .gov k ∧ (t.port p).tblAddr = next ∧
          OnlyPort p s t) ∧
    (0x400000 ≤ a.toNat → a.toNat < 0x5F8000 →
      Answers (.tblDataWrite p w) s fun t =>
        (t.port p).noteCode = rcReadonly ∧ (t.port p).tblAddr = next ∧ OnlyPort p s t) ∧
    (region a.toNat = none → (a.toNat < 0x400000 ∨ 0x5F8000 ≤ a.toNat) →
      Answers (.tblDataWrite p w) s fun t =>
        (t.port p).noteCode = rcUnmapped ∧ (t.port p).tblAddr = next ∧ OnlyPort p s t) ∧
    (∀ o k, region a.toNat = some (o, k) → mapped a.toNat = true → shadowed (o.base + k) = true → 2 ≤ (s.port p).rev →
      (a.toNat < 0x400000 ∨ 0x5F8000 ≤ a.toNat) → o.base + k ≠ bindingAddr 0 → o.base + k ≠ bindingAddr 1 →
      Answers (.tblDataWrite p w) s fun t =>
        t.tbl.shadow = s.tbl.shadow.set (o.base + k) (mergeStored (o.base + k) (s.tbl.shadow.get (o.base + k)) w) ∧
          t.tbl.force = s.tbl.force ∧ o.base + k ∈ (t.port p).pend ∧ (t.port p).tblAddr = next ∧ SameBut [.tbl, .ports] s t)

/-- COMMIT is refused STATE while the device starts up or not everything the rest conditions name is at rest, RANGE where a pending
word leaves its range, BINDING where bindings that become pending break R24 (the code is the model's choice, log 14; that RANGE is
judged first log 13); otherwise the words are adopted, at once or at the boundary R20 gives them, and the pending set is empty. DISCARD
leaves what is in force and empties the set (R113). -/
def Obligations.CommitAdoptsOrRefuses : Prop :=
  ∀ (p : Fin 2) (s : State),
    let ws := (s.port p).pend
    let st := s.candidate p
    let bad : Bool := (ws.contains (bindingAddr 0) || ws.contains (bindingAddr 1)) && st.bindingsBroken
    let refused (c : Nat) (t : State) : Prop := (t.port p).noteCode = c ∧ (t.port p).pend = ws ∧ OnlyPort p s t
    (s.startingUp = true → Answers (.commit p) s (refused rcState)) ∧
    (s.startingUp = false → ws.all (st.inRange s.stitch.period) = false → Answers (.commit p) s (refused rcRange)) ∧
    (s.startingUp = false → ws.all (st.inRange s.stitch.period) = true → bad = true →
      Answers (.commit p) s (refused rcBinding)) ∧
    (s.startingUp = false → ws.all (st.inRange s.stitch.period) = true → bad = false → ws.all (s.atRestFor st) = false →
      Answers (.commit p) s (refused rcState)) ∧
    (s.startingUp = false → ws.all (st.inRange s.stitch.period) = true → bad = false → ws.all (s.atRestFor st) = true →
      Answers (.commit p) s fun t =>
        (t.port p).pend = [] ∧ t.tbl.shadow = s.tbl.shadow ∧
          (∀ a ∈ ws, atBoundary a = true → (a, s.tbl.shadow.get a) ∈ t.tbl.due) ∧
          (s.tbl.force.wf = true → ∀ a, t.tbl.force.get a =
            if ws.contains a && !atBoundary a then s.tbl.shadow.get a else s.tbl.force.get a) ∧
          t.stitch = s.stitch ∧ t.lanes = s.lanes ∧ t.jobs = s.jobs ∧ t.pending = s.pending) ∧
    (Answers (.discard p) s fun t =>
      (t.port p).pend = [] ∧ t.tbl.force = s.tbl.force ∧ t.tbl.due = s.tbl.due ∧
        (s.tbl.shadow.wf = true → ∀ a, t.tbl.shadow.get a =
          if ws.contains a then s.soon.get a else s.tbl.shadow.get a) ∧ SameBut [.tbl, .ports] s t)

/-- A read of EVENT_POP returns the arguments that wait, else the word of the next event due to the port, which is then no longer due
to it, else the NONE word (R124, R126); the oldest held-back event moves into the queue where its entries are free, and the others
after it in order; EVENT_LOST reports the count of lost events to its port once there is room (R125). -/
def Obligations.EventsReachThePort : Prop :=
  ∀ (p : Fin 2) (s : State),
    (∀ w rest, (s.port p).popArgs = w :: rest →
      Answers (.eventPop p) s fun t => (t.port p).rdata = w ∧ (t.port p).popArgs = rest ∧ OnlyPort p s t) ∧
    (∀ e, (s.port p).popArgs = [] → s.nextEvent p = some e →
      Answers (.eventPop p) s fun t =>
        (t.port p).rdata = e.word ∧ (t.port p).popArgs = e.args ∧ (∀ d ∈ t.ev.entries, d.id = e.id → d.dueP p = false) ∧
          SameBut [.ports, .ev] s t) ∧
    ((s.port p).popArgs = [] → s.nextEvent p = none →
      Answers (.eventPop p) s fun t =>
        (t.port p).rdata = (field 19 15 31 ||| field 14 0 s.stamp) ∧ (t.port p).popArgs = [] ∧ OnlyPort p s t) ∧
    (∀ e rest, s.ev.store = e :: rest → s.ev.otherUsed + e.size ≤ 224 →
      Answers .heldBackEventQueue s fun t =>
        t.ev.store <:+ rest ∧ (rest = [] → t.ev.entries = if e.due then s.ev.entries ++ [e] else s.ev.entries) ∧
          SameBut [.ev, .dev, .ports] s t) ∧
    (s.ev.store = [] → exec .heldBackEventQueue s = .next s) ∧
    ((s.port p).lost ≠ 0 → s.ev.otherUsed + 2 ≤ 224 →
      Answers (.eventLost p) s fun t =>
        (t.port p).lost = 0 ∧
          (∃ e, t.ev.entries = s.ev.entries ++ [e] ∧ e.cls = 14 ∧ e.code = 1 ∧ e.args = [BitVec.ofNat 36 (s.port p).lost] ∧
            e.dueP p = true ∧ e.dueP (1 - p.val) = false) ∧ SameBut [.ports, .dev, .ev] s t) ∧
    ((s.port p).lost = 0 → exec (.eventLost p) s = .next s)

/-! ### Jobs, ownership, stops -/

/-- Words written to JOB_WIN (R138, R127): a JOB_BEGIN header opens a job, a word while none is open is rejected as INVALID and a word
of an open job that does not close it is appended; no other part changes. -/
def Obligations.JobWordsAssemble : Prop :=
  ∀ (p : Fin 2) (w : Word) (s : State),
    let a := (s.port p).asm
    ((a.isOpen = false ∨ a.left = 0) → hdrType w = tJobBegin →
      Answers (.jobWinWrite p w) s fun t =>
        (t.port p).asm.isOpen = true ∧ (t.port p).asm.words = [w] ∧ (t.port p).jobStat = ⟨1, bits w 7 0, 0⟩ ∧ OnlyPort p s t) ∧
    (a.isOpen = false → hdrType w ≠ tJobBegin →
      Answers (.jobWinWrite p w) s fun t =>
        (t.port p).asm = a ∧ (t.port p).jobStat = ⟨4, 0, rejectInfo 0 31⟩ ∧ OnlyPort p s t) ∧
    (a.isOpen = true → (a.take w).2 = false → ¬ (a.left = 0 ∧ hdrType w = tJobBegin) →
      Answers (.jobWinWrite p w) s fun t =>
        (t.port p).asm.words = a.words ++ [w] ∧ (t.port p).asm.isOpen = true ∧ (t.port p).jobStat = (s.port p).jobStat ∧
          OnlyPort p s t) ∧
    (a.isOpen = true → (a.take w).2 = true → s.pendingJobs p < 8 →
      Answers (.jobWinWrite p w) s fun t =>
        (∃ b, t.jobs.batch = s.jobs.batch ++ [b] ∧ b.stitch = s.stitch.n ∧ b.port = p.val) ∧ (t.port p).asm.isOpen = false ∧
          (t.port p).jobStat = ⟨2, a.tag, 0⟩ ∧ SameBut [.ports, .jobs] s t)

/-- CLAIM and RELEASE join the batch of their stitch once the device is up and are refused STATE before (R116, R129, R147); the batch of a
stitch that has ended gives free lanes to the port that claims them, refuses OWNER a claim on a lane of the other port, takes from a port
what it releases; the pacing of a decision ends with DECISION_PACING and the batch is resolved on (R166). A closed job is decided in its
turn (R144, R164, R166): one that passes every check takes the next number and its JOB entry waits to be written; one that fails a check
is rejected with the code of its first failure; a decision starts the pacing. -/
def Obligations.BatchDecidesJobsAndLanes : Prop :=
  (∀ (p : Fin 2) (mask : BitVec 19) (s : State),
       (s.dev.st = .ready ∨ s.dev.st = .safe → (s.port p).rev ≠ 1 →
         Answers (.claim p mask) s fun t =>
           t.jobs.batch = s.jobs.batch ++ [⟨s.stitch.n, p, .claim mask.toNat none⟩] ∧ t.lanes = s.lanes ∧ SameBut [.jobs] s t) ∧
       (s.dev.st = .ready ∨ s.dev.st = .safe →
         Answers (.release p mask) s fun t =>
           t.jobs.batch = s.jobs.batch ++ [⟨s.stitch.n, p, .release mask.toNat none⟩] ∧ t.lanes = s.lanes ∧ SameBut [.jobs] s t) ∧
       (s.dev.st = .boot ∨ s.dev.st = .recovery →
         (Answers (.claim p mask) s fun t => (t.port p).noteCode = rcState ∧ OnlyPort p s t) ∧
           (Answers (.release p mask) s fun t => (t.port p).noteCode = rcState ∧ OnlyPort p s t)) ∧
       (∀ k, k < s.stitch.n → s.mayDecide = true → s.jobs.batch = [⟨k, p, .claim mask.toNat none⟩] →
         (∀ i ∈ maskList 19 mask.toNat, s.ownerSeen i ≠ 2 - p.val) →
         Answers .batchResolve s fun t =>
           t.jobs.batch = [] ∧ (∀ i ∈ maskList 19 mask.toNat, (t.lane i).owner = p.val + 1) ∧
             (∀ i, i ∉ maskList 19 mask.toNat → t.lane i = s.lane i) ∧ SameBut [.jobs, .lanes] s t) ∧
       (∀ k i, k < s.stitch.n → s.mayDecide = true → s.jobs.batch = [⟨k, p, .claim mask.toNat none⟩] →
         i ∈ maskList 19 mask.toNat → s.ownerSeen i = 2 - p.val →
         Answers .batchResolve s fun t =>
           t.jobs.batch = [] ∧ t.lanes = s.lanes ∧ (t.port p).noteCode = rcOwner ∧ SameBut [.jobs, .ports] s t) ∧
       (∀ k, k < s.stitch.n → s.mayDecide = true → s.jobs.batch = [⟨k, p, .release mask.toNat none⟩] →
         Answers .batchResolve s fun t =>
           t.jobs.batch = [] ∧ (∀ i ∈ maskList 19 mask.toNat, (t.lane i).owner ≠ p.val + 1) ∧
             (∀ i, i ∉ maskList 19 mask.toNat → t.lane i = s.lane i) ∧ SameBut [.jobs, .lanes] s t) ∧
       (s.jobs.batch = [] → exec .decisionPacing s = .next (s.onJobs fun j => { j with pacing := false })) ∧
       (exec .decisionPacing s = .next (s.onJobs fun j => { j with pacing := false }).resolve)) ∧
  (∀ (c : Closed) (k : Nat) (s : State),
       k < s.stitch.n → s.mayDecide = true → s.jobs.pacing = false → s.ev.paused = false → s.jobs.batch = [⟨k, c.port, .job c⟩] →
       (s.judge c = none → s.jobs.decided ≠ BitVec.allOnes 36 →
         Answers .batchResolve s fun t =>
           t.jobs.batch = [] ∧ t.jobs.decided = s.jobs.decided + 1 ∧ t.jobs.pacing = true ∧
             t.welt.wq = s.welt.wq ++ 
               [⟨entryWords 2 s.welt.jepoch c.port (s.jobs.decided + 1) c.words, .accept c (jobRecords c.words)⟩] ∧
             t.jobs.table = s.jobs.table ∧ SameBut [.jobs, .welt] s t) ∧
       (∀ code idx lane, s.judge c = some (code, idx, lane) → c.port < 2 → (s.port c.port).asm.ser = c.ser →
         Answers .batchResolve s fun t =>
           t.jobs.batch = [] ∧ t.jobs.decided = s.jobs.decided ∧ t.jobs.pacing = true ∧
             (t.port c.port).jobStat = ⟨code, c.tag, rejectInfo idx lane⟩ ∧ t.welt = s.welt ∧ SameBut [.jobs, .ports] s t))

/-- Stops and deadlines: STOP asks for the stop of its lanes and changes nothing else in its stitch (R150); the timeout of a running record
stops its lane, or, where the lane is STOPPED already, only raises its event (R143); the timeout of a waiting fence breaks it (R153, R155) and that of a RE_ADMIT returns its lanes to FAULT; before
it is due a timeout does nothing. -/
def Obligations.StopsAndTimeouts : Prop :=
  ∀ s : State,
    (∀ (p : Fin 2) (i : Fin 19) (mask : BitVec 19),
      Answers (.stop p i mask) s fun t =>
        t.jobs.stops = s.jobs.stops ++ [(s.stitch.n, if mask = 0 then 2 ^ i.val else mask.toNat)] ∧ t.lanes = s.lanes ∧
          SameBut [.jobs] s t) ∧
    (∀ (i : Fin 19) q d, (s.lane i).running = some q → s.jobs.deadlines = [(q.job, q.idx, d)] → d < s.nextPh →
      (s.lane i).inService = true → (s.lane i).stopping = false →
      Answers (.recordTimeout i) s fun t =>
        t.jobs.deadlines = [] ∧ (t.lane i).stopCause = 5 ∧ ((t.lane i).stopping = true ∨ (t.lane i).state = .stopped)) ∧
    (∀ (i : Fin 19) q d, (s.lane i).running = some q → s.jobs.deadlines = [(q.job, q.idx, d)] → d < s.nextPh →
      (s.lane i).state = .stopped → (s.lane i).stopping = false →
      Answers (.recordTimeout i) s fun t =>
        t.jobs = { s.jobs with deadlines := [] } ∧ t.lanes = s.lanes ∧ SameBut [.jobs, .ev, .dev, .ports] s t) ∧
    (∀ i : Fin 19, (∀ d ∈ s.jobs.deadlines, s.nextPh ≤ d.2.2) → exec (.recordTimeout i) s = .next s) ∧
    (∀ d j, s.jobs.deadlines = [d] → d.2.2 < s.nextPh → s.job? d.1 = some j → (d.2.1, FenceState.waiting) ∈ j.fences →
      Answers .fenceTimeout s fun t =>
        t.jobs.deadlines = [] ∧ t.jobs.brokenCount = s.jobs.brokenCount + 1 ∧ t.lanes = s.lanes) ∧
    (∀ d q, s.jobs.deadlines = [d] → d.2.2 < s.nextPh → s.item? d.1 d.2.1 = some q → q.r.typ = tReAdmit →
      Answers .readmitTimeout s fun t =>
        t.jobs.deadlines = [] ∧ ∀ i < 19, (s.lane i).raRec = some (d.1, d.2.1) → (t.lane i).state ≠ .readmit) ∧
    (s.jobs.deadlines = [] → exec .fenceTimeout s = .next s ∧ exec .readmitTimeout s = .next s)

/-! ### Releases -/

/-- A record at the head of a head lane whose release nothing holds back is taken off the queue and runs (R22, R141): PRINT waits for its
first line (R236), a plain FEED moves the feed axis by its distance (R288), CUT begins with its first try (R298), SCAN measures from
the first dot (R252), PATTERN 2 lays its lines out (R295); each record is the lane's only release in the stitch. -/
def Obligations.HeadRecordsStart : Prop :=
  ∀ (x : Fin 2) (q : QItem) (s : State),
    (s.releasable x tPrint q → s.feedBound x = true → s.masterFaulted x = false → s.pathBlocked x tPrint = false →
      (s.recStatus q.job q.idx).copies < q.r.copies → (s.head x).step = .run → (s.head x).follow = false →
      Answers (.printRelease x) s fun t =>
        s.tookRecord t x q ∧ (t.head x).later = some (q.job, q.idx) ∧ (t.head x).step = .run ∧ t.axes = s.axes) ∧
    (s.releasable x tPrint q → s.feedBound x = true → s.masterFaulted x = false → s.pathBlocked x tPrint = false →
      (s.recStatus q.job q.idx).copies < q.r.copies → (s.head x).step ≠ .run →
      Answers (.printRelease x) s fun t =>
        s.tookRecord t x q ∧ (t.head x).step = .wait ∧ (t.head x).job = q.job ∧ (t.head x).idx = q.idx ∧
          (t.head x).typ = tPrint ∧ (t.head x).copies = q.r.copies ∧ (t.head x).vhen = true ∧ t.axes = s.axes) ∧
    (s.releasable x tFeed q → s.feedBound x = true → s.pathBlocked x tFeed = false → bits (q.r.w 1) 35 34 ≠ 1 →
      (s.head x).step ≠ .run → s.blocked (s.feedAx x) (signed 32 (bits (q.r.w 1) 31 0) < 0) none = false → s.feedAx x < 12 →
      Answers (.feedRelease x) s fun t =>
        s.tookRecord t x q ∧ (t.head x).step = .feed ∧ (t.head x).typ = tFeed ∧ (t.head x).job = q.job ∧
          (t.ax (s.feedAx x)).mode = .move ∧
          (t.ax (s.feedAx x)).tgt = (s.ax (s.feedAx x)).pos + signed 32 (bits (q.r.w 1) 31 0) ∧ t.chans = s.chans) ∧
    (s.releasable x tCut q → s.cfgB (.head x) F.hb_CLK_EN = true → s.cfg (.ax (s.clkAx x)) F.ax_KIND = 1 →
      (s.head x).step ≠ .run →
      Answers (.cutRelease x) s fun t =>
        (t.lane x).queue = (s.lane x).queue.drop 1 ∧ (t.lane x).running = some q ∧ (t.lane x).relStitch = s.stitch.n + 1 ∧
          (t.head x).typ = tCut ∧ (t.head x).job = q.job ∧ (t.head x).cutTry = 1 ∧
          (t.head x).cutPart = decide (bits (q.r.w 1) 35 32 = 1)) ∧
    (s.releasable x tScan q →
      Answers (.scanRelease x) s fun t =>
        s.tookRecord t x q ∧ (t.head x).step = .scan ∧ (t.head x).sstate = 1 ∧ (t.head x).skind = 1 ∧ (t.head x).measured = 0 ∧
          (t.head x).vhen = true ∧ t.axes = s.axes) ∧
    (s.releasable x tPattern q → s.feedBound x = true → s.pathBlocked x tPattern = false → bits (q.r.w 1) 3 0 = 2 →
      (s.head x).step ≠ .run →
      Answers (.patternRelease x) s fun t =>
        s.tookRecord t x q ∧ (t.head x).step = .wait ∧ (t.head x).typ = tPattern ∧ (t.head x).pattern = 2 ∧
          (t.head x).dl.length = (s.head x).dl.length + 1 ∧ t.axes = s.axes)

/-- A record at the head of an axis lane whose release nothing holds back runs: MOVE toward its target, relative or absolute in the axis's
coordinate (R311), HOME in its slot with its first try (R318), GEAR onto its master at once (R325), DC_RUN for its duration (R345); on an
axis of another kind the lane faults with the record held (R305). A record of a solenoid bank or of AUX whose release nothing holds back
runs: SOL_RUN on an enabled cool channel takes its profile and its start phase and steps aside (R367), SOL_DIAG puts the masked enabled
channels into DIAG (R384), AUX_XFER sends its bytes (R500), NOTE ends with its release (R141); LANE_OUT that has come to the head of a
clear lane takes the lane OUT (R154). -/
def Obligations.LaneRecordsStart : Prop :=
  (∀ (n : Fin 12) (q : QItem) (s : State),
       let i := n.val + 2
       let d := (q.r.w 2).toInt
       let dist := if bits (q.r.w 1) 35 34 = 1 then (q.r.w 2 - (s.ax n).posWord).toInt else d
       (s.releasable i tMove q → s.cfg (.ax n) F.ax_KIND = 1 → (bits (q.r.w 1) 35 34 = 1 → (s.ax n).posOk = true) →
         dist.natAbs < 2 ^ 34 → s.blocked n (dist < 0) none = false →
         Answers (.moveRelease n) s fun t =>
           s.tookRecord t i q ∧ (t.ax n).mode = .move ∧ (t.ax n).tgt = (s.ax n).pos + dist ∧ (t.ax n).pos = (s.ax n).pos ∧
             (t.ax n).vel = 0 ∧ t.heads = s.heads ∧ t.chans = s.chans) ∧
       (s.releasable i tHome q → s.cfg (.ax n) F.ax_KIND = 1 →
         Answers (.homeRelease n) s fun t =>
           s.tookRecord t i q ∧ (t.ax n).mode = .home ∧ (t.ax n).hslot = bits (q.r.w 1) 2 0 ∧ (t.ax n).htry = 1 ∧
             (t.ax n).hcheck = false ∧ t.heads = s.heads ∧ t.chans = s.chans) ∧
       (s.releasable i tGear q → s.cfg (.ax n) F.ax_KIND = 1 → bits (q.r.w 1) 35 34 ≠ 2 → bit (q.r.w 1) 25 = false →
         (bits (q.r.w 1) 33 30 = 1 → s.gearLoops n 12 (bits (q.r.w 1) 29 26) = false) → s.masterBroken ⟨bits (q.r.w 1) 33 30, bits (q.r.w 1) 29 26, d⟩ = false →
         Answers (.gearRelease n) s fun t =>
           s.tookRecord t i q ∧ (t.ax n).mode = .gear ∧ (t.ax n).gstate = .geared ∧
             (t.ax n).gear = ⟨bits (q.r.w 1) 33 30, bits (q.r.w 1) 29 26, d⟩ ∧
             (t.ax n).x0 = (if (s.ax n).mode = .gear then (s.ax n).x0 else (s.ax n).pos) ∧ t.heads = s.heads) ∧
       (s.releasable i tDcRun q → s.cfg (.ax n) F.ax_KIND = 2 →
         Answers (.dcRunRelease n) s fun t =>
           s.tookRecord t i q ∧ (t.ax n).dcEnd = some (s.nowPh + 4096 + phOf (q.r.w 2)) ∧ (t.ax n).dcBridge = bit (q.r.w 1) 35 ∧
             t.heads = s.heads ∧ t.chans = s.chans)) ∧
  (∀ (q : QItem) (s : State),
       (∀ b : Fin 4, let i := b.val + 14
         let c := 8 * b.val + bits (q.r.w 1) 2 0
         (s.releasable i tSolRun q → s.cfg (.sol c) F.sc_EN ≠ 0 → s.solHot c = false → q.r.ckpt = false →
           Answers (.solRunRelease b) s fun t =>
             (t.lane i).queue = (s.lane i).queue.drop 1 ∧ (t.lane i).running = none ∧ q ∈ (t.lane i).tail ∧
               (t.lane i).relStitch = s.stitch.n + 1 ∧
               (t.chan c).start = some (s.stitch.n + 1 + phOf (q.r.w 2) / 4096, phOf (q.r.w 2) % 4096) ∧
               (t.chan c).slot = bits (q.r.w 1) 6 4 ∧ t.axes = s.axes ∧ t.heads = s.heads) ∧
         (∀ k < 8, s.releasable i tSolDiag q → (bits (q.r.w 1) 7 0).testBit k = true → s.cfg (.sol (8 * b.val + k)) F.sc_EN ≠ 0 →
           Answers (.solDiagRelease b) s fun t =>
             s.tookRecord t i q ∧ (t.chan (8 * b.val + k)).st = .diag ∧ (t.chan (8 * b.val + k)).onState = bit (q.r.w 1) 8 ∧
               t.axes = s.axes ∧ t.heads = s.heads)) ∧
       (s.releasable 18 tAuxXfer q → (s.aux q.r.auxPort).en = true → (s.aux q.r.auxPort).tunnel = true →
         Answers .auxXferRelease s fun t =>
           s.tookRecord t 18 q ∧ (∃ x, t.uarts.xfer = some x ∧ x.port = q.r.auxPort) ∧ t.axes = s.axes ∧ t.heads = s.heads) ∧
       (s.releasable 18 tNote q → q.r.ckpt = false →
         Answers .note s fun t =>
           (t.lane 18).running = none ∧ q ∉ (t.lane 18).queue ∧ (t.lane 18).relStitch = s.stitch.n + 1 ∧ t.axes = s.axes ∧
             t.heads = s.heads ∧ t.chans = s.chans ∧ t.uarts = s.uarts) ∧
       (∀ i : Fin 19, (s.lane i).queue.head? = some q → q.r.typ = tLaneOut → s.mayDispatch i = true → (s.lane i).clear = true →
         Answers (.laneOutInOrder i) s fun t => (t.lane i).state = .out ∧ q ∉ (t.lane i).queue))

/-! ### The records of lane 31 -/

/-- A RESUME at the front of lane 31 acts on its lanes and ENDS (R152): START_RECOVERED takes lanes out of RECOVERY (R180), CONTINUE puts a
stopped lane with nothing left to run back to IDLE or WAITING and lets a stopped MOVE go on to its target (R313), SKIP drops the stopped
record of a lane, CANCEL_HELD empties a lane that is out of service. LANE_OUT with NOW = 1 at the front of lane 31 takes a lane in service
OUT at once; RE_ADMIT begins the re-admission of a lane that is out of service (R152, R154). -/
def Obligations.LanesAreResumed : Prop :=
  (∀ (q : QItem) (rest : List QItem) (i : Fin 19) (s : State),
       s.ctrlIs q rest → maskList 19 q.r.mask = [i.val] →
       (q.resumes 1 = true → (s.lane i).state = .recovery →
         Answers .startRecovered s fun t =>
           (t.lane i).state ≠ .recovery ∧ (∀ k, k ≠ i.val → t.lane k = s.lane k) ∧ t.jobs.ctrl = rest ∧ t.axes = s.axes) ∧
       (q.resumes 2 = true → (s.lane i).state = .stopped → (s.lane i).stopping = false → s.laneHeld i = false →
         s.ntcHolds i = false → (s.lane i).running = none → (s.lane i).tail = [] → (s.lane i).raStep ≠ 5 →
         (s.lane i).stopStitch ≠ s.stitch.n + 1 →
         Answers .continue' s fun t =>
           ((t.lane i).state = .idle ∨ (t.lane i).state = .waiting) ∧ (t.lane i).queue = (s.lane i).queue ∧
             (∀ k, k ≠ i.val → t.lane k = s.lane k) ∧ t.jobs.ctrl = rest ∧ t.axes = s.axes) ∧
       (∀ (n : Fin 12) r, i.val = n.val + 2 → q.resumes 2 = true → (s.lane i).state = .stopped → (s.lane i).stopping = false →
         s.laneHeld i = false → s.ntcHolds i = false → (s.lane i).raStep ≠ 5 → (s.lane i).stopStitch ≠ s.stitch.n + 1 →
         (s.lane i).running = some r → r.r.typ = tMove → s.gateOpen r = false → s.cfg (.ax n) F.ax_KIND = 1 →
         (s.ax n).posOk = true → (s.ax n).remd.natAbs < 2 ^ 34 → ((s.ax n).tgt - (s.ax n).pos).natAbs < 2 ^ 34 →
         s.blocked n ((s.ax n).tgt - (s.ax n).pos < 0) none = false →
         Answers .continue' s fun t =>
           (t.lane i).state = .running ∧ (t.ax n).mode = .move ∧ (t.ax n).tgt = (s.ax n).tgt ∧ (t.ax n).pos = (s.ax n).pos ∧
             t.jobs.ctrl = rest) ∧
       (∀ r, q.resumes 3 = true → (s.lane i).state = .stopped → (s.lane i).stopping = false →
         (s.lane i).stopStitch ≠ s.stitch.n + 1 → (s.lane i).raStep ≠ 5 → (s.lane i).running = some r → s.gateOpen r = false →
         Answers .skip s fun t =>
           (t.lane i).running = none ∧ (t.lane i).stopCause = 1 ∧ (t.lane i).state ≠ .stopped ∧ t.jobs.ctrl = rest) ∧
       (q.resumes 6 = true → s.outOfService i = true →
         Answers .cancelHeld s fun t =>
           (∀ r ∈ (t.lane i).queue, ¬ (r.r.lane < 19 ∧ (q.r.w 2 = 0 ∨ r.job = q.r.w 2))) ∧ t.jobs.ctrl = rest)) ∧
  (∀ (q : QItem) (rest : List QItem) (i : Fin 19) (s : State),
       s.ctrlIs q rest → maskList 19 q.r.mask = [i.val] →
       (q.r.typ = tLaneOut → s.outOfService i = false →
         Answers .laneOut s fun t => (t.lane i).state = .out ∧ (t.lane i).raStep = 0 ∧ t.jobs.ctrl = rest) ∧
       (q.r.typ = tReAdmit → s.outOfService i = true → s.headRefused i = false →
         (i.val < 2 → ∀ a ∈ s.boundAxes i, s.outOfService a = false) →
         Answers .reAdmit s fun t =>
           (t.lane i).state = .readmit ∧ (t.lane i).raStep = 1 ∧ (t.lane i).raRec = some (q.job, q.idx) ∧
             (∀ k, k ≠ i.val → t.lane k = s.lane k) ∧ t.jobs.ctrl = rest))

/-- FENCE_PROCEED and FENCE_CANCEL at the front of lane 31 let the records behind a broken fence go on: the fence stands in no lane any more
(R152, R153); a waiting fence that every lane has reached with nothing open is done: FENCE_DONE, and it stands in no lane; a RESOLVE of
a gate that is IN_DOUBT takes it off the gate list, and one of another gate does nothing to it (R175). -/
def Obligations.FencesAndGatesResolve : Prop :=
  ∀ (s : State),
    (∀ (q : QItem) (rest : List QItem) (j : Job), s.ctrlIs q rest → s.job? (q.r.w 2) = some j →
      (bits (q.r.w 1) 31 20, FenceState.broken) ∈ j.fences →
      (q.resumes 4 = true →
        Answers .fenceProceed s fun t =>
          (∀ k < 19, ∀ r ∈ (t.lane k).queue, ¬ (r.job = q.r.w 2 ∧ r.idx = bits (q.r.w 1) 31 20)) ∧ t.jobs.ctrl = rest) ∧
      (q.resumes 5 = true →
        Answers .fenceCancel s fun t =>
          (∀ k < 19, ∀ r ∈ (t.lane k).queue, ¬ (r.job = q.r.w 2 ∧ r.idx = bits (q.r.w 1) 31 20)) ∧ t.jobs.ctrl = rest)) ∧
    (∀ (j : Job) (k : Nat) (r : Rec), s.jobs.table = [j] → j.fences = [(k, .waiting)] → j.recs[k]? = some r → r.tmo = false →
      bits (r.w 1) 35 34 = 1 → (∀ i ∈ maskList 19 r.mask, (s.lane i).state ≠ .recovery ∧ s.fenceAt j.seq k i = true) →
      Answers .fence s fun t =>
        (∀ i < 19, ∀ x ∈ (t.lane i).queue, ¬ (x.job = j.seq ∧ x.idx = k)) ∧ t.jobs.brokenCount = s.jobs.brokenCount) ∧
    (s.jobs.table = [] → exec .fence s = .next s) ∧
    (∀ (q : QItem) (rest : List QItem) (g : Gate) (it : QItem), s.ctrlIs q rest → q.r.typ = tResolve →
      s.gate? (q.r.w 2) (bits (q.r.w 1) 11 0) = some g → s.item? (q.r.w 2) (bits (q.r.w 1) 11 0) = some it →
      (g.doubt = true →
        Answers .resolve s fun t => t.gate? (q.r.w 2) (bits (q.r.w 1) 11 0) = none ∧ t.jobs.ctrl = rest) ∧
      (g.doubt = false →
        Answers .resolve s fun t => t.welt.gates = s.welt.gates ∧ t.lanes = s.lanes ∧ t.jobs.ctrl = rest))

/-! ### The welt and the lookups -/

/-- Once every word of the entry at the front of the write queue is programmed and verified in every bank in service, its commit adds
it to the welt at the head, with a whole copy in each of them, and the head moves by its words (R158, R159, R465); the commit of a
JOB entry accepts its job under its number (R144), that of a GATE_SETTLE entry takes its gate off the list (R172, R175). Before,
and with nothing to write or no bank in service, nothing happens. -/
def Obligations.EntriesCommitInOrder : Prop :=
  ∀ (w : WriteReq) (rest : List WriteReq) (s : State),
    let head := s.welt.head + BitVec.ofNat 36 w.words.length
    let copy (b : Nat) : Copy := ⟨if s.bankOut b then 0 else w.words.length, [], s.bankOut b⟩
    (s.welt.wq = w :: rest → s.frontDone = true → w.act = .nothing → w.kind ≠ 5 → (head - s.welt.tail).toNat < 1024 * 510 →
      Answers .weltEntryCommit s fun t =>
        t.welt.head = head ∧ t.welt.wq = rest ∧ t.welt.tail = s.welt.tail ∧
          t.welt.log = s.welt.log ++ [⟨w.words, s.welt.head, s.welt.head, copy 0, copy 1⟩] ∧ SameBut [.welt, .flash] s t) ∧
    (∀ c recs, s.welt.wq = w :: rest → s.frontDone = true → w.act = .accept c recs →
      Answers .weltEntryCommit s fun t =>
        t.welt.head = head ∧ t.jobs.lastSeq = w.seq ∧ t.jobs.decided = s.jobs.decided ∧ t.axes = s.axes ∧ t.chans = s.chans) ∧
    (s.welt.wq = w :: rest → s.frontDone = true → w.act = .nothing → w.kind = 5 → bits (w.body.getD 0 0) 23 20 ≠ 3 →
      Answers .weltEntryCommit s fun t =>
        t.welt.head = head ∧ t.gate? w.seq (bits (w.body.getD 0 0) 35 24) = none) ∧
    (s.frontDone = false → exec .weltEntryCommit s = .next s)

/-- The flush writes every waiting mark, in order and none twice, in MARKS entries, and leaves none waiting (R161, R162, R169). A gate whose
window has run out is IN_DOUBT and its GATE_SETTLE entry of verdict IN_DOUBT waits (R173); one whose window runs, or that is settling or
IN_DOUBT already, is left alone; each second opens a load bucket (R189). -/
def Obligations.MarksAndGatesSettle : Prop :=
  (∀ s : State,
       Answers .marksFlushTimer s fun t =>
         t.welt.marks = [] ∧
           (∃ more, t.welt.wq = s.welt.wq ++ more ∧ (∀ e ∈ more, e.kind = 3 ∧ 1 ≤ e.body.length ∧ e.body.length ≤ 8) ∧
             more.flatMap (·.body) = s.welt.marks.map Mark.word) ∧
           t.welt.log = s.welt.log ∧ t.welt.head = s.welt.head ∧ t.welt.gates = s.welt.gates ∧ SameBut [.welt] s t) ∧
  (∀ (e : Fin 64) (s : State),
       (∀ g k, at' s.welt.gates e = some g → g.doubt = false → g.settling = false → g.windowEnd = some k → k ≤ s.stitch.n →
         Answers (.gateWindowExpiry e) s fun t =>
           (∃ h, t.gate? g.job g.idx = some h ∧ h.doubt = true) ∧
             t.welt.wq = s.welt.wq ++ 
               [⟨entryWords 5 s.welt.jepoch (s.portOf g.job) g.job (settleWords g.idx 3 0 (s.gateHint g) 0), .nothing⟩] ∧
             t.welt.log = s.welt.log ∧ SameBut [.welt, .jobs] s t) ∧
       (at' s.welt.gates e = none → exec (.gateWindowExpiry e) s = .next s) ∧
       (∀ g, at' s.welt.gates e = some g → (g.doubt = true ∨ g.settling = true ∨ g.windowEnd = none ∨
           ∃ k, g.windowEnd = some k ∧ s.stitch.n < k) →
         exec (.gateWindowExpiry e) s = .next s) ∧
       (Answers .weltLoadTick s fun t =>
         t.welt.load = (s.welt.load.map fun l => (0 :: l).take 3601) ∧ t.welt.log = s.welt.log ∧ t.welt.head = s.welt.head ∧ SameBut [.welt] s t))

/-- GO starts a lookup with a key that is in order, is refused BUSY while one runs and RANGE for a reserved BY or PART; LOOKUP_DONE gives
the status of R187: by number the job found, LATER for a number after the last accepted, EARLIER for one before; by HREF the newest
job with that HREF, or none. -/
def Obligations.LookupsAnswer : Prop :=
  ∀ (p b : Fin 2) (s : State),
    let l := at' s.welt.lookups b
    (l.status ≠ 1 → (l.byCode = 1 ∨ l.byCode = 2) → l.part ≤ 1 →
      Answers (.lookupGo p b) s fun t =>
        (at' t.welt.lookups b).status = 1 ∧ (at' t.welt.lookups b).key = l.key ∧ Others s.welt.lookups t.welt.lookups b ∧
          t.welt.log = s.welt.log ∧ SameBut [.welt] s t) ∧
    (l.status = 1 → Answers (.lookupGo p b) s fun t => (t.port p).noteCode = rcBusy ∧ OnlyPort p s t) ∧
    (l.status ≠ 1 → (l.byCode ≠ 1 ∧ l.byCode ≠ 2 ∨ 1 < l.part) →
      Answers (.lookupGo p b) s fun t => (t.port p).noteCode = rcRange ∧ OnlyPort p s t) ∧
    (∀ j, l.status = 1 → l.byCode = 1 → (s.retained.find? fun j => j.seq == l.key) = some j →
      Answers (.lookupDone b) s fun t =>
        (at' t.welt.lookups b).status = 2 ∧ (at' t.welt.lookups b).jobseq = j.seq ∧ (at' t.welt.lookups b).href = j.href ∧
          (at' t.welt.lookups b).nrec = j.recs.length ∧ SameBut [.welt] s t) ∧
    (l.status = 1 → l.byCode = 1 → (s.retained.find? fun j => j.seq == l.key) = none →
      Answers (.lookupDone b) s fun t =>
        (at' t.welt.lookups b).status = (if l.key.after s.jobs.lastSeq then 3 else 4) ∧ SameBut [.welt] s t) ∧
    (∀ j, l.status = 1 → l.byCode = 2 → newestJob (s.retained.filter fun j => j.href == l.key) = some j →
      Answers (.lookupDone b) s fun t =>
        (at' t.welt.lookups b).status = 2 ∧ (at' t.welt.lookups b).jobseq = j.seq ∧ (at' t.welt.lookups b).href = j.href ∧
          SameBut [.welt] s t) ∧
    (l.status = 1 → l.byCode = 2 → (s.retained.find? fun j => j.href == l.key) = none →
      Answers (.lookupDone b) s fun t => (at' t.welt.lookups b).status = 3 ∧ SameBut [.welt] s t) ∧
    (l.status ≠ 1 → exec (.lookupDone b) s = .next s)

/-! ### Assets -/

/-- A store (R194, R195, R196): STORE of a FREE entry that finds room makes it LOADING for the port, one that finds none ends with RESULT 2,
one of an entry in use is refused STATE; words are taken from its owner while the size lasts; verification makes it READY with its next
generation, or fails it; ABORT and 10 s without a word end it with RESULT 5. DELETE frees a READY or DAMAGED entry that no job and no
asset uses and is refused STATE otherwise (R194, R199); REPAIR of a DAMAGED entry in its size that finds room makes it REPAIRING for the
port (R200). -/
def Obligations.AssetsAreManaged : Prop :=
  (∀ (p : Fin 2) (e : BitVec 12) (kind : BitVec 4) (place : BitVec 2) (size : BitVec 20) (w : Word) (s : State),
       let d := s.dirEntry e.toNat
       (1 ≤ kind.toNat → kind.toNat ≤ 3 → place.toNat ≤ 2 → 1 ≤ size.toNat → size.toNat ≤ 1015808 → d.st = .free →
         (s.bankOut 0 = true → place.toNat = 1) → (s.bankOut 1 = true → place.toNat = 0) →
         (∀ a, s.findRun place.toNat (assetSectors size.toNat) = some a →
           Answers (.store p e kind place size) s fun t =>
             (t.dirEntry e.toNat).st = .loading ∧ (t.dirEntry e.toNat).kind = kind.toNat ∧ (t.dirEntry e.toNat).owner = p.val ∧
               (t.dirEntry e.toNat).size = size.toNat ∧ (t.dirEntry e.toNat).taken = 0 ∧ SameBut [.assets, .flash] s t) ∧
         (s.findRun place.toNat (assetSectors size.toNat) = none →
           Answers (.store p e kind place size) s fun t =>
             (t.dirEntry e.toNat).result = 2 ∧ (t.dirEntry e.toNat).st = .free ∧ SameBut [.assets] s t)) ∧
       (1 ≤ kind.toNat → kind.toNat ≤ 3 → place.toNat ≤ 2 → 1 ≤ size.toNat → size.toNat ≤ 1015808 → d.st ≠ .free →
         Answers (.store p e kind place size) s fun t => (t.port p).noteCode = rcState ∧ OnlyPort p s t) ∧
       ((d.st = .loading ∨ d.st = .repairing) → d.owner = p.val → d.taken < d.size → s.stagedOf p < 512 →
         Answers (.assetPortWrite p e w) s fun t =>
           t.dirEntry e.toNat = { d with taken := d.taken + 1, staged := d.staged ++ [w] } ∧ SameBut [.assets] s t) ∧
       ((d.st = .loading ∨ d.st = .repairing) → d.owner ≠ p.val →
         Answers (.assetPortWrite p e w) s fun t => (t.port p).noteCode = rcBusy ∧ OnlyPort p s t) ∧
       (d.st = .verifying → (s.asStored e.toNat).verifyResult e.toNat = 1 → d.repairing = false →
         Answers (.assetVerifyDone e) s fun t =>
           (t.dirEntry e.toNat).st = .ready ∧ (t.dirEntry e.toNat).result = 1 ∧ (t.dirEntry e.toNat).gen = (d.gen + 1) % 4096 ∧
             SameBut [.assets] s t) ∧
       (d.st = .verifying → (s.asStored e.toNat).verifyResult e.toNat ≠ 1 → d.repairing = false →
         Answers (.assetVerifyDone e) s fun t =>
           t.dirEntry e.toNat = { DirEntry.empty with result := (s.asStored e.toNat).verifyResult e.toNat } ∧
             SameBut [.assets, .flash] s t) ∧
       (d.st ≠ .verifying → exec (.assetVerifyDone e) s = .next s) ∧
       (d.st = .loading → d.owner = p.val → d.repairing = false →
         Answers (.assetAbort p e) s fun t =>
           (t.dirEntry e.toNat).st = .free ∧ (t.dirEntry e.toNat).result = 5 ∧ SameBut [.assets, .flash] s t) ∧
       ((d.st = .loading ∨ d.st = .repairing) → d.repairing = false →
         Answers (.assetIdleTimeout e) s fun t =>
           (t.dirEntry e.toNat).st = .free ∧ (t.dirEntry e.toNat).result = 5 ∧ SameBut [.assets, .flash] s t) ∧
       (d.st = .free → exec (.assetIdleTimeout e) s = .next s)) ∧
  (∀ (p : Fin 2) (e : BitVec 12) (size : BitVec 20) (s : State),
       let d := s.dirEntry e.toNat
       ((d.st = .ready ∨ d.st = .damaged) → s.jobsOf e.toNat = 0 → s.depsOf e.toNat = 0 →
         Answers (.delete p e) s fun t =>
           t.dirEntry e.toNat = { DirEntry.empty with result := 1 } ∧ SameBut [.assets, .flash] s t) ∧
       ((d.st ≠ .ready ∧ d.st ≠ .damaged ∨ s.jobsOf e.toNat ≠ 0 ∨ s.depsOf e.toNat ≠ 0) →
         Answers (.delete p e) s fun t => (t.port p).noteCode = rcState ∧ OnlyPort p s t) ∧
       (d.st = .damaged → size.toNat = d.size →
         let place := if s.bankOut 0 then 1 else if s.bankOut 1 then 0 else d.place
         (∀ a, s.findRun place (assetSectors size.toNat) = some a →
           Answers (.repair p e size) s fun t =>
             (t.dirEntry e.toNat).st = .repairing ∧ (t.dirEntry e.toNat).owner = p.val ∧ (t.dirEntry e.toNat).taken = 0 ∧
               (t.dirEntry e.toNat).kind = d.kind ∧ (t.dirEntry e.toNat).cplace = place ∧ SameBut [.assets, .flash] s t) ∧
         (s.findRun place (assetSectors size.toNat) = none →
           Answers (.repair p e size) s fun t =>
             t.dirEntry e.toNat = { d with result := 2 } ∧ SameBut [.assets] s t)) ∧
       (d.st = .damaged → size.toNat ≠ d.size →
         Answers (.repair p e size) s fun t => (t.port p).noteCode = rcRange ∧ OnlyPort p s t) ∧
       (d.st ≠ .damaged → Answers (.repair p e size) s fun t => (t.port p).noteCode = rcState ∧ OnlyPort p s t))

/-! ### Composition, lines, scans -/

/-- LAYOUT adds the display list of the next record or copy while fewer than two are held and the assets are there; BAND_COMMIT adds the
next band while a buffer is free (R215, R217). -/
def Obligations.BandsAreComposed : Prop :=
  ∀ (x : Fin 2) (s : State),
    (∀ q c late, s.layoutNext x = some (q, c) → (s.head x).dl.length < 2 → s.layoutOk x q = true → s.dutyRuns 1 = true →
      at' s.dev.sramRet x = false →
      cacheWords ((s.head x).dl.flatMap DispList.objs ++ s.printObjects x q (max c 1)) ≤ s.cacheRoom x →
      Answers (.layout x (late, none)) s fun t =>
        (∃ l, (t.head x).dl = (s.head x).dl ++ [l] ∧ l.job = q.job ∧ l.idx = q.idx ∧ l.copy = c ∧ l.done = false) ∧
          t.dev.missed = (if late then satInc 4095 s.dev.missed else s.dev.missed) ∧ SameBut [.heads, .dev] s t) ∧
    (∀ found, s.layoutNext x = none → exec (.layout x found) s = .next s) ∧
    (∀ l, (s.head x).toCompose = some l → ((s.head x).hadBand = false ∨ (s.head (1 - x.val)).toCompose = none) →
      Answers (.bandCommit x) s fun t =>
        (∃ b, (t.head x).bands = (s.head x).bands ++ [b] ∧ b.job = l.job ∧ b.idx = l.idx ∧ b.num = l.bnext ∧ b.copy = l.cnext ∧
          b.lines = min 64 (l.lines - 64 * l.bnext) ∧ b.dots = s.composeBand x l) ∧ (t.head x).hadBand = true ∧
          (t.head (1 - x.val)).hadBand = false ∧ SameBut [.heads, .stitch, .dev, .ev, .ports] s t) ∧
    ((s.head x).toCompose = none → exec (.bandCommit x) s = .next s)

/-- Lines: LINE_START takes the placed line whose masks are ready, counts it and keeps the VH read for the next one; a placed line that is
not ready faults the lane (R67); the end of the last slice of a copy that is not the last queues COPY_DONE and of the last one ends the
PRINT (R141); the VH settle ends well, is tried again, or faults the lane (R239). -/
def Obligations.LinesStartAndEnd : Prop :=
  ∀ (x : Fin 2) (vh : BitVec 9) (s : State),
    (∀ pl rest a f, (s.head x).placed = pl :: rest → (s.head x).ready = some a → (s.head x).readyFresh = some f →
      Answers (.lineStart x vh) s fun t =>
        (t.head x).placed = rest ∧ (t.head x).copy = pl.copy ∧ (t.head x).line = pl.line ∧
          (t.head x).lines = (s.head x).lines + 1 ∧ (t.head x).vhRead = vh.toNat ∧
          (t.head x).lastDue = (if pl.last then some ⟨pl.job, pl.idx, pl.copy, pl.copies⟩ else (s.head x).lastDue) ∧
          t.axes = s.axes ∧ t.welt = s.welt ∧ t.chans = s.chans) ∧
    ((s.head x).placed = [] → exec (.lineStart x vh) s = .next s) ∧
    (∀ pl rest, (s.head x).placed = pl :: rest → (s.head x).ready = none →
      Answers (.lineStart x vh) s fun t => (t.lane x).state = .fault ∧ (t.head x).placed = []) ∧
    ((s.head x).lastDue = none → exec (.lastSliceEnd x) s = .next s) ∧
    (∀ c q, (s.head x).lastDue = some c → (s.lane x).itemOf c.job c.idx = some q → q.r.typ = tPrint → c.copy < c.copies →
      Answers (.lastSliceEnd x) s fun t => (t.head x).lastDue = none ∧ t.lanes = s.lanes ∧ SameBut [.heads, .welt] s t) ∧
    (∀ c q, (s.head x).lastDue = some c → (s.lane x).itemOf c.job c.idx = some q → c.copies ≤ c.copy →
      (q.r.typ = tPattern → (s.head x).pattern ≠ 1) →
      Answers (.lastSliceEnd x) s fun t =>
        (t.head x).lastDue = none ∧ (t.lane x).running ≠ some q ∧ q ∉ (t.lane x).tail ∧ q ∉ (t.lane x).queue) ∧
    ((s.head x).settle ≠ 0 → (s.desc x).vhOk vh.toNat = true →
      Answers (.vhSettleEnd x vh) s fun t =>
        (t.head x).settle = 0 ∧ (t.head x).vhRead = vh.toNat ∧ (t.head x).vhen = (s.head x).vhen ∧ OnlyHead x s t) ∧
    ((s.head x).settle = 1 → (s.desc x).vhOk vh.toNat = false →
      Answers (.vhSettleEnd x vh) s fun t => (t.head x).settle = 2 ∧ OnlyHead x s t) ∧
    ((s.head x).settle = 2 → (s.desc x).vhOk vh.toNat = false →
      Answers (.vhSettleEnd x vh) s fun t => (t.head x).vhen = false ∧ (t.lane x).state = .fault) ∧
    ((s.head x).settle = 0 → exec (.vhSettleEnd x vh) s = .next s)

/-- Scans: a background scan starts on an idle head lane with VH on (R256); a valid dot stores its resistance and moves to the next dot, a
first invalid measurement is repeated, a second fails the scan (R254, R255); ABANDON ends a background scan and leaves the others (R252). -/
def Obligations.ScansMeasureDots : Prop :=
  ∀ (x p : Fin 2) (r : BitVec 20) (vh : BitVec 9) (s : State),
    ((s.lane x).state = .idle → (at' s.power.doms (8 + x)).st = .run → s.cfg (.head x) F.hsc_AUTO_MIN ≠ 0 →
      (s.head x).sstate ≠ 1 → (s.head x).sstate ≠ 2 → (s.head x).step = .idle → 1 ≤ (s.desc x).dots →
      Answers (.backgroundScanStart x) s fun t =>
        (t.head x).sstate = 1 ∧ (t.head x).skind = 0 ∧ (t.head x).measured = 0 ∧ (t.head x).vhen = true ∧ OnlyHead x s t) ∧
    ((s.lane x).state ≠ .idle → exec (.backgroundScanStart x) s = .next s) ∧
    (∀ dot n, (s.head x).sstate = 1 → (s.desc x).scanDot (s.head x).scanPos = some dot → (s.head x).settle = 0 →
      (s.head x).vhen = true → (s.desc x).vhOk vh.toNat = true → (s.desc x).scanNext ((s.head x).scanPos + 1) = some n →
      Answers (.scanDot x true r vh) s fun t =>
        (t.head x).measured = (s.head x).measured + 1 ∧ (t.head x).scanPos = n ∧ (t.head x).retryDot = false ∧
          t.cfg (.dot x dot) F.dot_RMEAS = r.toNat ∧ t.axes = s.axes) ∧
    (∀ dot, (s.head x).sstate = 1 → (s.desc x).scanDot (s.head x).scanPos = some dot → (s.head x).settle = 0 →
      (s.head x).vhen = true → (s.desc x).vhOk vh.toNat = true → (s.desc x).scanNext ((s.head x).scanPos + 1) = none →
      (s.head x).skind = 0 →
      Answers (.scanDot x true r vh) s fun t =>
        (t.head x).measured = (s.head x).measured + 1 ∧ (t.head x).sstate = 3 ∧ t.lanes = s.lanes ∧ t.axes = s.axes) ∧
    (∀ dot, (s.head x).sstate = 1 → (s.desc x).scanDot (s.head x).scanPos = some dot → (s.head x).settle = 0 →
      (s.head x).vhen = true → (s.head x).retryDot = false →
      Answers (.scanDot x false r vh) s fun t =>
        (t.head x).retryDot = true ∧ (t.head x).scanPos = (s.head x).scanPos ∧ (t.head x).measured = (s.head x).measured ∧
          t.axes = s.axes ∧ t.tbl = s.tbl) ∧
    (∀ dot, (s.head x).sstate = 1 → (s.desc x).scanDot (s.head x).scanPos = some dot → (s.head x).settle = 0 →
      (s.head x).vhen = true → (s.head x).retryDot = true → (s.head x).skind ≠ 2 →
      Answers (.scanDot x false r vh) s fun t => (t.head x).sstate = 4 ∧ (t.lane x).state = .fault) ∧
    ((x = 1 → (s.port p).rev ≠ 1) → (s.head x).skind = 0 → ((s.head x).sstate = 1 ∨ (s.head x).sstate = 2) →
      Answers (.abandon p x) s fun t => (t.head x).sstate = 5 ∧ SameBut [.heads, .dev, .ev, .ports] s t) ∧
    ((s.port p).rev = 1 → Answers (.abandon p 1) s fun t => (t.port p).noteCode = rcRevision ∧ OnlyPort p s t) ∧
    ((x = 1 → (s.port p).rev ≠ 1) → (s.head x).skind ≠ 0 → exec (.abandon p x) s = .next s)

/-! ### Media, sensors, clicker -/

/-- A media sensor that is on keeps its last four readings, lit less dark (R283); the second calibration attempt starts the LED search anew
(R289); a sensor input keeps its code and one that stays at a rail for 20 ms is broken (R291); a ticket gone for TAKEN is counted and no
longer present (R293); after its wait the clicker strokes again from home, or backs off first (R299). -/
def Obligations.MediaAndClicker : Prop :=
  ∀ s : State,
    (∀ (n : Fin 4) (lit dark ph : BitVec 12), s.cfg (.ms n) F.ms_MODE ≠ 0 →
      Answers (.msCycle n lit (dark, ph)) s fun t =>
        (at' t.mss n).reads = ((lit.toNat - dark.toNat) :: (at' s.mss n).reads).take 4 ∧ t.chans = s.chans) ∧
    (∀ (n : Fin 4) (lit dark ph : BitVec 12), s.cfg (.ms n) F.ms_MODE = 0 → exec (.msCycle n lit (dark, ph)) s = .next s) ∧
    (∀ (n : Fin 4) (x : Nat), x < 2 → s.msPath n = some (x, 0) → (s.head x).step = .retryWait → (at' s.mss n).waits = true →
      (s.lane x).state = .running → (s.lane x).stopping = false →
      Answers (.calRetry n) s fun t =>
        (t.head x).step = .led ∧ (at' t.mss n).second = true ∧ (at' t.mss n).led = 80 ∧ SameBut [.mss, .heads] s t) ∧
    (∀ (n : Fin 8) (k : BitVec 12),
      Answers (.snsSample n k) s fun t => (at' t.snss n).code = k.toNat ∧ Others s.snss t.snss n) ∧
    (∀ (n : Fin 8) (k : BitVec 12), (at' s.snss n).broken = false → s.cfgB (.sns n) F.sns_BRK_EN = true →
      399 ≤ (at' s.snss n).rail → 100 * k.toNat < 5 * 4095 →
      Answers (.snsSample n k) s fun t => (at' t.snss n).broken = true ∧ t.sup.broken = true) ∧
    (∀ n : Fin 8, s.cfg (.sns n) F.sns_FUNC = 2 → (at' s.snss n).present = true → (at' s.snss n).active = false →
      (at' s.snss n).broken = false → 20 * s.cfg (.sns n) F.sns_TAKEN ≤ (at' s.snss n).run →
      Answers (.ticketTaken n) s fun t =>
        (at' t.snss n).present = false ∧ (at' t.snss n).count = ((at' s.snss n).count + 1) % 2 ^ 32 ∧
          (at' t.snss n).last = s.count ∧ Others s.snss t.snss n) ∧
    (∀ x : Fin 2, (s.head x).step = .recover → (s.lane x).state = .running → (s.lane x).stopping = false →
      Answers (.clickerRecover x) s fun t =>
        (t.head x).step = (if s.atHome x then (if s.rotary x then .ret else .stroke) else .backoff)) ∧
    (∀ x : Fin 2, (s.head x).step ≠ .recover → exec (.clickerRecover x) s = .next s)

/-! ### Axes -/

/-- The step events and the rest of an axis that no head path binds: the next event placed in this stitch moves it to its place (R310); with
nothing left to move a MOVE at its target ends (R311, R312); standing still for IDLE_ST turns its current to the standstill mode (R340); a
stall that does not come back is a transient (R356); a lag beyond LAG_MAX for 16 stitches disengages a geared axis and faults its lane
(R328). What is not due changes nothing. -/
def Obligations.AxesStepAndRest : Prop :=
  ∀ (n : Fin 12) (s : State),
    (∀ e rest emfA emfB, (s.ax n).events = e :: rest → e.1 < s.nextPh → (emfA = [] ∨ s.cfgB (.ax n) F.dr_STALL_EN = false) →
      (∀ x < 2, (s.cfgB (.head x) F.hb_CLK_EN = true → s.clkAx x ≠ n.val) ∧
        (s.cfgB (.head x) F.hb_FEED_EN = true → s.feedAx x ≠ n.val)) →
      Answers (.stepEvent n emfA emfB) s fun t =>
        (t.ax n).pos = e.2 ∧ (t.ax n).events = rest ∧ (t.ax n).lastEv = e.1 ∧ (t.ax n).tgt = (s.ax n).tgt ∧ OnlyAxis n s t) ∧
    (∀ emfA emfB, (∀ e ∈ (s.ax n).events, s.nextPh ≤ e.1) → exec (.stepEvent n emfA emfB) s = .next s) ∧
    (∀ q, s.axDone n = true → s.ownerPath (n.val + 2) = none → (s.ax n).mode = .move → (s.lane (n.val + 2)).stopping = false →
      (s.lane (n.val + 2)).pathStop = false → (s.ax n).stop ≠ some 2 → (s.ax n).pos = (s.ax n).tgt →
      (s.lane (n.val + 2)).running = some q →
      Answers (.axisAtRest n) s fun t =>
        (t.ax n).mode = .rest ∧ (t.ax n).pos = (s.ax n).pos ∧ (t.lane (n.val + 2)).running = none ∧
          q ∉ (t.lane (n.val + 2)).queue ∧ t.heads = s.heads) ∧
    (s.axDone n = false → exec (.axisAtRest n) s = .next s) ∧
    (s.cfg (.ax n) F.ax_KIND = 1 → (s.ax n).sstate = 0 → (s.ax n).mode = .rest → s.axisWorks n = false → s.cfg (.ax n) F.ax_IDLE_ST ≤ (s.ax n).restN →
      Answers (.standstill n) s fun t =>
        (t.ax n).sstate = s.cfg (.ax n) F.ax_SS_MODE + 1 ∧ (t.ax n).pos = (s.ax n).pos ∧ OnlyAxis n s t) ∧
    ((s.ax n).restN < s.cfg (.ax n) F.ax_IDLE_ST → exec (.standstill n) s = .next s) ∧
    (∀ k, (s.ax n).span = some k → (4 * s.cfg (.ax n) F.dr_STALL_FS ≤ k ∨ (s.ax n).vel = 0) →
      Answers (.stallSpanEnd n) s fun t =>
        (t.ax n).span = none ∧ (t.ax n).stallRun = 0 ∧ (t.ax n).stallTr = satInc 4095 (s.ax n).stallTr ∧ OnlyAxis n s t) ∧
    ((s.ax n).span = none → exec (.stallSpanEnd n) s = .next s) ∧
    ((s.ax n).mode = .gear → (s.ax n).grace = some 0 →
      Answers (.gearLagGrace n) s fun t =>
        (t.ax n).mode = .disengage ∧ (t.ax n).gstate = .disengaging ∧ (t.lane (n.val + 2)).state = .fault) ∧
    ((s.ax n).grace ≠ some 0 → exec (.gearLagGrace n) s = .next s)

/-- Homing and limits: a reference met by a switch or index is taken and the run decelerates (R319); a failed run begins a second try after
20 ms (R320); a confirmation is read once more (R324); a limit input is seen when it becomes active, with the position where it acts, and
released when it is not (R315); inputs that already stand as told change nothing. -/
def Obligations.AxesHomeAndLimit : Prop :=
  ∀ (n : Fin 12) (s : State),
    (∀ p, (s.ax n).mode = .home → (s.ax n).refAt = some p → s.hm n F.hm_HKIND = 4 → (s.ax n).hcheck = false →
      Answers (.homeReference n) s fun t =>
        (t.ax n).mode = .rest ∧ (t.ax n).posOk = true ∧ (t.ax n).homed = true ∧ (t.lane (n.val + 2)).running = none) ∧
    (∀ p, (s.ax n).mode = .home → (s.ax n).refAt = some p → s.hm n F.hm_HKIND ≠ 4 →
      Answers (.homeReference n) s fun t =>
        (t.ax n).refAt = none ∧ (t.ax n).hmet = true ∧ (t.ax n).stop = some ((s.ax n).stop.getD 0) ∧ (t.ax n).mode = .home ∧
          (t.ax n).pos - (s.ax n).pos = (t.ax n).tgt - (s.ax n).tgt ∧ OnlyAxis n s t) ∧
    ((s.ax n).mode ≠ .home → exec (.homeReference n) s = .next s) ∧
    ((s.ax n).mode = .home → (s.ax n).hstep = .failed → (s.lane (n.val + 2)).stopping = false →
      (∀ neg, s.blocked n neg (some (s.hm n F.hm_HSW)) = false) →
      Answers (.homeRetry n) s fun t =>
        (t.ax n).htry = 2 ∧ (t.ax n).mode = .home ∧ (t.ax n).hstep ≠ .failed ∧ (t.ax n).refAt.isSome = decide (s.hm n F.hm_HKIND = 4) ∧
          OnlyAxis n s t) ∧
    ((s.ax n).hstep ≠ .failed → exec (.homeRetry n) s = .next s) ∧
    (∀ c, (s.ax n).conf = some c → c.waits = false → c.second = false → s.cfg (.ax n) F.ax_CONF_SRC = 2 →
      (at' s.ssis (s.cfg (.ax n) F.ax_CONF_IDX)).sstate = 1 →
      Answers (.confRetry n) s fun t =>
        (t.ax n).conf = some { c with second := true, waits := true,
                                      early := (at' s.ssis (s.cfg (.ax n) F.ax_CONF_IDX)).busy.isSome } ∧ OnlyAxis n s t) ∧
    ((s.ax n).conf = none → exec (.confRetry n) s = .next s) ∧
    ((s.ax n).lim0 = false →
      Answers (.limit n 0) s fun t =>
        (t.ax n).lim0 = true ∧ (t.ax n).lim1 = (s.ax n).lim1 ∧
          (s.cfg (.ax n) F.ax_ACT0 ≠ 0 → (t.ax n).limPos = (s.ax n).pos)) ∧
    ((s.ax n).lim1 = false →
      Answers (.limit n 1) s fun t =>
        (t.ax n).lim1 = true ∧ (t.ax n).lim0 = (s.ax n).lim0 ∧
          (s.cfg (.ax n) F.ax_ACT1 ≠ 0 → (t.ax n).limPos = (s.ax n).pos)) ∧
    ((s.ax n).lim0 = true → exec (.limit n 0) s = .next s ∧
      ∀ ph, Answers (.limitRelease n (0, ph)) s fun t => (t.ax n).lim0 = false ∧ (t.ax n).lim1 = (s.ax n).lim1) ∧
    ((s.ax n).lim1 = true → exec (.limit n 1) s = .next s ∧
      ∀ ph, Answers (.limitRelease n (1, ph)) s fun t => (t.ax n).lim1 = false ∧ (t.ax n).lim0 = (s.ax n).lim0) ∧
    ((s.ax n).lim0 = false → ∀ ph, exec (.limitRelease n (0, ph)) s = .next s)

/-! ### Bridges -/

/-- The chopper of a running bridge (R341, R345, R351): a trip ends the on-phase and its reading is kept; TOFF begins the next period in
current mode; a full-duty period ends the on-phase too and, where it is judged to carry no current with the node uncommutated, counts
towards OPEN; a PWM period keeps the reading; a DC_RUN ends when its duration has passed. Only the bridge's axis changes. -/
def Obligations.BridgesChop : Prop :=
  ∀ (b : Fin 24) (code : BitVec 12) (s : State),
    let n := b.val / 2
    let q := s.br b
    let on := q.sw = .drivePlus ∨ q.sw = .driveMinus
    (q.st = .run → on →
      Answers (.chopperTrip b code) s fun t =>
        (t.br b).imeas = signed 12 code.toNat ∧ (t.br b).sw = s.offPart b ∧ (t.br b).nTrip = satInc 64 q.nTrip ∧
          (t.br b).st = .run ∧ OnlyAxis n s t) ∧
    (q.st ≠ .run → exec (.chopperTrip b code) s = .next s ∧ exec (.pwmPeriod b code) s = .next s ∧
      exec (.chopperOffEnd b) s = .next s ∧ ∀ c, exec (.fullDutyEnd b code c) s = .next s) ∧
    (q.st = .run → s.inCurrent b = true →
      Answers (.chopperOffEnd b) s fun t =>
        (t.br b).hold = [] ∧ (t.br b).sw = ((s.onBr b fun q => { q with hold := [] }).beginPeriod b).1 ∧ (t.br b).imeas = q.imeas ∧
          OnlyAxis n s t) ∧
    (q.st = .run → on → s.judged b = false →
      ∀ c, Answers (.fullDutyEnd b code c) s fun t =>
        (t.br b).imeas = signed 12 code.toNat ∧ (t.br b).sw = s.offPart b ∧ (t.br b).nTrip = 0 ∧ (t.br b).nOpen = q.nOpen ∧
          OnlyAxis n s t) ∧
    (q.st = .run → on → s.judged b = true → s.cfg (.ax n) F.ax_KIND ≠ 2 →
      16 * signed 12 code.toNat < (s.drv b F.dr_OPEN_FR * (s.dac b).natAbs : Nat) → q.nOpen + 1 < s.drv b F.dr_OPEN_N →
      0 < s.drv b F.dr_SENSE_N → 0 < s.drv b F.dr_HEAD_N →
      Answers (.fullDutyEnd b code false) s fun t =>
        (t.br b).nOpen = q.nOpen + 1 ∧ (t.br b).imeas = signed 12 code.toNat ∧ (t.br b).st = .run ∧ OnlyAxis n s t) ∧
    (q.st = .run → s.inCurrent b = false →
      Answers (.pwmPeriod b code) s fun t =>
        (t.br b).imeas = signed 12 code.toNat ∧ (t.br b).st = .run ∧ (t.br b).hold = [] ∧ OnlyAxis n s t) ∧
    (∀ e r, (s.ax n).dcEnd = some e → (s.ax n).dcBridge = (b.val % 2 == 1) → (s.ax n).took = false → e ≤ s.nowPh + 4096 →
      (s.lane (n + 2)).running = some r →
      Answers (.dcRunEnd b) s fun t =>
        (t.ax n).dcEnd = none ∧ (t.ax n).dcLeft = 0 ∧ (t.lane (n + 2)).running = none ∧ t.heads = s.heads) ∧
    ((s.ax n).dcEnd = none → exec (.dcRunEnd b) s = .next s)

/-- A cause on a running bridge turns it OFF for its recovery delay (R347, R349); the bridge is then enabled again with its confirmation
open; one that passes 1 ms of it is a transient of its class, and a cause during it is lasting: the lane faults (R350, R354); a forced
bridge waits; the bridge check that finds both bridges sound brings them to RUN with the offsets it found (R343). -/
def Obligations.BridgeFaultsRecover : Prop :=
  ∀ (b : Fin 24) (p : Probe) (s : State),
    let n := b.val / 2
    let q := s.br b
    (∀ k, s.bridgeCause b p = some k → q.st = .run → s.bridgeForced b = false → s.sup.vgdLow = false → q.confirm = none →
      Answers (.bridgeFault b (p.place, p.elem) (p.blank, p.value, p.sup)) s fun t =>
        (t.br b).st = .recover ∧ (t.br b).fcause = k ∧ (t.br b).elem = (if p.place = .shunt then 4 else p.elem.val) ∧
          (t.br b).sw = .off ∧ OnlyAxis n s t) ∧
    (∀ k c, s.bridgeCause b p = some k → q.st = .run → s.bridgeForced b = false → s.sup.vgdLow = false → q.confirm = some c →
      Answers (.bridgeFault b (p.place, p.elem) (p.blank, p.value, p.sup)) s fun t => (t.lane (n + 2)).state = .fault) ∧
    ((s.bridgeCause b p = none ∨ q.st ≠ .run) → exec (.bridgeFault b (p.place, p.elem) (p.blank, p.value, p.sup)) s = .next s) ∧
    (q.st = .recover → s.bridgeForced b = true →
      Answers (.bridgeRecover b) s fun t => (t.br b).recWaits = true ∧ (t.br b).st = .recover ∧ OnlyAxis n s t) ∧
    (q.st = .recover → s.bridgeForced b = false →
      Answers (.bridgeRecover b) s fun t =>
        (t.br b).st = .run ∧ (t.br b).confirm = some q.fcause ∧ (t.br b).confirmed1ms = false ∧ OnlyAxis n s t) ∧
    (q.st ≠ .recover → exec (.bridgeRecover b) s = .next s) ∧
    (∀ c, q.confirm = some c → q.st = .run → q.confirmed1ms = false → c ≤ 7 →
      Answers (.bridgeConfirmEnd b) s fun t =>
        (t.br b).confirm = none ∧ (t.br b).st = .run ∧
          (c ≤ 4 → (t.ax n).ocTr = satInc 4095 (s.ax n).ocTr) ∧ (4 < c → (t.ax n).gateTr = satInc 4095 (s.ax n).gateTr) ∧
          OnlyAxis n s t) ∧
    (∀ c, q.confirm = some c → q.st = .run → q.confirmed1ms = false → 7 < c →
      Answers (.bridgeConfirmEnd b) s fun t =>
        (t.br b).confirmed1ms = true ∧ (t.br b).confirm = some c ∧ (t.br b).nOpen = 0 ∧ OnlyAxis n s t) ∧
    (q.confirm = none → exec (.bridgeConfirmEnd b) s = .next s) ∧
    (∀ (k : Fin 12) (a1 a2 b1 b2 : BitVec 12) (ga gb : BitVec 8), s.calibrating k = true →
      (bridgeOutcome (2 * k) a1 a2 ga).bad = [] → (bridgeOutcome (2 * k + 1) b1 b2 gb).bad = [] →
      s.inCheck (k.val + 2) = false → at' s.sup.vmLostG (k.val / 3) = false →
      Answers (.bridgeCheckDone k a1 a2 b1 b2 ga gb) s fun t =>
        (t.ax k).a1.st ≠ .calib ∧ (t.ax k).b1.st ≠ .calib ∧
          (t.ax k).a1.ofs = (bridgeOutcome (2 * k) a1 a2 ga).ofs.getD (s.ax k).a1.ofs ∧
          (t.ax k).b1.ofs = (bridgeOutcome (2 * k + 1) b1 b2 gb).ofs.getD (s.ax k).b1.ofs ∧ OnlyAxis k s t) ∧
    (∀ (k : Fin 12) (a1 a2 b1 b2 : BitVec 12) (ga gb : BitVec 8), s.calibrating k = false →
      exec (.bridgeCheckDone k a1 a2 b1 b2 ga gb) s = .next s)

/-! ### Solenoids -/

/-- The segments of a solenoid profile: a start that is due begins it, or is deferred while the coil is hot (R367, R378); a trip, a dip sample
and a PWM period keep what they read (R369, R372); TMAX, a stitch count and the release move the profile on and end it (R370, R371); what
is not due changes nothing. -/
def Obligations.SolenoidProfilesRun : Prop :=
  ∀ (c : Fin 32) (s : State),
    let q := s.chan c
    (∀ k ph, q.start = some (k, ph) → k ≤ s.stitch.n → s.solHot c = false → q.st ≠ .recover →
      Answers (.solProfileStart c) s fun t =>
        (t.chan c).start = none ∧ (t.chan c).runs = (q.runs + 1) % 2 ^ 24 ∧ ((t.chan c).st = .run ∨ (t.chan c).st = .release) ∧
          (t.chan c).closedRun = false ∧ OnlyChan c s t) ∧
    (∀ k ph, q.start = some (k, ph) → k ≤ s.stitch.n → s.solHot c = true →
      Answers (.solProfileStart c) s fun t =>
        (t.chan c).start = none ∧ (t.chan c).st = .hotWait ∧ (t.chan c).runs = q.runs ∧ SameBut [.chans, .dev, .ev, .ports] s t) ∧
    (q.start = none → exec (.solProfileStart c) s = .next s) ∧
    (∀ (code : BitVec 10) (us : BitVec 24), q.st = .run → q.sw = .drive → q.cur F.sp_ITGT ≠ 0 → q.cur F.sp_END ≠ 1 →
      Answers (.solTrip c code us) s fun t =>
        (t.chan c).imeas = code.toNat ∧ (t.chan c).peak = max q.peak code.toNat ∧ (t.chan c).tripNow = true ∧
          (t.chan c).firstTrip = some (q.firstTrip.getD us.toNat) ∧
          (t.chan c).sw = (if q.cur F.sp_DECAY = 1 then .fast else .slow) ∧ OnlyChan c s t) ∧
    (∀ (code : BitVec 10) (us : BitVec 24), q.st = .run → q.sw = .drive → q.cur F.sp_ITGT ≠ 0 → q.cur F.sp_END = 1 →
      Answers (.solTrip c code us) s fun t => (t.chan c).seg = min (q.seg + 1) q.nseg ∧ OnlyChan c s t) ∧
    (∀ (duty : BitVec 10) (us : BitVec 24) (ph : BitVec 12), q.st = .run → q.cur F.sp_ITGT ≠ 0 → q.firstTrip = none →
      Answers (.solPwmPeriod c duty us ph) s fun t =>
        (t.chan c).duty = duty.toNat ∧ (t.chan c).duties = (duty.toNat :: q.duties).take 16 ∧ (t.chan c).lastUs = us.toNat ∧
          (t.chan c).tripNow = false ∧ OnlyChan c s t) ∧
    (∀ (code : BitVec 10) (us : BitVec 24) (ph : BitVec 12), q.st = .run → q.sw = .drive → q.cur F.sp_END = 2 →
      s.sc c F.sc_DIP_I ≠ 0 → q.firstTrip = none → q.closedRun = false →
      (q.iMax < code.toNat + s.sc c F.sc_DIP_I →
        Answers (.dipSample c code us ph) s fun t =>
          (t.chan c).imeas = code.toNat ∧ (t.chan c).iMax = max q.iMax code.toNat ∧ (t.chan c).seg = q.seg ∧ OnlyChan c s t) ∧
      (code.toNat + s.sc c F.sc_DIP_I ≤ q.iMax →
        Answers (.dipSample c code us ph) s fun t =>
          (t.chan c).closedRun = true ∧ (t.chan c).method = true ∧ (t.chan c).ctime = q.iMaxAt ∧ (t.chan c).cphase = ph.toNat ∧
            (t.chan c).seg = min (q.seg + 1) q.nseg)) ∧
    (∀ (us : BitVec 24) (vs : BitVec 9), q.st = .release →
      Answers (.segmentTmax c us vs) s fun t => (t.chan c).st = .diag ∧ (t.chan c).checking = 4 ∧ OnlyChan c s t) ∧
    (∀ (us : BitVec 24) (vs : BitVec 9), q.st = .run → q.seg ≠ q.nseg → q.cur F.sp_END = 0 →
      Answers (.segmentTmax c us vs) s fun t => (t.chan c).seg = min (q.seg + 1) q.nseg ∧ OnlyChan c s t) ∧
    (q.st = .run → q.seg < q.nseg → q.cur F.sp_END = 3 → q.segBegan + q.cur F.sp_DUR_ST ≤ s.stitch.n →
      Answers (.segmentStitchEnd c) s fun t =>
        (t.chan c).seg = q.seg + 1 ∧ (t.chan c).segBegan = s.stitch.n ∧ OnlyChan c s t) ∧
    (s.stitch.n < q.segBegan + q.cur F.sp_DUR_ST → exec (.segmentStitchEnd c) s = .next s) ∧
    (∀ (code : BitVec 10) (nl vs : BitVec 9),
      let gone := (q.releasesFast = true ∧ nl.toNat + 16 < vs.toNat) ∨ (q.releasesFast = false ∧ code.toNat < s.sc c F.sc_REL_I)
      (q.st = .release → gone →
        Answers (.solReleaseDetect (c, code, nl, vs)) s fun t => (t.chan c).st = .idle ∧ (t.chan c).sw = .off ∧ Others s.chans t.chans c) ∧
      (q.st ≠ .release ∨ ¬gone → exec (.solReleaseDetect (c, code, nl, vs)) s = .next s))

/-- Faults and checks of a channel: a cause while it drives turns it off for its recovery, and during the confirmation it is lasting (R379,
R380); a channel that the shank does not hold resumes with its confirmation open; a confirmation that ends is a transient; a check that
finds something bad is made once more, and one that finds the coil sound leaves the channel IDLE with RESULT 1 (R384); the coil model
follows the mean square of the current (R376). -/
def Obligations.SolenoidFaultsAndChecks : Prop :=
  ∀ (c : Fin 32) (s : State),
    let q := s.chan c
    (∀ (p : Probe) (nh nl : BitVec 9) cause, s.solCause c p nh.toNat nl.toNat = some cause → s.solDead c = false → q.st = .run →
      (q.confirm = none →
        Answers (.solFault c p nh nl) s fun t =>
          (t.chan c).st = .recover ∧ (t.chan c).fcause = cause ∧ (t.chan c).sw = .off ∧ (t.chan c).seg = q.seg ∧ OnlyChan c s t) ∧
      (q.confirm.isSome = true →
        Answers (.solFault c p nh nl) s fun t =>
          (t.chan c).st = .fault ∧ (t.chan c).fcause = cause ∧ (t.lane (bankLane c)).state = .fault)) ∧
    (∀ (p : Probe) (nh nl : BitVec 9), s.solCause c p nh.toNat nl.toNat = none ∨ s.solDead c = true →
      exec (.solFault c p nh nl) s = .next s) ∧
    (q.st = .recover → s.solDead c = true →
      Answers (.solRecover c) s fun t => (t.chan c).recWaits = true ∧ (t.chan c).st = .recover ∧ OnlyChan c s t) ∧
    (q.st = .recover → s.solDead c = false → q.recRelease = false → q.seg ≠ q.nseg →
      Answers (.solRecover c) s fun t =>
        (t.chan c).st = .run ∧ (t.chan c).confirm = some q.fcause ∧ (t.chan c).seg = q.seg ∧ OnlyChan c s t) ∧
    (q.st ≠ .recover → exec (.solRecover c) s = .next s) ∧
    (∀ k, q.st = .run → q.confirm = some k →
      Answers (.solConfirmEnd c) s fun t =>
        (t.chan c).confirm = none ∧ (k = 6 → (t.chan c).diagTr = satInc 4095 q.diagTr) ∧
          (k ≠ 6 → (t.chan c).ocTr = satInc 4095 q.ocTr) ∧ OnlyChan c s t) ∧
    (∀ (nh1 nl1 nh2 nl2 vs : BitVec 9) (ofs : BitVec 12), q.checking = 3 → q.onState = false →
      (offResult nh1.toNat nh2.toNat nl2.toNat vs.toNat ≠ 1 → q.again = false →
        Answers (.offStateCheckDone c nh1 nl1 nh2 nl2 vs ofs) s fun t =>
          (t.chan c).again = true ∧ (t.chan c).checking = 3 ∧ OnlyChan c s t) ∧
      (offResult nh1.toNat nh2.toNat nl2.toNat vs.toNat = 1 →
        Answers (.offStateCheckDone c nh1 nl1 nh2 nl2 vs ofs) s fun t => (t.chan c).dresult = 1 ∧ (t.chan c).checking = 0)) ∧
    (∀ (nh1 nl1 nh2 nl2 vs : BitVec 9) (ofs : BitVec 12), q.checking = 0 →
      exec (.offStateCheckDone c nh1 nl1 nh2 nl2 vs ofs) s = .next s) ∧
    (∀ (code : BitVec 10) (nh nl vs : BitVec 9), q.checking = 3 → q.onState = true → q.pulseCause = 0 →
      let low := code.toNat < s.sc c F.sc_DIAG_IMIN ∧ drivenNodes nh.toNat nl.toNat vs.toNat = true
      (low → q.again = false →
        Answers (.onStateCheckDone c code nh (nl, vs)) s fun t =>
          (t.chan c).again = true ∧ (t.chan c).checking = 3 ∧ OnlyChan c s t) ∧
      (¬low → Answers (.onStateCheckDone c code nh (nl, vs)) s fun t => (t.chan c).dresult = 1 ∧ (t.chan c).checking = 0)) ∧
    (∀ (code : BitVec 10) (nh nl vs : BitVec 9), q.checking ≠ 3 → exec (.onStateCheckDone c code nh (nl, vs)) s = .next s) ∧
    (∀ (isq : BitVec 20) (mv ma : BitVec 16), (at' s.power.doms (14 + c.val / 16)).st = .off →
      exec (.coilModelUpdate c isq mv ma) s = .next s) ∧
    (∀ (isq : BitVec 20) (mv ma : BitVec 16), (at' s.power.doms (14 + c.val / 16)).st ≠ .off →
      let u := s.onChan c fun q => { q with hold := q.hold.filter fun h => h.1 < 4 }
      u.coilMeasures c ma.toNat = false →
      Answers (.coilModelUpdate c isq mv ma) s fun t =>
        (t.chan c).theta1 = poleStep q.theta1 (u.coilRise c isq.toNat (u.cfg (.sol c) F.sc_RTH1)) (u.cfg (.sol c) F.sc_TAU1) ∧
          SameBut [.chans, .dev, .ev, .ports] s t ∧ Others s.chans t.chans c)

/-! ### Position feedback -/

/-- Encoders: a step of the quadrature state counts by one in the direction that DIR_INV gives (R392, R393), no step counts nothing, a first
illegal transition opens the 1 ms window and a second within it is a fault (R397); the window that ends quietly is a transient; ARM, ZERO
and CLR act on their encoder alone (R394, R398); an accepted index keeps the count and its place (R396). -/
def Obligations.EncodersCount : Prop :=
  ∀ (e : Fin 8) (port : Fin 2) (a b : Bool) (s : State),
    let q := s.enc e
    let d := (quadPlace a b - quadPlace q.a q.b) % 4
    (s.cfgB (.enc e) F.enc_EN = true → d = 1 →
      Answers (.encCount e a b) s fun t =>
        (t.enc e).cnt = (if s.cfgB (.enc e) F.enc_DIR_INV then q.cnt - 1 else q.cnt + 1) ∧ (t.enc e).a = a ∧ (t.enc e).b = b ∧
          OnlyEnc e s t) ∧
    (s.cfgB (.enc e) F.enc_EN = true → d = 3 →
      Answers (.encCount e a b) s fun t =>
        (t.enc e).cnt = (if s.cfgB (.enc e) F.enc_DIR_INV then q.cnt + 1 else q.cnt - 1) ∧ (t.enc e).a = a ∧ (t.enc e).b = b ∧
          OnlyEnc e s t) ∧
    ((s.cfgB (.enc e) F.enc_EN = false ∨ d = 0) →
      Answers (.encCount e a b) s fun t => t.enc e = { q with a := a, b := b } ∧ OnlyEnc e s t) ∧
    (s.cfgB (.enc e) F.enc_EN = true → d = 2 → q.fault = false → q.quadOpen = false →
      Answers (.encCount e a b) s fun t => (t.enc e).quadOpen = true ∧ (t.enc e).cnt = q.cnt ∧ OnlyEnc e s t) ∧
    (s.cfgB (.enc e) F.enc_EN = true → d = 2 → q.fault = false → q.quadOpen = true →
      Answers (.encCount e a b) s fun t => (t.enc e).fault = true ∧ (t.enc e).fcode = 1 ∧ (t.enc e).cnt = q.cnt ∧ t.sup.broken = true) ∧
    (q.quadOpen = true →
      Answers (.quadWindowEnd e) s fun t =>
        (t.enc e).quadOpen = false ∧ (t.enc e).qerrTr = satInc 4095 q.qerrTr ∧ OnlyEnc e s t) ∧
    (q.quadOpen = false → exec (.quadWindowEnd e) s = .next s) ∧
    (Answers (.encArm port e) s fun t => t.enc e = { q with armed := true } ∧ OnlyEnc e s t) ∧
    (Answers (.encZero port e) s fun t =>
      (t.enc e).cnt = q.cnt ∧ (t.enc e).cnt - (t.enc e).zofs = BitVec.ofNat 36 (s.cfg (.enc e) F.enc_IDX_VAL) ∧ OnlyEnc e s t) ∧
    (Answers (.encClr port e) s fun t =>
      (t.enc e).fault = false ∧ (t.enc e).fcode = 0 ∧ (t.enc e).cnt = q.cnt ∧ OnlyEnc e s t) ∧
    (∀ (level : Bool) (ph : BitVec 12), (q.i = level ∨ s.cfgB (.enc e) F.enc_EN = false) →
      Answers (.encIndex e level ph) s fun t => t.enc e = { q with i := level } ∧ OnlyEnc e s t) ∧
    (∀ (level : Bool) (ph : BitVec 12), level ≠ s.cfgB (.enc e) F.enc_IPOL → q.i ≠ level → s.cfgB (.enc e) F.enc_EN = true →
      (s.cfg (.enc e) F.enc_IGATE).testBit ((if q.a then 2 else 0) + (if q.b then 1 else 0)) = true →
      s.cfg (.enc e) F.enc_CPR = 0 →
      Answers (.encIndex e level ph) s fun t =>
        (t.enc e).idxCap = q.cnt ∧ (t.enc e).idxStamp = s.count ∧ (t.enc e).idxPh = ph.toNat ∧
          (t.enc e).nIdx = satInc 2 q.nIdx ∧ (t.enc e).cnt = q.cnt ∧ Others s.encs t.encs e ∧ SameBut [.encs, .axes] s t)

/-- SSI ports, counters and probes: a good transfer gives the new reading, a bad one is repeated once and then a fault (R403, R404); CLR returns
a faulted port to its enable; a counter counts the edges it takes (R400); an armed probe queues a capture, up to four, and disarms in single
mode; ARM, DISARM and FLUSH act on their probe alone, and a read of STAMP takes the oldest capture (R406..R410). -/
def Obligations.InputsAreCaptured : Prop :=
  ∀ (port : Fin 2) (s : State),
    (∀ (x : Fin 2) (bs : List Bool) (k : Nat), (s.ssi x).busy = some k → s.ssiCause x bs k = none →
      Answers (.ssiTransferEnd x bs) s fun t =>
        (t.ssi x).busy = none ∧ (t.ssi x).raw = BitVec.ofNat 36 (s.ssiValue x (ssiParts (s.ssiCfg x) bs)) ∧ (t.ssi x).again = false ∧
          Others s.ssis t.ssis x) ∧
    (∀ (x : Fin 2) (bs : List Bool) (k f : Nat), (s.ssi x).busy = some k → s.ssiCause x bs k = some f → (s.ssi x).again = false →
      Answers (.ssiTransferEnd x bs) s fun t =>
        (t.ssi x).busy = none ∧ (t.ssi x).fcode = f ∧ (t.ssi x).again = true ∧ (t.ssi x).raw = (s.ssi x).raw ∧ OnlySsi x s t) ∧
    (∀ (x : Fin 2) (bs : List Bool) (k f : Nat), (s.ssi x).busy = some k → s.ssiCause x bs k = some f → (s.ssi x).again = true →
      (s.ssi x).sstate ≠ 2 →
      Answers (.ssiTransferEnd x bs) s fun t => (t.ssi x).sstate = 2 ∧ (t.ssi x).fcode = f ∧ t.sup.broken = true) ∧
    (∀ (x : Fin 2) (bs : List Bool), (s.ssi x).busy = none → exec (.ssiTransferEnd x bs) s = .next s) ∧
    (∀ (x : Fin 2) (ph : BitVec 12), (s.ssi x).again = true → (s.ssi x).busy = none →
      Answers (.ssiRepeat x ph) s fun t => (t.ssi x).busy.isSome = true ∧ (t.ssi x).again = true ∧ OnlySsi x s t) ∧
    (∀ (x : Fin 2) (ph : BitVec 12), (s.ssi x).again = false → exec (.ssiRepeat x ph) s = .next s) ∧
    (∀ x : Fin 2, Answers (.ssiClr port x) s fun t =>
      (t.ssi x).sstate ≠ 2 ∧ (t.ssi x).fcode = 0 ∧ (t.ssi x).raw = (s.ssi x).raw ∧ OnlySsi x s t) ∧
    (∀ (c : Fin 16) (level : Bool) (us : BitVec 20), (at' s.cnts c).level ≠ level → s.cfgB (.cnt c) F.cnt_EN = true →
      edgeTakes (s.cfg (.cnt c) F.cnt_EDGE) level = true →
      Answers (.cntEdge c level us) s fun t =>
        (at' t.cnts c).count = (at' s.cnts c).count + 1 ∧ (at' t.cnts c).last = s.count ∧ (at' t.cnts c).level = level ∧
          Others s.cnts t.cnts c ∧ SameBut [.cnts] s t) ∧
    (∀ (c : Fin 16) (us : BitVec 20), Answers (.cntEdge c (at' s.cnts c).level us) s fun t =>
      (at' t.cnts c).count = (at' s.cnts c).count ∧ SameBut [.cnts] s t) ∧
    (∀ (r : Fin 4) (ph : BitVec 12) (rise : Bool), (at' s.prbs r).level ≠ rise → (at' s.prbs r).armed = true →
      s.cfgB (.prb r) F.prb_EN = true → edgeTakes (s.cfg (.prb r) F.prb_EDGE) rise = true →
      ((at' s.prbs r).queue.length < 4 → s.cfgB (.prb r) F.prb_STOP_EN = false →
        Answers (.probeCapture r ph rise) s fun t =>
          (at' t.prbs r).queue = (at' s.prbs r).queue ++ [s.capture r ph.toNat rise] ∧
            (at' t.prbs r).armed = s.cfgB (.prb r) F.prb_PMODE ∧ OnlyPrb r s t) ∧
      (4 ≤ (at' s.prbs r).queue.length →
        Answers (.probeCapture r ph rise) s fun t =>
          (at' t.prbs r).ovf = satInc 4095 (at' s.prbs r).ovf ∧ (at' t.prbs r).queue = (at' s.prbs r).queue ∧ OnlyPrb r s t)) ∧
    (∀ r : Fin 4,
      (Answers (.probeArm port r) s fun t => at' t.prbs r = { at' s.prbs r with armed := true } ∧ OnlyPrb r s t) ∧
        (Answers (.probeDisarm port r) s fun t => at' t.prbs r = { at' s.prbs r with armed := false } ∧ OnlyPrb r s t) ∧
        (Answers (.probeFlush port r) s fun t => at' t.prbs r = { at' s.prbs r with queue := [] } ∧ OnlyPrb r s t) ∧
        (∀ c rest, (at' s.prbs r).queue = c :: rest →
          Answers (.probeStampRead port r) s fun t =>
            (t.port port).rdata = c.stamp ∧ (at' t.prbs r).queue = rest ∧ (at' t.prbs r).shown = some c ∧
              SameBut [.prbs, .ports] s t) ∧
        ((at' s.prbs r).queue = [] →
          Answers (.probeStampRead port r) s fun t => (t.port port).rdata = 0 ∧ SameBut [.prbs, .ports] s t))

/-! ### The shank -/

/-- Energy windows and trips: a sample that passes no limit is added to the bucket in progress and nothing else happens (R417); one that
brings the window above its energy limit, or the current above the release current, trips the group: it is forced with the cause, its
lane's stop is asked for (R418, R419, R422); a bucket boundary opens a new bucket (R416, R417); a high side on for TON and a strobe line at
STB_SH or DUTY_SH trip their groups (R420, R421). -/
def Obligations.EnergyWindowsAndTrips : Prop :=
  ∀ (g : Fin 58) (s : State),
    (∀ (draws : Bool) (v a : BitVec 16) b rest u, (s.grp g).buckets = b :: rest →
      u = s.onGrp g (fun q => { q with amps := a.toNat, buckets := (if draws then b + v.toNat * a.toNat else b) :: rest }) →
      (s.grp g).relHold = false →
      (u.overEnergy g = false → u.overRelease g = false → exec (.monitorSample g draws v a) s = .next u) ∧
      (u.overEnergy g = true → u.overRelease g = false → (s.grp g).seenE = false →
        Answers (.monitorSample g draws v a) s fun t =>
          (t.grp g).forced = true ∧ (t.grp g).cause = 1 ∧ (t.grp g).trips = ((s.grp g).trips + 1) % 256 ∧
            (t.grp g).buckets = (u.grp g).buckets ∧ t.shank.energyTrip = true ∧
            (s.stitch.n, 2 ^ groupLane g) ∈ t.jobs.stops ∧ Others s.shank.groups t.shank.groups g ∧ t.stitch = s.stitch) ∧
      (u.overEnergy g = false → u.overRelease g = true → (s.grp g).forced = false →
        Answers (.monitorSample g draws v a) s fun t =>
          (t.grp g).forced = true ∧ (t.grp g).cause = 2 ∧ (t.grp g).relHold = true ∧
            (t.grp g).trips = ((s.grp g).trips + 1) % 256 ∧ t.shank.releaseTrip = true ∧
            (s.stitch.n, 2 ^ groupLane g) ∈ t.jobs.stops ∧ Others s.shank.groups t.shank.groups g ∧ t.stitch = s.stitch)) ∧
    ((s.grp g).oldWin = none →
      Answers (.energyBucket g) s fun t =>
        t.grp g = { s.grp g with buckets := 0 :: (s.grp g).buckets.take 32 } ∧ Others s.shank.groups t.shank.groups g ∧
          SameBut [.shank] s t) ∧
    (∀ w, (s.grp g).oldWin = some w →
      Answers (.energyBucket g) s fun t =>
        (t.grp g).oldWin = none ∧ (t.grp g).buckets.length = 33 ∧ Others s.shank.groups t.shank.groups g ∧ SameBut [.shank] s t) ∧
    (∀ elem : BitVec 4, g.val < 56 →
      Answers (.ontime g elem) s fun t =>
        (t.grp g).forced = true ∧ (t.grp g).cause = 5 ∧ (t.grp g).elem = elem.toNat ∧ t.shank.interlockTrip = true ∧
          (s.stitch.n, 2 ^ groupLane g) ∈ t.jobs.stops ∧ Others s.shank.groups t.shank.groups g ∧ t.stitch = s.stitch) ∧
    (∀ elem : BitVec 4, 56 ≤ g.val → exec (.ontime g elem) s = .next s) ∧
    (∀ (x : Fin 2) (elem : BitVec 4) (duty : Bool),
      Answers (.strobeLimit x elem duty) s fun t =>
        (t.grp (56 + x)).forced = true ∧ (t.grp (56 + x)).cause = (if duty then 7 else 6) ∧ (t.grp (56 + x)).elem = elem.toNat ∧
          t.shank.headTrip = true ∧ (t.head x).vhen = false ∧ (s.stitch.n, 2 ^ x.val) ∈ t.jobs.stops ∧
          Others s.shank.groups t.shank.groups (56 + x) ∧ t.stitch = s.stitch)

/-- Force and release: GREL ends the force of one group and REL that of all, where their conditions hold, and are refused STATE
otherwise, and REVISION at revision 1 (R423, R426, R117); DISCH, a low STOP_N and an open door take the device to its safe state, DISCH and the door with a discharge
(R424, R425, R427); a pin that returns changes its own state alone. -/
def Obligations.SafeStateAndRelease : Prop :=
  ∀ (p : Fin 2) (g : Fin 58) (s : State),
    ((s.port p).rev = 1 → ∀ c ∈ [Instr.grel p g, .rel p, .disch p],
      Answers c s fun t => (t.port p).noteCode = rcRevision ∧ OnlyPort p s t) ∧
    ((s.port p).rev ≠ 1 → (s.grp g).forced = false → exec (.grel p g) s = .next s) ∧
    ((s.port p).rev ≠ 1 → (s.grp g).forced = true → s.shank.st = .normal → s.mayRelease g = true →
      Answers (.grel p g) s fun t =>
        t.grp g = { s.grp g with forced := false, relHold := false, seenE := false, seenR := false } ∧
          Others s.shank.groups t.shank.groups g ∧ t.shank.st = .normal ∧ SameBut [.shank, .axes, .chans] s t) ∧
    ((s.port p).rev ≠ 1 → (s.grp g).forced = true → (s.shank.st ≠ .normal ∨ s.mayRelease g = false) →
      Answers (.grel p g) s fun t => (t.port p).noteCode = rcState ∧ OnlyPort p s t) ∧
    ((s.port p).rev ≠ 1 → s.shank.stopLow = false → s.shank.doorOpen = false → s.shank.st ≠ .discharging → s.sup.shut = false →
      s.sec.intrusive = none → (∀ k < 58, (s.grp k).forced = true → s.mayRelease k = true) →
      Answers (.rel p) s fun t =>
        t.shank.st = .normal ∧ (∀ k < 58, (t.grp k).forced = false) ∧ t.dev.st = (if s.dev.st = .safe then .ready else s.dev.st) ∧
          SameBut [.shank, .dev, .axes, .chans] s t) ∧
    ((s.port p).rev ≠ 1 → (s.shank.stopLow = true ∨ s.shank.doorOpen = true ∨ s.shank.st = .discharging ∨
        ((s.grp g).forced = true ∧ s.mayRelease g = false)) →
      Answers (.rel p) s fun t => (t.port p).noteCode = rcState ∧ OnlyPort p s t) ∧
    ((s.port p).rev ≠ 1 → s.shank.st ≠ .discharging →
      Answers (.disch p) s fun t =>
        t.shank.st = .discharging ∧ t.shank.discT = 0 ∧ t.stitch = s.stitch ∧ t.tbl = s.tbl ∧
          (s.shank.st = .normal → (s.stitch.n, 0x3FFFF) ∈ t.jobs.stops ∧ (s.dev.st = .ready → t.dev.st = .safe))) ∧
    ((s.port p).rev ≠ 1 → s.shank.st = .discharging →
      Answers (.disch p) s fun t => (t.port p).noteCode = rcState ∧ OnlyPort p s t) ∧
    (s.shank.stopLow = false →
      Answers (.stopInput true) s fun t =>
        t.shank.stopLow = true ∧ t.shank.stopped = true ∧ t.shank.st ≠ .normal ∧ t.stitch = s.stitch ∧ t.tbl = s.tbl ∧
          (s.shank.st = .normal → (s.stitch.n, 0x3FFFF) ∈ t.jobs.stops ∧ (s.dev.st = .ready → t.dev.st = .safe))) ∧
    Answers (.stopInput false) s (fun t => t.shank = { s.shank with stopLow := false } ∧ SameBut [.shank] s t) ∧
    (s.shank.doorOpen = false →
      Answers (.doorOpen true) s fun t =>
        t.shank.doorOpen = true ∧ t.shank.st = .discharging ∧ t.stitch = s.stitch ∧ t.tbl = s.tbl ∧
          (s.shank.st = .normal → (s.stitch.n, 0x3FFFF) ∈ t.jobs.stops ∧ (s.dev.st = .ready → t.dev.st = .safe))) ∧
    Answers (.doorOpen false) s (fun t => t.shank = { s.shank with doorOpen := false } ∧ SameBut [.shank] s t)

/-- Stored energy and limits (R414, R427, R428): the estimates follow the supplies' readings and a discharge ends once both lie at or below
E_SAFE; T_DISCH ends it with DISCHARGE_FAILED; a limit field takes its first write since reset, and none after it, where nothing refuses
the write: at revision 1 and when locked every write of a limit word is refused. -/
def Obligations.DischargeAndLimits : Prop :=
  ∀ (p : Fin 2) (s : State),
    (∀ (vm vs : BitVec 9) em es e, em = storedEnergy (s.cfg .shk F.shk_C_M) vm.toNat →
      es = storedEnergy (s.cfg .shk F.shk_C_S) vs.toNat → e = s.cfg .shk F.shk_E_SAFE →
      (s.shank.st = .discharging →
        Answers (.dischargeUpdate vm vs) s fun t =>
          t.shank.em = em ∧ t.shank.es = es ∧ t.shank.st = (if em ≤ e ∧ es ≤ e then .discharged else .discharging) ∧
            t.shank.groups = s.shank.groups ∧ SameBut [.shank] s t) ∧
      (s.shank.st = .normal ∨ s.shank.st = .safe →
        Answers (.dischargeUpdate vm vs) s fun t => t.shank = { s.shank with em := em, es := es } ∧ SameBut [.shank] s t)) ∧
    (s.shank.st = .discharging →
      Answers .dischargeTimeout s fun t =>
        t.shank.st = .safe ∧ t.shank.dischFail = true ∧ t.shank.dmOn = false ∧ t.shank.dsOn = false ∧
          SameBut [.shank, .dev, .ev, .ports] s t) ∧
    (s.shank.st ≠ .discharging → exec .dischargeTimeout s = .next s) ∧
    (∀ (g : Fin 58) (a : BitVec 24) (w : Word) fs, a.toNat = 0xC0100 + 4 * g.val →
      fs = (wordFields a.toNat).filter (fun f => f.acc = .wl) →
      ((s.port p).rev = 1 →
        Answers (.shankLimitWrite p a w) s fun t => (t.port p).noteCode = rcRevision ∧ OnlyPort p s t) ∧
      ((s.port p).rev ≠ 1 → s.shank.locked = true →
        Answers (.shankLimitWrite p a w) s fun t => (t.port p).noteCode = rcLocked ∧ OnlyPort p s t) ∧
      (s.limitFault p (.grp g) a.toNat fs w = 0 →
        Answers (.shankLimitWrite p a w) s fun t =>
          t.cfg (.grp g) F.grp_P_LIM =
              (if s.wlSet a.toNat F.grp_P_LIM then s.cfg (.grp g) F.grp_P_LIM else F.grp_P_LIM.get w) ∧
            t.wlSet a.toNat F.grp_P_LIM = true ∧ SameBut [.tbl, .shank, .ports] s t)) ∧
    (∀ (a : BitVec 24) (w : Word), 0xC01E8 ≤ a.toNat → exec (.shankLimitWrite p a w) s = .next s)

/-! ### Temperature and supply -/

/-- Readings: a die sensor keeps its raw code, and where all six sound sensors read alike DIE_T is their reading (R435); a thermistor in range
gives its temperature, one out of range starts the second attempt (R433, R434); a disabled NTC input is as after reset; the second attempt
ends as a transient or with a broken sensor (R434). Supplies (R448..R451): a sag of a supply that is set is counted and flagged, and its
end starts the hold of its stretch request (R49); VGD low turns the bridges off and VGD back lets them go on (R353); a loss of VM marks
the axes of the domains that run UNCERTAIN and flags the others (R451, R323) until VM is armed again. What already stands as told changes
nothing. -/
def Obligations.DeviceInputsAreRead : Prop :=
  (∀ (i : Fin 18) (code : BitVec 12) (s : State),
       (i.val < 5 →
         exec (.tempSample i code) s = .next (s.onTin i fun t => { t with code := code.toNat })) ∧
       (i.val = 5 → (∀ j < 6, (s.tin j).brk = false) → (∀ j < 5, (s.tin j).code = code.toNat) →
         Answers (.tempSample i code) s fun t =>
           t.sup.dieT = signed 12 code.toNat ∧ (∀ j < 6, (t.tin j).val = signed 12 code.toNat ∧ (t.tin j).recheck = false) ∧
             t.stitch = s.stitch ∧ t.tbl = s.tbl) ∧
       (6 ≤ i.val → (i.val < 10 ∨ s.cfgB (.ntc (i - 10)) F.ntc_EN = true) → 82 ≤ code.toNat → code.toNat ≤ 4013 →
         (s.thermConsts i).2.1 ≠ 0 → (s.thermConsts i).2.2 ≠ 0 → (s.tin i).brk = false →
         Answers (.tempSample i code) s fun t =>
           (t.tin i).code = code.toNat ∧ (t.tin i).recheck = false ∧
             (t.tin i).val = thermistor code.toNat (s.thermConsts i).1 (s.thermConsts i).2.1 (s.thermConsts i).2.2 ∧
             t.stitch = s.stitch ∧ t.tbl = s.tbl) ∧
       (6 ≤ i.val → (i.val < 10 ∨ s.cfgB (.ntc (i - 10)) F.ntc_EN = true) → (code.toNat < 82 ∨ 4013 < code.toNat) →
         (s.tin i).brk = false →
         Answers (.tempSample i code) s fun t =>
           (t.tin i).code = code.toNat ∧ (t.tin i).recheck = true ∧ (t.tin i).val = (s.tin i).val ∧ (t.tin i).brk = false ∧
             t.stitch = s.stitch ∧ t.tbl = s.tbl) ∧
       (10 ≤ i.val → s.cfgB (.ntc (i - 10)) F.ntc_EN = false →
         Answers (.tempSample i code) s fun t => t.tin i = TempIn.reset ∧ Others s.sup.ins t.sup.ins i) ∧
       ((s.tin i).recheck = false → exec (.sensorRecheck i code) s = .next s) ∧
       ((s.tin i).recheck = true → (s.tin i).brk = false → i.val < 6 →
         ((s.onTin i fun t => { t with code := code.toNat }).dieOut i = false →
           Answers (.sensorRecheck i code) s fun t =>
             t.tin i = { s.tin i with code := code.toNat, recheck := false, val := signed 12 code.toNat } ∧
               t.sup.brkTr = satInc 4095 s.sup.brkTr ∧ Others s.sup.ins t.sup.ins i ∧ SameBut [.sup] s t) ∧
         ((s.onTin i fun t => { t with code := code.toNat }).dieOut i = true →
           Answers (.sensorRecheck i code) s fun t =>
             (t.tin i).brk = true ∧ (t.tin i).recheck = false ∧ t.sup.broken = true ∧ Others s.sup.ins t.sup.ins i)) ∧
       ((s.tin i).recheck = true → (s.tin i).brk = false → 6 ≤ i.val →
         (82 ≤ code.toNat → code.toNat ≤ 4013 → (s.thermConsts i).2.1 ≠ 0 → (s.thermConsts i).2.2 ≠ 0 →
           Answers (.sensorRecheck i code) s fun t =>
             (t.tin i).brk = false ∧ (t.tin i).recheck = false ∧ t.sup.brkTr = satInc 4095 s.sup.brkTr ∧
               (t.tin i).val = thermistor code.toNat (s.thermConsts i).1 (s.thermConsts i).2.1 (s.thermConsts i).2.2 ∧
               Others s.sup.ins t.sup.ins i) ∧
         (code.toNat < 82 ∨ 4013 < code.toNat →
           Answers (.sensorRecheck i code) s fun t =>
             (t.tin i).brk = true ∧ (t.tin i).recheck = false ∧ t.sup.broken = true ∧ Others s.sup.ins t.sup.ins i))) ∧
  (∀ (m : Fin 4) (volts : BitVec 9) (win : BitVec 5) (s : State),
       (s.cfg (.sup m) F.sup_NOM ≠ 0 → at' s.sup.sag m = false → s.power.st = .run →
         Answers (.sagAssert m volts win) s fun t =>
           at' t.sup.sag m = true ∧ at' t.sup.sags m = satInc 4095 (at' s.sup.sags m) ∧ t.sup.sagSeen = true ∧
             Others s.sup.sag t.sup.sag m ∧ SameBut [.sup, .dev, .ev, .ports, .heads] s t ∧ (m.val < 2 → t.heads = s.heads) ∧
             (∀ x : Fin 2, m.val = x.val + 2 → (t.head x).sagcut = true)) ∧
       ((s.cfg (.sup m) F.sup_NOM = 0 ∨ at' s.sup.sag m = true ∨ s.power.st ≠ .run) →
         exec (.sagAssert m volts win) s = .next s) ∧
       (at' s.sup.sag m = true →
         Answers (.sagClear m volts win) s fun t =>
           at' t.sup.sag m = false ∧ Others s.sup.sag t.sup.sag m ∧
             (m.val = 0 → t.stitch = { s.stitch with holdVM := some s.stitch.since }) ∧
             (m.val = 1 → t.stitch = { s.stitch with holdVS := some s.stitch.since }) ∧
             (2 ≤ m.val → at' s.sup.sag (5 - m.val) = false →
               t.stitch = { s.stitch with holdVH := some s.stitch.since }) ∧
             (∀ x : Fin 2, m.val = x.val + 2 → (t.head x).sagcut = false) ∧
             SameBut [.sup, .stitch, .dev, .ev, .ports, .heads] s t) ∧
       (at' s.sup.sag m = false → exec (.sagClear m volts win) s = .next s) ∧
       (s.sup.vgdLow = false → (∀ c : Fin 32, (s.chan c).st = .idle) →
         Answers .vgdLow s fun t => t.sup.vgdLow = true ∧ (∀ b : Fin 24, (t.br b).sw = .off) ∧ t.stitch = s.stitch ∧ t.tbl = s.tbl) ∧
       (s.sup.vgdLow = true → exec .vgdLow s = .next s) ∧
       (s.sup.vgdLow = true →
         Answers .vgdClear s fun t => t.sup = { s.sup with vgdLow := false } ∧ SameBut [.sup, .axes, .chans] s t) ∧
       (s.sup.vgdLow = false → exec .vgdClear s = .next s) ∧
       (s.sup.vmLow = false →
         Answers .vmLoss s fun t =>
           t.sup.vmLow = true ∧
             (∀ g < 4, (at' s.power.doms (10 + g)).st ≠ .run → (at' s.power.doms (10 + g)).st ≠ .idle → at' t.sup.vmLostG g = true) ∧
             (∀ n : Fin 12, (at' s.power.doms (10 + n.val / 3)).st = .run → s.cfg (.ax n) F.ax_KIND = 1 →
               s.cfg (.ax n) F.ax_CONF_SRC = 0 → (t.ax n).posOk = false) ∧
             SameBut [.sup, .axes, .dev, .ev, .ports] s t) ∧
       (s.sup.vmLow = true → exec .vmLoss s = .next s) ∧
       Answers .vmRearm s (fun t => t.sup = { s.sup with vmLow := false } ∧ SameBut [.sup] s t))

/-! ### Flash and SRAM -/

/-- Word programs and erases (R457, R460, R464): a word of the entry being written that verifies moves its bank on and counts as load (R189);
FIRST of the next erased sector takes the head there (R157); a pulse that fails is repeated once, and the repeat that verifies is a
transient; an erased sector counts its cycle and returns to the pool, a slice that leaves it not blank is followed by another, and 32 of
them by a second erase; a welt program suspends an erase, which resumes when none is pending. Scrubbing and the settings (R467, R468,
R475, R116, R473): a pass starts when due, reads on past sound words and flags correctable ones; a second uncorrectable word of an SRAM
bank within a second retires it and its head lane faults (R34, R36); SAVE snapshots the configuration in force and commits it, SCRUB_NOW
starts a fast pass, each refused BUSY while one runs and STATE outside READY and SAFE. -/
def Obligations.FlashIsKept : Prop :=
  (∀ (b : Fin 2) (s : State),
       (s.programming b = none → ∀ ok, exec (.wordProgramDone b ok) s = .next s) ∧
       (s.weltPulse b = some .word → (s.bank b).again = false →
         (Answers (.wordProgramDone b true) s fun t =>
           t.bank b = { s.bank b with done := (s.bank b).done + 1, susp := (s.bank b).erasing } ∧ t.welt = s.welt.count b ∧
             Others s.suspend.flash.banks t.flash.banks b ∧ SameBut [.flash, .welt] s t) ∧
         (Answers (.wordProgramDone b false) s fun t =>
           t.bank b = { s.bank b with again := true, susp := (s.bank b).erasing } ∧ Others s.suspend.flash.banks t.flash.banks b ∧
             SameBut [.flash] s t)) ∧
       (s.weltPulse b = some .word → (s.bank b).again = true →
         Answers (.wordProgramDone b true) s fun t =>
           (t.bank b).done = (s.bank b).done + 1 ∧ (t.bank b).again = false ∧ t.welt = s.welt.count b ∧
             at' t.dev.flashTr b = at' s.dev.flashTr b + 1 ∧ SameBut [.flash, .dev, .welt] s t) ∧
       (∀ k, s.weltPulse b = some (.first k) → (s.bank b).again = false →
         Answers (.wordProgramDone b true) s fun t =>
           (t.bank b).at_ = k ∧ (t.bank b).first = s.nextLpos b ∧ (t.bank b).ahead = (s.bank b).ahead.filter (· != k) ∧
             (t.bank b).done = (s.bank b).done ∧ SameBut [.flash, .welt] s t) ∧
       ((s.bank b).eraseQ = [] → ∀ blank, exec (.eraseSliceEnd b blank) s = .next s) ∧
       (∀ k rest, (s.bank b).eraseQ = k :: rest → s.bankOut b = false → (s.bank b).susp = false → s.weltPending = false →
         ((s.bank b).eraseTwo = false →
           Answers (.eraseSliceEnd b true) s fun t =>
             (t.bank b).eraseQ = rest.filter (· != k) ∧ (t.bank b).erasesOf k = (s.bank b).erasesOf k + 1 ∧ (t.bank b).slices = 0 ∧
               (k < 1536 → k ∈ (t.bank b).ahead) ∧ Others s.flash.banks t.flash.banks b ∧
               SameBut [.flash, .assets, .dev, .ev, .ports] s t) ∧
         ((s.bank b).slices < 31 →
           Answers (.eraseSliceEnd b false) s fun t =>
             t.bank b = { s.bank b with slices := (s.bank b).slices + 1 } ∧ Others s.flash.banks t.flash.banks b ∧
               SameBut [.flash] s t) ∧
         ((s.bank b).slices = 31 → (s.bank b).eraseTwo = false →
           Answers (.eraseSliceEnd b false) s fun t =>
             t.bank b = { s.bank b with slices := 0, eraseTwo := true } ∧ Others s.flash.banks t.flash.banks b ∧
               SameBut [.flash] s t)) ∧
       (s.weltPending = false →
         Answers (.eraseResume b) s fun t =>
           t.bank b = { s.bank b with susp := false } ∧ Others s.flash.banks t.flash.banks b ∧ SameBut [.flash] s t) ∧
       (s.weltPending = true → exec (.eraseResume b) s = .next s)) ∧
  (∀ (p b : Fin 2) (s : State),
       (s.flash.scrubEn = true → s.flash.pass = false → s.mayFlash = true →
         Answers .scrubPassStart s fun t =>
           t.flash.pass = true ∧ t.flash.fast = false ∧ t.flash.sector = 0 ∧ SameBut [.flash] s t) ∧
       ((s.flash.scrubEn = false ∨ s.flash.pass = true ∨ s.mayFlash = false) → exec .scrubPassStart s = .next s) ∧
       (∀ a : BitVec 21, s.flash.pass = true → s.flash.scrubEn = true → s.bankOut b = false →
         (s.bank b).eraseQ.head? ≠ some (a.toNat / 512) → s.sectorFree b (a.toNat / 512) = false →
         (Answers (.scrubRead b a 1) s fun t =>
           t.flash.sector = a.toNat / 512 ∧ t.flash.banks = s.flash.banks ∧ t.flash.corr = s.flash.corr ∧ SameBut [.flash] s t) ∧
         (Answers (.scrubRead b a 2) s fun t => t.flash.sector = a.toNat / 512 ∧ t.flash.corr = true ∧ t.stitch = s.stitch)) ∧
       (∀ (a : BitVec 21) (v : BitVec 2), s.flash.pass = false → exec (.scrubRead b a v) s = .next s) ∧
       (∀ v : BitVec 2, at' s.dev.sramRet b = true → exec (.sramScrubTick b v) s = .next s) ∧
       (at' s.dev.sramRet b = false →
         exec (.sramScrubTick b 0) s = .next s ∧ exec (.sramScrubTick b 1) s = .next s ∧
         ((∀ t0, at' s.dev.sramErr b = some t0 → 200000000 < s.stitch.cycles - t0) →
           Answers (.sramScrubTick b 2) s fun t =>
             at' t.dev.sramErr b = some s.stitch.cycles ∧ at' t.dev.sramTr b = at' s.dev.sramTr b + 1 ∧ t.dev.transient = true ∧ SameBut [.dev] s t) ∧
         (∀ t0, at' s.dev.sramErr b = some t0 → s.stitch.cycles - t0 ≤ 200000000 →
           Answers (.sramScrubTick b 2) s fun t => at' t.dev.sramRet b = true ∧ (t.lane b).state = .fault ∧ t.stitch = s.stitch) ∧
         (Answers (.sramScrubTick b 3) s fun t => at' t.dev.sramRet b = true ∧ (t.lane b).state = .fault ∧ t.stitch = s.stitch)) ∧
       (s.mayFlash = true → s.flashBusy = false →
         Answers (.save p) s fun t =>
           (∃ w, t.flash.saving = some w ∧ w = s.tbl.force.filter fun c => inSettings c.1) ∧ t.flash.stored = s.flash.stored ∧
             SameBut [.flash] s t) ∧
       (s.mayFlash = true → s.flashBusy = true →
         (Answers (.save p) s fun t => (t.port p).noteCode = rcBusy ∧ OnlyPort p s t) ∧
           (Answers (.scrubNow p) s fun t => (t.port p).noteCode = rcBusy ∧ OnlyPort p s t)) ∧
       (s.mayFlash = false →
         (Answers (.save p) s fun t => (t.port p).noteCode = rcState ∧ OnlyPort p s t) ∧
           (Answers (.scrubNow p) s fun t => (t.port p).noteCode = rcState ∧ OnlyPort p s t)) ∧
       (∀ w, s.flash.saving = some w → (∀ k < 2, s.bankOut k = true ∨ (s.bank k).again = false) →
         Answers .saveDone s fun t => t.flash.saving = none ∧ t.flash.stored = w ∧ SameBut [.flash] s t) ∧
       (s.flash.saving = none → exec .saveDone s = .next s) ∧
       (s.mayFlash = true → s.flashBusy = false →
         Answers (.scrubNow p) s fun t =>
           t.flash.pass = true ∧ t.flash.fast = true ∧ t.flash.sector = 0 ∧ SameBut [.flash] s t))

/-! ### UARTs -/

/-- The AUX ports (R135, R488..R494, R499, R500): a TX write queues its character or is refused, an RX read takes the oldest one, CTL takes a
legal setting while nothing is sent; a received character is kept with its flags or overruns, line idle and timeouts act on their port
alone; the end of reception writes the results of an AUX_XFER and ends its record. -/
def Obligations.AuxPortsWork : Prop :=
  ∀ (p k : Fin 2) (s : State),
    (∀ c : BitVec 9, s.mayFlash = true → (s.aux k).tunnel = false → (s.aux k).en = true →
      ((s.aux k).tx.length < 65 →
        Answers (.auxTxWrite p k c) s fun t =>
          t.aux k = { s.aux k with tx := (s.aux k).tx ++ [if (s.aux k).nine then c.toNat else c.toNat % 256] } ∧
            Others s.uarts.aux t.uarts.aux k ∧ SameBut [.uarts] s t) ∧
      (65 ≤ (s.aux k).tx.length → Answers (.auxTxWrite p k c) s fun t => (t.port p).noteCode = rcBusy ∧ OnlyPort p s t)) ∧
    (∀ c : BitVec 9, (s.mayFlash = false ∨ (s.aux k).tunnel = true ∨ (s.aux k).en = false) →
      Answers (.auxTxWrite p k c) s fun t => (t.port p).noteCode = rcState ∧ OnlyPort p s t) ∧
    (∀ e rest, (s.aux k).rx = e :: rest → (s.aux k).tunnel = false →
      Answers (.auxRxRead p k) s fun t =>
        (t.port p).rdata = (flag 35 true ||| flag 34 (e.testBit 11) ||| flag 33 (e.testBit 10) ||| flag 32 (e.testBit 9) ||| field 8 0 e) ∧
          t.aux k = { s.aux k with rx := rest } ∧ Others s.uarts.aux t.uarts.aux k ∧ SameBut [.uarts, .ports] s t) ∧
    (((s.aux k).rx = [] ∨ (s.aux k).tunnel = true) →
      Answers (.auxRxRead p k) s fun t => (t.port p).rdata = 0 ∧ OnlyPort p s t) ∧
    (∀ w : Word, (bits w 23 8 = 0 ∨ 640 < bits w 23 8 ∨ bits w 5 4 = 3) →
      Answers (.auxCtlWrite p k w) s fun t => (t.port p).noteCode = rcRange ∧ OnlyPort p s t) ∧
    (∀ w : Word, 1 ≤ bits w 23 8 → bits w 23 8 ≤ 640 → bits w 5 4 ≠ 3 → (s.aux k).tx = [] →
      (∀ x, s.uarts.xfer = some x → x.port ≠ k) →
      Answers (.auxCtlWrite p k w) s fun t =>
        (t.aux k).div = bits w 23 8 ∧ (t.aux k).en = bit w 7 ∧ (t.aux k).nine = bit w 6 ∧ (t.aux k).par = bits w 5 4 ∧
          (t.aux k).stop2 = bit w 3 ∧ (t.aux k).addrOnly = bit w 2 ∧ (t.aux k).tunnel = bit w 1 ∧
          (t.aux k).rx = (if (s.aux k).en && !bit w 7 then [] else (s.aux k).rx) ∧
          Others s.uarts.aux t.uarts.aux k ∧ SameBut [.uarts] s t) ∧
    (∀ (u : Fin 4) (a : BitVec 3) (d q : List (BitVec 3)) (z : BitVec 3) (h : Heard), u.val = k.val + 2 → s.uartsRun = true →
      decodeChar (s.aux k).nine (s.aux k).par (charSamples a d q z) = some h → (s.aux k).en = true → (s.aux k).addrOnly = false →
      (s.aux k).tunnel = false →
      ((s.aux k).rx.length < 255 →
        Answers (.characterReceived u a d q z) s fun t =>
          (t.aux k).rx = (s.aux k).rx ++ [element (if (s.aux k).nine then h.char else h.char % 256) h.noise h.ferr h.perr] ∧
            (t.aux k).idle = false ∧ (t.aux k).ovr = (s.aux k).ovr ∧ (t.aux k).noise = ((s.aux k).noise || h.noise) ∧
            Others s.uarts.aux t.uarts.aux k ∧ SameBut [.uarts] s t) ∧
      (255 ≤ (s.aux k).rx.length →
        Answers (.characterReceived u a d q z) s fun t =>
          (t.aux k).rx = (s.aux k).rx ∧ (t.aux k).ovr = true ∧ Others s.uarts.aux t.uarts.aux k ∧ SameBut [.uarts] s t)) ∧
    (∀ (u : Fin 4) (a : BitVec 3) (d q : List (BitVec 3)) (z : BitVec 3), u.val = k.val + 2 →
      (s.aux k).en = false ∨ s.uartsRun = false ∨ decodeChar (s.aux k).nine (s.aux k).par (charSamples a d q z) = none →
      exec (.characterReceived u a d q z) s = .next s) ∧
    (∀ u : Fin 4, u.val = k.val + 2 → exec (.receiveTimeout u) s = .next s) ∧
    (∀ u : Fin 4, u.val = k.val + 2 → (s.aux k).en = true →
      Answers (.lineIdle u) s fun t =>
        t.aux k = { s.aux k with idle := true, taking := false } ∧ Others s.uarts.aux t.uarts.aux k ∧ SameBut [.uarts] s t) ∧
    (∀ u : Fin 4, u.val < 2 → exec (.lineIdle u) s = .next s) ∧
    (∀ x q, s.uarts.xfer = some x → x.rxOpen = true → (s.lane 18).running = some q →
      Answers .auxXferEnd s fun t =>
        t.uarts.xfer = none ∧ (t.lane 18).running = none ∧
          (x.got ≠ [] → ∃ e more, t.welt.wq = s.welt.wq ++ e :: more ∧ e.kind = 8 ∧ e.seq = q.job) ∧ t.axes = s.axes ∧
          t.stitch = s.stitch) ∧
    (s.uarts.xfer = none → exec .auxXferEnd s = .next s)

/-! ### Clocks, cores, power states -/

/-- Clocks and cores (R29, R34, R514..R517, R520): a PLL_U that locks again and a transfer that succeeds in its repeat are transients; what
lasts is a device fault with its reset and sub-cause; a core that misses a heartbeat restarts, is on probation, and is retired when it
misses again; where no core remains the device resets. -/
def Obligations.ClocksAndCores : Prop :=
  ∀ (k : Fin 2) (s : State),
    Answers .aonXtalLoss s (fun t => t.power = { s.power with aonXtal := false } ∧ SameBut [.power] s t) ∧
    Answers .pllUFault s (fun t => t.power = { s.power with pllU := true } ∧ SameBut [.power] s t) ∧
    (s.power.pllU = true →
      Answers (.pllURelock true) s fun t =>
        t.power = { s.power with pllU := false, clkTr := satInc 4095 s.power.clkTr } ∧ SameBut [.power] s t) ∧
    (s.power.pllU = true → Answers (.pllURelock false) s fun t => s.wasReset t 4 5 false) ∧
    (s.power.pllU = false → ∀ ok, exec (.pllURelock ok) s = .next s) ∧
    (∀ kind dev, s.clockBad kind.toNat dev.toNat = true →
      Answers (.clockFault (kind, dev)) s fun t => s.wasReset t 4 (if kind = 3 then 4 else 5) false) ∧
    (∀ kind dev, s.clockBad kind.toNat dev.toNat = false → exec (.clockFault (kind, dev)) s = .next s) ∧
    Answers (.fabricParityError true) s (fun t =>
      t.dev = { s.dev with fabricTr := s.dev.fabricTr + 1, transient := true } ∧ SameBut [.dev] s t) ∧
    Answers (.fabricParityError false) s (fun t => s.wasReset t 4 1 false) ∧
    (s.sec.intrusive = some 0x10 → exec (.watchdogMiss k) s = .next s) ∧
    (s.sec.intrusive ≠ some 0x10 → at' s.dev.cores k = .running →
      Answers (.watchdogMiss k) s fun t =>
        at' t.dev.cores k = .restarting ∧ Others s.dev.cores t.dev.cores k ∧ SameBut [.dev] s t) ∧
    (s.sec.intrusive ≠ some 0x10 → at' s.dev.cores k = .probation → at' s.dev.cores (1 - k.val) ≠ .retired →
      Answers (.watchdogMiss k) s fun t =>
        at' t.dev.cores k = .retired ∧ (at' t.power.doms (1 + k)).st = .off ∧ t.dev.st = s.dev.st ∧
          SameBut [.dev, .power, .ev, .ports] s t) ∧
    (s.sec.intrusive ≠ some 0x10 → at' s.dev.cores k = .probation → at' s.dev.cores (1 - k.val) = .retired →
      Answers (.watchdogMiss k) s fun t => s.wasReset t 4 6 false) ∧
    (at' s.dev.cores k = .restarting → (∀ p < 2, (s.port p).rxRing = [] ∧ (s.port p).rxFifo = []) →
      Answers (.coreRestart k) s fun t =>
        at' t.dev.cores k = .probation ∧ Others s.dev.cores t.dev.cores k ∧ SameBut [.dev] s t) ∧
    (at' s.dev.cores k ≠ .restarting → exec (.coreRestart k) s = .next s) ∧
    (at' s.dev.cores k = .probation →
      Answers (.coreProbationEnd k) s fun t =>
        at' t.dev.cores k = .running ∧ at' t.dev.coreTr k = at' s.dev.coreTr k + 1 ∧ t.dev.transient = true ∧ SameBut [.dev] s t) ∧
    (at' s.dev.cores k ≠ .probation → exec (.coreProbationEnd k) s = .next s)

/-- Power domains and states (R503..R511): a domain that is idle goes to IDLE, from there OFF, and up again when it is asked for, its bridges in
their check; on the way to SLEEP the engine domains go to OFF and the stitch stops at its next boundary (R508), and a wake brings it back at
X = 1.000; GO_OFF waits for SLEEP, and a wake in OFF is a WAKE reset. -/
def Obligations.DomainsAndSleep : Prop :=
  ∀ (d : Fin 16) (p : Fin 2) (s : State),
    (s.domIdle d = true → (s.dom d).st = .run →
      Answers (.domainIdle d) s fun t => s.dom d = { t.dom d with st := .run } ∧ (t.dom d).st = .idle ∧
        Others s.power.doms t.power.doms d ∧ SameBut [.power] s t) ∧
    ((s.domIdle d = false ∨ (s.dom d).st ≠ .run) → exec (.domainIdle d) s = .next s) ∧
    (s.domIdle d = true → (s.dom d).st = .idle →
      Answers (.domainOff d) s fun t =>
        (t.dom d).st = .off ∧ (t.dom d).req = false ∧ Others s.power.doms t.power.doms d ∧
          SameBut [.power, .heads, .axes, .chans] s t) ∧
    ((s.domIdle d = false ∨ (s.dom d).st ≠ .idle) → exec (.domainOff d) s = .next s) ∧
    (∀ dt, 8 ≤ d.val → (s.dom d).st = .off → ((s.dom d).req = true ∨ s.keep d = true ∨ s.bistHolds d = true) → s.power.st = .run →
      Answers (.domainPowerUp d dt) s fun t =>
        (t.dom d).st = .run ∧ (t.dom d).req = false ∧ (t.dom d).powerups = ((s.dom d).powerups + 1) % 2 ^ 18 ∧
          Others s.power.doms t.power.doms d ∧
          (∀ n : Fin 12, d.val = 10 + n.val / 3 → (s.ax n).a1.st ≠ .fault → (t.ax n).a1.st = .calib) ∧
          SameBut [.power, .axes, .chans] s t) ∧
    (∀ dt, (s.dom d).st ≠ .off → exec (.domainPowerUp d dt) s = .next s) ∧
    (s.power.st = .run → s.power.entering = false → (s.cfgB .pwr F.pwr_SLEEP_EN = true ∨ s.power.offPend = true) →
      s.maySleep = true →
      Answers .sleepEntry s fun t =>
        t.power.entering = true ∧ t.power.st = .run ∧ (∀ e, 8 ≤ e → e < 16 → (t.dom e).st = .off) ∧
          SameBut [.power, .heads, .axes, .chans] s t) ∧
    ((s.power.st ≠ .run ∨ s.power.entering = true ∨ s.maySleep = false) → exec .sleepEntry s = .next s) ∧
    (s.stitch.running = true → s.power.entering = true → s.maySleep = true →
      Answers .stitchBoundary s fun t =>
        t.power.st = .sleep ∧ t.power.entering = false ∧ t.power.sleeps = (s.power.sleeps + 1) % 2 ^ 18 ∧
          t.stitch.running = false ∧ t.stitch.n = s.stitch.n + 1 ∧ t.lanes = s.lanes ∧ t.jobs = s.jobs ∧ t.welt = s.welt) ∧
    (s.power.st = .sleep → (s.power.offPend = true ∨ s.cfg .pwr F.pwr_OFF_H ≠ 0) →
      Answers .offEntry s fun t => t.power.st = .off ∧ t.power.offPend = false ∧ SameBut [.power] s t) ∧
    (s.power.st ≠ .sleep → exec .offEntry s = .next s) ∧
    Answers (.goOff p) s (fun t => t.power = { s.power with offPend := true } ∧ SameBut [.power] s t) ∧
    (∀ (src : BitVec 4) (dt : BitVec 32),
      (s.power.st = .sleep →
        Answers (.wake src dt) s fun t =>
          t.power.st = .run ∧ t.power.wakeSrc = src.toNat ∧ t.stitch.running = true ∧ t.stitch.phase = 0 ∧ t.stitch.x = 65536 ∧
            t.stitch.xNext = 65536 ∧ t.stitch.n = s.stitch.n ∧ SameBut [.power, .heads, .ssis, .uarts, .stitch, .chans] s t) ∧
      (s.power.st = .off → Answers (.wake src dt) s fun t => s.wasReset t 5 0 false ∧ t.power.wakeSrc = src.toNat) ∧
      (s.power.st = .run → s.power.entering = true →
        Answers (.wake src dt) s fun t =>
          t.power = { s.power with entering := false, wakeSrc := src.toNat } ∧ SameBut [.power] s t) ∧
      (s.power.st = .run → s.power.entering = false → exec (.wake src dt) s = .next s))

/-! ### Resets and start-up -/

/-- Resets and start-up (R14, R478, R480, R482, R516, R518..R526, R552): POR, RESET_N and a brown-out reset the device with their cause, POR
taking the straps; START_UP in factory test mode runs no firmware; with two PLL failures it resets again, with an erase pending it erases
everything, with the OTP row unread it stays in BOOT with the outputs safe, and otherwise brings the newest acceptable image to READY, or
to SAFE while the shank holds the outputs. -/
def Obligations.ResetsAndStartUp : Prop :=
  ∀ s : State,
    (Answers .por s fun t => s.wasReset t 1 0 true ∧ t.power.vgdExt = s.power.vgdPin ∧ t.power.testMode = s.power.testPin) ∧
    Answers .pinReset s (fun t => s.wasReset t 3 0 false) ∧
    (∀ src : BitVec 4, src ≠ 0 →
      Answers (.brownOut src) s fun t => s.wasReset t 2 0 false ∧ t.sup.boSrc = src.toNat ∧ t.sup.bor = true) ∧
    exec (.brownOut 0) s = .next s ∧
    (s.power.inReset = none → ∀ tests bt rt bad, exec (.startUp (tests, bad) bt rt) s = .next s) ∧
    (s.power.inReset.isSome = true → s.power.testMode = true → ∀ tests bt rt bad,
      Answers (.startUp (tests, bad) bt rt) s fun t =>
        t.power.inReset = none ∧ t.power.hostOn = s.power.hostOn ∧ t.shank.st ≠ .normal ∧ t.sec.run = s.sec.run) ∧
    (∀ cause sub lost bt rt bad, s.power.inReset = some (cause, sub, lost) → s.power.testMode = false →
      (s.erasePending = false →
        (∀ tests : BitVec 12, tests.getLsbD 0 = true → tests.getLsbD 1 = true →
          Answers (.startUp (tests, bad) bt rt) s fun t => s.wasReset t 4 5 lost) ∧
        (∀ tests : BitVec 12, tests.getLsbD 0 = false → tests.getLsbD 2 = true → tests.getLsbD 3 = true →
          Answers (.startUp (tests, bad) bt rt) s fun t =>
            t.power.inReset = none ∧ t.power.noImage = false ∧ t.shank.st ≠ .normal ∧ t.tbl = s.tbl ∧ t.sec.slots = s.sec.slots ∧
              t.sec.otp.words = s.sec.otp.words) ∧
        (∀ b rest, s.imageOrder sub = b :: rest → s.imageRuns b = true → (s.bank 0).tooBad = false → (s.bank 1).tooBad = false →
          (at' s.dev.cores 0 ≠ .retired ∨ at' s.dev.cores 1 ≠ .retired) →
          Answers (.startUp (0, bad) bt rt) s fun t =>
            t.power.inReset = none ∧ t.power.hostOn = true ∧ t.dev.st = (if s.shank.st = .normal then .ready else .safe) ∧
              t.sec.run = b ∧ t.power.rcd.cause = cause ∧ t.power.rcd.sub = sub ∧ t.shank = s.shank ∧ t.sec.otp = s.sec.otp ∧
              t.pending = s.pending)) ∧
      (∀ tests w, s.erasePending = true → nextClear (s.otp 0x10) 15 0 = some w →
        Answers (.startUp (tests, bad) bt rt) s fun t =>
          t.dev.st = .boot ∧ t.power.inReset = some (4, 0, false) ∧ t.welt.log = [] ∧ t.jobs.history = [] ∧ t.assets.dir = [] ∧
            t.otp 0x10 = s.otp 0x10 ||| w ∧ t.flash.stored = []))

/-! ### Images, the OTP row, test access -/

/-- The update object (R537..R541): BEGIN opens a load into the slot that does not run, words are taken in order from its owner, verification makes
the slot VALID or fails it, ACTIVATE makes it TRIAL or CONFIRMED, CONFIRM keeps the running one, ABORT and 10 s without a word end a
load; each is refused where it does not apply. -/
def Obligations.ImagesAreUpdated : Prop :=
  ∀ (p : Fin 2) (s : State),
    let u := s.sec.upd
    (∀ len : BitVec 19, u.tstate ≠ 1 → u.tstate ≠ 2 →
      (64 ≤ len.toNat → len.toNat ≤ 262144 → s.bankOut s.target = false →
        Answers (.begin' p len) s fun t =>
          t.sec.upd = ⟨1, p, 0, len.toNat, [], 0⟩ ∧ at' t.sec.slots s.target = Slot.reset ∧
            Others s.sec.slots t.sec.slots s.target ∧ t.sec.run = s.sec.run ∧ SameBut [.sec, .flash] s t) ∧
      (len.toNat < 64 ∨ 262144 < len.toNat →
        Answers (.begin' p len) s fun t => (t.port p).noteCode = rcRange ∧ OnlyPort p s t)) ∧
    (∀ len : BitVec 19, u.tstate = 1 ∨ u.tstate = 2 →
      Answers (.begin' p len) s fun t => (t.port p).noteCode = rcState ∧ OnlyPort p s t) ∧
    (∀ w : Word, u.tstate = 1 →
      (u.owner = p.val → u.words.length < u.clen → u.words.length - u.done < 512 → (u.words = [] → headWordOk w = true) →
        Answers (.imagePortWrite p w) s fun t => t.sec.upd = { u with words := u.words ++ [w] } ∧ t.sec.slots = s.sec.slots ∧
          SameBut [.sec] s t) ∧
      (u.owner = p.val → u.words = [] → 0 < u.clen → headWordOk w = false →
        Answers (.imagePortWrite p w) s fun t =>
          t.sec.upd.tstate = 4 ∧ t.sec.upd.result = 2 ∧ (at' t.sec.slots s.target).st = 1 ∧ SameBut [.sec] s t) ∧
      (u.owner ≠ p.val → Answers (.imagePortWrite p w) s fun t => (t.port p).noteCode = rcBusy ∧ OnlyPort p s t)) ∧
    (∀ w : Word, u.tstate ≠ 1 → Answers (.imagePortWrite p w) s fun t => (t.port p).noteCode = rcState ∧ OnlyPort p s t) ∧
    (u.tstate = 2 → s.imageVerdict u = 1 →
      Answers .imageVerifyDone s fun t =>
        t.sec.upd.tstate = 3 ∧ t.sec.upd.result = 1 ∧ at' t.sec.slots s.target = ⟨2, 0, u.words.take 6, true⟩ ∧
          Others s.sec.slots t.sec.slots s.target ∧ SameBut [.sec] s t) ∧
    (u.tstate = 2 → s.imageVerdict u ≠ 1 →
      Answers .imageVerifyDone s fun t =>
        t.sec.upd.tstate = 4 ∧ t.sec.upd.result = s.imageVerdict u ∧ (at' t.sec.slots s.target).st = 1 ∧ SameBut [.sec] s t) ∧
    (u.tstate ≠ 2 → exec .imageVerifyDone s = .next s) ∧
    (u.tstate = 3 → s.power.noImage = false →
      Answers (.activate p) s fun t =>
        t.sec.upd = { u with tstate := 0 } ∧
          (at' t.sec.slots s.target).st = (if hdrFmt (at' s.sec.slots s.target).hdr = 2 then 4 else 3) ∧
          (at' t.sec.slots s.target).seq = (at' s.sec.slots s.sec.run).seq + 1 ∧ Others s.sec.slots t.sec.slots s.target ∧
          SameBut [.sec] s t) ∧
    (u.tstate ≠ 3 → Answers (.activate p) s fun t => (t.port p).noteCode = rcState ∧ OnlyPort p s t) ∧
    ((at' s.sec.slots s.sec.run).st = 3 →
      Answers (.confirm p) s fun t =>
        (at' t.sec.slots s.sec.run).st = 4 ∧ Others s.sec.slots t.sec.slots s.sec.run ∧ t.sec.upd = u ∧ SameBut [.sec] s t) ∧
    ((at' s.sec.slots s.sec.run).st ≠ 3 → Answers (.confirm p) s fun t => (t.port p).noteCode = rcState ∧ OnlyPort p s t) ∧
    (u.tstate = 1 → u.owner = p.val →
      Answers (.imageAbort p) s fun t =>
        t.sec.upd.tstate = 4 ∧ t.sec.upd.result = 7 ∧ (at' t.sec.slots s.target).st = 1 ∧ SameBut [.sec] s t) ∧
    (u.tstate = 1 → u.owner ≠ p.val → Answers (.imageAbort p) s fun t => (t.port p).noteCode = rcBusy ∧ OnlyPort p s t) ∧
    (u.tstate ≠ 1 → Answers (.imageAbort p) s fun t => (t.port p).noteCode = rcState ∧ OnlyPort p s t) ∧
    (u.tstate = 1 →
      Answers .imageIdleTimeout s fun t =>
        t.sec.upd.tstate = 4 ∧ t.sec.upd.result = 7 ∧ (at' t.sec.slots s.target).st = 1 ∧ SameBut [.sec] s t) ∧
    (u.tstate ≠ 1 → exec .imageIdleTimeout s = .next s)

/-- The OTP row (R477, R481, R482, R543..R546): an operation that is allowed begins with the words it is to program and nothing is blown yet; a
word that verifies is blown, one that does not is tried again; a key takes the staged words and clears the stage; raising the level
programs one bit and lowering it enters the mass erase by a reset; a wrong key or a closed row is refused. -/
def Obligations.OtpIsProgrammed : Prop :=
  ∀ (p : Fin 2) (s : State),
    (∀ (i : BitVec 7) (v : Word), s.otpClosed = false → 8 ≤ i.toNat → i.toNat ≤ 11 →
      Answers (.programWord p i v) s fun t =>
        t.sec.otp = { s.sec.otp with value := v, ostate := 1, op := some ⟨[(i.toNat, v)], false, 0, 0, p, none⟩ } ∧
          SameBut [.sec] s t) ∧
    (∀ (i : BitVec 7) (v : Word), s.otpClosed = false → 0x18 ≤ i.toNat →
      Answers (.programWord p i v) s fun t =>
        (t.port p).noteCode = rcProt ∧ t.sec.otp = { s.sec.otp with value := v } ∧ SameBut [.sec, .ports] s t) ∧
    (∀ (i : BitVec 7) (v : Word), s.otpClosed = true →
      Answers (.programWord p i v) s fun t =>
        (t.port p).noteCode = rcState ∧ t.sec.otp = { s.sec.otp with value := v } ∧ SameBut [.sec, .ports] s t) ∧
    (∀ slot : Fin 8, s.otpClosed = false → bit (s.otp (0x18 + slot)) 35 = false → (s.keyWords slot).any (· != 0) = false →
      (Answers (.programKey p slot 1) s fun t =>
        (∃ o, t.sec.otp.op = some o ∧ o.todo.length = 9 ∧ o.what = 1 ∧ o.slot = slot ∧
          o.todo.getLast? = some (0x18 + slot.val, keyAttr s.sec.otp.kstage.toList)) ∧
          t.sec.otp.kstage = Vector.replicate 8 0 ∧ t.sec.otp.words = s.sec.otp.words ∧ t.sec.otp.ostate = 1 ∧ SameBut [.sec] s t) ∧
      (∀ use : BitVec 2, use ≠ 1 →
        Answers (.programKey p slot use) s fun t => (t.port p).noteCode = rcRange ∧ OnlyPort p s t)) ∧
    (∀ slot : Fin 8, s.otpClosed = false → s.signsWith slot = false →
      Answers (.revokeKey p slot) s fun t =>
        t.sec.otp = { s.sec.otp with ostate := 1, op := some ⟨[(0x18 + slot.val, flag 34 true)], false, 2, slot, p, none⟩ } ∧
          SameBut [.sec] s t) ∧
    (∀ slot : Fin 8, (s.otpClosed = true ∨ s.signsWith slot = true) →
      Answers (.revokeKey p slot) s fun t => (t.port p).noteCode = rcState ∧ OnlyPort p s t) ∧
    (∀ ok, s.sec.otp.op = none → exec (.otpProgramDone ok) s = .next s) ∧
    (∀ op i w next rest, s.sec.otp.op = some op → op.todo = (i, w) :: next :: rest →
      Answers (.otpProgramDone true) s fun t =>
        t.sec.otp.op = some { op with todo := next :: rest, again := false } ∧ (i < 128 → t.otp i = s.otp i ||| w) ∧
          Others s.sec.otp.words t.sec.otp.words i ∧ SameBut [.sec] s t) ∧
    (∀ op i w, s.sec.otp.op = some op → op.todo = [(i, w)] → op.what = 0 ∨ op.what = 2 →
      Answers (.otpProgramDone true) s fun t =>
        t.sec.otp.op = none ∧ t.sec.otp.ostate = 2 ∧ (i < 128 → t.otp i = s.otp i ||| w) ∧
          Others s.sec.otp.words t.sec.otp.words i ∧ SameBut [.sec] s t) ∧
    (∀ op i w rest, s.sec.otp.op = some op → op.todo = (i, w) :: rest → op.again = false →
      Answers (.otpProgramDone false) s fun t =>
        t.sec.otp.op = some { op with again := true } ∧ t.sec.otp.words = s.sec.otp.words ∧ SameBut [.sec] s t) ∧
    (∀ key target, s.dev.st ≠ .ready →
      (Answers (.protRaise p key target) s fun t => (t.port p).noteCode = rcState ∧ OnlyPort p s t) ∧
        (Answers (.protLower p key target) s fun t => (t.port p).noteCode = rcState ∧ OnlyPort p s t)) ∧
    (∀ key target : BitVec _, s.dev.st = .ready → target.toNat ≠ s.protLevel → key ≠ 0x5A9 →
      (Answers (.protRaise p key target) s fun t => (t.port p).noteCode = rcProt ∧ OnlyPort p s t) ∧
        (Answers (.protLower p key target) s fun t => (t.port p).noteCode = rcProt ∧ OnlyPort p s t)) ∧
    (∀ w, s.dev.st = .ready → s.protLevel = 0 → s.sec.otp.op = none → nextClear (s.otp 0x10) 31 16 = some w →
      Answers (.protRaise p 0x5A9 1) s fun t =>
        t.sec.otp = { s.sec.otp with op := some ⟨[(0x10, w)], false, 3, 0, p, none⟩ } ∧ SameBut [.sec] s t) ∧
    (∀ w v, s.dev.st = .ready → s.protLevel = 1 → s.sec.otp.op = none → nextClear (s.otp 0x11) 15 0 = some w →
      nextClear (s.otp 0x10) 15 0 = some v →
      Answers (.protLower p 0x5A9 0) s fun t =>
        t.dev.st = .boot ∧ t.power.inReset = some (4, 0, false) ∧ t.otp 0x11 = s.otp 0x11 ||| w ∧ t.otp 0x10 = s.otp 0x10 ∧
          s.welt.log <+: t.welt.log ∧ t.pending = s.pending)

/-- Test access and pin self-test (R136, R420, R528..R536): an intrusive instruction takes the device to its safe state and the keys away, any
other returns the pins; a value in the boundary register that turns both FETs of a leg on trips the bridge's group while VM is below
3.0 V, and it is taken under EXTEST and SAMPLE/PRELOAD only; a self-test starts on an idle device and ends PASS or FAIL by the codes that
R530 gives its own pins. -/
def Obligations.TestAccessIsGuarded : Prop :=
  ∀ (p : Fin 2) (s : State),
    (∀ i : BitVec 8, s.power.st = .run → intrusiveAt s.protLevel i.toNat = true →
      Answers (.updateIrIntrusive i) s fun t =>
        t.sec.intrusive = some i.toNat ∧ t.sec.cleared = true ∧ t.sec.loaded = Vector.replicate 8 false ∧ t.shank.st ≠ .normal ∧
          t.sec.otp.words = s.sec.otp.words ∧ t.stitch = s.stitch) ∧
    (∀ i : BitVec 8, s.power.st = .run → intrusiveAt s.protLevel i.toNat = false →
      Answers (.updateIrIntrusive i) s fun t =>
        t.sec = { s.sec with ir := irSelects s.protLevel i.toNat } ∧ t.sec.intrusive = none ∧ SameBut [.sec] s t) ∧
    (∀ i : BitVec 8, s.power.st ≠ .run → exec (.updateIrIntrusive i) s = .next s) ∧
    (s.power.st = .run → Answers .testLogicReset s fun t => t.sec = { s.sec with ir := 2 } ∧ SameBut [.sec] s t) ∧
    (s.power.st ≠ .run → exec .testLogicReset s = .next s) ∧
    (∀ drive early, s.power.st = .run → s.sec.ir = 1 →
      Answers (.updateDr (drive, early)) s fun t => t.sec = { s.sec with drive := drive } ∧ SameBut [.sec] s t) ∧
    (∀ drive early, s.power.st ≠ .run ∨ 1 < s.sec.ir ∨ (early = true ∧ s.sec.ir = 0) → exec (.updateDr (drive, early)) s = .next s) ∧
    (∀ (drive : List Bool) (b : Fin 24), s.power.st = .run → s.sec.ir = 0 → at' s.sec.guard 0 = false →
      (driven drive b 0 = true ∧ driven drive b 1 = true ∨ driven drive b 2 = true ∧ driven drive b 3 = true) →
      Answers (.updateDr (drive, false)) s fun t =>
        t.sec.drive = drive ∧ (t.grp b).forced = true ∧ t.shank.interlockTrip = true ∧ t.stitch = s.stitch) ∧
    (∀ (m : Fin 4) (above : Bool), (m.val ≠ 0 ∨ above = true ∨ s.pinsDriven = false) → s.sec.bistResult ≠ 1 →
      Answers (.guardSupply m above) s fun t =>
        at' t.sec.guard m = above ∧ Others s.sec.guard t.sec.guard m ∧ t.sec.bistResult = s.sec.bistResult ∧ SameBut [.sec] s t) ∧
    (∀ test : BitVec 4, 1 ≤ test.toNat → test.toNat ≤ 4 → s.dev.st = .ready →
      (∀ i < 18, (s.lane i).state = .idle ∧ (s.lane i).running = none) → s.bistSafe test.toNat = true →
      Answers (.bistStart p test) s fun t =>
        t.sec = { s.sec with bistTest := test.toNat, bistResult := 1, bistFails := 0, bistFirst := 0 } ∧ SameBut [.sec] s t) ∧
    (∀ test : BitVec 4, (test.toNat = 0 ∨ 4 < test.toNat) →
      Answers (.bistStart p test) s fun t => (t.port p).noteCode = rcRange ∧ OnlyPort p s t) ∧
    (∀ test : BitVec 4, 1 ≤ test.toNat → test.toNat ≤ 4 → (s.dev.st ≠ .ready ∨ s.bistSafe test.toNat = false) →
      Answers (.bistStart p test) s fun t => (t.port p).noteCode = rcState ∧ OnlyPort p s t) ∧
    (∀ samples : List PinSample, s.sec.bistResult = 1 →
      Answers (.bistDone samples) s fun t =>
        t.sec.bistResult = (if (bistCodes s.sec.bistTest samples).any fun c => bistFailing c.2 then 3 else 2) ∧
          (∀ c ∈ bistCodes s.sec.bistTest samples, c ∈ t.sec.codes) ∧
          (∀ k, k ∉ bistBalls s.sec.bistTest → t.sec.codes.find? (fun c => c.1 == k) = s.sec.codes.find? fun c => c.1 == k) ∧
          SameBut [.sec] s t) ∧
    (∀ samples, s.sec.bistResult ≠ 1 → exec (.bistDone samples) s = .next s)

/-! ### Rules stated in their own words -/

/-- A source pixel v of b bits is widened by repeating its bits, and an element of gray level L writes floor((e × L + 7) / 15), which is e
for L = 15 (R203). -/
def Obligations.GrayLevelsWiden : Prop :=
  (∀ v, v < 2 → widen 1 v = 15 * v) ∧ (∀ v, v < 4 → widen 2 v = 5 * v) ∧ (∀ v, v < 8 → widen 3 v = 2 * v + v / 4) ∧
    (∀ v, v < 16 → widen 4 v = v) ∧ (∀ e l, grayOf l e = (e * l + 7) / 15) ∧ ∀ e, grayOf 15 e = e

/-- TBL_ADDR (R110): it reads zero at both ports after reset; a write sets ADDR from bits 23:0 of the word, the other bits read zero, the
other port's register stays (banked), and the next TBL_DATA access is at that address. -/
def Obligations.TableAddressRegister : Prop :=
  (∀ p : Fin 2, (State.reset.readReg p 0x0C).1 = 0) ∧
    ∀ (p : Fin 2) (w : Word) (s : State),
      Answers (.registerWrite p 0x0C w) s fun t =>
        (t.readReg p 0x0C).1 = field 23 0 (bits w 23 0) ∧ (t.port p).tblAddr.toNat = bits w 23 0 ∧
          (∀ q : Fin 2, q ≠ p → (t.readReg q 0x0C).1 = (s.readReg q 0x0C).1) ∧
          (region (bits w 23 0) = none →
            Answers (.tblDataRead p) t fun v => (v.port p).rdata = 0 ∧ (v.port p).noteCode = noteUnmappedRd) ∧
          (∀ k, region (bits w 23 0) = some (.gov, k) → mapped (bits w 23 0) = true →
            Answers (.tblDataRead p) t fun v =>
              (v.port p).rdata = t.tbl.shadow.get (Obj.gov.base + k) ||| t.statusWord .gov k)
end

