-- ==== Sys2Proof/WellFormed.lean ====
section
/-!
DEFINITION. Well-formed commands: the conditions on operands that the operand types do not already hold.
-/

namespace Sys2Proof

/-- The words a frame command carries. -/
def Instr.payload : Instr → List Word
  | .regRd _ _ _ ws => ws
  | .regWr _ _ _ ws => ws
  | .jobWr _ _ _ _ ws => ws
  | .tblRd _ _ _ ws => ws
  | .tblWr _ _ _ ws => ws
  | .emergencyRegWr _ _ _ _ ws => ws
  | _ => []

/-- A frame carries at most MAXLEN words, and MAXLEN is at most 128 (R80). -/
def Instr.payloadFits (i : Instr) : Bool := decide (i.payload.length ≤ 128)

/-- A TYPE of a control frame. -/
def controlType (typ : BitVec 8) : Bool := decide (1 ≤ typ.toNat) && decide (typ.toNat ≤ 6)

/-- The TYPE of a sequenced frame is none of the control types. -/
def Instr.typeOk : Instr → Bool
  | .unsupportedFrame _ typ _ _ => !controlType typ
  | .emergencyRegWr _ typ _ _ _ => !controlType typ
  | _ => true

/-- The boundary register and the pin codes go over the 1156 balls of the package (R531). -/
def Instr.scanOk : Instr → Bool
  | .updateDr scan => decide (scan.1.length ≤ 1156)
  | .bistDone samples => decide (samples.length ≤ 1156)
  | _ => true

/-- ONTIME is a limit of bridges and channels, groups 0..55 (R420). -/
def Instr.groupOk : Instr → Bool
  | .ontime group _ => decide (group.val < 56)
  | _ => true

/-- Every operand lies where the command gives it a meaning. -/
def Instr.wf (i : Instr) : Bool :=
  i.payloadFits && i.typeOk && i.scanOk && i.groupOk

end Sys2Proof
end

