-- ==== Sys2Proof/Laws/PerInstr.lean ====
section
/-!
SUPPORT. One lemma per command: what well-formedness promises of its payload and its TYPE.
-/

/-- A well-formed command carries no more words than a frame holds, and no TYPE of a control frame stands for a sequenced one. -/
def Sys2Proof.Laws.Shape.Statement (i : Sys2Proof.Instr) : Prop :=
  i.wf = true → i.payload.length ≤ 128 ∧ i.typeOk = true

theorem Sys2Proof.Laws.Shape.of_wf (i : Sys2Proof.Instr) : Sys2Proof.Laws.Shape.Statement i := by
  intro h
  simp only [Sys2Proof.Instr.wf, Sys2Proof.Instr.payloadFits, Bool.and_eq_true, decide_eq_true_eq] at h
  exact ⟨h.1.1.1, h.1.1.2⟩

theorem Sys2Proof.Laws.Shape.stitchBoundary :
    Sys2Proof.Laws.Shape.Statement (.stitchBoundary) := Sys2Proof.Laws.Shape.of_wf _

theorem Sys2Proof.Laws.Shape.governorSample :
    Sys2Proof.Laws.Shape.Statement (.governorSample) := Sys2Proof.Laws.Shape.of_wf _

theorem Sys2Proof.Laws.Shape.overrunRelax :
    Sys2Proof.Laws.Shape.Statement (.overrunRelax) := Sys2Proof.Laws.Shape.of_wf _

theorem Sys2Proof.Laws.Shape.sagHoldExpiry (supply : Fin 3) :
    Sys2Proof.Laws.Shape.Statement (.sagHoldExpiry supply) := Sys2Proof.Laws.Shape.of_wf _

theorem Sys2Proof.Laws.Shape.stitchPeriodWrite (port : Fin 2) (value : Sys2Proof.Word) :
    Sys2Proof.Laws.Shape.Statement (.stitchPeriodWrite port value) := Sys2Proof.Laws.Shape.of_wf _

theorem Sys2Proof.Laws.Shape.lineStart (head : Fin 2) (vh : BitVec 9) :
    Sys2Proof.Laws.Shape.Statement (.lineStart head vh) := Sys2Proof.Laws.Shape.of_wf _

theorem Sys2Proof.Laws.Shape.lastSliceEnd (head : Fin 2) :
    Sys2Proof.Laws.Shape.Statement (.lastSliceEnd head) := Sys2Proof.Laws.Shape.of_wf _

theorem Sys2Proof.Laws.Shape.strayByte (port : Fin 2) :
    Sys2Proof.Laws.Shape.Statement (.strayByte port) := Sys2Proof.Laws.Shape.of_wf _

theorem Sys2Proof.Laws.Shape.frameDiscard (port : Fin 2) (crc ctl emerg : Bool) :
    Sys2Proof.Laws.Shape.Statement (.frameDiscard port crc ctl emerg) := Sys2Proof.Laws.Shape.of_wf _

theorem Sys2Proof.Laws.Shape.hello (port : Fin 2) (w0 w1 : Sys2Proof.Word) :
    Sys2Proof.Laws.Shape.Statement (.hello port w0 w1) := Sys2Proof.Laws.Shape.of_wf _

theorem Sys2Proof.Laws.Shape.ack (port : Fin 2) (emerg : Bool) (ackseq : BitVec 8) :
    Sys2Proof.Laws.Shape.Statement (.ack port emerg ackseq) := Sys2Proof.Laws.Shape.of_wf _

theorem Sys2Proof.Laws.Shape.nak (port : Fin 2) (emerg : Bool) (ackseq : BitVec 8) :
    Sys2Proof.Laws.Shape.Statement (.nak port emerg ackseq) := Sys2Proof.Laws.Shape.of_wf _

theorem Sys2Proof.Laws.Shape.sync (port : Fin 2) (w : Sys2Proof.Word) :
    Sys2Proof.Laws.Shape.Statement (.sync port w) := Sys2Proof.Laws.Shape.of_wf _

theorem Sys2Proof.Laws.Shape.syncAck (port : Fin 2) (w : Sys2Proof.Word) :
    Sys2Proof.Laws.Shape.Statement (.syncAck port w) := Sys2Proof.Laws.Shape.of_wf _

theorem Sys2Proof.Laws.Shape.regRd (port : Fin 2) (seq ackseq : BitVec 8) (payload : List Sys2Proof.Word) :
    Sys2Proof.Laws.Shape.Statement (.regRd port seq ackseq payload) := Sys2Proof.Laws.Shape.of_wf _

theorem Sys2Proof.Laws.Shape.regWr (port : Fin 2) (seq ackseq : BitVec 8) (payload : List Sys2Proof.Word) :
    Sys2Proof.Laws.Shape.Statement (.regWr port seq ackseq payload) := Sys2Proof.Laws.Shape.of_wf _

theorem Sys2Proof.Laws.Shape.jobWr (port : Fin 2) (seq ackseq : BitVec 8) (outcome : Bool) (payload : List Sys2Proof.Word) :
    Sys2Proof.Laws.Shape.Statement (.jobWr port seq ackseq outcome payload) := Sys2Proof.Laws.Shape.of_wf _

theorem Sys2Proof.Laws.Shape.tblRd (port : Fin 2) (seq ackseq : BitVec 8) (payload : List Sys2Proof.Word) :
    Sys2Proof.Laws.Shape.Statement (.tblRd port seq ackseq payload) := Sys2Proof.Laws.Shape.of_wf _

theorem Sys2Proof.Laws.Shape.tblWr (port : Fin 2) (seq ackseq : BitVec 8) (payload : List Sys2Proof.Word) :
    Sys2Proof.Laws.Shape.Statement (.tblWr port seq ackseq payload) := Sys2Proof.Laws.Shape.of_wf _

theorem Sys2Proof.Laws.Shape.unsupportedFrame (port : Fin 2) (typ seq ackseq : BitVec 8) :
    Sys2Proof.Laws.Shape.Statement (.unsupportedFrame port typ seq ackseq) := Sys2Proof.Laws.Shape.of_wf _

theorem Sys2Proof.Laws.Shape.emergencyRegWr (port : Fin 2) (typ seq ackseq : BitVec 8) (payload : List Sys2Proof.Word) :
    Sys2Proof.Laws.Shape.Statement (.emergencyRegWr port typ seq ackseq payload) := Sys2Proof.Laws.Shape.of_wf _

theorem Sys2Proof.Laws.Shape.rspSend (port : Fin 2) :
    Sys2Proof.Laws.Shape.Statement (.rspSend port) := Sys2Proof.Laws.Shape.of_wf _

theorem Sys2Proof.Laws.Shape.outcomeResponse (port : Fin 2) :
    Sys2Proof.Laws.Shape.Statement (.outcomeResponse port) := Sys2Proof.Laws.Shape.of_wf _

theorem Sys2Proof.Laws.Shape.evtSend (port : Fin 2) :
    Sys2Proof.Laws.Shape.Statement (.evtSend port) := Sys2Proof.Laws.Shape.of_wf _

theorem Sys2Proof.Laws.Shape.emergencyEvtSend (send : Fin 2 × Option Nat) :
    Sys2Proof.Laws.Shape.Statement (.emergencyEvtSend send) := Sys2Proof.Laws.Shape.of_wf _

theorem Sys2Proof.Laws.Shape.ackTimeout (port : Fin 2) (emerg : Bool) :
    Sys2Proof.Laws.Shape.Statement (.ackTimeout port emerg) := Sys2Proof.Laws.Shape.of_wf _

theorem Sys2Proof.Laws.Shape.syncTimeout (port : Fin 2) :
    Sys2Proof.Laws.Shape.Statement (.syncTimeout port) := Sys2Proof.Laws.Shape.of_wf _

theorem Sys2Proof.Laws.Shape.dividerAdopt (port : Fin 2) :
    Sys2Proof.Laws.Shape.Statement (.dividerAdopt port) := Sys2Proof.Laws.Shape.of_wf _

theorem Sys2Proof.Laws.Shape.confirmTimeout (port : Fin 2) :
    Sys2Proof.Laws.Shape.Statement (.confirmTimeout port) := Sys2Proof.Laws.Shape.of_wf _

theorem Sys2Proof.Laws.Shape.errBucketTick (port : Fin 2) :
    Sys2Proof.Laws.Shape.Statement (.errBucketTick port) := Sys2Proof.Laws.Shape.of_wf _

theorem Sys2Proof.Laws.Shape.fallback (port : Fin 2) :
    Sys2Proof.Laws.Shape.Statement (.fallback port) := Sys2Proof.Laws.Shape.of_wf _

theorem Sys2Proof.Laws.Shape.clrStats (port : Fin 2) :
    Sys2Proof.Laws.Shape.Statement (.clrStats port) := Sys2Proof.Laws.Shape.of_wf _

theorem Sys2Proof.Laws.Shape.ctsChange (port : Fin 2) (low : Bool) :
    Sys2Proof.Laws.Shape.Statement (.ctsChange port low) := Sys2Proof.Laws.Shape.of_wf _

theorem Sys2Proof.Laws.Shape.registerWrite (port : Fin 2) (addr : BitVec 6) (value : Sys2Proof.Word) :
    Sys2Proof.Laws.Shape.Statement (.registerWrite port addr value) := Sys2Proof.Laws.Shape.of_wf _

theorem Sys2Proof.Laws.Shape.eventPop (port : Fin 2) :
    Sys2Proof.Laws.Shape.Statement (.eventPop port) := Sys2Proof.Laws.Shape.of_wf _

theorem Sys2Proof.Laws.Shape.tblDataRead (port : Fin 2) :
    Sys2Proof.Laws.Shape.Statement (.tblDataRead port) := Sys2Proof.Laws.Shape.of_wf _

theorem Sys2Proof.Laws.Shape.tblDataWrite (port : Fin 2) (value : Sys2Proof.Word) :
    Sys2Proof.Laws.Shape.Statement (.tblDataWrite port value) := Sys2Proof.Laws.Shape.of_wf _

theorem Sys2Proof.Laws.Shape.commit (port : Fin 2) :
    Sys2Proof.Laws.Shape.Statement (.commit port) := Sys2Proof.Laws.Shape.of_wf _

theorem Sys2Proof.Laws.Shape.discard (port : Fin 2) :
    Sys2Proof.Laws.Shape.Statement (.discard port) := Sys2Proof.Laws.Shape.of_wf _

theorem Sys2Proof.Laws.Shape.jobWinWrite (port : Fin 2) (word : Sys2Proof.Word) :
    Sys2Proof.Laws.Shape.Statement (.jobWinWrite port word) := Sys2Proof.Laws.Shape.of_wf _

theorem Sys2Proof.Laws.Shape.claim (port : Fin 2) (mask : BitVec 19) :
    Sys2Proof.Laws.Shape.Statement (.claim port mask) := Sys2Proof.Laws.Shape.of_wf _

theorem Sys2Proof.Laws.Shape.release (port : Fin 2) (mask : BitVec 19) :
    Sys2Proof.Laws.Shape.Statement (.release port mask) := Sys2Proof.Laws.Shape.of_wf _

theorem Sys2Proof.Laws.Shape.clrCnt (port : Fin 2) :
    Sys2Proof.Laws.Shape.Statement (.clrCnt port) := Sys2Proof.Laws.Shape.of_wf _

theorem Sys2Proof.Laws.Shape.protRaise (port : Fin 2) (key : BitVec 12) (target : BitVec 2) :
    Sys2Proof.Laws.Shape.Statement (.protRaise port key target) := Sys2Proof.Laws.Shape.of_wf _

theorem Sys2Proof.Laws.Shape.protLower (port : Fin 2) (key : BitVec 12) (target : BitVec 2) :
    Sys2Proof.Laws.Shape.Statement (.protLower port key target) := Sys2Proof.Laws.Shape.of_wf _

theorem Sys2Proof.Laws.Shape.auxTxWrite (port : Fin 2) (aux : Fin 2) (char : BitVec 9) :
    Sys2Proof.Laws.Shape.Statement (.auxTxWrite port aux char) := Sys2Proof.Laws.Shape.of_wf _

theorem Sys2Proof.Laws.Shape.auxRxRead (port : Fin 2) (aux : Fin 2) :
    Sys2Proof.Laws.Shape.Statement (.auxRxRead port aux) := Sys2Proof.Laws.Shape.of_wf _

theorem Sys2Proof.Laws.Shape.auxCtlWrite (port : Fin 2) (aux : Fin 2) (value : Sys2Proof.Word) :
    Sys2Proof.Laws.Shape.Statement (.auxCtlWrite port aux value) := Sys2Proof.Laws.Shape.of_wf _

theorem Sys2Proof.Laws.Shape.bistStart (port : Fin 2) (test : BitVec 4) :
    Sys2Proof.Laws.Shape.Statement (.bistStart port test) := Sys2Proof.Laws.Shape.of_wf _

theorem Sys2Proof.Laws.Shape.bistDone (samples : List PinSample) :
    Sys2Proof.Laws.Shape.Statement (.bistDone samples) := Sys2Proof.Laws.Shape.of_wf _

theorem Sys2Proof.Laws.Shape.save (port : Fin 2) :
    Sys2Proof.Laws.Shape.Statement (.save port) := Sys2Proof.Laws.Shape.of_wf _

theorem Sys2Proof.Laws.Shape.saveDone :
    Sys2Proof.Laws.Shape.Statement (.saveDone) := Sys2Proof.Laws.Shape.of_wf _

theorem Sys2Proof.Laws.Shape.scrubNow (port : Fin 2) :
    Sys2Proof.Laws.Shape.Statement (.scrubNow port) := Sys2Proof.Laws.Shape.of_wf _

theorem Sys2Proof.Laws.Shape.heldBackEventQueue :
    Sys2Proof.Laws.Shape.Statement (.heldBackEventQueue) := Sys2Proof.Laws.Shape.of_wf _

theorem Sys2Proof.Laws.Shape.eventLost (port : Fin 2) :
    Sys2Proof.Laws.Shape.Statement (.eventLost port) := Sys2Proof.Laws.Shape.of_wf _

theorem Sys2Proof.Laws.Shape.batchResolve :
    Sys2Proof.Laws.Shape.Statement (.batchResolve) := Sys2Proof.Laws.Shape.of_wf _

theorem Sys2Proof.Laws.Shape.weltEntryCommit :
    Sys2Proof.Laws.Shape.Statement (.weltEntryCommit) := Sys2Proof.Laws.Shape.of_wf _

theorem Sys2Proof.Laws.Shape.printRelease (head : Fin 2) :
    Sys2Proof.Laws.Shape.Statement (.printRelease head) := Sys2Proof.Laws.Shape.of_wf _

theorem Sys2Proof.Laws.Shape.feedRelease (head : Fin 2) :
    Sys2Proof.Laws.Shape.Statement (.feedRelease head) := Sys2Proof.Laws.Shape.of_wf _

theorem Sys2Proof.Laws.Shape.cutRelease (head : Fin 2) :
    Sys2Proof.Laws.Shape.Statement (.cutRelease head) := Sys2Proof.Laws.Shape.of_wf _

theorem Sys2Proof.Laws.Shape.scanRelease (head : Fin 2) :
    Sys2Proof.Laws.Shape.Statement (.scanRelease head) := Sys2Proof.Laws.Shape.of_wf _

theorem Sys2Proof.Laws.Shape.patternRelease (head : Fin 2) :
    Sys2Proof.Laws.Shape.Statement (.patternRelease head) := Sys2Proof.Laws.Shape.of_wf _

theorem Sys2Proof.Laws.Shape.moveRelease (axis : Fin 12) :
    Sys2Proof.Laws.Shape.Statement (.moveRelease axis) := Sys2Proof.Laws.Shape.of_wf _

theorem Sys2Proof.Laws.Shape.homeRelease (axis : Fin 12) :
    Sys2Proof.Laws.Shape.Statement (.homeRelease axis) := Sys2Proof.Laws.Shape.of_wf _

theorem Sys2Proof.Laws.Shape.gearRelease (axis : Fin 12) :
    Sys2Proof.Laws.Shape.Statement (.gearRelease axis) := Sys2Proof.Laws.Shape.of_wf _

theorem Sys2Proof.Laws.Shape.dcRunRelease (axis : Fin 12) :
    Sys2Proof.Laws.Shape.Statement (.dcRunRelease axis) := Sys2Proof.Laws.Shape.of_wf _

theorem Sys2Proof.Laws.Shape.solRunRelease (bank : Fin 4) :
    Sys2Proof.Laws.Shape.Statement (.solRunRelease bank) := Sys2Proof.Laws.Shape.of_wf _

theorem Sys2Proof.Laws.Shape.solDiagRelease (bank : Fin 4) :
    Sys2Proof.Laws.Shape.Statement (.solDiagRelease bank) := Sys2Proof.Laws.Shape.of_wf _

theorem Sys2Proof.Laws.Shape.auxXferRelease :
    Sys2Proof.Laws.Shape.Statement (.auxXferRelease) := Sys2Proof.Laws.Shape.of_wf _

theorem Sys2Proof.Laws.Shape.note :
    Sys2Proof.Laws.Shape.Statement (.note) := Sys2Proof.Laws.Shape.of_wf _

theorem Sys2Proof.Laws.Shape.fence :
    Sys2Proof.Laws.Shape.Statement (.fence) := Sys2Proof.Laws.Shape.of_wf _

theorem Sys2Proof.Laws.Shape.resolve :
    Sys2Proof.Laws.Shape.Statement (.resolve) := Sys2Proof.Laws.Shape.of_wf _

theorem Sys2Proof.Laws.Shape.startRecovered :
    Sys2Proof.Laws.Shape.Statement (.startRecovered) := Sys2Proof.Laws.Shape.of_wf _

theorem Sys2Proof.Laws.Shape.continue' :
    Sys2Proof.Laws.Shape.Statement (.continue') := Sys2Proof.Laws.Shape.of_wf _

theorem Sys2Proof.Laws.Shape.skip :
    Sys2Proof.Laws.Shape.Statement (.skip) := Sys2Proof.Laws.Shape.of_wf _

theorem Sys2Proof.Laws.Shape.fenceProceed :
    Sys2Proof.Laws.Shape.Statement (.fenceProceed) := Sys2Proof.Laws.Shape.of_wf _

theorem Sys2Proof.Laws.Shape.fenceCancel :
    Sys2Proof.Laws.Shape.Statement (.fenceCancel) := Sys2Proof.Laws.Shape.of_wf _

theorem Sys2Proof.Laws.Shape.cancelHeld :
    Sys2Proof.Laws.Shape.Statement (.cancelHeld) := Sys2Proof.Laws.Shape.of_wf _

theorem Sys2Proof.Laws.Shape.laneOut :
    Sys2Proof.Laws.Shape.Statement (.laneOut) := Sys2Proof.Laws.Shape.of_wf _

theorem Sys2Proof.Laws.Shape.laneOutInOrder (lane : Fin 19) :
    Sys2Proof.Laws.Shape.Statement (.laneOutInOrder lane) := Sys2Proof.Laws.Shape.of_wf _

theorem Sys2Proof.Laws.Shape.reAdmit :
    Sys2Proof.Laws.Shape.Statement (.reAdmit) := Sys2Proof.Laws.Shape.of_wf _

theorem Sys2Proof.Laws.Shape.readmitTimeout :
    Sys2Proof.Laws.Shape.Statement (.readmitTimeout) := Sys2Proof.Laws.Shape.of_wf _

theorem Sys2Proof.Laws.Shape.stop (port : Fin 2) (lane : Fin 19) (mask : BitVec 19) :
    Sys2Proof.Laws.Shape.Statement (.stop port lane mask) := Sys2Proof.Laws.Shape.of_wf _

theorem Sys2Proof.Laws.Shape.recordTimeout (lane : Fin 19) :
    Sys2Proof.Laws.Shape.Statement (.recordTimeout lane) := Sys2Proof.Laws.Shape.of_wf _

theorem Sys2Proof.Laws.Shape.fenceTimeout :
    Sys2Proof.Laws.Shape.Statement (.fenceTimeout) := Sys2Proof.Laws.Shape.of_wf _

theorem Sys2Proof.Laws.Shape.marksFlushTimer :
    Sys2Proof.Laws.Shape.Statement (.marksFlushTimer) := Sys2Proof.Laws.Shape.of_wf _

theorem Sys2Proof.Laws.Shape.gateWindowExpiry (entry : Fin 64) :
    Sys2Proof.Laws.Shape.Statement (.gateWindowExpiry entry) := Sys2Proof.Laws.Shape.of_wf _

theorem Sys2Proof.Laws.Shape.lookupGo (port : Fin 2) (block : Fin 2) :
    Sys2Proof.Laws.Shape.Statement (.lookupGo port block) := Sys2Proof.Laws.Shape.of_wf _

theorem Sys2Proof.Laws.Shape.lookupDone (block : Fin 2) :
    Sys2Proof.Laws.Shape.Statement (.lookupDone block) := Sys2Proof.Laws.Shape.of_wf _

theorem Sys2Proof.Laws.Shape.weltLoadTick :
    Sys2Proof.Laws.Shape.Statement (.weltLoadTick) := Sys2Proof.Laws.Shape.of_wf _

theorem Sys2Proof.Laws.Shape.store (port : Fin 2) (entry : BitVec 12) (kind : BitVec 4) (place : BitVec 2) (size : BitVec 20) :
    Sys2Proof.Laws.Shape.Statement (.store port entry kind place size) := Sys2Proof.Laws.Shape.of_wf _

theorem Sys2Proof.Laws.Shape.repair (port : Fin 2) (entry : BitVec 12) (size : BitVec 20) :
    Sys2Proof.Laws.Shape.Statement (.repair port entry size) := Sys2Proof.Laws.Shape.of_wf _

theorem Sys2Proof.Laws.Shape.delete (port : Fin 2) (entry : BitVec 12) :
    Sys2Proof.Laws.Shape.Statement (.delete port entry) := Sys2Proof.Laws.Shape.of_wf _

theorem Sys2Proof.Laws.Shape.assetAbort (port : Fin 2) (entry : BitVec 12) :
    Sys2Proof.Laws.Shape.Statement (.assetAbort port entry) := Sys2Proof.Laws.Shape.of_wf _

theorem Sys2Proof.Laws.Shape.assetPortWrite (port : Fin 2) (entry : BitVec 12) (word : Sys2Proof.Word) :
    Sys2Proof.Laws.Shape.Statement (.assetPortWrite port entry word) := Sys2Proof.Laws.Shape.of_wf _

theorem Sys2Proof.Laws.Shape.assetVerifyDone (entry : BitVec 12) :
    Sys2Proof.Laws.Shape.Statement (.assetVerifyDone entry) := Sys2Proof.Laws.Shape.of_wf _

theorem Sys2Proof.Laws.Shape.assetIdleTimeout (entry : BitVec 12) :
    Sys2Proof.Laws.Shape.Statement (.assetIdleTimeout entry) := Sys2Proof.Laws.Shape.of_wf _

theorem Sys2Proof.Laws.Shape.layout (head : Fin 2) (found : Bool × Option (Fin 2 × BitVec 20)) :
    Sys2Proof.Laws.Shape.Statement (.layout head found) := Sys2Proof.Laws.Shape.of_wf _

theorem Sys2Proof.Laws.Shape.bandCommit (head : Fin 2) :
    Sys2Proof.Laws.Shape.Statement (.bandCommit head) := Sys2Proof.Laws.Shape.of_wf _

theorem Sys2Proof.Laws.Shape.vhSettleEnd (head : Fin 2) (vh : BitVec 9) :
    Sys2Proof.Laws.Shape.Statement (.vhSettleEnd head vh) := Sys2Proof.Laws.Shape.of_wf _

theorem Sys2Proof.Laws.Shape.backgroundScanStart (head : Fin 2) :
    Sys2Proof.Laws.Shape.Statement (.backgroundScanStart head) := Sys2Proof.Laws.Shape.of_wf _

theorem Sys2Proof.Laws.Shape.scanDot (head : Fin 2) (valid : Bool) (rmeas : BitVec 20) (vh : BitVec 9) :
    Sys2Proof.Laws.Shape.Statement (.scanDot head valid rmeas vh) := Sys2Proof.Laws.Shape.of_wf _

theorem Sys2Proof.Laws.Shape.abandon (port : Fin 2) (head : Fin 2) :
    Sys2Proof.Laws.Shape.Statement (.abandon port head) := Sys2Proof.Laws.Shape.of_wf _

theorem Sys2Proof.Laws.Shape.msCycle (ms : Fin 4) (lit : BitVec 12) (dark : BitVec 12 × BitVec 12) :
    Sys2Proof.Laws.Shape.Statement (.msCycle ms lit dark) := Sys2Proof.Laws.Shape.of_wf _

theorem Sys2Proof.Laws.Shape.calRetry (ms : Fin 4) :
    Sys2Proof.Laws.Shape.Statement (.calRetry ms) := Sys2Proof.Laws.Shape.of_wf _

theorem Sys2Proof.Laws.Shape.snsSample (sns : Fin 8) (code : BitVec 12) :
    Sys2Proof.Laws.Shape.Statement (.snsSample sns code) := Sys2Proof.Laws.Shape.of_wf _

theorem Sys2Proof.Laws.Shape.ticketTaken (sns : Fin 8) :
    Sys2Proof.Laws.Shape.Statement (.ticketTaken sns) := Sys2Proof.Laws.Shape.of_wf _

theorem Sys2Proof.Laws.Shape.clickerRecover (head : Fin 2) :
    Sys2Proof.Laws.Shape.Statement (.clickerRecover head) := Sys2Proof.Laws.Shape.of_wf _

theorem Sys2Proof.Laws.Shape.stepEvent (axis : Fin 12) (emfA emfB : List EmfSample) :
    Sys2Proof.Laws.Shape.Statement (.stepEvent axis emfA emfB) := Sys2Proof.Laws.Shape.of_wf _

theorem Sys2Proof.Laws.Shape.stallSpanEnd (axis : Fin 12) :
    Sys2Proof.Laws.Shape.Statement (.stallSpanEnd axis) := Sys2Proof.Laws.Shape.of_wf _

theorem Sys2Proof.Laws.Shape.axisAtRest (axis : Fin 12) :
    Sys2Proof.Laws.Shape.Statement (.axisAtRest axis) := Sys2Proof.Laws.Shape.of_wf _

theorem Sys2Proof.Laws.Shape.homeReference (axis : Fin 12) :
    Sys2Proof.Laws.Shape.Statement (.homeReference axis) := Sys2Proof.Laws.Shape.of_wf _

theorem Sys2Proof.Laws.Shape.homeRetry (axis : Fin 12) :
    Sys2Proof.Laws.Shape.Statement (.homeRetry axis) := Sys2Proof.Laws.Shape.of_wf _

theorem Sys2Proof.Laws.Shape.confRetry (axis : Fin 12) :
    Sys2Proof.Laws.Shape.Statement (.confRetry axis) := Sys2Proof.Laws.Shape.of_wf _

theorem Sys2Proof.Laws.Shape.limit (axis : Fin 12) (input : Fin 2) :
    Sys2Proof.Laws.Shape.Statement (.limit axis input) := Sys2Proof.Laws.Shape.of_wf _

theorem Sys2Proof.Laws.Shape.standstill (axis : Fin 12) :
    Sys2Proof.Laws.Shape.Statement (.standstill axis) := Sys2Proof.Laws.Shape.of_wf _

theorem Sys2Proof.Laws.Shape.gearLagGrace (axis : Fin 12) :
    Sys2Proof.Laws.Shape.Statement (.gearLagGrace axis) := Sys2Proof.Laws.Shape.of_wf _

theorem Sys2Proof.Laws.Shape.dcRunEnd (bridge : Fin 24) :
    Sys2Proof.Laws.Shape.Statement (.dcRunEnd bridge) := Sys2Proof.Laws.Shape.of_wf _

theorem Sys2Proof.Laws.Shape.chopperTrip (bridge : Fin 24) (code : BitVec 12) :
    Sys2Proof.Laws.Shape.Statement (.chopperTrip bridge code) := Sys2Proof.Laws.Shape.of_wf _

theorem Sys2Proof.Laws.Shape.chopperOffEnd (bridge : Fin 24) :
    Sys2Proof.Laws.Shape.Statement (.chopperOffEnd bridge) := Sys2Proof.Laws.Shape.of_wf _

theorem Sys2Proof.Laws.Shape.fullDutyEnd (bridge : Fin 24) (code : BitVec 12) (comm : Bool) :
    Sys2Proof.Laws.Shape.Statement (.fullDutyEnd bridge code comm) := Sys2Proof.Laws.Shape.of_wf _

theorem Sys2Proof.Laws.Shape.bridgeFault (bridge : Fin 24) (site : ProbeAt × Fin 4) (reading : Bool × BitVec 16 × BitVec 16) :
    Sys2Proof.Laws.Shape.Statement (.bridgeFault bridge site reading) := Sys2Proof.Laws.Shape.of_wf _

theorem Sys2Proof.Laws.Shape.bridgeRecover (bridge : Fin 24) :
    Sys2Proof.Laws.Shape.Statement (.bridgeRecover bridge) := Sys2Proof.Laws.Shape.of_wf _

theorem Sys2Proof.Laws.Shape.bridgeConfirmEnd (bridge : Fin 24) :
    Sys2Proof.Laws.Shape.Statement (.bridgeConfirmEnd bridge) := Sys2Proof.Laws.Shape.of_wf _

theorem Sys2Proof.Laws.Shape.bridgeCheckDone (axis : Fin 12) (a1 a2 b1 b2 : BitVec 12) (gateA gateB : BitVec 8) :
    Sys2Proof.Laws.Shape.Statement (.bridgeCheckDone axis a1 a2 b1 b2 gateA gateB) := Sys2Proof.Laws.Shape.of_wf _

theorem Sys2Proof.Laws.Shape.solProfileStart (chan : Fin 32) :
    Sys2Proof.Laws.Shape.Statement (.solProfileStart chan) := Sys2Proof.Laws.Shape.of_wf _

theorem Sys2Proof.Laws.Shape.segmentTmax (chan : Fin 32) (us : BitVec 24) (vs : BitVec 9) :
    Sys2Proof.Laws.Shape.Statement (.segmentTmax chan us vs) := Sys2Proof.Laws.Shape.of_wf _

theorem Sys2Proof.Laws.Shape.segmentStitchEnd (chan : Fin 32) :
    Sys2Proof.Laws.Shape.Statement (.segmentStitchEnd chan) := Sys2Proof.Laws.Shape.of_wf _

theorem Sys2Proof.Laws.Shape.solTrip (chan : Fin 32) (code : BitVec 10) (us : BitVec 24) :
    Sys2Proof.Laws.Shape.Statement (.solTrip chan code us) := Sys2Proof.Laws.Shape.of_wf _

theorem Sys2Proof.Laws.Shape.solReleaseDetect (chan : Fin 32 × BitVec 10 × BitVec 9 × BitVec 9) :
    Sys2Proof.Laws.Shape.Statement (.solReleaseDetect chan) := Sys2Proof.Laws.Shape.of_wf _

theorem Sys2Proof.Laws.Shape.coilModelUpdate (chan : Fin 32) (isq : BitVec 20) (mv ma : BitVec 16) :
    Sys2Proof.Laws.Shape.Statement (.coilModelUpdate chan isq mv ma) := Sys2Proof.Laws.Shape.of_wf _

theorem Sys2Proof.Laws.Shape.solFault (chan : Fin 32) (probe : Probe) (nh nl : BitVec 9) :
    Sys2Proof.Laws.Shape.Statement (.solFault chan probe nh nl) := Sys2Proof.Laws.Shape.of_wf _

theorem Sys2Proof.Laws.Shape.solRecover (chan : Fin 32) :
    Sys2Proof.Laws.Shape.Statement (.solRecover chan) := Sys2Proof.Laws.Shape.of_wf _

theorem Sys2Proof.Laws.Shape.solConfirmEnd (chan : Fin 32) :
    Sys2Proof.Laws.Shape.Statement (.solConfirmEnd chan) := Sys2Proof.Laws.Shape.of_wf _

theorem Sys2Proof.Laws.Shape.offStateCheckDone (chan : Fin 32) (nh1 nl1 nh2 nl2 vs : BitVec 9) (ofs : BitVec 12) :
    Sys2Proof.Laws.Shape.Statement (.offStateCheckDone chan nh1 nl1 nh2 nl2 vs ofs) := Sys2Proof.Laws.Shape.of_wf _

theorem Sys2Proof.Laws.Shape.onStateCheckDone (chan : Fin 32) (code : BitVec 10) (nh : BitVec 9) (low : BitVec 9 × BitVec 9) :
    Sys2Proof.Laws.Shape.Statement (.onStateCheckDone chan code nh low) := Sys2Proof.Laws.Shape.of_wf _

theorem Sys2Proof.Laws.Shape.encCount (enc : Fin 8) (a b : Bool) :
    Sys2Proof.Laws.Shape.Statement (.encCount enc a b) := Sys2Proof.Laws.Shape.of_wf _

theorem Sys2Proof.Laws.Shape.encIndex (enc : Fin 8) (level : Bool) (ph : BitVec 12) :
    Sys2Proof.Laws.Shape.Statement (.encIndex enc level ph) := Sys2Proof.Laws.Shape.of_wf _

theorem Sys2Proof.Laws.Shape.quadWindowEnd (enc : Fin 8) :
    Sys2Proof.Laws.Shape.Statement (.quadWindowEnd enc) := Sys2Proof.Laws.Shape.of_wf _

theorem Sys2Proof.Laws.Shape.encArm (port : Fin 2) (enc : Fin 8) :
    Sys2Proof.Laws.Shape.Statement (.encArm port enc) := Sys2Proof.Laws.Shape.of_wf _

theorem Sys2Proof.Laws.Shape.encZero (port : Fin 2) (enc : Fin 8) :
    Sys2Proof.Laws.Shape.Statement (.encZero port enc) := Sys2Proof.Laws.Shape.of_wf _

theorem Sys2Proof.Laws.Shape.encClr (port : Fin 2) (enc : Fin 8) :
    Sys2Proof.Laws.Shape.Statement (.encClr port enc) := Sys2Proof.Laws.Shape.of_wf _

theorem Sys2Proof.Laws.Shape.ssiClr (port : Fin 2) (ssi : Fin 2) :
    Sys2Proof.Laws.Shape.Statement (.ssiClr port ssi) := Sys2Proof.Laws.Shape.of_wf _

theorem Sys2Proof.Laws.Shape.ssiTransferEnd (ssi : Fin 2) (bits : List Bool) :
    Sys2Proof.Laws.Shape.Statement (.ssiTransferEnd ssi bits) := Sys2Proof.Laws.Shape.of_wf _

theorem Sys2Proof.Laws.Shape.ssiRepeat (ssi : Fin 2) (ph : BitVec 12) :
    Sys2Proof.Laws.Shape.Statement (.ssiRepeat ssi ph) := Sys2Proof.Laws.Shape.of_wf _

theorem Sys2Proof.Laws.Shape.cntEdge (cnt : Fin 16) (level : Bool) (us : BitVec 20) :
    Sys2Proof.Laws.Shape.Statement (.cntEdge cnt level us) := Sys2Proof.Laws.Shape.of_wf _

theorem Sys2Proof.Laws.Shape.probeCapture (prb : Fin 4) (ph : BitVec 12) (rise : Bool) :
    Sys2Proof.Laws.Shape.Statement (.probeCapture prb ph rise) := Sys2Proof.Laws.Shape.of_wf _

theorem Sys2Proof.Laws.Shape.probeArm (port : Fin 2) (prb : Fin 4) :
    Sys2Proof.Laws.Shape.Statement (.probeArm port prb) := Sys2Proof.Laws.Shape.of_wf _

theorem Sys2Proof.Laws.Shape.probeDisarm (port : Fin 2) (prb : Fin 4) :
    Sys2Proof.Laws.Shape.Statement (.probeDisarm port prb) := Sys2Proof.Laws.Shape.of_wf _

theorem Sys2Proof.Laws.Shape.probeFlush (port : Fin 2) (prb : Fin 4) :
    Sys2Proof.Laws.Shape.Statement (.probeFlush port prb) := Sys2Proof.Laws.Shape.of_wf _

theorem Sys2Proof.Laws.Shape.probeStampRead (port : Fin 2) (prb : Fin 4) :
    Sys2Proof.Laws.Shape.Statement (.probeStampRead port prb) := Sys2Proof.Laws.Shape.of_wf _

theorem Sys2Proof.Laws.Shape.monitorSample (group : Fin 58) (draws : Bool) (volts amps : BitVec 16) :
    Sys2Proof.Laws.Shape.Statement (.monitorSample group draws volts amps) := Sys2Proof.Laws.Shape.of_wf _

theorem Sys2Proof.Laws.Shape.energyBucket (group : Fin 58) :
    Sys2Proof.Laws.Shape.Statement (.energyBucket group) := Sys2Proof.Laws.Shape.of_wf _

theorem Sys2Proof.Laws.Shape.ontime (group : Fin 58) (elem : BitVec 4) :
    Sys2Proof.Laws.Shape.Statement (.ontime group elem) := Sys2Proof.Laws.Shape.of_wf _

theorem Sys2Proof.Laws.Shape.strobeLimit (head : Fin 2) (elem : BitVec 4) (duty : Bool) :
    Sys2Proof.Laws.Shape.Statement (.strobeLimit head elem duty) := Sys2Proof.Laws.Shape.of_wf _

theorem Sys2Proof.Laws.Shape.grel (port : Fin 2) (group : Fin 58) :
    Sys2Proof.Laws.Shape.Statement (.grel port group) := Sys2Proof.Laws.Shape.of_wf _

theorem Sys2Proof.Laws.Shape.rel (port : Fin 2) :
    Sys2Proof.Laws.Shape.Statement (.rel port) := Sys2Proof.Laws.Shape.of_wf _

theorem Sys2Proof.Laws.Shape.disch (port : Fin 2) :
    Sys2Proof.Laws.Shape.Statement (.disch port) := Sys2Proof.Laws.Shape.of_wf _

theorem Sys2Proof.Laws.Shape.shankLimitWrite (port : Fin 2) (addr : BitVec 24) (value : Sys2Proof.Word) :
    Sys2Proof.Laws.Shape.Statement (.shankLimitWrite port addr value) := Sys2Proof.Laws.Shape.of_wf _

theorem Sys2Proof.Laws.Shape.stopInput (low : Bool) :
    Sys2Proof.Laws.Shape.Statement (.stopInput low) := Sys2Proof.Laws.Shape.of_wf _

theorem Sys2Proof.Laws.Shape.doorOpen (isOpen : Bool) :
    Sys2Proof.Laws.Shape.Statement (.doorOpen isOpen) := Sys2Proof.Laws.Shape.of_wf _

theorem Sys2Proof.Laws.Shape.dischargeUpdate (vm vs : BitVec 9) :
    Sys2Proof.Laws.Shape.Statement (.dischargeUpdate vm vs) := Sys2Proof.Laws.Shape.of_wf _

theorem Sys2Proof.Laws.Shape.dischargeTimeout :
    Sys2Proof.Laws.Shape.Statement (.dischargeTimeout) := Sys2Proof.Laws.Shape.of_wf _

theorem Sys2Proof.Laws.Shape.tempSample (input : Fin 18) (code : BitVec 12) :
    Sys2Proof.Laws.Shape.Statement (.tempSample input code) := Sys2Proof.Laws.Shape.of_wf _

theorem Sys2Proof.Laws.Shape.sensorRecheck (input : Fin 18) (code : BitVec 12) :
    Sys2Proof.Laws.Shape.Statement (.sensorRecheck input code) := Sys2Proof.Laws.Shape.of_wf _

theorem Sys2Proof.Laws.Shape.sagAssert (supply : Fin 4) (volts : BitVec 9) (win : BitVec 5) :
    Sys2Proof.Laws.Shape.Statement (.sagAssert supply volts win) := Sys2Proof.Laws.Shape.of_wf _

theorem Sys2Proof.Laws.Shape.sagClear (supply : Fin 4) (volts : BitVec 9) (win : BitVec 5) :
    Sys2Proof.Laws.Shape.Statement (.sagClear supply volts win) := Sys2Proof.Laws.Shape.of_wf _

theorem Sys2Proof.Laws.Shape.vgdLow :
    Sys2Proof.Laws.Shape.Statement (.vgdLow) := Sys2Proof.Laws.Shape.of_wf _

theorem Sys2Proof.Laws.Shape.vgdClear :
    Sys2Proof.Laws.Shape.Statement (.vgdClear) := Sys2Proof.Laws.Shape.of_wf _

theorem Sys2Proof.Laws.Shape.vmLoss :
    Sys2Proof.Laws.Shape.Statement (.vmLoss) := Sys2Proof.Laws.Shape.of_wf _

theorem Sys2Proof.Laws.Shape.brownOut (src : BitVec 4) :
    Sys2Proof.Laws.Shape.Statement (.brownOut src) := Sys2Proof.Laws.Shape.of_wf _

theorem Sys2Proof.Laws.Shape.wordProgramDone (bank : Fin 2) (ok : Bool) :
    Sys2Proof.Laws.Shape.Statement (.wordProgramDone bank ok) := Sys2Proof.Laws.Shape.of_wf _

theorem Sys2Proof.Laws.Shape.eraseSliceEnd (bank : Fin 2) (blank : Bool) :
    Sys2Proof.Laws.Shape.Statement (.eraseSliceEnd bank blank) := Sys2Proof.Laws.Shape.of_wf _

theorem Sys2Proof.Laws.Shape.scrubPassStart :
    Sys2Proof.Laws.Shape.Statement (.scrubPassStart) := Sys2Proof.Laws.Shape.of_wf _

theorem Sys2Proof.Laws.Shape.scrubRead (bank : Fin 2) (addr : BitVec 21) (verdict : BitVec 2) :
    Sys2Proof.Laws.Shape.Statement (.scrubRead bank addr verdict) := Sys2Proof.Laws.Shape.of_wf _

theorem Sys2Proof.Laws.Shape.sramScrubTick (bank : Fin 2) (verdict : BitVec 2) :
    Sys2Proof.Laws.Shape.Statement (.sramScrubTick bank verdict) := Sys2Proof.Laws.Shape.of_wf _

theorem Sys2Proof.Laws.Shape.characterReceived (uart : Fin 4) (start : BitVec 3) (data parity : List (BitVec 3)) (stop : BitVec 3) :
    Sys2Proof.Laws.Shape.Statement (.characterReceived uart start data parity stop) := Sys2Proof.Laws.Shape.of_wf _

theorem Sys2Proof.Laws.Shape.receiveTimeout (uart : Fin 4) :
    Sys2Proof.Laws.Shape.Statement (.receiveTimeout uart) := Sys2Proof.Laws.Shape.of_wf _

theorem Sys2Proof.Laws.Shape.auxXferEnd :
    Sys2Proof.Laws.Shape.Statement (.auxXferEnd) := Sys2Proof.Laws.Shape.of_wf _

theorem Sys2Proof.Laws.Shape.pllUFault :
    Sys2Proof.Laws.Shape.Statement (.pllUFault) := Sys2Proof.Laws.Shape.of_wf _

theorem Sys2Proof.Laws.Shape.pllURelock (ok : Bool) :
    Sys2Proof.Laws.Shape.Statement (.pllURelock ok) := Sys2Proof.Laws.Shape.of_wf _

theorem Sys2Proof.Laws.Shape.clockFault (finding : BitVec 2 × BitVec 10) :
    Sys2Proof.Laws.Shape.Statement (.clockFault finding) := Sys2Proof.Laws.Shape.of_wf _

theorem Sys2Proof.Laws.Shape.fabricParityError (repeatOk : Bool) :
    Sys2Proof.Laws.Shape.Statement (.fabricParityError repeatOk) := Sys2Proof.Laws.Shape.of_wf _

theorem Sys2Proof.Laws.Shape.watchdogMiss (core : Fin 2) :
    Sys2Proof.Laws.Shape.Statement (.watchdogMiss core) := Sys2Proof.Laws.Shape.of_wf _

theorem Sys2Proof.Laws.Shape.coreRestart (core : Fin 2) :
    Sys2Proof.Laws.Shape.Statement (.coreRestart core) := Sys2Proof.Laws.Shape.of_wf _

theorem Sys2Proof.Laws.Shape.coreProbationEnd (core : Fin 2) :
    Sys2Proof.Laws.Shape.Statement (.coreProbationEnd core) := Sys2Proof.Laws.Shape.of_wf _

theorem Sys2Proof.Laws.Shape.domainIdle (dom : Fin 16) :
    Sys2Proof.Laws.Shape.Statement (.domainIdle dom) := Sys2Proof.Laws.Shape.of_wf _

theorem Sys2Proof.Laws.Shape.domainOff (dom : Fin 16) :
    Sys2Proof.Laws.Shape.Statement (.domainOff dom) := Sys2Proof.Laws.Shape.of_wf _

theorem Sys2Proof.Laws.Shape.domainPowerUp (dom : Fin 16) (dt : BitVec 32) :
    Sys2Proof.Laws.Shape.Statement (.domainPowerUp dom dt) := Sys2Proof.Laws.Shape.of_wf _

theorem Sys2Proof.Laws.Shape.sleepEntry :
    Sys2Proof.Laws.Shape.Statement (.sleepEntry) := Sys2Proof.Laws.Shape.of_wf _

theorem Sys2Proof.Laws.Shape.wake (src : BitVec 4) (dt : BitVec 32) :
    Sys2Proof.Laws.Shape.Statement (.wake src dt) := Sys2Proof.Laws.Shape.of_wf _

theorem Sys2Proof.Laws.Shape.offEntry :
    Sys2Proof.Laws.Shape.Statement (.offEntry) := Sys2Proof.Laws.Shape.of_wf _

theorem Sys2Proof.Laws.Shape.goOff (port : Fin 2) :
    Sys2Proof.Laws.Shape.Statement (.goOff port) := Sys2Proof.Laws.Shape.of_wf _

theorem Sys2Proof.Laws.Shape.por :
    Sys2Proof.Laws.Shape.Statement (.por) := Sys2Proof.Laws.Shape.of_wf _

theorem Sys2Proof.Laws.Shape.pinReset :
    Sys2Proof.Laws.Shape.Statement (.pinReset) := Sys2Proof.Laws.Shape.of_wf _

theorem Sys2Proof.Laws.Shape.startUp (tests : BitVec 12 × List (Fin 2 × BitVec 12)) (bootT recovT : BitVec 18) :
    Sys2Proof.Laws.Shape.Statement (.startUp tests bootT recovT) := Sys2Proof.Laws.Shape.of_wf _

theorem Sys2Proof.Laws.Shape.updateIrIntrusive (instr : BitVec 8) :
    Sys2Proof.Laws.Shape.Statement (.updateIrIntrusive instr) := Sys2Proof.Laws.Shape.of_wf _

theorem Sys2Proof.Laws.Shape.testLogicReset :
    Sys2Proof.Laws.Shape.Statement (.testLogicReset) := Sys2Proof.Laws.Shape.of_wf _

theorem Sys2Proof.Laws.Shape.begin' (port : Fin 2) (len : BitVec 19) :
    Sys2Proof.Laws.Shape.Statement (.begin' port len) := Sys2Proof.Laws.Shape.of_wf _

theorem Sys2Proof.Laws.Shape.activate (port : Fin 2) :
    Sys2Proof.Laws.Shape.Statement (.activate port) := Sys2Proof.Laws.Shape.of_wf _

theorem Sys2Proof.Laws.Shape.confirm (port : Fin 2) :
    Sys2Proof.Laws.Shape.Statement (.confirm port) := Sys2Proof.Laws.Shape.of_wf _

theorem Sys2Proof.Laws.Shape.imageAbort (port : Fin 2) :
    Sys2Proof.Laws.Shape.Statement (.imageAbort port) := Sys2Proof.Laws.Shape.of_wf _

theorem Sys2Proof.Laws.Shape.imagePortWrite (port : Fin 2) (word : Sys2Proof.Word) :
    Sys2Proof.Laws.Shape.Statement (.imagePortWrite port word) := Sys2Proof.Laws.Shape.of_wf _

theorem Sys2Proof.Laws.Shape.imageVerifyDone :
    Sys2Proof.Laws.Shape.Statement (.imageVerifyDone) := Sys2Proof.Laws.Shape.of_wf _

theorem Sys2Proof.Laws.Shape.imageIdleTimeout :
    Sys2Proof.Laws.Shape.Statement (.imageIdleTimeout) := Sys2Proof.Laws.Shape.of_wf _

theorem Sys2Proof.Laws.Shape.programWord (port : Fin 2) (oword : BitVec 7) (value : Sys2Proof.Word) :
    Sys2Proof.Laws.Shape.Statement (.programWord port oword value) := Sys2Proof.Laws.Shape.of_wf _

theorem Sys2Proof.Laws.Shape.programKey (port : Fin 2) (slot : Fin 8) (use : BitVec 2) :
    Sys2Proof.Laws.Shape.Statement (.programKey port slot use) := Sys2Proof.Laws.Shape.of_wf _

theorem Sys2Proof.Laws.Shape.revokeKey (port : Fin 2) (slot : Fin 8) :
    Sys2Proof.Laws.Shape.Statement (.revokeKey port slot) := Sys2Proof.Laws.Shape.of_wf _

theorem Sys2Proof.Laws.Shape.otpProgramDone (ok : Bool) :
    Sys2Proof.Laws.Shape.Statement (.otpProgramDone ok) := Sys2Proof.Laws.Shape.of_wf _

theorem Sys2Proof.Laws.Shape.aonXtalLoss :
    Sys2Proof.Laws.Shape.Statement (.aonXtalLoss) := Sys2Proof.Laws.Shape.of_wf _

theorem Sys2Proof.Laws.Shape.vmRearm :
    Sys2Proof.Laws.Shape.Statement (.vmRearm) := Sys2Proof.Laws.Shape.of_wf _

theorem Sys2Proof.Laws.Shape.limitRelease (axis : Fin 12) (input : Fin 2 × BitVec 12) :
    Sys2Proof.Laws.Shape.Statement (.limitRelease axis input) := Sys2Proof.Laws.Shape.of_wf _

theorem Sys2Proof.Laws.Shape.lineIdle (uart : Fin 4) :
    Sys2Proof.Laws.Shape.Statement (.lineIdle uart) := Sys2Proof.Laws.Shape.of_wf _

theorem Sys2Proof.Laws.Shape.eraseResume (bank : Fin 2) :
    Sys2Proof.Laws.Shape.Statement (.eraseResume bank) := Sys2Proof.Laws.Shape.of_wf _

theorem Sys2Proof.Laws.Shape.decisionPacing :
    Sys2Proof.Laws.Shape.Statement (.decisionPacing) := Sys2Proof.Laws.Shape.of_wf _

theorem Sys2Proof.Laws.Shape.pwmPeriod (bridge : Fin 24) (code : BitVec 12) :
    Sys2Proof.Laws.Shape.Statement (.pwmPeriod bridge code) := Sys2Proof.Laws.Shape.of_wf _

theorem Sys2Proof.Laws.Shape.solPwmPeriod (chan : Fin 32) (duty : BitVec 10) (us : BitVec 24) (ph : BitVec 12) :
    Sys2Proof.Laws.Shape.Statement (.solPwmPeriod chan duty us ph) := Sys2Proof.Laws.Shape.of_wf _

theorem Sys2Proof.Laws.Shape.dipSample (chan : Fin 32) (code : BitVec 10) (us : BitVec 24) (ph : BitVec 12) :
    Sys2Proof.Laws.Shape.Statement (.dipSample chan code us ph) := Sys2Proof.Laws.Shape.of_wf _

theorem Sys2Proof.Laws.Shape.updateDr (scan : List Bool × Bool) :
    Sys2Proof.Laws.Shape.Statement (.updateDr scan) := Sys2Proof.Laws.Shape.of_wf _

theorem Sys2Proof.Laws.Shape.guardSupply (supply : Fin 4) (above : Bool) :
    Sys2Proof.Laws.Shape.Statement (.guardSupply supply above) := Sys2Proof.Laws.Shape.of_wf _
end

