-- ==== Sys2Proof/Laws/State.lean ====
section
/-!
SUPPORT. What each update of one part of the state makes of every field: one lemma for each field of each update, and reading
one member of a table after one member has changed.
-/

namespace Sys2Proof.Machine

theorem at'_eq {α : Type} [Inhabited α] {n : Nat} (v : Vector α n) (i : Nat) :
    at' v i = if h : i < n then v[i] else default := by
  simp only [at', Vector.getD, Array.getD]
  simp [Vector.size_toArray]
theorem at'_upd_self {α : Type} [Inhabited α] {n : Nat} (v : Vector α n) (i : Nat) (f : α → α) (h : i < n) :
    at' (upd v i f) i = f (at' v i) := by
  simp [at'_eq, upd, h]
theorem at'_upd_ne {α : Type} [Inhabited α] {n : Nat} (v : Vector α n) (i j : Nat) (f : α → α) (h : j ≠ i) :
    at' (upd v i f) j = at' v j := by
  unfold upd
  split
  · simp only [at'_eq]
    split
    · rw [Vector.getElem_set_ne]; exact fun e => h e.symm
    · rfl
  · rfl

theorem upd_upd {α : Type} {n : Nat} (v : Vector α n) (i : Nat) (f g : α → α) :
    upd (upd v i f) i g = upd v i fun a => g (f a) := by
  simp only [upd]; split <;> simp

@[simp] theorem State.onPort_pending (s : State) (p : Nat) (f : Port → Port) : (s.onPort p f).pending = s.pending := rfl
@[simp] theorem State.onPort_fresh (s : State) (p : Nat) (f : Port → Port) : (s.onPort p f).fresh = s.fresh := rfl
@[simp] theorem State.onPort_dev (s : State) (p : Nat) (f : Port → Port) : (s.onPort p f).dev = s.dev := rfl
@[simp] theorem State.onPort_stitch (s : State) (p : Nat) (f : Port → Port) : (s.onPort p f).stitch = s.stitch := rfl
@[simp] theorem State.onPort_ports (s : State) (p : Nat) (f : Port → Port) : (s.onPort p f).ports = upd s.ports p f := rfl
@[simp] theorem State.onPort_ev (s : State) (p : Nat) (f : Port → Port) : (s.onPort p f).ev = s.ev := rfl
@[simp] theorem State.onPort_tbl (s : State) (p : Nat) (f : Port → Port) : (s.onPort p f).tbl = s.tbl := rfl
@[simp] theorem State.onPort_lanes (s : State) (p : Nat) (f : Port → Port) : (s.onPort p f).lanes = s.lanes := rfl
@[simp] theorem State.onPort_jobs (s : State) (p : Nat) (f : Port → Port) : (s.onPort p f).jobs = s.jobs := rfl
@[simp] theorem State.onPort_welt (s : State) (p : Nat) (f : Port → Port) : (s.onPort p f).welt = s.welt := rfl
@[simp] theorem State.onPort_assets (s : State) (p : Nat) (f : Port → Port) : (s.onPort p f).assets = s.assets := rfl
@[simp] theorem State.onPort_heads (s : State) (p : Nat) (f : Port → Port) : (s.onPort p f).heads = s.heads := rfl
@[simp] theorem State.onPort_axes (s : State) (p : Nat) (f : Port → Port) : (s.onPort p f).axes = s.axes := rfl
@[simp] theorem State.onPort_encs (s : State) (p : Nat) (f : Port → Port) : (s.onPort p f).encs = s.encs := rfl
@[simp] theorem State.onPort_ssis (s : State) (p : Nat) (f : Port → Port) : (s.onPort p f).ssis = s.ssis := rfl
@[simp] theorem State.onPort_cnts (s : State) (p : Nat) (f : Port → Port) : (s.onPort p f).cnts = s.cnts := rfl
@[simp] theorem State.onPort_prbs (s : State) (p : Nat) (f : Port → Port) : (s.onPort p f).prbs = s.prbs := rfl
@[simp] theorem State.onPort_chans (s : State) (p : Nat) (f : Port → Port) : (s.onPort p f).chans = s.chans := rfl
@[simp] theorem State.onPort_shank (s : State) (p : Nat) (f : Port → Port) : (s.onPort p f).shank = s.shank := rfl
@[simp] theorem State.onPort_power (s : State) (p : Nat) (f : Port → Port) : (s.onPort p f).power = s.power := rfl
@[simp] theorem State.onPort_mss (s : State) (p : Nat) (f : Port → Port) : (s.onPort p f).mss = s.mss := rfl
@[simp] theorem State.onPort_snss (s : State) (p : Nat) (f : Port → Port) : (s.onPort p f).snss = s.snss := rfl
@[simp] theorem State.onPort_sup (s : State) (p : Nat) (f : Port → Port) : (s.onPort p f).sup = s.sup := rfl
@[simp] theorem State.onPort_flash (s : State) (p : Nat) (f : Port → Port) : (s.onPort p f).flash = s.flash := rfl
@[simp] theorem State.onPort_uarts (s : State) (p : Nat) (f : Port → Port) : (s.onPort p f).uarts = s.uarts := rfl
@[simp] theorem State.onPort_sec (s : State) (p : Nat) (f : Port → Port) : (s.onPort p f).sec = s.sec := rfl

@[simp] theorem State.onLane_pending (s : State) (i : Nat) (f : Lane → Lane) : (s.onLane i f).pending = s.pending := rfl
@[simp] theorem State.onLane_fresh (s : State) (i : Nat) (f : Lane → Lane) : (s.onLane i f).fresh = s.fresh := rfl
@[simp] theorem State.onLane_dev (s : State) (i : Nat) (f : Lane → Lane) : (s.onLane i f).dev = s.dev := rfl
@[simp] theorem State.onLane_stitch (s : State) (i : Nat) (f : Lane → Lane) : (s.onLane i f).stitch = s.stitch := rfl
@[simp] theorem State.onLane_ports (s : State) (i : Nat) (f : Lane → Lane) : (s.onLane i f).ports = s.ports := rfl
@[simp] theorem State.onLane_ev (s : State) (i : Nat) (f : Lane → Lane) : (s.onLane i f).ev = s.ev := rfl
@[simp] theorem State.onLane_tbl (s : State) (i : Nat) (f : Lane → Lane) : (s.onLane i f).tbl = s.tbl := rfl
@[simp] theorem State.onLane_lanes (s : State) (i : Nat) (f : Lane → Lane) : (s.onLane i f).lanes = upd s.lanes i f := rfl
@[simp] theorem State.onLane_jobs (s : State) (i : Nat) (f : Lane → Lane) : (s.onLane i f).jobs = s.jobs := rfl
@[simp] theorem State.onLane_welt (s : State) (i : Nat) (f : Lane → Lane) : (s.onLane i f).welt = s.welt := rfl
@[simp] theorem State.onLane_assets (s : State) (i : Nat) (f : Lane → Lane) : (s.onLane i f).assets = s.assets := rfl
@[simp] theorem State.onLane_heads (s : State) (i : Nat) (f : Lane → Lane) : (s.onLane i f).heads = s.heads := rfl
@[simp] theorem State.onLane_axes (s : State) (i : Nat) (f : Lane → Lane) : (s.onLane i f).axes = s.axes := rfl
@[simp] theorem State.onLane_encs (s : State) (i : Nat) (f : Lane → Lane) : (s.onLane i f).encs = s.encs := rfl
@[simp] theorem State.onLane_ssis (s : State) (i : Nat) (f : Lane → Lane) : (s.onLane i f).ssis = s.ssis := rfl
@[simp] theorem State.onLane_cnts (s : State) (i : Nat) (f : Lane → Lane) : (s.onLane i f).cnts = s.cnts := rfl
@[simp] theorem State.onLane_prbs (s : State) (i : Nat) (f : Lane → Lane) : (s.onLane i f).prbs = s.prbs := rfl
@[simp] theorem State.onLane_chans (s : State) (i : Nat) (f : Lane → Lane) : (s.onLane i f).chans = s.chans := rfl
@[simp] theorem State.onLane_shank (s : State) (i : Nat) (f : Lane → Lane) : (s.onLane i f).shank = s.shank := rfl
@[simp] theorem State.onLane_power (s : State) (i : Nat) (f : Lane → Lane) : (s.onLane i f).power = s.power := rfl
@[simp] theorem State.onLane_mss (s : State) (i : Nat) (f : Lane → Lane) : (s.onLane i f).mss = s.mss := rfl
@[simp] theorem State.onLane_snss (s : State) (i : Nat) (f : Lane → Lane) : (s.onLane i f).snss = s.snss := rfl
@[simp] theorem State.onLane_sup (s : State) (i : Nat) (f : Lane → Lane) : (s.onLane i f).sup = s.sup := rfl
@[simp] theorem State.onLane_flash (s : State) (i : Nat) (f : Lane → Lane) : (s.onLane i f).flash = s.flash := rfl
@[simp] theorem State.onLane_uarts (s : State) (i : Nat) (f : Lane → Lane) : (s.onLane i f).uarts = s.uarts := rfl
@[simp] theorem State.onLane_sec (s : State) (i : Nat) (f : Lane → Lane) : (s.onLane i f).sec = s.sec := rfl

@[simp] theorem State.onHead_pending (s : State) (x : Nat) (f : Head → Head) : (s.onHead x f).pending = s.pending := rfl
@[simp] theorem State.onHead_fresh (s : State) (x : Nat) (f : Head → Head) : (s.onHead x f).fresh = s.fresh := rfl
@[simp] theorem State.onHead_dev (s : State) (x : Nat) (f : Head → Head) : (s.onHead x f).dev = s.dev := rfl
@[simp] theorem State.onHead_stitch (s : State) (x : Nat) (f : Head → Head) : (s.onHead x f).stitch = s.stitch := rfl
@[simp] theorem State.onHead_ports (s : State) (x : Nat) (f : Head → Head) : (s.onHead x f).ports = s.ports := rfl
@[simp] theorem State.onHead_ev (s : State) (x : Nat) (f : Head → Head) : (s.onHead x f).ev = s.ev := rfl
@[simp] theorem State.onHead_tbl (s : State) (x : Nat) (f : Head → Head) : (s.onHead x f).tbl = s.tbl := rfl
@[simp] theorem State.onHead_lanes (s : State) (x : Nat) (f : Head → Head) : (s.onHead x f).lanes = s.lanes := rfl
@[simp] theorem State.onHead_jobs (s : State) (x : Nat) (f : Head → Head) : (s.onHead x f).jobs = s.jobs := rfl
@[simp] theorem State.onHead_welt (s : State) (x : Nat) (f : Head → Head) : (s.onHead x f).welt = s.welt := rfl
@[simp] theorem State.onHead_assets (s : State) (x : Nat) (f : Head → Head) : (s.onHead x f).assets = s.assets := rfl
@[simp] theorem State.onHead_heads (s : State) (x : Nat) (f : Head → Head) : (s.onHead x f).heads = upd s.heads x f := rfl
@[simp] theorem State.onHead_axes (s : State) (x : Nat) (f : Head → Head) : (s.onHead x f).axes = s.axes := rfl
@[simp] theorem State.onHead_encs (s : State) (x : Nat) (f : Head → Head) : (s.onHead x f).encs = s.encs := rfl
@[simp] theorem State.onHead_ssis (s : State) (x : Nat) (f : Head → Head) : (s.onHead x f).ssis = s.ssis := rfl
@[simp] theorem State.onHead_cnts (s : State) (x : Nat) (f : Head → Head) : (s.onHead x f).cnts = s.cnts := rfl
@[simp] theorem State.onHead_prbs (s : State) (x : Nat) (f : Head → Head) : (s.onHead x f).prbs = s.prbs := rfl
@[simp] theorem State.onHead_chans (s : State) (x : Nat) (f : Head → Head) : (s.onHead x f).chans = s.chans := rfl
@[simp] theorem State.onHead_shank (s : State) (x : Nat) (f : Head → Head) : (s.onHead x f).shank = s.shank := rfl
@[simp] theorem State.onHead_power (s : State) (x : Nat) (f : Head → Head) : (s.onHead x f).power = s.power := rfl
@[simp] theorem State.onHead_mss (s : State) (x : Nat) (f : Head → Head) : (s.onHead x f).mss = s.mss := rfl
@[simp] theorem State.onHead_snss (s : State) (x : Nat) (f : Head → Head) : (s.onHead x f).snss = s.snss := rfl
@[simp] theorem State.onHead_sup (s : State) (x : Nat) (f : Head → Head) : (s.onHead x f).sup = s.sup := rfl
@[simp] theorem State.onHead_flash (s : State) (x : Nat) (f : Head → Head) : (s.onHead x f).flash = s.flash := rfl
@[simp] theorem State.onHead_uarts (s : State) (x : Nat) (f : Head → Head) : (s.onHead x f).uarts = s.uarts := rfl
@[simp] theorem State.onHead_sec (s : State) (x : Nat) (f : Head → Head) : (s.onHead x f).sec = s.sec := rfl

@[simp] theorem State.onDev_pending (s : State) (f : Dev → Dev) : (s.onDev f).pending = s.pending := rfl
@[simp] theorem State.onDev_fresh (s : State) (f : Dev → Dev) : (s.onDev f).fresh = s.fresh := rfl
@[simp] theorem State.onDev_dev (s : State) (f : Dev → Dev) : (s.onDev f).dev = f s.dev := rfl
@[simp] theorem State.onDev_stitch (s : State) (f : Dev → Dev) : (s.onDev f).stitch = s.stitch := rfl
@[simp] theorem State.onDev_ports (s : State) (f : Dev → Dev) : (s.onDev f).ports = s.ports := rfl
@[simp] theorem State.onDev_ev (s : State) (f : Dev → Dev) : (s.onDev f).ev = s.ev := rfl
@[simp] theorem State.onDev_tbl (s : State) (f : Dev → Dev) : (s.onDev f).tbl = s.tbl := rfl
@[simp] theorem State.onDev_lanes (s : State) (f : Dev → Dev) : (s.onDev f).lanes = s.lanes := rfl
@[simp] theorem State.onDev_jobs (s : State) (f : Dev → Dev) : (s.onDev f).jobs = s.jobs := rfl
@[simp] theorem State.onDev_welt (s : State) (f : Dev → Dev) : (s.onDev f).welt = s.welt := rfl
@[simp] theorem State.onDev_assets (s : State) (f : Dev → Dev) : (s.onDev f).assets = s.assets := rfl
@[simp] theorem State.onDev_heads (s : State) (f : Dev → Dev) : (s.onDev f).heads = s.heads := rfl
@[simp] theorem State.onDev_axes (s : State) (f : Dev → Dev) : (s.onDev f).axes = s.axes := rfl
@[simp] theorem State.onDev_encs (s : State) (f : Dev → Dev) : (s.onDev f).encs = s.encs := rfl
@[simp] theorem State.onDev_ssis (s : State) (f : Dev → Dev) : (s.onDev f).ssis = s.ssis := rfl
@[simp] theorem State.onDev_cnts (s : State) (f : Dev → Dev) : (s.onDev f).cnts = s.cnts := rfl
@[simp] theorem State.onDev_prbs (s : State) (f : Dev → Dev) : (s.onDev f).prbs = s.prbs := rfl
@[simp] theorem State.onDev_chans (s : State) (f : Dev → Dev) : (s.onDev f).chans = s.chans := rfl
@[simp] theorem State.onDev_shank (s : State) (f : Dev → Dev) : (s.onDev f).shank = s.shank := rfl
@[simp] theorem State.onDev_power (s : State) (f : Dev → Dev) : (s.onDev f).power = s.power := rfl
@[simp] theorem State.onDev_mss (s : State) (f : Dev → Dev) : (s.onDev f).mss = s.mss := rfl
@[simp] theorem State.onDev_snss (s : State) (f : Dev → Dev) : (s.onDev f).snss = s.snss := rfl
@[simp] theorem State.onDev_sup (s : State) (f : Dev → Dev) : (s.onDev f).sup = s.sup := rfl
@[simp] theorem State.onDev_flash (s : State) (f : Dev → Dev) : (s.onDev f).flash = s.flash := rfl
@[simp] theorem State.onDev_uarts (s : State) (f : Dev → Dev) : (s.onDev f).uarts = s.uarts := rfl
@[simp] theorem State.onDev_sec (s : State) (f : Dev → Dev) : (s.onDev f).sec = s.sec := rfl

@[simp] theorem State.onStitch_pending (s : State) (f : Stitch → Stitch) : (s.onStitch f).pending = s.pending := rfl
@[simp] theorem State.onStitch_fresh (s : State) (f : Stitch → Stitch) : (s.onStitch f).fresh = s.fresh := rfl
@[simp] theorem State.onStitch_dev (s : State) (f : Stitch → Stitch) : (s.onStitch f).dev = s.dev := rfl
@[simp] theorem State.onStitch_stitch (s : State) (f : Stitch → Stitch) : (s.onStitch f).stitch = f s.stitch := rfl
@[simp] theorem State.onStitch_ports (s : State) (f : Stitch → Stitch) : (s.onStitch f).ports = s.ports := rfl
@[simp] theorem State.onStitch_ev (s : State) (f : Stitch → Stitch) : (s.onStitch f).ev = s.ev := rfl
@[simp] theorem State.onStitch_tbl (s : State) (f : Stitch → Stitch) : (s.onStitch f).tbl = s.tbl := rfl
@[simp] theorem State.onStitch_lanes (s : State) (f : Stitch → Stitch) : (s.onStitch f).lanes = s.lanes := rfl
@[simp] theorem State.onStitch_jobs (s : State) (f : Stitch → Stitch) : (s.onStitch f).jobs = s.jobs := rfl
@[simp] theorem State.onStitch_welt (s : State) (f : Stitch → Stitch) : (s.onStitch f).welt = s.welt := rfl
@[simp] theorem State.onStitch_assets (s : State) (f : Stitch → Stitch) : (s.onStitch f).assets = s.assets := rfl
@[simp] theorem State.onStitch_heads (s : State) (f : Stitch → Stitch) : (s.onStitch f).heads = s.heads := rfl
@[simp] theorem State.onStitch_axes (s : State) (f : Stitch → Stitch) : (s.onStitch f).axes = s.axes := rfl
@[simp] theorem State.onStitch_encs (s : State) (f : Stitch → Stitch) : (s.onStitch f).encs = s.encs := rfl
@[simp] theorem State.onStitch_ssis (s : State) (f : Stitch → Stitch) : (s.onStitch f).ssis = s.ssis := rfl
@[simp] theorem State.onStitch_cnts (s : State) (f : Stitch → Stitch) : (s.onStitch f).cnts = s.cnts := rfl
@[simp] theorem State.onStitch_prbs (s : State) (f : Stitch → Stitch) : (s.onStitch f).prbs = s.prbs := rfl
@[simp] theorem State.onStitch_chans (s : State) (f : Stitch → Stitch) : (s.onStitch f).chans = s.chans := rfl
@[simp] theorem State.onStitch_shank (s : State) (f : Stitch → Stitch) : (s.onStitch f).shank = s.shank := rfl
@[simp] theorem State.onStitch_power (s : State) (f : Stitch → Stitch) : (s.onStitch f).power = s.power := rfl
@[simp] theorem State.onStitch_mss (s : State) (f : Stitch → Stitch) : (s.onStitch f).mss = s.mss := rfl
@[simp] theorem State.onStitch_snss (s : State) (f : Stitch → Stitch) : (s.onStitch f).snss = s.snss := rfl
@[simp] theorem State.onStitch_sup (s : State) (f : Stitch → Stitch) : (s.onStitch f).sup = s.sup := rfl
@[simp] theorem State.onStitch_flash (s : State) (f : Stitch → Stitch) : (s.onStitch f).flash = s.flash := rfl
@[simp] theorem State.onStitch_uarts (s : State) (f : Stitch → Stitch) : (s.onStitch f).uarts = s.uarts := rfl
@[simp] theorem State.onStitch_sec (s : State) (f : Stitch → Stitch) : (s.onStitch f).sec = s.sec := rfl

@[simp] theorem State.onJobs_pending (s : State) (f : Jobs → Jobs) : (s.onJobs f).pending = s.pending := rfl
@[simp] theorem State.onJobs_fresh (s : State) (f : Jobs → Jobs) : (s.onJobs f).fresh = s.fresh := rfl
@[simp] theorem State.onJobs_dev (s : State) (f : Jobs → Jobs) : (s.onJobs f).dev = s.dev := rfl
@[simp] theorem State.onJobs_stitch (s : State) (f : Jobs → Jobs) : (s.onJobs f).stitch = s.stitch := rfl
@[simp] theorem State.onJobs_ports (s : State) (f : Jobs → Jobs) : (s.onJobs f).ports = s.ports := rfl
@[simp] theorem State.onJobs_ev (s : State) (f : Jobs → Jobs) : (s.onJobs f).ev = s.ev := rfl
@[simp] theorem State.onJobs_tbl (s : State) (f : Jobs → Jobs) : (s.onJobs f).tbl = s.tbl := rfl
@[simp] theorem State.onJobs_lanes (s : State) (f : Jobs → Jobs) : (s.onJobs f).lanes = s.lanes := rfl
@[simp] theorem State.onJobs_jobs (s : State) (f : Jobs → Jobs) : (s.onJobs f).jobs = f s.jobs := rfl
@[simp] theorem State.onJobs_welt (s : State) (f : Jobs → Jobs) : (s.onJobs f).welt = s.welt := rfl
@[simp] theorem State.onJobs_assets (s : State) (f : Jobs → Jobs) : (s.onJobs f).assets = s.assets := rfl
@[simp] theorem State.onJobs_heads (s : State) (f : Jobs → Jobs) : (s.onJobs f).heads = s.heads := rfl
@[simp] theorem State.onJobs_axes (s : State) (f : Jobs → Jobs) : (s.onJobs f).axes = s.axes := rfl
@[simp] theorem State.onJobs_encs (s : State) (f : Jobs → Jobs) : (s.onJobs f).encs = s.encs := rfl
@[simp] theorem State.onJobs_ssis (s : State) (f : Jobs → Jobs) : (s.onJobs f).ssis = s.ssis := rfl
@[simp] theorem State.onJobs_cnts (s : State) (f : Jobs → Jobs) : (s.onJobs f).cnts = s.cnts := rfl
@[simp] theorem State.onJobs_prbs (s : State) (f : Jobs → Jobs) : (s.onJobs f).prbs = s.prbs := rfl
@[simp] theorem State.onJobs_chans (s : State) (f : Jobs → Jobs) : (s.onJobs f).chans = s.chans := rfl
@[simp] theorem State.onJobs_shank (s : State) (f : Jobs → Jobs) : (s.onJobs f).shank = s.shank := rfl
@[simp] theorem State.onJobs_power (s : State) (f : Jobs → Jobs) : (s.onJobs f).power = s.power := rfl
@[simp] theorem State.onJobs_mss (s : State) (f : Jobs → Jobs) : (s.onJobs f).mss = s.mss := rfl
@[simp] theorem State.onJobs_snss (s : State) (f : Jobs → Jobs) : (s.onJobs f).snss = s.snss := rfl
@[simp] theorem State.onJobs_sup (s : State) (f : Jobs → Jobs) : (s.onJobs f).sup = s.sup := rfl
@[simp] theorem State.onJobs_flash (s : State) (f : Jobs → Jobs) : (s.onJobs f).flash = s.flash := rfl
@[simp] theorem State.onJobs_uarts (s : State) (f : Jobs → Jobs) : (s.onJobs f).uarts = s.uarts := rfl
@[simp] theorem State.onJobs_sec (s : State) (f : Jobs → Jobs) : (s.onJobs f).sec = s.sec := rfl

@[simp] theorem State.onWelt_pending (s : State) (f : Welt → Welt) : (s.onWelt f).pending = s.pending := rfl
@[simp] theorem State.onWelt_fresh (s : State) (f : Welt → Welt) : (s.onWelt f).fresh = s.fresh := rfl
@[simp] theorem State.onWelt_dev (s : State) (f : Welt → Welt) : (s.onWelt f).dev = s.dev := rfl
@[simp] theorem State.onWelt_stitch (s : State) (f : Welt → Welt) : (s.onWelt f).stitch = s.stitch := rfl
@[simp] theorem State.onWelt_ports (s : State) (f : Welt → Welt) : (s.onWelt f).ports = s.ports := rfl
@[simp] theorem State.onWelt_ev (s : State) (f : Welt → Welt) : (s.onWelt f).ev = s.ev := rfl
@[simp] theorem State.onWelt_tbl (s : State) (f : Welt → Welt) : (s.onWelt f).tbl = s.tbl := rfl
@[simp] theorem State.onWelt_lanes (s : State) (f : Welt → Welt) : (s.onWelt f).lanes = s.lanes := rfl
@[simp] theorem State.onWelt_jobs (s : State) (f : Welt → Welt) : (s.onWelt f).jobs = s.jobs := rfl
@[simp] theorem State.onWelt_welt (s : State) (f : Welt → Welt) : (s.onWelt f).welt = f s.welt := rfl
@[simp] theorem State.onWelt_assets (s : State) (f : Welt → Welt) : (s.onWelt f).assets = s.assets := rfl
@[simp] theorem State.onWelt_heads (s : State) (f : Welt → Welt) : (s.onWelt f).heads = s.heads := rfl
@[simp] theorem State.onWelt_axes (s : State) (f : Welt → Welt) : (s.onWelt f).axes = s.axes := rfl
@[simp] theorem State.onWelt_encs (s : State) (f : Welt → Welt) : (s.onWelt f).encs = s.encs := rfl
@[simp] theorem State.onWelt_ssis (s : State) (f : Welt → Welt) : (s.onWelt f).ssis = s.ssis := rfl
@[simp] theorem State.onWelt_cnts (s : State) (f : Welt → Welt) : (s.onWelt f).cnts = s.cnts := rfl
@[simp] theorem State.onWelt_prbs (s : State) (f : Welt → Welt) : (s.onWelt f).prbs = s.prbs := rfl
@[simp] theorem State.onWelt_chans (s : State) (f : Welt → Welt) : (s.onWelt f).chans = s.chans := rfl
@[simp] theorem State.onWelt_shank (s : State) (f : Welt → Welt) : (s.onWelt f).shank = s.shank := rfl
@[simp] theorem State.onWelt_power (s : State) (f : Welt → Welt) : (s.onWelt f).power = s.power := rfl
@[simp] theorem State.onWelt_mss (s : State) (f : Welt → Welt) : (s.onWelt f).mss = s.mss := rfl
@[simp] theorem State.onWelt_snss (s : State) (f : Welt → Welt) : (s.onWelt f).snss = s.snss := rfl
@[simp] theorem State.onWelt_sup (s : State) (f : Welt → Welt) : (s.onWelt f).sup = s.sup := rfl
@[simp] theorem State.onWelt_flash (s : State) (f : Welt → Welt) : (s.onWelt f).flash = s.flash := rfl
@[simp] theorem State.onWelt_uarts (s : State) (f : Welt → Welt) : (s.onWelt f).uarts = s.uarts := rfl
@[simp] theorem State.onWelt_sec (s : State) (f : Welt → Welt) : (s.onWelt f).sec = s.sec := rfl

@[simp] theorem State.onEv_pending (s : State) (f : EventQ → EventQ) : (s.onEv f).pending = s.pending := rfl
@[simp] theorem State.onEv_fresh (s : State) (f : EventQ → EventQ) : (s.onEv f).fresh = s.fresh := rfl
@[simp] theorem State.onEv_dev (s : State) (f : EventQ → EventQ) : (s.onEv f).dev = s.dev := rfl
@[simp] theorem State.onEv_stitch (s : State) (f : EventQ → EventQ) : (s.onEv f).stitch = s.stitch := rfl
@[simp] theorem State.onEv_ports (s : State) (f : EventQ → EventQ) : (s.onEv f).ports = s.ports := rfl
@[simp] theorem State.onEv_ev (s : State) (f : EventQ → EventQ) : (s.onEv f).ev = f s.ev := rfl
@[simp] theorem State.onEv_tbl (s : State) (f : EventQ → EventQ) : (s.onEv f).tbl = s.tbl := rfl
@[simp] theorem State.onEv_lanes (s : State) (f : EventQ → EventQ) : (s.onEv f).lanes = s.lanes := rfl
@[simp] theorem State.onEv_jobs (s : State) (f : EventQ → EventQ) : (s.onEv f).jobs = s.jobs := rfl
@[simp] theorem State.onEv_welt (s : State) (f : EventQ → EventQ) : (s.onEv f).welt = s.welt := rfl
@[simp] theorem State.onEv_assets (s : State) (f : EventQ → EventQ) : (s.onEv f).assets = s.assets := rfl
@[simp] theorem State.onEv_heads (s : State) (f : EventQ → EventQ) : (s.onEv f).heads = s.heads := rfl
@[simp] theorem State.onEv_axes (s : State) (f : EventQ → EventQ) : (s.onEv f).axes = s.axes := rfl
@[simp] theorem State.onEv_encs (s : State) (f : EventQ → EventQ) : (s.onEv f).encs = s.encs := rfl
@[simp] theorem State.onEv_ssis (s : State) (f : EventQ → EventQ) : (s.onEv f).ssis = s.ssis := rfl
@[simp] theorem State.onEv_cnts (s : State) (f : EventQ → EventQ) : (s.onEv f).cnts = s.cnts := rfl
@[simp] theorem State.onEv_prbs (s : State) (f : EventQ → EventQ) : (s.onEv f).prbs = s.prbs := rfl
@[simp] theorem State.onEv_chans (s : State) (f : EventQ → EventQ) : (s.onEv f).chans = s.chans := rfl
@[simp] theorem State.onEv_shank (s : State) (f : EventQ → EventQ) : (s.onEv f).shank = s.shank := rfl
@[simp] theorem State.onEv_power (s : State) (f : EventQ → EventQ) : (s.onEv f).power = s.power := rfl
@[simp] theorem State.onEv_mss (s : State) (f : EventQ → EventQ) : (s.onEv f).mss = s.mss := rfl
@[simp] theorem State.onEv_snss (s : State) (f : EventQ → EventQ) : (s.onEv f).snss = s.snss := rfl
@[simp] theorem State.onEv_sup (s : State) (f : EventQ → EventQ) : (s.onEv f).sup = s.sup := rfl
@[simp] theorem State.onEv_flash (s : State) (f : EventQ → EventQ) : (s.onEv f).flash = s.flash := rfl
@[simp] theorem State.onEv_uarts (s : State) (f : EventQ → EventQ) : (s.onEv f).uarts = s.uarts := rfl
@[simp] theorem State.onEv_sec (s : State) (f : EventQ → EventQ) : (s.onEv f).sec = s.sec := rfl

@[simp] theorem State.onAx_pending (s : State) (n : Nat) (f : Axis → Axis) : (s.onAx n f).pending = s.pending := rfl
@[simp] theorem State.onAx_fresh (s : State) (n : Nat) (f : Axis → Axis) : (s.onAx n f).fresh = s.fresh := rfl
@[simp] theorem State.onAx_dev (s : State) (n : Nat) (f : Axis → Axis) : (s.onAx n f).dev = s.dev := rfl
@[simp] theorem State.onAx_stitch (s : State) (n : Nat) (f : Axis → Axis) : (s.onAx n f).stitch = s.stitch := rfl
@[simp] theorem State.onAx_ports (s : State) (n : Nat) (f : Axis → Axis) : (s.onAx n f).ports = s.ports := rfl
@[simp] theorem State.onAx_ev (s : State) (n : Nat) (f : Axis → Axis) : (s.onAx n f).ev = s.ev := rfl
@[simp] theorem State.onAx_tbl (s : State) (n : Nat) (f : Axis → Axis) : (s.onAx n f).tbl = s.tbl := rfl
@[simp] theorem State.onAx_lanes (s : State) (n : Nat) (f : Axis → Axis) : (s.onAx n f).lanes = s.lanes := rfl
@[simp] theorem State.onAx_jobs (s : State) (n : Nat) (f : Axis → Axis) : (s.onAx n f).jobs = s.jobs := rfl
@[simp] theorem State.onAx_welt (s : State) (n : Nat) (f : Axis → Axis) : (s.onAx n f).welt = s.welt := rfl
@[simp] theorem State.onAx_assets (s : State) (n : Nat) (f : Axis → Axis) : (s.onAx n f).assets = s.assets := rfl
@[simp] theorem State.onAx_heads (s : State) (n : Nat) (f : Axis → Axis) : (s.onAx n f).heads = s.heads := rfl
@[simp] theorem State.onAx_axes (s : State) (n : Nat) (f : Axis → Axis) : (s.onAx n f).axes = upd s.axes n f := rfl
@[simp] theorem State.onAx_encs (s : State) (n : Nat) (f : Axis → Axis) : (s.onAx n f).encs = s.encs := rfl
@[simp] theorem State.onAx_ssis (s : State) (n : Nat) (f : Axis → Axis) : (s.onAx n f).ssis = s.ssis := rfl
@[simp] theorem State.onAx_cnts (s : State) (n : Nat) (f : Axis → Axis) : (s.onAx n f).cnts = s.cnts := rfl
@[simp] theorem State.onAx_prbs (s : State) (n : Nat) (f : Axis → Axis) : (s.onAx n f).prbs = s.prbs := rfl
@[simp] theorem State.onAx_chans (s : State) (n : Nat) (f : Axis → Axis) : (s.onAx n f).chans = s.chans := rfl
@[simp] theorem State.onAx_shank (s : State) (n : Nat) (f : Axis → Axis) : (s.onAx n f).shank = s.shank := rfl
@[simp] theorem State.onAx_power (s : State) (n : Nat) (f : Axis → Axis) : (s.onAx n f).power = s.power := rfl
@[simp] theorem State.onAx_mss (s : State) (n : Nat) (f : Axis → Axis) : (s.onAx n f).mss = s.mss := rfl
@[simp] theorem State.onAx_snss (s : State) (n : Nat) (f : Axis → Axis) : (s.onAx n f).snss = s.snss := rfl
@[simp] theorem State.onAx_sup (s : State) (n : Nat) (f : Axis → Axis) : (s.onAx n f).sup = s.sup := rfl
@[simp] theorem State.onAx_flash (s : State) (n : Nat) (f : Axis → Axis) : (s.onAx n f).flash = s.flash := rfl
@[simp] theorem State.onAx_uarts (s : State) (n : Nat) (f : Axis → Axis) : (s.onAx n f).uarts = s.uarts := rfl
@[simp] theorem State.onAx_sec (s : State) (n : Nat) (f : Axis → Axis) : (s.onAx n f).sec = s.sec := rfl

@[simp] theorem State.onEnc_pending (s : State) (n : Nat) (f : Enc → Enc) : (s.onEnc n f).pending = s.pending := rfl
@[simp] theorem State.onEnc_fresh (s : State) (n : Nat) (f : Enc → Enc) : (s.onEnc n f).fresh = s.fresh := rfl
@[simp] theorem State.onEnc_dev (s : State) (n : Nat) (f : Enc → Enc) : (s.onEnc n f).dev = s.dev := rfl
@[simp] theorem State.onEnc_stitch (s : State) (n : Nat) (f : Enc → Enc) : (s.onEnc n f).stitch = s.stitch := rfl
@[simp] theorem State.onEnc_ports (s : State) (n : Nat) (f : Enc → Enc) : (s.onEnc n f).ports = s.ports := rfl
@[simp] theorem State.onEnc_ev (s : State) (n : Nat) (f : Enc → Enc) : (s.onEnc n f).ev = s.ev := rfl
@[simp] theorem State.onEnc_tbl (s : State) (n : Nat) (f : Enc → Enc) : (s.onEnc n f).tbl = s.tbl := rfl
@[simp] theorem State.onEnc_lanes (s : State) (n : Nat) (f : Enc → Enc) : (s.onEnc n f).lanes = s.lanes := rfl
@[simp] theorem State.onEnc_jobs (s : State) (n : Nat) (f : Enc → Enc) : (s.onEnc n f).jobs = s.jobs := rfl
@[simp] theorem State.onEnc_welt (s : State) (n : Nat) (f : Enc → Enc) : (s.onEnc n f).welt = s.welt := rfl
@[simp] theorem State.onEnc_assets (s : State) (n : Nat) (f : Enc → Enc) : (s.onEnc n f).assets = s.assets := rfl
@[simp] theorem State.onEnc_heads (s : State) (n : Nat) (f : Enc → Enc) : (s.onEnc n f).heads = s.heads := rfl
@[simp] theorem State.onEnc_axes (s : State) (n : Nat) (f : Enc → Enc) : (s.onEnc n f).axes = s.axes := rfl
@[simp] theorem State.onEnc_encs (s : State) (n : Nat) (f : Enc → Enc) : (s.onEnc n f).encs = upd s.encs n f := rfl
@[simp] theorem State.onEnc_ssis (s : State) (n : Nat) (f : Enc → Enc) : (s.onEnc n f).ssis = s.ssis := rfl
@[simp] theorem State.onEnc_cnts (s : State) (n : Nat) (f : Enc → Enc) : (s.onEnc n f).cnts = s.cnts := rfl
@[simp] theorem State.onEnc_prbs (s : State) (n : Nat) (f : Enc → Enc) : (s.onEnc n f).prbs = s.prbs := rfl
@[simp] theorem State.onEnc_chans (s : State) (n : Nat) (f : Enc → Enc) : (s.onEnc n f).chans = s.chans := rfl
@[simp] theorem State.onEnc_shank (s : State) (n : Nat) (f : Enc → Enc) : (s.onEnc n f).shank = s.shank := rfl
@[simp] theorem State.onEnc_power (s : State) (n : Nat) (f : Enc → Enc) : (s.onEnc n f).power = s.power := rfl
@[simp] theorem State.onEnc_mss (s : State) (n : Nat) (f : Enc → Enc) : (s.onEnc n f).mss = s.mss := rfl
@[simp] theorem State.onEnc_snss (s : State) (n : Nat) (f : Enc → Enc) : (s.onEnc n f).snss = s.snss := rfl
@[simp] theorem State.onEnc_sup (s : State) (n : Nat) (f : Enc → Enc) : (s.onEnc n f).sup = s.sup := rfl
@[simp] theorem State.onEnc_flash (s : State) (n : Nat) (f : Enc → Enc) : (s.onEnc n f).flash = s.flash := rfl
@[simp] theorem State.onEnc_uarts (s : State) (n : Nat) (f : Enc → Enc) : (s.onEnc n f).uarts = s.uarts := rfl
@[simp] theorem State.onEnc_sec (s : State) (n : Nat) (f : Enc → Enc) : (s.onEnc n f).sec = s.sec := rfl

@[simp] theorem State.onSsi_pending (s : State) (p : Nat) (f : Ssi → Ssi) : (s.onSsi p f).pending = s.pending := rfl
@[simp] theorem State.onSsi_fresh (s : State) (p : Nat) (f : Ssi → Ssi) : (s.onSsi p f).fresh = s.fresh := rfl
@[simp] theorem State.onSsi_dev (s : State) (p : Nat) (f : Ssi → Ssi) : (s.onSsi p f).dev = s.dev := rfl
@[simp] theorem State.onSsi_stitch (s : State) (p : Nat) (f : Ssi → Ssi) : (s.onSsi p f).stitch = s.stitch := rfl
@[simp] theorem State.onSsi_ports (s : State) (p : Nat) (f : Ssi → Ssi) : (s.onSsi p f).ports = s.ports := rfl
@[simp] theorem State.onSsi_ev (s : State) (p : Nat) (f : Ssi → Ssi) : (s.onSsi p f).ev = s.ev := rfl
@[simp] theorem State.onSsi_tbl (s : State) (p : Nat) (f : Ssi → Ssi) : (s.onSsi p f).tbl = s.tbl := rfl
@[simp] theorem State.onSsi_lanes (s : State) (p : Nat) (f : Ssi → Ssi) : (s.onSsi p f).lanes = s.lanes := rfl
@[simp] theorem State.onSsi_jobs (s : State) (p : Nat) (f : Ssi → Ssi) : (s.onSsi p f).jobs = s.jobs := rfl
@[simp] theorem State.onSsi_welt (s : State) (p : Nat) (f : Ssi → Ssi) : (s.onSsi p f).welt = s.welt := rfl
@[simp] theorem State.onSsi_assets (s : State) (p : Nat) (f : Ssi → Ssi) : (s.onSsi p f).assets = s.assets := rfl
@[simp] theorem State.onSsi_heads (s : State) (p : Nat) (f : Ssi → Ssi) : (s.onSsi p f).heads = s.heads := rfl
@[simp] theorem State.onSsi_axes (s : State) (p : Nat) (f : Ssi → Ssi) : (s.onSsi p f).axes = s.axes := rfl
@[simp] theorem State.onSsi_encs (s : State) (p : Nat) (f : Ssi → Ssi) : (s.onSsi p f).encs = s.encs := rfl
@[simp] theorem State.onSsi_ssis (s : State) (p : Nat) (f : Ssi → Ssi) : (s.onSsi p f).ssis = upd s.ssis p f := rfl
@[simp] theorem State.onSsi_cnts (s : State) (p : Nat) (f : Ssi → Ssi) : (s.onSsi p f).cnts = s.cnts := rfl
@[simp] theorem State.onSsi_prbs (s : State) (p : Nat) (f : Ssi → Ssi) : (s.onSsi p f).prbs = s.prbs := rfl
@[simp] theorem State.onSsi_chans (s : State) (p : Nat) (f : Ssi → Ssi) : (s.onSsi p f).chans = s.chans := rfl
@[simp] theorem State.onSsi_shank (s : State) (p : Nat) (f : Ssi → Ssi) : (s.onSsi p f).shank = s.shank := rfl
@[simp] theorem State.onSsi_power (s : State) (p : Nat) (f : Ssi → Ssi) : (s.onSsi p f).power = s.power := rfl
@[simp] theorem State.onSsi_mss (s : State) (p : Nat) (f : Ssi → Ssi) : (s.onSsi p f).mss = s.mss := rfl
@[simp] theorem State.onSsi_snss (s : State) (p : Nat) (f : Ssi → Ssi) : (s.onSsi p f).snss = s.snss := rfl
@[simp] theorem State.onSsi_sup (s : State) (p : Nat) (f : Ssi → Ssi) : (s.onSsi p f).sup = s.sup := rfl
@[simp] theorem State.onSsi_flash (s : State) (p : Nat) (f : Ssi → Ssi) : (s.onSsi p f).flash = s.flash := rfl
@[simp] theorem State.onSsi_uarts (s : State) (p : Nat) (f : Ssi → Ssi) : (s.onSsi p f).uarts = s.uarts := rfl
@[simp] theorem State.onSsi_sec (s : State) (p : Nat) (f : Ssi → Ssi) : (s.onSsi p f).sec = s.sec := rfl

@[simp] theorem State.onPrb_pending (s : State) (r : Nat) (f : Prb → Prb) : (s.onPrb r f).pending = s.pending := rfl
@[simp] theorem State.onPrb_fresh (s : State) (r : Nat) (f : Prb → Prb) : (s.onPrb r f).fresh = s.fresh := rfl
@[simp] theorem State.onPrb_dev (s : State) (r : Nat) (f : Prb → Prb) : (s.onPrb r f).dev = s.dev := rfl
@[simp] theorem State.onPrb_stitch (s : State) (r : Nat) (f : Prb → Prb) : (s.onPrb r f).stitch = s.stitch := rfl
@[simp] theorem State.onPrb_ports (s : State) (r : Nat) (f : Prb → Prb) : (s.onPrb r f).ports = s.ports := rfl
@[simp] theorem State.onPrb_ev (s : State) (r : Nat) (f : Prb → Prb) : (s.onPrb r f).ev = s.ev := rfl
@[simp] theorem State.onPrb_tbl (s : State) (r : Nat) (f : Prb → Prb) : (s.onPrb r f).tbl = s.tbl := rfl
@[simp] theorem State.onPrb_lanes (s : State) (r : Nat) (f : Prb → Prb) : (s.onPrb r f).lanes = s.lanes := rfl
@[simp] theorem State.onPrb_jobs (s : State) (r : Nat) (f : Prb → Prb) : (s.onPrb r f).jobs = s.jobs := rfl
@[simp] theorem State.onPrb_welt (s : State) (r : Nat) (f : Prb → Prb) : (s.onPrb r f).welt = s.welt := rfl
@[simp] theorem State.onPrb_assets (s : State) (r : Nat) (f : Prb → Prb) : (s.onPrb r f).assets = s.assets := rfl
@[simp] theorem State.onPrb_heads (s : State) (r : Nat) (f : Prb → Prb) : (s.onPrb r f).heads = s.heads := rfl
@[simp] theorem State.onPrb_axes (s : State) (r : Nat) (f : Prb → Prb) : (s.onPrb r f).axes = s.axes := rfl
@[simp] theorem State.onPrb_encs (s : State) (r : Nat) (f : Prb → Prb) : (s.onPrb r f).encs = s.encs := rfl
@[simp] theorem State.onPrb_ssis (s : State) (r : Nat) (f : Prb → Prb) : (s.onPrb r f).ssis = s.ssis := rfl
@[simp] theorem State.onPrb_cnts (s : State) (r : Nat) (f : Prb → Prb) : (s.onPrb r f).cnts = s.cnts := rfl
@[simp] theorem State.onPrb_prbs (s : State) (r : Nat) (f : Prb → Prb) : (s.onPrb r f).prbs = upd s.prbs r f := rfl
@[simp] theorem State.onPrb_chans (s : State) (r : Nat) (f : Prb → Prb) : (s.onPrb r f).chans = s.chans := rfl
@[simp] theorem State.onPrb_shank (s : State) (r : Nat) (f : Prb → Prb) : (s.onPrb r f).shank = s.shank := rfl
@[simp] theorem State.onPrb_power (s : State) (r : Nat) (f : Prb → Prb) : (s.onPrb r f).power = s.power := rfl
@[simp] theorem State.onPrb_mss (s : State) (r : Nat) (f : Prb → Prb) : (s.onPrb r f).mss = s.mss := rfl
@[simp] theorem State.onPrb_snss (s : State) (r : Nat) (f : Prb → Prb) : (s.onPrb r f).snss = s.snss := rfl
@[simp] theorem State.onPrb_sup (s : State) (r : Nat) (f : Prb → Prb) : (s.onPrb r f).sup = s.sup := rfl
@[simp] theorem State.onPrb_flash (s : State) (r : Nat) (f : Prb → Prb) : (s.onPrb r f).flash = s.flash := rfl
@[simp] theorem State.onPrb_uarts (s : State) (r : Nat) (f : Prb → Prb) : (s.onPrb r f).uarts = s.uarts := rfl
@[simp] theorem State.onPrb_sec (s : State) (r : Nat) (f : Prb → Prb) : (s.onPrb r f).sec = s.sec := rfl

@[simp] theorem State.onChan_pending (s : State) (c : Nat) (f : Chan → Chan) : (s.onChan c f).pending = s.pending := rfl
@[simp] theorem State.onChan_fresh (s : State) (c : Nat) (f : Chan → Chan) : (s.onChan c f).fresh = s.fresh := rfl
@[simp] theorem State.onChan_dev (s : State) (c : Nat) (f : Chan → Chan) : (s.onChan c f).dev = s.dev := rfl
@[simp] theorem State.onChan_stitch (s : State) (c : Nat) (f : Chan → Chan) : (s.onChan c f).stitch = s.stitch := rfl
@[simp] theorem State.onChan_ports (s : State) (c : Nat) (f : Chan → Chan) : (s.onChan c f).ports = s.ports := rfl
@[simp] theorem State.onChan_ev (s : State) (c : Nat) (f : Chan → Chan) : (s.onChan c f).ev = s.ev := rfl
@[simp] theorem State.onChan_tbl (s : State) (c : Nat) (f : Chan → Chan) : (s.onChan c f).tbl = s.tbl := rfl
@[simp] theorem State.onChan_lanes (s : State) (c : Nat) (f : Chan → Chan) : (s.onChan c f).lanes = s.lanes := rfl
@[simp] theorem State.onChan_jobs (s : State) (c : Nat) (f : Chan → Chan) : (s.onChan c f).jobs = s.jobs := rfl
@[simp] theorem State.onChan_welt (s : State) (c : Nat) (f : Chan → Chan) : (s.onChan c f).welt = s.welt := rfl
@[simp] theorem State.onChan_assets (s : State) (c : Nat) (f : Chan → Chan) : (s.onChan c f).assets = s.assets := rfl
@[simp] theorem State.onChan_heads (s : State) (c : Nat) (f : Chan → Chan) : (s.onChan c f).heads = s.heads := rfl
@[simp] theorem State.onChan_axes (s : State) (c : Nat) (f : Chan → Chan) : (s.onChan c f).axes = s.axes := rfl
@[simp] theorem State.onChan_encs (s : State) (c : Nat) (f : Chan → Chan) : (s.onChan c f).encs = s.encs := rfl
@[simp] theorem State.onChan_ssis (s : State) (c : Nat) (f : Chan → Chan) : (s.onChan c f).ssis = s.ssis := rfl
@[simp] theorem State.onChan_cnts (s : State) (c : Nat) (f : Chan → Chan) : (s.onChan c f).cnts = s.cnts := rfl
@[simp] theorem State.onChan_prbs (s : State) (c : Nat) (f : Chan → Chan) : (s.onChan c f).prbs = s.prbs := rfl
@[simp] theorem State.onChan_chans (s : State) (c : Nat) (f : Chan → Chan) : (s.onChan c f).chans = upd s.chans c f := rfl
@[simp] theorem State.onChan_shank (s : State) (c : Nat) (f : Chan → Chan) : (s.onChan c f).shank = s.shank := rfl
@[simp] theorem State.onChan_power (s : State) (c : Nat) (f : Chan → Chan) : (s.onChan c f).power = s.power := rfl
@[simp] theorem State.onChan_mss (s : State) (c : Nat) (f : Chan → Chan) : (s.onChan c f).mss = s.mss := rfl
@[simp] theorem State.onChan_snss (s : State) (c : Nat) (f : Chan → Chan) : (s.onChan c f).snss = s.snss := rfl
@[simp] theorem State.onChan_sup (s : State) (c : Nat) (f : Chan → Chan) : (s.onChan c f).sup = s.sup := rfl
@[simp] theorem State.onChan_flash (s : State) (c : Nat) (f : Chan → Chan) : (s.onChan c f).flash = s.flash := rfl
@[simp] theorem State.onChan_uarts (s : State) (c : Nat) (f : Chan → Chan) : (s.onChan c f).uarts = s.uarts := rfl
@[simp] theorem State.onChan_sec (s : State) (c : Nat) (f : Chan → Chan) : (s.onChan c f).sec = s.sec := rfl

@[simp] theorem State.onShank_pending (s : State) (f : Shank → Shank) : (s.onShank f).pending = s.pending := rfl
@[simp] theorem State.onShank_fresh (s : State) (f : Shank → Shank) : (s.onShank f).fresh = s.fresh := rfl
@[simp] theorem State.onShank_dev (s : State) (f : Shank → Shank) : (s.onShank f).dev = s.dev := rfl
@[simp] theorem State.onShank_stitch (s : State) (f : Shank → Shank) : (s.onShank f).stitch = s.stitch := rfl
@[simp] theorem State.onShank_ports (s : State) (f : Shank → Shank) : (s.onShank f).ports = s.ports := rfl
@[simp] theorem State.onShank_ev (s : State) (f : Shank → Shank) : (s.onShank f).ev = s.ev := rfl
@[simp] theorem State.onShank_tbl (s : State) (f : Shank → Shank) : (s.onShank f).tbl = s.tbl := rfl
@[simp] theorem State.onShank_lanes (s : State) (f : Shank → Shank) : (s.onShank f).lanes = s.lanes := rfl
@[simp] theorem State.onShank_jobs (s : State) (f : Shank → Shank) : (s.onShank f).jobs = s.jobs := rfl
@[simp] theorem State.onShank_welt (s : State) (f : Shank → Shank) : (s.onShank f).welt = s.welt := rfl
@[simp] theorem State.onShank_assets (s : State) (f : Shank → Shank) : (s.onShank f).assets = s.assets := rfl
@[simp] theorem State.onShank_heads (s : State) (f : Shank → Shank) : (s.onShank f).heads = s.heads := rfl
@[simp] theorem State.onShank_axes (s : State) (f : Shank → Shank) : (s.onShank f).axes = s.axes := rfl
@[simp] theorem State.onShank_encs (s : State) (f : Shank → Shank) : (s.onShank f).encs = s.encs := rfl
@[simp] theorem State.onShank_ssis (s : State) (f : Shank → Shank) : (s.onShank f).ssis = s.ssis := rfl
@[simp] theorem State.onShank_cnts (s : State) (f : Shank → Shank) : (s.onShank f).cnts = s.cnts := rfl
@[simp] theorem State.onShank_prbs (s : State) (f : Shank → Shank) : (s.onShank f).prbs = s.prbs := rfl
@[simp] theorem State.onShank_chans (s : State) (f : Shank → Shank) : (s.onShank f).chans = s.chans := rfl
@[simp] theorem State.onShank_shank (s : State) (f : Shank → Shank) : (s.onShank f).shank = f s.shank := rfl
@[simp] theorem State.onShank_power (s : State) (f : Shank → Shank) : (s.onShank f).power = s.power := rfl
@[simp] theorem State.onShank_mss (s : State) (f : Shank → Shank) : (s.onShank f).mss = s.mss := rfl
@[simp] theorem State.onShank_snss (s : State) (f : Shank → Shank) : (s.onShank f).snss = s.snss := rfl
@[simp] theorem State.onShank_sup (s : State) (f : Shank → Shank) : (s.onShank f).sup = s.sup := rfl
@[simp] theorem State.onShank_flash (s : State) (f : Shank → Shank) : (s.onShank f).flash = s.flash := rfl
@[simp] theorem State.onShank_uarts (s : State) (f : Shank → Shank) : (s.onShank f).uarts = s.uarts := rfl
@[simp] theorem State.onShank_sec (s : State) (f : Shank → Shank) : (s.onShank f).sec = s.sec := rfl

@[simp] theorem State.onGrp_pending (s : State) (g : Nat) (f : Group → Group) : (s.onGrp g f).pending = s.pending := rfl
@[simp] theorem State.onGrp_fresh (s : State) (g : Nat) (f : Group → Group) : (s.onGrp g f).fresh = s.fresh := rfl
@[simp] theorem State.onGrp_dev (s : State) (g : Nat) (f : Group → Group) : (s.onGrp g f).dev = s.dev := rfl
@[simp] theorem State.onGrp_stitch (s : State) (g : Nat) (f : Group → Group) : (s.onGrp g f).stitch = s.stitch := rfl
@[simp] theorem State.onGrp_ports (s : State) (g : Nat) (f : Group → Group) : (s.onGrp g f).ports = s.ports := rfl
@[simp] theorem State.onGrp_ev (s : State) (g : Nat) (f : Group → Group) : (s.onGrp g f).ev = s.ev := rfl
@[simp] theorem State.onGrp_tbl (s : State) (g : Nat) (f : Group → Group) : (s.onGrp g f).tbl = s.tbl := rfl
@[simp] theorem State.onGrp_lanes (s : State) (g : Nat) (f : Group → Group) : (s.onGrp g f).lanes = s.lanes := rfl
@[simp] theorem State.onGrp_jobs (s : State) (g : Nat) (f : Group → Group) : (s.onGrp g f).jobs = s.jobs := rfl
@[simp] theorem State.onGrp_welt (s : State) (g : Nat) (f : Group → Group) : (s.onGrp g f).welt = s.welt := rfl
@[simp] theorem State.onGrp_assets (s : State) (g : Nat) (f : Group → Group) : (s.onGrp g f).assets = s.assets := rfl
@[simp] theorem State.onGrp_heads (s : State) (g : Nat) (f : Group → Group) : (s.onGrp g f).heads = s.heads := rfl
@[simp] theorem State.onGrp_axes (s : State) (g : Nat) (f : Group → Group) : (s.onGrp g f).axes = s.axes := rfl
@[simp] theorem State.onGrp_encs (s : State) (g : Nat) (f : Group → Group) : (s.onGrp g f).encs = s.encs := rfl
@[simp] theorem State.onGrp_ssis (s : State) (g : Nat) (f : Group → Group) : (s.onGrp g f).ssis = s.ssis := rfl
@[simp] theorem State.onGrp_cnts (s : State) (g : Nat) (f : Group → Group) : (s.onGrp g f).cnts = s.cnts := rfl
@[simp] theorem State.onGrp_prbs (s : State) (g : Nat) (f : Group → Group) : (s.onGrp g f).prbs = s.prbs := rfl
@[simp] theorem State.onGrp_chans (s : State) (g : Nat) (f : Group → Group) : (s.onGrp g f).chans = s.chans := rfl
@[simp] theorem State.onGrp_shank (s : State) (g : Nat) (f : Group → Group) : (s.onGrp g f).shank = { s.shank with groups := upd s.shank.groups g f } := rfl
@[simp] theorem State.onGrp_power (s : State) (g : Nat) (f : Group → Group) : (s.onGrp g f).power = s.power := rfl
@[simp] theorem State.onGrp_mss (s : State) (g : Nat) (f : Group → Group) : (s.onGrp g f).mss = s.mss := rfl
@[simp] theorem State.onGrp_snss (s : State) (g : Nat) (f : Group → Group) : (s.onGrp g f).snss = s.snss := rfl
@[simp] theorem State.onGrp_sup (s : State) (g : Nat) (f : Group → Group) : (s.onGrp g f).sup = s.sup := rfl
@[simp] theorem State.onGrp_flash (s : State) (g : Nat) (f : Group → Group) : (s.onGrp g f).flash = s.flash := rfl
@[simp] theorem State.onGrp_uarts (s : State) (g : Nat) (f : Group → Group) : (s.onGrp g f).uarts = s.uarts := rfl
@[simp] theorem State.onGrp_sec (s : State) (g : Nat) (f : Group → Group) : (s.onGrp g f).sec = s.sec := rfl

@[simp] theorem State.onDom_pending (s : State) (d : Nat) (f : Domain → Domain) : (s.onDom d f).pending = s.pending := rfl
@[simp] theorem State.onDom_fresh (s : State) (d : Nat) (f : Domain → Domain) : (s.onDom d f).fresh = s.fresh := rfl
@[simp] theorem State.onDom_dev (s : State) (d : Nat) (f : Domain → Domain) : (s.onDom d f).dev = s.dev := rfl
@[simp] theorem State.onDom_stitch (s : State) (d : Nat) (f : Domain → Domain) : (s.onDom d f).stitch = s.stitch := rfl
@[simp] theorem State.onDom_ports (s : State) (d : Nat) (f : Domain → Domain) : (s.onDom d f).ports = s.ports := rfl
@[simp] theorem State.onDom_ev (s : State) (d : Nat) (f : Domain → Domain) : (s.onDom d f).ev = s.ev := rfl
@[simp] theorem State.onDom_tbl (s : State) (d : Nat) (f : Domain → Domain) : (s.onDom d f).tbl = s.tbl := rfl
@[simp] theorem State.onDom_lanes (s : State) (d : Nat) (f : Domain → Domain) : (s.onDom d f).lanes = s.lanes := rfl
@[simp] theorem State.onDom_jobs (s : State) (d : Nat) (f : Domain → Domain) : (s.onDom d f).jobs = s.jobs := rfl
@[simp] theorem State.onDom_welt (s : State) (d : Nat) (f : Domain → Domain) : (s.onDom d f).welt = s.welt := rfl
@[simp] theorem State.onDom_assets (s : State) (d : Nat) (f : Domain → Domain) : (s.onDom d f).assets = s.assets := rfl
@[simp] theorem State.onDom_heads (s : State) (d : Nat) (f : Domain → Domain) : (s.onDom d f).heads = s.heads := rfl
@[simp] theorem State.onDom_axes (s : State) (d : Nat) (f : Domain → Domain) : (s.onDom d f).axes = s.axes := rfl
@[simp] theorem State.onDom_encs (s : State) (d : Nat) (f : Domain → Domain) : (s.onDom d f).encs = s.encs := rfl
@[simp] theorem State.onDom_ssis (s : State) (d : Nat) (f : Domain → Domain) : (s.onDom d f).ssis = s.ssis := rfl
@[simp] theorem State.onDom_cnts (s : State) (d : Nat) (f : Domain → Domain) : (s.onDom d f).cnts = s.cnts := rfl
@[simp] theorem State.onDom_prbs (s : State) (d : Nat) (f : Domain → Domain) : (s.onDom d f).prbs = s.prbs := rfl
@[simp] theorem State.onDom_chans (s : State) (d : Nat) (f : Domain → Domain) : (s.onDom d f).chans = s.chans := rfl
@[simp] theorem State.onDom_shank (s : State) (d : Nat) (f : Domain → Domain) : (s.onDom d f).shank = s.shank := rfl
@[simp] theorem State.onDom_power (s : State) (d : Nat) (f : Domain → Domain) : (s.onDom d f).power = { s.power with doms := upd s.power.doms d f } := rfl
@[simp] theorem State.onDom_mss (s : State) (d : Nat) (f : Domain → Domain) : (s.onDom d f).mss = s.mss := rfl
@[simp] theorem State.onDom_snss (s : State) (d : Nat) (f : Domain → Domain) : (s.onDom d f).snss = s.snss := rfl
@[simp] theorem State.onDom_sup (s : State) (d : Nat) (f : Domain → Domain) : (s.onDom d f).sup = s.sup := rfl
@[simp] theorem State.onDom_flash (s : State) (d : Nat) (f : Domain → Domain) : (s.onDom d f).flash = s.flash := rfl
@[simp] theorem State.onDom_uarts (s : State) (d : Nat) (f : Domain → Domain) : (s.onDom d f).uarts = s.uarts := rfl
@[simp] theorem State.onDom_sec (s : State) (d : Nat) (f : Domain → Domain) : (s.onDom d f).sec = s.sec := rfl

@[simp] theorem State.onMs_pending (s : State) (n : Nat) (f : Ms → Ms) : (s.onMs n f).pending = s.pending := rfl
@[simp] theorem State.onMs_fresh (s : State) (n : Nat) (f : Ms → Ms) : (s.onMs n f).fresh = s.fresh := rfl
@[simp] theorem State.onMs_dev (s : State) (n : Nat) (f : Ms → Ms) : (s.onMs n f).dev = s.dev := rfl
@[simp] theorem State.onMs_stitch (s : State) (n : Nat) (f : Ms → Ms) : (s.onMs n f).stitch = s.stitch := rfl
@[simp] theorem State.onMs_ports (s : State) (n : Nat) (f : Ms → Ms) : (s.onMs n f).ports = s.ports := rfl
@[simp] theorem State.onMs_ev (s : State) (n : Nat) (f : Ms → Ms) : (s.onMs n f).ev = s.ev := rfl
@[simp] theorem State.onMs_tbl (s : State) (n : Nat) (f : Ms → Ms) : (s.onMs n f).tbl = s.tbl := rfl
@[simp] theorem State.onMs_lanes (s : State) (n : Nat) (f : Ms → Ms) : (s.onMs n f).lanes = s.lanes := rfl
@[simp] theorem State.onMs_jobs (s : State) (n : Nat) (f : Ms → Ms) : (s.onMs n f).jobs = s.jobs := rfl
@[simp] theorem State.onMs_welt (s : State) (n : Nat) (f : Ms → Ms) : (s.onMs n f).welt = s.welt := rfl
@[simp] theorem State.onMs_assets (s : State) (n : Nat) (f : Ms → Ms) : (s.onMs n f).assets = s.assets := rfl
@[simp] theorem State.onMs_heads (s : State) (n : Nat) (f : Ms → Ms) : (s.onMs n f).heads = s.heads := rfl
@[simp] theorem State.onMs_axes (s : State) (n : Nat) (f : Ms → Ms) : (s.onMs n f).axes = s.axes := rfl
@[simp] theorem State.onMs_encs (s : State) (n : Nat) (f : Ms → Ms) : (s.onMs n f).encs = s.encs := rfl
@[simp] theorem State.onMs_ssis (s : State) (n : Nat) (f : Ms → Ms) : (s.onMs n f).ssis = s.ssis := rfl
@[simp] theorem State.onMs_cnts (s : State) (n : Nat) (f : Ms → Ms) : (s.onMs n f).cnts = s.cnts := rfl
@[simp] theorem State.onMs_prbs (s : State) (n : Nat) (f : Ms → Ms) : (s.onMs n f).prbs = s.prbs := rfl
@[simp] theorem State.onMs_chans (s : State) (n : Nat) (f : Ms → Ms) : (s.onMs n f).chans = s.chans := rfl
@[simp] theorem State.onMs_shank (s : State) (n : Nat) (f : Ms → Ms) : (s.onMs n f).shank = s.shank := rfl
@[simp] theorem State.onMs_power (s : State) (n : Nat) (f : Ms → Ms) : (s.onMs n f).power = s.power := rfl
@[simp] theorem State.onMs_mss (s : State) (n : Nat) (f : Ms → Ms) : (s.onMs n f).mss = upd s.mss n f := rfl
@[simp] theorem State.onMs_snss (s : State) (n : Nat) (f : Ms → Ms) : (s.onMs n f).snss = s.snss := rfl
@[simp] theorem State.onMs_sup (s : State) (n : Nat) (f : Ms → Ms) : (s.onMs n f).sup = s.sup := rfl
@[simp] theorem State.onMs_flash (s : State) (n : Nat) (f : Ms → Ms) : (s.onMs n f).flash = s.flash := rfl
@[simp] theorem State.onMs_uarts (s : State) (n : Nat) (f : Ms → Ms) : (s.onMs n f).uarts = s.uarts := rfl
@[simp] theorem State.onMs_sec (s : State) (n : Nat) (f : Ms → Ms) : (s.onMs n f).sec = s.sec := rfl

@[simp] theorem State.onSns_pending (s : State) (n : Nat) (f : Sns → Sns) : (s.onSns n f).pending = s.pending := rfl
@[simp] theorem State.onSns_fresh (s : State) (n : Nat) (f : Sns → Sns) : (s.onSns n f).fresh = s.fresh := rfl
@[simp] theorem State.onSns_dev (s : State) (n : Nat) (f : Sns → Sns) : (s.onSns n f).dev = s.dev := rfl
@[simp] theorem State.onSns_stitch (s : State) (n : Nat) (f : Sns → Sns) : (s.onSns n f).stitch = s.stitch := rfl
@[simp] theorem State.onSns_ports (s : State) (n : Nat) (f : Sns → Sns) : (s.onSns n f).ports = s.ports := rfl
@[simp] theorem State.onSns_ev (s : State) (n : Nat) (f : Sns → Sns) : (s.onSns n f).ev = s.ev := rfl
@[simp] theorem State.onSns_tbl (s : State) (n : Nat) (f : Sns → Sns) : (s.onSns n f).tbl = s.tbl := rfl
@[simp] theorem State.onSns_lanes (s : State) (n : Nat) (f : Sns → Sns) : (s.onSns n f).lanes = s.lanes := rfl
@[simp] theorem State.onSns_jobs (s : State) (n : Nat) (f : Sns → Sns) : (s.onSns n f).jobs = s.jobs := rfl
@[simp] theorem State.onSns_welt (s : State) (n : Nat) (f : Sns → Sns) : (s.onSns n f).welt = s.welt := rfl
@[simp] theorem State.onSns_assets (s : State) (n : Nat) (f : Sns → Sns) : (s.onSns n f).assets = s.assets := rfl
@[simp] theorem State.onSns_heads (s : State) (n : Nat) (f : Sns → Sns) : (s.onSns n f).heads = s.heads := rfl
@[simp] theorem State.onSns_axes (s : State) (n : Nat) (f : Sns → Sns) : (s.onSns n f).axes = s.axes := rfl
@[simp] theorem State.onSns_encs (s : State) (n : Nat) (f : Sns → Sns) : (s.onSns n f).encs = s.encs := rfl
@[simp] theorem State.onSns_ssis (s : State) (n : Nat) (f : Sns → Sns) : (s.onSns n f).ssis = s.ssis := rfl
@[simp] theorem State.onSns_cnts (s : State) (n : Nat) (f : Sns → Sns) : (s.onSns n f).cnts = s.cnts := rfl
@[simp] theorem State.onSns_prbs (s : State) (n : Nat) (f : Sns → Sns) : (s.onSns n f).prbs = s.prbs := rfl
@[simp] theorem State.onSns_chans (s : State) (n : Nat) (f : Sns → Sns) : (s.onSns n f).chans = s.chans := rfl
@[simp] theorem State.onSns_shank (s : State) (n : Nat) (f : Sns → Sns) : (s.onSns n f).shank = s.shank := rfl
@[simp] theorem State.onSns_power (s : State) (n : Nat) (f : Sns → Sns) : (s.onSns n f).power = s.power := rfl
@[simp] theorem State.onSns_mss (s : State) (n : Nat) (f : Sns → Sns) : (s.onSns n f).mss = s.mss := rfl
@[simp] theorem State.onSns_snss (s : State) (n : Nat) (f : Sns → Sns) : (s.onSns n f).snss = upd s.snss n f := rfl
@[simp] theorem State.onSns_sup (s : State) (n : Nat) (f : Sns → Sns) : (s.onSns n f).sup = s.sup := rfl
@[simp] theorem State.onSns_flash (s : State) (n : Nat) (f : Sns → Sns) : (s.onSns n f).flash = s.flash := rfl
@[simp] theorem State.onSns_uarts (s : State) (n : Nat) (f : Sns → Sns) : (s.onSns n f).uarts = s.uarts := rfl
@[simp] theorem State.onSns_sec (s : State) (n : Nat) (f : Sns → Sns) : (s.onSns n f).sec = s.sec := rfl

@[simp] theorem State.onSup_pending (s : State) (f : Supply → Supply) : (s.onSup f).pending = s.pending := rfl
@[simp] theorem State.onSup_fresh (s : State) (f : Supply → Supply) : (s.onSup f).fresh = s.fresh := rfl
@[simp] theorem State.onSup_dev (s : State) (f : Supply → Supply) : (s.onSup f).dev = s.dev := rfl
@[simp] theorem State.onSup_stitch (s : State) (f : Supply → Supply) : (s.onSup f).stitch = s.stitch := rfl
@[simp] theorem State.onSup_ports (s : State) (f : Supply → Supply) : (s.onSup f).ports = s.ports := rfl
@[simp] theorem State.onSup_ev (s : State) (f : Supply → Supply) : (s.onSup f).ev = s.ev := rfl
@[simp] theorem State.onSup_tbl (s : State) (f : Supply → Supply) : (s.onSup f).tbl = s.tbl := rfl
@[simp] theorem State.onSup_lanes (s : State) (f : Supply → Supply) : (s.onSup f).lanes = s.lanes := rfl
@[simp] theorem State.onSup_jobs (s : State) (f : Supply → Supply) : (s.onSup f).jobs = s.jobs := rfl
@[simp] theorem State.onSup_welt (s : State) (f : Supply → Supply) : (s.onSup f).welt = s.welt := rfl
@[simp] theorem State.onSup_assets (s : State) (f : Supply → Supply) : (s.onSup f).assets = s.assets := rfl
@[simp] theorem State.onSup_heads (s : State) (f : Supply → Supply) : (s.onSup f).heads = s.heads := rfl
@[simp] theorem State.onSup_axes (s : State) (f : Supply → Supply) : (s.onSup f).axes = s.axes := rfl
@[simp] theorem State.onSup_encs (s : State) (f : Supply → Supply) : (s.onSup f).encs = s.encs := rfl
@[simp] theorem State.onSup_ssis (s : State) (f : Supply → Supply) : (s.onSup f).ssis = s.ssis := rfl
@[simp] theorem State.onSup_cnts (s : State) (f : Supply → Supply) : (s.onSup f).cnts = s.cnts := rfl
@[simp] theorem State.onSup_prbs (s : State) (f : Supply → Supply) : (s.onSup f).prbs = s.prbs := rfl
@[simp] theorem State.onSup_chans (s : State) (f : Supply → Supply) : (s.onSup f).chans = s.chans := rfl
@[simp] theorem State.onSup_shank (s : State) (f : Supply → Supply) : (s.onSup f).shank = s.shank := rfl
@[simp] theorem State.onSup_power (s : State) (f : Supply → Supply) : (s.onSup f).power = s.power := rfl
@[simp] theorem State.onSup_mss (s : State) (f : Supply → Supply) : (s.onSup f).mss = s.mss := rfl
@[simp] theorem State.onSup_snss (s : State) (f : Supply → Supply) : (s.onSup f).snss = s.snss := rfl
@[simp] theorem State.onSup_sup (s : State) (f : Supply → Supply) : (s.onSup f).sup = f s.sup := rfl
@[simp] theorem State.onSup_flash (s : State) (f : Supply → Supply) : (s.onSup f).flash = s.flash := rfl
@[simp] theorem State.onSup_uarts (s : State) (f : Supply → Supply) : (s.onSup f).uarts = s.uarts := rfl
@[simp] theorem State.onSup_sec (s : State) (f : Supply → Supply) : (s.onSup f).sec = s.sec := rfl

@[simp] theorem State.onTin_pending (s : State) (i : Nat) (f : TempIn → TempIn) : (s.onTin i f).pending = s.pending := rfl
@[simp] theorem State.onTin_fresh (s : State) (i : Nat) (f : TempIn → TempIn) : (s.onTin i f).fresh = s.fresh := rfl
@[simp] theorem State.onTin_dev (s : State) (i : Nat) (f : TempIn → TempIn) : (s.onTin i f).dev = s.dev := rfl
@[simp] theorem State.onTin_stitch (s : State) (i : Nat) (f : TempIn → TempIn) : (s.onTin i f).stitch = s.stitch := rfl
@[simp] theorem State.onTin_ports (s : State) (i : Nat) (f : TempIn → TempIn) : (s.onTin i f).ports = s.ports := rfl
@[simp] theorem State.onTin_ev (s : State) (i : Nat) (f : TempIn → TempIn) : (s.onTin i f).ev = s.ev := rfl
@[simp] theorem State.onTin_tbl (s : State) (i : Nat) (f : TempIn → TempIn) : (s.onTin i f).tbl = s.tbl := rfl
@[simp] theorem State.onTin_lanes (s : State) (i : Nat) (f : TempIn → TempIn) : (s.onTin i f).lanes = s.lanes := rfl
@[simp] theorem State.onTin_jobs (s : State) (i : Nat) (f : TempIn → TempIn) : (s.onTin i f).jobs = s.jobs := rfl
@[simp] theorem State.onTin_welt (s : State) (i : Nat) (f : TempIn → TempIn) : (s.onTin i f).welt = s.welt := rfl
@[simp] theorem State.onTin_assets (s : State) (i : Nat) (f : TempIn → TempIn) : (s.onTin i f).assets = s.assets := rfl
@[simp] theorem State.onTin_heads (s : State) (i : Nat) (f : TempIn → TempIn) : (s.onTin i f).heads = s.heads := rfl
@[simp] theorem State.onTin_axes (s : State) (i : Nat) (f : TempIn → TempIn) : (s.onTin i f).axes = s.axes := rfl
@[simp] theorem State.onTin_encs (s : State) (i : Nat) (f : TempIn → TempIn) : (s.onTin i f).encs = s.encs := rfl
@[simp] theorem State.onTin_ssis (s : State) (i : Nat) (f : TempIn → TempIn) : (s.onTin i f).ssis = s.ssis := rfl
@[simp] theorem State.onTin_cnts (s : State) (i : Nat) (f : TempIn → TempIn) : (s.onTin i f).cnts = s.cnts := rfl
@[simp] theorem State.onTin_prbs (s : State) (i : Nat) (f : TempIn → TempIn) : (s.onTin i f).prbs = s.prbs := rfl
@[simp] theorem State.onTin_chans (s : State) (i : Nat) (f : TempIn → TempIn) : (s.onTin i f).chans = s.chans := rfl
@[simp] theorem State.onTin_shank (s : State) (i : Nat) (f : TempIn → TempIn) : (s.onTin i f).shank = s.shank := rfl
@[simp] theorem State.onTin_power (s : State) (i : Nat) (f : TempIn → TempIn) : (s.onTin i f).power = s.power := rfl
@[simp] theorem State.onTin_mss (s : State) (i : Nat) (f : TempIn → TempIn) : (s.onTin i f).mss = s.mss := rfl
@[simp] theorem State.onTin_snss (s : State) (i : Nat) (f : TempIn → TempIn) : (s.onTin i f).snss = s.snss := rfl
@[simp] theorem State.onTin_sup (s : State) (i : Nat) (f : TempIn → TempIn) : (s.onTin i f).sup = { s.sup with ins := upd s.sup.ins i f } := rfl
@[simp] theorem State.onTin_flash (s : State) (i : Nat) (f : TempIn → TempIn) : (s.onTin i f).flash = s.flash := rfl
@[simp] theorem State.onTin_uarts (s : State) (i : Nat) (f : TempIn → TempIn) : (s.onTin i f).uarts = s.uarts := rfl
@[simp] theorem State.onTin_sec (s : State) (i : Nat) (f : TempIn → TempIn) : (s.onTin i f).sec = s.sec := rfl

@[simp] theorem State.onFlash_pending (s : State) (f : FlashCtl → FlashCtl) : (s.onFlash f).pending = s.pending := rfl
@[simp] theorem State.onFlash_fresh (s : State) (f : FlashCtl → FlashCtl) : (s.onFlash f).fresh = s.fresh := rfl
@[simp] theorem State.onFlash_dev (s : State) (f : FlashCtl → FlashCtl) : (s.onFlash f).dev = s.dev := rfl
@[simp] theorem State.onFlash_stitch (s : State) (f : FlashCtl → FlashCtl) : (s.onFlash f).stitch = s.stitch := rfl
@[simp] theorem State.onFlash_ports (s : State) (f : FlashCtl → FlashCtl) : (s.onFlash f).ports = s.ports := rfl
@[simp] theorem State.onFlash_ev (s : State) (f : FlashCtl → FlashCtl) : (s.onFlash f).ev = s.ev := rfl
@[simp] theorem State.onFlash_tbl (s : State) (f : FlashCtl → FlashCtl) : (s.onFlash f).tbl = s.tbl := rfl
@[simp] theorem State.onFlash_lanes (s : State) (f : FlashCtl → FlashCtl) : (s.onFlash f).lanes = s.lanes := rfl
@[simp] theorem State.onFlash_jobs (s : State) (f : FlashCtl → FlashCtl) : (s.onFlash f).jobs = s.jobs := rfl
@[simp] theorem State.onFlash_welt (s : State) (f : FlashCtl → FlashCtl) : (s.onFlash f).welt = s.welt := rfl
@[simp] theorem State.onFlash_assets (s : State) (f : FlashCtl → FlashCtl) : (s.onFlash f).assets = s.assets := rfl
@[simp] theorem State.onFlash_heads (s : State) (f : FlashCtl → FlashCtl) : (s.onFlash f).heads = s.heads := rfl
@[simp] theorem State.onFlash_axes (s : State) (f : FlashCtl → FlashCtl) : (s.onFlash f).axes = s.axes := rfl
@[simp] theorem State.onFlash_encs (s : State) (f : FlashCtl → FlashCtl) : (s.onFlash f).encs = s.encs := rfl
@[simp] theorem State.onFlash_ssis (s : State) (f : FlashCtl → FlashCtl) : (s.onFlash f).ssis = s.ssis := rfl
@[simp] theorem State.onFlash_cnts (s : State) (f : FlashCtl → FlashCtl) : (s.onFlash f).cnts = s.cnts := rfl
@[simp] theorem State.onFlash_prbs (s : State) (f : FlashCtl → FlashCtl) : (s.onFlash f).prbs = s.prbs := rfl
@[simp] theorem State.onFlash_chans (s : State) (f : FlashCtl → FlashCtl) : (s.onFlash f).chans = s.chans := rfl
@[simp] theorem State.onFlash_shank (s : State) (f : FlashCtl → FlashCtl) : (s.onFlash f).shank = s.shank := rfl
@[simp] theorem State.onFlash_power (s : State) (f : FlashCtl → FlashCtl) : (s.onFlash f).power = s.power := rfl
@[simp] theorem State.onFlash_mss (s : State) (f : FlashCtl → FlashCtl) : (s.onFlash f).mss = s.mss := rfl
@[simp] theorem State.onFlash_snss (s : State) (f : FlashCtl → FlashCtl) : (s.onFlash f).snss = s.snss := rfl
@[simp] theorem State.onFlash_sup (s : State) (f : FlashCtl → FlashCtl) : (s.onFlash f).sup = s.sup := rfl
@[simp] theorem State.onFlash_flash (s : State) (f : FlashCtl → FlashCtl) : (s.onFlash f).flash = f s.flash := rfl
@[simp] theorem State.onFlash_uarts (s : State) (f : FlashCtl → FlashCtl) : (s.onFlash f).uarts = s.uarts := rfl
@[simp] theorem State.onFlash_sec (s : State) (f : FlashCtl → FlashCtl) : (s.onFlash f).sec = s.sec := rfl

@[simp] theorem State.onBank_pending (s : State) (b : Nat) (f : Bank → Bank) : (s.onBank b f).pending = s.pending := rfl
@[simp] theorem State.onBank_fresh (s : State) (b : Nat) (f : Bank → Bank) : (s.onBank b f).fresh = s.fresh := rfl
@[simp] theorem State.onBank_dev (s : State) (b : Nat) (f : Bank → Bank) : (s.onBank b f).dev = s.dev := rfl
@[simp] theorem State.onBank_stitch (s : State) (b : Nat) (f : Bank → Bank) : (s.onBank b f).stitch = s.stitch := rfl
@[simp] theorem State.onBank_ports (s : State) (b : Nat) (f : Bank → Bank) : (s.onBank b f).ports = s.ports := rfl
@[simp] theorem State.onBank_ev (s : State) (b : Nat) (f : Bank → Bank) : (s.onBank b f).ev = s.ev := rfl
@[simp] theorem State.onBank_tbl (s : State) (b : Nat) (f : Bank → Bank) : (s.onBank b f).tbl = s.tbl := rfl
@[simp] theorem State.onBank_lanes (s : State) (b : Nat) (f : Bank → Bank) : (s.onBank b f).lanes = s.lanes := rfl
@[simp] theorem State.onBank_jobs (s : State) (b : Nat) (f : Bank → Bank) : (s.onBank b f).jobs = s.jobs := rfl
@[simp] theorem State.onBank_welt (s : State) (b : Nat) (f : Bank → Bank) : (s.onBank b f).welt = s.welt := rfl
@[simp] theorem State.onBank_assets (s : State) (b : Nat) (f : Bank → Bank) : (s.onBank b f).assets = s.assets := rfl
@[simp] theorem State.onBank_heads (s : State) (b : Nat) (f : Bank → Bank) : (s.onBank b f).heads = s.heads := rfl
@[simp] theorem State.onBank_axes (s : State) (b : Nat) (f : Bank → Bank) : (s.onBank b f).axes = s.axes := rfl
@[simp] theorem State.onBank_encs (s : State) (b : Nat) (f : Bank → Bank) : (s.onBank b f).encs = s.encs := rfl
@[simp] theorem State.onBank_ssis (s : State) (b : Nat) (f : Bank → Bank) : (s.onBank b f).ssis = s.ssis := rfl
@[simp] theorem State.onBank_cnts (s : State) (b : Nat) (f : Bank → Bank) : (s.onBank b f).cnts = s.cnts := rfl
@[simp] theorem State.onBank_prbs (s : State) (b : Nat) (f : Bank → Bank) : (s.onBank b f).prbs = s.prbs := rfl
@[simp] theorem State.onBank_chans (s : State) (b : Nat) (f : Bank → Bank) : (s.onBank b f).chans = s.chans := rfl
@[simp] theorem State.onBank_shank (s : State) (b : Nat) (f : Bank → Bank) : (s.onBank b f).shank = s.shank := rfl
@[simp] theorem State.onBank_power (s : State) (b : Nat) (f : Bank → Bank) : (s.onBank b f).power = s.power := rfl
@[simp] theorem State.onBank_mss (s : State) (b : Nat) (f : Bank → Bank) : (s.onBank b f).mss = s.mss := rfl
@[simp] theorem State.onBank_snss (s : State) (b : Nat) (f : Bank → Bank) : (s.onBank b f).snss = s.snss := rfl
@[simp] theorem State.onBank_sup (s : State) (b : Nat) (f : Bank → Bank) : (s.onBank b f).sup = s.sup := rfl
@[simp] theorem State.onBank_flash (s : State) (b : Nat) (f : Bank → Bank) : (s.onBank b f).flash = { s.flash with banks := upd s.flash.banks b f } := rfl
@[simp] theorem State.onBank_uarts (s : State) (b : Nat) (f : Bank → Bank) : (s.onBank b f).uarts = s.uarts := rfl
@[simp] theorem State.onBank_sec (s : State) (b : Nat) (f : Bank → Bank) : (s.onBank b f).sec = s.sec := rfl

@[simp] theorem State.onAux_pending (s : State) (k : Nat) (f : Aux → Aux) : (s.onAux k f).pending = s.pending := rfl
@[simp] theorem State.onAux_fresh (s : State) (k : Nat) (f : Aux → Aux) : (s.onAux k f).fresh = s.fresh := rfl
@[simp] theorem State.onAux_dev (s : State) (k : Nat) (f : Aux → Aux) : (s.onAux k f).dev = s.dev := rfl
@[simp] theorem State.onAux_stitch (s : State) (k : Nat) (f : Aux → Aux) : (s.onAux k f).stitch = s.stitch := rfl
@[simp] theorem State.onAux_ports (s : State) (k : Nat) (f : Aux → Aux) : (s.onAux k f).ports = s.ports := rfl
@[simp] theorem State.onAux_ev (s : State) (k : Nat) (f : Aux → Aux) : (s.onAux k f).ev = s.ev := rfl
@[simp] theorem State.onAux_tbl (s : State) (k : Nat) (f : Aux → Aux) : (s.onAux k f).tbl = s.tbl := rfl
@[simp] theorem State.onAux_lanes (s : State) (k : Nat) (f : Aux → Aux) : (s.onAux k f).lanes = s.lanes := rfl
@[simp] theorem State.onAux_jobs (s : State) (k : Nat) (f : Aux → Aux) : (s.onAux k f).jobs = s.jobs := rfl
@[simp] theorem State.onAux_welt (s : State) (k : Nat) (f : Aux → Aux) : (s.onAux k f).welt = s.welt := rfl
@[simp] theorem State.onAux_assets (s : State) (k : Nat) (f : Aux → Aux) : (s.onAux k f).assets = s.assets := rfl
@[simp] theorem State.onAux_heads (s : State) (k : Nat) (f : Aux → Aux) : (s.onAux k f).heads = s.heads := rfl
@[simp] theorem State.onAux_axes (s : State) (k : Nat) (f : Aux → Aux) : (s.onAux k f).axes = s.axes := rfl
@[simp] theorem State.onAux_encs (s : State) (k : Nat) (f : Aux → Aux) : (s.onAux k f).encs = s.encs := rfl
@[simp] theorem State.onAux_ssis (s : State) (k : Nat) (f : Aux → Aux) : (s.onAux k f).ssis = s.ssis := rfl
@[simp] theorem State.onAux_cnts (s : State) (k : Nat) (f : Aux → Aux) : (s.onAux k f).cnts = s.cnts := rfl
@[simp] theorem State.onAux_prbs (s : State) (k : Nat) (f : Aux → Aux) : (s.onAux k f).prbs = s.prbs := rfl
@[simp] theorem State.onAux_chans (s : State) (k : Nat) (f : Aux → Aux) : (s.onAux k f).chans = s.chans := rfl
@[simp] theorem State.onAux_shank (s : State) (k : Nat) (f : Aux → Aux) : (s.onAux k f).shank = s.shank := rfl
@[simp] theorem State.onAux_power (s : State) (k : Nat) (f : Aux → Aux) : (s.onAux k f).power = s.power := rfl
@[simp] theorem State.onAux_mss (s : State) (k : Nat) (f : Aux → Aux) : (s.onAux k f).mss = s.mss := rfl
@[simp] theorem State.onAux_snss (s : State) (k : Nat) (f : Aux → Aux) : (s.onAux k f).snss = s.snss := rfl
@[simp] theorem State.onAux_sup (s : State) (k : Nat) (f : Aux → Aux) : (s.onAux k f).sup = s.sup := rfl
@[simp] theorem State.onAux_flash (s : State) (k : Nat) (f : Aux → Aux) : (s.onAux k f).flash = s.flash := rfl
@[simp] theorem State.onAux_uarts (s : State) (k : Nat) (f : Aux → Aux) : (s.onAux k f).uarts = { s.uarts with aux := upd s.uarts.aux k f } := rfl
@[simp] theorem State.onAux_sec (s : State) (k : Nat) (f : Aux → Aux) : (s.onAux k f).sec = s.sec := rfl

@[simp] theorem State.onSec_pending (s : State) (f : Sec → Sec) : (s.onSec f).pending = s.pending := rfl
@[simp] theorem State.onSec_fresh (s : State) (f : Sec → Sec) : (s.onSec f).fresh = s.fresh := rfl
@[simp] theorem State.onSec_dev (s : State) (f : Sec → Sec) : (s.onSec f).dev = s.dev := rfl
@[simp] theorem State.onSec_stitch (s : State) (f : Sec → Sec) : (s.onSec f).stitch = s.stitch := rfl
@[simp] theorem State.onSec_ports (s : State) (f : Sec → Sec) : (s.onSec f).ports = s.ports := rfl
@[simp] theorem State.onSec_ev (s : State) (f : Sec → Sec) : (s.onSec f).ev = s.ev := rfl
@[simp] theorem State.onSec_tbl (s : State) (f : Sec → Sec) : (s.onSec f).tbl = s.tbl := rfl
@[simp] theorem State.onSec_lanes (s : State) (f : Sec → Sec) : (s.onSec f).lanes = s.lanes := rfl
@[simp] theorem State.onSec_jobs (s : State) (f : Sec → Sec) : (s.onSec f).jobs = s.jobs := rfl
@[simp] theorem State.onSec_welt (s : State) (f : Sec → Sec) : (s.onSec f).welt = s.welt := rfl
@[simp] theorem State.onSec_assets (s : State) (f : Sec → Sec) : (s.onSec f).assets = s.assets := rfl
@[simp] theorem State.onSec_heads (s : State) (f : Sec → Sec) : (s.onSec f).heads = s.heads := rfl
@[simp] theorem State.onSec_axes (s : State) (f : Sec → Sec) : (s.onSec f).axes = s.axes := rfl
@[simp] theorem State.onSec_encs (s : State) (f : Sec → Sec) : (s.onSec f).encs = s.encs := rfl
@[simp] theorem State.onSec_ssis (s : State) (f : Sec → Sec) : (s.onSec f).ssis = s.ssis := rfl
@[simp] theorem State.onSec_cnts (s : State) (f : Sec → Sec) : (s.onSec f).cnts = s.cnts := rfl
@[simp] theorem State.onSec_prbs (s : State) (f : Sec → Sec) : (s.onSec f).prbs = s.prbs := rfl
@[simp] theorem State.onSec_chans (s : State) (f : Sec → Sec) : (s.onSec f).chans = s.chans := rfl
@[simp] theorem State.onSec_shank (s : State) (f : Sec → Sec) : (s.onSec f).shank = s.shank := rfl
@[simp] theorem State.onSec_power (s : State) (f : Sec → Sec) : (s.onSec f).power = s.power := rfl
@[simp] theorem State.onSec_mss (s : State) (f : Sec → Sec) : (s.onSec f).mss = s.mss := rfl
@[simp] theorem State.onSec_snss (s : State) (f : Sec → Sec) : (s.onSec f).snss = s.snss := rfl
@[simp] theorem State.onSec_sup (s : State) (f : Sec → Sec) : (s.onSec f).sup = s.sup := rfl
@[simp] theorem State.onSec_flash (s : State) (f : Sec → Sec) : (s.onSec f).flash = s.flash := rfl
@[simp] theorem State.onSec_uarts (s : State) (f : Sec → Sec) : (s.onSec f).uarts = s.uarts := rfl
@[simp] theorem State.onSec_sec (s : State) (f : Sec → Sec) : (s.onSec f).sec = f s.sec := rfl

@[simp] theorem State.onOtp_pending (s : State) (f : Otp → Otp) : (s.onOtp f).pending = s.pending := rfl
@[simp] theorem State.onOtp_fresh (s : State) (f : Otp → Otp) : (s.onOtp f).fresh = s.fresh := rfl
@[simp] theorem State.onOtp_dev (s : State) (f : Otp → Otp) : (s.onOtp f).dev = s.dev := rfl
@[simp] theorem State.onOtp_stitch (s : State) (f : Otp → Otp) : (s.onOtp f).stitch = s.stitch := rfl
@[simp] theorem State.onOtp_ports (s : State) (f : Otp → Otp) : (s.onOtp f).ports = s.ports := rfl
@[simp] theorem State.onOtp_ev (s : State) (f : Otp → Otp) : (s.onOtp f).ev = s.ev := rfl
@[simp] theorem State.onOtp_tbl (s : State) (f : Otp → Otp) : (s.onOtp f).tbl = s.tbl := rfl
@[simp] theorem State.onOtp_lanes (s : State) (f : Otp → Otp) : (s.onOtp f).lanes = s.lanes := rfl
@[simp] theorem State.onOtp_jobs (s : State) (f : Otp → Otp) : (s.onOtp f).jobs = s.jobs := rfl
@[simp] theorem State.onOtp_welt (s : State) (f : Otp → Otp) : (s.onOtp f).welt = s.welt := rfl
@[simp] theorem State.onOtp_assets (s : State) (f : Otp → Otp) : (s.onOtp f).assets = s.assets := rfl
@[simp] theorem State.onOtp_heads (s : State) (f : Otp → Otp) : (s.onOtp f).heads = s.heads := rfl
@[simp] theorem State.onOtp_axes (s : State) (f : Otp → Otp) : (s.onOtp f).axes = s.axes := rfl
@[simp] theorem State.onOtp_encs (s : State) (f : Otp → Otp) : (s.onOtp f).encs = s.encs := rfl
@[simp] theorem State.onOtp_ssis (s : State) (f : Otp → Otp) : (s.onOtp f).ssis = s.ssis := rfl
@[simp] theorem State.onOtp_cnts (s : State) (f : Otp → Otp) : (s.onOtp f).cnts = s.cnts := rfl
@[simp] theorem State.onOtp_prbs (s : State) (f : Otp → Otp) : (s.onOtp f).prbs = s.prbs := rfl
@[simp] theorem State.onOtp_chans (s : State) (f : Otp → Otp) : (s.onOtp f).chans = s.chans := rfl
@[simp] theorem State.onOtp_shank (s : State) (f : Otp → Otp) : (s.onOtp f).shank = s.shank := rfl
@[simp] theorem State.onOtp_power (s : State) (f : Otp → Otp) : (s.onOtp f).power = s.power := rfl
@[simp] theorem State.onOtp_mss (s : State) (f : Otp → Otp) : (s.onOtp f).mss = s.mss := rfl
@[simp] theorem State.onOtp_snss (s : State) (f : Otp → Otp) : (s.onOtp f).snss = s.snss := rfl
@[simp] theorem State.onOtp_sup (s : State) (f : Otp → Otp) : (s.onOtp f).sup = s.sup := rfl
@[simp] theorem State.onOtp_flash (s : State) (f : Otp → Otp) : (s.onOtp f).flash = s.flash := rfl
@[simp] theorem State.onOtp_uarts (s : State) (f : Otp → Otp) : (s.onOtp f).uarts = s.uarts := rfl
@[simp] theorem State.onOtp_sec (s : State) (f : Otp → Otp) : (s.onOtp f).sec = { s.sec with otp := f s.sec.otp } := rfl

theorem State.port_onPort (s : State) (p : Nat) (f : Port → Port) (h : p < 2) : (s.onPort p f).port p = f (s.port p) :=
  at'_upd_self _ _ _ h

theorem State.port_onPort_ne (s : State) (p j : Nat) (f : Port → Port) (h : j ≠ p) : (s.onPort p f).port j = s.port j :=
  at'_upd_ne _ _ _ _ h

theorem State.lane_onLane (s : State) (i : Nat) (f : Lane → Lane) (h : i < 19) : (s.onLane i f).lane i = f (s.lane i) :=
  at'_upd_self _ _ _ h

theorem State.lane_onLane_ne (s : State) (i j : Nat) (f : Lane → Lane) (h : j ≠ i) : (s.onLane i f).lane j = s.lane j :=
  at'_upd_ne _ _ _ _ h

theorem State.head_onHead (s : State) (x : Nat) (f : Head → Head) (h : x < 2) : (s.onHead x f).head x = f (s.head x) :=
  at'_upd_self _ _ _ h

theorem State.head_onHead_ne (s : State) (x j : Nat) (f : Head → Head) (h : j ≠ x) : (s.onHead x f).head j = s.head j :=
  at'_upd_ne _ _ _ _ h

theorem State.ax_onAx (s : State) (n : Nat) (f : Axis → Axis) (h : n < 12) : (s.onAx n f).ax n = f (s.ax n) :=
  at'_upd_self _ _ _ h

theorem State.ax_onAx_ne (s : State) (n j : Nat) (f : Axis → Axis) (h : j ≠ n) : (s.onAx n f).ax j = s.ax j :=
  at'_upd_ne _ _ _ _ h

theorem State.enc_onEnc (s : State) (n : Nat) (f : Enc → Enc) (h : n < 8) : (s.onEnc n f).enc n = f (s.enc n) :=
  at'_upd_self _ _ _ h

theorem State.enc_onEnc_ne (s : State) (n j : Nat) (f : Enc → Enc) (h : j ≠ n) : (s.onEnc n f).enc j = s.enc j :=
  at'_upd_ne _ _ _ _ h

theorem State.ssi_onSsi (s : State) (p : Nat) (f : Ssi → Ssi) (h : p < 2) : (s.onSsi p f).ssi p = f (s.ssi p) :=
  at'_upd_self _ _ _ h

theorem State.ssi_onSsi_ne (s : State) (p j : Nat) (f : Ssi → Ssi) (h : j ≠ p) : (s.onSsi p f).ssi j = s.ssi j :=
  at'_upd_ne _ _ _ _ h

theorem State.chan_onChan (s : State) (c : Nat) (f : Chan → Chan) (h : c < 32) : (s.onChan c f).chan c = f (s.chan c) :=
  at'_upd_self _ _ _ h

theorem State.chan_onChan_ne (s : State) (c j : Nat) (f : Chan → Chan) (h : j ≠ c) : (s.onChan c f).chan j = s.chan j :=
  at'_upd_ne _ _ _ _ h

@[simp] theorem State.port_onPort_fin (s : State) (p : Fin 2) (f : Port → Port) : (s.onPort p f).port p = f (s.port p) :=
  at'_upd_self _ _ _ p.isLt

@[simp] theorem State.lane_onLane_fin (s : State) (i : Fin 19) (f : Lane → Lane) : (s.onLane i f).lane i = f (s.lane i) :=
  at'_upd_self _ _ _ i.isLt

@[simp] theorem State.head_onHead_fin (s : State) (x : Fin 2) (f : Head → Head) : (s.onHead x f).head x = f (s.head x) :=
  at'_upd_self _ _ _ x.isLt

@[simp] theorem State.ax_onAx_fin (s : State) (n : Fin 12) (f : Axis → Axis) : (s.onAx n f).ax n = f (s.ax n) :=
  at'_upd_self _ _ _ n.isLt

@[simp] theorem State.enc_onEnc_fin (s : State) (n : Fin 8) (f : Enc → Enc) : (s.onEnc n f).enc n = f (s.enc n) :=
  at'_upd_self _ _ _ n.isLt

@[simp] theorem State.ssi_onSsi_fin (s : State) (p : Fin 2) (f : Ssi → Ssi) : (s.onSsi p f).ssi p = f (s.ssi p) :=
  at'_upd_self _ _ _ p.isLt

@[simp] theorem State.chan_onChan_fin (s : State) (c : Fin 32) (f : Chan → Chan) : (s.onChan c f).chan c = f (s.chan c) :=
  at'_upd_self _ _ _ c.isLt

theorem State.onPort_frame (s : State) (p : Nat) (f : Port → Port) : SameBut [.ports] s (s.onPort p f) := by
  intro p hp; cases p <;> first | rfl | simp at hp

theorem State.onLane_frame (s : State) (i : Nat) (f : Lane → Lane) : SameBut [.lanes] s (s.onLane i f) := by
  intro p hp; cases p <;> first | rfl | simp at hp

theorem State.onHead_frame (s : State) (x : Nat) (f : Head → Head) : SameBut [.heads] s (s.onHead x f) := by
  intro p hp; cases p <;> first | rfl | simp at hp

theorem State.onDev_frame (s : State) (f : Dev → Dev) : SameBut [.dev] s (s.onDev f) := by
  intro p hp; cases p <;> first | rfl | simp at hp

theorem State.onStitch_frame (s : State) (f : Stitch → Stitch) : SameBut [.stitch] s (s.onStitch f) := by
  intro p hp; cases p <;> first | rfl | simp at hp

theorem State.onJobs_frame (s : State) (f : Jobs → Jobs) : SameBut [.jobs] s (s.onJobs f) := by
  intro p hp; cases p <;> first | rfl | simp at hp

theorem State.onWelt_frame (s : State) (f : Welt → Welt) : SameBut [.welt] s (s.onWelt f) := by
  intro p hp; cases p <;> first | rfl | simp at hp

theorem State.onEv_frame (s : State) (f : EventQ → EventQ) : SameBut [.ev] s (s.onEv f) := by
  intro p hp; cases p <;> first | rfl | simp at hp

theorem State.onAx_frame (s : State) (n : Nat) (f : Axis → Axis) : SameBut [.axes] s (s.onAx n f) := by
  intro p hp; cases p <;> first | rfl | simp at hp

theorem State.onEnc_frame (s : State) (n : Nat) (f : Enc → Enc) : SameBut [.encs] s (s.onEnc n f) := by
  intro p hp; cases p <;> first | rfl | simp at hp

theorem State.onSsi_frame (s : State) (p : Nat) (f : Ssi → Ssi) : SameBut [.ssis] s (s.onSsi p f) := by
  intro p hp; cases p <;> first | rfl | simp at hp

theorem State.onPrb_frame (s : State) (r : Nat) (f : Prb → Prb) : SameBut [.prbs] s (s.onPrb r f) := by
  intro p hp; cases p <;> first | rfl | simp at hp

theorem State.onChan_frame (s : State) (c : Nat) (f : Chan → Chan) : SameBut [.chans] s (s.onChan c f) := by
  intro p hp; cases p <;> first | rfl | simp at hp

theorem State.onShank_frame (s : State) (f : Shank → Shank) : SameBut [.shank] s (s.onShank f) := by
  intro p hp; cases p <;> first | rfl | simp at hp

theorem State.onGrp_frame (s : State) (g : Nat) (f : Group → Group) : SameBut [.shank] s (s.onGrp g f) := by
  intro p hp; cases p <;> first | rfl | simp at hp

theorem State.onDom_frame (s : State) (d : Nat) (f : Domain → Domain) : SameBut [.power] s (s.onDom d f) := by
  intro p hp; cases p <;> first | rfl | simp at hp

theorem State.onMs_frame (s : State) (n : Nat) (f : Ms → Ms) : SameBut [.mss] s (s.onMs n f) := by
  intro p hp; cases p <;> first | rfl | simp at hp

theorem State.onSns_frame (s : State) (n : Nat) (f : Sns → Sns) : SameBut [.snss] s (s.onSns n f) := by
  intro p hp; cases p <;> first | rfl | simp at hp

theorem State.onSup_frame (s : State) (f : Supply → Supply) : SameBut [.sup] s (s.onSup f) := by
  intro p hp; cases p <;> first | rfl | simp at hp

theorem State.onTin_frame (s : State) (i : Nat) (f : TempIn → TempIn) : SameBut [.sup] s (s.onTin i f) := by
  intro p hp; cases p <;> first | rfl | simp at hp

theorem State.onFlash_frame (s : State) (f : FlashCtl → FlashCtl) : SameBut [.flash] s (s.onFlash f) := by
  intro p hp; cases p <;> first | rfl | simp at hp

theorem State.onBank_frame (s : State) (b : Nat) (f : Bank → Bank) : SameBut [.flash] s (s.onBank b f) := by
  intro p hp; cases p <;> first | rfl | simp at hp

theorem State.onAux_frame (s : State) (k : Nat) (f : Aux → Aux) : SameBut [.uarts] s (s.onAux k f) := by
  intro p hp; cases p <;> first | rfl | simp at hp

theorem State.onSec_frame (s : State) (f : Sec → Sec) : SameBut [.sec] s (s.onSec f) := by
  intro p hp; cases p <;> first | rfl | simp at hp

theorem State.onOtp_frame (s : State) (f : Otp → Otp) : SameBut [.sec] s (s.onOtp f) := by
  intro p hp; cases p <;> first | rfl | simp at hp

end Sys2Proof.Machine
end

