-- ==== Sys2Proof/Machine/HeadPins.lean ====
section
/-!
DEFINITION. The output pins of a head port (R223, R231..R234, R254, R275): what they carry in each PWM cycle of 5 ns, as a
function of the lines started, and their idle state.
-/

namespace Sys2Proof.Machine

/-- The outputs of a head port; HDx_D and HDx_STB as numbers of 16 bits. `data` is none where the spec gives no level: between the
end of a shift and the next one. -/
structure HeadPins where
  data : Option Nat
  clk : Bool
  lat : Bool
  stb : Nat
  vhen : Bool
  deriving DecidableEq, Repr, Inhabited

/-! ### Where a dot is shifted (R231) -/

/-- lane_of. -/
def Desc.laneOf (d : Desc) (k : Nat) : Nat := if d.map = 0 then k / d.c else k % 2 ^ d.lanes
/-- pos_of. -/
def Desc.posOf (d : Desc) (k : Nat) : Nat := if d.map = 0 then k % d.c else k / 2 ^ d.lanes
/-- shift_index. -/
def Desc.shiftIndex (d : Desc) (pos : Nat) : Nat := if d.dir = 0 then d.c - 1 - pos else pos

/-- HDx_STB line of a block (R225). -/
def Desc.stbOf (d : Desc) (b : Nat) : Nat := if b < 8 then d.mapLo / 16 ^ b % 16 else d.mapHi / 16 ^ (b - 8) % 16

/-- What HDx_D carries at shift clock `i` of slice `j`: bit l is the bit of the dot that lane l shifts then, zero where none is. -/
def LineOut.shifted (o : LineOut) (d : Desc) (j i : Nat) : Nat :=
  o.masks.foldl (fun v p =>
    if p.2.testBit j && d.shiftIndex (d.posOf p.1) == i then v ||| 2 ^ d.laneOf p.1 else v) 0

/-! ### Levels (R223, R232, R233) -/

/-- The pins idle: data low, the others inactive under CLK_EDGE, LAT_POL and STB_POL, HDx_VHEN low. -/
def Desc.idlePins (d : Desc) : HeadPins :=
  ⟨some 0, d.clkEdge == 1, d.latPol == 1, if d.stbPol = 1 then 0xFFFF else 0, false⟩

/-- The shift clock `c` cycles after a slice start: at its sampling level from ceil(N/2) cycles of each period on. -/
def Desc.clkAt (d : Desc) (c : Nat) : Bool :=
  let sampling : Bool := c < d.tShift && (d.hsckN + 1) / 2 ≤ c % d.hsckN
  if d.clkEdge = 1 then !sampling else sampling

/-- The latch is asserted `c` cycles after a slice start. -/
def Desc.latched (d : Desc) (c : Nat) : Bool := d.tShift + 10 ≤ c && c < d.tShift + 10 + d.latW

/-- HDx_STB lines asserted `c` cycles after window `j` of a line opens. -/
def FiredLine.strobes (f : FiredLine) (d : Desc) (cap j c : Nat) : Nat :=
  let on (bs : List Nat) : Nat := bs.foldl (fun v b => v ||| 2 ^ d.stbOf b) 0
  if f.skips.any fun p => p.1 == j then
    (f.out.groups d cap f.width j).foldl (fun v g =>
      if g.2 + f.width ≤ d.tShift ∧ g.2 ≤ c ∧ c < g.2 + f.width then v ||| on g.1.1 else v) 0
  else if c < f.width then on ((f.out.heating d j).map Prod.fst) else 0

/-- Lines strobed `t` cycles after a line start. -/
def FiredLine.stbAt (f : FiredLine) (d : Desc) (cap t : Nat) : Nat :=
  if t < d.tSl then 0
  else
    let j := (t - d.tSl) / d.tSl
    if j < f.out.nsl then f.strobes d cap j ((t - d.tSl) % d.tSl) else 0

/-- HDx_D `t` cycles after a line start, none where the line shifts nothing then. -/
def FiredLine.dataAt (f : FiredLine) (d : Desc) (t : Nat) : Option Nat :=
  let j := t / d.tSl
  if j < f.out.nsl ∧ t % d.tSl < d.tShift then some (f.out.shifted d j (t % d.tSl / d.hsckN)) else none

/-- The head runs a PRINT, PATTERN or SCAN. -/
def State.headActive (s : State) (x : Nat) : Bool :=
  let h := s.head x
  h.step == .wait || h.step == .run || h.step == .rest || h.sstate == 1

/-- The pins of head `x` in PWM cycle `cyc`: the newest line shifts and latches while the one before it may still strobe. -/
def State.headPins (s : State) (x cyc : Nat) : HeadPins :=
  let d := s.desc x
  let h := s.head x
  let on := h.fired.filter fun f => f.start ≤ cyc && decide (cyc < f.start + f.out.nsl * d.tSl + d.tShift)
  match on with
  | [] => { d.idlePins with vhen := h.vhen, data := if s.headActive x then none else some 0 }
  | f :: _ =>
    let t := cyc - f.start
    let shifts : Bool := t < f.out.nsl * d.tSl
    let stb := on.foldl (fun v g => v ||| g.stbAt d (s.cfg (.head x) F.en_CAP_SAG) (cyc - g.start)) 0
    { data := f.dataAt d t
      clk := if shifts then d.clkAt (t % d.tSl) else d.clkEdge == 1
      lat := (shifts && d.latched (t % d.tSl)) != (d.latPol == 1)
      stb := if d.stbPol = 1 then 0xFFFF ^^^ stb else stb
      vhen := h.vhen }

/-! ### A scan (R253, R254) -/

/-- The pins in a slot of a scan, `c` cycles after its start: the latch, and the strobe of the block of the dot for SCAN_W. -/
def State.scanPins (s : State) (x c : Nat) : HeadPins :=
  let d := s.desc x
  let w := 200 * s.cfg (.head x) F.hsc_SCAN_W
  let stb := match d.scanDot (s.head x).scanPos with
    | some k => if 400 ≤ c ∧ c < 400 + w then 2 ^ d.stbOf (d.block k) else 0
    | none => 0
  { data := none, clk := d.clkEdge == 1, lat := (10 ≤ c && c < 10 + d.latW) != (d.latPol == 1),
    stb := if d.stbPol = 1 then 0xFFFF ^^^ stb else stb, vhen := (s.head x).vhen }

end Sys2Proof.Machine
end

