-- ==== Sys2Proof/Tests/Slice0.lean ====
section
/-!
SUPPORT. The author's own tests: an ill-formed command for each check of well-formedness, worked values of the spec, and for each
obligation states and operands that meet the hypotheses of each of its clauses.
-/

open Sys2Proof Sys2Proof.Machine

namespace Sys2Proof.Tests

set_option Elab.async false

/-! ### Well-formedness -/

theorem test_wf_refuses_long_payload : (Instr.regRd 0 0 0 (List.replicate 129 0)).payloadFits = false := by
  simp [Instr.payloadFits, Instr.payload]

theorem test_wf_refuses_control_type : (Instr.unsupportedFrame 0 4 0 0).typeOk = false := by decide

theorem test_wf_refuses_long_scan : (Instr.bistDone (List.replicate 1157 (quietPin 0))).scanOk = false := by decide +kernel

theorem test_wf_refuses_ontime_of_head : (Instr.ontime 56 0).groupOk = false := by decide

theorem test_wf_takes_ontime_of_channel : (Instr.ontime 55 0).wf = true := by decide

/-! ### Worked values -/

/-- The check value of R73. -/
theorem test_crc32c : crc32c [0x31, 0x32, 0x33, 0x34, 0x35, 0x36, 0x37, 0x38, 0x39] = 0xE3069283 := by decide +kernel

/-- Balls of each test (R528). -/
theorem test_ball_counts : [1, 2, 3, 4].map (fun k => (bistBalls k).length) = [256, 224, 80, 100] := by decide +kernel

/-- The first word of SHA-256 of "abc" (FIPS 180-4, the standard R214 names). -/
theorem test_sha256_abc : (sha256 [0x61, 0x62, 0x63]).take 4 = [0xba, 0x78, 0x16, 0xbf] := by decide +kernel

/-! ### States and changes of states -/

/-- The device READY after start-up, without head descriptors. -/
def ready : State :=
  { State.reset with
    dev := { State.reset.dev with st := .ready }
    lanes := (State.reset.lanes.set 0 { State.reset.lane 0 with state := .out }).set 1 { State.reset.lane 1 with state := .out }
    welt := { State.reset.welt with ready := true }
    power := { State.reset.power with inReset := none, hostOn := true }
    sup := { State.reset.sup with sampled := true } }
/-- The state a command answers. -/
def nx (c : Instr) (s : State) : State := match exec c s with | .next t => t | _ => s
/-- A change of a state. -/
abbrev M := State → State
/-- Change every solenoid channel. -/
def mc (f : Chan → Chan) : M := fun s => { s with chans := s.chans.map f }
/-- Change every axis. -/
def ma (f : Axis → Axis) : M := fun s => { s with axes := s.axes.map f }
/-- Change every bridge. -/
def mb (f : Bridge → Bridge) : M := ma fun a => { a with a1 := f a.a1, b1 := f a.b1 }
/-- Change every head. -/
def mh (f : Head → Head) : M := fun s => { s with heads := s.heads.map f }
/-- Change every lane. -/
def ml (f : Lane → Lane) : M := fun s => { s with lanes := s.lanes.map f }
/-- Change both ports. -/
def mp (f : Port → Port) : M := fun s => { s with ports := s.ports.map f }
/-- Change every power domain. -/
def md (f : Domain → Domain) : M := fun s => { s with power := { s.power with doms := s.power.doms.map f } }
/-- Change the power state. -/
def mpw (f : Power → Power) : M := fun s => { s with power := f s.power }
/-- Change both flash banks. -/
def mbk (f : Bank → Bank) : M := fun s => { s with flash := { s.flash with banks := s.flash.banks.map f } }
/-- Change the flash controller. -/
def mf (f : FlashCtl → FlashCtl) : M := fun s => { s with flash := f s.flash }
/-- Change the welt. -/
def mw (f : Welt → Welt) : M := fun s => { s with welt := f s.welt }
/-- Change every output group. -/
def mg (f : Group → Group) : M := fun s => { s with shank := { s.shank with groups := s.shank.groups.map f } }
/-- Change the shank. -/
def mk' (f : Shank → Shank) : M := fun s => { s with shank := f s.shank }
/-- Change temperatures and supplies. -/
def msu (f : Supply → Supply) : M := fun s => { s with sup := f s.sup }
/-- Change every temperature input. -/
def mti (f : TempIn → TempIn) : M := fun s => { s with sup := { s.sup with ins := s.sup.ins.map f } }
/-- Change every encoder. -/
def me (f : Enc → Enc) : M := fun s => { s with encs := s.encs.map f }
/-- Change both SSI ports. -/
def mss (f : Ssi → Ssi) : M := fun s => { s with ssis := s.ssis.map f }
/-- Change every counter. -/
def mcn (f : Cnt → Cnt) : M := fun s => { s with cnts := s.cnts.map f }
/-- Change every probe. -/
def mpr (f : Prb → Prb) : M := fun s => { s with prbs := s.prbs.map f }
/-- Change both AUX ports. -/
def mx (f : Aux → Aux) : M := fun s => { s with uarts := { s.uarts with aux := s.uarts.aux.map f } }
/-- Change self-test and security. -/
def msec (f : Sec → Sec) : M := fun s => { s with sec := f s.sec }
/-- Change the device state. -/
def mdv (f : Dev → Dev) : M := fun s => { s with dev := f s.dev }
/-- Change the stitch. -/
def mst (f : Stitch → Stitch) : M := fun s => { s with stitch := f s.stitch }
/-- Change the jobs. -/
def mj (f : Jobs → Jobs) : M := fun s => { s with jobs := f s.jobs }
/-- Change the event queue. -/
def mev (f : EventQ → EventQ) : M := fun s => { s with ev := f s.ev }
/-- Give a field of several objects a value. -/
def cf (os : List Obj) (f : Field) (v : Nat) : M := fun s => os.foldl (fun s o => s.putCfg o f v) s
def chans : List Obj := (List.range 32).map .sol
def axs : List Obj := (List.range 12).map .ax
def encs : List Obj := (List.range 8).map .enc
def ssis : List Obj := (List.range 2).map .ssi
def cnts : List Obj := (List.range 16).map .cnt
def prbs : List Obj := (List.range 4).map .prb
def grps : List Obj := (List.range 58).map .grp
def ntcs : List Obj := (List.range 8).map .ntc
def sups : List Obj := (List.range 4).map .sup
/-- Apply changes in order. -/
def app (ms : List M) (s : State) : State := ms.foldl (fun s m => m s) s
/-- Every domain runs. -/
def doms : M := md fun d => { d with st := .run }
/-- READY with all domains in RUN, at stitch 5000. -/
def base : State := app [doms, mst fun g => { g with n := 5000, time := 5000 * 4096 * 65536 }] ready
/-- One state from `base` for each list of changes. -/
def var (mss : List (List M)) : List State := mss.map fun ms => app ms base
/-- Both links UP at revision 3. -/
def upP : M := mp fun p =>
  { p with rev := 3, st := .up, window := 16, maxlen := 128, everUp := true, upSinceReset := true, evtStream := true, div := 4 }
/-- Both links UP at revision 1. -/
def up1 : M := mp fun p =>
  { p with rev := 1, st := .up, window := 1, maxlen := 32, everUp := true, upSinceReset := true, div := 40 }
/-- An RSP frame with its send count. -/
def fr (seq : BitVec 8) (n : Nat) : Frame :=
  { typ := tyRsp, emerg := false, seq := seq, ackseq := 0, payload := [1, 2], sends := n, events := [] }
/-- An event due to both ports. -/
def ev0 (cls id : Nat) : Event :=
  { id := id, cls := cls, code := 3, lane := 31, stamp := 77, args := [5], due0 := true, due1 := true, fly0 := false, fly1 := false, taken0 := false, taken1 := false, recovery := false }
/-- A record without gate, timeout or checkpoint. -/
def mkr (typ lane : Nat) (pl : List Word) : Rec :=
  { typ := typ, lane := lane, gate := false, tmo := false, ckpt := false, tag := 0, payload := pl, timeout := 0, gateWord := 0 }
/-- A job with the given records. -/
def mkj (seq : Word) (recs : List Rec) : Job :=
  { seq := seq, port := 0, href := 9, words := [], recs := recs, status := recs.map fun _ => ⟨.queued, .none, 0, 0, false⟩, fences := [], started := false, done := false, assetHeld := false, heldOn := [], results := [], assets := [] }
/-- A queue item. -/
def qi (seq : Word) (idx : Nat) (r : Rec) : QItem := ⟨seq, idx, r⟩
/-- A record header. -/
def hd (typ len lane : Nat) : Word := BitVec.ofNat 36 (typ * 2^28 + len * 2^20 + lane * 2^15)
/-- A job around the given body. -/
def jobW (body : List Word) : List Word := [hd 1 2 31, BitVec.ofNat 36 (3 * 2^32 + body.length + 4), 9] ++ body ++ [hd 2 0 31]
/-- A FENCE record. -/
def fenceR : Rec := mkr 3 31 [BitVec.ofNat 36 (1 * 2^34 + 4)]
/-- Every axis a stepper. -/
def stall : M := cf axs F.ax_KIND 1
/-- Both heads bound to two axes each. -/
def bind : M := fun s => (s.putCfg (.head 0) F.hb_FEED_EN 1 |>.putCfg (.head 0) F.hb_FEED_AX 0 |>.putCfg (.head 0) F.hb_CLK_EN 1
  |>.putCfg (.head 0) F.hb_CLK_AX 1 |>.putCfg (.head 1) F.hb_FEED_EN 1 |>.putCfg (.head 1) F.hb_FEED_AX 2 |>.putCfg (.head 1)
  F.hb_CLK_EN 1 |>.putCfg (.head 1) F.hb_CLK_AX 3)
/-- Job 1 with record `r` at the head of lane `i`. -/
def q1 (i : Nat) (r : Rec) : M := fun s =>
  { s with lanes := upd s.lanes i fun l => { l with queue := [qi 1 1 r], owner := 1 }, jobs := { s.jobs with table := [mkj 1 [mkr 1 31 [], r]], lastSeq := 1, decided := 1 } }
/-- A record of lane `i`. -/
def pk (i : Nat) (pl : List Word) (typ : Nat) : Rec := mkr typ i pl
/-- Job 2 with a control record. -/
def ctl (r : Rec) : M := fun s =>
  { s with jobs := { s.jobs with table := s.jobs.table ++ [mkj 2 [mkr 1 31 [], r]], ctrl := [qi 2 1 r], lastSeq := 2, decided := 2 } }
/-- A word. -/
def wN (n : Nat) : Word := BitVec.ofNat 36 n
/-- A template with one FILL element. -/
def tplWords (w0 : Nat) : List (Nat × Word) := [(0, wN (2^32 + 384 * 2^19 + w0 * 2^3)), (1, wN (2^20)), (2, wN (5 * 2^32 + 5 *
  2^24 + 15 * 2^16)), (3, wN (7 * 2^23 + 3 * 2^7)), (4, wN (9 * 2^23 + 6 * 2^7)), (5, wN 0x81828384), (6, wN 0xFFFF0000)]
/-- Directory entry 0 holds the template, READY. -/
def tpl (len : Nat) : M := fun s =>
  { s with assets := { s.assets with dir := [(0, { DirEntry.empty with st := .ready, kind := 3, size := 7 })], words0 := tplWords len } }
/-- No lane is OUT. -/
def noOut : M := ml fun l => { l with state := if l.state = .out then .idle else l.state }
/-- Both heads with `n` dots. -/
def hdr (n : Nat) : M := fun s => [0,1].foldl (fun s x => (s.putCfg (.head x) F.hd_DOTS n).putCfg (.head x) F.hd_NBLOCK 1) s

/-! ### The block as a whole -/

/-- A command waits, and the state is one of its range (Obligations.StretchStaysInRange, StepTakesOneCommand, OtpBitsStayBlown). -/
theorem test_witness_step : ∃ s t : State, s.pending ≠ [] ∧ s.stretchOk ∧ step s = .next t :=
  ⟨{ ready with pending := [.ctsChange 0 false] }, _, by decide, by unfold State.stretchOk; decide +kernel, rfl⟩

/-- Obligations.EmptyQueueIdles. -/
theorem test_witness_empty_queue : ∃ s : State, s.pending = [] := ⟨State.reset, rfl⟩

/-- Obligations.TableStoreReadsBack. -/
theorem test_witness_store : ∃ st : Store, st.wf = true ∧ st ≠ [] := ⟨[(0x103, 5)], by decide +kernel⟩

/-- Both clauses of the step of X at the ends of its range (Obligations.GovernorFollowsRequests). -/
theorem test_witness_next_x : (∃ x t : Nat, x ≤ t * 256 ∧ x = 0x10000) ∧ ∃ x t : Nat, t * 256 ≤ x ∧ x = 0x40000 :=
  ⟨⟨0x10000, 0x100, by decide⟩, ⟨0x40000, 0x400, by decide⟩⟩

/-- Obligations.TableAddressRegister: an address outside the map, and one of the governor's. -/
theorem test_witness_table_address :
    region 0xFFFFFF = none ∧ ∃ k, region 0x103 = some (.gov, k) ∧ mapped 0x103 = true := ⟨by decide +kernel, 3, by decide +kernel⟩

namespace BoundaryBeginsStitch

def states : List State := [ready, base, app [mst fun g => { g with newPeriod := some 5000, xNext := 0x11111, x := 0x12345 }]
  base, app [mst fun g => { g with running := false }] base]

def wst (i : Nat) : State := states.getD i State.reset

/-- States and operands that meet the hypotheses of each clause of Obligations.StitchTimebaseRuns. -/
theorem test_witness_BoundaryBeginsStitch :
    (∃ (s : State), s.flash.imageSwitch = false ∧ s.stitch.running = true) ∧
    (∃ (s : State), s.flash.imageSwitch = false ∧ s.stitch.running = false) :=
  ⟨⟨wst 0, by decide +kernel⟩,
   ⟨wst 3, by decide +kernel⟩⟩

end BoundaryBeginsStitch

namespace GovernorStepsTowardsRequest

def states : List State := [ready, base] ++ var [[mst fun g =>
  { g with x := 0x12345, kHost := 0x200, kMax := 0x180, ovrReq := 0x280, holdVM := some ⟨5000, false⟩, holdVS := some ⟨0, true⟩ }],
  [mst fun g =>
  { g with x := 0x12345, kHost := 0x100, kMax := 0x300, ovrReq := 0x280, ovrSince := ⟨5000, false⟩, holdVM := some ⟨1, false⟩ }],
  [mst fun g => { g with x := 0x22345, kHost := 0x100 }]]

def wst (i : Nat) : State := states.getD i State.reset

/-- States and operands that meet the hypotheses of each clause of Obligations.GovernorFollowsRequests. -/
theorem test_witness_GovernorStepsTowardsRequest :
    ∃ (s : State), s.stitch.running = true :=
  ⟨wst 0, by decide +kernel⟩

end GovernorStepsTowardsRequest

namespace LargestRequestGoverns

def states : List State := [ready, base] ++ var [[mst fun g =>
  { g with x := 0x12345, kHost := 0x200, kMax := 0x180, ovrReq := 0x280, ovrEn := true, holdVM := some ⟨5000, false⟩, holdVS := some ⟨0, true⟩, holdVH := some ⟨0, true⟩ }],
  [mst (fun g => { g with thermEn := true }), msu fun s => {s with thr := true}], [msu fun s =>
  {s with sag := s.sag.map fun _ => true}, fun s => { s with heads := s.heads }], [mst fun g =>
  { g with kHost := 0x80, sagEn := false, ovrEn := false, thermEn := false, holdVM := some ⟨0, false⟩}]]

def wst (i : Nat) : State := states.getD i State.reset

/-- States and operands that meet the hypotheses of each clause of Obligations.GovernorFollowsRequests. -/
theorem test_witness_LargestRequestGoverns :
    (∃ (s : State), s.actHost = true) ∧
    (∃ (s : State), s.actVM = true) ∧
    (∃ (s : State), s.actVS = true) ∧
    (∃ (s : State), s.actVH = true) ∧
    (∃ (s : State), s.actTherm = true) ∧
    (∃ (s : State), s.actOvr = true) ∧
    (∃ (s : State),
      s.actHost = false ∧ s.actVM = false ∧ s.actVS = false ∧ s.actVH = false ∧ s.actTherm = false ∧ s.actOvr = false) :=
  ⟨⟨wst 2, by decide +kernel⟩,
   ⟨wst 2, by decide +kernel⟩,
   ⟨wst 2, by decide +kernel⟩,
   ⟨wst 2, by decide +kernel⟩,
   ⟨wst 3, by decide +kernel⟩,
   ⟨wst 2, by decide +kernel⟩,
   ⟨wst 0, by decide +kernel⟩⟩

end LargestRequestGoverns

namespace RequestsRunOut

def hs : List (Option Since) := [some ⟨5000, false⟩, some ⟨0, true⟩]
def states : List State := [ready, base] ++ var (hs.map fun h => [mst fun g =>
  { g with ovrReq := 0x280, ovrSince := h.getD ⟨0,false⟩, holdVM := h, holdVS := h, holdVH := h }])

def wst (i : Nat) : State := states.getD i State.reset

/-- States and operands that meet the hypotheses of each clause of Obligations.StitchTimebaseRuns. -/
theorem test_witness_RequestsRunOut :
    (∃ (s : State), 256 < s.stitch.ovrReq ∧ s.stitch.ovrSince.passed s.stitch.govRelax s.stitch.phase = true) ∧
    (∃ (s : State), s.stitch.ovrReq ≤ 256 ∨ s.stitch.ovrSince.passed s.stitch.govRelax s.stitch.phase = false) ∧
    (∃ (s : State) (h : Since), s.stitch.holdVM = some h ∧ h.passed s.stitch.govHold s.stitch.phase = true) ∧
    (∃ (s : State) (h : Since), s.stitch.holdVS = some h ∧ h.passed s.stitch.govHold s.stitch.phase = true) ∧
    (∃ (s : State) (h : Since), s.stitch.holdVH = some h ∧ h.passed s.stitch.govHold s.stitch.phase = true) ∧
    (∃ (s : State) (h : Since), s.stitch.holdVM = some h ∧ h.passed s.stitch.govHold s.stitch.phase = false) :=
  ⟨⟨wst 2, by decide +kernel⟩,
   ⟨wst 3, by decide +kernel⟩,
   ⟨wst 2, ⟨5000, false⟩, by decide +kernel⟩,
   ⟨wst 2, ⟨5000, false⟩, by decide +kernel⟩,
   ⟨wst 2, ⟨5000, false⟩, by decide +kernel⟩,
   ⟨wst 3, ⟨0, true⟩, by decide +kernel⟩⟩

end RequestsRunOut

namespace PeriodWriteWaitsForBoundary

def states : List State := [ready, base, State.reset] ++ var [[ml fun l =>
  { l with state := .running, running := some (qi 1 0 (mkr 1 2 [])) }], [ml fun l =>
  { l with state := .stopped, running := some (qi 1 0 (mkr 1 2 [])) }]]

def wst (i : Nat) : State := states.getD i State.reset

/-- States and operands that meet the hypotheses of each clause of Obligations.PeriodWriteWaitsForBoundary. -/
theorem test_witness_PeriodWriteWaitsForBoundary :
    (∃ (w : Word), bits w 14 0 < 2048 ∨ 16384 < bits w 14 0) ∧
    (∃ (w : Word) (s : State),
      2048 ≤ bits w 14 0 ∧ bits w 14 0 ≤ 16384 ∧ (s.startingUp = true ∨ s.periodRest = false)) ∧
    (∃ (w : Word) (s : State),
      2048 ≤ bits w 14 0 ∧ bits w 14 0 ≤ 16384 ∧ s.startingUp = false ∧ s.periodRest = true) :=
  ⟨⟨0, by decide +kernel⟩,
   ⟨0x800, wst 2, by decide +kernel⟩,
   ⟨0x800, wst 0, by decide +kernel⟩⟩

end PeriodWriteWaitsForBoundary

namespace LinkCountersCount

def states : List State := [ready, base] ++ var [[upP, mp fun p =>
  { p with rxLost := true, noise := 3, stray := 2, rxRing := [3,4], held := [fr 0 1] }], [upP, mp fun p =>
  { p with rxRing := List.replicate 3136 1 }], [upP, mp fun p => { p with rxRing := [0xC3], rxFifo := [5], upOnAck := true }],
  [mpw fun p => { p with pllU := true }]]

def wst (i : Nat) : State := states.getD i State.reset

/-- States and operands that meet the hypotheses of each clause of Obligations.LinkCountersCount. -/
theorem test_witness_LinkCountersCount :
    (∃ (s : State), s.hears = true) ∧
    (∃ (p : Fin 2) (s : State), (s.port p.val).upOnAck = false) ∧
    (∃ (p : Fin 2) (s : State) (u : Fin 4) (a : BitVec 3) (d : List (BitVec 3)) (q : List (BitVec 3)) (z : BitVec 3) (c : Heard),
      u.val = p.val ∧
        s.hears = true ∧
          decodeChar false 0 (charSamples a d q z) = some c ∧ (s.port p.val).rxFill < 3136 ∧ (s.port p.val).rxFifo.length < 15) ∧
    (∃ (p : Fin 2) (s : State) (u : Fin 4) (a : BitVec 3) (d : List (BitVec 3)) (q : List (BitVec 3)) (z : BitVec 3) (c : Heard),
      u.val = p.val ∧
        s.hears = true ∧
          decodeChar false 0 (charSamples a d q z) = some c ∧ 3136 ≤ (s.port p.val).rxFill ∧ (s.port p.val).rxFifo.length < 16) ∧
    (∃ (p : Fin 2) (u : Fin 4) (a : BitVec 3) (d : List (BitVec 3)) (q : List (BitVec 3)) (z : BitVec 3),
      u.val = p.val ∧ decodeChar false 0 (charSamples a d q z) = none) ∧
    (∃ (p : Fin 2) (s : State) (u : Fin 4),
      u.val = p.val ∧ (s.dutyRuns 0 = false ∨ lookAt (s.port p.val).maxlen ((s.port p.val).rxRing ++ (s.port p.val).rxFifo) =
  Found.more)) :=
  ⟨⟨wst 0, by decide +kernel⟩,
   ⟨0, wst 0, by decide +kernel⟩,
   ⟨0, wst 0, 0, 0, [0, 7, 0, 7, 0, 0, 7, 0], [0, 7, 0, 7, 0, 0, 7, 0], 0, ⟨74, false, true, false⟩, by decide +kernel⟩,
   ⟨0, wst 3, 0, 0, [0, 7, 0, 7, 0, 0, 7, 0], [0, 7, 0, 7, 0, 0, 7, 0], 0, ⟨74, false, true, false⟩, by decide +kernel⟩,
   ⟨0, 0, 7, [0, 7, 0, 7, 0, 0, 7, 0], [0, 7, 0, 7, 0, 0, 7, 0], 0, by decide +kernel⟩,
   ⟨0, wst 0, 0, by decide +kernel⟩⟩

end LinkCountersCount

namespace DiscardsCountAndFallBack

def states : List State := [ready, base] ++ var [[upP], [up1, mp fun p =>
  { p with buckets := [31, 0], txq := [fr 0 0], unacked := [fr 0 1] }], [upP, mp fun p => { p with st := .sync, syncSent := 1 }],
  [mp fun p => { p with st := .confirm, newDiv := some 5}]]

def wst (i : Nat) : State := states.getD i State.reset

/-- States and operands that meet the hypotheses of each clause of Obligations.DiscardsCountAndFallBack. -/
theorem test_witness_DiscardsCountAndFallBack :
    (∃ (p : Fin 2) (s : State),
      (s.hears = true ∧ (s.port p.val).rxRing = [] ∧ (s.port p.val).rxFifo = []) ∧
        ((s.port p.val).st = LinkState.hunt ∨ (s.port p.val).st = LinkState.confirm)) ∧
    (∃ (p : Fin 2) (s : State),
      (s.hears = true ∧ (s.port p.val).rxRing = [] ∧ (s.port p.val).rxFifo = []) ∧
        ((s.port p.val).st = LinkState.up ∨ (s.port p.val).st = LinkState.sync) ∧
          (s.port p.val).errored.errCnt < (s.port p.val).errLimit) ∧
    (∃ (p : Fin 2) (s : State),
      (s.hears = true ∧ (s.port p.val).rxRing = [] ∧ (s.port p.val).rxFifo = []) ∧
        ((s.port p.val).st = LinkState.up ∨ (s.port p.val).st = LinkState.sync) ∧
          (s.port p.val).errLimit ≤ (s.port p.val).errored.errCnt) :=
  ⟨⟨0, wst 0, by decide +kernel⟩,
   ⟨0, wst 2, by decide +kernel⟩,
   ⟨0, wst 3, by decide +kernel⟩⟩

end DiscardsCountAndFallBack

namespace HelloAgreesOrRefuses

def states : List State := [ready, base] ++ var [[upP], [upP, mp fun p =>
  { p with unacked := [fr 0 1], txq := [fr 0 0], deferred := [(1,2,⟨3,4,5⟩)] }], [up1], [upP, mp fun p =>
  { p with st := .sync, newDiv := some 7}], [mp fun p => { p with st := .confirm, newDiv := some 5}]]

def wst (i : Nat) : State := states.getD i State.reset

/-- States and operands that meet the hypotheses of each clause of Obligations.HelloAgreesOrRefuses. -/
theorem test_witness_HelloAgreesOrRefuses :
    (∃ (p : Fin 2) (w0 : Word) (w1 : Word) (s : State),
      (s.hears = true ∧ (s.port p.val).rxRing = [] ∧ (s.port p.val).rxFifo = []) ∧
        (s.port p.val).cts = true ∧
          (s.port p.val).st ≠ LinkState.confirm ∧ (agree w0 w1 (s.port p.val).div (s.port p.val).upSinceReset).rev = 0) ∧
    (∃ (p : Fin 2) (w0 : Word) (w1 : Word) (s : State),
      (s.hears = true ∧ (s.port p.val).rxRing = [] ∧ (s.port p.val).rxFifo = []) ∧
        (s.port p.val).cts = true ∧
          (s.port p.val).st ≠ LinkState.confirm ∧
            (agree w0 w1 (s.port p.val).div (s.port p.val).upSinceReset).rev ≠ 0 ∧
              (agree w0 w1 (s.port p.val).div (s.port p.val).upSinceReset).div = (s.port p.val).div ∧
                (agree w0 w1 (s.port p.val).div (s.port p.val).upSinceReset).cont = false) ∧
    (∃ (p : Fin 2) (w0 : Word) (w1 : Word) (s : State),
      (s.hears = true ∧ (s.port p.val).rxRing = [] ∧ (s.port p.val).rxFifo = []) ∧
        (s.port p.val).cts = true ∧
          (s.port p.val).st ≠ LinkState.confirm ∧
            (agree w0 w1 (s.port p.val).div (s.port p.val).upSinceReset).rev ≠ 0 ∧
              (agree w0 w1 (s.port p.val).div (s.port p.val).upSinceReset).div ≠ (s.port p.val).div) ∧
    (∃ (p : Fin 2) (s : State) (d : ℕ),
      (s.hears = true ∧ (s.port p.val).rxRing = [] ∧ (s.port p.val).rxFifo = []) ∧
        (s.port p.val).cts = true ∧ (s.port p.val).newDiv = some d ∧ ((s.port p.val).held.any fun f => f.typ == tyHelloAck) = false) ∧
    (∃ (p : Fin 2) (s : State),
      (s.hears = true ∧ (s.port p.val).rxRing = [] ∧ (s.port p.val).rxFifo = []) ∧
        (s.port p.val).cts = true ∧ (s.port p.val).newDiv = none) ∧
    (∃ (p : Fin 2) (s : State),
      (s.hears = true ∧ (s.port p.val).rxRing = [] ∧ (s.port p.val).rxFifo = []) ∧
        (s.port p.val).cts = true ∧ (s.port p.val).st = LinkState.confirm) ∧
    (∃ (p : Fin 2) (s : State),
      (s.hears = true ∧ (s.port p.val).rxRing = [] ∧ (s.port p.val).rxFifo = []) ∧
        (s.port p.val).cts = true ∧ (s.port p.val).st ≠ LinkState.confirm) :=
  ⟨⟨0, 0, 0, wst 0, by decide +kernel⟩,
   ⟨0, 0x80101, 0, wst 0, by decide +kernel⟩,
   ⟨0, 0x80101, 0x80301, wst 0, by decide +kernel⟩,
   ⟨0, wst 6, 5, by decide +kernel⟩,
   ⟨0, wst 0, by decide +kernel⟩,
   ⟨0, wst 6, by decide +kernel⟩,
   ⟨0, wst 0, by decide +kernel⟩⟩

end HelloAgreesOrRefuses

namespace AckTakesAndNakResends

def states : List State := [ready, base] ++ var [[upP, mp fun p => { p with unacked := [fr 0 1, fr 1 1], nextTx := 2 }], [upP,
  mp fun p => { p with unacked := [fr 255 2, fr 0 1], nextTx := 1 }], [upP, mp fun p =>
  { p with unacked := [fr 255 1, fr 0 2], nextTx := 1, buckets := [32] }], [upP, mp fun p =>
  { p with unacked := [fr 30 1], nextTx := 31, eUnacked := [fr 3 1], eTxq := [fr 3 0] }]]

def wst (i : Nat) : State := states.getD i State.reset

/-- States and operands that meet the hypotheses of each clause of Obligations.LinkErrorsAreRepaired. -/
theorem test_witness_AckTakesAndNakResends :
    (∃ (p : Fin 2) (k : BitVec 8) (f : Frame) (rest : List Frame) (s : State),
      (s.hears = true ∧ (s.port p.val).rxRing = [] ∧ (s.port p.val).rxFifo = []) ∧
        (s.port p.val).cts = true ∧
          (s.port p.val).st = LinkState.up ∧ (s.port p.val).unacked = f :: rest ∧ (k - f.seq).toNat ≤ (s.port p.val).unacked.length) ∧
    (∃ (p : Fin 2) (f : Frame) (rest : List Frame) (s : State),
      (s.hears = true ∧ (s.port p.val).rxRing = [] ∧ (s.port p.val).rxFifo = []) ∧
        (s.port p.val).cts = true ∧ (s.port p.val).st = LinkState.up ∧ (s.port p.val).unacked = f :: rest ∧ f.sends < 2) ∧
    (∃ (p : Fin 2) (f : Frame) (rest : List Frame) (s : State),
      (s.hears = true ∧ (s.port p.val).rxRing = [] ∧ (s.port p.val).rxFifo = []) ∧
        (s.port p.val).cts = true ∧ (s.port p.val).st = LinkState.up ∧ (s.port p.val).unacked = f :: rest ∧ 2 ≤ f.sends) ∧
    (∃ (p : Fin 2) (f : Frame) (rest : List Frame) (s : State),
      (s.hears = true ∧ (s.port p.val).rxRing = [] ∧ (s.port p.val).rxFifo = []) ∧
        (s.port p.val).cts = true ∧
          (s.port p.val).st = LinkState.up ∧
            (s.port p.val).unacked = f :: rest ∧ f.sends < 2 ∧ (s.port p.val).errored.errCnt < (s.port p.val).errLimit) :=
  ⟨⟨0, 0, ⟨32, false, 0, 0, [1, 2], 1, [], none⟩, [⟨32, false, 1, 0, [1, 2], 1, [], none⟩], wst 2, by decide +kernel⟩,
   ⟨0, ⟨32, false, 0, 0, [1, 2], 1, [], none⟩, [⟨32, false, 1, 0, [1, 2], 1, [], none⟩], wst 2, by decide +kernel⟩,
   ⟨0, ⟨32, false, 255, 0, [1, 2], 2, [], none⟩, [⟨32, false, 0, 0, [1, 2], 1, [], none⟩], wst 3, by decide +kernel⟩,
   ⟨0, ⟨32, false, 0, 0, [1, 2], 1, [], none⟩, [⟨32, false, 1, 0, [1, 2], 1, [], none⟩], wst 2, by decide +kernel⟩⟩

end AckTakesAndNakResends

namespace SyncRestoresTheLink

def states : List State := [ready, base] ++ var [[upP], [upP, mp fun p => { p with unacked := [fr 0 1, fr 1 1], nextTx := 2 }],
  [upP, mp fun p => { p with st := .sync, syncSent := 1, unacked := [fr 255 2, fr 0 1], nextTx := 1 }], [upP, mp fun p =>
  { p with st := .sync, syncSent := 2, unacked := [fr 255 2, fr 0 1], nextTx := 1 }]]

def wst (i : Nat) : State := states.getD i State.reset

/-- States and operands that meet the hypotheses of each clause of Obligations.LinkErrorsAreRepaired. -/
theorem test_witness_SyncRestoresTheLink :
    (∃ (p : Fin 2) (s : State),
      (s.hears = true ∧ (s.port p.val).rxRing = [] ∧ (s.port p.val).rxFifo = []) ∧
        (s.port p.val).cts = true ∧ ((s.port p.val).st = LinkState.up ∨ (s.port p.val).st = LinkState.sync)) ∧
    (∃ (p : Fin 2) (s : State),
      (s.hears = true ∧ (s.port p.val).rxRing = [] ∧ (s.port p.val).rxFifo = []) ∧
        (s.port p.val).cts = true ∧ (s.port p.val).st = LinkState.sync) ∧
    (∃ (p : Fin 2) (s : State),
      (s.hears = true ∧ (s.port p.val).rxRing = [] ∧ (s.port p.val).rxFifo = []) ∧
        (s.port p.val).cts = true ∧
          (s.port p.val).st = LinkState.sync ∧ (s.port p.val).syncSent < 2 ∧ (s.port p.val).errored.errCnt < (s.port p.val).errLimit) ∧
    (∃ (p : Fin 2) (s : State),
      (s.hears = true ∧ (s.port p.val).rxRing = [] ∧ (s.port p.val).rxFifo = []) ∧
        (s.port p.val).cts = true ∧
          (s.port p.val).st = LinkState.sync ∧ 2 ≤ (s.port p.val).syncSent ∧ (s.port p.val).errored.errCnt < (s.port p.val).errLimit) :=
  ⟨⟨0, wst 4, by decide +kernel⟩,
   ⟨0, wst 4, by decide +kernel⟩,
   ⟨0, wst 4, by decide +kernel⟩,
   ⟨0, wst 5, by decide +kernel⟩⟩

end SyncRestoresTheLink

namespace RequestsInOrderAreAnswered

def states : List State := [ready, base] ++ var [[upP], [up1], [upP, mp fun p => { p with nextRx := 3, txq := [fr 2 0] }]]

def wst (i : Nat) : State := states.getD i State.reset

/-- States and operands that meet the hypotheses of each clause of Obligations.RequestsInOrderAreAnswered. -/
theorem test_witness_RequestsInOrderAreAnswered :
    (∃ (p : Fin 2) (ws : List Word) (s : State),
      (s.hears = true ∧ (s.port p.val).rxRing = [] ∧ (s.port p.val).rxFifo = []) ∧
        (s.port p.val).st = LinkState.up ∧
          ws.length ≤ (s.port p.val).maxlen ∧ framePayloadOk tyRegRd (s.port p.val).maxlen false ws = true) ∧
    (∃ (p : Fin 2) (ws : List Word) (s : State),
      (s.hears = true ∧ (s.port p.val).rxRing = [] ∧ (s.port p.val).rxFifo = []) ∧
        (s.port p.val).st = LinkState.up ∧
          ws.length ≤ (s.port p.val).maxlen ∧ 2 ≤ (s.port p.val).rev ∧ framePayloadOk tyTblRd (s.port p.val).maxlen false ws = true) ∧
    (∃ (p : Fin 2) (k : BitVec 8) (ws : List Word) (s : State),
      (s.hears = true ∧ (s.port p.val).rxRing = [] ∧ (s.port p.val).rxFifo = []) ∧
        (s.port p.val).st = LinkState.up ∧
          ws.length ≤ (s.port p.val).maxlen ∧
            framePayloadOk tyRegWr (s.port p.val).maxlen false ws = true ∧
              ((s.accepted (p.val) false k).run (p.val) tyRegWr (s.port p.val).nextRx.toNat false false ws).waits = 0) ∧
    (∃ (p : Fin 2) (k : BitVec 8) (ws : List Word) (s : State),
      (s.hears = true ∧ (s.port p.val).rxRing = [] ∧ (s.port p.val).rxFifo = []) ∧
        (s.port p.val).st = LinkState.up ∧
          ws.length ≤ (s.port p.val).maxlen ∧
            2 ≤ (s.port p.val).rev ∧
              framePayloadOk tyTblWr (s.port p.val).maxlen false ws = true ∧
                ((s.accepted (p.val) false k).run (p.val) tyTblWr (s.port p.val).nextRx.toNat false false ws).waits = 0) ∧
    (∃ (p : Fin 2) (k : BitVec 8) (ws : List Word) (s : State),
      (s.hears = true ∧ (s.port p.val).rxRing = [] ∧ (s.port p.val).rxFifo = []) ∧
        (s.port p.val).st = LinkState.up ∧
          ws.length ≤ (s.port p.val).maxlen ∧
            2 ≤ (s.port p.val).rev ∧
              framePayloadOk tyJobWr (s.port p.val).maxlen false ws = true ∧
                ((s.accepted (p.val) false k).run (p.val) tyJobWr (s.port p.val).nextRx.toNat false false ws).waits = 0) ∧
    (∃ (p : Fin 2) (k : BitVec 8) (ws : List Word) (s : State),
      (s.hears = true ∧ (s.port p.val).rxRing = [] ∧ (s.port p.val).rxFifo = []) ∧
        (s.port p.val).st = LinkState.up ∧
          ws.length ≤ (s.port p.val).maxlen ∧
            2 ≤ (s.port p.val).rev ∧
              framePayloadOk tyRegWr (s.port p.val).maxlen true ws = true ∧
                ((s.accepted (p.val) true k).run (p.val) tyRegWr (s.port p.val).eNextRx.toNat true false ws).waits = 0) ∧
    (∃ (p : Fin 2) (ws : List Word) (s : State) (typ : BitVec 8),
      (s.hears = true ∧ (s.port p.val).rxRing = [] ∧ (s.port p.val).rxFifo = []) ∧
        (s.port p.val).st = LinkState.up ∧
          ws.length ≤ (s.port p.val).maxlen ∧ isControl typ.toNat = false ∧ hostRequest (s.port p.val).rev typ.toNat = false) :=
  ⟨⟨0, [0], wst 2, by decide +kernel⟩,
   ⟨0, [5, 27], wst 2, by decide +kernel⟩,
   ⟨0, 0, [5, 27], wst 2, by decide +kernel⟩,
   ⟨0, 0, [5, 27], wst 2, by decide +kernel⟩,
   ⟨0, 0, [0], wst 2, by decide +kernel⟩,
   ⟨0, 0, [5, 27], wst 2, by decide +kernel⟩,
   ⟨0, [], wst 2, 0, by decide +kernel⟩⟩

end RequestsInOrderAreAnswered

namespace FramesOutOfOrderDoNothing

def states : List State := [ready, base] ++ var [[upP], [up1], [upP, mp fun p =>
  { p with nextRx := 3, txq := [fr 2 0], errSince := true }], [upP, mp fun p => { p with nextRx := 3, unacked := [fr 2 1] }]]

def wst (i : Nat) : State := states.getD i State.reset

/-- States and operands that meet the hypotheses of each clause of Obligations.LinkErrorsAreRepaired. -/
theorem test_witness_FramesOutOfOrderDoNothing :
    (∃ (p : Fin 2) (seq : BitVec 8) (ws : List Word) (s : State),
      (s.hears = true ∧ (s.port p.val).rxRing = [] ∧ (s.port p.val).rxFifo = []) ∧
        (s.port p.val).cts = true ∧
          (s.port p.val).st = LinkState.up ∧ ws.length ≤ (s.port p.val).maxlen ∧ 240 ≤ (seq - (s.port p.val).nextRx).toNat) ∧
    (∃ (p : Fin 2) (seq : BitVec 8) (ws : List Word) (s : State),
      (s.hears = true ∧ (s.port p.val).rxRing = [] ∧ (s.port p.val).rxFifo = []) ∧
        (s.port p.val).cts = true ∧
          (s.port p.val).st = LinkState.up ∧
            ws.length ≤ (s.port p.val).maxlen ∧
              0 < (seq - (s.port p.val).nextRx).toNat ∧
                (seq - (s.port p.val).nextRx).toNat < 240 ∧ (s.port p.val).errored.errCnt < (s.port p.val).errLimit) :=
  ⟨⟨0, 250, [], wst 2, by decide +kernel⟩,
   ⟨0, 1, [], wst 2, by decide +kernel⟩⟩

end FramesOutOfOrderDoNothing

namespace FramesLeaveInTurn

def states : List State := [ready, base] ++ var [[upP, mp fun p => { p with txq := [fr 0 0, fr 0 0] }], [upP, mp fun p =>
  { p with deferred := [(4, 2, ⟨3, 5, 6⟩)] }], [upP, mp fun p =>
  { p with txq := [fr 0 0], deferred := [(3, 1, ⟨2, 1, 1⟩), (4, 2, ⟨3, 5, 6⟩)] }],
 [upP, mev fun e => { e with entries := [ev0 2 0, ev0 3 1], nextId := 2 }], [upP, mev fun e =>
  { e with entries := [ev0 1 0, ev0 3 1], nextId := 2 }], [upP, mp (fun p =>
  { p with wire := [{ fr 0 1 with payload := [1,2,3,4] }], unacked := [{ fr 0 1 with payload := [1,2,3,4] }], nextTx := 1 }), mev
  fun e => { e with entries := [ev0 1 0, ev0 3 1], nextId := 2 }]]

def wst (i : Nat) : State := states.getD i State.reset

/-- States and operands that meet the hypotheses of each clause of Obligations.FramesLeaveInTurn. -/
theorem test_witness_FramesLeaveInTurn :
    (∃ (p : Fin 2) (s : State) (f : Frame) (rest : List Frame),
      s.uartsRun = true ∧
        (s.port p.val).maySend = true ∧
          (s.port p.val).eTxq = [] ∧
            s.emergDue p.val = [] ∧
              (s.port p.val).txq = f :: rest ∧
                f.emerg = false ∧ (s.port p.val).unacked.length < (s.port p.val).window ∧ (s.port p.val).fbPend = none) ∧
    (∃ (p : Fin 2) (s : State) (d : ℕ × ℕ × JobStat),
      s.uartsRun = true ∧
        (s.port p.val).maySend = true ∧
          (s.port p.val).eTxq = [] ∧
            s.emergDue p.val = [] ∧
              (s.port p.val).txq = [] ∧
                (s.port p.val).unacked.length < (s.port p.val).window ∧
                  List.find? (fun d => decide (3 ≤ d.snd.snd.code)) (s.port p.val).deferred = some d) ∧
    (∃ (p : Fin 2) (s : State) (d : ℕ × ℕ × JobStat) (f : Frame) (rest : List Frame),
      s.uartsRun = true ∧
        (s.port p.val).maySend = true ∧
          (s.port p.val).txq = f :: rest ∧ List.find? (fun d => decide (3 ≤ d.snd.snd.code)) (s.port p.val).deferred = some d) ∧
    (∃ (p : Fin 2) (s : State) (es : List Event),
      s.uartsRun = true ∧
        (s.port p.val).maySend = true ∧
          es =
              takeFitting (s.port p.val).maxlen (List.filter (fun e => e.cls != 1 && e.dueP p.val && !e.flyP p.val) s.ev.entries) ∧
            (s.port p.val).eTxq = [] ∧
              s.emergDue p.val = [] ∧
                (s.port p.val).unacked.length < (s.port p.val).window ∧
                  (s.port p.val).evtStream = true ∧ 2 ≤ (s.port p.val).rev ∧ es ≠ []) ∧
    (∃ (p : Fin 2) (s : State) (es : List Event),
      s.uartsRun = true ∧
        (s.port p.val).maySend = true ∧
          es = takeFitting (s.port p.val).maxlen (s.emergDue p.val) ∧
            2 ≤ (s.port p.val).rev ∧ (s.port p.val).eUnacked.length < 2 ∧ (s.port p.val).eTxq = [] ∧ es ≠ []) ∧
    (∃ (p : Fin 2) (s : State) (es : List Event) (f : Frame) (k : ℕ),
      s.uartsRun = true ∧
        (s.port p.val).maySend = true ∧
          es = takeFitting (s.port p.val).maxlen (s.emergDue p.val) ∧
            2 ≤ (s.port p.val).rev ∧
              (s.port p.val).eUnacked.length < 2 ∧ (s.port p.val).eTxq = [] ∧ es ≠ [] ∧ (s.port p.val).abandoned k = some f) :=
  ⟨⟨0, wst 4, ⟨32, false, 0, 0, [1, 2], 0, [], none⟩, [], by decide +kernel⟩,
   ⟨0, wst 3, (4, 2, ⟨3, 5, 6⟩), by decide +kernel⟩,
   ⟨0, wst 4, (4, 2, ⟨3, 5, 6⟩), ⟨32, false, 0, 0, [1, 2], 0, [], none⟩, [], by decide +kernel⟩,
   ⟨0, wst 5, [(ev0 2 0), (ev0 3 1)], by decide +kernel⟩,
   ⟨0, wst 7, [(ev0 1 0)], by decide +kernel⟩,
   ⟨0, wst 7, [(ev0 1 0)], ⟨32, false, 0, 0, [1, 2, 3, 4], 1, [], none⟩, 0, by decide +kernel⟩⟩

end FramesLeaveInTurn

namespace DirectRegisterWrites

def states : List State := [ready, base] ++ var [[upP, mdv fun d => { d with missed := 3, fabricTr := 1, transient := true }],
  [up1]]

def wst (i : Nat) : State := states.getD i State.reset

/-- States and operands that meet the hypotheses of each clause of Obligations.DirectRegisterWrites. -/
theorem test_witness_DirectRegisterWrites :
    (∃ (r : BitVec 6), r ∈ [0, 5, 9, 10, 11, 15, 19, 21, 22, 23, 49]) ∧
    (∃ (r : BitVec 6), 50 ≤ r.toNat ∧ r.toNat < 63) :=
  ⟨⟨0, by decide +kernel⟩,
   ⟨50, by decide +kernel⟩⟩

end DirectRegisterWrites

namespace TableWindowAccess

def at_ (a : Nat) (b : Bool) : M := mp fun p => { p with tblAddr := BitVec.ofNat 24 a, autoinc := b }
def states : List State := [ready, base] ++ (var ([0x10000, 0x0001, 0x010000, 0x020000, 0x400000, 0x400005, 0x5F7FFF, 0x5F8000,
  0x1FFFFF, 0xFFFFFF, 0x7000, Obj.gov.base, Obj.gov.base + 1, Obj.gov.base + 3, Obj.gov.base + 5, (Obj.ax 3).base + 1, (Obj.sol
  31).base + 2, bindingAddr 0].flatMap fun a => [[upP, at_ a true], [up1, at_ a false]]))

def wst (i : Nat) : State := states.getD i State.reset

/-- States and operands that meet the hypotheses of each clause of Obligations.TableWindowAccess. -/
theorem test_witness_TableWindowAccess :
    (∃ (p : Fin 2) (s : State), region (s.port p.val).tblAddr.toNat = none) ∧
    (∃ (p : Fin 2) (s : State) (k : ℕ),
      region (s.port p.val).tblAddr.toNat = some (Obj.gov, k) ∧ mapped (s.port p.val).tblAddr.toNat = true) ∧
    (∃ (p : Fin 2) (s : State), 4194304 ≤ (s.port p.val).tblAddr.toNat ∧ (s.port p.val).tblAddr.toNat < 6258688) ∧
    (∃ (p : Fin 2) (s : State),
      region (s.port p.val).tblAddr.toNat = none ∧
        ((s.port p.val).tblAddr.toNat < 4194304 ∨ 6258688 ≤ (s.port p.val).tblAddr.toNat)) ∧
    (∃ (p : Fin 2) (s : State) (o : Obj) (k : ℕ),
      region (s.port p.val).tblAddr.toNat = some (o, k) ∧
        mapped (s.port p.val).tblAddr.toNat = true ∧
          shadowed (o.base + k) = true ∧
            2 ≤ (s.port p.val).rev ∧
              ((s.port p.val).tblAddr.toNat < 4194304 ∨ 6258688 ≤ (s.port p.val).tblAddr.toNat) ∧
                o.base + k ≠ bindingAddr 0 ∧ o.base + k ≠ bindingAddr 1) :=
  ⟨⟨0, wst 16, by decide +kernel⟩,
   ⟨0, wst 24, 0, by decide +kernel⟩,
   ⟨0, wst 10, by decide +kernel⟩,
   ⟨0, wst 16, by decide +kernel⟩,
   ⟨0, wst 2, Obj.head 0, 0, by decide +kernel⟩⟩

end TableWindowAccess

namespace CommitAdoptsOrRefuses

def g0 : Nat := Obj.gov.base
def a3 : Nat := (Obj.ax 3).base
def wr (a : Nat) (w : Word) : M := fun s => nx (.tblDataWrite 0 w) (app [mp fun p =>
  { p with tblAddr := BitVec.ofNat 24 a, autoinc := true }] s)
def frc (a : Nat) (w : Word) : M := fun s =>
  { s with tbl := { s.tbl with shadow := s.tbl.shadow.set a w } , ports := s.ports.map fun p => { p with pend := a :: p.pend } }
def ws : List Word := [0, 1, 0x123456789, 0xFFFFFFFFF, 0x800000000]
def states : List State := [ready, base, State.reset] ++ var ([g0, g0+1, g0+2, g0+3, a3, a3+1, a3+2, a3+5, bindingAddr 0,
  bindingAddr 1, (Obj.sol 0).base+1].flatMap fun a => ws.flatMap fun w => [[upP, wr a w], [upP, frc a w]]) ++ var [[upP, ml (fun l
  => { l with state := .running, running := some (qi 1 0 (mkr 1 2 [])) }), wr a3 0, wr (a3+1) 5], [upP, wr (bindingAddr 0) 0x321,
  wr g0 0], [upP, frc (bindingAddr 0) (BitVec.ofNat 36 (2^35)), frc (bindingAddr 1) (BitVec.ofNat 36 (2^35))], [upP, frc
  (bindingAddr 0) (BitVec.ofNat 36 (2^35)), ml (fun l => { l with state := .running, running := some (qi 1 0 (mkr 1 2 [])) })]]

def wst (i : Nat) : State := states.getD i State.reset

/-- States and operands that meet the hypotheses of each clause of Obligations.CommitAdoptsOrRefuses. -/
theorem test_witness_CommitAdoptsOrRefuses :
    (∃ (s : State), s.startingUp = true) ∧
    (∃ (p : Fin 2) (s : State),
      s.startingUp = false ∧ (s.port p.val).pend.all ((s.candidate p.val).inRange s.stitch.period) = false) ∧
    (∃ (p : Fin 2) (s : State),
      s.startingUp = false ∧
        (s.port p.val).pend.all ((s.candidate p.val).inRange s.stitch.period) = true ∧
          (((s.port p.val).pend.contains (bindingAddr 0) || (s.port p.val).pend.contains (bindingAddr 1)) &&
              (s.candidate p.val).bindingsBroken) =
            true) ∧
    (∃ (p : Fin 2) (s : State),
      s.startingUp = false ∧
        (s.port p.val).pend.all ((s.candidate p.val).inRange s.stitch.period) = true ∧
          (((s.port p.val).pend.contains (bindingAddr 0) || (s.port p.val).pend.contains (bindingAddr 1)) &&
                (s.candidate p.val).bindingsBroken) =
              false ∧
            (s.port p.val).pend.all (s.atRestFor (s.candidate p.val)) = false) ∧
    (∃ (p : Fin 2) (s : State),
      s.startingUp = false ∧
        (s.port p.val).pend.all ((s.candidate p.val).inRange s.stitch.period) = true ∧
          (((s.port p.val).pend.contains (bindingAddr 0) || (s.port p.val).pend.contains (bindingAddr 1)) &&
                (s.candidate p.val).bindingsBroken) =
              false ∧
            (s.port p.val).pend.all (s.atRestFor (s.candidate p.val)) = true) :=
  ⟨⟨wst 2, by decide +kernel⟩,
   ⟨0, wst 43, by decide +kernel⟩,
   ⟨0, wst 115, by decide +kernel⟩,
   ⟨0, wst 116, by decide +kernel⟩,
   ⟨1, wst 43, by decide +kernel⟩⟩

end CommitAdoptsOrRefuses

namespace EventsReachThePort

def states : List State := [ready, base] ++ var [[upP, mp fun p => { p with popArgs := [3, 4] }], [upP, mp (fun p =>
  { p with lost := 7 }), mev fun e => { e with entries := [ev0 2 0, ev0 3 1], nextId := 2 }], [upP, mp (fun p =>
  { p with lost := 1 }), mev fun e => { e with store := [ev0 2 0, ev0 3 1], nextId := 2, paused := true }], [upP, mev fun e =>
  { e with store := [ev0 2 0, { ev0 3 1 with due0 := false, due1 := false }], nextId := 2, paused := true }],
 [upP, mev fun e =>
  { e with store := [ev0 2 0, ev0 1 1], entries := (List.range 110).map fun k => ev0 3 (k + 10), nextId := 200, paused := true }],
  [upP, mev fun e => { e with store := [ev0 2 0], entries := [ev0 1 7] }], [up1, mev fun e =>
  { e with store := [{ ev0 2 0 with due1 := false }], entries := [{ ev0 1 7 with due0 := false}] }]]

def wst (i : Nat) : State := states.getD i State.reset

/-- States and operands that meet the hypotheses of each clause of Obligations.EventsReachThePort. -/
theorem test_witness_EventsReachThePort :
    (∃ (p : Fin 2) (s : State) (w : Word) (rest : List Word), (s.port p.val).popArgs = w :: rest) ∧
    (∃ (p : Fin 2) (s : State) (e : Event), (s.port p.val).popArgs = [] ∧ s.nextEvent p.val = some e) ∧
    (∃ (p : Fin 2) (s : State), (s.port p.val).popArgs = [] ∧ s.nextEvent p.val = none) ∧
    (∃ (s : State) (e : Event) (rest : List Event), s.ev.store = e :: rest ∧ s.ev.otherUsed + e.size ≤ 224) ∧
    (∃ (s : State), s.ev.store = []) ∧
    (∃ (p : Fin 2) (s : State), (s.port p.val).lost ≠ 0 ∧ s.ev.otherUsed + 2 ≤ 224) ∧
    (∃ (p : Fin 2) (s : State), (s.port p.val).lost = 0) :=
  ⟨⟨0, wst 2, 3, [4], by decide +kernel⟩,
   ⟨1, wst 8, ⟨7, 1, 3, 31, 77, [5], false, true, false, false, false, false, false⟩, by decide +kernel⟩,
   ⟨0, wst 8, by decide +kernel⟩,
   ⟨wst 8, ⟨0, 2, 3, 31, 77, [5], true, false, false, false, false, false, false⟩, [], by decide +kernel⟩,
   ⟨wst 2, by decide +kernel⟩,
   ⟨0, wst 3, by decide +kernel⟩,
   ⟨0, wst 8, by decide +kernel⟩⟩

end EventsReachThePort

namespace JobWordsAssemble

def asm (ws : List Word) : M := fun s => ws.foldl (fun s w => nx (.jobWinWrite 1 w) (nx (.jobWinWrite 0 w) s)) s
def states : List State := [ready, base] ++ var [[upP, asm [hd 1 2 31]], [upP, asm [hd 1 2 31, BitVec.ofNat 36 (3 * 2^32 + 4)]],
  [upP, asm [hd 1 2 31, BitVec.ofNat 36 (3 * 2^32 + 4), 9]], [upP, asm [hd 1 2 31, BitVec.ofNat 36 (3 * 2^32 + 5), 9, hd 2 1 31]],
  [upP, asm [hd 1 2 31, BitVec.ofNat 36 (3 * 2^32 + 0), 9]], [upP, asm [hd 1 2 31, BitVec.ofNat 36 (3 * 2^32 + 1)]]]

def wst (i : Nat) : State := states.getD i State.reset

/-- States and operands that meet the hypotheses of each clause of Obligations.JobWordsAssemble. -/
theorem test_witness_JobWordsAssemble :
    (∃ (p : Fin 2) (w : Word) (s : State),
      ((s.port p.val).asm.isOpen = false ∨ (s.port p.val).asm.left = 0) ∧ hdrType w = tJobBegin) ∧
    (∃ (p : Fin 2) (w : Word) (s : State), (s.port p.val).asm.isOpen = false ∧ hdrType w ≠ tJobBegin) ∧
    (∃ (p : Fin 2) (w : Word) (s : State),
      (s.port p.val).asm.isOpen = true ∧
        ((s.port p.val).asm.take w).snd = false ∧ ¬((s.port p.val).asm.left = 0 ∧ hdrType w = tJobBegin)) ∧
    (∃ (p : Fin 2) (w : Word) (s : State),
      (s.port p.val).asm.isOpen = true ∧ ((s.port p.val).asm.take w).snd = true ∧ s.pendingJobs p.val < 8) :=
  ⟨⟨0, 0x102F8000, wst 0, by decide +kernel⟩,
   ⟨0, 0, wst 0, by decide +kernel⟩,
   ⟨0, 0xFFFFFFFFF, wst 2, by decide +kernel⟩,
   ⟨0, 0, wst 2, by decide +kernel⟩⟩

end JobWordsAssemble

namespace OwnershipIsResolved

def bt (k : Nat) (p : Fin 2) (b : BatchKind) : M := mj fun j => { j with batch := [⟨k, p, b⟩] }
def states : List State := [ready, base, State.reset] ++ var ([0, 1].flatMap fun p => [1, 0x40004, 0x7FFFF].flatMap fun m =>
  [[upP, bt 2 p (.claim m none)], [up1, bt 2 p (.release m none)], [upP, ml (fun l => { l with owner := 1 }), bt 7 p (.release m
  none)], [upP, ml (fun l => { l with owner := 2 }), bt 7 p (.claim m none)], [upP, ml (fun l => { l with owner := 1 }), bt 18 p
  (.claim m none)]]) ++ var [[mdv fun d => { d with st := .recovery }], [mj fun j => { j with pacing := true }]]

def wst (i : Nat) : State := states.getD i State.reset

/-- States and operands that meet the hypotheses of each clause of Obligations.BatchDecidesJobsAndLanes. -/
theorem test_witness_OwnershipIsResolved :
    (∃ (p : Fin 2) (s : State), (s.dev.st = DevState.ready ∨ s.dev.st = DevState.safe) ∧ (s.port p.val).rev ≠ 1) ∧
    (∃ (s : State), s.dev.st = DevState.ready ∨ s.dev.st = DevState.safe) ∧
    (∃ (s : State), s.dev.st = DevState.boot ∨ s.dev.st = DevState.recovery) ∧
    (∃ (p : Fin 2) (mask : BitVec 19) (s : State) (k : ℕ),
      k < s.stitch.n ∧
        s.mayDecide = true ∧
          s.jobs.batch = [{ stitch := k, port := p.val, kind := BatchKind.claim mask.toNat none }] ∧
            ∀ (i : ℕ), i ∈ maskList 19 mask.toNat → s.ownerSeen i ≠ 2 - p.val) ∧
    (∃ (p : Fin 2) (mask : BitVec 19) (s : State) (k : ℕ) (i : ℕ),
      k < s.stitch.n ∧
        s.mayDecide = true ∧
          s.jobs.batch = [{ stitch := k, port := p.val, kind := BatchKind.claim mask.toNat none }] ∧
            i ∈ maskList 19 mask.toNat ∧ s.ownerSeen i = 2 - p.val) ∧
    (∃ (p : Fin 2) (mask : BitVec 19) (s : State) (k : ℕ),
      k < s.stitch.n ∧
        s.mayDecide = true ∧ s.jobs.batch = [{ stitch := k, port := p.val, kind := BatchKind.release mask.toNat none }]) ∧
    (∃ (s : State), s.jobs.batch = []) :=
  ⟨⟨0, wst 0, by decide +kernel⟩,
   ⟨wst 0, by decide +kernel⟩,
   ⟨wst 2, by decide +kernel⟩,
   ⟨0, 1, wst 3, 2, by decide +kernel⟩,
   ⟨0, 1, wst 6, 7, 0, by decide +kernel⟩,
   ⟨0, 1, wst 5, 7, by decide +kernel⟩,
   ⟨wst 0, by decide +kernel⟩⟩

end OwnershipIsResolved

namespace JobsAreDecided

def cl (p : Nat) (ws : List Word) (ok : Bool) : Closed := ⟨p, 7, ws, ok, 0⟩
def bt (c : Closed) : M := mj fun j => { j with batch := [⟨7, c.port, .job c⟩] }
def states : List State := [ready, base] ++ var ([0,1].flatMap fun p => [[upP, bt (cl p (jobW []) true)], [upP, bt (cl p (jobW
  []) false)], [upP, bt (cl p (jobW [hd 0x20 2 2, 0, 100]) true)], [upP, bt (cl p (jobW [hd 0x20 2 25, 0, 100]) true)], [up1, bt
  (cl p (jobW [hd 0x20 2 2, 0, 100]) true)], [upP, ml (fun l => { l with owner := 1 }), bt (cl p (jobW [hd 0x20 2 2, 0, 100])
  true)], [upP, ml (fun l => { l with state := .fault }), bt (cl p (jobW [hd 0x20 2 2, 0, 100]) true)]])

def wst (i : Nat) : State := states.getD i State.reset

/-- States and operands that meet the hypotheses of each clause of Obligations.BatchDecidesJobsAndLanes. -/
theorem test_witness_JobsAreDecided :
    (∃ (c : Closed) (k : ℕ) (s : State),
      k < s.stitch.n ∧
        s.mayDecide = true ∧
          s.jobs.pacing = false ∧
            s.ev.paused = false ∧
              s.jobs.batch = [{ stitch := k, port := c.port, kind := BatchKind.job c }] ∧
                s.judge c = none ∧ s.jobs.decided ≠ BitVec.allOnes 36) ∧
    (∃ (c : Closed) (k : ℕ) (s : State) (code : ℕ) (idx : ℕ) (lane : ℕ),
      k < s.stitch.n ∧
        s.mayDecide = true ∧
          s.jobs.pacing = false ∧
            s.ev.paused = false ∧
              s.jobs.batch = [{ stitch := k, port := c.port, kind := BatchKind.job c }] ∧
                s.judge c = some (code, idx, lane) ∧ c.port < 2 ∧ (s.port c.port).asm.ser = c.ser) :=
  ⟨⟨⟨0, 7, [0x102F8000, 0x300000004, 9, 0x200F8000], true, 0⟩, 7, wst 2, by decide +kernel⟩,
   ⟨⟨0, 7, [0x102F8000, 0x300000004, 9, 0x200F8000], false, 0⟩, 7, wst 3, 4, 1, 31, by decide +kernel⟩⟩

end JobsAreDecided

namespace StopsAndTimeouts

def r0 (i : Nat) : Rec :=
  { mkr (if i < 2 then 0x10 else if i < 14 then 0x20 else if i < 18 then 0x30 else 0x40) i [0x100, 100] with tmo := true, timeout := 5 }
def run1 (i : Nat) (st : LaneState) : M := fun s =>
  { s with lanes := upd s.lanes i fun l => { l with state := st, running := some (qi 1 1 (r0 i)) }, jobs := { s.jobs with table := [mkj 1 [mkr 1 31 [], r0 i]], deadlines := [(1, 1, 5)] } }
def mv (i : Nat) : M := ma fun a => { a with mode := .move, tgt := 1000, vel := 5 }
def states : List State := [ready, base] ++ var ([0, 2, 9, 14, 17, 18].flatMap fun i => [[upP, run1 i .running], [upP, run1 i
  .running, mv i], [upP, run1 i .stopped], [upP, run1 i .recovery], [run1 i .readmit], [run1 i .idle]]) ++ var [[mj fun j =>
  { j with table := [{ mkj 1 [mkr 1 31 [], { fenceR with tmo := true }] with fences := [(1, .waiting)] }], deadlines := [(1, 1, 5)] }],
 [ml (fun l => { l with queue := [qi 1 1 fenceR] }), mj fun j =>
  { j with table := [{ mkj 1 [mkr 1 31 [], { fenceR with tmo := true }] with fences := [(1, .waiting)] }], deadlines := [(1, 1, 5)] }],
 [ml (fun l => { l with state := .readmit, raStep := 4, raRec := some (1, 1) }), mj fun j =>
  { j with table := [mkj 1 [mkr 1 31 [], mkr 7 31 [4]]], deadlines := [(1, 1, 5)] }]]

def wst (i : Nat) : State := states.getD i State.reset

/-- States and operands that meet the hypotheses of each clause of Obligations.StopsAndTimeouts. -/
theorem test_witness_StopsAndTimeouts :
    (∃ (s : State) (i : Fin 19) (q : QItem) (d : ℕ),
      (s.lane i.val).running = some q ∧
        s.jobs.deadlines = [(q.job, q.idx, d)] ∧
          d < s.nextPh ∧ (s.lane i.val).inService = true ∧ (s.lane i.val).stopping = false) ∧
    (∃ (s : State) (i : Fin 19) (q : QItem) (d : ℕ),
      (s.lane i.val).running = some q ∧
        s.jobs.deadlines = [(q.job, q.idx, d)] ∧
          d < s.nextPh ∧ (s.lane i.val).state = LaneState.stopped ∧ (s.lane i.val).stopping = false) ∧
    (∃ (s : State), ∀ (d : Word × ℕ × ℕ), d ∈ s.jobs.deadlines → s.nextPh ≤ d.snd.snd) ∧
    (∃ (s : State) (d : Word × ℕ × ℕ) (j : Job),
      s.jobs.deadlines = [d] ∧ d.snd.snd < s.nextPh ∧ s.job? d.fst = some j ∧ (d.snd.fst, FenceState.waiting) ∈ j.fences) ∧
    (∃ (s : State) (d : Word × ℕ × ℕ) (q : QItem),
      s.jobs.deadlines = [d] ∧ d.snd.snd < s.nextPh ∧ s.item? d.fst d.snd.fst = some q ∧ q.r.typ = tReAdmit) ∧
    (∃ (s : State), s.jobs.deadlines = []) :=
  ⟨⟨wst 2, 0, ⟨1, 1, ⟨16, 0, false, true, false, 0, [256, 100], 5, 0⟩⟩, 5, by decide +kernel⟩,
   ⟨wst 4, 0, ⟨1, 1, ⟨16, 0, false, true, false, 0, [256, 100], 5, 0⟩⟩, 5, by decide +kernel⟩,
   ⟨wst 0, by decide +kernel⟩,
   ⟨wst 38, (1, 1, 5), ⟨1, 0, 9, [], [(mkr 1 31 []), ⟨3, 31, false, true, false, 0, [0x400000004], 0, 0⟩],
    [⟨RecOutcome.queued, GateState.none, 0, 0, false⟩, ⟨RecOutcome.queued, GateState.none, 0, 0, false⟩], [(1,
    FenceState.waiting)], false, false, false, [], [], []⟩, by decide +kernel⟩,
   ⟨wst 40, (1, 1, 5), (qi 1 1 (mkr 7 31 [4])), by decide +kernel⟩,
   ⟨wst 0, by decide +kernel⟩⟩

end StopsAndTimeouts

namespace HeadRecordsStart

def rs (i : Nat) : List Rec := [pk i [wN (2 * 2^24)] tPrint, pk i [wN 500] tFeed, pk i [wN (2^32 - 500)] tFeed, pk i [wN (2*2^34
  + 500)] tFeed, pk i [0] tCut, pk i [wN (2^32)] tCut, pk i [1] tScan, pk i [2] tPattern,
  { pk i [wN 500] tFeed with tmo := true, timeout := 0x5005 }]
def ast : M := fun s => app [tpl 128, noOut, mh fun h =>
  { h with dl := [{ (default : DispList) with job := 1, idx := 1, lines := 100 }] }] s
def states : List State := [ready, base] ++ var ([0,1].flatMap fun i => (rs i).flatMap fun r => [[upP, stall, ast, bind, q1 i
  r], [ast, bind, q1 i r], [ast, stall, bind, q1 i r, mh fun h => { h with step := .run, job := 1, idx := 0, typ := tPrint }]])

def wst (i : Nat) : State := states.getD i State.reset

/-- States and operands that meet the hypotheses of each clause of Obligations.HeadRecordsStart. -/
theorem test_witness_HeadRecordsStart :
    (∃ (x : Fin 2) (q : QItem) (s : State),
      ((s.lane x.val).queue.head? = some q ∧
          q.r.typ = tPrint ∧ s.mayDispatch x.val = true ∧ s.obstacle (x.val) q = none ∧ q.r.gate = false) ∧
        s.feedBound x.val = true ∧
          s.masterFaulted x.val = false ∧
            s.pathBlocked (x.val) tPrint = false ∧
              (s.recStatus q.job q.idx).copies < q.r.copies ∧ (s.head x.val).step = HStep.run ∧ (s.head x.val).follow = false) ∧
    (∃ (x : Fin 2) (q : QItem) (s : State),
      ((s.lane x.val).queue.head? = some q ∧
          q.r.typ = tPrint ∧ s.mayDispatch x.val = true ∧ s.obstacle (x.val) q = none ∧ q.r.gate = false) ∧
        s.feedBound x.val = true ∧
          s.masterFaulted x.val = false ∧
            s.pathBlocked (x.val) tPrint = false ∧
              (s.recStatus q.job q.idx).copies < q.r.copies ∧ (s.head x.val).step ≠ HStep.run) ∧
    (∃ (x : Fin 2) (q : QItem) (s : State),
      ((s.lane x.val).queue.head? = some q ∧
          q.r.typ = tFeed ∧ s.mayDispatch x.val = true ∧ s.obstacle (x.val) q = none ∧ q.r.gate = false) ∧
        s.feedBound x.val = true ∧
          s.pathBlocked (x.val) tFeed = false ∧
            bits (q.r.w 1) 35 34 ≠ 1 ∧
              (s.head x.val).step ≠ HStep.run ∧
                s.blocked (s.feedAx x.val) (decide (signed 32 (bits (q.r.w 1) 31 0) < 0)) none = false ∧ s.feedAx x.val < 12) ∧
    (∃ (x : Fin 2) (q : QItem) (s : State),
      ((s.lane x.val).queue.head? = some q ∧
          q.r.typ = tCut ∧ s.mayDispatch x.val = true ∧ s.obstacle (x.val) q = none ∧ q.r.gate = false) ∧
        s.cfgB (Obj.head x.val) F.hb_CLK_EN = true ∧ s.cfg (Obj.ax (s.clkAx x.val)) F.ax_KIND = 1 ∧ (s.head x.val).step ≠ HStep.run) ∧
    (∃ (x : Fin 2) (q : QItem) (s : State),
      (s.lane x.val).queue.head? = some q ∧
        q.r.typ = tScan ∧ s.mayDispatch x.val = true ∧ s.obstacle (x.val) q = none ∧ q.r.gate = false) ∧
    (∃ (x : Fin 2) (q : QItem) (s : State),
      ((s.lane x.val).queue.head? = some q ∧
          q.r.typ = tPattern ∧ s.mayDispatch x.val = true ∧ s.obstacle (x.val) q = none ∧ q.r.gate = false) ∧
        s.feedBound x.val = true ∧
          s.pathBlocked (x.val) tPattern = false ∧ bits (q.r.w 1) 3 0 = 2 ∧ (s.head x.val).step ≠ HStep.run) :=
  ⟨⟨0, (qi 1 1 (mkr 16 0 [0x2000000])), wst 4, by decide +kernel⟩,
   ⟨0, (qi 1 1 (mkr 16 0 [0x2000000])), wst 2, by decide +kernel⟩,
   ⟨0, (qi 1 1 (mkr 17 0 [500])), wst 5, by decide +kernel⟩,
   ⟨0, (qi 1 1 (mkr 18 0 [0])), wst 14, by decide +kernel⟩,
   ⟨0, (qi 1 1 (mkr 19 0 [1])), wst 20, by decide +kernel⟩,
   ⟨0, (qi 1 1 (mkr 20 0 [2])), wst 23, by decide +kernel⟩⟩

end HeadRecordsStart

namespace AxisRecordsStart

def rs (i : Nat) : List Rec := [pk i [1, 500] tMove, pk i [1, wN (2^36-500)] tMove, pk i [wN (2^34 + 1), 500] tMove, pk i [3]
  tHome, pk i [wN (2^34 + 2^26), 0x10000, 0] tGear, pk i [wN (2^34 + 2^30 + (if i = 2 then 3 else 0) * 2^26), 0x10000, 0] tGear,
  pk i [wN (2^35 + 100), 0x5005] tDcRun, { pk i [1, 500] tMove with tmo := true, timeout := 0x5005 }]
def states : List State := [ready, base] ++ var ([2,7,13].flatMap fun i => (rs i).flatMap fun r => [[upP, stall, q1 i r],
  [stall, ma fun a => { a with posOk := true, pos := 77 }, q1 i r], [cf axs F.ax_KIND 2, q1 i r]])

def wst (i : Nat) : State := states.getD i State.reset

/-- States and operands that meet the hypotheses of each clause of Obligations.LaneRecordsStart. -/
theorem test_witness_AxisRecordsStart :
    (∃ (n : Fin 12) (q : QItem) (s : State),
      ((s.lane (n.val + 2)).queue.head? = some q ∧
          q.r.typ = tMove ∧ s.mayDispatch (n.val + 2) = true ∧ s.obstacle (n.val + 2) q = none ∧ q.r.gate = false) ∧
        s.cfg (Obj.ax n.val) F.ax_KIND = 1 ∧
          (bits (q.r.w 1) 35 34 = 1 → (s.ax n.val).posOk = true) ∧
            (if bits (q.r.w 1) 35 34 = 1 then BitVec.toInt (q.r.w 2 - (s.ax n.val).posWord)
                  else BitVec.toInt (q.r.w 2)).natAbs <
                2 ^ 34 ∧
              s.blocked (n.val)
                  (decide
                    ((if bits (q.r.w 1) 35 34 = 1 then BitVec.toInt (q.r.w 2 - (s.ax n.val).posWord)
                      else BitVec.toInt (q.r.w 2)) <
                      0))
                  none =
                false) ∧
    (∃ (n : Fin 12) (q : QItem) (s : State),
      ((s.lane (n.val + 2)).queue.head? = some q ∧
          q.r.typ = tHome ∧ s.mayDispatch (n.val + 2) = true ∧ s.obstacle (n.val + 2) q = none ∧ q.r.gate = false) ∧
        s.cfg (Obj.ax n.val) F.ax_KIND = 1) ∧
    (∃ (n : Fin 12) (q : QItem) (s : State),
      ((s.lane (n.val + 2)).queue.head? = some q ∧
          q.r.typ = tGear ∧ s.mayDispatch (n.val + 2) = true ∧ s.obstacle (n.val + 2) q = none ∧ q.r.gate = false) ∧
        s.cfg (Obj.ax n.val) F.ax_KIND = 1 ∧
          bits (q.r.w 1) 35 34 ≠ 2 ∧
            bit (q.r.w 1) 25 = false ∧
              (bits (q.r.w 1) 33 30 = 1 → s.gearLoops (n.val) 12 (bits (q.r.w 1) 29 26) = false) ∧
                s.masterBroken
                    { msrc := bits (q.r.w 1) 33 30, mindex := bits (q.r.w 1) 29 26, ratio := BitVec.toInt (q.r.w 2) } =
                  false) ∧
    (∃ (n : Fin 12) (q : QItem) (s : State),
      ((s.lane (n.val + 2)).queue.head? = some q ∧
          q.r.typ = tDcRun ∧ s.mayDispatch (n.val + 2) = true ∧ s.obstacle (n.val + 2) q = none ∧ q.r.gate = false) ∧
        s.cfg (Obj.ax n.val) F.ax_KIND = 2) :=
  ⟨⟨0, (qi 1 1 (mkr 32 2 [1, 500])), wst 2, by decide +kernel⟩,
   ⟨0, (qi 1 1 (mkr 33 2 [3])), wst 11, by decide +kernel⟩,
   ⟨0, (qi 1 1 (mkr 34 2 [0x404000000, 0x10000, 0])), wst 14, by decide +kernel⟩,
   ⟨0, (qi 1 1 (mkr 35 2 [0x800000064, 0x5005])), wst 22, by decide +kernel⟩⟩

end AxisRecordsStart

namespace BankAndAuxRecordsStart

def rs (i : Nat) : List Rec := if i < 18 then [pk i [0x15, 0] tSolRun, pk i [wN (2^35 + 0x37), 0x5005] tSolRun, pk i [0xFF]
  tSolDiag, pk i [0x180] tSolDiag, pk i [3] tLaneOut] else [pk i [wN (2^35 + 4096 + 4), 0x1020304] tAuxXfer, pk i [wN (4096 + 4),
  0x1020304] tAuxXfer, pk i [1,2] tNote, pk i [3] tLaneOut]
def states : List State := [ready, base] ++ var ([14, 16, 17, 18].flatMap fun i => (rs i).flatMap fun r => [[upP, cf chans
  F.sc_EN 1, mx fun a => { a with en := true, tunnel := true }, q1 i r], [q1 i r], [cf chans F.sc_EN 2, q1 i
  { r with tmo := true, timeout := 5 }]]) ++ var [[q1 3 (pk 31 [8] tLaneOut)]]

def wst (i : Nat) : State := states.getD i State.reset

/-- States and operands that meet the hypotheses of each clause of Obligations.LaneRecordsStart. -/
theorem test_witness_BankAndAuxRecordsStart :
    (∃ (q : QItem) (s : State) (b : Fin 4),
      ((s.lane (b.val + 14)).queue.head? = some q ∧
          q.r.typ = tSolRun ∧ s.mayDispatch (b.val + 14) = true ∧ s.obstacle (b.val + 14) q = none ∧ q.r.gate = false) ∧
        s.cfg (Obj.sol (8 * b.val + bits (q.r.w 1) 2 0)) F.sc_EN ≠ 0 ∧
          s.solHot (8 * b.val + bits (q.r.w 1) 2 0) = false ∧ q.r.ckpt = false) ∧
    (∃ (q : QItem) (s : State) (b : Fin 4) (k : ℕ),
      k < 8 ∧
        ((s.lane (b.val + 14)).queue.head? = some q ∧
            q.r.typ = tSolDiag ∧ s.mayDispatch (b.val + 14) = true ∧ s.obstacle (b.val + 14) q = none ∧ q.r.gate = false) ∧
          (bits (q.r.w 1) 7 0).testBit k = true ∧ s.cfg (Obj.sol (8 * b.val + k)) F.sc_EN ≠ 0) ∧
    (∃ (q : QItem) (s : State),
      ((s.lane 18).queue.head? = some q ∧
          q.r.typ = tAuxXfer ∧ s.mayDispatch 18 = true ∧ s.obstacle 18 q = none ∧ q.r.gate = false) ∧
        (s.aux q.r.auxPort).en = true ∧ (s.aux q.r.auxPort).tunnel = true) ∧
    (∃ (q : QItem) (s : State),
      ((s.lane 18).queue.head? = some q ∧
          q.r.typ = tNote ∧ s.mayDispatch 18 = true ∧ s.obstacle 18 q = none ∧ q.r.gate = false) ∧
        q.r.ckpt = false) ∧
    (∃ (q : QItem) (s : State) (i : Fin 19),
      (s.lane i.val).queue.head? = some q ∧ q.r.typ = tLaneOut ∧ s.mayDispatch i.val = true ∧ (s.lane i.val).clear = true) :=
  ⟨⟨(qi 1 1 (mkr 48 14 [21, 0])), wst 2, 0, by decide +kernel⟩,
   ⟨(qi 1 1 (mkr 49 14 [255])), wst 8, 0, 0, by decide +kernel⟩,
   ⟨(qi 1 1 (mkr 64 18 [0x800001004, 0x1020304])), wst 47, by decide +kernel⟩,
   ⟨(qi 1 1 (mkr 65 18 [1, 2])), wst 53, by decide +kernel⟩,
   ⟨(qi 1 1 (mkr 6 18 [3])), wst 56, 18, by decide +kernel⟩⟩

end BankAndAuxRecordsStart

namespace ResumeActsOnLanes

def res (op i : Nat) (seq : Word) : Rec := pk 31 [wN (op * 2^32 + 2^i), seq] tResume
def st (i : Nat) (x : LaneState) : M := fun s => { s with lanes := upd s.lanes i fun l => { l with state := x } }
def runs (i : Nat) : M := fun s =>
  { s with lanes := upd s.lanes i fun l => { l with running := l.queue.head?, queue := l.queue.drop 1 } }
def rr (i : Nat) : List Rec := if i < 2 then [pk i [0] tCut, pk i [wN (2*2^24)] tPrint, pk i [1] tScan] else if i < 14 then [pk
  i [1, 500] tMove, pk i [3] tHome, pk i [wN (2^34 + 2^26), 0x10000, 0] tGear] else if i < 18 then [pk i [0x15, 0] tSolRun, pk i
  [0xFF] tSolDiag] else [pk i [1] tNote, pk i [wN (2^35 + 4096 + 4), 0x1020304] tAuxXfer]
def states : List State := [ready, base] ++ var ([0,1,2,7,14,18].flatMap fun i => [1,2,3,6].flatMap fun op =>
  [LaneState.recovery, .stopped, .fault, .out, .running].flatMap fun x => [[upP, stall, st i x, ctl (res op i 0)]] ++ (rr
  i).flatMap fun r => [[upP, stall, bind, q1 i r, st i x, ctl (res op i (if op = 6 then 1 else 0))], [stall, bind, ma fun a =>
  { a with posOk := true, pos := 77, tgt := 500, remd := 423 }, q1 i r, runs i, st i x, ctl (res op i 0)]])

def wst (i : Nat) : State := states.getD i State.reset

/-- States and operands that meet the hypotheses of each clause of Obligations.LanesAreResumed. -/
theorem test_witness_ResumeActsOnLanes :
    (∃ (q : QItem) (rest : List QItem) (i : Fin 19) (s : State),
      s.jobs.ctrl = q :: rest ∧ maskList 19 q.r.mask = [i.val] ∧ q.resumes 1 = true ∧ (s.lane i.val).state = LaneState.recovery) ∧
    (∃ (q : QItem) (rest : List QItem) (i : Fin 19) (s : State),
      s.jobs.ctrl = q :: rest ∧
        maskList 19 q.r.mask = [i.val] ∧
          q.resumes 2 = true ∧
            (s.lane i.val).state = LaneState.stopped ∧
              (s.lane i.val).stopping = false ∧
                s.laneHeld i.val = false ∧
                  s.ntcHolds i.val = false ∧
                    (s.lane i.val).running = none ∧
                      (s.lane i.val).tail = [] ∧ (s.lane i.val).raStep ≠ 5 ∧ (s.lane i.val).stopStitch ≠ s.stitch.n + 1) ∧
    (∃ (q : QItem) (rest : List QItem) (i : Fin 19) (s : State) (n : Fin 12) (r : QItem),
      s.jobs.ctrl = q :: rest ∧
        maskList 19 q.r.mask = [i.val] ∧
          i.val = n.val + 2 ∧
            q.resumes 2 = true ∧
              (s.lane i.val).state = LaneState.stopped ∧
                (s.lane i.val).stopping = false ∧
                  s.laneHeld i.val = false ∧
                    s.ntcHolds i.val = false ∧
                      (s.lane i.val).raStep ≠ 5 ∧
                        (s.lane i.val).stopStitch ≠ s.stitch.n + 1 ∧
                          (s.lane i.val).running = some r ∧
                            r.r.typ = tMove ∧
                              s.gateOpen r = false ∧
                                s.cfg (Obj.ax n.val) F.ax_KIND = 1 ∧
                                  (s.ax n.val).posOk = true ∧
                                    (s.ax n.val).remd.natAbs < 2 ^ 34 ∧
                                      ((s.ax n.val).tgt - (s.ax n.val).pos).natAbs < 2 ^ 34 ∧
                                        s.blocked (n.val) (decide ((s.ax n.val).tgt - (s.ax n.val).pos < 0)) none = false) ∧
    (∃ (q : QItem) (rest : List QItem) (i : Fin 19) (s : State) (r : QItem),
      s.jobs.ctrl = q :: rest ∧
        maskList 19 q.r.mask = [i.val] ∧
          q.resumes 3 = true ∧
            (s.lane i.val).state = LaneState.stopped ∧
              (s.lane i.val).stopping = false ∧
                (s.lane i.val).stopStitch ≠ s.stitch.n + 1 ∧
                  (s.lane i.val).raStep ≠ 5 ∧ (s.lane i.val).running = some r ∧ s.gateOpen r = false) ∧
    (∃ (q : QItem) (rest : List QItem) (i : Fin 19) (s : State),
      s.jobs.ctrl = q :: rest ∧ maskList 19 q.r.mask = [i.val] ∧ q.resumes 6 = true ∧ s.outOfService i.val = true) :=
  ⟨⟨(qi 2 1 (mkr 5 31 [0x100000001, 0])), [], 0, wst 2, by decide +kernel⟩,
   ⟨(qi 2 1 (mkr 5 31 [0x200000001, 0])), [], 0, wst 44, by decide +kernel⟩,
   ⟨(qi 2 1 (mkr 5 31 [0x200000004, 0])), [], 2, wst 326, 0, (qi 1 1 (mkr 32 2 [1, 500])), by decide +kernel⟩,
   ⟨(qi 2 1 (mkr 5 31 [0x300000001, 0])), [], 0, wst 81, (qi 1 1 (mkr 18 0 [0])), by decide +kernel⟩,
   ⟨(qi 2 1 (mkr 5 31 [0x600000001, 0])), [], 0, wst 121, by decide +kernel⟩⟩

end ResumeActsOnLanes

namespace FencesAndGatesResolve

def res (op idx : Nat) (seq : Word) : Rec := pk 31 [wN (op * 2^32 + idx * 2^20), seq] tResume
def fj (st : FenceState) (kind : Nat) (q : Bool) : M := fun s => let r := mkr 3 31 [wN (kind * 2^34 + 0x84)];
  { s with lanes := (if q then upd (upd s.lanes 2 fun l => { l with queue := [qi 1 1 r] }) 7 fun l => { l with queue := [qi 1 1 r, qi 1 2 (pk 7 [1,500] tMove)] } else s.lanes), jobs := { s.jobs with table := [{ mkj 1 [mkr 1 31 [], r, pk 7 [1,500] tMove] with fences := [(1, st)] }], lastSeq := 1, decided := 1 } }
def gt (d : Bool) : Gate :=
  { job := 1, idx := 1, lane := 2, doubt := d, told := d, source := 0, hint := 0, srcidx := 0, href := 0, armseq := 0, window := 5, windowEnd := none, settling := false, live := true }
def gm (d : Bool) : M := mw fun w => { w with gates := w.gates.set 0 (some (gt d)) }
def states : List State := [ready, base] ++ var ([FenceState.waiting, .broken, .satisfied, .resumed].flatMap fun x =>
  [1,2,3].flatMap fun k => [true, false].flatMap fun q => [[fj x k q], [fj x k q, ctl (res 4 1 1)], [fj x k q, ctl (res 5 1 1)]])
  ++ var ([true, false].flatMap fun d => [1,2].flatMap fun v => [[q1 2 { pk 2 [1,500] tMove with gate := true, gateWord := 5 }, gm
  d, ctl (pk 31 [wN (v * 2^34 + 1), 1] tResolve)],
  [q1 2 { pk 2 [1,500] tMove with gate := true, gateWord := 5 }, (fun s =>
  { s with lanes := upd s.lanes 2 fun l => { l with running := l.queue.head?, queue := [], state := .stopped } }), gm d, ctl (pk
  31 [wN (v * 2^34 + 1), 1] tResolve)]])

def wst (i : Nat) : State := states.getD i State.reset

/-- States and operands that meet the hypotheses of each clause of Obligations.FencesAndGatesResolve. -/
theorem test_witness_FencesAndGatesResolve :
    (∃ (s : State) (q : QItem) (rest : List QItem) (j : Job),
      s.jobs.ctrl = q :: rest ∧
        s.job? (q.r.w 2) = some j ∧ (bits (q.r.w 1) 31 20, FenceState.broken) ∈ j.fences ∧ q.resumes 4 = true) ∧
    (∃ (s : State) (q : QItem) (rest : List QItem) (j : Job),
      s.jobs.ctrl = q :: rest ∧
        s.job? (q.r.w 2) = some j ∧ (bits (q.r.w 1) 31 20, FenceState.broken) ∈ j.fences ∧ q.resumes 5 = true) ∧
    (∃ (s : State) (j : Job) (k : ℕ) (r : Rec),
      s.jobs.table = [j] ∧
        j.fences = [(k, FenceState.waiting)] ∧
          j.recs[k]? = some r ∧
            r.tmo = false ∧
              bits (r.w 1) 35 34 = 1 ∧
                ∀ (i : ℕ), i ∈ maskList 19 r.mask → (s.lane i).state ≠ LaneState.recovery ∧ s.fenceAt j.seq k i = true) ∧
    (∃ (s : State), s.jobs.table = []) ∧
    (∃ (s : State) (q : QItem) (rest : List QItem) (g : Gate) (it : QItem),
      s.jobs.ctrl = q :: rest ∧
        q.r.typ = tResolve ∧
          s.gate? (q.r.w 2) (bits (q.r.w 1) 11 0) = some g ∧
            s.item? (q.r.w 2) (bits (q.r.w 1) 11 0) = some it ∧ g.doubt = true) ∧
    (∃ (s : State) (q : QItem) (rest : List QItem) (g : Gate) (it : QItem),
      s.jobs.ctrl = q :: rest ∧
        q.r.typ = tResolve ∧
          s.gate? (q.r.w 2) (bits (q.r.w 1) 11 0) = some g ∧
            s.item? (q.r.w 2) (bits (q.r.w 1) 11 0) = some it ∧ g.doubt = false) :=
  ⟨⟨wst 21, (qi 2 1 (mkr 5 31 [0x400100000, 1])), [], ⟨1, 0, 9, [], [(mkr 1 31 []), (mkr 3 31 [0x400000084]), (mkr 32 7
    [1, 500])], [⟨RecOutcome.queued, GateState.none, 0, 0, false⟩, ⟨RecOutcome.queued, GateState.none, 0, 0, false⟩,
    ⟨RecOutcome.queued, GateState.none, 0, 0, false⟩], [(1, FenceState.broken)], false, false, false, [], [], []⟩,
    by decide +kernel⟩,
   ⟨wst 22, (qi 2 1 (mkr 5 31 [0x500100000, 1])), [], ⟨1, 0, 9, [], [(mkr 1 31 []), (mkr 3 31 [0x400000084]), (mkr 32 7
    [1, 500])], [⟨RecOutcome.queued, GateState.none, 0, 0, false⟩, ⟨RecOutcome.queued, GateState.none, 0, 0, false⟩,
    ⟨RecOutcome.queued, GateState.none, 0, 0, false⟩], [(1, FenceState.broken)], false, false, false, [], [], []⟩,
    by decide +kernel⟩,
   ⟨wst 2, ⟨1, 0, 9, [], [(mkr 1 31 []), (mkr 3 31 [0x400000084]), (mkr 32 7 [1, 500])], [⟨RecOutcome.queued,
    GateState.none, 0, 0, false⟩, ⟨RecOutcome.queued, GateState.none, 0, 0, false⟩, ⟨RecOutcome.queued,
    GateState.none, 0, 0, false⟩], [(1, FenceState.waiting)], false, false, false, [], [], []⟩, 1, (mkr 3 31
    [0x400000084]), by decide +kernel⟩,
   ⟨wst 0, by decide +kernel⟩,
   ⟨wst 74, (qi 2 1 (mkr 4 31 [0x400000001, 1])), [], ⟨1, 1, 2, true, true, 0, 0, 0, 0, 0, 5, none, false, true⟩, ⟨1, 1,
    ⟨32, 2, true, false, false, 0, [1, 500], 0, 5⟩⟩, by decide +kernel⟩,
   ⟨wst 78, (qi 2 1 (mkr 4 31 [0x400000001, 1])), [], ⟨1, 1, 2, false, false, 0, 0, 0, 0, 0, 5, none, false, true⟩, ⟨1,
    1, ⟨32, 2, true, false, false, 0, [1, 500], 0, 5⟩⟩, by decide +kernel⟩⟩

end FencesAndGatesResolve

namespace LanesLeaveAndReturn

def st (i : Nat) (x : LaneState) : M := fun s => { s with lanes := upd s.lanes i fun l => { l with state := x } }
def runs (i : Nat) : M := fun s =>
  { s with lanes := upd s.lanes i fun l => { l with running := l.queue.head?, queue := l.queue.drop 1 } }
def rr (i : Nat) : List Rec := if i < 2 then [pk i [0] tCut, pk i [wN (2*2^24)] tPrint, pk i [1] tScan] else if i < 14 then [pk
  i [1, 500] tMove, pk i [3] tHome, pk i [wN (2^34 + 2^26), 0x10000, 0] tGear] else if i < 18 then [pk i [0x15, 0] tSolRun, pk i
  [0xFF] tSolDiag] else [pk i [1] tNote, pk i [wN (2^35 + 4096 + 4), 0x1020304] tAuxXfer]
def states : List State := [ready, base] ++ var ([0,1,2,7,14,18].flatMap fun i => [pk 31 [wN (2^35 + 2^i)] tLaneOut, pk 31 [wN
  (2^i)] tReAdmit].flatMap fun c => [LaneState.idle, .running, .recovery, .stopped, .fault, .out, .readmit].flatMap fun x =>
  [[upP, stall, st i x, ctl c]] ++ (rr i).flatMap fun r => [[upP, stall, bind, q1 i r, st i x, ctl c], [stall, bind, ma fun a =>
  { a with posOk := true, pos := 77, tgt := 500, remd := 423, mode := .move, vel := 3000 }, q1 i r, runs i, st i x, ctl c]])

def wst (i : Nat) : State := states.getD i State.reset

/-- States and operands that meet the hypotheses of each clause of Obligations.LanesAreResumed. -/
theorem test_witness_LanesLeaveAndReturn :
    (∃ (q : QItem) (rest : List QItem) (i : Fin 19) (s : State),
      s.jobs.ctrl = q :: rest ∧ maskList 19 q.r.mask = [i.val] ∧ q.r.typ = tLaneOut ∧ s.outOfService i.val = false) ∧
    (∃ (q : QItem) (rest : List QItem) (i : Fin 19) (s : State),
      s.jobs.ctrl = q :: rest ∧
        maskList 19 q.r.mask = [i.val] ∧
          q.r.typ = tReAdmit ∧
            s.outOfService i.val = true ∧
              s.headRefused i.val = false ∧ (i.val < 2 → ∀ (a : ℕ), a ∈ s.boundAxes i.val → s.outOfService a = false)) :=
  ⟨⟨(qi 2 1 (mkr 6 31 [0x800000001])), [], 0, wst 2, by decide +kernel⟩,
   ⟨(qi 2 1 (mkr 7 31 [1])), [], 0, wst 79, by decide +kernel⟩⟩

end LanesLeaveAndReturn

namespace EntriesCommitInOrder

def clj : Closed := ⟨0, 7, jobW [hd 0x20 2 2, 0, 100], true, 0⟩
def gt : Gate :=
  { job := 1, idx := 1, lane := 2, doubt := true, told := false, source := 0, hint := 0, srcidx := 0, href := 0, armseq := 0, window := 5, windowEnd := none, settling := false, live := true }
def wqs : List WriteReq := [⟨entryWords 2 0 0 1 clj.words, .accept clj (jobRecords clj.words)⟩, ⟨entryWords 3 0 0 1 [1,2],
  .nothing⟩, ⟨entryWords 5 0 0 1 (settleWords 1 1 0 0 0), .nothing⟩, ⟨entryWords 5 0 0 1 (settleWords 1 3 0 0 0), .nothing⟩,
  ⟨entryWords 6 0 0 1 [0x100], .nothing⟩]
def states : List State := [ready, base] ++ var (wqs.flatMap fun w => [[mw fun x => { x with wq := [w] }], [mw (fun x =>
  { x with wq := [w, w], gates := x.gates.set 3 (some gt) }), mbk fun b => { b with done := w.words.length }], [upP, q1 2
  { pk 2 [1,500] tMove with gate := true, gateWord := 5 }, mw (fun x => { x with wq := [w], gates := x.gates.set 0 (some gt) }),
  mbk fun b => { b with done := w.words.length }], [mw (fun x => { x with wq := [w, w]}), mdv (fun d =>
  { d with flashRet := d.flashRet.set 0 true }), mbk fun b => { b with done := w.words.length }]])

def wst (i : Nat) : State := states.getD i State.reset

/-- States and operands that meet the hypotheses of each clause of Obligations.EntriesCommitInOrder. -/
theorem test_witness_EntriesCommitInOrder :
    (∃ (w : WriteReq) (rest : List WriteReq) (s : State),
      s.welt.wq = w :: rest ∧
        s.frontDone = true ∧
          w.act = OnCommit.nothing ∧
            w.kind ≠ 5 ∧ BitVec.toNat (s.welt.head + BitVec.ofNat 36 w.words.length - s.welt.tail) < 1024 * 510) ∧
    (∃ (w : WriteReq) (rest : List WriteReq) (s : State) (c : Closed) (recs : List Rec),
      s.welt.wq = w :: rest ∧ s.frontDone = true ∧ w.act = OnCommit.accept c recs) ∧
    (∃ (w : WriteReq) (rest : List WriteReq) (s : State),
      s.welt.wq = w :: rest ∧
        s.frontDone = true ∧ w.act = OnCommit.nothing ∧ w.kind = 5 ∧ bits (w.body.getD 0 0) 23 20 ≠ 3) ∧
    (∃ (s : State), s.frontDone = false) :=
  ⟨⟨⟨[0x300200000, 1, 1, 2, 0x94B79147, 0xA5C000002], .nothing⟩, [⟨[0x300200000, 1, 1, 2, 0x94B79147, 0xA5C000002],
    .nothing⟩], wst 7, by decide +kernel⟩,
   ⟨⟨[0x200700000, 1, 0x102F8000, 0x300000007, 9, 0x200210000, 0, 100, 0x200F8000, 0xB1D80736, 0xA5C000007], .accept ⟨0,
    7, [0x102F8000, 0x300000007, 9, 0x200210000, 0, 100, 0x200F8000], true, 0⟩ [(mkr 1 31 [0x300000007, 9]), (mkr 32 2
    [0, 100]), (mkr 2 31 [])]⟩, [⟨[0x200700000, 1, 0x102F8000, 0x300000007, 9, 0x200210000, 0, 100, 0x200F8000,
    0xB1D80736, 0xA5C000007], .accept ⟨0, 7, [0x102F8000, 0x300000007, 9, 0x200210000, 0, 100, 0x200F8000], true, 0⟩
    [(mkr 1 31 [0x300000007, 9]), (mkr 32 2 [0, 100]), (mkr 2 31 [])]⟩], wst 3, ⟨0, 7, [0x102F8000, 0x300000007, 9,
    0x200210000, 0, 100, 0x200F8000], true, 0⟩, [(mkr 1 31 [0x300000007, 9]), (mkr 32 2 [0, 100]), (mkr 2 31 [])],
    by decide +kernel⟩,
   ⟨⟨[0x500200000, 1, 0x1100000, 0, 0x597C64DB, 0xA5C000002], .nothing⟩, [⟨[0x500200000, 1, 0x1100000, 0, 0x597C64DB,
    0xA5C000002], .nothing⟩], wst 11, by decide +kernel⟩,
   ⟨wst 0, by decide +kernel⟩⟩

end EntriesCommitInOrder

namespace GateWindowsRunOut

def gt (d se : Bool) (we : Option Nat) : Gate :=
  { job := 1, idx := 1, lane := 2, doubt := d, told := false, source := 0, hint := 0, srcidx := 0, href := 0, armseq := 0, window := 5, windowEnd := we, settling := se, live := true }
def states : List State := [ready, base] ++ var ([true,false].flatMap fun d => [true,false].flatMap fun se => [none, some 3,
  some 5000, some 5001].flatMap fun we => [0, 63].flatMap fun e => [[mw fun x =>
  { x with gates := x.gates.set! e (some (gt d se we)) }], [q1 2 { pk 2 [1,500] tMove with gate := true, gateWord := 5 }, mw fun x
  => { x with gates := x.gates.set! e (some (gt d se we)) }]])

def wst (i : Nat) : State := states.getD i State.reset

/-- States and operands that meet the hypotheses of each clause of Obligations.MarksAndGatesSettle. -/
theorem test_witness_GateWindowsRunOut :
    (∃ (e : Fin 64) (s : State) (g : Gate) (k : ℕ),
      at' s.welt.gates e.val = some g ∧ g.doubt = false ∧ g.settling = false ∧ g.windowEnd = some k ∧ k ≤ s.stitch.n) ∧
    (∃ (e : Fin 64) (s : State), at' s.welt.gates e.val = none) ∧
    (∃ (e : Fin 64) (s : State) (g : Gate),
    at' s.welt.gates ↑e = some g ∧ g.doubt = true) :=
  ⟨⟨0, wst 54, ⟨1, 1, 2, false, false, 0, 0, 0, 0, 0, 5, some 3, false, true⟩, 3, by decide +kernel⟩,
   ⟨32, wst 2, by decide +kernel⟩,
   ⟨0, wst 2, (at' (wst 2).welt.gates 0).getD default, by decide +kernel⟩⟩

end GateWindowsRunOut

namespace LookupsAnswer

def lk (key : Word) (by' part st : Nat) : M := mw fun w =>
  { w with lookups := w.lookups.map fun l => { l with key := key, byCode := by', part := part, status := st } }
def js : M := fun s =>
  { s with jobs := { s.jobs with table := [mkj 5 [mkr 1 31 []], { mkj 6 [mkr 1 31 [], pk 2 [1,500] tMove] with href := 8 }], lastSeq := 6, decided := 6, history := [({ mkj 4 [mkr 1 31 []] with done := true }, 0), ({ mkj 3 [mkr 1 31 []] with done := true, href := 8 }, 0)] } }
def states : List State := [ready, base] ++ var ([0,2,3,4,5,6,7,8,9].flatMap fun key => [0,1,2,3].flatMap fun b =>
  [0,1,2].flatMap fun pt => [0, 1, 2].map fun st => [js, lk key b pt st]) ++ var [[lk 0 1 0 1], [lk 0xFFFFFFFFF 1 0 1]]

def wst (i : Nat) : State := states.getD i State.reset

/-- States and operands that meet the hypotheses of each clause of Obligations.LookupsAnswer. -/
theorem test_witness_LookupsAnswer :
    (∃ (b : Fin 2) (s : State),
      (at' s.welt.lookups b.val).status ≠ 1 ∧
        ((at' s.welt.lookups b.val).byCode = 1 ∨ (at' s.welt.lookups b.val).byCode = 2) ∧ (at' s.welt.lookups b.val).part ≤ 1) ∧
    (∃ (b : Fin 2) (s : State), (at' s.welt.lookups b.val).status = 1) ∧
    (∃ (b : Fin 2) (s : State),
      (at' s.welt.lookups b.val).status ≠ 1 ∧
        ((at' s.welt.lookups b.val).byCode ≠ 1 ∧ (at' s.welt.lookups b.val).byCode ≠ 2 ∨ 1 < (at' s.welt.lookups b.val).part)) ∧
    (∃ (b : Fin 2) (s : State) (j : Job),
      (at' s.welt.lookups b.val).status = 1 ∧
        (at' s.welt.lookups b.val).byCode = 1 ∧
          List.find? (fun j => j.seq == (at' s.welt.lookups b.val).key) s.retained = some j) ∧
    (∃ (b : Fin 2) (s : State),
      (at' s.welt.lookups b.val).status = 1 ∧
        (at' s.welt.lookups b.val).byCode = 1 ∧ List.find? (fun j => j.seq == (at' s.welt.lookups b.val).key) s.retained = none) ∧
    (∃ (b : Fin 2) (s : State) (j : Job),
      (at' s.welt.lookups b.val).status = 1 ∧
        (at' s.welt.lookups b.val).byCode = 2 ∧
          newestJob (List.filter (fun j => j.href == (at' s.welt.lookups b.val).key) s.retained) = some j) ∧
    (∃ (b : Fin 2) (s : State),
      (at' s.welt.lookups b.val).status = 1 ∧
        (at' s.welt.lookups b.val).byCode = 2 ∧ List.find? (fun j => j.href == (at' s.welt.lookups b.val).key) s.retained = none) ∧
    (∃ (b : Fin 2) (s : State), (at' s.welt.lookups b.val).status ≠ 1) :=
  ⟨⟨0, wst 11, by decide +kernel⟩,
   ⟨0, wst 12, by decide +kernel⟩,
   ⟨0, wst 0, by decide +kernel⟩,
   ⟨0, wst 84, ⟨3, 0, 8, [], [(mkr 1 31 [])], [⟨RecOutcome.queued, GateState.none, 0, 0, false⟩], [], false, true, false,
    [], [], []⟩, by decide +kernel⟩,
   ⟨0, wst 12, by decide +kernel⟩,
   ⟨0, wst 273, ⟨6, 0, 8, [], [(mkr 1 31 []), (mkr 32 2 [1, 500])], [⟨RecOutcome.queued, GateState.none, 0, 0, false⟩,
    ⟨RecOutcome.queued, GateState.none, 0, 0, false⟩], [], false, false, false, [], [], []⟩, by decide +kernel⟩,
   ⟨0, wst 21, by decide +kernel⟩,
   ⟨0, wst 11, by decide +kernel⟩⟩

end LookupsAnswer

namespace StoresLoadAssets

def states : List State := [base] ++ var ([AssetState.free, .loading, .verifying, .ready, .damaged, .repairing].flatMap fun x =>
  [0,1].flatMap fun o => [true,false].map fun rp => [tpl 5, fun s =>
  { s with assets := { s.assets with dir := s.assets.dir.map fun c => (c.1, { c.2 with st := x, owner := o, repairing := rp, taken := 3, staged := [4], place := 0, cplace := 0, coff0 := 1024 }) } }])
  ++ var [[mdv fun d => { d with flashRet := d.flashRet.set 0 true }], [tpl 128, fun s =>
  { s with assets := { s.assets with dir := s.assets.dir.map fun c => (c.1, { c.2 with st := .verifying, staged := [], taken := 7, crc := (crcWords ((tplWords 128).map (·.2))).toNat, coff0 := 1024, cplace := 0 }), words0 := s.assets.words0.map fun c => (c.1 + 1024, c.2) } }]]

def wst (i : Nat) : State := states.getD i State.reset

/-- States and operands that meet the hypotheses of each clause of Obligations.AssetsAreManaged. -/
theorem test_witness_StoresLoadAssets :
    (∃ (e : BitVec 12) (kind : BitVec 4) (place : BitVec 2) (size : BitVec 20) (s : State) (a : ℕ),
      1 ≤ kind.toNat ∧
        kind.toNat ≤ 3 ∧
          place.toNat ≤ 2 ∧
            1 ≤ size.toNat ∧
              size.toNat ≤ 1015808 ∧
                (s.dirEntry e.toNat).st = AssetState.free ∧
                  (s.bankOut 0 = true → place.toNat = 1) ∧
                    (s.bankOut 1 = true → place.toNat = 0) ∧ s.findRun place.toNat (assetSectors size.toNat) = some a) ∧
    (∃ (e : BitVec 12) (kind : BitVec 4) (place : BitVec 2) (size : BitVec 20) (s : State),
      1 ≤ kind.toNat ∧
        kind.toNat ≤ 3 ∧
          place.toNat ≤ 2 ∧
            1 ≤ size.toNat ∧
              size.toNat ≤ 1015808 ∧
                (s.dirEntry e.toNat).st = AssetState.free ∧
                  (s.bankOut 0 = true → place.toNat = 1) ∧
                    (s.bankOut 1 = true → place.toNat = 0) ∧ s.findRun place.toNat (assetSectors size.toNat) = none) ∧
    (∃ (e : BitVec 12) (kind : BitVec 4) (place : BitVec 2) (size : BitVec 20) (s : State),
      1 ≤ kind.toNat ∧
        kind.toNat ≤ 3 ∧
          place.toNat ≤ 2 ∧ 1 ≤ size.toNat ∧ size.toNat ≤ 1015808 ∧ (s.dirEntry e.toNat).st ≠ AssetState.free) ∧
    (∃ (p : Fin 2) (e : BitVec 12) (s : State),
      ((s.dirEntry e.toNat).st = AssetState.loading ∨ (s.dirEntry e.toNat).st = AssetState.repairing) ∧
        (s.dirEntry e.toNat).owner = p.val ∧ (s.dirEntry e.toNat).taken < (s.dirEntry e.toNat).size ∧ s.stagedOf p.val < 512) ∧
    (∃ (p : Fin 2) (e : BitVec 12) (s : State),
      ((s.dirEntry e.toNat).st = AssetState.loading ∨ (s.dirEntry e.toNat).st = AssetState.repairing) ∧
        (s.dirEntry e.toNat).owner ≠ p.val) ∧
    (∃ (e : BitVec 12) (s : State),
      (s.dirEntry e.toNat).st = AssetState.verifying ∧
        (s.asStored e.toNat).verifyResult e.toNat = 1 ∧ (s.dirEntry e.toNat).repairing = false) ∧
    (∃ (e : BitVec 12) (s : State),
      (s.dirEntry e.toNat).st = AssetState.verifying ∧
        (s.asStored e.toNat).verifyResult e.toNat ≠ 1 ∧ (s.dirEntry e.toNat).repairing = false) ∧
    (∃ (e : BitVec 12) (s : State), (s.dirEntry e.toNat).st ≠ AssetState.verifying) ∧
    (∃ (p : Fin 2) (e : BitVec 12) (s : State),
      (s.dirEntry e.toNat).st = AssetState.loading ∧
        (s.dirEntry e.toNat).owner = p.val ∧ (s.dirEntry e.toNat).repairing = false) ∧
    (∃ (e : BitVec 12) (s : State),
      ((s.dirEntry e.toNat).st = AssetState.loading ∨ (s.dirEntry e.toNat).st = AssetState.repairing) ∧
        (s.dirEntry e.toNat).repairing = false) ∧
    (∃ (e : BitVec 12) (s : State), (s.dirEntry e.toNat).st = AssetState.free) :=
  ⟨⟨1, 1, 0, 1, wst 6, 1, by decide +kernel⟩,
   ⟨1, 1, 0, 0xF8000, wst 6, by decide +kernel⟩,
   ⟨0, 1, 0, 1, wst 6, by decide +kernel⟩,
   ⟨0, 0, wst 6, by decide +kernel⟩,
   ⟨1, 0, wst 6, by decide +kernel⟩,
   ⟨0, wst 26, by decide +kernel⟩,
   ⟨0, wst 10, by decide +kernel⟩,
   ⟨0, wst 6, by decide +kernel⟩,
   ⟨0, 0, wst 6, by decide +kernel⟩,
   ⟨0, wst 6, by decide +kernel⟩,
   ⟨1, wst 6, by decide +kernel⟩⟩

end StoresLoadAssets

namespace AssetsAreDeletedAndRepaired

def states : List State := [base] ++ var ([AssetState.free, .loading, .verifying, .ready, .damaged, .repairing].flatMap fun x =>
  [0,1].flatMap fun o => [true,false].map fun rp => [tpl 5, fun s =>
  { s with assets := { s.assets with dir := s.assets.dir.map fun c => (c.1, { c.2 with st := x, owner := o, repairing := rp, taken := 3, staged := [4], place := 0, cplace := 0, coff0 := 1024 }) } }])
  ++ var [[tpl 5, q1 0 (pk 0 [wN (2 * 2^24)] tPrint), fun s =>
  { s with jobs := { s.jobs with table := s.jobs.table.map fun j => { j with assets := [0] } } }], [tpl 5, mdv (fun d =>
  { d with flashRet := d.flashRet.set 0 true }), fun s =>
  { s with assets := { s.assets with dir := s.assets.dir.map fun c => (c.1, { c.2 with st := .damaged })}}], [tpl 5, fun s =>
  { s with assets := { s.assets with dir := (s.assets.dir.map fun c => (c.1, { c.2 with st := .damaged })) ++ [(1, { DirEntry.empty with st := .ready, kind := 2, size := 1015808 - 512, off0 := 512 })] }}]]

def wst (i : Nat) : State := states.getD i State.reset

/-- States and operands that meet the hypotheses of each clause of Obligations.AssetsAreManaged. -/
theorem test_witness_AssetsAreDeletedAndRepaired :
    (∃ (e : BitVec 12) (s : State),
      ((s.dirEntry e.toNat).st = AssetState.ready ∨ (s.dirEntry e.toNat).st = AssetState.damaged) ∧
        s.jobsOf e.toNat = 0 ∧ s.depsOf e.toNat = 0) ∧
    (∃ (e : BitVec 12) (s : State),
      (s.dirEntry e.toNat).st ≠ AssetState.ready ∧ (s.dirEntry e.toNat).st ≠ AssetState.damaged ∨
        s.jobsOf e.toNat ≠ 0 ∨ s.depsOf e.toNat ≠ 0) ∧
    (∃ (e : BitVec 12) (size : BitVec 20) (s : State) (a : ℕ),
      (s.dirEntry e.toNat).st = AssetState.damaged ∧
        size.toNat = (s.dirEntry e.toNat).size ∧
          s.findRun (if s.bankOut 0 = true then 1 else if s.bankOut 1 = true then 0 else (s.dirEntry e.toNat).place)
              (assetSectors size.toNat) =
            some a) ∧
    (∃ (e : BitVec 12) (size : BitVec 20) (s : State),
      (s.dirEntry e.toNat).st = AssetState.damaged ∧
        size.toNat = (s.dirEntry e.toNat).size ∧
          s.findRun (if s.bankOut 0 = true then 1 else if s.bankOut 1 = true then 0 else (s.dirEntry e.toNat).place)
              (assetSectors size.toNat) =
            none) ∧
    (∃ (e : BitVec 12) (size : BitVec 20) (s : State),
      (s.dirEntry e.toNat).st = AssetState.damaged ∧ size.toNat ≠ (s.dirEntry e.toNat).size) ∧
    (∃ (e : BitVec 12) (s : State), (s.dirEntry e.toNat).st ≠ AssetState.damaged) :=
  ⟨⟨0, wst 17, by decide +kernel⟩,
   ⟨1, wst 17, by decide +kernel⟩,
   ⟨0, 7, wst 17, 1, by decide +kernel⟩,
   ⟨0, 7, wst 27, by decide +kernel⟩,
   ⟨0, 0, wst 17, by decide +kernel⟩,
   ⟨1, wst 17, by decide +kernel⟩⟩

end AssetsAreDeletedAndRepaired

namespace BandsAreComposed

def prj (n : Nat) : M := fun s => q1 1 (pk 1 [wN (n * 2^24)] tPrint) (q1 0 (pk 0 [wN (n * 2^24)] tPrint) s)
def dls (x n : Nat) (d : Bool) : M := mh fun h =>
  { h with dl := (List.range n).map fun k => { (default : DispList) with job := 1, idx := 1, lines := 100, done := d, cnext := 1, tmpl := ⟨1, 384, 128, 0, 0, false, true, [], 0, [], [], true⟩ } }
def states : List State := [ready, base] ++ var ([0,1,2].flatMap fun n => [true,false].flatMap fun d => [[upP, tpl 128, noOut,
  hdr 384, bind, prj 2, dls 0 n d], [tpl 128, prj 1, dls 0 n d, mh fun h => { h with hadBand := true }], [tpl 128, prj 1, mdv (fun
  d => { d with sramRet := d.sramRet.set 1 true }), dls 0 n d]]) ++ var [[tpl 0, prj 2], [tpl 128, prj 2, mh fun h =>
  { h with dl := [{ (default : DispList) with job := 1, idx := 1, lines := 100, done := false, cnext := 1, bnext := 1 }], bands := [{ (default : Band) with job := 1, idx := 1, copy := 1, num := 0, lines := 64 }] }]]

def wst (i : Nat) : State := states.getD i State.reset

/-- States and operands that meet the hypotheses of each clause of Obligations.BandsAreComposed. -/
theorem test_witness_BandsAreComposed :
    (∃ (x : Fin 2) (s : State) (q : QItem) (c : ℕ),
      s.layoutNext x.val = some (q, c) ∧
        (s.head x.val).dl.length < 2 ∧
          s.layoutOk (x.val) q = true ∧
            s.dutyRuns 1 = true ∧
              at' s.dev.sramRet x.val = false ∧
                cacheWords (List.flatMap DispList.objs (s.head x.val).dl ++ s.printObjects (x.val) q (max c 1)) ≤ s.cacheRoom x.val) ∧
    (∃ (x : Fin 2) (s : State), s.layoutNext x.val = none) ∧
    (∃ (x : Fin 2) (s : State) (l : DispList),
      (s.head x.val).toCompose = some l ∧ ((s.head x.val).hadBand = false ∨ (s.head (1 - x.val)).toCompose = none)) ∧
    (∃ (x : Fin 2) (s : State), (s.head x.val).toCompose = none) :=
  ⟨⟨0, wst 2, (qi 1 1 (mkr 16 0 [0x2000000])), 0, by decide +kernel⟩,
   ⟨0, wst 11, by decide +kernel⟩,
   ⟨0, wst 11, ⟨1, 1, 0, ⟨1, 384, 128, 0, 0, false, true, [], 0, [], [], true⟩, [], 100, 1, 0, false⟩, by decide +kernel⟩,
   ⟨0, wst 2, by decide +kernel⟩⟩

end BandsAreComposed

namespace LinesStartAndEnd

def pl (l : Bool) : PlacedLine :=
  { job := 1, idx := 1, copies := 2, copy := 1, line := 5, phase := 7, late := false, last := l }
def lo : LineOut := ⟨[(0, 3)], 20, 4, 0, 0, 0⟩
def run0 (t : Nat) : M := fun s =>
  { s with lanes := [0,1].foldl (fun v i => upd v i fun l => { l with state := .running, running := some (qi 1 1 (pk i [wN (2 * 2^24)] t)) }) s.lanes, jobs := { s.jobs with table := [mkj 1 [mkr 1 31 [], pk 0 [wN (2 * 2^24)] t]] } }
def states : List State := [ready, base] ++ var ([tPrint, tPattern].flatMap fun t => [[run0 t, mh fun h =>
  { h with placed := [pl false, pl true], ready := some lo, readyFresh := some lo, step := .run, job := 1, idx := 1, typ := t, pcopy := 1, copy := 1 }],
  [hdr 384, noOut, bind, run0 t, mh fun h =>
  { h with placed := [pl true], ready := some lo, readyFresh := some lo, step := .run, job := 1, idx := 1, typ := t, pcopy := 1, copy := 1 }],
  [run0 t, mh fun h => { h with placed := [pl true], step := .run, job := 1, idx := 1, typ := t }],
  [run0 t, mh fun h => { h with lastDue := some ⟨1, 1, 1, 2⟩, step := .run, job := 1, idx := 1, typ := t, pattern := 2 }], [run0
  t, mh fun h => { h with lastDue := some ⟨1, 1, 2, 2⟩, step := .run, job := 1, idx := 1, typ := t, pattern := 2 }], [upP, run0 t,
  bind, mh fun h => { h with lastDue := some ⟨1, 1, 2, 2⟩, step := .idle, job := 1, idx := 1, typ := t, pattern := 1 }],
  [run0 t, mh fun h => { h with settle := 1, vhen := true, step := .wait, typ := t, job := 1, idx := 1 }], [run0 t, mh fun h =>
  { h with settle := 2, vhen := true, step := .wait, typ := t, job := 1, idx := 1 }], [mh fun h =>
  { h with settle := 2, vhen := true, sstate := 1, skind := 2 }, ml fun l => { l with state := .readmit, raStep := 4 }]])

def wst (i : Nat) : State := states.getD i State.reset

/-- States and operands that meet the hypotheses of each clause of Obligations.LinesStartAndEnd. -/
theorem test_witness_LinesStartAndEnd :
    (∃ (x : Fin 2) (s : State) (pl : PlacedLine) (rest : List PlacedLine) (a : LineOut) (f : LineOut),
      (s.head x.val).placed = pl :: rest ∧ (s.head x.val).ready = some a ∧ (s.head x.val).readyFresh = some f) ∧
    (∃ (x : Fin 2) (s : State), (s.head x.val).placed = []) ∧
    (∃ (x : Fin 2) (s : State) (pl : PlacedLine) (rest : List PlacedLine),
      (s.head x.val).placed = pl :: rest ∧ (s.head x.val).ready = none) ∧
    (∃ (x : Fin 2) (s : State), (s.head x.val).lastDue = none) ∧
    (∃ (x : Fin 2) (s : State) (c : CopyEnd) (q : QItem),
      (s.head x.val).lastDue = some c ∧ (s.lane x.val).itemOf c.job c.idx = some q ∧ q.r.typ = tPrint ∧ c.copy < c.copies) ∧
    (∃ (x : Fin 2) (s : State) (c : CopyEnd) (q : QItem),
      (s.head x.val).lastDue = some c ∧
        (s.lane x.val).itemOf c.job c.idx = some q ∧ c.copies ≤ c.copy ∧ (q.r.typ = tPattern → (s.head x.val).pattern ≠ 1)) ∧
    (∃ (x : Fin 2) (vh : BitVec 9) (s : State), (s.head x.val).settle ≠ 0 ∧ (s.desc x.val).vhOk vh.toNat = true) ∧
    (∃ (x : Fin 2) (vh : BitVec 9) (s : State), (s.head x.val).settle = 1 ∧ (s.desc x.val).vhOk vh.toNat = false) ∧
    (∃ (x : Fin 2) (vh : BitVec 9) (s : State), (s.head x.val).settle = 2 ∧ (s.desc x.val).vhOk vh.toNat = false) ∧
    (∃ (x : Fin 2) (s : State), (s.head x.val).settle = 0) :=
  ⟨⟨0, wst 2, ⟨1, 1, 2, 1, 5, 7, false, false⟩, [⟨1, 1, 2, 1, 5, 7, false, true⟩], ⟨[(0, 3)], 20, 4, 0, 0, 0⟩, ⟨[(0, 3)],
    20, 4, 0, 0, 0⟩, by decide +kernel⟩,
   ⟨0, wst 8, by decide +kernel⟩,
   ⟨0, wst 4, ⟨1, 1, 2, 1, 5, 7, false, true⟩, [], by decide +kernel⟩,
   ⟨0, wst 8, by decide +kernel⟩,
   ⟨0, wst 5, ⟨1, 1, 1, 2⟩, (qi 1 1 (mkr 16 0 [0x2000000])), by decide +kernel⟩,
   ⟨0, wst 6, ⟨1, 1, 2, 2⟩, (qi 1 1 (mkr 16 0 [0x2000000])), by decide +kernel⟩,
   ⟨0, 200, wst 8, by decide +kernel⟩,
   ⟨0, 0, wst 8, by decide +kernel⟩,
   ⟨0, 0, wst 9, by decide +kernel⟩,
   ⟨0, wst 2, by decide +kernel⟩⟩

end LinesStartAndEnd

namespace ScansMeasureDots

def sc (ss sk pos : Nat) (rt : Bool) : M := mh fun h =>
  { h with sstate := ss, skind := sk, scanPos := pos, retryDot := rt, vhen := true, step := if sk = 1 then .scan else .idle, measured := pos }
def states : List State := [ready, base] ++ var ([[up1, noOut, hdr 4], [upP, noOut, hdr 4, cf [.head 0, .head 1] F.hsc_AUTO_MIN
  1], [upP]] ++ ([1,2,3].flatMap fun ss => [0,1,2].flatMap fun sk => [0, 2, 3].flatMap fun pos => [true,false].map fun rt =>
  [noOut, hdr 4, sc ss sk pos rt, ml fun l =>
  { l with state := if sk = 1 then .running else l.state, running := if sk = 1 then some (qi 1 1 (pk 0 [1] tScan)) else none }]))

def wst (i : Nat) : State := states.getD i State.reset

/-- States and operands that meet the hypotheses of each clause of Obligations.ScansMeasureDots. -/
theorem test_witness_ScansMeasureDots :
    (∃ (x : Fin 2) (s : State),
      (s.lane x.val).state = LaneState.idle ∧
        (at' s.power.doms (8 + x.val)).st = DomState.run ∧
          s.cfg (Obj.head x.val) F.hsc_AUTO_MIN ≠ 0 ∧
            (s.head x.val).sstate ≠ 1 ∧ (s.head x.val).sstate ≠ 2 ∧ (s.head x.val).step = HStep.idle ∧ 1 ≤ (s.desc x.val).dots) ∧
    (∃ (x : Fin 2) (s : State), (s.lane x.val).state ≠ LaneState.idle) ∧
    (∃ (x : Fin 2) (vh : BitVec 9) (s : State) (dot : ℕ) (n : ℕ),
      (s.head x.val).sstate = 1 ∧
        (s.desc x.val).scanDot (s.head x.val).scanPos = some dot ∧
          (s.head x.val).settle = 0 ∧
            (s.head x.val).vhen = true ∧
              (s.desc x.val).vhOk vh.toNat = true ∧ (s.desc x.val).scanNext ((s.head x.val).scanPos + 1) = some n) ∧
    (∃ (x : Fin 2) (vh : BitVec 9) (s : State) (dot : ℕ),
      (s.head x.val).sstate = 1 ∧
        (s.desc x.val).scanDot (s.head x.val).scanPos = some dot ∧
          (s.head x.val).settle = 0 ∧
            (s.head x.val).vhen = true ∧
              (s.desc x.val).vhOk vh.toNat = true ∧
                (s.desc x.val).scanNext ((s.head x.val).scanPos + 1) = none ∧ (s.head x.val).skind = 0) ∧
    (∃ (x : Fin 2) (s : State) (dot : ℕ),
      (s.head x.val).sstate = 1 ∧
        (s.desc x.val).scanDot (s.head x.val).scanPos = some dot ∧
          (s.head x.val).settle = 0 ∧ (s.head x.val).vhen = true ∧ (s.head x.val).retryDot = false) ∧
    (∃ (x : Fin 2) (s : State) (dot : ℕ),
      (s.head x.val).sstate = 1 ∧
        (s.desc x.val).scanDot (s.head x.val).scanPos = some dot ∧
          (s.head x.val).settle = 0 ∧ (s.head x.val).vhen = true ∧ (s.head x.val).retryDot = true ∧ (s.head x.val).skind ≠ 2) ∧
    (∃ (x : Fin 2) (p : Fin 2) (s : State),
      (x = 1 → (s.port p.val).rev ≠ 1) ∧ (s.head x.val).skind = 0 ∧ ((s.head x.val).sstate = 1 ∨ (s.head x.val).sstate = 2)) ∧
    (∃ (p : Fin 2) (s : State), (s.port p.val).rev = 1) ∧
    (∃ (x : Fin 2) (p : Fin 2) (s : State), (x = 1 → (s.port p.val).rev ≠ 1) ∧ (s.head x.val).skind ≠ 0) :=
  ⟨⟨0, wst 3, by decide +kernel⟩,
   ⟨0, wst 11, by decide +kernel⟩,
   ⟨0, 100, wst 11, 0, 1, by decide +kernel⟩,
   ⟨0, 100, wst 10, 3, by decide +kernel⟩,
   ⟨0, wst 10, 3, by decide +kernel⟩,
   ⟨0, wst 11, 0, by decide +kernel⟩,
   ⟨0, 0, wst 10, by decide +kernel⟩,
   ⟨0, wst 2, by decide +kernel⟩,
   ⟨0, 0, wst 11, by decide +kernel⟩⟩

end ScansMeasureDots

namespace MediaAndClicker

def mss : List Obj := (List.range 4).map .ms
def snss : List Obj := (List.range 8).map .sns
def msb : M := fun s => ((s.putCfg (.head 0) F.hb_MSA_EN 1).putCfg (.head 0) F.hb_MSA 0).putCfg (.head 1) F.hb_MSA_EN 1
  |>.putCfg (.head 1) F.hb_MSA 3
def stp (x : HStep) : M := fun s => app [mh (fun h => { h with step := x, cutTry := 1 }), fun s =>
  { s with lanes := [0,1].foldl (fun v i => upd v i fun l => { l with state := .running, running := some (qi 1 1 (pk i [0] tCut)) }) s.lanes }]
  s
def states : List State := [ready, base] ++ var [[upP, stall, bind, msb, cf mss F.ms_MODE 1, noOut], [stall, bind, msb, cf mss
  F.ms_MODE 2, stp .retryWait, fun s => { s with mss := s.mss.map fun m => { m with waits := true } }], [cf snss F.sns_BRK_EN 1,
  cf snss F.sns_FUNC 2, cf snss F.sns_TAKEN 2, fun s =>
  { s with snss := s.snss.map fun m => { m with rail := 399, present := true, run := 40 } }], [stall, bind, stp .recover], [upP,
  stall, bind, stp .recover, ma fun a => { a with posOk := true }]]

def wst (i : Nat) : State := states.getD i State.reset

/-- States and operands that meet the hypotheses of each clause of Obligations.MediaAndClicker. -/
theorem test_witness_MediaAndClicker :
    (∃ (s : State) (n : Fin 4), s.cfg (Obj.ms n.val) F.ms_MODE ≠ 0) ∧
    (∃ (s : State) (n : Fin 4), s.cfg (Obj.ms n.val) F.ms_MODE = 0) ∧
    (∃ (s : State) (n : Fin 4) (x : ℕ),
      x < 2 ∧
        s.msPath n.val = some (x, 0) ∧
          (s.head x).step = HStep.retryWait ∧
            (at' s.mss n.val).waits = true ∧ (s.lane x).state = LaneState.running ∧ (s.lane x).stopping = false) ∧
    (∃ (s : State) (n : Fin 8) (k : BitVec 12),
      (at' s.snss n.val).broken = false ∧
        s.cfgB (Obj.sns n.val) F.sns_BRK_EN = true ∧ 399 ≤ (at' s.snss n.val).rail ∧ 100 * k.toNat < 5 * 4095) ∧
    (∃ (s : State) (n : Fin 8),
      s.cfg (Obj.sns n.val) F.sns_FUNC = 2 ∧
        (at' s.snss n.val).present = true ∧
          (at' s.snss n.val).active = false ∧
            (at' s.snss n.val).broken = false ∧ 20 * s.cfg (Obj.sns n.val) F.sns_TAKEN ≤ (at' s.snss n.val).run) ∧
    (∃ (s : State) (x : Fin 2),
      (s.head x.val).step = HStep.recover ∧ (s.lane x.val).state = LaneState.running ∧ (s.lane x.val).stopping = false) ∧
    (∃ (s : State) (x : Fin 2), (s.head x.val).step ≠ HStep.recover) :=
  ⟨⟨wst 3, 0, by decide +kernel⟩,
   ⟨wst 4, 0, by decide +kernel⟩,
   ⟨wst 3, 0, 0, by decide +kernel⟩,
   ⟨wst 4, 0, 0, by decide +kernel⟩,
   ⟨wst 4, 0, by decide +kernel⟩,
   ⟨wst 5, 0, by decide +kernel⟩,
   ⟨wst 4, 0, by decide +kernel⟩⟩

end MediaAndClicker

namespace AxesStepAndRest

def lr (i : Nat) : M := fun s =>
  { s with lanes := upd s.lanes i fun l => { l with state := .running, running := some (qi 1 1 (pk i [1, 500] tMove)) } }
def la : M := fun s => app [lr 2, lr 7, lr 13] s
def t0 : Nat := 5000 * 4096
def states : List State := [ready, base] ++ var [[stall, ma fun a =>
  { a with events := [(t0 + 5, 78), (t0 + 6, 79)], mode := .move, pos := 77, tgt := 90 }], [stall, bind, ma fun a =>
  { a with events := [(t0 + 5, -78)], mode := .move, pos := 77, tgt := -78 }], [stall, la, ma fun a =>
  { a with mode := .move, pos := 90, tgt := 90 }], [stall, la, bind, ma fun a =>
  { a with mode := .move, pos := 90, tgt := 90, stop := some 1 }], [stall, ma fun a => { a with restN := 100000 }], [stall, cf axs
  F.ax_SS_MODE 1, ma fun a => { a with restN := 100000 }], [stall, cf axs F.dr_STALL_FS 3, ma fun a =>
  { a with span := some 12, stallRun := 2, vel := 5 }], [stall, ma fun a => { a with span := some 1, stallRun := 2, vel := 0 }],
  [stall, la, ma fun a => { a with mode := .gear, grace := some 0, vel := 55 }], [stall, la, ma fun a =>
  { a with mode := .gear, grace := some 3, vel := 55 }]]

def wst (i : Nat) : State := states.getD i State.reset

/-- States and operands that meet the hypotheses of each clause of Obligations.AxesStepAndRest. -/
theorem test_witness_AxesStepAndRest :
    (∃ (n : Fin 12) (s : State) (e : ℕ × Int) (rest : List (ℕ × Int)) (emfA : List EmfSample),
      (s.ax n.val).events = e :: rest ∧
        e.fst < s.nextPh ∧
          (emfA = [] ∨ s.cfgB (Obj.ax n.val) F.dr_STALL_EN = false) ∧
            ∀ (x : ℕ),
              x < 2 →
                (s.cfgB (Obj.head x) F.hb_CLK_EN = true → s.clkAx x ≠ n.val) ∧
                  (s.cfgB (Obj.head x) F.hb_FEED_EN = true → s.feedAx x ≠ n.val)) ∧
    (∃ (n : Fin 12) (s : State), ∀ (e : ℕ × Int), e ∈ (s.ax n.val).events → s.nextPh ≤ e.fst) ∧
    (∃ (n : Fin 12) (s : State) (q : QItem),
      s.axDone n.val = true ∧
        s.ownerPath (n.val + 2) = none ∧
          (s.ax n.val).mode = AxMode.move ∧
            (s.lane (n.val + 2)).stopping = false ∧
              (s.lane (n.val + 2)).pathStop = false ∧
                (s.ax n.val).stop ≠ some 2 ∧ (s.ax n.val).pos = (s.ax n.val).tgt ∧ (s.lane (n.val + 2)).running = some q) ∧
    (∃ (n : Fin 12) (s : State), s.axDone n.val = false) ∧
    (∃ (n : Fin 12) (s : State),
      s.cfg (Obj.ax n.val) F.ax_KIND = 1 ∧
        (s.ax n.val).sstate = 0 ∧
          (s.ax n.val).mode = AxMode.rest ∧ s.axisWorks n.val = false ∧ s.cfg (Obj.ax n.val) F.ax_IDLE_ST ≤ (s.ax n.val).restN) ∧
    (∃ (n : Fin 12) (s : State), (s.ax n.val).restN < s.cfg (Obj.ax n.val) F.ax_IDLE_ST) ∧
    (∃ (n : Fin 12) (s : State) (k : ℕ),
      (s.ax n.val).span = some k ∧ (4 * s.cfg (Obj.ax n.val) F.dr_STALL_FS ≤ k ∨ (s.ax n.val).vel = 0)) ∧
    (∃ (n : Fin 12) (s : State), (s.ax n.val).span = none) ∧
    (∃ (n : Fin 12) (s : State), (s.ax n.val).mode = AxMode.gear ∧ (s.ax n.val).grace = some 0) ∧
    (∃ (n : Fin 12) (s : State), (s.ax n.val).grace ≠ some 0) :=
  ⟨⟨0, wst 2, (20480005, 78), [(20480006, 79)], [], by decide +kernel⟩,
   ⟨0, wst 4, by decide +kernel⟩,
   ⟨0, wst 4, (qi 1 1 (mkr 32 2 [1, 500])), by decide +kernel⟩,
   ⟨0, wst 2, by decide +kernel⟩,
   ⟨0, wst 6, by decide +kernel⟩,
   ⟨0, wst 2, by decide +kernel⟩,
   ⟨0, wst 8, 12, by decide +kernel⟩,
   ⟨0, wst 2, by decide +kernel⟩,
   ⟨0, wst 10, by decide +kernel⟩,
   ⟨0, wst 2, by decide +kernel⟩⟩

end AxesStepAndRest

namespace AxesHomeAndLimit

def lr (i : Nat) : M := fun s =>
  { s with lanes := upd s.lanes i fun l => { l with state := .running, running := some (qi 1 1 (pk i [3] tHome)) } }
def la : M := fun s => app [lr 2, lr 7, lr 13] s
def hms : List Obj := (List.range 12).flatMap fun n => (List.range 8).map fun k => .hm n k
def states : List State := [ready, base] ++ var ([0,1,2,3,4].flatMap fun k => [true, false].flatMap fun c => [[stall, cf hms
  F.hm_HKIND k, la, ma fun a =>
  { a with mode := .home, hslot := 3, htry := 1, refAt := some 500, hcheck := c, vel := 3000, pos := 490, tgt := 600 }], [stall,
  cf hms F.hm_HKIND k, la, ma fun a =>
  { a with mode := .home, hslot := 3, htry := 1, hstep := .failed, refAt := some 77, hcheck := c, pos := 490 }]]) ++ var
  ([0,1,2,3].flatMap fun k => [[stall, cf axs F.ax_ACT0 k, cf axs F.ax_ACT1 k, la, ma fun a =>
  { a with mode := .move, vel := 300, pos := 5 }], [stall, cf axs F.ax_ACT0 k, cf axs F.ax_ACT1 k, la, ma fun a =>
  { a with lim0 := true, lim1 := true }]]) ++ var [[stall, cf axs F.ax_CONF_SRC 2, (fun s =>
  { s with ssis := s.ssis.map fun q => { q with sstate := 1 } }), ma fun a =>
  { a with conf := some { (default : Conf) with waits := false } }], [stall, cf axs F.ax_CONF_SRC 2, cf axs F.ax_CONF_IDX 1, (fun
  s => { s with ssis := s.ssis.map fun q => { q with sstate := 1, busy := some default } }), ma fun a =>
  { a with conf := some { (default : Conf) with waits := false } }]]

def wst (i : Nat) : State := states.getD i State.reset

/-- States and operands that meet the hypotheses of each clause of Obligations.AxesHomeAndLimit. -/
theorem test_witness_AxesHomeAndLimit :
    (∃ (n : Fin 12) (s : State) (p : Int),
      (s.ax n.val).mode = AxMode.home ∧ (s.ax n.val).refAt = some p ∧ s.hm (n.val) F.hm_HKIND = 4 ∧ (s.ax n.val).hcheck = false) ∧
    (∃ (n : Fin 12) (s : State) (p : Int),
      (s.ax n.val).mode = AxMode.home ∧ (s.ax n.val).refAt = some p ∧ s.hm (n.val) F.hm_HKIND ≠ 4) ∧
    (∃ (n : Fin 12) (s : State), (s.ax n.val).mode ≠ AxMode.home) ∧
    (∃ (n : Fin 12) (s : State),
      (s.ax n.val).mode = AxMode.home ∧
        (s.ax n.val).hstep = HomeStep.failed ∧
          (s.lane (n.val + 2)).stopping = false ∧ ∀ (neg : Bool), s.blocked (n.val) neg (some (s.hm (n.val) F.hm_HSW)) = false) ∧
    (∃ (n : Fin 12) (s : State), (s.ax n.val).hstep ≠ HomeStep.failed) ∧
    (∃ (n : Fin 12) (s : State) (c : Conf),
      (s.ax n.val).conf = some c ∧
        c.waits = false ∧
          c.second = false ∧
            s.cfg (Obj.ax n.val) F.ax_CONF_SRC = 2 ∧ (at' s.ssis (s.cfg (Obj.ax n.val) F.ax_CONF_IDX)).sstate = 1) ∧
    (∃ (n : Fin 12) (s : State), (s.ax n.val).conf = none) ∧
    (∃ (n : Fin 12) (s : State), (s.ax n.val).lim0 = false) ∧
    (∃ (n : Fin 12) (s : State), (s.ax n.val).lim1 = false) ∧
    (∃ (n : Fin 12) (s : State), (s.ax n.val).lim0 = true) ∧
    (∃ (n : Fin 12) (s : State), (s.ax n.val).lim1 = true) :=
  ⟨⟨0, wst 21, 77, by decide +kernel⟩,
   ⟨0, wst 2, 500, by decide +kernel⟩,
   ⟨0, wst 23, by decide +kernel⟩,
   ⟨0, wst 21, by decide +kernel⟩,
   ⟨0, wst 23, by decide +kernel⟩,
   ⟨0, wst 30, ⟨0, false, false, false, false⟩, by decide +kernel⟩,
   ⟨0, wst 23, by decide +kernel⟩,
   ⟨0, wst 21, by decide +kernel⟩,
   ⟨0, wst 21, by decide +kernel⟩,
   ⟨0, wst 23, by decide +kernel⟩,
   ⟨0, wst 23, by decide +kernel⟩⟩

end AxesHomeAndLimit

namespace BridgesChop

def lr (i : Nat) : M := fun s =>
  { s with lanes := upd s.lanes i fun l => { l with state := .running, running := some (qi 1 1 (pk i [wN (2^35 + 100), 0x5005] tDcRun)) } }
def la : M := fun s => app [lr 2, lr 7, lr 13] s
def states : List State := [ready, base] ++ var ([1,2].flatMap fun k => [Switch.drivePlus, .driveMinus, .off].flatMap fun sw =>
  [true,false].flatMap fun cm => [[cf axs F.ax_KIND k, mb fun q =>
  { q with st := .run, sw := sw, nTrip := 5, nOpen := 1, hold := [(3, 0)] }, ma fun a =>
  { a with mode := if cm then .move else .rest, vel := 500 }], [cf axs F.ax_KIND k, cf axs F.dr_OPEN_FR 8, cf axs F.dr_OPEN_N 4,
  cf axs F.dr_IRUN 800, cf axs F.dr_IHOLD 800, mb fun q => { q with st := .run, sw := sw, nTrip := 64, nOpen := 1, hold := [] },
  ma fun a => { a with mode := .move, vel := 1, pos := 128 }]]) ++ var ([true,false].flatMap fun b => [[cf axs F.ax_KIND 2, la, ma
  fun a => { a with dcEnd := some (5000 * 4096 + 9), dcBridge := b }], [cf axs F.ax_KIND 2, la, ma fun a =>
  { a with dcEnd := some (5002 * 4096), dcBridge := b }]])

def wst (i : Nat) : State := states.getD i State.reset

/-- States and operands that meet the hypotheses of each clause of Obligations.BridgesChop. -/
theorem test_witness_BridgesChop :
    (∃ (b : Fin 24) (s : State),
      (s.br b.val).st = BState.run ∧ ((s.br b.val).sw = Switch.drivePlus ∨ (s.br b.val).sw = Switch.driveMinus)) ∧
    (∃ (b : Fin 24) (s : State), (s.br b.val).st ≠ BState.run) ∧
    (∃ (b : Fin 24) (s : State), (s.br b.val).st = BState.run ∧ s.inCurrent b.val = true) ∧
    (∃ (b : Fin 24) (s : State),
      (s.br b.val).st = BState.run ∧
        ((s.br b.val).sw = Switch.drivePlus ∨ (s.br b.val).sw = Switch.driveMinus) ∧ s.judged b.val = false) ∧
    (∃ (b : Fin 24) (code : BitVec 12) (s : State),
      (s.br b.val).st = BState.run ∧
        ((s.br b.val).sw = Switch.drivePlus ∨ (s.br b.val).sw = Switch.driveMinus) ∧
          s.judged b.val = true ∧
            s.cfg (Obj.ax (b.val / 2)) F.ax_KIND ≠ 2 ∧
              16 * signed 12 code.toNat < ↑(s.drv (b.val) F.dr_OPEN_FR * (s.dac b.val).natAbs) ∧
                (s.br b.val).nOpen + 1 < s.drv (b.val) F.dr_OPEN_N ∧ 0 < s.drv (b.val) F.dr_SENSE_N ∧ 0 < s.drv (b.val) F.dr_HEAD_N) ∧
    (∃ (b : Fin 24) (s : State), (s.br b.val).st = BState.run ∧ s.inCurrent b.val = false) ∧
    (∃ (b : Fin 24) (s : State) (e : ℕ) (r : QItem),
      (s.ax (b.val / 2)).dcEnd = some e ∧
        (s.ax (b.val / 2)).dcBridge = (b.val % 2 == 1) ∧
          (s.ax (b.val / 2)).took = false ∧ e ≤ s.nowPh + 4096 ∧ (s.lane (b.val / 2 + 2)).running = some r) ∧
    (∃ (b : Fin 24) (s : State), (s.ax (b.val / 2)).dcEnd = none) :=
  ⟨⟨0, wst 2, by decide +kernel⟩,
   ⟨0, wst 26, by decide +kernel⟩,
   ⟨0, wst 2, by decide +kernel⟩,
   ⟨0, wst 2, by decide +kernel⟩,
   ⟨11, 0, wst 2, by decide +kernel⟩,
   ⟨0, wst 14, by decide +kernel⟩,
   ⟨11, wst 26, 20480009, (qi 1 1 (mkr 35 7 [0x800000064, 0x5005])), by decide +kernel⟩,
   ⟨0, wst 2, by decide +kernel⟩⟩

end BridgesChop

namespace BridgeFaultsRecover

def states : List State := [ready, base] ++ var ([none, some 3, some 6, some 8].flatMap fun c => [BState.run, .recover, .calib,
  .off].flatMap fun st => [true,false].map fun f => [stall, mb (fun q =>
  { q with st := st, sw := .drivePlus, confirm := c, fcause := 4 }), mg fun g => { g with forced := f }])

def wst (i : Nat) : State := states.getD i State.reset

/-- States and operands that meet the hypotheses of each clause of Obligations.BridgeFaultsRecover. -/
theorem test_witness_BridgeFaultsRecover :
    (∃ (b : Fin 24) (p : Probe) (s : State) (k : ℕ),
      s.bridgeCause (b.val) p = some k ∧
        (s.br b.val).st = BState.run ∧ s.bridgeForced b.val = false ∧ s.sup.vgdLow = false ∧ (s.br b.val).confirm = none) ∧
    (∃ (b : Fin 24) (p : Probe) (s : State) (k : ℕ) (c : ℕ),
      s.bridgeCause (b.val) p = some k ∧
        (s.br b.val).st = BState.run ∧ s.bridgeForced b.val = false ∧ s.sup.vgdLow = false ∧ (s.br b.val).confirm = some c) ∧
    (∃ (b : Fin 24) (p : Probe) (s : State), s.bridgeCause (b.val) p = none ∨ (s.br b.val).st ≠ BState.run) ∧
    (∃ (b : Fin 24) (s : State), (s.br b.val).st = BState.recover ∧ s.bridgeForced b.val = true) ∧
    (∃ (b : Fin 24) (s : State), (s.br b.val).st = BState.recover ∧ s.bridgeForced b.val = false) ∧
    (∃ (b : Fin 24) (s : State), (s.br b.val).st ≠ BState.recover) ∧
    (∃ (b : Fin 24) (s : State) (c : ℕ),
      (s.br b.val).confirm = some c ∧ (s.br b.val).st = BState.run ∧ (s.br b.val).confirmed1ms = false ∧ c ≤ 7) ∧
    (∃ (b : Fin 24) (s : State) (c : ℕ),
      (s.br b.val).confirm = some c ∧ (s.br b.val).st = BState.run ∧ (s.br b.val).confirmed1ms = false ∧ 7 < c) ∧
    (∃ (b : Fin 24) (s : State), (s.br b.val).confirm = none) ∧
    (∃ (s : State) (k : Fin 12) (a1 : BitVec 12) (a2 : BitVec 12) (b1 : BitVec 12) (b2 : BitVec 12) (ga : BitVec 8) (gb : BitVec 8),
      s.calibrating k.val = true ∧
        (bridgeOutcome (2 * k.val) a1 a2 ga).bad = [] ∧
          (bridgeOutcome (2 * k.val + 1) b1 b2 gb).bad = [] ∧ s.inCheck (k.val + 2) = false ∧ at' s.sup.vmLostG (k.val / 3) = false) ∧
    (∃ (s : State) (k : Fin 12), s.calibrating k.val = false) :=
  ⟨⟨0, ⟨Sys2Proof.ProbeAt.shunt, 0, false, 0xEA60, 0x5DC0⟩, wst 3, 1, by decide +kernel⟩,
   ⟨0, ⟨Sys2Proof.ProbeAt.shunt, 0, false, 0xEA60, 0x5DC0⟩, wst 11, 1, 3, by decide +kernel⟩,
   ⟨0, ⟨Sys2Proof.ProbeAt.coil, 0, false, 0, 0x5DC0⟩, wst 3, by decide +kernel⟩,
   ⟨0, wst 4, by decide +kernel⟩,
   ⟨0, wst 5, by decide +kernel⟩,
   ⟨0, wst 3, by decide +kernel⟩,
   ⟨0, wst 11, 3, by decide +kernel⟩,
   ⟨0, wst 27, 8, by decide +kernel⟩,
   ⟨0, wst 3, by decide +kernel⟩,
   ⟨wst 6, 0, 0, 0, 0, 0, 0, 0, by decide +kernel⟩,
   ⟨wst 3, 0, by decide +kernel⟩⟩

end BridgeFaultsRecover

namespace SolenoidProfilesRun

def seg2 (k : Chan → Chan) : M := mc fun q => k { q with words := [F.sp_NSEG.put 2], seg := 0, st := .run }
def sw (f : Field) (v : Nat) (q : Chan) : Chan :=
  { q with words := (List.range 17).map fun k => if k = 0 then F.sp_NSEG.put 2 else if k % 2 = f.off % 2 && f.off ≤ k then f.put v ||| q.words.getD k 0 else q.words.getD k 0 }
def states : List State := [ready] ++ var [
 [seg2 fun q => { q with start := some (3, 100), st := .idle }], [cf chans F.sc_THERM_EN 1, seg2 fun q =>
  { q with start := some (3, 100), st := .idle, hot := true }],
 [seg2 fun q => { sw F.sp_ITGT 100 q with sw := .drive }], [seg2 fun q => { sw F.sp_END 1 (sw F.sp_ITGT 100 q) with sw := .drive }],
 [seg2 fun q => { sw F.sp_END 2 (sw F.sp_ITGT 100 q) with sw := .drive }, cf chans F.sc_DIP_I 5],
 [seg2 fun q => { sw F.sp_END 2 (sw F.sp_ITGT 100 q) with sw := .drive, iMax := 100 }, cf chans F.sc_DIP_I 5],
 [seg2 fun q => { q with st := .release }], [seg2 fun q => { sw F.sp_END 0 q with seg := 0 }],
 [seg2 fun q => { sw F.sp_DUR_ST 4 (sw F.sp_END 3 q) with segBegan := 10 }], [seg2 fun q =>
  { sw F.sp_DUR_ST 4 (sw F.sp_END 3 q) with segBegan := 4999 }],
 [seg2 fun q => { q with st := .release, words := [] }], [cf chans F.sc_REL_I 50, seg2 fun q => { q with st := .release }]]

def wst (i : Nat) : State := states.getD i State.reset

/-- States and operands that meet the hypotheses of each clause of Obligations.SolenoidProfilesRun. -/
theorem test_witness_SolenoidProfilesRun :
    (∃ (c : Fin 32) (s : State) (k : ℕ) (ph : ℕ),
      (s.chan c.val).start = some (k, ph) ∧ k ≤ s.stitch.n ∧ s.solHot c.val = false ∧ (s.chan c.val).st ≠ ChanState.recover) ∧
    (∃ (c : Fin 32) (s : State) (k : ℕ) (ph : ℕ),
      (s.chan c.val).start = some (k, ph) ∧ k ≤ s.stitch.n ∧ s.solHot c.val = true) ∧
    (∃ (c : Fin 32) (s : State), (s.chan c.val).start = none) ∧
    (∃ (c : Fin 32) (s : State),
      (s.chan c.val).st = ChanState.run ∧
        (s.chan c.val).sw = SolSwitch.drive ∧ (s.chan c.val).cur F.sp_ITGT ≠ 0 ∧ (s.chan c.val).cur F.sp_END ≠ 1) ∧
    (∃ (c : Fin 32) (s : State),
      (s.chan c.val).st = ChanState.run ∧
        (s.chan c.val).sw = SolSwitch.drive ∧ (s.chan c.val).cur F.sp_ITGT ≠ 0 ∧ (s.chan c.val).cur F.sp_END = 1) ∧
    (∃ (c : Fin 32) (s : State),
      (s.chan c.val).st = ChanState.run ∧ (s.chan c.val).cur F.sp_ITGT ≠ 0 ∧ (s.chan c.val).firstTrip = none) ∧
    (∃ (c : Fin 32) (s : State) (code : BitVec 10),
      (s.chan c.val).st = ChanState.run ∧
        (s.chan c.val).sw = SolSwitch.drive ∧
          (s.chan c.val).cur F.sp_END = 2 ∧
            s.sc (c.val) F.sc_DIP_I ≠ 0 ∧
              (s.chan c.val).firstTrip = none ∧
                (s.chan c.val).closedRun = false ∧ (s.chan c.val).iMax < code.toNat + s.sc (c.val) F.sc_DIP_I) ∧
    (∃ (c : Fin 32) (s : State) (code : BitVec 10),
      (s.chan c.val).st = ChanState.run ∧
        (s.chan c.val).sw = SolSwitch.drive ∧
          (s.chan c.val).cur F.sp_END = 2 ∧
            s.sc (c.val) F.sc_DIP_I ≠ 0 ∧
              (s.chan c.val).firstTrip = none ∧
                (s.chan c.val).closedRun = false ∧ code.toNat + s.sc (c.val) F.sc_DIP_I ≤ (s.chan c.val).iMax) ∧
    (∃ (c : Fin 32) (s : State), (s.chan c.val).st = ChanState.release) ∧
    (∃ (c : Fin 32) (s : State),
      (s.chan c.val).st = ChanState.run ∧ (s.chan c.val).seg ≠ (s.chan c.val).nseg ∧ (s.chan c.val).cur F.sp_END = 0) ∧
    (∃ (c : Fin 32) (s : State),
      (s.chan c.val).st = ChanState.run ∧
        (s.chan c.val).seg < (s.chan c.val).nseg ∧
          (s.chan c.val).cur F.sp_END = 3 ∧ (s.chan c.val).segBegan + (s.chan c.val).cur F.sp_DUR_ST ≤ s.stitch.n) ∧
    (∃ (c : Fin 32) (s : State), s.stitch.n < (s.chan c.val).segBegan + (s.chan c.val).cur F.sp_DUR_ST) ∧
    (∃ (c : Fin 32) (s : State) (code : BitVec 10) (nl : BitVec 9) (vs : BitVec 9),
      (s.chan c.val).st = ChanState.release ∧
        ((s.chan c.val).releasesFast = true ∧ nl.toNat + 16 < vs.toNat ∨
          (s.chan c.val).releasesFast = false ∧ code.toNat < s.sc (c.val) F.sc_REL_I)) ∧
    (∃ (c : Fin 32) (s : State) (code : BitVec 10) (nl : BitVec 9) (vs : BitVec 9),
      (s.chan c.val).st ≠ ChanState.release ∨
        ¬((s.chan c.val).releasesFast = true ∧ nl.toNat + 16 < vs.toNat ∨
            (s.chan c.val).releasesFast = false ∧ code.toNat < s.sc (c.val) F.sc_REL_I)) :=
  ⟨⟨0, wst 1, 3, 100, by decide +kernel⟩,
   ⟨0, wst 2, 3, 100, by decide +kernel⟩,
   ⟨0, wst 6, by decide +kernel⟩,
   ⟨0, wst 6, by decide +kernel⟩,
   ⟨0, wst 4, by decide +kernel⟩,
   ⟨0, wst 6, by decide +kernel⟩,
   ⟨0, wst 6, 200, by decide +kernel⟩,
   ⟨0, wst 6, 0, by decide +kernel⟩,
   ⟨0, wst 7, by decide +kernel⟩,
   ⟨0, wst 3, by decide +kernel⟩,
   ⟨0, wst 9, by decide +kernel⟩,
   ⟨0, wst 10, by decide +kernel⟩,
   ⟨0, wst 7, 0, 0, 0, by decide +kernel⟩,
   ⟨0, wst 6, 0, 0, 0, by decide +kernel⟩⟩

end SolenoidProfilesRun

namespace SolenoidFaultsAndChecks

def seg2 : Chan → Chan := fun q => { q with words := [F.sp_NSEG.put 2], seg := 0 }
def states : List State := [ready] ++ var [
 [mc fun q => { seg2 q with st := .run }], [mc fun q => { seg2 q with st := .run, confirm := some 3 }], [mc fun q =>
  { seg2 q with st := .release, confirm := some 6 }],
 [mc fun q => { seg2 q with st := .recover, fcause := 2 }], [mc fun q => { seg2 q with st := .recover }, msu fun u =>
  { u with vgdLow := true }],
 [mc fun q => { q with st := .diag, checking := 3 }], [mc fun q => { q with st := .diag, checking := 3, again := true }],
 [mc fun q => { q with st := .diag, checking := 3, onState := true }], [mc fun q =>
  { q with st := .diag, checking := 3, onState := true, again := true }, cf chans F.sc_DIAG_IMIN 10]]

def wst (i : Nat) : State := states.getD i State.reset

/-- States and operands that meet the hypotheses of each clause of Obligations.SolenoidFaultsAndChecks. -/
theorem test_witness_SolenoidFaultsAndChecks :
    (∃ (c : Fin 32) (s : State) (p : Probe) (nh : BitVec 9) (nl : BitVec 9) (cause : ℕ),
      s.solCause (c.val) p nh.toNat nl.toNat = some cause ∧
        s.solDead c.val = false ∧ (s.chan c.val).st = ChanState.run ∧ (s.chan c.val).confirm = none) ∧
    (∃ (c : Fin 32) (s : State) (p : Probe) (nh : BitVec 9) (nl : BitVec 9) (cause : ℕ),
      s.solCause (c.val) p nh.toNat nl.toNat = some cause ∧
        s.solDead c.val = false ∧ (s.chan c.val).st = ChanState.run ∧ (s.chan c.val).confirm.isSome = true) ∧
    (∃ (c : Fin 32) (s : State) (p : Probe) (nh : BitVec 9) (nl : BitVec 9),
      s.solCause (c.val) p nh.toNat nl.toNat = none ∨ s.solDead c.val = true) ∧
    (∃ (c : Fin 32) (s : State), (s.chan c.val).st = ChanState.recover ∧ s.solDead c.val = true) ∧
    (∃ (c : Fin 32) (s : State),
      (s.chan c.val).st = ChanState.recover ∧
        s.solDead c.val = false ∧ (s.chan c.val).recRelease = false ∧ (s.chan c.val).seg ≠ (s.chan c.val).nseg) ∧
    (∃ (c : Fin 32) (s : State), (s.chan c.val).st ≠ ChanState.recover) ∧
    (∃ (c : Fin 32) (s : State) (k : ℕ), (s.chan c.val).st = ChanState.run ∧ (s.chan c.val).confirm = some k) ∧
    (∃ (c : Fin 32) (s : State) (nh1 : BitVec 9) (nh2 : BitVec 9) (nl2 : BitVec 9) (vs : BitVec 9),
      (s.chan c.val).checking = 3 ∧
        (s.chan c.val).onState = false ∧ offResult nh1.toNat nh2.toNat nl2.toNat vs.toNat ≠ 1 ∧ (s.chan c.val).again = false) ∧
    (∃ (c : Fin 32) (s : State) (nh1 : BitVec 9) (nh2 : BitVec 9) (nl2 : BitVec 9) (vs : BitVec 9),
      (s.chan c.val).checking = 3 ∧ (s.chan c.val).onState = false ∧ offResult nh1.toNat nh2.toNat nl2.toNat vs.toNat = 1) ∧
    (∃ (c : Fin 32) (s : State), (s.chan c.val).checking = 0) ∧
    (∃ (c : Fin 32) (s : State) (code : BitVec 10) (nh : BitVec 9) (nl : BitVec 9) (vs : BitVec 9),
      (s.chan c.val).checking = 3 ∧
        (s.chan c.val).onState = true ∧
          (s.chan c.val).pulseCause = 0 ∧
            (code.toNat < s.sc (c.val) F.sc_DIAG_IMIN ∧ drivenNodes nh.toNat nl.toNat vs.toNat = true) ∧
              (s.chan c.val).again = false) ∧
    (∃ (c : Fin 32) (s : State) (code : BitVec 10) (nh : BitVec 9) (nl : BitVec 9) (vs : BitVec 9),
      (s.chan c.val).checking = 3 ∧
        (s.chan c.val).onState = true ∧
          (s.chan c.val).pulseCause = 0 ∧
            ¬(code.toNat < s.sc (c.val) F.sc_DIAG_IMIN ∧ drivenNodes nh.toNat nl.toNat vs.toNat = true)) ∧
    (∃ (c : Fin 32) (s : State), (s.chan c.val).checking ≠ 3) ∧
    (∃ (c : Fin 32) (s : State), (at' s.power.doms (14 + c.val / 16)).st = DomState.off) ∧
    (∃ (c : Fin 32) (s : State) (ma : BitVec 16),
      (at' s.power.doms (14 + c.val / 16)).st ≠ DomState.off ∧
        (s.onChan c.val fun q =>
                { st := q.st, sw := q.sw, seg := q.seg, slot := q.slot, words := q.words, fcause := q.fcause,
                  imeas := q.imeas, duty := q.duty, start := q.start, segBegan := q.segBegan, firstTrip := q.firstTrip,
                  tripNow := q.tripNow, peak := q.peak, iMax := q.iMax, iMaxAt := q.iMaxAt, duties := q.duties,
                  dMax := q.dMax, dMaxAt := q.dMaxAt, lastUs := q.lastUs, tripUs := q.tripUs, cseg := q.cseg,
                  method := q.method, ctime := q.ctime, cstamp := q.cstamp, cphase := q.cphase, closedRun := q.closedRun,
                  theta1 := q.theta1, theta2 := q.theta2, tcoil := q.tcoil, tmeas := q.tmeas, hot := q.hot,
                  warn := q.warn, ocTr := q.ocTr, diagTr := q.diagTr, noclose := q.noclose, runs := q.runs,
                  tcut := q.tcut, dresult := q.dresult, dstate := q.dstate, dnh := q.dnh, dnl := q.dnl, ofs := q.ofs,
                  ofsClamp := q.ofsClamp, checking := q.checking, onState := q.onState, again := q.again,
                  pulseCause := q.pulseCause, confirm := q.confirm, recRelease := q.recRelease, recWaits := q.recWaits,
                  stopped := q.stopped, job := q.job, idx := q.idx,
                  hold := List.filter (fun h => decide (h.fst < 4)) q.hold }).coilMeasures
            (c.val) ma.toNat =
          false) :=
  ⟨⟨0, wst 1, ⟨Sys2Proof.ProbeAt.shunt, 0, false, 0xEA60, 0x5DC0⟩, 0, 0, 1, by decide +kernel⟩,
   ⟨0, wst 2, ⟨Sys2Proof.ProbeAt.shunt, 0, false, 0xEA60, 0x5DC0⟩, 0, 0, 1, by decide +kernel⟩,
   ⟨0, wst 2, ⟨Sys2Proof.ProbeAt.coil, 0, false, 0, 0x5DC0⟩, 0, 0, by decide +kernel⟩,
   ⟨0, wst 5, by decide +kernel⟩,
   ⟨0, wst 4, by decide +kernel⟩,
   ⟨0, wst 2, by decide +kernel⟩,
   ⟨0, wst 2, 3, by decide +kernel⟩,
   ⟨0, wst 6, 0, 0, 0, 0, by decide +kernel⟩,
   ⟨0, wst 6, 30, 0, 0, 0, by decide +kernel⟩,
   ⟨0, wst 2, by decide +kernel⟩,
   ⟨0, wst 8, 0, 0, 0, 0, by decide +kernel⟩,
   ⟨0, wst 8, 0, 0, 0, 30, by decide +kernel⟩,
   ⟨0, wst 2, by decide +kernel⟩,
   ⟨0, wst 0, by decide +kernel⟩,
   ⟨0, wst 2, 0, by decide +kernel⟩⟩

end SolenoidFaultsAndChecks

namespace EncodersCount

def en : M := cf encs F.enc_EN 1
def states : List State := [ready] ++ var [[en], [en, cf encs F.enc_DIR_INV 1], [en, me fun e =>
  { e with a := true, b := true, quadOpen := true }],
 [en, me fun e => { e with a := true, cnt := 5 }], [en, cf encs F.enc_IGATE 15, cf encs F.enc_CPR 0], [en, cf encs F.enc_IGATE
  15, cf encs F.enc_IPOL 1, me fun e => { e with i := true }],
 [en, me fun e => { e with quadOpen := true, b := true }], [cf encs F.enc_IDX_VAL 77, me fun e => { e with fault := true, fcode := 2 }]]

def wst (i : Nat) : State := states.getD i State.reset

/-- States and operands that meet the hypotheses of each clause of Obligations.EncodersCount. -/
theorem test_witness_EncodersCount :
    (∃ (e : Fin 8) (a : Bool) (b : Bool) (s : State),
      s.cfgB (Obj.enc e.val) F.enc_EN = true ∧ (quadPlace a b - quadPlace (s.enc e.val).a (s.enc e.val).b) % 4 = 1) ∧
    (∃ (e : Fin 8) (a : Bool) (b : Bool) (s : State),
      s.cfgB (Obj.enc e.val) F.enc_EN = true ∧ (quadPlace a b - quadPlace (s.enc e.val).a (s.enc e.val).b) % 4 = 3) ∧
    (∃ (e : Fin 8) (a : Bool) (b : Bool) (s : State),
      s.cfgB (Obj.enc e.val) F.enc_EN = false ∨ (quadPlace a b - quadPlace (s.enc e.val).a (s.enc e.val).b) % 4 = 0) ∧
    (∃ (e : Fin 8) (a : Bool) (b : Bool) (s : State),
      s.cfgB (Obj.enc e.val) F.enc_EN = true ∧
        (quadPlace a b - quadPlace (s.enc e.val).a (s.enc e.val).b) % 4 = 2 ∧
          (s.enc e.val).fault = false ∧ (s.enc e.val).quadOpen = false) ∧
    (∃ (e : Fin 8) (a : Bool) (b : Bool) (s : State),
      s.cfgB (Obj.enc e.val) F.enc_EN = true ∧
        (quadPlace a b - quadPlace (s.enc e.val).a (s.enc e.val).b) % 4 = 2 ∧
          (s.enc e.val).fault = false ∧ (s.enc e.val).quadOpen = true) ∧
    (∃ (e : Fin 8) (s : State), (s.enc e.val).quadOpen = true) ∧
    (∃ (e : Fin 8) (s : State), (s.enc e.val).quadOpen = false) ∧
    (∃ (e : Fin 8) (s : State) (level : Bool), (s.enc e.val).i = level ∨ s.cfgB (Obj.enc e.val) F.enc_EN = false) ∧
    (∃ (e : Fin 8) (s : State) (level : Bool),
      level ≠ s.cfgB (Obj.enc e.val) F.enc_IPOL ∧
        (s.enc e.val).i ≠ level ∧
          s.cfgB (Obj.enc e.val) F.enc_EN = true ∧
            (s.cfg (Obj.enc e.val) F.enc_IGATE).testBit
                  ((if (s.enc e.val).a = true then 2 else 0) + if (s.enc e.val).b = true then 1 else 0) =
                true ∧
              s.cfg (Obj.enc e.val) F.enc_CPR = 0) :=
  ⟨⟨0, true, false, wst 1, by decide +kernel⟩,
   ⟨0, false, true, wst 1, by decide +kernel⟩,
   ⟨0, false, false, wst 1, by decide +kernel⟩,
   ⟨0, true, true, wst 1, by decide +kernel⟩,
   ⟨0, false, false, wst 3, by decide +kernel⟩,
   ⟨0, wst 3, by decide +kernel⟩,
   ⟨0, wst 1, by decide +kernel⟩,
   ⟨0, wst 1, false, by decide +kernel⟩,
   ⟨0, wst 1, true, by decide +kernel⟩⟩

end EncodersCount

namespace InputsAreCaptured

def en : M := app [cf ssis F.ssi_EN 1, cf cnts F.cnt_EN 1, cf prbs F.prb_EN 1]
def bz : M := mss fun q => { q with busy := some 100 }
def states : List State := [ready] ++ var [[en], [en, bz], [en, bz, cf ssis F.ssi_CHK 1], [en, mss fun q =>
  { q with busy := some 100, again := true, sstate := 1 }], [en, mss fun q => { q with again := true }],
 [mss fun q => { q with sstate := 2, fcode := 3 }], [en, mcn fun c => { c with level := true }, cf cnts F.cnt_EDGE 2, mpr fun q
  => { q with armed := true }],
 [en, mpr fun q => { q with armed := true, queue := List.replicate 4 default }], [en, mpr fun q =>
  { q with armed := true, queue := [default, default] }], [en, cf prbs F.prb_STOP_EN 1, mpr fun q => { q with armed := true }]]

def wst (i : Nat) : State := states.getD i State.reset

/-- States and operands that meet the hypotheses of each clause of Obligations.InputsAreCaptured. -/
theorem test_witness_InputsAreCaptured :
    (∃ (s : State) (x : Fin 2) (bs : List Bool) (k : ℕ),
      (s.ssi x.val).busy = some k ∧ s.ssiCause (x.val) bs k = none) ∧
    (∃ (s : State) (x : Fin 2) (bs : List Bool) (k : ℕ) (f : ℕ),
      (s.ssi x.val).busy = some k ∧ s.ssiCause (x.val) bs k = some f ∧ (s.ssi x.val).again = false) ∧
    (∃ (s : State) (x : Fin 2) (bs : List Bool) (k : ℕ) (f : ℕ),
      (s.ssi x.val).busy = some k ∧ s.ssiCause (x.val) bs k = some f ∧ (s.ssi x.val).again = true ∧ (s.ssi x.val).sstate ≠ 2) ∧
    (∃ (s : State) (x : Fin 2), (s.ssi x.val).busy = none) ∧
    (∃ (s : State) (x : Fin 2), (s.ssi x.val).again = true ∧ (s.ssi x.val).busy = none) ∧
    (∃ (s : State) (x : Fin 2), (s.ssi x.val).again = false) ∧
    (∃ (s : State) (c : Fin 16) (level : Bool),
      (at' s.cnts c.val).level ≠ level ∧
        s.cfgB (Obj.cnt c.val) F.cnt_EN = true ∧ edgeTakes (s.cfg (Obj.cnt c.val) F.cnt_EDGE) level = true) ∧
    (∃ (s : State) (r : Fin 4) (rise : Bool),
      (at' s.prbs r.val).level ≠ rise ∧
        (at' s.prbs r.val).armed = true ∧
          s.cfgB (Obj.prb r.val) F.prb_EN = true ∧
            edgeTakes (s.cfg (Obj.prb r.val) F.prb_EDGE) rise = true ∧
              (at' s.prbs r.val).queue.length < 4 ∧ s.cfgB (Obj.prb r.val) F.prb_STOP_EN = false) ∧
    (∃ (s : State) (r : Fin 4) (rise : Bool),
      (at' s.prbs r.val).level ≠ rise ∧
        (at' s.prbs r.val).armed = true ∧
          s.cfgB (Obj.prb r.val) F.prb_EN = true ∧
            edgeTakes (s.cfg (Obj.prb r.val) F.prb_EDGE) rise = true ∧ 4 ≤ (at' s.prbs r.val).queue.length) ∧
    (∃ (s : State) (r : Fin 4) (c : Capture) (rest : List Capture), (at' s.prbs r.val).queue = c :: rest) ∧
    (∃ (s : State) (r : Fin 4), (at' s.prbs r.val).queue = []) :=
  ⟨⟨wst 2, 0, [false], 100, by decide +kernel⟩,
   ⟨wst 2, 0, [], 100, 5, by decide +kernel⟩,
   ⟨wst 4, 0, [], 100, 5, by decide +kernel⟩,
   ⟨wst 8, 0, by decide +kernel⟩,
   ⟨wst 5, 0, by decide +kernel⟩,
   ⟨wst 2, 0, by decide +kernel⟩,
   ⟨wst 2, 0, true, by decide +kernel⟩,
   ⟨wst 7, 0, true, by decide +kernel⟩,
   ⟨wst 8, 0, true, by decide +kernel⟩,
   ⟨wst 8, 0, ⟨0, 0, false, none, none, none⟩, [⟨0, 0, false, none, none, none⟩, ⟨0, 0, false, none, none, none⟩, ⟨0, 0,
    false, none, none, none⟩], by decide +kernel⟩,
   ⟨wst 2, 0, by decide +kernel⟩⟩

end InputsAreCaptured

namespace EnergyWindowsAndTrips

def states : List State := [ready] ++ var [[cf grps F.grp_P_LIM 1, cf grps F.grp_WIN 1, mg fun q =>
  { q with buckets := [2*10^11, 3] }], [cf grps F.grp_E_REL 1, cf grps F.grp_L_GRP 50000], [cf grps F.grp_E_REL 1, cf grps
  F.grp_L_GRP 500000, mg fun q => { q with forced := true }], [mg fun q => { q with oldWin := some 5 }], [mh fun h =>
  { h with vhen := true, sstate := 1, skind := 2 }, ml fun l => { l with state := .readmit }]]

def wst (i : Nat) : State := states.getD i State.reset

/-- States and operands that meet the hypotheses of each clause of Obligations.EnergyWindowsAndTrips. -/
theorem test_witness_EnergyWindowsAndTrips :
    (∃ (g : Fin 58) (s : State) (draws : Bool) (v a : BitVec 16) (b : ℕ) (rest : List ℕ),
    (s.grp ↑g).buckets = b :: rest ∧ (s.grp ↑g).relHold = false ∧
    let u := s.onGrp ↑g fun q =>
      { q with buckets := (if draws = true then b + v.toNat * a.toNat else b) :: rest, amps := a.toNat }
    u.overEnergy ↑g = false ∧ u.overRelease ↑g = false) ∧
    (∃ (g : Fin 58) (s : State) (draws : Bool) (v a : BitVec 16) (b : ℕ) (rest : List ℕ),
    (s.grp ↑g).buckets = b :: rest ∧ (s.grp ↑g).relHold = false ∧
    let u := s.onGrp ↑g fun q =>
      { q with buckets := (if draws = true then b + v.toNat * a.toNat else b) :: rest, amps := a.toNat }
    u.overEnergy ↑g = true ∧ u.overRelease ↑g = false ∧ (s.grp ↑g).seenE = false) ∧
    (∃ (g : Fin 58) (s : State) (draws : Bool) (v a : BitVec 16) (b : ℕ) (rest : List ℕ),
    (s.grp ↑g).buckets = b :: rest ∧ (s.grp ↑g).relHold = false ∧
    let u := s.onGrp ↑g fun q =>
      { q with buckets := (if draws = true then b + v.toNat * a.toNat else b) :: rest, amps := a.toNat }
    u.overEnergy ↑g = false ∧ u.overRelease ↑g = true ∧ (s.grp ↑g).forced = false) ∧
    (∃ (g : Fin 58) (s : State), (s.grp g.val).oldWin = none) ∧
    (∃ (g : Fin 58) (s : State) (w : ℕ), (s.grp g.val).oldWin = some w) ∧
    (∃ (g : Fin 58), g.val < 56) ∧
    (∃ (g : Fin 58), 56 ≤ g.val) :=
  ⟨⟨0, wst 0, false, 0, 0, 0, List.replicate 32 0, by decide +kernel⟩,
   ⟨0, wst 1, false, 0, 0, 200000000000, [3], by decide +kernel⟩,
   ⟨0, wst 2, false, 0, 200, 0, List.replicate 32 0, by decide +kernel⟩,
   ⟨0, wst 2, by decide +kernel⟩,
   ⟨0, wst 4, 5, by decide +kernel⟩,
   ⟨0, by decide +kernel⟩,
   ⟨57, by decide +kernel⟩⟩

end EnergyWindowsAndTrips

namespace SafeStateAndRelease

def states : List State := [ready] ++ var [[mp fun q => { q with rev := 1 }], [mg fun q =>
  { q with forced := true, cause := 5 }], [mg fun q => { q with forced := true, seenR := true, amps := 65535 }, cf grps
  F.grp_L_GRP 500000],
 [mk' fun k => { k with st := .safe }, mdv fun d => { d with st := .safe }], [mk' fun k =>
  { k with st := .safe, stopLow := true }], [mk' fun k => { k with st := .discharging }], [mk' fun k =>
  { k with st := .discharged, doorOpen := true }],
 [mb fun b => { b with st := .recover, recWaits := true }, mc fun q => { q with st := .recover, recWaits := true }, mg fun q =>
  { q with forced := true }]]

def wst (i : Nat) : State := states.getD i State.reset

/-- States and operands that meet the hypotheses of each clause of Obligations.SafeStateAndRelease. -/
theorem test_witness_SafeStateAndRelease :
    (∃ (p : Fin 2) (g : Fin 58) (s : State) (c : Instr),
      (s.port p.val).rev = 1 ∧ c ∈ [Instr.grel p g, Instr.rel p, Instr.disch p]) ∧
    (∃ (p : Fin 2) (g : Fin 58) (s : State), (s.port p.val).rev ≠ 1 ∧ (s.grp g.val).forced = false) ∧
    (∃ (p : Fin 2) (g : Fin 58) (s : State),
      (s.port p.val).rev ≠ 1 ∧ (s.grp g.val).forced = true ∧ s.shank.st = ShankState.normal ∧ s.mayRelease g.val = true) ∧
    (∃ (p : Fin 2) (g : Fin 58) (s : State),
      (s.port p.val).rev ≠ 1 ∧ (s.grp g.val).forced = true ∧ (s.shank.st ≠ ShankState.normal ∨ s.mayRelease g.val = false)) ∧
    (∃ (p : Fin 2) (s : State),
      (s.port p.val).rev ≠ 1 ∧
        s.shank.stopLow = false ∧
          s.shank.doorOpen = false ∧
            s.shank.st ≠ ShankState.discharging ∧
              s.sup.shut = false ∧
                s.sec.intrusive = none ∧ ∀ (k : ℕ), k < 58 → (s.grp k).forced = true → s.mayRelease k = true) ∧
    (∃ (p : Fin 2) (g : Fin 58) (s : State),
      (s.port p.val).rev ≠ 1 ∧
        (s.shank.stopLow = true ∨
          s.shank.doorOpen = true ∨
            s.shank.st = ShankState.discharging ∨ (s.grp g.val).forced = true ∧ s.mayRelease g.val = false)) ∧
    (∃ (p : Fin 2) (s : State), (s.port p.val).rev ≠ 1 ∧ s.shank.st ≠ ShankState.discharging) ∧
    (∃ (p : Fin 2) (s : State), (s.port p.val).rev ≠ 1 ∧ s.shank.st = ShankState.discharging) ∧
    (∃ (s : State), s.shank.stopLow = false) ∧
    (∃ (s : State), s.shank.doorOpen = false) :=
  ⟨⟨0, 0, wst 1, Sys2Proof.Instr.grel 0 0, by decide +kernel⟩,
   ⟨0, 0, wst 0, by decide +kernel⟩,
   ⟨0, 0, wst 2, by decide +kernel⟩,
   ⟨0, 0, wst 3, by decide +kernel⟩,
   ⟨0, wst 0, by decide +kernel⟩,
   ⟨0, 0, wst 6, by decide +kernel⟩,
   ⟨0, wst 0, by decide +kernel⟩,
   ⟨0, wst 6, by decide +kernel⟩,
   ⟨wst 0, by decide +kernel⟩,
   ⟨wst 0, by decide +kernel⟩⟩

end SafeStateAndRelease

namespace DischargeAndLimits

def states : List State := [ready] ++ var [[mk' fun k => { k with st := .discharging }], [cf [.shk] F.shk_C_M 5000, cf [.shk]
  F.shk_E_SAFE 2, mk' fun k => { k with st := .discharging, dmOn := true }],
 [mk' fun k => { k with st := .safe }], [mk' fun k => { k with st := .discharged }], [mp fun q => { q with rev := 1 }], [mp fun
  q => { q with rev := 3 }], [mp fun q => { q with rev := 3 }, mk' fun k => { k with locked := true }],
 [fun s => nx (.shankLimitWrite 0 0xC0100 (F.grp_P_LIM.put 5 ||| F.grp_WIN.put 6 ||| 0)) s]]

def wst (i : Nat) : State := states.getD i State.reset

/-- States and operands that meet the hypotheses of each clause of Obligations.DischargeAndLimits. -/
theorem test_witness_DischargeAndLimits :
    (∃ (s : State) (vm : BitVec 9) (vs : BitVec 9) (em : ℕ) (es : ℕ) (e : ℕ),
      em = storedEnergy (s.cfg Obj.shk F.shk_C_M) vm.toNat ∧
        es = storedEnergy (s.cfg Obj.shk F.shk_C_S) vs.toNat ∧
          e = s.cfg Obj.shk F.shk_E_SAFE ∧ s.shank.st = ShankState.discharging) ∧
    (∃ (s : State) (vm : BitVec 9) (vs : BitVec 9) (em : ℕ) (es : ℕ) (e : ℕ),
      em = storedEnergy (s.cfg Obj.shk F.shk_C_M) vm.toNat ∧
        es = storedEnergy (s.cfg Obj.shk F.shk_C_S) vs.toNat ∧
          e = s.cfg Obj.shk F.shk_E_SAFE ∧ (s.shank.st = ShankState.normal ∨ s.shank.st = ShankState.safe)) ∧
    (∃ (s : State), s.shank.st = ShankState.discharging) ∧
    (∃ (s : State), s.shank.st ≠ ShankState.discharging) ∧
    (∃ (p : Fin 2) (s : State) (g : Fin 58) (a : BitVec 24) (fs : List Field),
      a.toNat = 786688 + 4 * g.val ∧
        fs = List.filter (fun f => decide (f.acc = Access.wl)) (wordFields a.toNat) ∧ (s.port p.val).rev = 1) ∧
    (∃ (p : Fin 2) (s : State) (g : Fin 58) (a : BitVec 24) (fs : List Field),
      a.toNat = 786688 + 4 * g.val ∧
        fs = List.filter (fun f => decide (f.acc = Access.wl)) (wordFields a.toNat) ∧
          (s.port p.val).rev ≠ 1 ∧ s.shank.locked = true) ∧
    (∃ (p : Fin 2) (s : State) (g : Fin 58) (a : BitVec 24) (w : Word) (fs : List Field),
      a.toNat = 786688 + 4 * g.val ∧
        fs = List.filter (fun f => decide (f.acc = Access.wl)) (wordFields a.toNat) ∧
          s.limitFault (p.val) (Obj.grp g.val) a.toNat fs w = 0) ∧
    (∃ (a : BitVec 24), 786920 ≤ a.toNat) :=
  ⟨⟨wst 1, 0, 0, 0, 0, 100, by decide +kernel⟩,
   ⟨wst 5, 0, 0, 0, 0, 100, by decide +kernel⟩,
   ⟨wst 1, by decide +kernel⟩,
   ⟨wst 5, by decide +kernel⟩,
   ⟨0, wst 5, 0, 0xC0100, [⟨0, 35, 20, .wl, 1000, 1, 65535⟩, ⟨0, 19, 12, .wl, 50, 1, 255⟩, ⟨0, 11, 0, .wl, 500, 1,
    4095⟩], by decide +kernel⟩,
   ⟨0, wst 7, 0, 0xC0100, [⟨0, 35, 20, .wl, 1000, 1, 65535⟩, ⟨0, 19, 12, .wl, 50, 1, 255⟩, ⟨0, 11, 0, .wl, 500, 1,
    4095⟩], by decide +kernel⟩,
   ⟨0, wst 1, 0, 0xC0100, 0xFFFFFFFFF, [⟨0, 35, 20, .wl, 1000, 1, 65535⟩, ⟨0, 19, 12, .wl, 50, 1, 255⟩, ⟨0, 11, 0, .wl,
    500, 1, 4095⟩], by decide +kernel⟩,
   ⟨0xC01E8, by decide +kernel⟩⟩

end DischargeAndLimits

namespace TemperaturesAreRead

def states : List State := [ready] ++ var [[cf ntcs F.ntc_EN 1, cf ntcs F.ntc_RNOM 1000, cf ntcs F.ntc_BETA 3950], [mti fun t =>
  { t with code := 30 }], [mti fun t => { t with recheck := true, code := 200 }], [mti fun t =>
  { t with recheck := true, code := 0 }, cf ntcs F.ntc_EN 1, cf ntcs F.ntc_RNOM 1000, cf ntcs F.ntc_BETA 3950], [mti fun t =>
  { t with code := 200 }],
 [mti fun t => { t with code := 2000 }]]

def wst (i : Nat) : State := states.getD i State.reset

/-- States and operands that meet the hypotheses of each clause of Obligations.DeviceInputsAreRead. -/
theorem test_witness_TemperaturesAreRead :
    (∃ (i : Fin 18), i.val < 5) ∧
    (∃ (i : Fin 18) (code : BitVec 12) (s : State),
      i.val = 5 ∧ (∀ (j : ℕ), j < 6 → (s.tin j).brk = false) ∧ ∀ (j : ℕ), j < 5 → (s.tin j).code = code.toNat) ∧
    (∃ (i : Fin 18) (code : BitVec 12) (s : State),
      6 ≤ i.val ∧
        (i.val < 10 ∨ s.cfgB (Obj.ntc (i.val - 10)) F.ntc_EN = true) ∧
          82 ≤ code.toNat ∧
            code.toNat ≤ 4013 ∧ (s.thermConsts i.val).snd.fst ≠ 0 ∧ (s.thermConsts i.val).snd.snd ≠ 0 ∧ (s.tin i.val).brk = false) ∧
    (∃ (i : Fin 18) (code : BitVec 12) (s : State),
      6 ≤ i.val ∧
        (i.val < 10 ∨ s.cfgB (Obj.ntc (i.val - 10)) F.ntc_EN = true) ∧
          (code.toNat < 82 ∨ 4013 < code.toNat) ∧ (s.tin i.val).brk = false) ∧
    (∃ (i : Fin 18) (s : State), 10 ≤ i.val ∧ s.cfgB (Obj.ntc (i.val - 10)) F.ntc_EN = false) ∧
    (∃ (i : Fin 18) (s : State), (s.tin i.val).recheck = false) ∧
    (∃ (i : Fin 18) (code : BitVec 12) (s : State),
      (s.tin i.val).recheck = true ∧
        (s.tin i.val).brk = false ∧
          i.val < 6 ∧
            (s.onTin i.val fun t =>
                    { code := code.toNat, val := t.val, brk := t.brk, recheck := t.recheck, okRun := t.okRun,
                      fast := t.fast, cool := t.cool }).dieOut
                i.val =
              false) ∧
    (∃ (i : Fin 18) (code : BitVec 12) (s : State),
      (s.tin i.val).recheck = true ∧
        (s.tin i.val).brk = false ∧
          i.val < 6 ∧
            (s.onTin i.val fun t =>
                    { code := code.toNat, val := t.val, brk := t.brk, recheck := t.recheck, okRun := t.okRun,
                      fast := t.fast, cool := t.cool }).dieOut
                i.val =
              true) ∧
    (∃ (i : Fin 18) (code : BitVec 12) (s : State),
      (s.tin i.val).recheck = true ∧
        (s.tin i.val).brk = false ∧
          6 ≤ i.val ∧ 82 ≤ code.toNat ∧ code.toNat ≤ 4013 ∧ (s.thermConsts i.val).snd.fst ≠ 0 ∧ (s.thermConsts i.val).snd.snd ≠ 0) ∧
    (∃ (i : Fin 18) (code : BitVec 12) (s : State),
      (s.tin i.val).recheck = true ∧ (s.tin i.val).brk = false ∧ 6 ≤ i.val ∧ (code.toNat < 82 ∨ 4013 < code.toNat)) :=
  ⟨⟨0, by decide +kernel⟩,
   ⟨5, 200, wst 3, by decide +kernel⟩,
   ⟨17, 200, wst 1, by decide +kernel⟩,
   ⟨6, 0, wst 3, by decide +kernel⟩,
   ⟨17, wst 3, by decide +kernel⟩,
   ⟨0, wst 1, by decide +kernel⟩,
   ⟨0, 200, wst 3, by decide +kernel⟩,
   ⟨0, 0, wst 3, by decide +kernel⟩,
   ⟨17, 200, wst 3, by decide +kernel⟩,
   ⟨6, 0, wst 3, by decide +kernel⟩⟩

end TemperaturesAreRead

namespace SuppliesSagAndReturn

def states : List State := [ready] ++ var [[cf sups F.sup_NOM 100], [cf sups F.sup_NOM 100, msu fun u =>
  { u with sag := Vector.replicate 4 true }], [cf sups F.sup_NOM 100, msu fun u => { u with sag := #v[true,true,true,false] }],
  [msu fun u => { u with sag := #v[false,false,false,true] }],
 [cf axs F.ax_KIND 1, ma fun a => { a with posOk := true, vel := 5 }], [cf axs F.ax_KIND 2, mb fun b =>
  { b with drives := true, st := .run }], [msu fun u => { u with vgdLow := true, vmLow := true }, mb fun b =>
  { b with st := .run }, mc fun q => { q with st := .recover, recWaits := true }], [md fun d => { d with st := .off }, cf axs
  F.ax_KIND 1]]

def wst (i : Nat) : State := states.getD i State.reset

/-- States and operands that meet the hypotheses of each clause of Obligations.DeviceInputsAreRead. -/
theorem test_witness_SuppliesSagAndReturn :
    (∃ (m : Fin 4) (s : State),
      s.cfg (Obj.sup m.val) F.sup_NOM ≠ 0 ∧ at' s.sup.sag m.val = false ∧ s.power.st = PowerState.run) ∧
    (∃ (m : Fin 4) (s : State),
      s.cfg (Obj.sup m.val) F.sup_NOM = 0 ∨ at' s.sup.sag m.val = true ∨ s.power.st ≠ PowerState.run) ∧
    (∃ (m : Fin 4) (s : State), at' s.sup.sag m.val = true) ∧
    (∃ (m : Fin 4) (s : State), at' s.sup.sag m.val = false) ∧
    (∃ (s : State), s.sup.vgdLow = false ∧ ∀ (c : Fin 32), (s.chan c.val).st = ChanState.idle) ∧
    (∃ (s : State), s.sup.vgdLow = true) ∧
    (∃ (s : State), s.sup.vgdLow = false) ∧
    (∃ (s : State), s.sup.vmLow = false) ∧
    (∃ (s : State), s.sup.vmLow = true) :=
  ⟨⟨3, wst 3, by decide +kernel⟩,
   ⟨0, wst 3, by decide +kernel⟩,
   ⟨0, wst 3, by decide +kernel⟩,
   ⟨3, wst 3, by decide +kernel⟩,
   ⟨wst 3, by decide +kernel⟩,
   ⟨wst 7, by decide +kernel⟩,
   ⟨wst 3, by decide +kernel⟩,
   ⟨wst 3, by decide +kernel⟩,
   ⟨wst 7, by decide +kernel⟩⟩

end SuppliesSagAndReturn

namespace WordsAndErases

def wq1 : M := mw fun w => { w with wq := [⟨[1,2,3], .nothing⟩] }
def states : List State := [ready] ++ var [[wq1], [wq1, mbk fun b => { b with eraseQ := [5, 9] }], [wq1, mbk fun b =>
  { b with again := true }], [mbk fun b => { b with eraseQ := [5, 1600, 5] }], [mbk fun b =>
  { b with eraseQ := [3000], slices := 31 }], [mbk fun b =>
  { b with eraseQ := [3000], slices := 7, rewrite := [3000], erases := [(3000, 79999)] }], [mbk fun b =>
  { b with eraseQ := [3], susp := true }],
 [wq1, mbk fun b => { b with bad := [0] }], [wq1, mbk fun b => { b with first := 1000 - 990 }, mw fun w => { w with head := 520 }]]

def wst (i : Nat) : State := states.getD i State.reset

/-- States and operands that meet the hypotheses of each clause of Obligations.FlashIsKept. -/
theorem test_witness_WordsAndErases :
    (∃ (b : Fin 2) (s : State), s.programming b.val = none) ∧
    (∃ (b : Fin 2) (s : State), s.weltPulse b.val = some WeltPulse.word ∧ (s.bank b.val).again = false) ∧
    (∃ (b : Fin 2) (s : State), s.weltPulse b.val = some WeltPulse.word ∧ (s.bank b.val).again = true) ∧
    (∃ (b : Fin 2) (s : State) (k : ℕ),
      s.weltPulse b.val = some (WeltPulse.first k) ∧ (s.bank b.val).again = false) ∧
    (∃ (b : Fin 2) (s : State), (s.bank b.val).eraseQ = []) ∧
    (∃ (b : Fin 2) (s : State) (k : ℕ) (rest : List ℕ),
      (s.bank b.val).eraseQ = k :: rest ∧
        s.bankOut b.val = false ∧ (s.bank b.val).susp = false ∧ s.weltPending = false ∧ (s.bank b.val).eraseTwo = false) ∧
    (∃ (b : Fin 2) (s : State) (k : ℕ) (rest : List ℕ),
      (s.bank b.val).eraseQ = k :: rest ∧
        s.bankOut b.val = false ∧ (s.bank b.val).susp = false ∧ s.weltPending = false ∧ (s.bank b.val).slices < 31) ∧
    (∃ (b : Fin 2) (s : State) (k : ℕ) (rest : List ℕ),
      (s.bank b.val).eraseQ = k :: rest ∧
        s.bankOut b.val = false ∧
          (s.bank b.val).susp = false ∧ s.weltPending = false ∧ (s.bank b.val).slices = 31 ∧ (s.bank b.val).eraseTwo = false) ∧
    (∃ (s : State), s.weltPending = false) ∧
    (∃ (s : State), s.weltPending = true) :=
  ⟨⟨0, wst 4, by decide +kernel⟩,
   ⟨0, wst 1, by decide +kernel⟩,
   ⟨0, wst 3, by decide +kernel⟩,
   ⟨0, wst 8, 1, by decide +kernel⟩,
   ⟨0, wst 1, by decide +kernel⟩,
   ⟨0, wst 4, 5, [1600, 5], by decide +kernel⟩,
   ⟨0, wst 4, 5, [1600, 5], by decide +kernel⟩,
   ⟨0, wst 5, 3000, [], by decide +kernel⟩,
   ⟨wst 4, by decide +kernel⟩,
   ⟨wst 1, by decide +kernel⟩⟩

end WordsAndErases

namespace ScrubbingAndSettings

def states : List State := [ready, State.reset] ++ var [[mf fun f => { f with pass := true }], [mf fun f =>
  { f with pass := true, scrubEn := false }], [mdv fun d => { d with sramRet := Vector.replicate 2 true }], [mdv fun d =>
  { d with sramErr := Vector.replicate 2 (some (5000 * 4096 - 5)) }], [mdv fun d =>
  { d with sramErr := Vector.replicate 2 (some 5) }, mst fun g => { g with time := 65536 * 300000000 }],
 [mf fun f => { f with saving := some [] }], [mf fun f => { f with saving := some [(5, 7)] }, mbk fun b =>
  { b with again := true }], [fun s => s.putCfg (.ax 0) F.ax_KIND 2]]

def wst (i : Nat) : State := states.getD i State.reset

/-- States and operands that meet the hypotheses of each clause of Obligations.FlashIsKept. -/
theorem test_witness_ScrubbingAndSettings :
    (∃ (s : State), s.flash.scrubEn = true ∧ s.flash.pass = false ∧ s.mayFlash = true) ∧
    (∃ (s : State), s.flash.scrubEn = false ∨ s.flash.pass = true ∨ s.mayFlash = false) ∧
    (∃ (b : Fin 2) (s : State) (a : BitVec 21),
      s.flash.pass = true ∧
        s.flash.scrubEn = true ∧
          s.bankOut b.val = false ∧
            (s.bank b.val).eraseQ.head? ≠ some (a.toNat / 512) ∧ s.sectorFree (b.val) (a.toNat / 512) = false) ∧
    (∃ (s : State), s.flash.pass = false) ∧
    (∃ (b : Fin 2) (s : State), at' s.dev.sramRet b.val = true) ∧
    (∃ (b : Fin 2) (s : State), at' s.dev.sramRet b.val = false) ∧
    (∃ (b : Fin 2) (s : State),
      at' s.dev.sramRet b.val = false ∧ ∀ (t0 : ℕ), at' s.dev.sramErr b.val = some t0 → 200000000 < s.stitch.cycles - t0) ∧
    (∃ (b : Fin 2) (s : State) (t0 : ℕ),
      at' s.dev.sramRet b.val = false ∧ at' s.dev.sramErr b.val = some t0 ∧ s.stitch.cycles - t0 ≤ 200000000) ∧
    (∃ (s : State), s.mayFlash = true ∧ s.flashBusy = false) ∧
    (∃ (s : State), s.mayFlash = true ∧ s.flashBusy = true) ∧
    (∃ (s : State), s.mayFlash = false) ∧
    (∃ (s : State) (w : Store),
      s.flash.saving = some w ∧ ∀ (k : ℕ), k < 2 → s.bankOut k = true ∨ (s.bank k).again = false) ∧
    (∃ (s : State), s.flash.saving = none) :=
  ⟨⟨wst 4, by decide +kernel⟩,
   ⟨wst 2, by decide +kernel⟩,
   ⟨0, wst 2, 0, by decide +kernel⟩,
   ⟨wst 4, by decide +kernel⟩,
   ⟨0, wst 4, by decide +kernel⟩,
   ⟨0, wst 2, by decide +kernel⟩,
   ⟨0, wst 2, by decide +kernel⟩,
   ⟨0, wst 5, 20479995, by decide +kernel⟩,
   ⟨wst 4, by decide +kernel⟩,
   ⟨wst 2, by decide +kernel⟩,
   ⟨wst 1, by decide +kernel⟩,
   ⟨wst 7, [], by decide +kernel⟩,
   ⟨wst 2, by decide +kernel⟩⟩

end ScrubbingAndSettings

namespace AuxPortsWork

def en : M := mx fun a => { a with en := true, div := 100 }
def q0 : QItem := { (default : QItem) with r := { (default : Rec) with typ := 0 } }
def states : List State := [ready, State.reset] ++ var [[en], [en, mx fun a => { a with tx := List.replicate 64 5 }], [en, mx
  fun a => { a with tx := List.replicate 65 5 }], [en, mx fun a => { a with tunnel := true, rx := [5] }], [en, mx fun a =>
  { a with nine := true, rx := [700, 6] }], [en, mx fun a => { a with rx := List.replicate 255 6 }], [en, fun s => s.setXfer (some
  ⟨0, 5, 3, true, [], true, [3,4,5]⟩), ml fun l => { l with running := some q0 }]]

def wst (i : Nat) : State := states.getD i State.reset

/-- States and operands that meet the hypotheses of each clause of Obligations.AuxPortsWork. -/
theorem test_witness_AuxPortsWork :
    (∃ (k : Fin 2) (s : State),
      s.mayFlash = true ∧ (s.aux k.val).tunnel = false ∧ (s.aux k.val).en = true ∧ (s.aux k.val).tx.length < 65) ∧
    (∃ (k : Fin 2) (s : State),
      s.mayFlash = true ∧ (s.aux k.val).tunnel = false ∧ (s.aux k.val).en = true ∧ 65 ≤ (s.aux k.val).tx.length) ∧
    (∃ (k : Fin 2) (s : State), s.mayFlash = false ∨ (s.aux k.val).tunnel = true ∨ (s.aux k.val).en = false) ∧
    (∃ (k : Fin 2) (s : State) (e : ℕ) (rest : List ℕ),
      (s.aux k.val).rx = e :: rest ∧ (s.aux k.val).tunnel = false) ∧
    (∃ (k : Fin 2) (s : State), (s.aux k.val).rx = [] ∨ (s.aux k.val).tunnel = true) ∧
    (∃ (w : Word), bits w 23 8 = 0 ∨ 640 < bits w 23 8 ∨ bits w 5 4 = 3) ∧
    (∃ (k : Fin 2) (s : State) (w : Word),
      1 ≤ bits w 23 8 ∧
        bits w 23 8 ≤ 640 ∧ bits w 5 4 ≠ 3 ∧ (s.aux k.val).tx = [] ∧ ∀ (x : Xfer), s.uarts.xfer = some x → x.port ≠ k.val) ∧
    (∃ (k : Fin 2) (s : State) (u : Fin 4) (a : BitVec 3) (d : List (BitVec 3)) (q : List (BitVec 3)) (z : BitVec 3) (h : Heard),
      u.val = k.val + 2 ∧
        s.uartsRun = true ∧
          decodeChar (s.aux k.val).nine (s.aux k.val).par (charSamples a d q z) = some h ∧
            (s.aux k.val).en = true ∧ (s.aux k.val).addrOnly = false ∧ (s.aux k.val).tunnel = false ∧ (s.aux k.val).rx.length < 255) ∧
    (∃ (k : Fin 2) (s : State) (u : Fin 4) (a : BitVec 3) (d : List (BitVec 3)) (q : List (BitVec 3)) (z : BitVec 3) (h : Heard),
      u.val = k.val + 2 ∧
        s.uartsRun = true ∧
          decodeChar (s.aux k.val).nine (s.aux k.val).par (charSamples a d q z) = some h ∧
            (s.aux k.val).en = true ∧ (s.aux k.val).addrOnly = false ∧ (s.aux k.val).tunnel = false ∧ 255 ≤ (s.aux k.val).rx.length) ∧
    (∃ (k : Fin 2) (s : State) (u : Fin 4) (a : BitVec 3) (d : List (BitVec 3)) (q : List (BitVec 3)) (z : BitVec 3),
      u.val = k.val + 2 ∧
        ((s.aux k.val).en = false ∨
          s.uartsRun = false ∨ decodeChar (s.aux k.val).nine (s.aux k.val).par (charSamples a d q z) = none)) ∧
    (∃ (k : Fin 2) (u : Fin 4), u.val = k.val + 2) ∧
    (∃ (k : Fin 2) (s : State) (u : Fin 4), u.val = k.val + 2 ∧ (s.aux k.val).en = true) ∧
    (∃ (u : Fin 4), u.val < 2) ∧
    (∃ (s : State) (x : Xfer) (q : QItem),
      s.uarts.xfer = some x ∧ x.rxOpen = true ∧ (s.lane 18).running = some q) ∧
    (∃ (s : State), s.uarts.xfer = none) :=
  ⟨⟨0, wst 2, by decide +kernel⟩,
   ⟨0, wst 4, by decide +kernel⟩,
   ⟨0, wst 0, by decide +kernel⟩,
   ⟨0, wst 7, 6, [6, 6, 6, 6, 6, 6, 6, 6, 6, 6, 6, 6, 6, 6, 6, 6, 6, 6, 6, 6, 6, 6, 6, 6, 6, 6, 6, 6, 6, 6, 6, 6, 6, 6,
    6, 6, 6, 6, 6, 6, 6, 6, 6, 6, 6, 6, 6, 6, 6, 6, 6, 6, 6, 6, 6, 6, 6, 6, 6, 6, 6, 6, 6, 6, 6, 6, 6, 6, 6, 6, 6, 6,
    6, 6, 6, 6, 6, 6, 6, 6, 6, 6, 6, 6, 6, 6, 6, 6, 6, 6, 6, 6, 6, 6, 6, 6, 6, 6, 6, 6, 6, 6, 6, 6, 6, 6, 6, 6, 6, 6,
    6, 6, 6, 6, 6, 6, 6, 6, 6, 6, 6, 6, 6, 6, 6, 6, 6, 6, 6, 6, 6, 6, 6, 6, 6, 6, 6, 6, 6, 6, 6, 6, 6, 6, 6, 6, 6, 6,
    6, 6, 6, 6, 6, 6, 6, 6, 6, 6, 6, 6, 6, 6, 6, 6, 6, 6, 6, 6, 6, 6, 6, 6, 6, 6, 6, 6, 6, 6, 6, 6, 6, 6, 6, 6, 6, 6,
    6, 6, 6, 6, 6, 6, 6, 6, 6, 6, 6, 6, 6, 6, 6, 6, 6, 6, 6, 6, 6, 6, 6, 6, 6, 6, 6, 6, 6, 6, 6, 6, 6, 6, 6, 6, 6, 6,
    6, 6, 6, 6, 6, 6, 6, 6, 6, 6, 6, 6, 6, 6, 6, 6, 6, 6, 6, 6, 6, 6, 6, 6, 6, 6, 6, 6, 6, 6], by decide +kernel⟩,
   ⟨0, wst 2, by decide +kernel⟩,
   ⟨0, by decide +kernel⟩,
   ⟨0, wst 2, 0x6480, by decide +kernel⟩,
   ⟨0, wst 2, 2, 0, [0, 7, 0, 7, 0, 0, 7, 0], [0, 7, 0, 7, 0, 0, 7, 0], 0, ⟨74, false, true, false⟩, by decide +kernel⟩,
   ⟨0, wst 7, 2, 0, [0, 7, 0, 7, 0, 0, 7, 0], [0, 7, 0, 7, 0, 0, 7, 0], 0, ⟨74, false, true, false⟩, by decide +kernel⟩,
   ⟨0, wst 2, 2, 7, [0, 7, 0, 7, 0, 0, 7, 0], [0, 7, 0, 7, 0, 0, 7, 0], 0, by decide +kernel⟩,
   ⟨0, 2, by decide +kernel⟩,
   ⟨0, wst 2, 2, by decide +kernel⟩,
   ⟨0, by decide +kernel⟩,
   ⟨wst 8, ⟨0, 5, 3, true, [], true, [3, 4, 5]⟩, (qi 0 0 (mkr 0 0 [])), by decide +kernel⟩,
   ⟨wst 2, by decide +kernel⟩⟩

end AuxPortsWork

namespace ClocksAndCores

def cs (a b : CoreState) : M := mdv fun d => { d with cores := #v[a, b] }
def states : List State := [ready] ++ var [[mpw fun p => { p with pllU := true }], [cs .restarting .restarting], [cs .probation
  .running], [cs .probation .probation], [cs .probation .retired], [cs .retired .probation], [msec fun q =>
  { q with ir := 0x10 }]]

def wst (i : Nat) : State := states.getD i State.reset

/-- States and operands that meet the hypotheses of each clause of Obligations.ClocksAndCores. -/
theorem test_witness_ClocksAndCores :
    (∃ (s : State), s.power.pllU = true) ∧
    (∃ (s : State), s.power.pllU = false) ∧
    (∃ (s : State) (kind : BitVec 2) (dev : BitVec 10), s.clockBad kind.toNat dev.toNat = true) ∧
    (∃ (s : State) (kind : BitVec 2) (dev : BitVec 10), s.clockBad kind.toNat dev.toNat = false) ∧
    (∃ (s : State), s.sec.intrusive = some 16) ∧
    (∃ (k : Fin 2) (s : State), s.sec.intrusive ≠ some 16 ∧ at' s.dev.cores k.val = CoreState.running) ∧
    (∃ (k : Fin 2) (s : State),
      s.sec.intrusive ≠ some 16 ∧ at' s.dev.cores k.val = CoreState.probation ∧ at' s.dev.cores (1 - k.val) ≠ CoreState.retired) ∧
    (∃ (k : Fin 2) (s : State),
      s.sec.intrusive ≠ some 16 ∧ at' s.dev.cores k.val = CoreState.probation ∧ at' s.dev.cores (1 - k.val) = CoreState.retired) ∧
    (∃ (k : Fin 2) (s : State),
      at' s.dev.cores k.val = CoreState.restarting ∧ ∀ (p : ℕ), p < 2 → (s.port p).rxRing = [] ∧ (s.port p).rxFifo = []) ∧
    (∃ (k : Fin 2) (s : State), at' s.dev.cores k.val ≠ CoreState.restarting) ∧
    (∃ (k : Fin 2) (s : State), at' s.dev.cores k.val = CoreState.probation) ∧
    (∃ (k : Fin 2) (s : State), at' s.dev.cores k.val ≠ CoreState.probation) :=
  ⟨⟨wst 1, by decide +kernel⟩,
   ⟨wst 3, by decide +kernel⟩,
   ⟨wst 3, 0, 0, by decide +kernel⟩,
   ⟨wst 3, 1, 0, by decide +kernel⟩,
   ⟨wst 7, by decide +kernel⟩,
   ⟨1, wst 3, by decide +kernel⟩,
   ⟨0, wst 3, by decide +kernel⟩,
   ⟨0, wst 5, by decide +kernel⟩,
   ⟨0, wst 2, by decide +kernel⟩,
   ⟨0, wst 3, by decide +kernel⟩,
   ⟨0, wst 3, by decide +kernel⟩,
   ⟨1, wst 3, by decide +kernel⟩⟩

end ClocksAndCores

namespace DomainsAndSleep

def sl : M := app [cf [.pwr] F.pwr_SLEEP_EN 1, mp fun q => { q with st := .hunt }]
def states : List State := [ready] ++ var [[], [md fun d => { d with st := .idle }], [md fun d => { d with st := .off }], [md
  fun d => { d with st := .off, req := true }], [cf [.pwr] (F.pwr_KEEP) 1, md fun d => { d with st := .off }], [sl], [mpw fun p =>
  { p with offPend := true }], [sl, mpw fun p => { p with entering := true }], [mpw fun p =>
  { p with st := .sleep, offPend := true }, mst fun g => { g with running := false }], [mpw fun p => { p with st := .sleep }, cf
  [.pwr] F.pwr_OFF_H 5], [mpw fun p => { p with st := .off }], [ma fun a => { a with sstate := 2 }]]

def wst (i : Nat) : State := states.getD i State.reset

/-- States and operands that meet the hypotheses of each clause of Obligations.DomainsAndSleep. -/
theorem test_witness_DomainsAndSleep :
    (∃ (d : Fin 16) (s : State), s.domIdle d.val = true ∧ (s.dom d.val).st = DomState.run) ∧
    (∃ (d : Fin 16) (s : State), s.domIdle d.val = false ∨ (s.dom d.val).st ≠ DomState.run) ∧
    (∃ (d : Fin 16) (s : State), s.domIdle d.val = true ∧ (s.dom d.val).st = DomState.idle) ∧
    (∃ (d : Fin 16) (s : State), s.domIdle d.val = false ∨ (s.dom d.val).st ≠ DomState.idle) ∧
    (∃ (d : Fin 16) (s : State),
      8 ≤ d.val ∧
        (s.dom d.val).st = DomState.off ∧
          ((s.dom d.val).req = true ∨ s.keep d.val = true ∨ s.bistHolds d.val = true) ∧ s.power.st = PowerState.run) ∧
    (∃ (d : Fin 16) (s : State), (s.dom d.val).st ≠ DomState.off) ∧
    (∃ (s : State),
      s.power.st = PowerState.run ∧
        s.power.entering = false ∧ (s.cfgB Obj.pwr F.pwr_SLEEP_EN = true ∨ s.power.offPend = true) ∧ s.maySleep = true) ∧
    (∃ (s : State), s.power.st ≠ PowerState.run ∨ s.power.entering = true ∨ s.maySleep = false) ∧
    (∃ (s : State), s.stitch.running = true ∧ s.power.entering = true ∧ s.maySleep = true) ∧
    (∃ (s : State), s.power.st = PowerState.sleep ∧ (s.power.offPend = true ∨ s.cfg Obj.pwr F.pwr_OFF_H ≠ 0)) ∧
    (∃ (s : State), s.power.st ≠ PowerState.sleep) ∧
    (∃ (s : State), s.power.st = PowerState.sleep) ∧
    (∃ (s : State), s.power.st = PowerState.off) ∧
    (∃ (s : State), s.power.st = PowerState.run ∧ s.power.entering = true) ∧
    (∃ (s : State), s.power.st = PowerState.run ∧ s.power.entering = false) :=
  ⟨⟨8, wst 8, by decide +kernel⟩,
   ⟨0, wst 8, by decide +kernel⟩,
   ⟨8, wst 2, by decide +kernel⟩,
   ⟨0, wst 8, by decide +kernel⟩,
   ⟨8, wst 4, by decide +kernel⟩,
   ⟨0, wst 8, by decide +kernel⟩,
   ⟨wst 6, by decide +kernel⟩,
   ⟨wst 8, by decide +kernel⟩,
   ⟨wst 8, by decide +kernel⟩,
   ⟨wst 9, by decide +kernel⟩,
   ⟨wst 8, by decide +kernel⟩,
   ⟨wst 9, by decide +kernel⟩,
   ⟨wst 11, by decide +kernel⟩,
   ⟨wst 8, by decide +kernel⟩,
   ⟨wst 6, by decide +kernel⟩⟩

end DomainsAndSleep

namespace ResetsAndStartUp

def ob (i : Nat) (w : Word) : M := fun s => s.blow i w
def states : List State := [State.reset, ready] ++ ([[mpw fun p =>
  { p with testMode := true, vgdPin := true, testPin := true }], [ob 0x11 1], [ob 0x11 1, mbk fun b => { b with bad := [5] }],
  [mk' fun k => { k with stopLow := true, st := .safe }], [msec fun q =>
  { q with slots := (q.slots.set 1 ⟨3, 5, shippedHdr, true⟩) }], [mpw fun p => { p with inReset := some (4, 2, false) }, msec fun
  q => { q with slots := (q.slots.set 1 ⟨3, 0, shippedHdr, true⟩) }]].map fun ms => app ms State.reset)

def wst (i : Nat) : State := states.getD i State.reset

/-- States and operands that meet the hypotheses of each clause of Obligations.ResetsAndStartUp. -/
theorem test_witness_ResetsAndStartUp :
    (∃ (src : BitVec 4), src ≠ 0) ∧
    (∃ (s : State), s.power.inReset = none) ∧
    (∃ (s : State), s.power.inReset.isSome = true ∧ s.power.testMode = true) ∧
    (∃ (s : State) (cause : ℕ) (sub : ℕ) (lost : Bool) (tests : BitVec 12),
      s.power.inReset = some (cause, sub, lost) ∧
        s.power.testMode = false ∧ s.erasePending = false ∧ tests.getLsbD 0 = true ∧ tests.getLsbD 1 = true) ∧
    (∃ (s : State) (cause : ℕ) (sub : ℕ) (lost : Bool) (tests : BitVec 12),
      s.power.inReset = some (cause, sub, lost) ∧
        s.power.testMode = false ∧
          s.erasePending = false ∧ tests.getLsbD 0 = false ∧ tests.getLsbD 2 = true ∧ tests.getLsbD 3 = true) ∧
    (∃ (s : State) (cause : ℕ) (sub : ℕ) (lost : Bool) (b : ℕ) (rest : List ℕ),
      s.power.inReset = some (cause, sub, lost) ∧
        s.power.testMode = false ∧
          s.erasePending = false ∧
            s.imageOrder sub = b :: rest ∧
              s.imageRuns b = true ∧
                (s.bank 0).tooBad = false ∧
                  (s.bank 1).tooBad = false ∧
                    (at' s.dev.cores 0 ≠ CoreState.retired ∨ at' s.dev.cores 1 ≠ CoreState.retired)) ∧
    (∃ (s : State) (cause : ℕ) (sub : ℕ) (lost : Bool) (w : Word),
      s.power.inReset = some (cause, sub, lost) ∧
        s.power.testMode = false ∧ s.erasePending = true ∧ nextClear (s.otp 16) 15 0 = some w) :=
  ⟨⟨1, by decide +kernel⟩,
   ⟨wst 1, by decide +kernel⟩,
   ⟨wst 2, by decide +kernel⟩,
   ⟨wst 0, 1, 0, true, 3, by decide +kernel⟩,
   ⟨wst 0, 1, 0, true, 12, by decide +kernel⟩,
   ⟨wst 0, 1, 0, true, 0, [], by decide +kernel⟩,
   ⟨wst 3, 1, 0, true, 1, by decide +kernel⟩⟩

end ResetsAndStartUp

namespace ImagesAreUpdated

def up' (f : Update → Update) : M := msec fun q => { q with upd := f q.upd }
def states : List State := [ready, State.reset] ++ var [[up' fun u => { u with tstate := 1, clen := 100 }], [up' fun u =>
  { u with tstate := 1, clen := 100, words := shippedHdr }], [up' fun u => { u with tstate := 1, clen := 3, owner := 1 }], [up'
  fun u => { u with tstate := 2, clen := 64, words := shippedHdr }], [up' fun u =>
  { u with tstate := 2, clen := 63, words := shippedHdr }], [up' fun u => { u with tstate := 3 }, msec fun q =>
  { q with slots := (q.slots.set 1 ⟨2, 5, shippedHdr, true⟩) }], [msec fun q =>
  { q with slots := (q.slots.set 0 ⟨3, 5, shippedHdr, true⟩) }]]

def wst (i : Nat) : State := states.getD i State.reset

/-- States and operands that meet the hypotheses of each clause of Obligations.ImagesAreUpdated. -/
theorem test_witness_ImagesAreUpdated :
    (∃ (s : State) (len : BitVec 19),
      s.sec.upd.tstate ≠ 1 ∧ s.sec.upd.tstate ≠ 2 ∧ 64 ≤ len.toNat ∧ len.toNat ≤ 262144 ∧ s.bankOut s.target = false) ∧
    (∃ (s : State) (len : BitVec 19),
      s.sec.upd.tstate ≠ 1 ∧ s.sec.upd.tstate ≠ 2 ∧ (len.toNat < 64 ∨ 262144 < len.toNat)) ∧
    (∃ (s : State), s.sec.upd.tstate = 1 ∨ s.sec.upd.tstate = 2) ∧
    (∃ (p : Fin 2) (s : State) (w : Word),
      s.sec.upd.tstate = 1 ∧
        s.sec.upd.owner = p.val ∧
          s.sec.upd.words.length < s.sec.upd.clen ∧
            s.sec.upd.words.length - s.sec.upd.done < 512 ∧ (s.sec.upd.words = [] → headWordOk w = true)) ∧
    (∃ (p : Fin 2) (s : State) (w : Word),
      s.sec.upd.tstate = 1 ∧ s.sec.upd.owner = p.val ∧ s.sec.upd.words = [] ∧ 0 < s.sec.upd.clen ∧ headWordOk w = false) ∧
    (∃ (p : Fin 2) (s : State), s.sec.upd.tstate = 1 ∧ s.sec.upd.owner ≠ p.val) ∧
    (∃ (s : State), s.sec.upd.tstate ≠ 1) ∧
    (∃ (s : State),
    s.sec.upd.tstate = 2 ∧ (Config.imageSigOk (signedWords s.sec.upd.words) = true → s.imageVerdict s.sec.upd = 1)) ∧
    (∃ (s : State), s.sec.upd.tstate = 2 ∧ s.imageVerdict s.sec.upd ≠ 1) ∧
    (∃ (s : State), s.sec.upd.tstate ≠ 2) ∧
    (∃ (s : State), s.sec.upd.tstate = 3 ∧ s.power.noImage = false) ∧
    (∃ (s : State), s.sec.upd.tstate ≠ 3) ∧
    (∃ (s : State), (at' s.sec.slots s.sec.run).st = 3) ∧
    (∃ (s : State), (at' s.sec.slots s.sec.run).st ≠ 3) ∧
    (∃ (p : Fin 2) (s : State), s.sec.upd.tstate = 1 ∧ s.sec.upd.owner = p.val) ∧
    (∃ (s : State), s.sec.upd.tstate = 1) :=
  ⟨⟨wst 7, 64, by decide +kernel⟩,
   ⟨wst 7, 0, by decide +kernel⟩,
   ⟨wst 2, by decide +kernel⟩,
   ⟨0, wst 2, 0x46E300000, by decide +kernel⟩,
   ⟨0, wst 2, 0, by decide +kernel⟩,
   ⟨1, wst 2, by decide +kernel⟩,
   ⟨wst 7, by decide +kernel⟩,
   ⟨wst 5, by decide +kernel, fun h => by simp only [State.imageVerdict, h]; decide +kernel⟩,
   ⟨wst 6, by decide +kernel⟩,
   ⟨wst 2, by decide +kernel⟩,
   ⟨wst 7, by decide +kernel⟩,
   ⟨wst 2, by decide +kernel⟩,
   ⟨wst 8, by decide +kernel⟩,
   ⟨wst 2, by decide +kernel⟩,
   ⟨0, wst 2, by decide +kernel⟩,
   ⟨wst 2, by decide +kernel⟩⟩

end ImagesAreUpdated

namespace OtpIsProgrammed

def ob (i : Nat) (w : Word) : M := fun s => s.blow i w
def op' (o : OtpOp) : M := fun s => s.onOtp fun q => { q with op := some o, ostate := 1 }
def states : List State := [ready, State.reset] ++ var [[op' ⟨[(8, 5), (9, 6)], false, 1, 0, 0, none⟩], [op' ⟨[(8, 5)], true, 0,
  0, 0, none⟩], [op' ⟨[(8, 5)], false, 2, 0, 0, none⟩], [ob 0x10 (flag 16 true)], [ob 0x18 (flag 35 true)], [mdv fun d =>
  { d with st := .safe }]]

def wst (i : Nat) : State := states.getD i State.reset

/-- States and operands that meet the hypotheses of each clause of Obligations.OtpIsProgrammed. -/
theorem test_witness_OtpIsProgrammed :
    (∃ (s : State) (i : BitVec 7), s.otpClosed = false ∧ 8 ≤ i.toNat ∧ i.toNat ≤ 11) ∧
    (∃ (s : State) (i : BitVec 7), s.otpClosed = false ∧ 24 ≤ i.toNat) ∧
    (∃ (s : State), s.otpClosed = true) ∧
    (∃ (s : State) (slot : Fin 8),
      s.otpClosed = false ∧ bit (s.otp (24 + slot.val)) 35 = false ∧ ((s.keyWords slot.val).any fun x => x != 0) = false) ∧
    (∃ (s : State) (slot : Fin 8) (use : BitVec 2),
      s.otpClosed = false ∧
        bit (s.otp (24 + slot.val)) 35 = false ∧ ((s.keyWords slot.val).any fun x => x != 0) = false ∧ use ≠ 1) ∧
    (∃ (s : State) (slot : Fin 8), s.otpClosed = false ∧ s.signsWith slot.val = false) ∧
    (∃ (s : State) (slot : Fin 8), s.otpClosed = true ∨ s.signsWith slot.val = true) ∧
    (∃ (s : State), s.sec.otp.op = none) ∧
    (∃ (s : State) (op : OtpOp) (i : ℕ) (w : Word) (next : ℕ × Word) (rest : List (ℕ × Word)),
      s.sec.otp.op = some op ∧ op.todo = (i, w) :: next :: rest) ∧
    (∃ (s : State) (op : OtpOp) (i : ℕ) (w : Word),
      s.sec.otp.op = some op ∧ op.todo = [(i, w)] ∧ (op.what = 0 ∨ op.what = 2)) ∧
    (∃ (s : State) (op : OtpOp) (i : ℕ) (w : Word) (rest : List (ℕ × Word)),
      s.sec.otp.op = some op ∧ op.todo = (i, w) :: rest ∧ op.again = false) ∧
    (∃ (s : State), s.dev.st ≠ DevState.ready) ∧
    (∃ (s : State) (key : BitVec 12) (target : BitVec 2),
      s.dev.st = DevState.ready ∧ target.toNat ≠ s.protLevel ∧ key ≠ 1449) ∧
    (∃ (s : State) (w : Word),
      s.dev.st = DevState.ready ∧ s.protLevel = 0 ∧ s.sec.otp.op = none ∧ nextClear (s.otp 16) 31 16 = some w) ∧
    (∃ (s : State) (w : Word) (v : Word),
      s.dev.st = DevState.ready ∧
        s.protLevel = 1 ∧ s.sec.otp.op = none ∧ nextClear (s.otp 17) 15 0 = some w ∧ nextClear (s.otp 16) 15 0 = some v) :=
  ⟨⟨wst 0, 8, by decide +kernel⟩,
   ⟨wst 0, 24, by decide +kernel⟩,
   ⟨wst 1, by decide +kernel⟩,
   ⟨wst 0, 0, by decide +kernel⟩,
   ⟨wst 0, 0, 0, by decide +kernel⟩,
   ⟨wst 0, 0, by decide +kernel⟩,
   ⟨wst 1, 0, by decide +kernel⟩,
   ⟨wst 0, by decide +kernel⟩,
   ⟨wst 2, ⟨[(8, 5), (9, 6)], false, 1, 0, 0, none⟩, 8, 5, (9, 6), [], by decide +kernel⟩,
   ⟨wst 3, ⟨[(8, 5)], true, 0, 0, 0, none⟩, 8, 5, by decide +kernel⟩,
   ⟨wst 2, ⟨[(8, 5), (9, 6)], false, 1, 0, 0, none⟩, 8, 5, [(9, 6)], by decide +kernel⟩,
   ⟨wst 1, by decide +kernel⟩,
   ⟨wst 0, 0, 1, by decide +kernel⟩,
   ⟨wst 0, 0x10000, by decide +kernel⟩,
   ⟨wst 5, 1, 1, by decide +kernel⟩⟩

end OtpIsProgrammed

namespace TestAccessIsGuarded

def states : List State := [ready, State.reset] ++ var [[noOut], [noOut, msec fun q =>
  { q with guard := Vector.replicate 4 true }], [msec fun q => { q with ir := 0 }], [msec fun q => { q with ir := 1 }], [msec fun
  q => { q with ir := 3, guard := Vector.replicate 4 true }], [msec fun q => { q with bistTest := 1, bistResult := 1 }], [msec fun
  q => { q with bistTest := 3, bistResult := 1, codes := [(0, 3), (500, 2)] }], [mpw fun p => { p with st := .sleep }], [msec fun
  q => { q with bistTest := 1, guard := Vector.replicate 4 true }]]

def wst (i : Nat) : State := states.getD i State.reset

/-- States and operands that meet the hypotheses of each clause of Obligations.TestAccessIsGuarded. -/
theorem test_witness_TestAccessIsGuarded :
    (∃ (s : State) (i : BitVec 8), s.power.st = PowerState.run ∧ intrusiveAt s.protLevel i.toNat = true) ∧
    (∃ (s : State) (i : BitVec 8), s.power.st = PowerState.run ∧ intrusiveAt s.protLevel i.toNat = false) ∧
    (∃ (s : State), s.power.st ≠ PowerState.run) ∧
    (∃ (s : State), s.power.st = PowerState.run) ∧
    (∃ (s : State), s.power.st = PowerState.run ∧ s.sec.ir = 1) ∧
    (∃ (s : State) (early : Bool), s.power.st ≠ PowerState.run ∨ 1 < s.sec.ir ∨ early = true ∧ s.sec.ir = 0) ∧
    (∃ (s : State) (drive : List Bool) (b : Fin 24),
      s.power.st = PowerState.run ∧
        s.sec.ir = 0 ∧
          at' s.sec.guard 0 = false ∧
            (driven drive (b.val) 0 = true ∧ driven drive (b.val) 1 = true ∨
              driven drive (b.val) 2 = true ∧ driven drive (b.val) 3 = true)) ∧
    (∃ (s : State) (m : Fin 4) (above : Bool),
      (m.val ≠ 0 ∨ above = true ∨ s.pinsDriven = false) ∧ s.sec.bistResult ≠ 1) ∧
    (∃ (s : State) (test : BitVec 4),
      1 ≤ test.toNat ∧
        test.toNat ≤ 4 ∧
          s.dev.st = DevState.ready ∧
            (∀ (i : ℕ), i < 18 → (s.lane i).state = LaneState.idle ∧ (s.lane i).running = none) ∧
              s.bistSafe test.toNat = true) ∧
    (∃ (test : BitVec 4), test.toNat = 0 ∨ 4 < test.toNat) ∧
    (∃ (s : State) (test : BitVec 4),
      1 ≤ test.toNat ∧ test.toNat ≤ 4 ∧ (s.dev.st ≠ DevState.ready ∨ s.bistSafe test.toNat = false)) ∧
    (∃ (s : State), s.sec.bistResult = 1) ∧
    (∃ (s : State), s.sec.bistResult ≠ 1) :=
  ⟨⟨wst 1, 0, by decide +kernel⟩,
   ⟨wst 1, 1, by decide +kernel⟩,
   ⟨wst 9, by decide +kernel⟩,
   ⟨wst 1, by decide +kernel⟩,
   ⟨wst 5, by decide +kernel⟩,
   ⟨wst 1, false, by decide +kernel⟩,
   ⟨wst 4, List.replicate 1156 true, 0, by decide +kernel⟩,
   ⟨wst 1, 0, false, by decide +kernel⟩,
   ⟨wst 2, 1, by decide +kernel⟩,
   ⟨0, by decide +kernel⟩,
   ⟨wst 1, 1, by decide +kernel⟩,
   ⟨wst 7, by decide +kernel⟩,
   ⟨wst 1, by decide +kernel⟩⟩

end TestAccessIsGuarded

end Sys2Proof.Tests
end

section
/-!
PROOFS. The facts about shared operations that the statements of this part need: what a state keeps along a chain of changes, what raising
an event leaves alone, what the table store and a field read after a write, and the answer of a refused register write.
-/

namespace Sys2Proof.Machine

/-! ### What a chain of changes leaves alone -/

theorem Part.same_trans {p : Part} {s t u : State} (ht : p.same s t) (hu : p.same t u) : p.same s u := by
  cases p <;> exact Eq.trans hu ht

theorem SameBut.refl (ps : List Part) (s : State) : SameBut ps s s := by
  intro p _; cases p <;> rfl

theorem SameBut.trans {ps : List Part} {s t u : State} (ht : SameBut ps s t) (hu : SameBut ps t u) : SameBut ps s u :=
  fun p hp => Part.same_trans (ht p hp) (hu p hp)

theorem SameBut.mono {ps qs : List Part} {s t : State} (h : SameBut ps s t) (hsub : ps ⊆ qs) : SameBut qs s t :=
  fun p hp => h p fun hmem => hp (hsub hmem)

theorem SameBut.ite {ps : List Part} {s t u : State} {c : Prop} [Decidable c] (ht : SameBut ps s t) (hu : SameBut ps s u) :
    SameBut ps s (if c then t else u) := by
  split
  · exact ht
  · exact hu

theorem State.onPort_onlyPort (s : State) (p : Nat) (f : Port → Port) : OnlyPort p s (s.onPort p f) :=
  ⟨s.onPort_frame p f, fun j hj => at'_upd_ne s.ports p j f hj⟩

/-! ### What raising an event leaves alone (R122..R126) -/

theorem State.countLost_frame (s : State) (b c : Bool) : SameBut [.ports] s (s.countLost b c) := by
  have first : SameBut [.ports] s (if b then s.onPort 0 fun q => { q with lost := satInc 255 q.lost } else s) :=
    .ite (s.onPort_frame _ _) (.refl _ s)
  exact .ite (first.trans (State.onPort_frame _ _ _)) first

theorem State.releaseFor_frame (need fuel : Nat) (s : State) : SameBut [.ev, .ports] s (s.releaseFor need fuel) := by
  induction fuel generalizing s with
  | zero => exact .refl _ s
  | succ n ih =>
    rw [State.releaseFor]
    refine .ite (.refl _ s) ?_
    split
    · exact .refl _ s
    · exact (((s.countLost_frame _ _).mono (by simp)).trans ((State.onEv_frame _ _).mono (by simp))).trans (ih _)

theorem State.appendEvent_frame (s : State) (e : Event) : SameBut [.dev, .ev] s (s.appendEvent e) := by
  have pend : SameBut [.dev, .ev] s (if s.dev.classMask.getLsbD e.cls then s.onDev fun d => { d with evtPend := true } else s) :=
    .ite ((s.onDev_frame _).mono (by simp)) (.refl _ s)
  exact pend.trans ((State.onEv_frame _ _).mono (by simp))

theorem State.queueHeld_frame (n : Nat) (s : State) : SameBut [.dev, .ev, .ports] s (s.queueHeld n) := by
  induction n generalizing s with
  | zero => exact .refl _ s
  | succ n ih =>
    rw [State.queueHeld]
    split
    · exact .refl _ s
    · rename_i e rest _
      have room : SameBut [.dev, .ev, .ports] s (s.releaseFor e.size 224) := (State.releaseFor_frame _ _ s).mono (by simp)
      refine .ite (.trans ?_ (ih _)) room
      exact (room.trans ((State.onEv_frame _ _).mono (by simp))).trans ((State.appendEvent_frame _ e).mono (by simp))

theorem State.queueEvent_frame (s : State) (e : Event) : SameBut [.dev, .ev, .ports] s (s.queueEvent e) := by
  have room : SameBut [.dev, .ev, .ports] s (s.releaseFor e.size 224) := (State.releaseFor_frame _ _ s).mono (by simp)
  have append (t : State) : SameBut [.dev, .ev, .ports] t (t.appendEvent e) := (t.appendEvent_frame e).mono (by simp)
  have hold (t : State) (f : EventQ → EventQ) : SameBut [.dev, .ev, .ports] t (t.onEv f) := (t.onEv_frame f).mono (by simp)
  have lose (t : State) : SameBut [.dev, .ev, .ports] t (t.countLost e.due0 e.due1) := (t.countLost_frame _ _).mono (by simp)
  exact .ite (append s) (.ite ((hold s _).trans (State.queueHeld_frame _ _))
    (.ite (room.trans (append _)) (.ite (room.trans (hold _ _)) (room.trans (lose _)))))

theorem State.raise_frame (s : State) (cls code lane : Nat) (args : List Word) :
    SameBut [.dev, .ev, .ports] s (s.raise cls code lane args) := by
  have counted (f : EventQ → EventQ) : SameBut [.dev, .ev, .ports] s (s.onEv f) := (s.onEv_frame f).mono (by simp)
  have noted (f : EventQ → EventQ) (g : Dev → Dev) : SameBut [.dev, .ev, .ports] s ((s.onEv f).onDev g) :=
    (counted f).trans ((State.onDev_frame _ g).mono (by simp))
  have append (t : State) (e : Event) : SameBut [.dev, .ev, .ports] t (t.appendEvent e) := (t.appendEvent_frame e).mono (by simp)
  have lose (t : State) (b c : Bool) : SameBut [.dev, .ev, .ports] t (t.countLost b c) := (t.countLost_frame b c).mono (by simp)
  exact .ite (.ite (noted _ _) (.ite ((noted _ _).trans (append _ _)) ((noted _ _).trans (lose _ _ _))))
    ((counted _).trans (State.queueEvent_frame _ _))

/-! ### The table store: a read after a write (log 6) -/

theorem Store.get_nil (a : Nat) : Store.get [] a = resetWord a := rfl

theorem Store.get_cons (c : Nat × Word) (st : Store) (b : Nat) : Store.get (c :: st) b = if c.1 = b then c.2 else Store.get st b := by
  by_cases h : c.1 = b <;> simp [Store.get, h]

theorem Store.get_insert (a b : Nat) (w : Word) (st : Store) : (Store.insert a w st).get b = if b = a then w else st.get b := by
  induction st with
  | nil => simp [Store.insert, Store.get_cons, eq_comm]
  | cons c rest ih =>
    rw [Store.insert]
    split
    · simp [Store.get_cons, eq_comm]
    · split
      · next h => simp only [Store.get_cons, ← h]; grind
      · simp only [Store.get_cons, ih]; grind

theorem Store.get_filter_ne (st : Store) (a b : Nat) :
    Store.get (st.filter fun c => c.1 != a) b = if b = a then resetWord a else st.get b := by
  induction st with
  | nil => simp only [List.filter_nil, Store.get_nil]; grind
  | cons c rest ih =>
    rw [List.filter_cons]
    split
    · simp only [Store.get_cons, ih]; grind
    · simp only [Store.get_cons, ih]; grind

theorem Store.get_set (st : Store) (a b : Nat) (w : Word) : (st.set a w).get b = if b = a then w else st.get b := by
  rw [Store.set]
  split
  · next h => rw [Store.get_filter_ne, h]
  · exact Store.get_insert a b w st

/-! ### Fields of a word: a read after a write -/

theorem testBit_bits (w : Word) (hi lo i : Nat) : (bits w hi lo).testBit i = (decide (i < hi + 1 - lo) && w.getLsbD (lo + i)) := by
  simp [bits, Nat.testBit_mod_two_pow, Nat.testBit_shiftRight, BitVec.getLsbD]

/-- The bits of a word whose field `f` was set: those of the value within the field, the old ones outside it. -/
theorem Field.getLsbD_set (f : Field) (v : Nat) (w : Word) (i : Nat) (hi : i < 36) :
    (f.set v w).getLsbD i = if f.lo ≤ i ∧ i < f.hi + 1 then v.testBit (i - f.lo) else w.getLsbD i := by
  simp only [Field.set, Field.mask, Field.put, field, fieldMask, BitVec.getLsbD_or, BitVec.getLsbD_and, BitVec.getLsbD_not,
    BitVec.getLsbD_ofNat, Nat.testBit_shiftLeft, Nat.testBit_mod_two_pow, Nat.testBit_two_pow_sub_one, hi, decide_true, Bool.true_and]
  split
  · next h => simp [h.1, show i - f.lo < f.hi + 1 - f.lo by omega]
  · next h =>
    by_cases hlo : f.lo ≤ i
    · simp [hlo, show ¬ i - f.lo < f.hi + 1 - f.lo by omega]
    · simp [hlo]

theorem Field.get_set_self (f : Field) (v : Nat) (w : Word) (hf : f.hi < 36) (hv : v < 2 ^ (f.hi + 1 - f.lo)) :
    f.get (f.set v w) = v := by
  apply Nat.eq_of_testBit_eq
  intro i
  rw [Field.get, testBit_bits]
  by_cases h : i < f.hi + 1 - f.lo
  · rw [Field.getLsbD_set _ _ _ _ (by omega), if_pos (by omega)]
    simp [h]
  · have beyond : v < 2 ^ i := lt_of_lt_of_le hv (Nat.pow_le_pow_right (by omega) (by omega))
    simp [h, Nat.testBit_lt_two_pow beyond]

theorem Field.get_set_apart (f g : Field) (v : Nat) (w : Word) (hf : f.hi < 36) (hfg : g.hi < f.lo ∨ f.hi < g.lo) :
    f.get (g.set v w) = f.get w := by
  apply Nat.eq_of_testBit_eq
  intro i
  rw [Field.get, Field.get, testBit_bits, testBit_bits]
  by_cases h : i < f.hi + 1 - f.lo
  · rw [Field.getLsbD_set _ _ _ _ (by omega), if_neg (by omega)]
  · simp [h]

theorem Field.get_lt (f : Field) (w : Word) : f.get w < 2 ^ (f.hi + 1 - f.lo) := Nat.mod_lt _ (by positivity)

theorem State.cfg_putCfg_self (s : State) (o : Obj) (f : Field) (v : Nat) (hf : f.hi < 36) (hv : v < 2 ^ (f.hi + 1 - f.lo)) :
    (s.putCfg o f v).cfg o f = v := by
  simp [State.cfg, State.putCfg, Store.get_set, Field.get_set_self f v _ hf hv]

theorem State.cfg_putCfg_apart (s : State) (o : Obj) (f g : Field) (v : Nat) (hf : f.hi < 36) (hfg : g.hi < f.lo ∨ f.hi < g.lo) :
    (s.putCfg o g v).cfg o f = s.cfg o f := by
  simp only [State.cfg, State.putCfg, Store.get_set]
  split
  · next h => rw [Field.get_set_apart f g v _ hf hfg, h]
  · rfl

/-! ### The answer of a refused register write (R114) -/

theorem State.refuse_noteCode (s : State) (p : Fin 2) (rc : Nat) (tbl : Bool) : ((s.refuse p rc tbl).port p).noteCode = rc := by
  rw [State.refuse, State.port_onPort_fin]

theorem answer_refusal (s : State) (p : Fin 2) (rc : Nat) (tbl : Bool) (hrc : rc ≠ 0) :
    ∃ t, answer p tbl (s, rc) = .next t ∧ (t.port p).noteCode = rc ∧ OnlyPort p s t :=
  ⟨s.refuse p rc tbl, by rw [answer, if_neg hrc], s.refuse_noteCode p rc tbl, s.onPort_onlyPort _ _⟩

end Sys2Proof.Machine
end

section
/-!
PROOFS. What reset leaves (R14).
-/

namespace Sys2Proof.Machine

theorem at'_replicate {α : Type} [Inhabited α] {n i : Nat} (a : α) (h : i < n) : at' (Vector.replicate n a) i = a := by
  simp [at'_eq, h]

theorem State.reset_lane {i : Nat} (h : i < 19) : State.reset.lane i = Lane.reset := at'_replicate _ h

theorem State.reset_port {p : Nat} (h : p < 2) : State.reset.port p = Port.reset := at'_replicate _ h

/-- Settles O8: the members of the lane and port tables are one reset value each; the rest is read off the reset state. -/
theorem resetLeaves : Obligations.ResetLeaves := by
  refine ⟨rfl, rfl, rfl, rfl, rfl, fun i hi => ?_, fun p hp => ?_, rfl, rfl⟩
  · rw [State.reset_lane hi]; exact ⟨rfl, rfl, rfl⟩
  · rw [State.reset_port hp]; exact ⟨rfl, rfl, rfl⟩

end Sys2Proof.Machine
end

section
/-!
PROOFS. Stored energy and discharge (R427, R428) and the limit fields (R12, R414, R415).
-/

namespace Sys2Proof.Machine

/-! ### Stored energy and discharge (R427, R428) -/

theorem dischargeUpdate_of_discharging (vm vs : BitVec 9) (s : State) (h : s.shank.st = .discharging) :
    Answers (.dischargeUpdate vm vs) s fun t =>
      t.shank.em = storedEnergy (s.cfg .shk F.shk_C_M) vm.toNat ∧ t.shank.es = storedEnergy (s.cfg .shk F.shk_C_S) vs.toNat ∧
        t.shank.st = (if storedEnergy (s.cfg .shk F.shk_C_M) vm.toNat ≤ s.cfg .shk F.shk_E_SAFE ∧
          storedEnergy (s.cfg .shk F.shk_C_S) vs.toNat ≤ s.cfg .shk F.shk_E_SAFE then .discharged else .discharging) ∧
        t.shank.groups = s.shank.groups ∧ SameBut [.shank] s t := by
  refine ⟨_, by simp only [exec, execDischargeUpdate, State.onShank_shank, h]; rfl, ?_⟩
  refine ⟨rfl, rfl, ?_, rfl, (s.onShank_frame _).trans (State.onShank_frame _ _)⟩
  simp [h]

theorem dischargeUpdate_of_idle (vm vs : BitVec 9) (s : State) (h : s.shank.st = .normal ∨ s.shank.st = .safe) :
    Answers (.dischargeUpdate vm vs) s fun t =>
      t.shank = { s.shank with em := storedEnergy (s.cfg .shk F.shk_C_M) vm.toNat, es := storedEnergy (s.cfg .shk F.shk_C_S) vs.toNat } ∧
        SameBut [.shank] s t := by
  refine ⟨s.onShank fun k => { k with em := _, es := _ }, ?_, rfl, s.onShank_frame _⟩
  rcases h with h | h <;> simp only [exec, execDischargeUpdate, State.onShank_shank, h]

/-- The shank where T_DISCH has elapsed before the supplies were down. -/
def Shank.failedDischarge (k : Shank) : Shank := { k with st := .safe, dmOn := false, dsOn := false, dischFail := true }

theorem exec_dischargeTimeout_of_discharging (s : State) (h : s.shank.st = .discharging) :
    exec .dischargeTimeout s = .next ((s.onShank Shank.failedDischarge).raise 1 8 31 []) := by
  simp only [exec, execDischargeTimeout, h, ne_eq, not_true, if_false]
  rfl

theorem dischargeTimeout_of_discharging (s : State) (h : s.shank.st = .discharging) :
    Answers .dischargeTimeout s fun t =>
      t.shank.st = .safe ∧ t.shank.dischFail = true ∧ t.shank.dmOn = false ∧ t.shank.dsOn = false ∧
        SameBut [.shank, .dev, .ev, .ports] s t := by
  have event := (s.onShank Shank.failedDischarge).raise_frame 1 8 31 []
  have shank : ((s.onShank Shank.failedDischarge).raise 1 8 31 []).shank = s.shank.failedDischarge := event .shank (by simp)
  refine ⟨_, exec_dischargeTimeout_of_discharging s h, ?_⟩
  simp only [shank]
  exact ⟨rfl, rfl, rfl, rfl, ((s.onShank_frame _).mono (by simp)).trans (event.mono (by simp))⟩

theorem dischargeTimeout_of_not_discharging (s : State) (h : s.shank.st ≠ .discharging) : exec .dischargeTimeout s = .next s := by
  simp only [exec, execDischargeTimeout, if_pos h]

/-! ### The limit words of a group (R414) -/

/-- Word 0 of a group in the shank region. -/
def groupWord (g : Fin 58) : Nat := 0xC0100 + 4 * g

theorem region_groupWord (g : Fin 58) : region (groupWord g) = some (.grp g, 0) := by
  revert g; decide

/-- The limit fields that share word 0 of a group with P_LIM: a head's group has no E_REL (R416). -/
def otherLimits (g : Fin 58) : List Field := F.grp_WIN :: if 56 ≤ g.val then [] else [F.grp_E_REL]

theorem limitFields_groupWord (g : Fin 58) :
    (wordFields (groupWord g)).filter (fun f => f.acc = .wl) = F.grp_P_LIM :: otherLimits g := by
  rw [wordFields, region_groupWord, otherLimits]
  simp only [Obj.fields]
  split <;> decide

theorem otherLimits_apart (g : Fin 58) : ∀ f ∈ otherLimits g, f.hi < F.grp_P_LIM.lo ∨ F.grp_P_LIM.hi < f.lo := by
  rw [otherLimits]
  split <;> decide

theorem execShankLimitWrite_groupWord (p : Fin 2) (g : Fin 58) (a : BitVec 24) (w : Word) (s : State) (ha : a.toNat = groupWord g) :
    exec (.shankLimitWrite p a w) s = answer p true (s.writeLimit p a.toNat w) := by
  have range : 0xC0100 ≤ a.toNat ∧ a.toNat < 0xC01E8 ∧ a.toNat % 4 ≤ 1 := by
    have := g.isLt
    rw [ha, groupWord]; omega
  simp only [exec, execShankLimitWrite, if_pos (Or.inr (Or.inr range))]

theorem limitFault_of_rev1 (s : State) (p : Nat) (o : Obj) (a : Nat) (fs : List Field) (w : Word) (h : (s.port p).rev = 1) :
    s.limitFault p o a fs w = rcRevision := by
  simp only [State.limitFault, h, if_true]

theorem limitFault_of_locked (s : State) (p : Nat) (o : Obj) (a : Nat) (fs : List Field) (w : Word) (h : (s.port p).rev ≠ 1)
    (hl : s.shank.locked = true) : s.limitFault p o a fs w = rcLocked := by
  simp only [State.limitFault, h, hl, if_false, if_true]

/-! ### Setting limit fields: the first write since reset counts (R12) -/

theorem State.setLimit_of_wlSet (s : State) (o : Obj) (a : Nat) (f : Field) (w : Word) (h : s.wlSet a f = true) :
    s.setLimit o a f w = s := by
  simp only [State.setLimit, h, if_true]

/-- Field `f` of the limit word at `a` marked as written since reset. -/
def State.markWritten (s : State) (a : Nat) (f : Field) : State :=
  { s with tbl := { s.tbl with wlDone := (a, f.lo) :: s.tbl.wlDone } }

/-- The first write puts the field and marks it written; besides, a WIN may keep the group's old window (R416), which is no part of
the tables. -/
theorem State.setLimit_of_first (s : State) (o : Obj) (a : Nat) (f : Field) (w : Word) (h : s.wlSet a f = false) :
    ∃ u, SameBut [.shank] s u ∧ s.setLimit o a f w = (u.putCfg o f (f.get w)).markWritten a f := by
  simp only [State.setLimit, h, Bool.false_eq_true, if_false]
  refine ⟨_, ?_, rfl⟩
  split
  · exact .ite (s.onGrp_frame _ _) (.refl _ s)
  · exact .refl _ s

theorem State.setLimit_tbl (s : State) (o : Obj) (a : Nat) (f : Field) (w : Word) (h : s.wlSet a f = false) :
    (s.setLimit o a f w).tbl = { (s.putCfg o f (f.get w)).tbl with wlDone := (a, f.lo) :: s.tbl.wlDone } := by
  obtain ⟨u, frame, first⟩ := s.setLimit_of_first o a f w h
  have same : u.tbl = s.tbl := frame .tbl (by simp)
  simp only [first, State.markWritten, State.putCfg, same]

theorem State.putCfg_frame (s : State) (o : Obj) (f : Field) (v : Nat) : SameBut [.tbl] s (s.putCfg o f v) := by
  intro p hp
  cases p with
  | tbl => exact absurd (.head _) hp
  | _ => rfl

theorem State.markWritten_frame (s : State) (a : Nat) (f : Field) : SameBut [.tbl] s (s.markWritten a f) := by
  intro p hp
  cases p with
  | tbl => exact absurd (.head _) hp
  | _ => rfl

theorem State.setLimit_frame (s : State) (o : Obj) (a : Nat) (f : Field) (w : Word) :
    SameBut [.tbl, .shank] s (s.setLimit o a f w) := by
  cases h : s.wlSet a f
  · obtain ⟨u, frame, first⟩ := s.setLimit_of_first o a f w h
    rw [first]
    exact (frame.mono (by simp)).trans (((u.putCfg_frame o f _).trans (State.markWritten_frame _ a f)).mono (by simp))
  · rw [s.setLimit_of_wlSet o a f w h]
    exact .refl _ s

theorem State.cfg_congr {s t : State} (h : t.tbl = s.tbl) (o : Obj) (f : Field) : t.cfg o f = s.cfg o f := by
  rw [State.cfg, State.cfg, h]

theorem State.wlSet_congr {s t : State} (h : t.tbl = s.tbl) (a : Nat) (f : Field) : t.wlSet a f = s.wlSet a f := by
  rw [State.wlSet, State.wlSet, h]

theorem State.cfg_setLimit_of_first (s : State) (o : Obj) (a : Nat) (f g : Field) (w : Word) (h : s.wlSet a g = false) :
    (s.setLimit o a g w).cfg o f = (s.putCfg o g (g.get w)).cfg o f := by
  rw [State.cfg, State.cfg, s.setLimit_tbl o a g w h]

theorem State.cfg_setLimit_self (s : State) (o : Obj) (a : Nat) (f : Field) (w : Word) (hf : f.hi < 36) :
    (s.setLimit o a f w).cfg o f = if s.wlSet a f then s.cfg o f else f.get w := by
  cases h : s.wlSet a f
  · exact (s.cfg_setLimit_of_first o a f f w h).trans (s.cfg_putCfg_self o f _ hf (f.get_lt w))
  · rw [s.setLimit_of_wlSet o a f w h, if_pos rfl]

theorem State.cfg_setLimit_apart (s : State) (o : Obj) (a : Nat) (f g : Field) (w : Word) (hf : f.hi < 36)
    (hfg : g.hi < f.lo ∨ f.hi < g.lo) : (s.setLimit o a g w).cfg o f = s.cfg o f := by
  cases h : s.wlSet a g
  · exact (s.cfg_setLimit_of_first o a f g w h).trans (s.cfg_putCfg_apart o f g _ hf hfg)
  · rw [s.setLimit_of_wlSet o a g w h]

theorem State.wlSet_setLimit (s : State) (o : Obj) (a : Nat) (f g : Field) (w : Word) :
    (s.setLimit o a g w).wlSet a f = (s.wlSet a f || f.lo == g.lo) := by
  cases h : s.wlSet a g
  · rw [State.wlSet, s.setLimit_tbl o a g w h, State.wlSet]
    simp [Bool.or_comm, Bool.beq_eq_decide_eq]
  · rw [s.setLimit_of_wlSet o a g w h]
    cases hlo : f.lo == g.lo
    · simp
    · rw [State.wlSet, beq_iff_eq.mp hlo, Bool.or_true]; exact h

/-- A write of several limit fields of one word. -/
def State.setLimits (s : State) (o : Obj) (a : Nat) (w : Word) (fs : List Field) : State :=
  fs.foldl (fun s f => s.setLimit o a f w) s

theorem State.setLimits_frame (s : State) (o : Obj) (a : Nat) (w : Word) (fs : List Field) :
    SameBut [.tbl, .shank] s (s.setLimits o a w fs) := by
  induction fs generalizing s with
  | nil => exact .refl _ s
  | cons f fs ih => exact (s.setLimit_frame o a f w).trans (ih _)

theorem State.cfg_setLimits_apart (s : State) (o : Obj) (a : Nat) (w : Word) (f : Field) (fs : List Field) (hf : f.hi < 36)
    (hfs : ∀ g ∈ fs, g.hi < f.lo ∨ f.hi < g.lo) : (s.setLimits o a w fs).cfg o f = s.cfg o f := by
  induction fs generalizing s with
  | nil => rfl
  | cons g fs ih =>
    obtain ⟨hg, hrest⟩ := List.forall_mem_cons.mp hfs
    exact (ih _ hrest).trans (s.cfg_setLimit_apart o a f g w hf hg)

theorem State.wlSet_setLimits_of_wlSet (s : State) (o : Obj) (a : Nat) (w : Word) (f : Field) (fs : List Field) (h : s.wlSet a f = true) :
    (s.setLimits o a w fs).wlSet a f = true := by
  induction fs generalizing s with
  | nil => exact h
  | cons g fs ih => exact ih _ (by rw [State.wlSet_setLimit, h, Bool.true_or])

theorem State.cfg_setLimits_head (s : State) (o : Obj) (a : Nat) (w : Word) (f : Field) (fs : List Field) (hf : f.hi < 36)
    (hfs : ∀ g ∈ fs, g.hi < f.lo ∨ f.hi < g.lo) :
    (s.setLimits o a w (f :: fs)).cfg o f = if s.wlSet a f then s.cfg o f else f.get w :=
  ((s.setLimit o a f w).cfg_setLimits_apart o a w f fs hf hfs).trans (s.cfg_setLimit_self o a f w hf)

theorem State.wlSet_setLimits_head (s : State) (o : Obj) (a : Nat) (w : Word) (f : Field) (fs : List Field) :
    (s.setLimits o a w (f :: fs)).wlSet a f = true :=
  (s.setLimit o a f w).wlSet_setLimits_of_wlSet o a w f fs (by simp [State.wlSet_setLimit])

/-- A write that passes every check sets the word's limit fields; at most a note at the port is added to it. -/
theorem State.writeLimit_of_sound (s : State) (p a k : Nat) (w : Word) (o : Obj) (hr : region a = some (o, k))
    (h : s.limitFault p o a ((wordFields a).filter fun f => f.acc = .wl) w = 0) :
    (s.writeLimit p a w).2 = 0 ∧
      SameBut [.ports] (s.setLimits o a w ((wordFields a).filter fun f => f.acc = .wl)) (s.writeLimit p a w).1 := by
  simp only [State.writeLimit, hr, h, ne_eq, not_true, if_false]
  exact ⟨trivial, .ite (State.onPort_frame _ _ _) (.refl _ _)⟩

theorem State.writeLimit_of_fault (s : State) (p a k rc : Nat) (w : Word) (o : Obj) (hr : region a = some (o, k))
    (h : s.limitFault p o a ((wordFields a).filter fun f => f.acc = .wl) w = rc) (hrc : rc ≠ 0) :
    s.writeLimit p a w = (s, rc) := by
  simp only [State.writeLimit, hr, h, ne_eq, hrc, not_false_eq_true, if_true]

theorem shankLimitWrite_refused (p : Fin 2) (g : Fin 58) (a : BitVec 24) (w : Word) (s : State) (rc : Nat)
    (ha : a.toNat = groupWord g)
    (h : s.limitFault p (.grp g) a.toNat ((wordFields a.toNat).filter fun f => f.acc = .wl) w = rc) (hrc : rc ≠ 0) :
    Answers (.shankLimitWrite p a w) s fun t => (t.port p).noteCode = rc ∧ OnlyPort p s t := by
  have hr : region a.toNat = some (.grp g, 0) := ha ▸ region_groupWord g
  rw [Answers, execShankLimitWrite_groupWord p g a w s ha, s.writeLimit_of_fault p _ 0 rc w _ hr h hrc]
  exact answer_refusal s p rc true hrc

theorem shankLimitWrite_sets_powerLimit (p : Fin 2) (g : Fin 58) (a : BitVec 24) (w : Word) (s : State) (ha : a.toNat = groupWord g)
    (h : s.limitFault p (.grp g) a.toNat ((wordFields a.toNat).filter fun f => f.acc = .wl) w = 0) :
    Answers (.shankLimitWrite p a w) s fun t =>
      t.cfg (.grp g) F.grp_P_LIM =
          (if s.wlSet a.toNat F.grp_P_LIM then s.cfg (.grp g) F.grp_P_LIM else F.grp_P_LIM.get w) ∧
        t.wlSet a.toNat F.grp_P_LIM = true ∧ SameBut [.tbl, .shank, .ports] s t := by
  have hr : region a.toNat = some (.grp g, 0) := ha ▸ region_groupWord g
  obtain ⟨done, note⟩ := s.writeLimit_of_sound p _ 0 w _ hr h
  rw [ha, limitFields_groupWord g, ← ha] at note
  have tables := note .tbl (by simp)
  refine ⟨(s.writeLimit p a.toNat w).1, ?_, ?_, ?_, ((s.setLimits_frame _ _ _ _).mono (by simp)).trans (note.mono (by simp))⟩
  · rw [execShankLimitWrite_groupWord p g a w s ha, answer, if_pos done]
  · exact (State.cfg_congr tables _ _).trans (s.cfg_setLimits_head _ _ w _ _ (by decide) (otherLimits_apart g))
  · exact (State.wlSet_congr tables _ _).trans (s.wlSet_setLimits_head _ _ w _ _)

theorem shankLimitWrite_beyond_groups (p : Fin 2) (a : BitVec 24) (w : Word) (s : State) (h : 0xC01E8 ≤ a.toNat) :
    exec (.shankLimitWrite p a w) s = .next s := by
  simp only [exec, execShankLimitWrite]
  rw [if_neg (by omega)]

/-- Settles O48: a discharge update judges the state of the shank, a timeout acts only on a discharge, and a limit word passes the
checks of R414 in their order before its fields take their first write. -/
theorem dischargeAndLimits : Obligations.DischargeAndLimits := by
  intro p s
  refine ⟨?_, dischargeTimeout_of_discharging s, dischargeTimeout_of_not_discharging s, ?_,
    fun a w => shankLimitWrite_beyond_groups p a w s⟩
  · rintro vm vs em es e rfl rfl rfl
    exact ⟨dischargeUpdate_of_discharging vm vs s, dischargeUpdate_of_idle vm vs s⟩
  · rintro g a w fs ha rfl
    refine ⟨fun hrev => ?_, fun hrev hlock => ?_, shankLimitWrite_sets_powerLimit p g a w s ha⟩
    · exact shankLimitWrite_refused p g a w s _ ha (limitFault_of_rev1 s _ _ _ _ _ hrev) (by decide)
    · exact shankLimitWrite_refused p g a w s _ ha (limitFault_of_locked s _ _ _ _ _ hrev hlock) (by decide)

end Sys2Proof.Machine
end

section
/-!
PROOFS. What raising an event changes in the device's record and at the ports: the pending bits and the counts of lost events (R96, R125).
-/

namespace Sys2Proof.Machine

theorem at'_upd_cases {α : Type} [Inhabited α] {n : Nat} (v : Vector α n) (i j : Nat) (f : α → α) :
    at' (upd v i f) j = at' v j ∨ at' (upd v i f) j = f (at' v j) := by
  by_cases hj : j = i
  · subst hj
    by_cases h : j < n
    · exact .inr (at'_upd_self v j f h)
    · exact .inl (by rw [upd, dif_neg h])
  · exact .inl (at'_upd_ne v i j f hj)

/-- The device differs in the pending bits of events at most, each port in its count of lost events (R96, R97, R125). -/
structure EventNoted (s t : State) : Prop where
  dev : t.dev = { s.dev with evtPend := t.dev.evtPend, emergPend := t.dev.emergPend }
  port : ∀ p, t.port p = { s.port p with lost := (t.port p).lost }

theorem EventNoted.refl (s : State) : EventNoted s s := ⟨rfl, fun _ => rfl⟩

theorem EventNoted.trans {s t u : State} (ht : EventNoted s t) (hu : EventNoted t u) : EventNoted s u where
  dev := by rw [hu.dev, ht.dev]
  port p := by rw [hu.port p, ht.port p]

theorem EventNoted.ite {s t u : State} {c : Prop} [Decidable c] (ht : EventNoted s t) (hu : EventNoted s u) :
    EventNoted s (if c then t else u) := by
  split
  · exact ht
  · exact hu

theorem State.onHead_noted (s : State) (x : Nat) (f : Head → Head) : EventNoted s (s.onHead x f) := ⟨rfl, fun _ => rfl⟩

theorem State.onEv_noted (s : State) (f : EventQ → EventQ) : EventNoted s (s.onEv f) := ⟨rfl, fun _ => rfl⟩

theorem State.emergPend_noted (s : State) (b : Bool) : EventNoted s (s.onDev fun d => { d with emergPend := b }) := ⟨rfl, fun _ => rfl⟩

theorem State.evtPend_noted (s : State) (b : Bool) : EventNoted s (s.onDev fun d => { d with evtPend := b }) := ⟨rfl, fun _ => rfl⟩

theorem State.lost_noted (s : State) (p : Fin 2) (n : Nat) : EventNoted s (s.onPort p fun q => { q with lost := satInc n q.lost }) where
  dev := rfl
  port j := by
    by_cases hj : j = p
    · rw [hj, State.port_onPort_fin]
    · rw [State.port_onPort_ne s p j _ hj]

theorem State.countLost_noted (s : State) (b c : Bool) : EventNoted s (s.countLost b c) := by
  have first : EventNoted s (if b then s.onPort 0 fun q => { q with lost := satInc 255 q.lost } else s) := .ite (s.lost_noted 0 255) (.refl s)
  exact .ite (first.trans (State.lost_noted _ 1 255)) first

theorem State.releaseFor_noted (need fuel : Nat) (s : State) : EventNoted s (s.releaseFor need fuel) := by
  induction fuel generalizing s with
  | zero => exact .refl s
  | succ n ih =>
    rw [State.releaseFor]
    refine .ite (.refl s) ?_
    split
    · exact .refl s
    · exact ((s.countLost_noted _ _).trans (State.onEv_noted _ _)).trans (ih _)

theorem State.appendEvent_noted (s : State) (e : Event) : EventNoted s (s.appendEvent e) :=
  (EventNoted.ite (s.evtPend_noted true) (.refl s)).trans (State.onEv_noted _ _)

theorem State.queueHeld_noted (n : Nat) (s : State) : EventNoted s (s.queueHeld n) := by
  induction n generalizing s with
  | zero => exact .refl s
  | succ n ih =>
    rw [State.queueHeld]
    split
    · exact .refl s
    · have room (need : Nat) : EventNoted s (s.releaseFor need 224) := s.releaseFor_noted need 224
      exact .ite ((((room _).trans (State.onEv_noted _ _)).trans (State.appendEvent_noted _ _)).trans (ih _)) (room _)

theorem State.queueEvent_noted (s : State) (e : Event) : EventNoted s (s.queueEvent e) := by
  have room : EventNoted s (s.releaseFor e.size 224) := s.releaseFor_noted e.size 224
  exact .ite (s.appendEvent_noted e) (.ite ((s.onEv_noted _).trans (State.queueHeld_noted _ _))
    (.ite (room.trans (State.appendEvent_noted _ _)) (.ite (room.trans (State.onEv_noted _ _)) (room.trans (State.countLost_noted _ _ _)))))

theorem State.raise_noted (s : State) (cls code lane : Nat) (args : List Word) : EventNoted s (s.raise cls code lane args) := by
  have counted (f : EventQ → EventQ) : EventNoted s (s.onEv f) := s.onEv_noted f
  have emergency (f : EventQ → EventQ) : EventNoted s ((s.onEv f).onDev fun d => { d with emergPend := true }) :=
    (counted f).trans (State.emergPend_noted _ true)
  exact .ite (.ite (emergency _) (.ite ((emergency _).trans (State.appendEvent_noted _ _)) ((emergency _).trans (State.countLost_noted _ _ _))))
    ((counted _).trans (State.queueEvent_noted _ _))

end Sys2Proof.Machine
end

section
/-!
PROOFS. COMMIT and DISCARD (R20, R112, R113): how the adoption of a set of words comes out word by word.
-/

namespace Sys2Proof.Machine

/-! ### Reading a store after a run of writes -/

/-- A run of writes that gives each word of a set a value of its own address: what stands under the address, or the old word. -/
theorem Store.get_foldl_set (val : Nat → Word) (ws : List Nat) (st : Store) (b : Nat) :
    (ws.foldl (fun st a => st.set a (val a)) st).get b = if ws.contains b then val b else st.get b := by
  induction ws generalizing st with
  | nil => rfl
  | cons a ws ih =>
    rw [List.foldl_cons, ih, Store.get_set, List.contains_cons]
    by_cases hb : b = a
    · subst hb; simp
    · simp [hb]

theorem Store.mem_insert_self (a : Nat) (w : Word) (st : Store) : (a, w) ∈ Store.insert a w st := by
  induction st with
  | nil => simp [Store.insert]
  | cons c rest ih =>
    rw [Store.insert]
    split
    · simp
    · split
      · simp
      · exact List.mem_cons_of_mem _ ih

theorem Store.mem_insert_of_mem (a b : Nat) (v w : Word) (st : Store) (hmem : (b, v) ∈ st) (hab : a = b → w = v) :
    (b, v) ∈ Store.insert a w st := by
  induction st with
  | nil => exact absurd hmem (List.not_mem_nil)
  | cons c rest ih =>
    rw [Store.insert]
    split
    · exact List.mem_cons_of_mem _ hmem
    · rcases List.mem_cons.mp hmem with head | tail
      · subst head
        split
        · next h => rw [h, hab h]; exact List.mem_cons_self
        · exact List.mem_cons_self
      · split
        · exact List.mem_cons_of_mem _ tail
        · exact List.mem_cons_of_mem _ (ih tail)

/-! ### Adoption of one word (R20) -/

theorem State.holdOld_frame (s : State) (a : Nat) : SameBut [.axes, .chans] s (s.holdOld a) := by
  rw [State.holdOld]
  split
  · exact (s.onAx_frame _ _).mono (by simp)
  · exact (s.onChan_frame _ _).mono (by simp)
  · exact .refl _ s

theorem State.onTbl_frame (s : State) (u : Tables) : SameBut [.tbl] s { s with tbl := u } := by
  intro p hp
  cases p with
  | tbl => exact absurd (.head _) hp
  | _ => rfl

theorem State.adoptWord_frame (s : State) (a : Nat) : SameBut [.tbl, .axes, .chans] s (s.adoptWord a) := by
  rw [State.adoptWord]
  exact .ite ((s.onTbl_frame _).mono (by simp)) (((s.holdOld_frame a).mono (by simp)).trans ((State.onTbl_frame _ _).mono (by simp)))

/-- The tables after a word has been adopted: its shadow value waits for the boundary, or is in force. -/
def Tables.adoptWord (u : Tables) (a : Nat) : Tables :=
  if atBoundary a then { u with due := Store.insert a (u.shadow.get a) u.due }
  else { u with force := u.force.set a (u.shadow.get a) }

theorem State.adoptWord_tbl (s : State) (a : Nat) : (s.adoptWord a).tbl = s.tbl.adoptWord a := by
  have held : (s.holdOld a).tbl = s.tbl := s.holdOld_frame a .tbl (by simp)
  rw [State.adoptWord, Tables.adoptWord]
  split
  · rfl
  · simp only [held]

/-! ### Adoption of a set of words -/

theorem State.foldl_adoptWord_frame (s : State) (ws : List Nat) : SameBut [.tbl, .axes, .chans] s (ws.foldl State.adoptWord s) := by
  induction ws generalizing s with
  | nil => exact .refl _ s
  | cons a ws ih => exact (s.adoptWord_frame a).trans (ih _)

theorem State.foldl_adoptWord_tbl (s : State) (ws : List Nat) :
    (ws.foldl State.adoptWord s).tbl = ws.foldl Tables.adoptWord s.tbl := by
  induction ws generalizing s with
  | nil => rfl
  | cons a ws ih => rw [List.foldl_cons, List.foldl_cons, ih, State.adoptWord_tbl]

theorem Tables.foldl_adoptWord_shadow (u : Tables) (ws : List Nat) : (ws.foldl Tables.adoptWord u).shadow = u.shadow := by
  induction ws generalizing u with
  | nil => rfl
  | cons a ws ih =>
    rw [List.foldl_cons, ih, Tables.adoptWord]
    split <;> rfl

theorem Tables.foldl_adoptWord_force (u : Tables) (ws : List Nat) (b : Nat) :
    (ws.foldl Tables.adoptWord u).force.get b = if ws.contains b && !atBoundary b then u.shadow.get b else u.force.get b := by
  induction ws generalizing u with
  | nil => rfl
  | cons a ws ih =>
    rw [List.foldl_cons, ih, List.contains_cons, Tables.adoptWord]
    by_cases hb : b = a
    · subst hb
      cases hat : atBoundary b <;> simp [Store.get_set]
    · cases hat : atBoundary a <;> simp [hb, Store.get_set]

theorem Tables.mem_foldl_adoptWord_due_of_mem (u : Tables) (ws : List Nat) (b : Nat) (h : (b, u.shadow.get b) ∈ u.due) :
    (b, u.shadow.get b) ∈ (ws.foldl Tables.adoptWord u).due := by
  induction ws generalizing u with
  | nil => exact h
  | cons a ws ih =>
    have shadow : (u.adoptWord a).shadow = u.shadow := u.foldl_adoptWord_shadow [a]
    rw [List.foldl_cons, ← shadow]
    refine ih _ ?_
    rw [shadow, Tables.adoptWord]
    split
    · exact Store.mem_insert_of_mem _ _ _ _ _ h (by rintro rfl; rfl)
    · exact h

theorem Tables.mem_foldl_adoptWord_due (u : Tables) (ws : List Nat) (b : Nat) (hb : b ∈ ws) (hat : atBoundary b = true) :
    (b, u.shadow.get b) ∈ (ws.foldl Tables.adoptWord u).due := by
  induction ws generalizing u with
  | nil => exact absurd hb List.not_mem_nil
  | cons a ws ih =>
    have shadow : (u.adoptWord a).shadow = u.shadow := u.foldl_adoptWord_shadow [a]
    rw [List.foldl_cons, ← shadow]
    rcases List.mem_cons.mp hb with rfl | rest
    · refine Tables.mem_foldl_adoptWord_due_of_mem _ _ _ ?_
      rw [shadow, Tables.adoptWord, if_pos hat]
      exact Store.mem_insert_self _ _ _
    · exact ih _ rest

theorem State.scanEnd_frame (s : State) (x st : Nat) : SameBut [.heads, .dev, .ev, .ports] s (s.scanEnd x st) :=
  ((s.onHead_frame _ _).mono (by simp)).trans ((State.raise_frame _ _ _ _ _).mono (by simp))

theorem State.scanEnd_noted (s : State) (x st : Nat) : EventNoted s (s.scanEnd x st) :=
  (s.onHead_noted x _).trans (State.raise_noted (s.onHead x _) 7 2 x _)

/-- What a commit does to head `x` besides the tables: its band taken afresh, a background scan abandoned. -/
def State.adoptHead (ws : List Nat) (old : Store) (s : State) (x : Nat) : State :=
  let s := if bandChanged old s.tbl.force x then s.bandAfresh x else s
  if touchesDesc ws x then s.scanAbandon x else s

theorem State.adoptHead_frame (ws : List Nat) (old : Store) (s : State) (x : Nat) :
    SameBut [.heads, .dev, .ev, .ports] s (s.adoptHead ws old x) := by
  have band : SameBut [.heads, .dev, .ev, .ports] s (if bandChanged old s.tbl.force x then s.bandAfresh x else s) :=
    .ite ((s.onHead_frame _ _).mono (by simp)) (.refl _ s)
  have scan (t : State) : SameBut [.heads, .dev, .ev, .ports] t (t.scanAbandon x) := .ite (t.scanEnd_frame x 5) (.refl _ t)
  exact .ite (band.trans (scan _)) band

theorem State.adoptHead_noted (ws : List Nat) (old : Store) (s : State) (x : Nat) : EventNoted s (s.adoptHead ws old x) := by
  have band : EventNoted s (if bandChanged old s.tbl.force x then s.bandAfresh x else s) := .ite (s.onHead_noted x _) (.refl s)
  have scan (t : State) : EventNoted t (t.scanAbandon x) := .ite (t.scanEnd_noted x 5) (.refl t)
  exact .ite (band.trans (scan _)) band

/-- The pending sets of the ports without the words of a set. -/
def State.unpend (s : State) (ws : List Nat) : State :=
  { s with ports := s.ports.map fun q => { q with pend := q.pend.filter fun a => !ws.contains a } }

theorem State.unpend_frame (s : State) (ws : List Nat) : SameBut [.ports] s (s.unpend ws) := by
  intro p hp
  cases p with
  | ports => exact absurd (.head _) hp
  | _ => rfl

theorem at'_map {α : Type} [Inhabited α] {n : Nat} (v : Vector α n) (f : α → α) (i : Nat) (h : i < n) : at' (v.map f) i = f (at' v i) := by
  simp [at'_eq, h]

theorem State.unpend_port (s : State) (ws : List Nat) (p : Fin 2) :
    ((s.unpend ws).port p).pend = (s.port p).pend.filter fun a => !ws.contains a := by
  rw [State.port, State.unpend, at'_map _ _ _ p.isLt]
  rfl

/-- Adoption word by word, then head by head; the words leave the pending sets of both ports. -/
theorem State.adopt_eq (s : State) (ws : List Nat) :
    s.adopt ws = (((ws.foldl State.adoptWord s).adoptHead ws s.tbl.force 0).adoptHead ws s.tbl.force 1).unpend ws := rfl

theorem State.adopt_frame (s : State) (ws : List Nat) :
    SameBut [.tbl, .axes, .chans, .heads, .dev, .ev, .ports] s (s.adopt ws) := by
  rw [State.adopt_eq]
  have words := (s.foldl_adoptWord_frame ws).mono (qs := [.tbl, .axes, .chans, .heads, .dev, .ev, .ports]) (by simp)
  have head (t : State) (x : Nat) := (t.adoptHead_frame ws s.tbl.force x).mono (qs := [.tbl, .axes, .chans, .heads, .dev, .ev, .ports]) (by simp)
  exact ((words.trans (head _ 0)).trans (head _ 1)).trans ((State.unpend_frame _ ws).mono (by simp))

theorem State.adopt_tbl (s : State) (ws : List Nat) : (s.adopt ws).tbl = ws.foldl Tables.adoptWord s.tbl := by
  rw [← State.foldl_adoptWord_tbl, State.adopt_eq]
  have head (t : State) (x : Nat) : (t.adoptHead ws s.tbl.force x).tbl = t.tbl := t.adoptHead_frame ws s.tbl.force x .tbl (by simp)
  exact (head _ 1).trans (head _ 0)

theorem State.adopt_pend (s : State) (p : Fin 2) : ((s.adopt (s.port p).pend).port p).pend = [] := by
  have words : ((s.port p).pend.foldl State.adoptWord s).port p = s.port p :=
    congrArg (at' · p) (s.foldl_adoptWord_frame _ .ports (by simp))
  have head (t : State) (x : Nat) : ((t.adoptHead (s.port p).pend s.tbl.force x).port p).pend = (t.port p).pend :=
    by rw [(t.adoptHead_noted _ _ x).port p]
  rw [State.adopt_eq, State.unpend_port, head, head, words]
  simp

/-! ### COMMIT and DISCARD (R112, R113, R116) -/

theorem State.commit_of_startingUp (s : State) (p : Nat) (h : s.startingUp = true) : s.commit p = (s, rcState) := by
  simp only [State.commit, h, if_true]

theorem commit_refused (p : Fin 2) (s : State) (rc : Nat) (h : s.commit p = (s, rc)) (hrc : rc ≠ 0) :
    Answers (.commit p) s fun t => (t.port p).noteCode = rc ∧ (t.port p).pend = (s.port p).pend ∧ OnlyPort p s t := by
  refine ⟨s.refuse p rc false, ?_, s.refuse_noteCode p rc false, ?_, s.onPort_onlyPort _ _⟩
  · simp only [exec, execCommit, h, answer, if_neg hrc]
  · rw [State.refuse, State.port_onPort_fin]

theorem commit_adopts (p : Fin 2) (s : State) (h : s.commit p = (s.adopt (s.port p).pend, 0)) :
    Answers (.commit p) s fun t =>
      (t.port p).pend = [] ∧ t.tbl.shadow = s.tbl.shadow ∧
        (∀ a ∈ (s.port p).pend, atBoundary a = true → (a, s.tbl.shadow.get a) ∈ t.tbl.due) ∧
        (s.tbl.force.wf = true → ∀ a, t.tbl.force.get a =
          if (s.port p).pend.contains a && !atBoundary a then s.tbl.shadow.get a else s.tbl.force.get a) ∧
        t.stitch = s.stitch ∧ t.lanes = s.lanes ∧ t.jobs = s.jobs ∧ t.pending = s.pending := by
  have frame := s.adopt_frame (s.port p).pend
  refine ⟨s.adopt (s.port p).pend, ?_, s.adopt_pend p, ?_, ?_, ?_,
    frame .stitch (by simp), frame .lanes (by simp), frame .jobs (by simp), frame .pending (by simp)⟩
  · simp only [exec, execCommit, h, answer, if_true]
  · rw [State.adopt_tbl, Tables.foldl_adoptWord_shadow]
  · intro a ha hat
    rw [State.adopt_tbl]
    exact s.tbl.mem_foldl_adoptWord_due _ a ha hat
  · intro _ a
    rw [State.adopt_tbl, Tables.foldl_adoptWord_force]

theorem discard_restores (p : Fin 2) (s : State) :
    Answers (.discard p) s fun t =>
      (t.port p).pend = [] ∧ t.tbl.force = s.tbl.force ∧ t.tbl.due = s.tbl.due ∧
        (s.tbl.shadow.wf = true → ∀ a, t.tbl.shadow.get a =
          if (s.port p).pend.contains a then s.soon.get a else s.tbl.shadow.get a) ∧ SameBut [.tbl, .ports] s t := by
  refine ⟨s.discard p, rfl, ?_, rfl, rfl, fun _ a => Store.get_foldl_set _ _ _ a,
    ((s.onTbl_frame _).mono (by simp)).trans ((State.onPort_frame _ _ _).mono (by simp))⟩
  rw [State.discard, State.port_onPort_fin]

/-- Settles O21: COMMIT passes the checks of R113 in their order before its words are adopted one by one; DISCARD writes the shadow words
of the set back. -/
theorem commitAdoptsOrRefuses : Obligations.CommitAdoptsOrRefuses := by
  intro p s
  refine ⟨fun up => ?_, fun up out => ?_, fun up range broken => ?_, fun up range bound moving => ?_, fun up range bound rest => ?_,
    discard_restores p s⟩
  · exact commit_refused p s _ (s.commit_of_startingUp p up) (by decide)
  · exact commit_refused p s rcRange (by simp only [State.commit, up, out]; rfl) (by decide)
  · exact commit_refused p s rcBinding (by simp only [State.commit, up, range, broken]; rfl) (by decide)
  · exact commit_refused p s rcState (by simp only [State.commit, up, range, bound, moving]; rfl) (by decide)
  · exact commit_adopts p s (by simp only [State.commit, up, range, bound, rest]; rfl)

end Sys2Proof.Machine
end

section
/-!
PROOFS. What the operations on records, marks and gates leave alone (R141, R144, R159..R172), and what they make of the status of a record.
-/

namespace Sys2Proof.Machine

theorem SameBut.foldl {α : Type} {ps : List Part} {f : State → α → State} (h : ∀ t a, SameBut ps t (f t a)) (l : List α) (s : State) :
    SameBut ps s (l.foldl f s) := by
  induction l generalizing s with
  | nil => exact .refl ps s
  | cons a l ih => exact (h s a).trans (ih _)

/-! ### Marks and entries of the welt -/

theorem State.writeEntry_frame (s : State) (kind port : Nat) (seq : Word) (body : List Word) (act : OnCommit) :
    SameBut [.welt] s (s.writeEntry kind port seq body act) := s.onWelt_frame _

theorem State.flushMarks_frame (s : State) : SameBut [.welt] s s.flushMarks :=
  (SameBut.foldl (fun t _ => t.writeEntry_frame _ _ _ _ _) _ s).trans (State.onWelt_frame _ _)

theorem State.queueMark_frame (s : State) (code idx arg : Nat) (job : Word) : SameBut [.welt] s (s.queueMark code idx arg job) :=
  .ite ((s.onWelt_frame _).trans (State.flushMarks_frame _)) (s.onWelt_frame _)

theorem State.onGate_frame (s : State) (job : Word) (idx : Nat) (f : Gate → Option Gate) : SameBut [.welt] s (s.onGate job idx f) :=
  s.onWelt_frame _

theorem State.gateStopped_frame (s : State) (q : QItem) : SameBut [.welt] s (s.gateStopped q) := s.onGate_frame _ _ _

theorem State.gateEnded_frame (s : State) (q : QItem) : SameBut [.welt] s (s.gateEnded q) := by
  rw [State.gateEnded]
  split
  · exact .refl _ s
  · exact .ite (.refl _ s) (.ite ((s.writeEntry_frame _ _ _ _ _).trans (State.onGate_frame _ _ _ _)) (s.onGate_frame _ _ _))

/-! ### Records and jobs -/

theorem State.onJob_frame (s : State) (seq : Word) (f : Job → Job) : SameBut [.jobs] s (s.onJob seq f) := s.onJobs_frame _

theorem State.onRec_frame (s : State) (seq : Word) (idx : Nat) (f : RecStatus → RecStatus) : SameBut [.jobs] s (s.onRec seq idx f) :=
  s.onJob_frame seq _

theorem State.dropDeadline_frame (s : State) (seq : Word) (idx : Nat) : SameBut [.jobs] s (s.dropDeadline seq idx) := s.onJobs_frame _

theorem State.raiseJob_frame (s : State) (code lane : Nat) (job : Word) : SameBut [.dev, .ev, .ports] s (s.raiseJob code lane job) :=
  s.raise_frame _ _ _ _

theorem State.dropItem_frame (s : State) (i : Nat) (q : QItem) : SameBut [.jobs, .lanes] s (s.dropItem i q) :=
  ((s.dropDeadline_frame _ _).mono (by simp)).trans ((State.onLane_frame _ _ _).mono (by simp))

theorem State.checkDone_frame (s : State) (seq : Word) : SameBut [.jobs, .welt, .dev, .ev, .ports] s (s.checkDone seq) := by
  rw [State.checkDone]
  split
  · exact .refl _ s
  · refine .ite (.trans ?_ ((State.onJobs_frame _ _).mono (by simp))) (.refl _ s)
    exact ((s.queueMark_frame _ _ _ _).mono (by simp)).trans ((State.raiseJob_frame _ _ _ _).mono (by simp))

theorem State.endCtrl_frame (s : State) (q : QItem) (ok : Bool) : SameBut [.jobs, .welt, .dev, .ev, .ports] s (s.endCtrl q ok) :=
  (((s.onRec_frame _ _ _).mono (by simp)).trans ((State.queueMark_frame _ _ _ _ _).mono (by simp))).trans (State.checkDone_frame _ _)

theorem State.bistAbort_frame (s : State) : SameBut [.sec] s s.bistAbort := by
  refine .ite ?_ (.refl _ s)
  intro p hp
  cases p with
  | sec => exact absurd (.head _) hp
  | _ => rfl

/-! ### The job table -/

theorem State.job?_congr {s t : State} (h : t.jobs = s.jobs) (seq : Word) : t.job? seq = s.job? seq := by
  rw [State.job?, State.job?, h]

theorem State.recStatus_congr {s t : State} (h : t.jobs = s.jobs) (seq : Word) (idx : Nat) : t.recStatus seq idx = s.recStatus seq idx := by
  rw [State.recStatus, State.recStatus, State.job?_congr h]

theorem State.job?_onJob (s : State) (seq : Word) (f : Job → Job) (hf : ∀ j, (f j).seq = j.seq) :
    (s.onJob seq f).job? seq = (s.job? seq).map f := by
  have key : ((fun j : Job => j.seq == seq) ∘ fun j => if j.seq = seq then f j else j) = fun j => j.seq == seq := by
    funext j
    simp only [Function.comp]
    split
    · rw [hf]
    · rfl
  simp only [State.job?, State.onJob, State.onJobs_jobs, List.find?_map, key]
  cases found : s.jobs.table.find? fun j => j.seq == seq with
  | none => rfl
  | some j =>
    have hj : j.seq = seq := by simpa using List.find?_some found
    simp [hj]

/-- The copies done of a record, as its status counts them, under a change of the record's status that keeps them. -/
theorem State.copies_onRec (s : State) (seq : Word) (idx : Nat) (f : RecStatus → RecStatus) (hf : ∀ r, (f r).copies = r.copies) :
    ((s.onRec seq idx f).recStatus seq idx).copies = (s.recStatus seq idx).copies := by
  have jobs := s.job?_onJob seq (fun j => { j with status := j.status.modify idx f }) fun _ => rfl
  rw [State.recStatus, State.recStatus, State.onRec, jobs]
  cases s.job? seq with
  | none => rfl
  | some j =>
    simp only [Option.map_some, List.getD_eq_getElem?_getD, List.getElem?_modify_eq]
    cases j.status[idx]? with
    | none => rfl
    | some r => exact hf r

theorem State.recStatus_onJob (s : State) (seq : Word) (idx : Nat) (f : Job → Job) (hseq : ∀ j, (f j).seq = j.seq)
    (hstatus : ∀ j, (f j).status = j.status) : (s.onJob seq f).recStatus seq idx = s.recStatus seq idx := by
  rw [State.recStatus, State.recStatus, State.job?_onJob s seq f hseq]
  cases s.job? seq with
  | none => rfl
  | some j => simp only [Option.map_some, hstatus]

end Sys2Proof.Machine
end

section
/-!
PROOFS. The release of a record (R22, R141, R143, R149): a record that nothing holds back leaves its lane's queue and runs, and its engine
starts from the state reached then.
-/

namespace Sys2Proof.Machine

/-! ### The state from which the engine starts -/

/-- A lane that releases record `q` in stitch `n`. -/
def Lane.release (q : QItem) (n : Nat) (l : Lane) : Lane :=
  { l with queue := l.queue.drop 1, running := some q, relStitch := n + 1, state := .running, wait := .none, stopCause := 1 }

/-- The timeout of a released record runs (R143, R155). -/
def State.armTimeout (s : State) (q : QItem) : State :=
  if q.r.tmo then
    s.onJobs fun j => { j with deadlines := j.deadlines ++ [(q.job, q.idx, (s.stitch.n + 1) * 4096 + phOf q.r.timeout)] }
  else s

/-- What a release does besides its lane and its timeout: the record's gate, its status, the start of its job, a self-test. -/
def State.noteRelease (s : State) (i : Nat) (q : QItem) : State :=
  let s := s.onGate q.job q.idx fun g => some { g with live := true }
  let s := (s.onRec q.job q.idx fun r => { r with outcome := .running }).jobStarts i q.job
  if i < 18 then s.bistAbort else s

/-- The state in which record `q` of lane `i` is released and its engine has not started. -/
def State.released (s : State) (i : Nat) (q : QItem) : State :=
  ((s.onLane i (Lane.release q s.stitch.n)).armTimeout q).noteRelease i q

theorem State.release_eq (s : State) (i : Nat) (q : QItem) : s.release i q = (s.released i q).startEngine i q := rfl

theorem State.jobStarts_frame (s : State) (i : Nat) (seq : Word) : SameBut [.jobs, .welt, .dev, .ev, .ports] s (s.jobStarts i seq) := by
  rw [State.jobStarts]
  split
  · refine .ite (.refl _ s) (.trans ?_ ((State.raiseJob_frame _ _ _ _).mono (by simp)))
    exact ((s.onJob_frame _ _).mono (by simp)).trans ((State.queueMark_frame _ _ _ _ _).mono (by simp))
  · exact .refl _ s

theorem State.armTimeout_frame (s : State) (q : QItem) : SameBut [.jobs] s (s.armTimeout q) := .ite (s.onJobs_frame _) (.refl _ s)

theorem State.noteRelease_frame (s : State) (i : Nat) (q : QItem) : SameBut [.jobs, .welt, .dev, .ev, .ports, .sec] s (s.noteRelease i q) := by
  have record := ((s.onGate_frame q.job q.idx fun g => some { g with live := true }).mono (qs := [.jobs, .welt, .dev, .ev, .ports, .sec])
    (by simp)).trans ((State.onRec_frame _ q.job q.idx fun r => { r with outcome := .running }).mono (by simp))
  have started := record.trans ((State.jobStarts_frame _ i q.job).mono (by simp))
  exact .ite (started.trans ((State.bistAbort_frame _).mono (by simp))) started

/-- A release leaves every engine as it is: the lane, the record's bookkeeping and a self-test change. -/
theorem State.released_frame (s : State) (i : Nat) (q : QItem) :
    SameBut [.lanes, .jobs, .welt, .dev, .ev, .ports, .sec] s (s.released i q) :=
  (((s.onLane_frame _ _).mono (by simp)).trans ((State.armTimeout_frame _ _).mono (by simp))).trans
    ((State.noteRelease_frame _ _ _).mono (by simp))

theorem State.released_lane (s : State) (i : Nat) (q : QItem) (hi : i < 19) :
    (s.released i q).lane i = Lane.release q s.stitch.n (s.lane i) := by
  have kept : (s.released i q).lanes = (s.onLane i (Lane.release q s.stitch.n)).lanes :=
    ((State.armTimeout_frame _ q).mono (qs := [.jobs, .welt, .dev, .ev, .ports, .sec]) (by simp)).trans (State.noteRelease_frame _ i q)
      .lanes (by simp)
  rw [State.lane, kept]
  exact s.lane_onLane i _ hi

/-! ### Timeouts and copies under a release -/

/-- A job that starts is marked as started; nothing else of the jobs changes. -/
theorem State.jobStarts_jobs (s : State) (i : Nat) (seq : Word) :
    (s.jobStarts i seq).jobs = s.jobs ∨ (s.jobStarts i seq).jobs = (s.onJob seq fun j => { j with started := true }).jobs := by
  rw [State.jobStarts]
  split
  · split
    · exact .inl rfl
    · exact .inr ((State.raiseJob_frame _ _ _ _ .jobs (by simp)).trans (State.queueMark_frame _ _ _ _ _ .jobs (by simp)))
  · exact .inl rfl

theorem State.jobStarts_deadlines (s : State) (i : Nat) (seq : Word) : (s.jobStarts i seq).jobs.deadlines = s.jobs.deadlines := by
  rcases s.jobStarts_jobs i seq with h | h
  · rw [h]
  · rw [h]; rfl

theorem State.jobStarts_recStatus (s : State) (i : Nat) (seq : Word) (idx : Nat) :
    (s.jobStarts i seq).recStatus seq idx = s.recStatus seq idx := by
  rcases s.jobStarts_jobs i seq with h | h
  · exact State.recStatus_congr h _ _
  · exact (State.recStatus_congr h _ _).trans (State.recStatus_onJob s seq idx _ (fun _ => rfl) fun _ => rfl)

/-- The last part of a release, the abort of a self-test, leaves the jobs. -/
theorem State.abortForLane_jobs (s : State) (i : Nat) : (if i < 18 then s.bistAbort else s).jobs = s.jobs :=
  SameBut.ite s.bistAbort_frame (.refl _ s) .jobs (by simp)

theorem State.noteRelease_deadlines (s : State) (i : Nat) (q : QItem) : (s.noteRelease i q).jobs.deadlines = s.jobs.deadlines := by
  rw [State.noteRelease, State.abortForLane_jobs, State.jobStarts_deadlines]
  rfl

theorem State.released_deadline (s : State) (i : Nat) (q : QItem) (h : q.r.tmo = true) :
    (q.job, q.idx, (s.stitch.n + 1) * 4096 + phOf q.r.timeout) ∈ (s.released i q).jobs.deadlines := by
  rw [State.released, State.noteRelease_deadlines, State.armTimeout, if_pos h]
  simp

theorem State.armTimeout_recStatus (s : State) (q : QItem) : (s.armTimeout q).recStatus q.job q.idx = s.recStatus q.job q.idx := by
  rw [State.armTimeout]
  split <;> rfl

theorem State.released_copies (s : State) (i : Nat) (q : QItem) :
    ((s.released i q).recStatus q.job q.idx).copies = (s.recStatus q.job q.idx).copies := by
  rw [State.released, State.noteRelease, State.recStatus_congr (State.abortForLane_jobs _ i), State.jobStarts_recStatus]
  refine (State.copies_onRec _ _ _ (fun r => { r with outcome := .running }) fun _ => rfl).trans ?_
  exact congrArg RecStatus.copies (State.armTimeout_recStatus _ q)

/-! ### A record that nothing holds back -/

theorem State.released_tookRecord (s : State) (i : Nat) (q : QItem) (hi : i < 19) : s.tookRecord (s.released i q) i q := by
  rw [State.tookRecord, s.released_lane i q hi]
  exact ⟨rfl, rfl, rfl, rfl, rfl, s.released_deadline i q⟩

/-- Lanes and timeouts as they are keep a record taken. -/
theorem State.tookRecord.of_sameBut {s t u : State} {i : Nat} {q : QItem} {ps : List Part} (h : s.tookRecord t i q) (hu : SameBut ps t u)
    (hl : Part.lanes ∉ ps) (hj : Part.jobs ∉ ps) : s.tookRecord u i q := by
  have lanes : u.lanes = t.lanes := hu .lanes hl
  have jobs : u.jobs = t.jobs := hu .jobs hj
  rw [State.tookRecord, State.lane, lanes, jobs]
  exact h

theorem State.tryRecord_of_free (s : State) (i : Nat) (q : QItem) (ho : s.obstacle i q = none) (hg : q.r.gate = false) :
    s.tryRecord i q = s.release i q := by
  simp [State.tryRecord, ho, State.arm, hg]

/-- A release command of a type that is neither FENCE nor LANE_OUT on a releasable record. -/
theorem State.dispatchType_of_releasable (s : State) (i typ : Nat) (q : QItem) (h : s.releasable i typ q) (hf : typ ≠ tFence)
    (ho : typ ≠ tLaneOut) : s.dispatchType i typ = (s.released i q).startEngine i q := by
  obtain ⟨head, htyp, may, free, gate⟩ := h
  obtain ⟨rest, hq⟩ : ∃ rest, (s.lane i).queue = q :: rest := by
    cases hq : (s.lane i).queue with
    | nil => rw [hq] at head; cases head
    | cons c rest => rw [hq] at head; cases head; exact ⟨rest, rfl⟩
  simp only [State.dispatchType, hq, htyp, if_true, State.dispatch, may, List.length_cons, State.evalLane, hf, ho, if_false]
  rw [s.tryRecord_of_free i q free gate, State.release_eq]

end Sys2Proof.Machine
end

section
/-!
PROOFS. Records of a head lane start (R236, R252, R288, R295, R298).
-/

namespace Sys2Proof.Machine

/-! ### What the conditions of a start read -/

theorem State.feedAx_congr {s t : State} (h : t.tbl = s.tbl) (x : Nat) : t.feedAx x = s.feedAx x := State.cfg_congr h _ _

theorem State.cfgB_congr {s t : State} (h : t.tbl = s.tbl) (o : Obj) (f : Field) : t.cfgB o f = s.cfgB o f := by
  rw [State.cfgB, State.cfgB, State.cfg_congr h]

theorem State.feedBound_congr {s t : State} (h : t.tbl = s.tbl) (x : Nat) : t.feedBound x = s.feedBound x := by
  rw [State.feedBound, State.feedBound, State.cfgB_congr h, State.feedAx_congr h, State.cfg_congr h]

theorem State.masterFaulted_congr {s t : State} (h : t.tbl = s.tbl) (he : t.encs = s.encs) (x : Nat) : t.masterFaulted x = s.masterFaulted x := by
  rw [State.masterFaulted, State.masterFaulted, State.cfg_congr h, State.cfg_congr h, he]

theorem State.pathBlocked_congr {s t : State} (h : t.tbl = s.tbl) (hm : t.mss = s.mss) (hz : t.sup = s.sup) (x typ : Nat) :
    t.pathBlocked x typ = s.pathBlocked x typ := by
  simp only [State.pathBlocked, State.msaOut, State.msbOut, State.cfgB_congr h, State.cfg_congr h, hm, hz]

theorem State.blocked_congr {s t : State} (h : t.tbl = s.tbl) (ha : t.axes = s.axes) (n : Nat) (neg : Bool) (free : Option Nat) :
    t.blocked n neg free = s.blocked n neg free := by
  simp only [State.blocked, State.guards, State.ax, State.cfgB_congr h, State.cfg_congr h, ha]

/-! ### The path is taken (R236) -/

theorem State.takePath_frame (s : State) (x : Nat) (q : QItem) : SameBut [.heads, .dev, .ev, .ports] s (s.takePath x q) := by
  have taken (f : Head → Head) : SameBut [.heads, .dev, .ev, .ports] s (s.onHead x f) := (s.onHead_frame x f).mono (by simp)
  exact .ite ((taken _).trans ((State.raise_frame _ _ _ _ _).mono (by simp))) (taken _)

/-- Head `x` once record `q` has taken its path. -/
def State.pathTaken (s : State) (x : Nat) (q : QItem) (h : Head) : Head :=
  let mode := if q.r.typ = tPattern then 0 else s.cfg (.head x) F.hs_MODE
  { h with job := q.job, idx := q.idx, typ := q.r.typ, copies := if q.r.typ = tPrint then q.r.copies else 1,
           pattern := if q.r.typ = tPattern then bits (q.r.w 1) 3 0 else 0, hmode := mode, period := (s.rateOf x mode).1,
           pcopy := if q.r.typ = tPrint then (s.recStatus q.job q.idx).copies + 1 else 1 }

theorem State.takePath_head (s : State) (x : Fin 2) (q : QItem) : (s.takePath x q).head x = s.pathTaken x q (s.head x) := by
  have event (t : State) (c : Bool) : (if c then t.raise 6 8 x [] else t).heads = t.heads :=
    SameBut.ite (t.raise_frame _ _ _ _) (.refl _ t) .heads (by simp)
  exact (congrArg (at' · x) (event _ _)).trans (s.head_onHead_fin x _)

/-! ### PRINT (R236, R242) -/

/-- What a PRINT needs beyond its release to run (R236, R287, R398). -/
structure State.PrintRuns (s : State) (x : Nat) (q : QItem) : Prop where
  bound : s.feedBound x = true
  master : s.masterFaulted x = false
  path : s.pathBlocked x q.r.typ = false
  more : (s.recStatus q.job q.idx).copies < q.r.copies

theorem State.startPrint_of_path_runs (s : State) (x : Nat) (q : QItem) (h : s.PrintRuns x q) (hr : (s.head x).step = .run)
    (hf : (s.head x).follow = false) : s.startPrint x q = s.onHead x fun h => { h with later := some (q.job, q.idx) } := by
  simp [State.startPrint, h.bound, h.master, h.path, Nat.not_le.mpr h.more, hr, hf]

theorem State.startPrint_of_path_free (s : State) (x : Nat) (q : QItem) (h : s.PrintRuns x q) (hr : (s.head x).step ≠ .run) :
    s.startPrint x q =
      ((s.takePath x q).vhenUp x).onHead x fun h => { h with step := .wait, midCopy := false, follow := false, stopAfter := false } := by
  simp [State.startPrint, h.bound, h.master, h.path, Nat.not_le.mpr h.more, hr]

/-- A release leaves what a PRINT needs as it is. -/
theorem State.PrintRuns.released {s : State} {x : Nat} {q : QItem} (h : s.PrintRuns x q) : (s.released x q).PrintRuns x q := by
  have frame := s.released_frame x q
  have tbl : (s.released x q).tbl = s.tbl := frame .tbl (by simp)
  refine ⟨?_, ?_, ?_, ?_⟩
  · rw [State.feedBound_congr tbl, h.bound]
  · rw [State.masterFaulted_congr tbl (frame .encs (by simp)), h.master]
  · rw [State.pathBlocked_congr tbl (frame .mss (by simp)) (frame .sup (by simp)), h.path]
  · rw [s.released_copies]; exact h.more

theorem State.released_head (s : State) (i : Nat) (q : QItem) (x : Nat) : (s.released i q).head x = s.head x :=
  congrArg (at' · x) (s.released_frame i q .heads (by simp))

theorem State.released_ax (s : State) (i : Nat) (q : QItem) (n : Nat) : (s.released i q).ax n = s.ax n :=
  congrArg (at' · n) (s.released_frame i q .axes (by simp))

/-! ### The head starts what its lane has released -/

theorem State.startEngine_of_head (s : State) (x : Fin 2) (q : QItem) : s.startEngine x q = s.startHead x q := if_pos x.isLt

theorem State.releasable.typ_eq {s : State} {i typ : Nat} {q : QItem} (h : s.releasable i typ q) : q.r.typ = typ := by
  obtain ⟨_, htyp, _⟩ := h
  exact htyp

/-- A release command of head lane `x` on a record that nothing holds back: the head starts it. -/
theorem Answers.of_head_release {c : Instr} {s : State} {x : Fin 2} {typ : Nat} {q : QItem} {p : State → Prop}
    (hc : exec c s = .next (s.dispatchType x typ)) (h : s.releasable x typ q) (hf : typ ≠ tFence) (ho : typ ≠ tLaneOut)
    (hp : p ((s.released x q).startHead x q)) : Answers c s p := by
  refine ⟨_, ?_, hp⟩
  rw [hc, s.dispatchType_of_releasable x typ q h hf ho, State.startEngine_of_head]

theorem State.startHead_of_print (s : State) (x : Nat) (q : QItem) (h : q.r.typ = tPrint) : s.startHead x q = s.startPrint x q := if_pos h

theorem State.startHead_of_feed (s : State) (x : Nat) (q : QItem) (h : q.r.typ = tFeed) : s.startHead x q = s.startFeed x q := by
  simp [State.startHead, h, tPrint, tFeed]

theorem State.startHead_of_cut (s : State) (x : Nat) (q : QItem) (h : q.r.typ = tCut) : s.startHead x q = s.startCut x q := by
  simp [State.startHead, h, tPrint, tFeed, tCut]

theorem State.startHead_of_scan (s : State) (x : Nat) (q : QItem) (h : q.r.typ = tScan) : s.startHead x q = s.startScan x q := by
  simp [State.startHead, h, tPrint, tFeed, tCut, tScan]

theorem State.startHead_of_pattern (s : State) (x : Nat) (q : QItem) (h : q.r.typ = tPattern) :
    s.startHead x q = s.startPattern x q := by
  simp [State.startHead, h, tPrint, tFeed, tCut, tScan, tPattern]

theorem State.released_tookRecord_head (s : State) (x : Fin 2) (q : QItem) : s.tookRecord (s.released x q) x q :=
  s.released_tookRecord x q (by omega)

theorem printRelease_behind_path (x : Fin 2) (q : QItem) (s : State) (h : s.releasable x tPrint q) (hp : s.PrintRuns x q)
    (hr : (s.head x).step = .run) (hf : (s.head x).follow = false) :
    Answers (.printRelease x) s fun t =>
      s.tookRecord t x q ∧ (t.head x).later = some (q.job, q.idx) ∧ (t.head x).step = .run ∧ t.axes = s.axes := by
  refine .of_head_release rfl h (by decide) (by decide) ?_
  rw [← s.released_head x q x] at hr hf
  rw [State.startHead_of_print _ _ _ h.typ_eq, State.startPrint_of_path_runs _ x q hp.released hr hf, State.head_onHead_fin]
  exact ⟨(s.released_tookRecord_head x q).of_sameBut (State.onHead_frame _ _ _) (by simp) (by simp), rfl, hr,
    s.released_frame x q .axes (by simp)⟩

theorem printRelease_of_path_free (x : Fin 2) (q : QItem) (s : State) (h : s.releasable x tPrint q) (hp : s.PrintRuns x q)
    (hr : (s.head x).step ≠ .run) :
    Answers (.printRelease x) s fun t =>
      s.tookRecord t x q ∧ (t.head x).step = .wait ∧ (t.head x).job = q.job ∧ (t.head x).idx = q.idx ∧
        (t.head x).typ = tPrint ∧ (t.head x).copies = q.r.copies ∧ (t.head x).vhen = true ∧ t.axes = s.axes := by
  refine .of_head_release rfl h (by decide) (by decide) ?_
  rw [← s.released_head x q x] at hr
  have path := (s.released x q).takePath_frame x q
  rw [State.startHead_of_print _ _ _ h.typ_eq, State.startPrint_of_path_free _ x q hp.released hr, State.head_onHead_fin, State.vhenUp,
    State.head_onHead_fin, State.takePath_head]
  refine ⟨?_, rfl, rfl, rfl, h.typ_eq, if_pos h.typ_eq, rfl, (path .axes (by simp)).trans (s.released_frame x q .axes (by simp))⟩
  exact (((s.released_tookRecord_head x q).of_sameBut path (by simp) (by simp)).of_sameBut (State.onHead_frame _ _ _) (by simp)
    (by simp)).of_sameBut (State.onHead_frame _ _ _) (by simp) (by simp)

/-! ### FEED (R288) -/

theorem State.axStart_frame (s : State) (n : Nat) (m : AxMode) (tgt : Int) (p : Prof) : SameBut [.axes] s (s.axStart n m tgt p) :=
  s.onAx_frame _ _

theorem State.pathMove_of_free (s : State) (x n : Nat) (tgt : Int) (p : Prof) (free : Option Nat)
    (h : s.blocked n (tgt - (s.ax n).pos < 0) free = false) : s.pathMove x n tgt p free = s.axStart n .move tgt p := by
  simp only [State.pathMove, h, Bool.false_eq_true, and_false, if_false]

/-- Head `x` with a plain FEED. -/
def Head.feeding (q : QItem) (h : Head) : Head :=
  { h with job := q.job, idx := q.idx, typ := tFeed, fmode := bits (q.r.w 1) 35 34, step := .feed }

theorem State.startFeed_of_plain (s : State) (x : Nat) (q : QItem) (hb : s.feedBound x = true) (hp : s.pathBlocked x tFeed = false)
    (hm : bits (q.r.w 1) 35 34 ≠ 1) (hr : (s.head x).step ≠ .run) :
    s.startFeed x q = (s.onHead x (Head.feeding q)).pathMove x (s.feedAx x)
      ((s.ax (s.feedAx x)).pos + signed 32 (bits (q.r.w 1) 31 0)) (s.pathProf x) none := by
  simp only [State.startFeed, hb, hp, hm, hr, Bool.not_true, Bool.false_eq_true, false_and, or_self, if_false]
  rfl

theorem feedRelease_moves (x : Fin 2) (q : QItem) (s : State) (h : s.releasable x tFeed q) (hb : s.feedBound x = true)
    (hp : s.pathBlocked x tFeed = false) (hm : bits (q.r.w 1) 35 34 ≠ 1) (hr : (s.head x).step ≠ .run)
    (hfree : s.blocked (s.feedAx x) (signed 32 (bits (q.r.w 1) 31 0) < 0) none = false) (hn : s.feedAx x < 12) :
    Answers (.feedRelease x) s fun t =>
      s.tookRecord t x q ∧ (t.head x).step = .feed ∧ (t.head x).typ = tFeed ∧ (t.head x).job = q.job ∧
        (t.ax (s.feedAx x)).mode = .move ∧
        (t.ax (s.feedAx x)).tgt = (s.ax (s.feedAx x)).pos + signed 32 (bits (q.r.w 1) 31 0) ∧ t.chans = s.chans := by
  refine .of_head_release rfl h (by decide) (by decide) ?_
  have frame := s.released_frame x q
  have tbl : (s.released x q).tbl = s.tbl := frame .tbl (by simp)
  rw [← State.feedBound_congr tbl] at hb
  rw [← State.pathBlocked_congr tbl (frame .mss (by simp)) (frame .sup (by simp))] at hp
  rw [← s.released_head x q x] at hr
  rw [State.startHead_of_feed _ _ _ h.typ_eq, State.startFeed_of_plain _ x q hb hp hm hr, State.feedAx_congr tbl, s.released_ax,
    State.pathMove_of_free]
  · have taken := (s.released_tookRecord_head x q).of_sameBut (State.onHead_frame _ x (Head.feeding q)) (by simp) (by simp)
    have head : ((s.released x q).onHead x (Head.feeding q)).head x = Head.feeding q ((s.released x q).head x) := State.head_onHead_fin _ x _
    refine ⟨taken.of_sameBut (State.axStart_frame _ _ _ _ _) (by simp) (by simp), congrArg Head.step head, congrArg Head.typ head,
      congrArg Head.job head, ?_, ?_, frame .chans (by simp)⟩
    all_goals rw [State.axStart, State.ax_onAx _ _ _ hn]
  · have same : ((s.released x q).onHead x (Head.feeding q)).ax (s.feedAx x) = s.ax (s.feedAx x) := s.released_ax x q _
    rw [same, add_sub_cancel_left]
    exact (State.blocked_congr tbl (frame .axes (by simp)) _ _ _).trans hfree

/-! ### SCAN (R252) and PATTERN 2 (R295) -/

theorem State.startScan_frame (s : State) (x : Nat) (q : QItem) : SameBut [.heads] s (s.startScan x q) :=
  ((s.onHead_frame _ _).trans (State.onHead_frame _ _ _)).trans (State.onHead_frame _ _ _)

theorem scanRelease_measures (x : Fin 2) (q : QItem) (s : State) (h : s.releasable x tScan q) :
    Answers (.scanRelease x) s fun t =>
      s.tookRecord t x q ∧ (t.head x).step = .scan ∧ (t.head x).sstate = 1 ∧ (t.head x).skind = 1 ∧ (t.head x).measured = 0 ∧
        (t.head x).vhen = true ∧ t.axes = s.axes := by
  refine .of_head_release rfl h (by decide) (by decide) ?_
  have frame := (s.released x q).startScan_frame x q
  rw [State.startHead_of_scan _ _ _ h.typ_eq]
  refine ⟨(s.released_tookRecord_head x q).of_sameBut frame (by simp) (by simp), ?_, ?_, ?_, ?_, ?_,
    (frame .axes (by simp)).trans (s.released_frame x q .axes (by simp))⟩
  all_goals simp only [State.startScan, State.scanStart, State.vhenUp, State.head_onHead_fin]

/-- Head `x` with PATTERN 2 from which nothing has been printed. -/
def Head.laddering (h : Head) : Head := { h with midCopy := false, follow := false, stopAfter := false, lineOn := false }

theorem State.startPattern_of_ladder (s : State) (x : Nat) (q : QItem) (hb : s.feedBound x = true) (hp : s.pathBlocked x tPattern = false)
    (hl : bits (q.r.w 1) 3 0 = 2) (hr : (s.head x).step ≠ .run) :
    s.startPattern x q = (((s.takePath x q).vhenUp x).onHead x Head.laddering).patternLayout x := by
  simp only [State.startPattern, hb, hp, hl, hr, Bool.not_true, Bool.false_eq_true, not_true, false_and, or_self, if_false, if_true,
    ne_eq]
  rfl

theorem State.ladder_frame (s : State) (x : Nat) (q : QItem) :
    SameBut [.heads, .dev, .ev, .ports] s ((((s.takePath x q).vhenUp x).onHead x Head.laddering).patternLayout x) := by
  have head (t : State) (f : Head → Head) : SameBut [.heads, .dev, .ev, .ports] t (t.onHead x f) := (t.onHead_frame x f).mono (by simp)
  exact (((s.takePath_frame x q).trans (head _ _)).trans (head _ _)).trans (head _ _)

theorem State.ladder_head (s : State) (x : Fin 2) (q : QItem) :
    let h := ((((s.takePath x q).vhenUp x).onHead x Head.laddering).patternLayout x).head x
    h.step = .wait ∧ h.typ = q.r.typ ∧ h.pattern = (if q.r.typ = tPattern then bits (q.r.w 1) 3 0 else 0) ∧
      h.dl.length = (s.head x).dl.length + 1 := by
  have before : (((s.takePath x q).vhenUp x).onHead x Head.laddering).head x =
      Head.laddering { s.pathTaken x q (s.head x) with vhen := true, settle := if (s.head x).settle = 0 then 1 else (s.head x).settle } := by
    rw [State.head_onHead_fin, State.vhenUp, State.head_onHead_fin, State.takePath_head]
    rfl
  rw [State.patternLayout, State.head_onHead_fin, before]
  exact ⟨rfl, rfl, rfl, List.length_append⟩

theorem patternRelease_laysOut (x : Fin 2) (q : QItem) (s : State) (h : s.releasable x tPattern q) (hb : s.feedBound x = true)
    (hp : s.pathBlocked x tPattern = false) (hl : bits (q.r.w 1) 3 0 = 2) (hr : (s.head x).step ≠ .run) :
    Answers (.patternRelease x) s fun t =>
      s.tookRecord t x q ∧ (t.head x).step = .wait ∧ (t.head x).typ = tPattern ∧ (t.head x).pattern = 2 ∧
        (t.head x).dl.length = (s.head x).dl.length + 1 ∧ t.axes = s.axes := by
  refine .of_head_release rfl h (by decide) (by decide) ?_
  have frame := s.released_frame x q
  have tbl : (s.released x q).tbl = s.tbl := frame .tbl (by simp)
  rw [← State.feedBound_congr tbl] at hb
  rw [← State.pathBlocked_congr tbl (frame .mss (by simp)) (frame .sup (by simp))] at hp
  rw [← s.released_head x q x] at hr
  obtain ⟨step, typ, pattern, lists⟩ := (s.released x q).ladder_head x q
  have ladder := (s.released x q).ladder_frame x q
  rw [State.startHead_of_pattern _ _ _ h.typ_eq, State.startPattern_of_ladder _ x q hb hp hl hr]
  rw [h.typ_eq] at typ
  rw [h.typ_eq, if_pos rfl, hl] at pattern
  rw [s.released_head] at lists
  exact ⟨(s.released_tookRecord_head x q).of_sameBut ladder (by simp) (by simp), step, typ, pattern, lists,
    (ladder .axes (by simp)).trans (frame .axes (by simp))⟩

/-! ### CUT (R298) -/

/-- The record on head lane `x` and what head `x` keeps of it are those of `s`, whatever the clicker does meanwhile. -/
structure State.CutKept (x : Nat) (s t : State) : Prop where
  queue : (t.lane x).queue = (s.lane x).queue
  running : (t.lane x).running = (s.lane x).running
  relStitch : (t.lane x).relStitch = (s.lane x).relStitch
  typ : (t.head x).typ = (s.head x).typ
  job : (t.head x).job = (s.head x).job
  cutTry : (t.head x).cutTry = (s.head x).cutTry
  cutPart : (t.head x).cutPart = (s.head x).cutPart

theorem State.CutKept.trans {x : Nat} {s t u : State} (ht : s.CutKept x t) (hu : t.CutKept x u) : s.CutKept x u :=
  ⟨hu.1.trans ht.1, hu.2.trans ht.2, hu.3.trans ht.3, hu.4.trans ht.4, hu.5.trans ht.5, hu.6.trans ht.6, hu.7.trans ht.7⟩

theorem State.CutKept.ite {x : Nat} {s t u : State} {c : Prop} [Decidable c] (ht : s.CutKept x t) (hu : s.CutKept x u) :
    s.CutKept x (if c then t else u) := by
  split
  · exact ht
  · exact hu

theorem State.CutKept.of_sameBut {x : Nat} {s t : State} {ps : List Part} (h : SameBut ps s t) (hl : Part.lanes ∉ ps)
    (hh : Part.heads ∉ ps) : s.CutKept x t := by
  have lane : t.lane x = s.lane x := congrArg (at' · x) (h .lanes hl)
  have head : t.head x = s.head x := congrArg (at' · x) (h .heads hh)
  constructor <;> simp only [lane, head]

theorem State.onHead_cutKept (s : State) (x : Nat) (f : Head → Head)
    (hf : ∀ h, (f h).typ = h.typ ∧ (f h).job = h.job ∧ (f h).cutTry = h.cutTry ∧ (f h).cutPart = h.cutPart) :
    s.CutKept x (s.onHead x f) := by
  obtain ⟨typ, job, cutTry, cutPart⟩ := hf (s.head x)
  rcases at'_upd_cases s.heads x x f with same | changed
  · have head : (s.onHead x f).head x = s.head x := same
    exact ⟨rfl, rfl, rfl, by rw [head], by rw [head], by rw [head], by rw [head]⟩
  · have head : (s.onHead x f).head x = f (s.head x) := changed
    exact ⟨rfl, rfl, rfl, by rw [head, typ], by rw [head, job], by rw [head, cutTry], by rw [head, cutPart]⟩

theorem State.onLane_cutKept (s : State) (x : Nat) (f : Lane → Lane)
    (hf : ∀ l, (f l).queue = l.queue ∧ (f l).running = l.running ∧ (f l).relStitch = l.relStitch) : s.CutKept x (s.onLane x f) := by
  obtain ⟨queue, running, relStitch⟩ := hf (s.lane x)
  rcases at'_upd_cases s.lanes x x f with same | changed
  · have lane : (s.onLane x f).lane x = s.lane x := same
    exact ⟨by rw [lane], by rw [lane], by rw [lane], rfl, rfl, rfl, rfl⟩
  · have lane : (s.onLane x f).lane x = f (s.lane x) := changed
    exact ⟨by rw [lane, queue], by rw [lane, running], by rw [lane, relStitch], rfl, rfl, rfl, rfl⟩

/-- The record that comes to rest is noted in the welt and in its job (R150, R174). -/
theorem State.noteStopped_cutKept (s : State) (x : Nat) (q : QItem) (f : RecStatus → RecStatus) :
    s.CutKept x ((s.gateStopped q).onRec q.job q.idx f) :=
  .of_sameBut (((s.gateStopped_frame q).mono (qs := [.welt, .jobs]) (by simp)).trans ((State.onRec_frame _ _ _ f).mono (by simp)))
    (by simp) (by simp)

theorem State.cameToRest_cutKept (s : State) (x : Nat) : s.CutKept x (s.cameToRest x) := by
  rw [State.cameToRest]
  refine .ite (.of_sameBut (.refl [] s) (by simp) (by simp)) ?_
  split
  · refine .trans ?_ (State.noteStopped_cutKept _ x _ _)
    exact s.onLane_cutKept x _ fun _ => ⟨rfl, rfl, rfl⟩
  · exact s.onLane_cutKept x _ fun _ => ⟨rfl, rfl, rfl⟩

theorem State.stoppedWith_cutKept (s : State) (x : Nat) : s.CutKept x (s.stoppedWith x) := by
  refine .trans ?_ (State.cameToRest_cutKept _ x)
  exact s.onLane_cutKept x _ fun _ => ⟨rfl, rfl, rfl⟩

theorem State.keepRest_frame (s : State) (n cause : Nat) : SameBut [.axes, .dev, .ev, .ports] s (s.keepRest n cause) := by
  have halted (f : Axis → Axis) : SameBut [.axes, .dev, .ev, .ports] s (s.onAx n f) := (s.onAx_frame n f).mono (by simp)
  exact .ite (halted _) ((halted _).trans ((State.raise_frame _ _ _ _ _).mono (by simp)))

theorem State.pathMove_cutKept (s : State) (x n : Nat) (tgt : Int) (p : Prof) (free : Option Nat) :
    s.CutKept x (s.pathMove x n tgt p free) := by
  refine .ite (.trans ?_ (State.stoppedWith_cutKept _ x)) (.of_sameBut (s.axStart_frame _ _ _ _) (by simp) (by simp))
  exact .of_sameBut (((s.onAx_frame n _).mono (by simp)).trans (State.keepRest_frame _ n 2)) (by simp) (by simp)

theorem State.clkMove_cutKept (s : State) (x : Nat) (step : HStep) (d : Int) (prof : Nat) : s.CutKept x (s.clkMove x step d prof) := by
  refine .trans ?_ (State.pathMove_cutKept _ _ _ _ _ _)
  exact s.onHead_cutKept x _ fun _ => ⟨rfl, rfl, rfl, rfl⟩

theorem State.strokeBegin_cutKept (s : State) (x : Nat) : s.CutKept x (s.strokeBegin x) := by
  refine .trans ?_ (.ite (State.clkMove_cutKept _ _ _ _ _) (State.clkMove_cutKept _ _ _ _ _))
  exact s.onHead_cutKept x _ fun _ => ⟨rfl, rfl, rfl, rfl⟩

theorem State.cutFeed_cutKept (s : State) (x : Nat) : s.CutKept x (s.cutFeed x) := by
  refine .ite (.trans ?_ (State.pathMove_cutKept _ _ _ _ _ _)) (s.strokeBegin_cutKept x)
  exact s.onHead_cutKept x _ fun _ => ⟨rfl, rfl, rfl, rfl⟩

/-- Head `x` with the first try of a CUT record. -/
def Head.cutting (q : QItem) (h : Head) : Head :=
  { h with job := q.job, idx := q.idx, typ := tCut, cutTry := 1, cutPart := decide (bits (q.r.w 1) 35 32 = 1), noLeave := 0 }

/-- The first step of a CUT: the feed of step 2 where the clicker is home, else the way home. -/
def State.cutFirst (s : State) (x : Nat) : State := if s.atHome x then s.cutFeed x else s.backOff x .cutHome

theorem State.cutFirst_cutKept (s : State) (x : Nat) : s.CutKept x (s.cutFirst x) :=
  .ite (s.cutFeed_cutKept x) (s.clkMove_cutKept _ _ _ _)

theorem State.startCut_of_clicker (s : State) (x : Nat) (q : QItem) (he : s.cfgB (.head x) F.hb_CLK_EN = true)
    (hk : s.cfg (.ax (s.clkAx x)) F.ax_KIND = 1) (hr : (s.head x).step ≠ .run) :
    s.startCut x q = (s.onHead x (Head.cutting q)).cutFirst x := by
  simp only [State.startCut, he, hk, hr, Bool.not_true, bne_self_eq_false, Bool.or_self, Bool.false_eq_true, if_false]
  simp only [State.cutBegin, State.onHead, upd_upd]
  rfl

theorem cutRelease_begins (x : Fin 2) (q : QItem) (s : State) (h : s.releasable x tCut q) (he : s.cfgB (.head x) F.hb_CLK_EN = true)
    (hk : s.cfg (.ax (s.clkAx x)) F.ax_KIND = 1) (hr : (s.head x).step ≠ .run) :
    Answers (.cutRelease x) s fun t =>
      (t.lane x).queue = (s.lane x).queue.drop 1 ∧ (t.lane x).running = some q ∧ (t.lane x).relStitch = s.stitch.n + 1 ∧
        (t.head x).typ = tCut ∧ (t.head x).job = q.job ∧ (t.head x).cutTry = 1 ∧
        (t.head x).cutPart = decide (bits (q.r.w 1) 35 32 = 1) := by
  refine .of_head_release rfl h (by decide) (by decide) ?_
  have tbl : (s.released x q).tbl = s.tbl := s.released_frame x q .tbl (by simp)
  have clicker : (s.released x q).clkAx x = s.clkAx x := State.cfg_congr tbl _ _
  rw [← State.cfgB_congr tbl] at he
  rw [← clicker, ← State.cfg_congr tbl] at hk
  rw [← s.released_head x q x] at hr
  rw [State.startHead_of_cut _ _ _ h.typ_eq, State.startCut_of_clicker _ x q he hk hr]
  have lane : ((s.released x q).onHead x (Head.cutting q)).lane x = Lane.release q s.stitch.n (s.lane x) := s.released_lane x q (by omega)
  have head : ((s.released x q).onHead x (Head.cutting q)).head x = Head.cutting q ((s.released x q).head x) := State.head_onHead_fin _ x _
  obtain ⟨queue, running, relStitch, typ, job, cutTry, cutPart⟩ := ((s.released x q).onHead x (Head.cutting q)).cutFirst_cutKept x
  rw [lane] at queue running relStitch
  rw [head] at typ job cutTry cutPart
  exact ⟨queue, running, relStitch, typ, job, cutTry, cutPart⟩

/-- Settles O26: the release takes the record off its lane and leaves the engines; from there each record type begins in its own way. -/
theorem headRecordsStart : Obligations.HeadRecordsStart := by
  intro x q s
  refine ⟨fun h hb hm hp hc hr hf => ?_, fun h hb hm hp hc hr => ?_, feedRelease_moves x q s, cutRelease_begins x q s,
    scanRelease_measures x q s, patternRelease_laysOut x q s⟩
  · exact printRelease_behind_path x q s h ⟨hb, hm, h.typ_eq ▸ hp, hc⟩ hr hf
  · exact printRelease_of_path_free x q s h ⟨hb, hm, h.typ_eq ▸ hp, hc⟩ hr

end Sys2Proof.Machine
end

section
/-!
PROOFS. Layouts and bands (R62, R199, R215..R222).
-/

namespace Sys2Proof.Machine

/-! ### What the objects of a ticket are drawn from (R211..R216) -/

/-- Two states hold the same assets as they read, the same directory and the same OTP row: all that a ticket is drawn from. -/
structure State.DrawsAlike (s t : State) : Prop where
  word : t.astWord = s.astWord
  dir : t.dirEntry = s.dirEntry
  otp : t.otp = s.otp

section
variable {s t : State} (h : s.DrawsAlike t)
include h

theorem State.DrawsAlike.words : t.astWords = s.astWords := by
  funext e i n
  simp only [State.astWords, h.word]

theorem State.DrawsAlike.glyph : t.glyph = s.glyph := by
  funext e g
  simp only [State.glyph, State.fontRanges, h.word]

theorem State.DrawsAlike.glyphOf : t.glyphOf = s.glyphOf := by
  funext e cp
  simp only [State.glyphOf, State.ranges, State.fontRanges, State.fontDefault, h.words, h.word]

theorem State.DrawsAlike.runWidth : t.runWidth = s.runWidth := by
  funext font scale cps
  simp only [State.runWidth, h.glyph, h.glyphOf]

theorem State.DrawsAlike.fitCount : t.fitCount = s.fitCount := by
  funext font scale w cps
  rw [State.fitCount, State.fitCount, h.runWidth]

theorem State.DrawsAlike.wrapLine (font scale w fuel : Nat) (cps : List Nat) :
    t.wrapLine font scale w fuel cps = s.wrapLine font scale w fuel cps := by
  induction fuel generalizing cps with
  | zero => rfl
  | succ n ih => simp only [State.wrapLine, h.fitCount, ih]

theorem State.DrawsAlike.placeRun (font scale : Nat) (y : Int) (cps : List Nat) (x : Int) :
    t.placeRun font scale y cps x = s.placeRun font scale y cps x := by
  induction cps generalizing x with
  | nil => rfl
  | cons c rest ih => simp only [State.placeRun, State.fontBpp, h.glyph, h.glyphOf, h.words, h.word, ih]

theorem State.DrawsAlike.textObjects (e : Elem) (cps : List Nat) : t.textObjects e cps = s.textObjects e cps := by
  simp only [State.textObjects, State.fontAscent, State.fontDescent, h.runWidth, h.wrapLine, h.placeRun, h.word]

theorem State.DrawsAlike.symbolObjects (e : Elem) (bytes : List Nat) : t.symbolObjects e bytes = s.symbolObjects e bytes := by
  simp only [State.symbolObjects, State.hriLines, State.fontAscent, State.fontDescent, h.runWidth, h.placeRun, h.word]

theorem State.DrawsAlike.ticketObjects (tm : Template) (job href : Word) (copy : Nat) (fs : List (Nat × List Nat)) :
    t.ticketObjects tm job href copy fs = s.ticketObjects tm job href copy fs := by
  simp only [State.ticketObjects, State.signature, State.keyWords, h.textObjects, h.symbolObjects, h.words, h.dir, h.otp]

theorem State.DrawsAlike.template : t.template = s.template := by
  funext e
  simp only [State.template, h.words, h.dir]

/-- Equal heads and jobs besides give a copy of a PRINT the same objects. -/
theorem State.DrawsAlike.printObjects (hh : t.heads = s.heads) (hj : t.jobs = s.jobs) (x : Nat) (q : QItem) (c : Nat) :
    t.printObjects x q c = s.printObjects x q c := by
  simp only [State.printObjects, State.printTemplate, State.head, hh, State.job?_congr hj, h.template, h.ticketObjects]

end

/-! ### LAYOUT (R62, R215) -/

/-- A display list counted as late (R62). -/
def Dev.noteMissed (d : Dev) : Dev := { d with missed := satInc 4095 d.missed, missedAll := d.missedAll + 1, transient := true }

/-- The device after a layout that was late or not. -/
def State.noteLayout (s : State) (late : Bool) : State := if late then s.onDev Dev.noteMissed else s

theorem State.noteLayout_frame (s : State) (late : Bool) : SameBut [.dev] s (s.noteLayout late) := .ite (s.onDev_frame _) (.refl _ s)

theorem State.noteLayout_missed (s : State) (late : Bool) :
    (s.noteLayout late).dev.missed = if late then satInc 4095 s.dev.missed else s.dev.missed := by
  cases late <;> rfl

theorem State.noteLayout_cacheRoom (s : State) (late : Bool) (x : Nat) : (s.noteLayout late).cacheRoom x = s.cacheRoom x := by
  cases late <;> rfl

theorem State.noteLayout_drawsAlike (s : State) (late : Bool) : s.DrawsAlike (s.noteLayout late) := by
  cases late <;> exact ⟨rfl, rfl, rfl⟩

/-- The display list that LAYOUT adds for copy `c` of PRINT `q`. -/
def State.layoutList (s : State) (x : Nat) (q : QItem) (c : Nat) : DispList :=
  let t := s.printTemplate x q
  let objs := s.printObjects x q (max c 1)
  ⟨q.job, q.idx, c, t, objs, ticketLines t objs, if c = 0 then (s.recStatus q.job q.idx).copies + 1 else c, 0, false⟩

theorem State.layOut_frame (s : State) (x : Nat) (q : QItem) (c : Nat) : SameBut [.heads] s (s.layOut x q c) :=
  .ite (.refl _ s) (s.onHead_frame _ _)

theorem State.layOut_lists_of_room (s : State) (x : Fin 2) (q : QItem) (c : Nat)
    (h : cacheWords ((s.head x).dl.flatMap DispList.objs ++ s.printObjects x q (max c 1)) ≤ s.cacheRoom x) :
    ((s.layOut x q c).head x).dl = (s.head x).dl ++ [s.layoutList x q c] := by
  simp only [State.layOut, Nat.not_lt.mpr h, if_false, State.head_onHead_fin]
  rfl

theorem exec_layout_of_ready (x : Fin 2) (s : State) (q : QItem) (c : Nat) (late : Bool) (hn : s.layoutNext x = some (q, c))
    (hd : (s.head x).dl.length < 2) (hok : s.layoutOk x q = true) (hcore : s.dutyRuns 1 = true) (hram : at' s.dev.sramRet x = false) :
    exec (.layout x (late, none)) s = .next ((s.noteLayout late).layOut x q c) := by
  simp only [exec, execLayout, hn, hok, hcore, hram, Nat.not_le.mpr hd, decide_false, Bool.not_true, Bool.or_self, Bool.false_eq_true,
    if_false]
  rfl

theorem layout_adds_list (x : Fin 2) (s : State) (q : QItem) (c : Nat) (late : Bool) (hn : s.layoutNext x = some (q, c))
    (hd : (s.head x).dl.length < 2) (hok : s.layoutOk x q = true) (hcore : s.dutyRuns 1 = true) (hram : at' s.dev.sramRet x = false)
    (hroom : cacheWords ((s.head x).dl.flatMap DispList.objs ++ s.printObjects x q (max c 1)) ≤ s.cacheRoom x) :
    Answers (.layout x (late, none)) s fun t =>
      (∃ l, (t.head x).dl = (s.head x).dl ++ [l] ∧ l.job = q.job ∧ l.idx = q.idx ∧ l.copy = c ∧ l.done = false) ∧
        t.dev.missed = (if late then satInc 4095 s.dev.missed else s.dev.missed) ∧ SameBut [.heads, .dev] s t := by
  have note := s.noteLayout_frame late
  have heads : (s.noteLayout late).heads = s.heads := note .heads (by simp)
  have head : (s.noteLayout late).head x = s.head x := congrArg (at' · x) heads
  rw [← head, ← s.noteLayout_cacheRoom late, ← (s.noteLayout_drawsAlike late).printObjects heads (note .jobs (by simp))] at hroom
  have lists := State.layOut_lists_of_room _ x q c hroom
  have laid := (s.noteLayout late).layOut_frame x q c
  have dev : ((s.noteLayout late).layOut x q c).dev = (s.noteLayout late).dev := laid .dev (by simp)
  rw [head] at lists
  exact ⟨_, exec_layout_of_ready x s q c late hn hd hok hcore hram, ⟨_, lists, rfl, rfl, rfl, rfl⟩,
    (congrArg Dev.missed dev).trans (s.noteLayout_missed late), (note.mono (by simp)).trans (laid.mono (by simp))⟩

theorem layout_without_next (x : Fin 2) (s : State) (found : Bool × Option (Fin 2 × BitVec 20)) (h : s.layoutNext x = none) :
    exec (.layout x found) s = .next s := by
  simp only [exec, execLayout, h]

/-! ### BAND_COMMIT (R217..R222) -/

/-- Head `x` keeps the bands it has and its turn (R218). -/
structure State.BandsKept (s t : State) : Prop where
  bands : ∀ x, (t.head x).bands = (s.head x).bands
  turn : ∀ x, (t.head x).hadBand = (s.head x).hadBand
  frame : SameBut [.heads, .stitch, .dev, .ev, .ports] s t

theorem State.BandsKept.refl (s : State) : s.BandsKept s := ⟨fun _ => rfl, fun _ => rfl, .refl _ s⟩

theorem State.BandsKept.trans {s t u : State} (ht : s.BandsKept t) (hu : t.BandsKept u) : s.BandsKept u :=
  ⟨fun x => (hu.bands x).trans (ht.bands x), fun x => (hu.turn x).trans (ht.turn x), ht.frame.trans hu.frame⟩

theorem State.BandsKept.ite {s t u : State} {c : Prop} [Decidable c] (ht : s.BandsKept t) (hu : s.BandsKept u) :
    s.BandsKept (if c then t else u) := by
  split
  · exact ht
  · exact hu

theorem State.onHead_bandsKept (s : State) (x : Nat) (f : Head → Head) (hf : ∀ h, (f h).bands = h.bands ∧ (f h).hadBand = h.hadBand) :
    s.BandsKept (s.onHead x f) := by
  have head (y : Nat) : (s.onHead x f).head y = s.head y ∨ (s.onHead x f).head y = f (s.head y) := at'_upd_cases s.heads x y f
  refine ⟨fun y => ?_, fun y => ?_, (s.onHead_frame x f).mono (by simp)⟩
  all_goals
    obtain ⟨bands, turn⟩ := hf (s.head y)
    rcases head y with same | changed
    · rw [same]
    · rw [changed]
      assumption

theorem State.bandsKept_of_sameBut {s t : State} (h : SameBut [.stitch, .dev, .ev, .ports] s t) : s.BandsKept t := by
  have head (x : Nat) : t.head x = s.head x := congrArg (at' · x) (h .heads (by simp))
  exact ⟨fun x => by rw [head], fun x => by rw [head], h.mono (by simp)⟩

theorem State.raise_bandsKept (s : State) (cls code lane : Nat) (args : List Word) : s.BandsKept (s.raise cls code lane args) :=
  State.bandsKept_of_sameBut ((s.raise_frame _ _ _ _).mono (by simp))

theorem State.checkOverrun_bandsKept (s : State) (x : Nat) : s.BandsKept (s.checkOverrun x) := by
  have armed (b : Bool) : s.BandsKept (s.onHead x fun h => { h with ovrArmed := b }) := s.onHead_bandsKept x _ fun _ => ⟨rfl, rfl⟩
  refine .ite (.refl s) (.ite (armed true) (.ite (.refl s) (.trans (.trans (armed false) ?_) (State.raise_bandsKept _ _ _ _ _))))
  exact State.bandsKept_of_sameBut ((State.onStitch_frame _ _).mono (by simp))

theorem State.followCheck_bandsKept (s : State) (x : Nat) : s.BandsKept (s.followCheck x) := s.onHead_bandsKept x _ fun _ => ⟨rfl, rfl⟩

/-- The band that the composer commits next of display list `l`. -/
def State.nextBand (s : State) (x : Nat) (l : DispList) : Band :=
  { job := l.job, idx := l.idx, copy := l.cnext, num := l.bnext, lines := min 64 (l.lines - 64 * l.bnext),
    dots := s.composeBand x l, last := decide (l.lines ≤ 64 * (l.bnext + 1)), stitch := s.stitch.n }

/-- Head `x` takes the next band of display list `l`, and the other head has its turn. -/
def State.takeBand (s : State) (x : Nat) (l : DispList) : State :=
  (s.onHead x fun h =>
    { h with bands := h.bands ++ [s.nextBand x l], dl := h.dl.map fun k => if k = l then l.step (s.copiesOf l.job l.idx) else k,
             hadBand := true }).onHead (1 - x) fun h => { h with hadBand := false }

theorem State.takeBand_frame (s : State) (x : Nat) (l : DispList) : SameBut [.heads] s (s.takeBand x l) :=
  (s.onHead_frame _ _).trans (State.onHead_frame _ _ _)

theorem State.takeBand_head (s : State) (x : Fin 2) (l : DispList) :
    ((s.takeBand x l).head x).bands = (s.head x).bands ++ [s.nextBand x l] ∧ ((s.takeBand x l).head x).hadBand = true ∧
      ((s.takeBand x l).head (1 - x.val)).hadBand = false := by
  have other : x.val ≠ 1 - x.val := by omega
  rw [State.takeBand, State.head_onHead_ne _ _ _ _ other, State.head_onHead_fin, State.head_onHead _ _ _ (by omega)]
  exact ⟨rfl, rfl, rfl⟩

/-- After the band is taken the composer is judged: a band for a seam that was missed, the look-ahead, the path's follow-on. -/
theorem exec_bandCommit_of_turn (x : Fin 2) (s : State) (l : DispList) (hl : (s.head x).toCompose = some l)
    (ht : (s.head x).hadBand = false ∨ (s.head (1 - x.val)).toCompose = none) :
    ∃ t, exec (.bandCommit x) s = .next t ∧ (s.takeBand x l).BandsKept t := by
  have turn : ¬ ((s.head x).hadBand = true ∧ (s.head (1 - x.val)).toCompose.isSome = true) := by
    rintro ⟨had, next⟩
    rcases ht with h | h
    · rw [h] at had; cases had
    · rw [h] at next; cases next
  refine ⟨_, by simp only [exec, execBandCommit, hl, turn, if_false]; rfl, ?_⟩
  have late (c : Prop) [Decidable c] (b : Band) : (s.takeBand x l).BandsKept (if c then (s.takeBand x l).commitLate x b else s.takeBand x l) :=
    .ite (State.raise_bandsKept _ _ _ _ _) (.refl _)
  refine .ite (.trans (.trans ?_ (State.checkOverrun_bandsKept _ x)) (State.followCheck_bandsKept _ x))
    (.trans ?_ (State.checkOverrun_bandsKept _ x))
  all_goals exact late _ (s.nextBand x l)

theorem bandCommit_adds_band (x : Fin 2) (s : State) (l : DispList) (hl : (s.head x).toCompose = some l)
    (ht : (s.head x).hadBand = false ∨ (s.head (1 - x.val)).toCompose = none) :
    Answers (.bandCommit x) s fun t =>
      (∃ b, (t.head x).bands = (s.head x).bands ++ [b] ∧ b.job = l.job ∧ b.idx = l.idx ∧ b.num = l.bnext ∧ b.copy = l.cnext ∧
        b.lines = min 64 (l.lines - 64 * l.bnext) ∧ b.dots = s.composeBand x l) ∧ (t.head x).hadBand = true ∧
        (t.head (1 - x.val)).hadBand = false ∧ SameBut [.heads, .stitch, .dev, .ev, .ports] s t := by
  obtain ⟨t, run, kept⟩ := exec_bandCommit_of_turn x s l hl ht
  obtain ⟨bands, had, gave⟩ := s.takeBand_head x l
  exact ⟨t, run, ⟨s.nextBand x l, (kept.bands x).trans bands, rfl, rfl, rfl, rfl, rfl, rfl⟩, (kept.turn x).trans had,
    (kept.turn _).trans gave, ((s.takeBand_frame x l).mono (by simp)).trans kept.frame⟩

theorem bandCommit_without_list (x : Fin 2) (s : State) (h : (s.head x).toCompose = none) : exec (.bandCommit x) s = .next s := by
  simp only [exec, execBandCommit, h]

/-- Settles O34: a layout that finds room appends its list, counted late or not; a band taken in the head's turn stays while the composer is
judged. -/
theorem bandsAreComposed : Obligations.BandsAreComposed := fun x s =>
  ⟨fun q c late hn hd hok hcore hram hroom => layout_adds_list x s q c late hn hd hok hcore hram hroom, fun found => layout_without_next x s found,
    fun l => bandCommit_adds_band x s l, bandCommit_without_list x s⟩

end Sys2Proof.Machine
end

section
/-!
PROOFS. The way into the safe state (R422, R424) and a reset (R14, R518): what they leave, for the faults that end in one.
-/

namespace Sys2Proof.Machine

/-! ### What an entry into the safe state leaves -/

/-- Neither head runs a scan. -/
def State.noScan (s : State) : Prop := ∀ x, (s.head x).sstate ≠ 1

/-- What an entry into the safe state leaves in every case: the tables, the stitch, the power, the OTP row, what the welt holds; a device that
boots goes on booting. -/
structure State.SafeFrame (s t : State) : Prop where
  pending : t.pending = s.pending
  tbl : t.tbl = s.tbl
  stitch : t.stitch = s.stitch
  power : t.power = s.power
  log : t.welt.log = s.welt.log
  otp : t.sec.otp = s.sec.otp
  boot : s.dev.st = .boot → t.dev.st = .boot

namespace State.SafeFrame
variable {s t u : State}

theorem refl (s : State) : s.SafeFrame s := ⟨rfl, rfl, rfl, rfl, rfl, rfl, id⟩

theorem trans (ht : s.SafeFrame t) (hu : t.SafeFrame u) : s.SafeFrame u :=
  ⟨hu.pending.trans ht.pending, hu.tbl.trans ht.tbl, hu.stitch.trans ht.stitch, hu.power.trans ht.power, hu.log.trans ht.log,
    hu.otp.trans ht.otp, hu.boot ∘ ht.boot⟩

theorem ite {c : Prop} [Decidable c] (ht : s.SafeFrame t) (hu : s.SafeFrame u) : s.SafeFrame (if c then t else u) := by
  split
  · exact ht
  · exact hu

theorem foldl {α : Type} {f : State → α → State} (h : ∀ t a, SafeFrame t (f t a)) (l : List α) (s : State) : s.SafeFrame (l.foldl f s) := by
  induction l generalizing s with
  | nil => exact refl s
  | cons a l ih => exact (h s a).trans (ih _)

theorem of_sameBut (h : SameBut [.fresh, .ev, .ports, .lanes, .jobs, .heads, .axes, .chans, .shank] s t) : s.SafeFrame t where
  pending := h .pending (by simp)
  tbl := h .tbl (by simp)
  stitch := h .stitch (by simp)
  power := h .power (by simp)
  log := congrArg Welt.log (h .welt (by simp))
  otp := congrArg Sec.otp (h .sec (by simp))
  boot hb := (congrArg Dev.st (h .dev (by simp))).trans hb

end State.SafeFrame

theorem State.raise_safeFrame (s : State) (cls code lane : Nat) (args : List Word) : s.SafeFrame (s.raise cls code lane args) := by
  have frame := s.raise_frame cls code lane args
  refine ⟨frame .pending (by simp), frame .tbl (by simp), frame .stitch (by simp), frame .power (by simp),
    congrArg Welt.log (frame .welt (by simp)), congrArg Sec.otp (frame .sec (by simp)), fun h => ?_⟩
  rw [(s.raise_noted cls code lane args).dev]
  exact h

theorem State.onWelt_safeFrame (s : State) (f : Welt → Welt) (hf : (f s.welt).log = s.welt.log) : s.SafeFrame (s.onWelt f) :=
  ⟨rfl, rfl, rfl, rfl, hf, rfl, id⟩

theorem State.writeEntry_safeFrame (s : State) (kind port : Nat) (seq : Word) (body : List Word) (act : OnCommit) :
    s.SafeFrame (s.writeEntry kind port seq body act) := s.onWelt_safeFrame _ rfl

theorem State.flushMarks_safeFrame (s : State) : s.SafeFrame s.flushMarks := by
  rw [State.flushMarks]
  refine .trans ?_ (State.onWelt_safeFrame _ _ rfl)
  exact .foldl (fun t _ => t.writeEntry_safeFrame _ _ _ _ _) _ s

theorem State.queueMark_safeFrame (s : State) (code idx arg : Nat) (job : Word) : s.SafeFrame (s.queueMark code idx arg job) :=
  .ite ((s.onWelt_safeFrame _ rfl).trans (State.flushMarks_safeFrame _)) (s.onWelt_safeFrame _ rfl)

/-! ### A re-admission fails (R153, R154) -/

theorem State.onJobs_safeFrame (s : State) (f : Jobs → Jobs) : s.SafeFrame (s.onJobs f) := .of_sameBut ((s.onJobs_frame f).mono (by simp))

theorem State.onRec_safeFrame (s : State) (seq : Word) (idx : Nat) (f : RecStatus → RecStatus) : s.SafeFrame (s.onRec seq idx f) :=
  .of_sameBut ((s.onRec_frame seq idx f).mono (by simp))

theorem State.onLane_safeFrame (s : State) (i : Nat) (f : Lane → Lane) : s.SafeFrame (s.onLane i f) :=
  .of_sameBut ((s.onLane_frame i f).mono (by simp))

theorem State.breakFence_safeFrame (s : State) (seq : Word) (idx : Nat) : s.SafeFrame (s.breakFence seq idx) :=
  (((s.onJobs_safeFrame _).trans (State.onJobs_safeFrame _ _)).trans (State.queueMark_safeFrame _ _ _ _ _)).trans (State.raise_safeFrame _ _ _ _ _)

theorem State.breakFencesOver_safeFrame (s : State) (i : Nat) : s.SafeFrame (s.breakFencesOver i) :=
  .foldl (fun t _ => .foldl (fun u _ => .ite (u.breakFence_safeFrame _ _) (.refl u)) _ t) _ s

theorem State.showHeld_safeFrame (s : State) (i : Nat) (held : Bool) : s.SafeFrame (s.showHeld i held) :=
  .foldl (fun t _ => t.onRec_safeFrame _ _ _) _ s

theorem State.holdLane_safeFrame (s : State) (i : Nat) : s.SafeFrame (s.holdLane i) := by
  refine (s.showHeld_safeFrame i true).trans (.foldl (fun t seq => ?_) _ _)
  split
  · exact .ite (.refl t) ((t.onJobs_safeFrame _).trans (State.raise_safeFrame _ _ _ _ _))
  · exact .refl t

theorem State.writeLane_safeFrame (s : State) (i code : Nat) : s.SafeFrame (s.writeLane i code) := s.writeEntry_safeFrame _ _ _ _ _

theorem State.readmitFail_safeFrame (s : State) (i : Nat) : s.SafeFrame (s.readmitFail i) := by
  refine .trans (.trans (.trans (.trans ?_ (State.raise_safeFrame _ 4 1 i _)) (State.breakFencesOver_safeFrame _ i))
    (State.holdLane_safeFrame _ i)) (State.writeLane_safeFrame _ i 4)
  exact s.onLane_safeFrame i _

/-! ### Where no scan runs -/

/-- Where no scan runs an entry into the safe state leaves the lanes and the jobs besides, their stops aside. -/
structure State.SafeKept (s t : State) : Prop extends s.SafeFrame t where
  noScan : s.noScan → t.noScan
  lanes : s.noScan → t.lanes = s.lanes
  table : s.noScan → t.jobs.table = s.jobs.table
  batch : s.noScan → t.jobs.batch = s.jobs.batch

namespace State.SafeKept
variable {s t u : State}

theorem refl (s : State) : s.SafeKept s := ⟨.refl s, id, fun _ => rfl, fun _ => rfl, fun _ => rfl⟩

theorem trans (ht : s.SafeKept t) (hu : t.SafeKept u) : s.SafeKept u :=
  ⟨ht.toSafeFrame.trans hu.toSafeFrame, hu.noScan ∘ ht.noScan, fun h => (hu.lanes (ht.noScan h)).trans (ht.lanes h),
    fun h => (hu.table (ht.noScan h)).trans (ht.table h), fun h => (hu.batch (ht.noScan h)).trans (ht.batch h)⟩

theorem ite {c : Prop} [Decidable c] (ht : s.SafeKept t) (hu : s.SafeKept u) : s.SafeKept (if c then t else u) := by
  split
  · exact ht
  · exact hu

theorem foldl {α : Type} {f : State → α → State} (h : ∀ t a, SafeKept t (f t a)) (l : List α) (s : State) : s.SafeKept (l.foldl f s) := by
  induction l generalizing s with
  | nil => exact refl s
  | cons a l ih => exact (h s a).trans (ih _)

theorem of_frame (hf : s.SafeFrame t) (h : SameBut [.fresh, .dev, .ev, .ports, .axes, .chans, .shank, .sec] s t) : s.SafeKept t where
  toSafeFrame := hf
  noScan hn x := by
    have head : t.head x = s.head x := congrArg (at' · x) (h .heads (by simp))
    rw [head]; exact hn x
  lanes _ := h .lanes (by simp)
  table _ := congrArg Jobs.table (h .jobs (by simp))
  batch _ := congrArg Jobs.batch (h .jobs (by simp))

theorem of_sameBut (h : SameBut [.fresh, .ev, .ports, .axes, .chans, .shank] s t) : s.SafeKept t :=
  .of_frame (.of_sameBut (h.mono (by simp))) (h.mono (by simp))

theorem of_scan (hs : ¬ s.noScan) (h : s.SafeFrame t) : s.SafeKept t :=
  ⟨h, fun hn => absurd hn hs, fun hn => absurd hn hs, fun hn => absurd hn hs, fun hn => absurd hn hs⟩

end State.SafeKept

theorem State.raise_safeKept (s : State) (cls code lane : Nat) (args : List Word) : s.SafeKept (s.raise cls code lane args) :=
  .of_frame (s.raise_safeFrame _ _ _ _) ((s.raise_frame _ _ _ _).mono (by simp))

theorem State.onHead_safeKept (s : State) (x : Nat) (f : Head → Head) (hf : ∀ h, (f h).sstate = h.sstate) : s.SafeKept (s.onHead x f) := by
  refine ⟨.of_sameBut ((s.onHead_frame x f).mono (by simp)), fun h y => ?_, fun _ => rfl, fun _ => rfl, fun _ => rfl⟩
  rcases at'_upd_cases s.heads x y f with same | changed
  · exact (congrArg (Head.sstate · ≠ 1) same).mpr (h y)
  · exact ((congrArg (Head.sstate · ≠ 1) changed).trans (congrArg (· ≠ 1) (hf _))).mpr (h y)

theorem State.onAx_safeKept (s : State) (n : Nat) (f : Axis → Axis) : s.SafeKept (s.onAx n f) :=
  .of_sameBut ((s.onAx_frame n f).mono (by simp))

theorem State.onShank_safeKept (s : State) (f : Shank → Shank) : s.SafeKept (s.onShank f) :=
  .of_sameBut ((s.onShank_frame f).mono (by simp))

/-! ### Forced outputs (R422, R424) -/

theorem State.markUncertain_safeKept (s : State) (n cause : Nat) : s.SafeKept (s.markUncertain n cause) :=
  (s.onAx_safeKept n _).trans (State.raise_safeKept _ _ _ _ _)

theorem State.confJudge_safeKept (s : State) (n : Nat) (c : Conf) : s.SafeKept (s.confJudge n c) :=
  .ite (s.onAx_safeKept n _) (.ite (s.markUncertain_safeKept n _) (s.onAx_safeKept n _))

theorem State.uncertain_safeKept (s : State) (n cause : Nat) (lost : Bool) : s.SafeKept (s.uncertain n cause lost) :=
  .ite (s.markUncertain_safeKept n cause) (.ite (s.onAx_safeKept n _) (s.confJudge_safeKept n _))

theorem State.forceAxis_safeKept (s : State) (n : Nat) : s.SafeKept (s.forceAxis n) :=
  .ite ((s.onAx_safeKept n _).trans (State.uncertain_safeKept _ n 3 false)) (s.onAx_safeKept n _)

theorem State.unplace_safeKept (s : State) (x : Nat) : s.SafeKept (s.unplace x) := s.onHead_safeKept x _ fun _ => rfl

theorem State.forcePaths_safeKept (s : State) (n : Nat) : s.SafeKept (s.forcePaths n) :=
  .foldl (fun t x => .ite (t.unplace_safeKept x) (.refl t)) _ s

theorem Head.cutShort_sstate (h : Head) (d : Desc) (t : Nat) : (h.cutShort d t).sstate = h.sstate := by
  rw [Head.cutShort]
  split <;> rfl

theorem State.takeFresh_frame (s : State) : SameBut [.fresh] s s.takeFresh.2 := by
  intro p hp
  cases p with
  | fresh => exact absurd (.head _) hp
  | _ => rfl

theorem State.instant_safeKept (s : State) (x : Nat) : s.SafeKept (s.instant x).2 := .of_sameBut (s.takeFresh_frame.mono (by simp))

theorem State.scanEnd_safeFrame (s : State) (x st : Nat) : s.SafeFrame (s.scanEnd x st) :=
  (State.SafeFrame.of_sameBut ((s.onHead_frame x _).mono (by simp))).trans (State.raise_safeFrame (s.onHead x _) 7 2 x _)

/-- Head `x` gone dark: VHEN low, strobes ended, no placed line. -/
def State.darken (s : State) (x : Nat) : State :=
  ((s.instant x).2.onHead x fun h => { h.cutShort (s.desc x) (s.instant x).1 with vhen := false, settle := 0 }).unplace x

/-- A scan that is in progress ends with the head forced dark. -/
def State.forceScan (s : State) (x : Nat) : State :=
  if (s.head x).sstate ≠ 1 then s
  else if (s.head x).skind = 0 then s.onHead x fun h => { h with sstate := 2 }
  else if (s.head x).skind = 2 then (s.scanEnd x 5).readmitFail x
  else s

theorem State.forceHead_eq (s : State) (x : Nat) : s.forceHead x = (s.darken x).forceScan x := rfl

theorem State.darken_safeKept (s : State) (x : Nat) : s.SafeKept (s.darken x) := by
  refine .trans (.trans (s.instant_safeKept x) ?_) (State.unplace_safeKept _ x)
  exact State.onHead_safeKept _ x _ fun h => h.cutShort_sstate _ _

theorem State.forceScan_safeKept (s : State) (x : Nat) : s.SafeKept (s.forceScan x) := by
  rw [State.forceScan]
  split
  · exact .refl s
  · next scan =>
    refine .of_scan (fun none => none x (not_not.mp scan)) (.ite ?_ (.ite ?_ (.refl s)))
    · exact .of_sameBut ((s.onHead_frame x _).mono (by simp))
    · exact (s.scanEnd_safeFrame x 5).trans (State.readmitFail_safeFrame _ x)

theorem State.forceHead_safeKept (s : State) (x : Nat) : s.SafeKept (s.forceHead x) := by
  rw [State.forceHead_eq]
  exact (s.darken_safeKept x).trans (State.forceScan_safeKept _ x)

theorem State.forceOutputs_safeKept (s : State) (g : Nat) : s.SafeKept (s.forceOutputs g) :=
  .ite ((s.forceAxis_safeKept _).trans (State.forcePaths_safeKept _ _))
    (.ite (.of_sameBut ((s.onChan_frame _ _).mono (by simp))) (s.forceHead_safeKept _))

theorem State.forceAll_safeKept (s : State) : s.SafeKept s.forceAll :=
  .foldl (fun t _ => .ite (.refl t) (t.forceOutputs_safeKept _)) _ s

/-! ### The safe state (R422..R428) -/

theorem State.askStop_safeKept (s : State) (mask : Nat) : s.SafeKept (s.askStop mask) :=
  ⟨s.onJobs_safeFrame _, id, fun _ => rfl, fun _ => rfl, fun _ => rfl⟩

theorem State.bistAbort_safeKept (s : State) : s.SafeKept s.bistAbort :=
  .ite ⟨⟨rfl, rfl, rfl, rfl, rfl, rfl, id⟩, id, fun _ => rfl, fun _ => rfl, fun _ => rfl⟩ (.refl s)

theorem State.onDev_safeKept (s : State) (f : Dev → Dev) (hf : ∀ d, d.st = .boot → (f d).st = .boot) : s.SafeKept (s.onDev f) :=
  ⟨⟨rfl, rfl, rfl, rfl, rfl, rfl, hf s.dev⟩, id, fun _ => rfl, fun _ => rfl, fun _ => rfl⟩

theorem State.startDischarge_safeKept (s : State) : s.SafeKept s.startDischarge := by
  rw [State.startDischarge]
  exact s.onShank_safeKept _

theorem State.enterSafe_safeKept (s : State) (code : Nat) (disch : Bool) : s.SafeKept (s.enterSafe code disch) := by
  rw [State.enterSafe]
  have noted : s.SafeKept ((s.onShank fun k => { k with st := if k.st = .normal then .safe else k.st }).raise 1 code 31 []) :=
    (s.onShank_safeKept _).trans (State.raise_safeKept _ _ _ _ _)
  have entered := noted.trans (State.onDev_safeKept _ (fun d => { d with st := if d.st = .ready then .safe else d.st })
    fun d h => by simp [h])
  have stopped := ((entered.trans (State.forceAll_safeKept _)).trans (State.bistAbort_safeKept _)).trans (State.askStop_safeKept _ 0x3FFFF)
  exact .ite (.trans (.ite stopped noted) (State.startDischarge_safeKept _)) (.ite stopped noted)

theorem State.safeAtReset_safeKept (s : State) (cause : Nat) : s.SafeKept (s.safeAtReset cause) := by
  have fault : s.SafeKept (if cause = 4 then s.enterSafe 0xA false else s) := .ite (s.enterSafe_safeKept _ _) (.refl s)
  have stop (t : State) : t.SafeKept
      (if t.shank.stopLow then (t.onShank fun k => { k with stopped := true }).enterSafe 1 (bit (t.otp 0x17) 23) else t) :=
    .ite ((t.onShank_safeKept _).trans (State.enterSafe_safeKept _ _ _)) (.refl t)
  have door (t : State) : t.SafeKept (if t.shank.doorOpen then t.enterSafe 7 true else t) := .ite (t.enterSafe_safeKept _ _) (.refl t)
  have shut (t : State) : t.SafeKept (if t.sup.shut then t.enterSafe 9 false else t) := .ite (t.enterSafe_safeKept _ _) (.refl t)
  exact ((fault.trans (stop _)).trans (door _)).trans (shut _)

/-! ### A reset (R14, R518) -/

theorem State.eraseRun_frame (s : State) (b k n : Nat) : SameBut [.flash, .assets] s (s.eraseRun b k n) := by
  have queued : SameBut [.flash, .assets] s ((List.range n).foldl (fun (s : State) j => s.onBank b (Bank.queueErase (2048 + k + j))) s) :=
    .foldl (fun t _ => (t.onBank_frame _ _).mono (by simp)) _ s
  have forget (t : State) (a : Assets) : SameBut [.flash, .assets] t { t with assets := a } := by
    intro p hp
    cases p with
    | assets => exact absurd (.tail _ (.head _)) hp
    | _ => rfl
  exact .ite (queued.trans (forget _ _)) (queued.trans (forget _ _))

theorem State.eraseCopies_frame (s : State) (place off0 off1 size : Nat) :
    SameBut [.flash, .assets] s (s.eraseCopies place off0 off1 size) := by
  have first : SameBut [.flash, .assets] s (if placed place 0 then s.eraseRun 0 (off0 / 512) (assetSectors size) else s) :=
    .ite (s.eraseRun_frame _ _ _) (.refl _ s)
  exact .ite (first.trans (State.eraseRun_frame _ _ _ _)) first

theorem State.assetsAfterReset_frame (s : State) : SameBut [.flash, .assets] s s.assetsAfterReset := by
  have freed : SameBut [.flash, .assets] s
      (s.assets.dir.foldl (fun (s : State) c => if c.2.busy then s.eraseCommand c.2 else s) s) :=
    .foldl (fun t c => .ite (t.eraseCopies_frame _ _ _ _) (.refl _ t)) _ s
  intro p hp
  cases p with
  | assets => exact absurd (.tail _ (.head _)) hp
  | _ => exact freed _ hp

/-- The welt keeps its entries and gains at most what was programmed of the one being written (R462); the free values taken are counted. -/
theorem State.weltAfterReset_spec (s : State) : s.welt.log <+: s.weltAfterReset.1.log ∧ SameBut [.fresh] s s.weltAfterReset.2 := by
  have counted : SameBut [.fresh] s s.takeFresh.2.takeFresh.2 := s.takeFresh_frame.trans (State.takeFresh_frame _)
  cases hq : s.welt.wq with
  | nil => simp only [State.weltAfterReset, hq]; exact ⟨List.prefix_rfl, .refl _ s⟩
  | cons q rest =>
    simp only [State.weltAfterReset, hq]
    split
    · exact ⟨List.prefix_rfl, counted⟩
    · exact ⟨List.prefix_append _ _, counted⟩

/-- What `wasReset` asks, of the state from which the reset's own cause enters the safe state. -/
theorem State.resetBy_wasReset (s : State) (cause sub : Nat) (lost : Bool) : s.wasReset (s.resetBy cause sub lost) cause sub lost := by
  have assets := s.assetsAfterReset_frame
  obtain ⟨longer, welt⟩ := s.assetsAfterReset.weltAfterReset_spec
  have log : s.assetsAfterReset.welt = s.welt := assets .welt (by simp)
  have pending : s.assetsAfterReset.weltAfterReset.2.pending = s.pending := (welt .pending (by simp)).trans (assets .pending (by simp))
  have sec : s.assetsAfterReset.weltAfterReset.2.sec = s.sec := (welt .sec (by simp)).trans (assets .sec (by simp))
  refine ⟨rfl, rfl, rfl, rfl, rfl, rfl, rfl, pending, ?_, ?_⟩
  · rw [← log]; exact longer
  · exact (congrArg (fun q : Sec => q.otp.words) sec :)

theorem State.resetBy_noScan (s : State) (cause sub : Nat) (lost : Bool) : (s.resetBy cause sub lost).noScan := by
  intro x
  have heads : (s.resetBy cause sub lost).heads = Vector.replicate 2 Head.reset := rfl
  rw [State.head, heads]
  by_cases h : x < 2
  · rw [at'_replicate _ h]; decide
  · rw [at'_eq, dif_neg h]; decide

/-- A state that was reset stays one under an entry into the safe state. -/
theorem State.wasReset.of_safeKept {s t u : State} {cause sub : Nat} {lost : Bool} (h : s.wasReset t cause sub lost) (hn : t.noScan)
    (hu : t.SafeKept u) : s.wasReset u cause sub lost := by
  obtain ⟨boot, reset, lanes, tbl, stitch, table, batch, pending, log, otp⟩ := h
  refine ⟨hu.boot boot, ?_, (hu.lanes hn).trans lanes, hu.tbl.trans tbl, hu.stitch.trans stitch, (hu.table hn).trans table,
    (hu.batch hn).trans batch, hu.pending.trans pending, ?_, ?_⟩
  · rw [hu.power]; exact reset
  · rw [hu.log]; exact log
  · rw [hu.otp]; exact otp

theorem State.takeReset_wasReset (s : State) (cause sub : Nat) (lost : Bool) : s.wasReset (s.takeReset cause sub lost) cause sub lost :=
  (s.resetBy_wasReset cause sub lost).of_safeKept (s.resetBy_noScan cause sub lost) (State.safeAtReset_safeKept _ cause)

/-- A reset of a state that has kept its queue, its welt and its OTP row since `s` is one of `s`. -/
theorem State.wasReset.of_kept {s t u : State} {cause sub : Nat} {lost : Bool} (h : t.wasReset u cause sub lost)
    (hp : t.pending = s.pending) (hl : t.welt.log = s.welt.log) (ho : t.sec.otp = s.sec.otp) : s.wasReset u cause sub lost := by
  obtain ⟨boot, reset, lanes, tbl, stitch, table, batch, pending, log, otp⟩ := h
  exact ⟨boot, reset, lanes, tbl, stitch, table, batch, pending.trans hp, hl ▸ log, otp.trans (congrArg Otp.words ho)⟩

theorem State.faultReset_wasReset (s : State) (sub : Nat) : s.wasReset (s.faultReset sub) 4 sub false :=
  have entered := s.enterSafe_safeKept 0xA false
  (State.takeReset_wasReset _ 4 sub false).of_kept entered.pending entered.log entered.otp

end Sys2Proof.Machine
end

section
/-!
PROOFS. Clock faults, the fabric and the job cores (R29, R34, R514..R517, R520).
-/

namespace Sys2Proof.Machine

/-! ### Clocks and the fabric (R29, R514..R517) -/

theorem State.withPower_frame (s : State) (w : Power) : SameBut [.power] s { s with power := w } := by
  intro p hp
  cases p with
  | power => exact absurd (.head _) hp
  | _ => rfl

theorem Answers.of_fault {c : Instr} {s : State} {sub : Nat} (h : exec c s = .next (s.faultReset sub)) :
    Answers c s fun t => s.wasReset t 4 sub false := ⟨_, h, s.faultReset_wasReset sub⟩

theorem aonXtalLoss_clears (s : State) :
    Answers .aonXtalLoss s fun t => t.power = { s.power with aonXtal := false } ∧ SameBut [.power] s t :=
  ⟨{ s with power := { s.power with aonXtal := false } }, rfl, rfl, s.withPower_frame _⟩

theorem pllUFault_sets (s : State) : Answers .pllUFault s fun t => t.power = { s.power with pllU := true } ∧ SameBut [.power] s t :=
  ⟨{ s with power := { s.power with pllU := true } }, rfl, rfl, s.withPower_frame _⟩

theorem fabricParityError_repeated (s : State) :
    Answers (.fabricParityError true) s fun t =>
      t.dev = { s.dev with fabricTr := s.dev.fabricTr + 1, transient := true } ∧ SameBut [.dev] s t :=
  ⟨s.onDev fun d => { d with fabricTr := d.fabricTr + 1, transient := true }, rfl, rfl, s.onDev_frame _⟩

theorem fabricParityError_lasts (s : State) : Answers (.fabricParityError false) s fun t => s.wasReset t 4 1 false :=
  .of_fault (by simp only [exec, execFabricParityError, Bool.false_eq_true, if_false])

theorem pllURelock_locks (s : State) (h : s.power.pllU = true) :
    Answers (.pllURelock true) s fun t =>
      t.power = { s.power with pllU := false, clkTr := satInc 4095 s.power.clkTr } ∧ SameBut [.power] s t :=
  ⟨{ s with power := { s.power with pllU := false, clkTr := satInc 4095 s.power.clkTr } },
    by simp [exec, execPllURelock, h], rfl, s.withPower_frame _⟩

theorem pllURelock_lasts (s : State) (h : s.power.pllU = true) : Answers (.pllURelock false) s fun t => s.wasReset t 4 5 false :=
  .of_fault (by simp [exec, execPllURelock, h])

theorem pllURelock_of_locked (s : State) (h : s.power.pllU = false) (ok : Bool) : exec (.pllURelock ok) s = .next s := by
  simp [exec, execPllURelock, h]

theorem clockFault_of_bad (s : State) (kind : BitVec 2) (dev : BitVec 10) (h : s.clockBad kind.toNat dev.toNat = true) :
    Answers (.clockFault (kind, dev)) s fun t => s.wasReset t 4 (if kind = 3 then 4 else 5) false :=
  .of_fault (by simp only [exec, execClockFault, h, if_true])

theorem clockFault_of_good (s : State) (kind : BitVec 2) (dev : BitVec 10) (h : s.clockBad kind.toNat dev.toNat = false) :
    exec (.clockFault (kind, dev)) s = .next s := by
  simp only [exec, execClockFault, h, Bool.false_eq_true, if_false]

/-! ### Job cores (R34, R35, R520) -/

theorem State.setCore_frame (s : State) (k : Nat) (c : CoreState) : SameBut [.dev] s (s.setCore k c) := s.onDev_frame _

theorem State.core_setCore (s : State) (k : Fin 2) (c : CoreState) : at' (s.setCore k c).dev.cores k = c := at'_upd_self _ _ _ k.isLt

theorem State.setCore_others (s : State) (k : Nat) (c : CoreState) : Others s.dev.cores (s.setCore k c).dev.cores k :=
  fun _ hj => at'_upd_ne _ _ _ _ hj

theorem exec_watchdogMiss (k : Fin 2) (s : State) (h : s.sec.intrusive ≠ some 0x10) :
    exec (.watchdogMiss k) s = .next (match at' s.dev.cores k with
      | .running => s.setCore k .restarting
      | .probation => s.retireCore k
      | _ => s) := if_neg h

theorem watchdogMiss_suspended (k : Fin 2) (s : State) (h : s.sec.intrusive = some 0x10) : exec (.watchdogMiss k) s = .next s := if_pos h

theorem watchdogMiss_restarts (k : Fin 2) (s : State) (hd : s.sec.intrusive ≠ some 0x10) (hk : at' s.dev.cores k = .running) :
    Answers (.watchdogMiss k) s fun t =>
      at' t.dev.cores k = .restarting ∧ Others s.dev.cores t.dev.cores k ∧ SameBut [.dev] s t :=
  ⟨s.setCore k .restarting, by rw [exec_watchdogMiss k s hd, hk], s.core_setCore k _, s.setCore_others k _, s.setCore_frame k _⟩

/-- Core `k` is retired and its domain OFF. -/
def State.retireInto (s : State) (k : Nat) : State := (s.setCore k .retired).onDom (1 + k) fun d => { d with st := .off }

/-- Core `k` is retired, and the host is told of it (R39, R525). -/
def State.tellRetired (s : State) (k : Nat) : State := ((s.retireInto k).raise 13 2 31 [field 3 0 (1 + k)]).secondPart (1 + k)

theorem State.retireCore_eq (s : State) (k : Nat) :
    s.retireCore k = if at' (s.tellRetired k).dev.cores (1 - k) = .retired then (s.tellRetired k).faultReset 6 else s.tellRetired k := rfl

/-- SECOND_PART is a bit of the device and an event (R39): neither the cores nor the device's state changes with it. -/
theorem State.secondPart_dev (s : State) (code : Nat) :
    (s.secondPart code).dev.cores = s.dev.cores ∧ (s.secondPart code).dev.st = s.dev.st := by
  rw [State.secondPart]
  split
  · exact ⟨rfl, rfl⟩
  · rw [(State.raise_noted _ _ _ _ _).dev]
    exact ⟨rfl, rfl⟩

theorem State.secondPart_frame (s : State) (code : Nat) : SameBut [.dev, .ev, .ports] s (s.secondPart code) := by
  rw [State.secondPart]
  split
  · exact .refl _ s
  · exact ((s.onDev_frame _).mono (by simp)).trans (State.raise_frame _ _ _ _ _)

theorem State.tellRetired_frame (s : State) (k : Nat) : SameBut [.dev, .power, .ev, .ports] s (s.tellRetired k) := by
  have retired : SameBut [.dev, .power] s (s.retireInto k) :=
    ((s.setCore_frame k .retired).mono (by simp)).trans ((State.onDom_frame _ _ _).mono (by simp))
  exact ((retired.mono (by simp)).trans ((State.raise_frame _ _ _ _ _).mono (by simp))).trans ((State.secondPart_frame _ _).mono (by simp))

theorem State.tellRetired_dev (s : State) (k : Nat) :
    (s.tellRetired k).dev.cores = (s.setCore k .retired).dev.cores ∧ (s.tellRetired k).dev.st = s.dev.st := by
  obtain ⟨cores, st⟩ := ((s.retireInto k).raise 13 2 31 [field 3 0 (1 + k)]).secondPart_dev (1 + k)
  have note := ((s.retireInto k).raise_noted 13 2 31 [field 3 0 (1 + k)]).dev
  exact ⟨cores.trans (by rw [note]; rfl), st.trans (by rw [note]; rfl)⟩

theorem State.tellRetired_domain (s : State) (k : Fin 2) : (at' (s.tellRetired k).power.doms (1 + k)).st = .off := by
  have power : (s.tellRetired k).power = (s.retireInto k).power :=
    (State.secondPart_frame _ _ .power (by simp)).trans (State.raise_frame _ _ _ _ _ .power (by simp))
  rw [power]
  exact congrArg Domain.st (at'_upd_self _ _ _ (by omega))

/-- What a missed heartbeat of a core in probation finds of the other core once the first is retired. -/
theorem State.tellRetired_other (s : State) (k : Fin 2) : at' (s.tellRetired k).dev.cores (1 - k.val) = at' s.dev.cores (1 - k.val) := by
  rw [(s.tellRetired_dev k).1]
  exact s.setCore_others k .retired _ (by omega)

theorem watchdogMiss_retires (k : Fin 2) (s : State) (hd : s.sec.intrusive ≠ some 0x10) (hk : at' s.dev.cores k = .probation)
    (ho : at' s.dev.cores (1 - k.val) ≠ .retired) :
    Answers (.watchdogMiss k) s fun t =>
      at' t.dev.cores k = .retired ∧ (at' t.power.doms (1 + k)).st = .off ∧ t.dev.st = s.dev.st ∧
        SameBut [.dev, .power, .ev, .ports] s t := by
  obtain ⟨cores, st⟩ := s.tellRetired_dev k
  refine ⟨s.tellRetired k, ?_, ?_, s.tellRetired_domain k, st, s.tellRetired_frame k⟩
  · rw [exec_watchdogMiss k s hd, hk]
    rw [← s.tellRetired_other k] at ho
    exact congrArg _ ((s.retireCore_eq k).trans (if_neg ho))
  · rw [cores]; exact s.core_setCore k .retired

theorem watchdogMiss_of_last_core (k : Fin 2) (s : State) (hd : s.sec.intrusive ≠ some 0x10) (hk : at' s.dev.cores k = .probation)
    (ho : at' s.dev.cores (1 - k.val) = .retired) : Answers (.watchdogMiss k) s fun t => s.wasReset t 4 6 false := by
  have told := s.tellRetired_frame k
  refine ⟨(s.tellRetired k).faultReset 6, ?_, ?_⟩
  · rw [exec_watchdogMiss k s hd, hk]
    rw [← s.tellRetired_other k] at ho
    exact congrArg _ ((s.retireCore_eq k).trans (if_pos ho))
  · exact (State.faultReset_wasReset _ 6).of_kept (told .pending (by simp)) (congrArg Welt.log (told .welt (by simp)))
      (congrArg Sec.otp (told .sec (by simp)))

/-! ### A core comes back (R34) -/

theorem upd_of_eq {α : Type} {n : Nat} (v : Vector α n) (i : Nat) (f : α → α) (h : ∀ hi : i < n, f v[i] = v[i]) : upd v i f = v := by
  rw [upd]
  split
  · next hi => rw [h hi, Vector.set_getElem_self]
  · rfl

/-- A port that holds no characters gives core 0 nothing to work through. -/
theorem State.takeChars_of_empty (s : State) (p : Fin 2) (hr : (s.port p).rxRing = []) (hf : (s.port p).rxFifo = []) : s.takeChars p = s := by
  have port : s.port p = s.ports[p.val] := by rw [State.port, at'_eq, dif_pos p.isLt]
  have same : (s.onPort p fun q => { q with rxRing := q.rxRing ++ q.rxFifo, rxFifo := [] }) = s := by
    rw [State.onPort, upd_of_eq]
    intro _
    rw [← port, hf, List.append_nil, ← hf]
  simp only [State.takeChars, same, hr, List.length_nil, State.hunt, ite_self]

theorem coreRestart_begins_probation (k : Fin 2) (s : State) (hk : at' s.dev.cores k = .restarting)
    (hp : ∀ p < 2, (s.port p).rxRing = [] ∧ (s.port p).rxFifo = []) :
    Answers (.coreRestart k) s fun t =>
      at' t.dev.cores k = .probation ∧ Others s.dev.cores t.dev.cores k ∧ SameBut [.dev] s t := by
  have empty (p : Fin 2) : (s.setCore k .probation).takeChars p = s.setCore k .probation :=
    State.takeChars_of_empty _ p (hp p p.isLt).1 (hp p p.isLt).2
  refine ⟨s.setCore k .probation, ?_, s.core_setCore k _, s.setCore_others k _, s.setCore_frame k _⟩
  have first := empty 0
  have second := empty 1
  simp only [Fin.val_zero, Fin.val_one] at first second
  simp only [exec, execCoreRestart, hk, if_true, first, second]

theorem coreRestart_of_not_restarting (k : Fin 2) (s : State) (h : at' s.dev.cores k ≠ .restarting) : exec (.coreRestart k) s = .next s := by
  simp only [exec, execCoreRestart, h, if_false]

theorem coreProbationEnd_runs (k : Fin 2) (s : State) (hk : at' s.dev.cores k = .probation) :
    Answers (.coreProbationEnd k) s fun t =>
      at' t.dev.cores k = .running ∧ at' t.dev.coreTr k = at' s.dev.coreTr k + 1 ∧ t.dev.transient = true ∧ SameBut [.dev] s t :=
  ⟨(s.setCore k .running).onDev fun d => { d with coreTr := upd d.coreTr k (· + 1), transient := true },
    by simp only [exec, execCoreProbationEnd, hk, if_true], s.core_setCore k .running, at'_upd_self _ _ _ k.isLt, rfl,
    (s.setCore_frame k _).trans (State.onDev_frame _ _)⟩

theorem coreProbationEnd_of_not_probation (k : Fin 2) (s : State) (h : at' s.dev.cores k ≠ .probation) :
    exec (.coreProbationEnd k) s = .next s := by
  simp only [exec, execCoreProbationEnd, h, if_false]

/-- Settles O52: what lasts ends in the one fault reset, told apart by its sub-cause; a core goes from RUNNING over its restart and its
probation to retired, and the last one takes the device with it. -/
theorem clocksAndCores : Obligations.ClocksAndCores := by
  intro k s
  exact ⟨aonXtalLoss_clears s, pllUFault_sets s, pllURelock_locks s, pllURelock_lasts s,
    pllURelock_of_locked s, clockFault_of_bad s, clockFault_of_good s, fabricParityError_repeated s, fabricParityError_lasts s,
    watchdogMiss_suspended k s, watchdogMiss_restarts k s, watchdogMiss_retires k s, watchdogMiss_of_last_core k s,
    coreRestart_begins_probation k s, coreRestart_of_not_restarting k s, coreProbationEnd_runs k s, coreProbationEnd_of_not_probation k s⟩

end Sys2Proof.Machine
end

section
/-!
PROOFS. Records of an axis lane start (R311, R318, R325, R345).
-/

namespace Sys2Proof.Machine

/-! ### The axis starts what its lane has released -/

theorem State.startEngine_of_axis (s : State) (n : Fin 12) (q : QItem) :
    s.startEngine (n + 2) q = if q.r.typ = tMove then s.startMove n q else if q.r.typ = tHome then s.startHomeRec n q
      else if q.r.typ = tGear then s.startGear n q else s.startDc n q (phOf (q.r.w 2)) := by
  have head : ¬ n.val + 2 < 2 := by omega
  have axis : n.val + 2 < 14 := by omega
  rw [State.startEngine, if_neg head, if_pos axis, Nat.add_sub_cancel]

/-- A release command of axis lane `n` + 2 on a record that nothing holds back: the axis starts it, and where it changes nothing but axes the
record is taken and the heads and solenoids stay. -/
theorem Answers.of_axis_release {c : Instr} {s : State} {n : Fin 12} {typ : Nat} {q : QItem} {p : State → Prop}
    (hc : exec c s = .next (s.dispatchType (n + 2) typ)) (h : s.releasable (n + 2) typ q) (hf : typ ≠ tFence) (ho : typ ≠ tLaneOut)
    (hframe : SameBut [.axes] (s.released (n + 2) q) ((s.released (n + 2) q).startEngine (n + 2) q))
    (hp : p ((s.released (n + 2) q).startEngine (n + 2) q)) :
    Answers c s fun t => s.tookRecord t (n + 2) q ∧ p t ∧ t.heads = s.heads ∧ t.chans = s.chans := by
  have frame := s.released_frame (n + 2) q
  refine ⟨_, ?_, (s.released_tookRecord (n + 2) q (by omega)).of_sameBut hframe (by simp) (by simp), hp,
    (hframe .heads (by simp)).trans (frame .heads (by simp)), (hframe .chans (by simp)).trans (frame .chans (by simp))⟩
  rw [hc, s.dispatchType_of_releasable (n + 2) typ q h hf ho]

/-! ### MOVE (R311) -/

theorem State.moveToward_of_free (s : State) (n : Nat) (tgt : Int) (p : Prof) (hfar : (tgt - (s.ax n).pos).natAbs < 2 ^ 34)
    (hfree : s.blocked n (tgt - (s.ax n).pos < 0) none = false) : s.moveToward n tgt p = s.axStart n .move tgt p := by
  simp only [State.moveToward, hfree, Nat.not_le.mpr hfar, Bool.false_eq_true, and_false, if_false]

/-- What a MOVE has to go: to its absolute target in the axis's coordinate, or by its distance (R311). -/
def State.moveDist (s : State) (n : Nat) (q : QItem) : Int :=
  if bits (q.r.w 1) 35 34 = 1 then (q.r.w 2 - (s.ax n).posWord).toInt else (q.r.w 2).toInt

theorem State.startMove_of_free (s : State) (n : Nat) (q : QItem) (hk : s.cfg (.ax n) F.ax_KIND = 1)
    (hpos : bits (q.r.w 1) 35 34 = 1 → (s.ax n).posOk = true) (hfar : (s.moveDist n q).natAbs < 2 ^ 34)
    (hfree : s.blocked n (s.moveDist n q < 0) none = false) :
    s.startMove n q = s.axStart n .move ((s.ax n).pos + s.moveDist n q) (s.profile n (bits (q.r.w 1) 2 0)) := by
  have sound : ¬ (s.cfg (.ax n) F.ax_KIND ≠ 1 ∨ (bits (q.r.w 1) 35 34 = 1 ∧ !(s.ax n).posOk)) := by
    rintro (kind | ⟨abs, lost⟩)
    · exact kind hk
    · rw [hpos abs] at lost; cases lost
  rw [State.startMove, if_neg sound]
  refine State.moveToward_of_free _ _ _ _ ?_ ?_
  · rw [add_sub_cancel_left]; exact hfar
  · rw [add_sub_cancel_left]; exact hfree

theorem State.moveDist_congr {s t : State} (h : t.axes = s.axes) (n : Nat) (q : QItem) : t.moveDist n q = s.moveDist n q := by
  rw [State.moveDist, State.moveDist, State.ax, State.ax, h]

theorem moveRelease_moves (n : Fin 12) (q : QItem) (s : State) (h : s.releasable (n + 2) tMove q) (hk : s.cfg (.ax n) F.ax_KIND = 1)
    (hpos : bits (q.r.w 1) 35 34 = 1 → (s.ax n).posOk = true) (hfar : (s.moveDist n q).natAbs < 2 ^ 34)
    (hfree : s.blocked n (s.moveDist n q < 0) none = false) :
    Answers (.moveRelease n) s fun t =>
      s.tookRecord t (n + 2) q ∧ ((t.ax n).mode = .move ∧ (t.ax n).tgt = (s.ax n).pos + s.moveDist n q ∧ (t.ax n).pos = (s.ax n).pos ∧
        (t.ax n).vel = 0) ∧ t.heads = s.heads ∧ t.chans = s.chans := by
  have frame := s.released_frame (n + 2) q
  have tbl : (s.released (n + 2) q).tbl = s.tbl := frame .tbl (by simp)
  have axes : (s.released (n + 2) q).axes = s.axes := frame .axes (by simp)
  rw [← State.cfg_congr tbl] at hk
  rw [← s.released_ax (n + 2) q n] at hpos ⊢
  rw [← State.moveDist_congr axes] at hfar hfree ⊢
  rw [← State.blocked_congr tbl axes] at hfree
  have start : (s.released (n + 2) q).startEngine (n + 2) q = _ :=
    (State.startEngine_of_axis _ n q).trans ((if_pos h.typ_eq).trans (State.startMove_of_free _ n q hk hpos hfar hfree))
  refine .of_axis_release rfl h (by decide) (by decide) ?_ ?_
  · rw [start]; exact State.axStart_frame _ _ _ _ _
  · rw [start, State.axStart, State.ax_onAx_fin]
    exact ⟨rfl, rfl, rfl, rfl⟩

/-! ### HOME (R318) -/

/-- The homing of axis `n` runs in `t` as it was set up in `s`: its slot, its try, whether it is a check. -/
structure State.Homes (n : Nat) (s t : State) : Prop where
  mode : (t.ax n).mode = .home
  slot : (t.ax n).hslot = (s.ax n).hslot
  tries : (t.ax n).htry = (s.ax n).htry
  check : (t.ax n).hcheck = (s.ax n).hcheck
  frame : SameBut [.axes] s t

theorem State.Homes.of_onAx {n : Fin 12} {s t : State} {f : Axis → Axis} (h : (s.onAx n f).Homes n t)
    (hf : ∀ a, (f a).hslot = a.hslot ∧ (f a).htry = a.htry ∧ (f a).hcheck = a.hcheck) : s.Homes n t := by
  obtain ⟨slot, tries, check⟩ := hf (s.ax n)
  obtain ⟨mode, hslot, htry, hcheck, frame⟩ := h
  rw [State.ax_onAx_fin] at hslot htry hcheck
  exact ⟨mode, hslot.trans slot, htry.trans tries, hcheck.trans check, (s.onAx_frame n f).trans frame⟩

theorem State.onAx_homes (s : State) (n : Fin 12) (f : Axis → Axis)
    (hf : ∀ a, (f a).mode = .home ∧ (f a).hslot = a.hslot ∧ (f a).htry = a.htry ∧ (f a).hcheck = a.hcheck) : s.Homes n (s.onAx n f) := by
  obtain ⟨mode, slot, tries, check⟩ := hf (s.ax n)
  have axis : (s.onAx n f).ax n = f (s.ax n) := s.ax_onAx_fin n f
  exact ⟨axis ▸ mode, axis ▸ slot, axis ▸ tries, axis ▸ check, s.onAx_frame n f⟩

theorem State.Homes.onAx {n : Fin 12} {s t : State} (h : s.Homes n t) (f : Axis → Axis)
    (hf : ∀ a, (f a).mode = a.mode ∧ (f a).hslot = a.hslot ∧ (f a).htry = a.htry ∧ (f a).hcheck = a.hcheck) :
    s.Homes n (t.onAx n f) := by
  obtain ⟨mode, slot, tries, check⟩ := hf (t.ax n)
  have axis : (t.onAx n f).ax n = f (t.ax n) := t.ax_onAx_fin n f
  rw [← axis] at mode slot tries check
  exact ⟨mode.trans h.mode, slot.trans h.slot, tries.trans h.tries, check.trans h.check, h.frame.trans (t.onAx_frame n f)⟩

/-- A homing that fails in its first try waits for its second one (R320). -/
theorem State.homeFail_homes (s : State) (n : Fin 12) (h : (s.ax n).htry = 1) : s.Homes n (s.homeFail n) := by
  rw [State.homeFail, if_pos h]
  exact s.onAx_homes n _ fun _ => ⟨rfl, rfl, rfl, rfl⟩

theorem State.homeTravel_homes (s : State) (n : Fin 12) (step : HomeStep) (dist : Nat) (along : Bool) (slot : Nat) (h : (s.ax n).htry = 1) :
    s.Homes n (s.homeTravel n step dist along slot) := by
  rw [State.homeTravel]
  split
  · refine (State.homeFail_homes _ n ?_).of_onAx fun _ => ⟨rfl, rfl, rfl⟩
    rw [State.ax_onAx_fin]; exact h
  · refine State.Homes.onAx ?_ _ fun _ => ⟨rfl, rfl, rfl, rfl⟩
    exact s.onAx_homes n _ fun _ => ⟨rfl, rfl, rfl, rfl⟩

theorem State.homeBegin_homes (s : State) (n : Fin 12) (h : (s.ax n).htry = 1) : s.Homes n (s.homeBegin n) := by
  have ready : ((s.onAx n fun a => { a with refAt := none, tgt := a.pos }).ax n).htry = 1 := by rw [State.ax_onAx_fin]; exact h
  have travel (step : HomeStep) (dist : Nat) (along : Bool) (slot : Nat) := State.homeTravel_homes _ n step dist along slot ready
  refine State.Homes.of_onAx (f := fun a => { a with refAt := none, tgt := a.pos }) ?_ fun _ => ⟨rfl, rfl, rfl⟩
  rw [State.homeBegin]
  split
  · refine State.Homes.onAx ?_ _ fun _ => ⟨rfl, rfl, rfl, rfl⟩
    exact State.onAx_homes _ n _ fun _ => ⟨rfl, rfl, rfl, rfl⟩
  · split
    · exact travel _ _ _ _
    · split
      · exact travel _ _ _ _
      · split
        · exact travel _ _ _ _
        · exact travel _ _ _ _

/-- An axis set up for a HOME record with slot `slot` (R318). -/
def Axis.homing (slot : Nat) (a : Axis) : Axis :=
  { a with moveTgt := a.target, moveProf := if a.mode = .home then a.moveProf else a.prof, hslot := slot, htry := 1, hcheck := false }

theorem State.startHomeRec_of_stepper (s : State) (n : Nat) (q : QItem) (hk : s.cfg (.ax n) F.ax_KIND = 1) :
    s.startHomeRec n q = (s.onAx n (Axis.homing (bits (q.r.w 1) 2 0))).homeBegin n := by
  rw [State.startHomeRec, if_neg (not_not.mpr hk)]
  rfl

theorem homeRelease_begins (n : Fin 12) (q : QItem) (s : State) (h : s.releasable (n + 2) tHome q) (hk : s.cfg (.ax n) F.ax_KIND = 1) :
    Answers (.homeRelease n) s fun t =>
      s.tookRecord t (n + 2) q ∧ ((t.ax n).mode = .home ∧ (t.ax n).hslot = bits (q.r.w 1) 2 0 ∧ (t.ax n).htry = 1 ∧
        (t.ax n).hcheck = false) ∧ t.heads = s.heads ∧ t.chans = s.chans := by
  have tbl : (s.released (n + 2) q).tbl = s.tbl := s.released_frame (n + 2) q .tbl (by simp)
  rw [← State.cfg_congr tbl] at hk
  have start : (s.released (n + 2) q).startEngine (n + 2) q =
      ((s.released (n + 2) q).onAx n (Axis.homing (bits (q.r.w 1) 2 0))).homeBegin n := by
    rw [State.startEngine_of_axis, h.typ_eq, if_neg (by decide), if_pos rfl, State.startHomeRec_of_stepper _ n q hk]
  have set : ((s.released (n + 2) q).onAx n (Axis.homing (bits (q.r.w 1) 2 0))).ax n =
      Axis.homing (bits (q.r.w 1) 2 0) ((s.released (n + 2) q).ax n) := State.ax_onAx_fin _ n _
  obtain ⟨mode, slot, tries, check, frame⟩ := State.homeBegin_homes _ n (congrArg Axis.htry set)
  refine .of_axis_release rfl h (by decide) (by decide) ?_ ?_
  · rw [start]; exact (State.onAx_frame _ _ _).trans frame
  · rw [start]
    exact ⟨mode, slot.trans (congrArg Axis.hslot set), tries.trans (congrArg Axis.htry set), check.trans (congrArg Axis.hcheck set)⟩

/-! ### GEAR (R325) and DC_RUN (R345) -/

/-- The gear of a GEAR record (R325). -/
def Rec.gearSet (r : Rec) : GearSet := ⟨bits (r.w 1) 33 30, bits (r.w 1) 29 26, (r.w 2).toInt⟩

/-- The axis on its gear: engaged afresh from where it stands, or from where it was engaged before. -/
def Axis.engaged (a : Axis) (n : Nat) (g : GearSet) : Axis :=
  let a := if a.mode = .gear then a
    else { a with mode := .gear, line := a.pos * q22, lastPl := a.pos, stride := 0, events := [], vel := 0, vNext := 0,
                  accG := 0, accS := 0, x0 := a.pos, restN := 0, startN := n, stop := none }
  { a with gear := g, gstate := .geared, pend := none, took := true }

theorem State.engage_eq (s : State) (n : Nat) (g : GearSet) : s.engage n g = s.onAx n fun a => a.engaged s.stitch.n g := rfl

theorem Axis.engaged_spec (a : Axis) (n : Nat) (g : GearSet) :
    (a.engaged n g).mode = .gear ∧ (a.engaged n g).gstate = .geared ∧ (a.engaged n g).gear = g ∧
      (a.engaged n g).x0 = if a.mode = .gear then a.x0 else a.pos := by
  rw [Axis.engaged]
  split
  · next geared => exact ⟨geared, rfl, rfl, rfl⟩
  · exact ⟨rfl, rfl, rfl, rfl⟩

theorem State.startGear_of_engage (s : State) (n : Nat) (q : QItem) (hk : s.cfg (.ax n) F.ax_KIND = 1) (hm : bits (q.r.w 1) 35 34 ≠ 2)
    (hat : bit (q.r.w 1) 25 = false) (hloop : bits (q.r.w 1) 33 30 = 1 → s.gearLoops n 12 (bits (q.r.w 1) 29 26) = false)
    (hb : s.masterBroken q.r.gearSet = false) :
    s.startGear n q = (s.engage n q.r.gearSet).onAx n id := by
  have sound : ¬ ((q.r.gearSet.msrc = 1 ∧ s.gearLoops n 12 q.r.gearSet.mindex = true) ∨ s.masterBroken q.r.gearSet = true) := by
    rintro (⟨axis, loop⟩ | broken)
    · rw [Rec.gearSet, hloop axis] at loop; cases loop
    · rw [hb] at broken; cases broken
  rw [State.startGear, if_neg (not_not.mpr hk), if_neg hm]
  refine (if_neg sound).trans ?_
  simp only [hat, Bool.false_and, Bool.false_eq_true, if_false]
  rfl

theorem State.gearLoops_congr {s t : State} (h : t.axes = s.axes) (n fuel m : Nat) : t.gearLoops n fuel m = s.gearLoops n fuel m := by
  induction fuel generalizing m with
  | zero => rfl
  | succ k ih =>
    have axis (j : Nat) : t.ax j = s.ax j := congrArg (at' · j) h
    simp only [State.gearLoops, axis, ih]

theorem State.masterBroken_congr {s t : State} (he : t.encs = s.encs) (hs : t.ssis = s.ssis) (g : GearSet) :
    t.masterBroken g = s.masterBroken g := by
  rw [State.masterBroken, State.masterBroken, he, hs]

theorem gearRelease_engages (n : Fin 12) (q : QItem) (s : State) (h : s.releasable (n + 2) tGear q) (hk : s.cfg (.ax n) F.ax_KIND = 1)
    (hm : bits (q.r.w 1) 35 34 ≠ 2) (hat : bit (q.r.w 1) 25 = false)
    (hloop : bits (q.r.w 1) 33 30 = 1 → s.gearLoops n 12 (bits (q.r.w 1) 29 26) = false) (hb : s.masterBroken q.r.gearSet = false) :
    Answers (.gearRelease n) s fun t =>
      s.tookRecord t (n + 2) q ∧ ((t.ax n).mode = .gear ∧ (t.ax n).gstate = .geared ∧ (t.ax n).gear = q.r.gearSet ∧
        (t.ax n).x0 = if (s.ax n).mode = .gear then (s.ax n).x0 else (s.ax n).pos) ∧ t.heads = s.heads ∧ t.chans = s.chans := by
  have frame := s.released_frame (n + 2) q
  have axes : (s.released (n + 2) q).axes = s.axes := frame .axes (by simp)
  rw [← State.cfg_congr (frame .tbl (by simp))] at hk
  rw [← State.gearLoops_congr axes] at hloop
  rw [← State.masterBroken_congr (frame .encs (by simp)) (frame .ssis (by simp))] at hb
  have start : (s.released (n + 2) q).startEngine (n + 2) q = ((s.released (n + 2) q).engage n q.r.gearSet).onAx n id := by
    rw [State.startEngine_of_axis, h.typ_eq, if_neg (by decide), if_neg (by decide), if_pos rfl,
      State.startGear_of_engage _ n q hk hm hat hloop hb]
  refine .of_axis_release rfl h (by decide) (by decide) ?_ ?_
  · rw [start, State.engage_eq]; exact (State.onAx_frame _ _ _).trans (State.onAx_frame _ _ _)
  · rw [start, State.engage_eq, State.ax_onAx_fin, State.ax_onAx_fin, s.released_ax]
    exact (s.ax n).engaged_spec _ _

/-- An axis whose DC_RUN drives from the next stitch for `left` phase units. -/
def Axis.driving (b : Bool) (now left n : Nat) (a : Axis) : Axis :=
  { a with dcBridge := b, dcEnd := some (now + 4096 + left), dcLeft := left, took := true, startN := n, sstate := 0, restN := 0 }

theorem dcRunRelease_drives (n : Fin 12) (q : QItem) (s : State) (h : s.releasable (n + 2) tDcRun q) (hk : s.cfg (.ax n) F.ax_KIND = 2) :
    Answers (.dcRunRelease n) s fun t =>
      s.tookRecord t (n + 2) q ∧ ((t.ax n).dcEnd = some (s.nowPh + 4096 + phOf (q.r.w 2)) ∧ (t.ax n).dcBridge = bit (q.r.w 1) 35) ∧
        t.heads = s.heads ∧ t.chans = s.chans := by
  have frame := s.released_frame (n + 2) q
  have now : (s.released (n + 2) q).nowPh = s.nowPh := congrArg (fun g : Stitch => g.n * 4096) (frame .stitch (by simp))
  rw [← State.cfg_congr (frame .tbl (by simp))] at hk
  have start : (s.released (n + 2) q).startEngine (n + 2) q =
      (s.released (n + 2) q).onAx n (Axis.driving (bit (q.r.w 1) 35) (s.released (n + 2) q).nowPh (phOf (q.r.w 2))
        (s.released (n + 2) q).stitch.n) := by
    rw [State.startEngine_of_axis, h.typ_eq, if_neg (by decide), if_neg (by decide), if_neg (by decide), State.startDc,
      if_neg (not_not.mpr hk)]
    rfl
  refine .of_axis_release rfl h (by decide) (by decide) ?_ ?_
  · rw [start]; exact State.onAx_frame _ _ _
  · rw [start, State.ax_onAx_fin, now]
    exact ⟨rfl, rfl⟩

end Sys2Proof.Machine
end

section
/-!
PROOFS. Records of a solenoid bank and of AUX start (R141, R367, R384, R500).
-/

namespace Sys2Proof.Machine

/-! ### What a lane shows by what it holds (R149) -/

/-- A lane in service as its records make it show. -/
def Lane.served (l : Lane) : Lane :=
  if l.running.isSome || !l.tail.isEmpty then { l with state := .running, wait := if l.queue.isEmpty then .none else l.wait }
  else if l.queue.isEmpty then { l with state := .idle, wait := .none }
  else { l with state := .waiting }

theorem Lane.norm_eq_ite (l : Lane) : l.norm = if l.inService then l.served else l := by
  rw [Lane.norm, Lane.inService]
  split
  · next h => simp only [h, decide_true, Bool.true_or, if_true]; rfl
  · next h => simp only [h, decide_true, Bool.or_true, Bool.true_or, if_true]; rfl
  · next h => simp only [h, decide_true, Bool.or_true, if_true]; rfl
  · next idle running waiting =>
    refine (if_neg ?_).symm
    simp only [Bool.or_eq_true, decide_eq_true_eq]
    rintro ((h | h) | h)
    exacts [idle h, running h, waiting h]

theorem Lane.served_eq (l : Lane) : l.served = { l with state := l.served.state, wait := l.served.wait } := by
  rw [Lane.served]
  split
  · rfl
  · split <;> rfl

/-- Only the state and the wait of a lane follow from what it holds. -/
theorem Lane.norm_eq (l : Lane) : l.norm = { l with state := l.norm.state, wait := l.norm.wait } := by
  rw [l.norm_eq_ite]
  split
  · exact l.served_eq
  · rfl

theorem Lane.norm_inService (l : Lane) (h : l.inService = true) : l.norm.inService = true := by
  rw [l.norm_eq_ite, if_pos h, Lane.served]
  split
  · rfl
  · split <;> rfl

/-! ### SOL_RUN (R367) -/

theorem bits_lt (w : Word) (hi lo : Nat) : bits w hi lo < 2 ^ (hi + 1 - lo) := Nat.mod_lt _ (by positivity)

theorem State.startEngine_of_bank (s : State) (b : Fin 4) (q : QItem) :
    s.startEngine (b + 14) q = if q.r.typ = tSolRun then s.startSol b q else s.startSolDiag b q := by
  have head : ¬ b.val + 14 < 2 := by omega
  have axis : ¬ b.val + 14 < 14 := by omega
  have bank : b.val + 14 < 18 := by omega
  rw [State.startEngine, if_neg head, if_neg axis, if_pos bank, Nat.add_sub_cancel]

/-- The channel of bank `b` that a SOL_RUN names. -/
def Rec.solChan (r : Rec) (b : Nat) : Nat := 8 * b + bits (r.w 1) 2 0

theorem Rec.solChan_lt (r : Rec) (b : Fin 4) : r.solChan b < 32 := by
  have slot := bits_lt (r.w 1) 2 0
  rw [Rec.solChan]; omega

/-- A channel that takes a SOL_RUN: its profile slot and its record. -/
def Chan.taking (q : QItem) (c : Chan) : Chan := { c with slot := bits (q.r.w 1) 6 4, job := q.job, idx := q.idx, stopped := false }

/-- A channel that takes a SOL_RUN in stitch `n`: its profile starts at the record's phase, counted from the next stitch on. -/
def Chan.starting (q : QItem) (ws : List Word) (n : Nat) (c : Chan) : Chan :=
  { Chan.taking q c with words := ws, start := some (n + 1 + phOf (q.r.w 2) / 4096, phOf (q.r.w 2) % 4096) }

theorem State.solHot_congr {s t : State} {c : Nat} (h : t.tbl = s.tbl) (hot : (t.chan c).hot = (s.chan c).hot)
    (hold : (t.chan c).hold = (s.chan c).hold) : t.solHot c = s.solHot c := by
  simp only [State.solHot, State.sc, hot, hold, State.cfg_congr h]

theorem State.onChan_onChan (s : State) (c : Nat) (f g : Chan → Chan) : (s.onChan c f).onChan c g = s.onChan c fun a => g (f a) := by
  rw [State.onChan, State.onChan, State.onChan, upd_upd]

theorem State.startSol_eq (s : State) (b : Nat) (q : QItem) :
    s.startSol b q =
      if s.cfg (.sol (q.r.solChan b)) F.sc_EN = 0 then s.heldFault (14 + b) q
      else
        let t := s.onChan (q.r.solChan b) (Chan.taking q)
        if t.solHot (q.r.solChan b) then t.deferStart (q.r.solChan b)
        else
          let ws := t.profileWords (q.r.solChan b) (bits (q.r.w 1) 6 4)
          (t.onChan (q.r.solChan b) fun r =>
            { r with words := ws, start := some (s.stitch.n + 1 + phOf (q.r.w 2) / 4096, phOf (q.r.w 2) % 4096) }).stepAside (14 + b) := rfl

theorem State.startSol_of_cool (s : State) (b : Fin 4) (q : QItem) (he : s.cfg (.sol (q.r.solChan b)) F.sc_EN ≠ 0)
    (hc : s.solHot (q.r.solChan b) = false) :
    ∃ ws, s.startSol b q = (s.onChan (q.r.solChan b) (Chan.starting q ws s.stitch.n)).stepAside (b + 14) := by
  have chan : (s.onChan (q.r.solChan b) (Chan.taking q)).chan (q.r.solChan b) = Chan.taking q (s.chan (q.r.solChan b)) :=
    s.chan_onChan _ _ (q.r.solChan_lt b)
  have cool : (s.onChan (q.r.solChan b) (Chan.taking q)).solHot (q.r.solChan b) = false := by
    rw [← hc]
    exact State.solHot_congr rfl (by rw [chan]; rfl) (by rw [chan]; rfl)
  refine ⟨(s.onChan (q.r.solChan b) (Chan.taking q)).profileWords (q.r.solChan b) (bits (q.r.w 1) 6 4), ?_⟩
  rw [State.startSol_eq, if_neg he]
  refine (if_neg (ne_true_of_eq_false cool)).trans ?_
  rw [Nat.add_comm 14]
  exact congrArg (State.stepAside · (b + 14)) (State.onChan_onChan _ _ _ _)

theorem State.stepAside_of_running (s : State) (i : Nat) (q : QItem) (hr : (s.lane i).running = some q) (hc : q.r.ckpt = false) :
    s.stepAside i = s.onLane i fun l => { l with running := none, tail := l.tail ++ [q] }.norm := by
  simp [State.stepAside, hr, hc]

/-- A record that steps aside stands behind its release point, and the lane may release the next one (R141). -/
theorem State.stepAside_lane (s : State) (i : Nat) (q : QItem) (hi : i < 19) (hr : (s.lane i).running = some q) (hc : q.r.ckpt = false) :
    let l := (s.stepAside i).lane i
    l.queue = (s.lane i).queue ∧ l.running = none ∧ q ∈ l.tail ∧ l.relStitch = (s.lane i).relStitch := by
  rw [s.stepAside_of_running i q hr hc, State.lane_onLane _ _ _ hi, Lane.norm_eq]
  exact ⟨rfl, rfl, List.mem_append_right _ (List.mem_singleton_self q), rfl⟩

theorem State.stepAside_frame (s : State) (i : Nat) : SameBut [.lanes] s (s.stepAside i) := by
  rw [State.stepAside]
  split
  · exact .ite (.refl _ s) (s.onLane_frame _ _)
  · exact .refl _ s

theorem solRunRelease_starts (b : Fin 4) (q : QItem) (s : State) (h : s.releasable (b + 14) tSolRun q)
    (he : s.cfg (.sol (q.r.solChan b)) F.sc_EN ≠ 0) (hc : s.solHot (q.r.solChan b) = false) (hk : q.r.ckpt = false) :
    Answers (.solRunRelease b) s fun t =>
      (t.lane (b + 14)).queue = (s.lane (b + 14)).queue.drop 1 ∧ (t.lane (b + 14)).running = none ∧ q ∈ (t.lane (b + 14)).tail ∧
        (t.lane (b + 14)).relStitch = s.stitch.n + 1 ∧
        (t.chan (q.r.solChan b)).start = some (s.stitch.n + 1 + phOf (q.r.w 2) / 4096, phOf (q.r.w 2) % 4096) ∧
        (t.chan (q.r.solChan b)).slot = bits (q.r.w 1) 6 4 ∧ t.axes = s.axes ∧ t.heads = s.heads := by
  have frame := s.released_frame (b + 14) q
  have tbl : (s.released (b + 14) q).tbl = s.tbl := frame .tbl (by simp)
  have stitch : (s.released (b + 14) q).stitch = s.stitch := frame .stitch (by simp)
  have same : (s.released (b + 14) q).chan (q.r.solChan b) = s.chan (q.r.solChan b) :=
    congrArg (at' · (q.r.solChan b)) (frame .chans (by simp))
  rw [← State.cfg_congr tbl] at he
  rw [← State.solHot_congr tbl (congrArg Chan.hot same) (congrArg Chan.hold same)] at hc
  obtain ⟨ws, start⟩ := State.startSol_of_cool _ b q he hc
  rw [stitch] at start
  have lane : ((s.released (b + 14) q).onChan (q.r.solChan b) (Chan.starting q ws s.stitch.n)).lane (b + 14) =
      Lane.release q s.stitch.n (s.lane (b + 14)) := s.released_lane _ q (by omega)
  obtain ⟨queue, running, tail, relStitch⟩ := State.stepAside_lane _ (b + 14) q (by omega) (congrArg Lane.running lane) hk
  have aside := State.stepAside_frame ((s.released (b + 14) q).onChan (q.r.solChan b) (Chan.starting q ws s.stitch.n)) (b + 14)
  have chan := (congrArg (at' · (q.r.solChan b)) (aside .chans (by simp))).trans (State.chan_onChan _ _ _ (q.r.solChan_lt b))
  rw [lane] at queue relStitch
  rw [← start] at queue running tail relStitch aside chan
  refine ⟨(s.released (b + 14) q).startSol b q, ?_, queue, running, tail, relStitch, congrArg Chan.start chan, congrArg Chan.slot chan,
    (aside .axes (by simp)).trans (frame .axes (by simp)), (aside .heads (by simp)).trans (frame .heads (by simp))⟩
  have run : exec (.solRunRelease b) s = .next (s.dispatchType (b + 14) tSolRun) := rfl
  rw [run, s.dispatchType_of_releasable _ _ q h (by decide) (by decide), State.startEngine_of_bank, if_pos h.typ_eq]

/-! ### SOL_DIAG (R384) -/

/-- Channel `c` of a SOL_DIAG, where the record's mask names it: a check begins, none where the channel is not enabled. -/
def State.diagChan (on : Bool) (mask : Nat) (s : State) (c : Nat) : State :=
  if !mask.testBit (c % 8) then s
  else if s.cfg (.sol c) F.sc_EN = 0 then s.onChan c fun r => { r with dresult := 0 }
  else s.onChan c fun r => { r with st := .diag, checking := 3, onState := on, again := false, pulseCause := 0,
                                    sw := if on && !s.solDead c then .drive else .off }

/-- The channels of bank `b` as a SOL_DIAG asks for them. -/
def State.diagBank (s : State) (b : Nat) (q : QItem) : State :=
  (bankChans b).foldl (State.diagChan (bit (q.r.w 1) 8) (bits (q.r.w 1) 7 0)) s

theorem State.startSolDiag_eq (s : State) (b : Nat) (q : QItem) :
    s.startSolDiag b q = if (bankChans b).any fun c => ((s.diagBank b q).chan c).checking == 3 then s.diagBank b q
      else (s.diagBank b q).endRecord (14 + b) q := rfl

theorem State.diagChan_frame (on : Bool) (mask : Nat) (s : State) (c : Nat) : SameBut [.chans] s (s.diagChan on mask c) :=
  .ite (.refl _ s) (.ite (s.onChan_frame _ _) (s.onChan_frame _ _))

/-- A check of channel `d` has begun as a SOL_DIAG asks for it. -/
structure Chan.inDiag (on : Bool) (c : Chan) : Prop where
  st : c.st = .diag
  onState : c.onState = on
  checking : c.checking = 3

theorem State.diagChan_self (on : Bool) (mask : Nat) (s : State) (d : Nat) (hd : d < 32) (hm : mask.testBit (d % 8) = true)
    (he : s.cfg (.sol d) F.sc_EN ≠ 0) : ((s.diagChan on mask d).chan d).inDiag on := by
  rw [State.diagChan, hm, Bool.not_true, if_neg Bool.false_ne_true, if_neg he, State.chan_onChan _ _ _ hd]
  exact ⟨rfl, rfl, rfl⟩

theorem State.diagChan_inDiag (on : Bool) (mask : Nat) (s : State) (c d : Nat) (hd : d < 32) (hm : mask.testBit (d % 8) = true)
    (he : s.cfg (.sol d) F.sc_EN ≠ 0) (h : (s.chan d).inDiag on) : ((s.diagChan on mask c).chan d).inDiag on := by
  by_cases hc : c = d
  · subst hc; exact s.diagChan_self on mask c hd hm he
  · have apart : (s.diagChan on mask c).chan d = s.chan d := by
      have other (f : Chan → Chan) : (s.onChan c f).chan d = s.chan d := s.chan_onChan_ne _ _ _ (Ne.symm hc)
      rw [State.diagChan]
      split
      · rfl
      · split <;> exact other _
    rw [apart]; exact h

/-- After the channels of a SOL_DIAG have been gone through, every enabled one of its mask is in its check. -/
theorem State.foldl_diagChan_inDiag (on : Bool) (mask : Nat) (cs : List Nat) (s : State) (d : Nat) (hd : d < 32)
    (hm : mask.testBit (d % 8) = true) (he : s.cfg (.sol d) F.sc_EN ≠ 0) (h : d ∈ cs ∨ (s.chan d).inDiag on) :
    ((cs.foldl (State.diagChan on mask) s).chan d).inDiag on := by
  induction cs generalizing s with
  | nil => exact h.resolve_left List.not_mem_nil
  | cons c rest ih =>
    have enabled : (s.diagChan on mask c).cfg (.sol d) F.sc_EN ≠ 0 := by
      rw [State.cfg_congr (s.diagChan_frame on mask c .tbl (by simp))]; exact he
    refine ih _ enabled ?_
    rcases h with mem | done
    · rcases List.mem_cons.mp mem with rfl | later
      · exact .inr (s.diagChan_self on mask d hd hm he)
      · exact .inl later
    · exact .inr (s.diagChan_inDiag on mask c d hd hm he done)

theorem State.foldl_diagChan_frame (on : Bool) (mask : Nat) (cs : List Nat) (s : State) :
    SameBut [.chans] s (cs.foldl (State.diagChan on mask) s) := .foldl (State.diagChan_frame on mask) cs s

/-- A SOL_DIAG with an enabled channel in its mask checks its channels and runs. -/
theorem State.startSolDiag_of_masked (s : State) (b : Fin 4) (q : QItem) (k : Nat) (hk : k < 8)
    (hm : (bits (q.r.w 1) 7 0).testBit k = true) (he : s.cfg (.sol (8 * b.val + k)) F.sc_EN ≠ 0) :
    SameBut [.chans] s (s.startSolDiag b q) ∧ ((s.startSolDiag b q).chan (8 * b.val + k)).inDiag (bit (q.r.w 1) 8) := by
  have mem : 8 * b.val + k ∈ bankChans b := List.mem_map_of_mem (List.mem_range.mpr hk)
  have masked : (bits (q.r.w 1) 7 0).testBit ((8 * b.val + k) % 8) = true := by rwa [Nat.mul_add_mod, Nat.mod_eq_of_lt hk]
  have inDiag : ((s.diagBank b q).chan (8 * b.val + k)).inDiag (bit (q.r.w 1) 8) :=
    State.foldl_diagChan_inDiag _ _ _ _ _ (by omega) masked he (.inl mem)
  have checking : ((bankChans b).any fun c => ((s.diagBank b q).chan c).checking == 3) = true :=
    List.any_eq_true.mpr ⟨_, mem, beq_iff_eq.mpr inDiag.checking⟩
  rw [State.startSolDiag_eq, if_pos checking]
  exact ⟨State.foldl_diagChan_frame _ _ _ s, inDiag⟩

theorem solDiagRelease_checks (b : Fin 4) (q : QItem) (s : State) (k : Nat) (hk : k < 8) (h : s.releasable (b + 14) tSolDiag q)
    (hm : (bits (q.r.w 1) 7 0).testBit k = true) (he : s.cfg (.sol (8 * b.val + k)) F.sc_EN ≠ 0) :
    Answers (.solDiagRelease b) s fun t =>
      s.tookRecord t (b + 14) q ∧ (t.chan (8 * b.val + k)).st = .diag ∧ (t.chan (8 * b.val + k)).onState = bit (q.r.w 1) 8 ∧
        t.axes = s.axes ∧ t.heads = s.heads := by
  have frame := s.released_frame (b + 14) q
  rw [← State.cfg_congr (frame .tbl (by simp))] at he
  obtain ⟨diag, st, onState, -⟩ := State.startSolDiag_of_masked _ b q k hk hm he
  refine ⟨(s.released (b + 14) q).startSolDiag b q, ?_, (s.released_tookRecord (b + 14) q (by omega)).of_sameBut diag (by simp) (by simp),
    st, onState, (diag .axes (by simp)).trans (frame .axes (by simp)), (diag .heads (by simp)).trans (frame .heads (by simp))⟩
  have run : exec (.solDiagRelease b) s = .next (s.dispatchType (b + 14) tSolDiag) := rfl
  have typ : q.r.typ ≠ tSolRun := by rw [h.typ_eq]; decide
  rw [run, s.dispatchType_of_releasable _ _ q h (by decide) (by decide), State.startEngine_of_bank, if_neg typ]

/-! ### AUX_XFER (R500) -/

theorem State.startEngine_of_aux (s : State) (q : QItem) :
    s.startEngine 18 q = if q.r.typ = tAuxXfer then s.startXfer q else s.endRecord 18 q := rfl

theorem State.setXfer_frame (s : State) (x : Option Xfer) : SameBut [.uarts] s (s.setXfer x) := by
  intro p hp
  cases p with
  | uarts => exact absurd (.head _) hp
  | _ => rfl

theorem State.startXfer_of_tunnel (s : State) (q : QItem) (he : (s.aux q.r.auxPort).en = true) (ht : (s.aux q.r.auxPort).tunnel = true) :
    ∃ x, x.port = q.r.auxPort ∧ s.startXfer q = s.setXfer (some x) := by
  have sound : ¬ (!(s.aux q.r.auxPort).en ∨ !(s.aux q.r.auxPort).tunnel) := by simp [he, ht]
  exact ⟨_, rfl, if_neg sound⟩

theorem auxXferRelease_sends (q : QItem) (s : State) (h : s.releasable 18 tAuxXfer q) (he : (s.aux q.r.auxPort).en = true)
    (ht : (s.aux q.r.auxPort).tunnel = true) :
    Answers .auxXferRelease s fun t =>
      s.tookRecord t 18 q ∧ (∃ x, t.uarts.xfer = some x ∧ x.port = q.r.auxPort) ∧ t.axes = s.axes ∧ t.heads = s.heads := by
  have frame := s.released_frame 18 q
  have aux (k : Nat) : (s.released 18 q).aux k = s.aux k := congrArg (fun u : Uarts => at' u.aux k) (frame .uarts (by simp))
  rw [← aux] at he ht
  obtain ⟨x, port, start⟩ := State.startXfer_of_tunnel _ q he ht
  have sent := (s.released 18 q).setXfer_frame (some x)
  refine ⟨(s.released 18 q).setXfer (some x), ?_, (s.released_tookRecord 18 q (by omega)).of_sameBut sent (by simp) (by simp), ⟨x, rfl, port⟩,
    (sent .axes (by simp)).trans (frame .axes (by simp)), (sent .heads (by simp)).trans (frame .heads (by simp))⟩
  have run : exec .auxXferRelease s = .next (s.dispatchType 18 tAuxXfer) := rfl
  rw [run, s.dispatchType_of_releasable _ _ q h (by decide) (by decide), State.startEngine_of_aux, if_pos h.typ_eq, start]

end Sys2Proof.Machine
end

section
/-!
PROOFS. A NOTE ends with its release (R141), a LANE_OUT comes to the head of a clear lane (R154), and what the records of every lane start.
-/

namespace Sys2Proof.Machine

/-! ### NOTE (R141) -/

/-- A record that leaves its lane: it runs no more, stands no more in the queue, and the lane keeps its last release. -/
theorem State.dropItem_lane (s : State) (i : Nat) (q : QItem) (hi : i < 19) :
    let l := (s.dropItem i q).lane i
    l.running = (if (s.lane i).running = some q then none else (s.lane i).running) ∧ l.queue = (s.lane i).queue.filter (· != q) ∧
      l.relStitch = (s.lane i).relStitch := by
  rw [State.dropItem, State.lane_onLane _ _ _ hi, Lane.norm_eq]
  exact ⟨rfl, rfl, rfl⟩

/-- A record without a checkpoint ends as it leaves its lane; the rest is bookkeeping (R141, R144). -/
theorem State.endRecord_of_plain (s : State) (i : Nat) (q : QItem) (hk : q.r.ckpt = false) :
    SameBut [.jobs, .welt, .dev, .ev, .ports] (s.dropItem i q) (s.endRecord i q) := by
  simp only [State.endRecord, hk, Bool.false_eq_true, if_false]
  refine .trans (.trans (.trans ?_ ((State.queueMark_frame _ _ _ _ _).mono (by simp))) ((State.gateEnded_frame _ _).mono (by simp)))
    (State.checkDone_frame _ _)
  exact (State.onRec_frame _ _ _ _).mono (by simp)

theorem note_ends (q : QItem) (s : State) (h : s.releasable 18 tNote q) (hk : q.r.ckpt = false) :
    Answers .note s fun t =>
      (t.lane 18).running = none ∧ q ∉ (t.lane 18).queue ∧ (t.lane 18).relStitch = s.stitch.n + 1 ∧ t.axes = s.axes ∧
        t.heads = s.heads ∧ t.chans = s.chans ∧ t.uarts = s.uarts := by
  have ended := (s.released 18 q).endRecord_of_plain 18 q hk
  have engines : SameBut [.lanes, .jobs, .welt, .dev, .ev, .ports, .sec] s ((s.released 18 q).endRecord 18 q) :=
    ((s.released_frame 18 q).trans ((State.dropItem_frame _ _ _).mono (by simp))).trans (ended.mono (by simp))
  have lane : ((s.released 18 q).endRecord 18 q).lane 18 = ((s.released 18 q).dropItem 18 q).lane 18 :=
    congrArg (at' · 18) (ended .lanes (by simp))
  obtain ⟨running, queue, relStitch⟩ := (s.released 18 q).dropItem_lane 18 q (by omega)
  rw [s.released_lane 18 q (by omega)] at running queue relStitch
  rw [← lane] at running queue relStitch
  refine ⟨(s.released 18 q).endRecord 18 q, ?_, running.trans (if_pos rfl), ?_, relStitch, engines .axes (by simp),
    engines .heads (by simp), engines .chans (by simp), engines .uarts (by simp)⟩
  · have run : exec .note s = .next (s.dispatchType 18 tNote) := rfl
    have typ : q.r.typ ≠ tAuxXfer := by rw [h.typ_eq]; decide
    rw [run, s.dispatchType_of_releasable _ _ q h (by decide) (by decide), State.startEngine_of_aux, if_neg typ]
  · rw [queue]
    intro mem
    simpa using (List.mem_filter.mp mem).2

/-! ### LANE_OUT (R154) -/

/-- A change of lane `j` that keeps every lane's queue. -/
theorem State.queue_onLane (s : State) (i j : Nat) (f : Lane → Lane) (hf : ∀ l, (f l).queue = l.queue) :
    ((s.onLane j f).lane i).queue = (s.lane i).queue := by
  rcases at'_upd_cases s.lanes j i f with same | changed
  · exact congrArg Lane.queue same
  · exact (congrArg Lane.queue changed).trans (hf _)

/-- The start of a stop keeps the queue of every lane (R151). -/
theorem State.beginStop_queue (s : State) (i j : Nat) (goal : LaneState) : ((s.beginStop j goal).lane i).queue = (s.lane i).queue := by
  have path (cs : List Nat) (t : State) :
      ((cs.foldl (fun s a => if s.headOwns j then s.onLane a fun l => { l with pathStop := true } else s) t).lane i).queue =
        (t.lane i).queue := by
    induction cs generalizing t with
    | nil => rfl
    | cons a rest ih =>
      rw [List.foldl_cons, ih]
      split
      · exact t.queue_onLane i a _ fun _ => rfl
      · rfl
  rw [State.beginStop]
  split
  · rfl
  · have stopping := s.queue_onLane i j (fun l => { l with stopping := true, stopTo := goal }) fun _ => rfl
    split
    · exact (path _ _).trans stopping
    · exact stopping

theorem State.breakFence_frame (s : State) (seq : Word) (idx : Nat) : SameBut [.jobs, .welt, .dev, .ev, .ports] s (s.breakFence seq idx) := by
  refine .trans (.trans (.trans ?_ ((State.onJobs_frame _ _).mono (by simp))) ((State.queueMark_frame _ _ _ _ _).mono (by simp)))
    ((State.raise_frame _ _ _ _ _).mono (by simp))
  exact (s.onJob_frame _ _).mono (by simp)

theorem State.breakFencesOver_frame (s : State) (i : Nat) : SameBut [.jobs, .welt, .dev, .ev, .ports] s (s.breakFencesOver i) :=
  .foldl (fun t _ => .foldl (fun u _ => .ite (u.breakFence_frame _ _) (.refl _ u)) _ t) _ s

theorem State.showHeld_frame (s : State) (i : Nat) (held : Bool) : SameBut [.jobs] s (s.showHeld i held) :=
  .foldl (fun t _ => t.onRec_frame _ _ _) _ s

theorem State.holdLane_frame (s : State) (i : Nat) : SameBut [.jobs, .welt, .dev, .ev, .ports] s (s.holdLane i) := by
  refine ((s.showHeld_frame i true).mono (by simp)).trans (.foldl (fun t seq => ?_) _ _)
  split
  · exact .ite (.refl _ t) (((t.onJob_frame _ _).mono (by simp)).trans ((State.raiseJob_frame _ _ _ _).mono (by simp)))
  · exact .refl _ t

/-- A lane that leaves service is in the state it leaves to and keeps its queue (R149, R153, R154). -/
theorem State.leaveService_lane (s : State) (i : Nat) (st : LaneState) (code : Nat) (hi : i < 19) :
    ((s.leaveService i st code).lane i).state = st ∧ ((s.leaveService i st code).lane i).queue = (s.lane i).queue := by
  have told : SameBut [.jobs, .welt, .dev, .ev, .ports]
      ((s.beginStop i st).onLane i fun l => { l with state := st, wait := .none, raStep := 0 }) (s.leaveService i st code) := by
    refine .trans (.trans (.trans ?_ (State.breakFencesOver_frame _ i)) (State.holdLane_frame _ i))
      ((State.writeEntry_frame _ _ _ _ _ _).mono (by simp))
    exact (State.raise_frame _ _ _ _ _).mono (by simp)
  have lane : (s.leaveService i st code).lane i = { (s.beginStop i st).lane i with state := st, wait := .none, raStep := 0 } :=
    (congrArg (at' · i) (told .lanes (by simp))).trans (State.lane_onLane _ i _ hi)
  rw [lane]
  exact ⟨rfl, s.beginStop_queue i i st⟩

theorem State.laneGoesOut_of_inService (s : State) (i : Nat) (h : (s.lane i).inService = true) :
    s.laneGoesOut i = s.leaveService i .out 2 := by
  refine if_neg ?_
  rintro (out | fault)
  · rw [Lane.inService, out] at h; cases h
  · rw [Lane.inService, fault] at h; cases h

/-- A lane in service that a LANE_OUT takes OUT holds the record no more. -/
theorem State.outInOrder_lane (s : State) (i : Nat) (q : QItem) (hi : i < 19) (h : (s.lane i).inService = true) :
    ((s.outInOrder i q).lane i).state = .out ∧ q ∉ ((s.outInOrder i q).lane i).queue := by
  have popped : (s.popItem i q).lane i = { s.lane i with queue := (s.lane i).queue.filter (· != q) }.norm := s.lane_onLane i _ hi
  have inService : ((s.popItem i q).lane i).inService = true := by
    rw [popped]; exact Lane.norm_inService _ h
  have gone : q ∉ ((s.popItem i q).lane i).queue := by
    rw [popped, Lane.norm_eq]
    intro mem
    simpa using (List.mem_filter.mp mem).2
  obtain ⟨state, queue⟩ := (s.popItem i q).leaveService_lane i .out 2 hi
  rw [← State.laneGoesOut_of_inService _ i inService] at state queue
  have ended : (s.outInOrder i q).lane i = ((s.popItem i q).laneGoesOut i).lane i := by
    rw [State.outInOrder]
    split
    · rfl
    · exact congrArg (at' · i) (State.endCtrl_frame _ q true .lanes (by simp))
  rw [ended]
  exact ⟨state, queue ▸ gone⟩

theorem State.dispatchType_laneOut (s : State) (i : Nat) (q : QItem) (hq : (s.lane i).queue.head? = some q) (ht : q.r.typ = tLaneOut)
    (hm : s.mayDispatch i = true) (hc : (s.lane i).clear = true) : s.dispatchType i tLaneOut = s.outInOrder i q := by
  obtain ⟨rest, queue⟩ := List.head?_eq_some_iff.mp hq
  have fence : q.r.typ ≠ tFence := by rw [ht]; decide
  simp only [State.dispatchType, queue, if_pos ht, State.dispatch, hm, if_true, List.length_cons, State.evalLane, if_neg fence, hc]

theorem State.inService_of_mayDispatch (s : State) (i : Nat) (h : s.mayDispatch i = true) : (s.lane i).inService = true := by
  simp only [State.mayDispatch, Bool.and_eq_true] at h
  obtain ⟨⟨⟨inService, -⟩, -⟩, -⟩ := h
  exact inService

theorem laneOutInOrder_goesOut (i : Fin 19) (q : QItem) (s : State) (hq : (s.lane i).queue.head? = some q) (ht : q.r.typ = tLaneOut)
    (hm : s.mayDispatch i = true) (hc : (s.lane i).clear = true) :
    Answers (.laneOutInOrder i) s fun t => (t.lane i).state = .out ∧ q ∉ (t.lane i).queue := by
  refine ⟨s.outInOrder i q, ?_, s.outInOrder_lane i q i.isLt (s.inService_of_mayDispatch i hm)⟩
  have run : exec (.laneOutInOrder i) s = .next (s.dispatchType i tLaneOut) := rfl
  rw [run, s.dispatchType_laneOut i q hq ht hm hc]

/-! ### The obligation -/

theorem Answers.mono {c : Instr} {s : State} {p p' : State → Prop} (h : Answers c s p) (hp : ∀ t, p t → p' t) : Answers c s p' := by
  obtain ⟨t, run, holds⟩ := h
  exact ⟨t, run, hp t holds⟩

/-- Settles O27: the release makes the record running and leaves the engines, and each record's engine then starts from that state. -/
theorem laneRecordsStart : Obligations.LaneRecordsStart := by
  refine ⟨fun n q s => ⟨fun h hk hpos hfar hfree => ?_, fun h hk => ?_, fun h hk hm hat hloop hb => ?_, fun h hk => ?_⟩,
    fun q s => ⟨fun b => ⟨solRunRelease_starts b q s, fun k hk => solDiagRelease_checks b q s k hk⟩, auxXferRelease_sends q s,
      note_ends q s, fun i => laneOutInOrder_goesOut i q s⟩⟩
  · refine (moveRelease_moves n q s h hk hpos hfar hfree).mono fun t => ?_
    rintro ⟨took, ⟨mode, tgt, pos, vel⟩, heads, chans⟩
    exact ⟨took, mode, tgt, pos, vel, heads, chans⟩
  · refine (homeRelease_begins n q s h hk).mono fun t => ?_
    rintro ⟨took, ⟨mode, slot, tries, check⟩, heads, chans⟩
    exact ⟨took, mode, slot, tries, check, heads, chans⟩
  · refine (gearRelease_engages n q s h hk hm hat hloop hb).mono fun t => ?_
    rintro ⟨took, ⟨mode, gstate, gear, x0⟩, heads, -⟩
    exact ⟨took, mode, gstate, gear, x0, heads⟩
  · refine (dcRunRelease_drives n q s h hk).mono fun t => ?_
    rintro ⟨took, ⟨dcEnd, dcBridge⟩, heads, chans⟩
    exact ⟨took, dcEnd, dcBridge, heads, chans⟩

end Sys2Proof.Machine
end

section
/-!
PROOFS. Family 02: the governor (R49, R50). The step of R50 lies between X and the target; the governor takes the largest active level.
-/

namespace Sys2Proof.Machine

/-! ### The step of R50 -/

theorem nextX_of_le {x t : Nat} (slew : Nat) (h : x ≤ t * 256) : nextX x t slew = min (t * 256) (x + x / 2 ^ (4 + slew)) := by
  obtain below | rfl := Nat.lt_or_eq_of_le h
  · exact if_pos below
  · rw [nextX, if_neg (Nat.lt_irrefl _), if_neg (Nat.lt_irrefl _), min_eq_left (Nat.le_add_right _ _)]

theorem nextX_of_ge {x t : Nat} (slew : Nat) (h : t * 256 ≤ x) : nextX x t slew = max (t * 256) (x - x / 2 ^ (4 + slew)) := by
  obtain above | rfl := Nat.lt_or_eq_of_le h
  · exact (if_neg above.not_gt).trans (if_pos above)
  · rw [nextX, if_neg (Nat.lt_irrefl _), if_neg (Nat.lt_irrefl _), max_eq_left (Nat.sub_le _ _)]

theorem nextX_rises {x t : Nat} (slew : Nat) (h : x ≤ t * 256) :
    x ≤ nextX x t slew ∧ nextX x t slew ≤ t * 256 ∧ nextX x t slew ≤ x + x / 2 ^ (4 + slew) := by
  rw [nextX_of_le slew h]
  exact ⟨le_min h (Nat.le_add_right _ _), min_le_left _ _, min_le_right _ _⟩

theorem nextX_falls {x t : Nat} (slew : Nat) (h : t * 256 ≤ x) :
    t * 256 ≤ nextX x t slew ∧ nextX x t slew ≤ x ∧ x ≤ nextX x t slew + x / 2 ^ (4 + slew) := by
  rw [nextX_of_ge slew h]
  exact ⟨le_max_left _ _, max_le h (Nat.sub_le _ _), Nat.sub_le_iff_le_add.mp (le_max_right _ _)⟩

theorem nextX_mem {x t lo hi : Nat} (slew : Nat) (hx : lo ≤ x ∧ x ≤ hi) (ht : lo ≤ t * 256 ∧ t * 256 ≤ hi) :
    lo ≤ nextX x t slew ∧ nextX x t slew ≤ hi := by
  obtain h | h := Nat.le_total x (t * 256)
  · obtain ⟨above, below, -⟩ := nextX_rises slew h
    exact ⟨hx.1.trans above, below.trans ht.2⟩
  · obtain ⟨above, below, -⟩ := nextX_falls slew h
    exact ⟨ht.1.trans above, below.trans hx.2⟩

/-! ### The largest level -/

/-- The levels of R49: each request's where it is active, 1.000 where it is not. -/
def State.levels (s : State) : List Nat :=
  [if s.actHost then s.stitch.kHost else 0x100, if s.actVM then s.cfg .gov F.gov_K_VM else 0x100,
    if s.actVS then s.cfg .gov F.gov_K_VS else 0x100, if s.actVH then s.cfg .gov F.gov_K_VH else 0x100,
    if s.actTherm then s.cfg .gov F.gov_K_THERM else 0x100, if s.actOvr then s.stitch.ovrReq else 0x100]

theorem State.largest_eq_max (s : State) : s.largest = (0x100 :: s.levels).max (by simp) := rfl

theorem State.le_largest {s : State} {k : Nat} (h : k ∈ 0x100 :: s.levels) : k ≤ s.largest := List.le_max_of_mem h

theorem State.largest_of_idle {s : State} (host : s.actHost = false) (vm : s.actVM = false) (vs : s.actVS = false) (vh : s.actVH = false)
    (therm : s.actTherm = false) (ovr : s.actOvr = false) : s.largest = 0x100 := by
  simp [State.largest, host, vm, vs, vh, therm, ovr]

theorem State.largest_covers (s : State) :
    0x100 ≤ s.largest ∧
      (s.actHost = true → s.stitch.kHost ≤ s.largest) ∧ (s.actVM = true → s.cfg .gov F.gov_K_VM ≤ s.largest) ∧
      (s.actVS = true → s.cfg .gov F.gov_K_VS ≤ s.largest) ∧ (s.actVH = true → s.cfg .gov F.gov_K_VH ≤ s.largest) ∧
      (s.actTherm = true → s.cfg .gov F.gov_K_THERM ≤ s.largest) ∧ (s.actOvr = true → s.stitch.ovrReq ≤ s.largest) := by
  refine ⟨State.le_largest (by simp), ?_, ?_, ?_, ?_, ?_, ?_⟩ <;> exact fun active => State.le_largest (by simp [State.levels, active])

/-! ### The sample -/

/-- What the sample does to the stitch: X of the next stitch, AT_MAX and its episode (R50). -/
def State.sampled (s : State) (g : Stitch) : Stitch :=
  { g with phase := 2048, xNext := nextX s.stitch.x (min s.largest s.stitch.kMax) s.stitch.slew,
           atMax := g.atMax || decide (s.stitch.kMax < s.largest), atMaxEpisode := decide (s.stitch.kMax < s.largest) }

/-- Behind that the sample only raises the governor's events. -/
theorem State.sample_frame (s : State) : SameBut [.ev, .ports, .dev] (s.onStitch s.sampled) s.sample := by
  have raised (t : State) (code : Nat) : SameBut [.ev, .ports, .dev] t (t.raise 6 code 31 []) :=
    (t.raise_frame _ _ _ _).mono (by simp)
  have first := SameBut.ite (c := (decide (s.stitch.kMax < s.largest) && !s.stitch.atMaxEpisode) = true)
    (raised (s.onStitch s.sampled) 3) (.refl _ _)
  exact first.trans <| .ite (raised _ 1) <| .ite (raised _ 2) (.refl _ _)

theorem State.sample_stitch (s : State) : s.sample.stitch = s.sampled s.stitch := s.sample_frame .stitch (by simp)

theorem Stitch.relax_fields (g : Stitch) :
    g.relax.n = g.n ∧ g.relax.x = g.x ∧ g.relax.xNext = g.xNext ∧ g.relax.kMax = g.kMax ∧ g.relax.slew = g.slew ∧
      g.relax.atMax = g.atMax ∧ g.relax.govHold = g.govHold := by
  unfold Stitch.relax
  split <;> simp

/-- The state the sample starts from: the settings as they are in force, the holds that have run out ended, the overrun request relaxed. -/
def State.atSample (s : State) : State := s.takeGov.onStitch fun g => g.endHolds.relax

theorem State.atSample_stitch (s : State) :
    s.atSample.stitch.n = s.stitch.n ∧ s.atSample.stitch.x = s.stitch.x ∧ s.atSample.stitch.xNext = s.stitch.xNext ∧
      s.atSample.stitch.kMax = s.stitch.kMax ∧ s.atSample.stitch.slew = s.stitch.slew ∧ s.atSample.stitch.atMax = s.stitch.atMax ∧
      s.atSample.stitch.govHold = s.cfg .gov F.gov_SAG_HOLD :=
  s.takeGov.stitch.endHolds.relax_fields

theorem State.atSample_frame (s : State) : SameBut [.stitch] s s.atSample := (State.onStitch_frame _ _).trans (State.onStitch_frame _ _)

theorem execGovernorSample_of_running {s : State} (running : s.stitch.running = true) :
    execGovernorSample s = .next s.atSample.sample := by
  rw [execGovernorSample, running]
  rfl

/-- Settles O11: the sample steps X from the state the settings and the requests that end leave; the step and the level by cases. -/
theorem governorFollowsRequests : Obligations.GovernorFollowsRequests := by
  refine ⟨fun s running => ?_, fun x t slew => ⟨nextX_rises slew, nextX_falls slew⟩, fun s => ?_⟩
  · obtain ⟨n, x, -, kMax, slew, atMax, govHold⟩ := s.atSample_stitch
    have frame : SameBut [.stitch, .dev, .ev, .ports] s s.atSample.sample :=
      ((s.atSample_frame.mono (by simp)).trans ((State.onStitch_frame _ _).mono (by simp))).trans
        (s.atSample.sample_frame.mono (by simp))
    intro u
    have start : u = s.atSample := rfl
    clear_value u
    subst start
    refine ⟨_, execGovernorSample_of_running running, ?_⟩
    beta_reduce
    rw [State.sample_stitch]
    dsimp only [State.sampled]
    rw [x, kMax, slew, atMax, n, govHold]
    exact ⟨rfl, rfl, rfl, rfl, rfl, rfl, rfl, frame⟩
  · obtain ⟨floor, host, vm, vs, vh, therm, ovr⟩ := s.largest_covers
    exact ⟨floor, host, vm, vs, vh, therm, ovr, State.largest_of_idle⟩

end Sys2Proof.Machine
end

section
/-!
PROOFS. What every command keeps: the commands that wait, X and K_MAX in their ranges (R41, R51), the blown bits of the OTP row (R478). Most of
the work leaves the whole spine of the state as it is.
-/

namespace Sys2Proof.Machine

/-- The stitch without its requests, their holds and the phase: the count, X, the period, K_MAX (R41, R46, R51, R68). -/
structure Timebase where
  n : Nat
  x : Nat
  xNext : Nat
  period : Nat
  newPeriod : Option Nat
  kMax : Nat

def Stitch.timebase (g : Stitch) : Timebase := ⟨g.n, g.x, g.xNext, g.period, g.newPeriod, g.kMax⟩

/-- What the bulk of the commands' work leaves alone: the commands that wait, the time base, a switch of images that waits (R541), the OTP
row (R478). -/
structure Spine where
  pending : List Instr
  time : Timebase
  imageSwitch : Bool
  otp : Vector Word 128

def State.spine (s : State) : Spine := ⟨s.pending, s.stitch.timebase, s.flash.imageSwitch, s.sec.otp.words⟩

/-- `t` has the spine of `s`. -/
def State.Steady (s t : State) : Prop := t.spine = s.spine

namespace State.Steady
variable {s t u : State}

theorem refl : s.Steady s := rfl

theorem trans (ht : s.Steady t) (hu : t.Steady u) : s.Steady u := Eq.trans hu ht

theorem ite {c : Prop} {d : Decidable c} (ht : s.Steady t) (hu : s.Steady u) : s.Steady (if c then t else u) := by
  split
  · exact ht
  · exact hu

theorem iteFst {α : Type} {c : Prop} {d : Decidable c} {r r' : State × α} (h : s.Steady r.1) (h' : s.Steady r'.1) :
    s.Steady (if c then r else r').1 := by
  split
  · exact h
  · exact h'

theorem iteSnd {α : Type} {c : Prop} {d : Decidable c} {r r' : α × State} (h : s.Steady r.2) (h' : s.Steady r'.2) :
    s.Steady (if c then r else r').2 := by
  split
  · exact h
  · exact h'

theorem foldl {α : Type} {f : State → α → State} {l : List α} (h : ∀ t a, Steady t (f t a)) : s.Steady (l.foldl f s) := by
  induction l generalizing s with
  | nil => exact refl
  | cons a l ih => exact (h s a).trans ih

theorem of_sameBut (h : SameBut [.fresh, .dev, .ports, .ev, .tbl, .lanes, .jobs, .welt, .assets, .heads, .axes, .encs, .ssis, .cnts, .prbs,
    .chans, .shank, .power, .mss, .snss, .sup, .uarts] s t) : s.Steady t := by
  have pending : t.pending = s.pending := h .pending (by simp)
  have stitch : t.stitch = s.stitch := h .stitch (by simp)
  have flash : t.flash = s.flash := h .flash (by simp)
  have sec : t.sec = s.sec := h .sec (by simp)
  rw [State.Steady, State.spine, State.spine, pending, stitch, flash, sec]

end State.Steady

theorem OtpKept.refl (s : State) : OtpKept s s := fun i _ => by simp

theorem OtpKept.trans {s t u : State} (ht : OtpKept s t) (hu : OtpKept t u) : OtpKept s u := by
  intro i hi
  ext j hj
  have fst := congrArg (·.getLsbD j) (ht i hi)
  have snd := congrArg (·.getLsbD j) (hu i hi)
  simp only [BitVec.getLsbD_and, BitVec.getLsbD_not, BitVec.getElem_and, BitVec.getElem_not, hj, decide_true, Bool.true_and] at fst snd ⊢
  grind

theorem OtpKept.of_words {s t : State} (h : t.sec.otp.words = s.sec.otp.words) : OtpKept s t := by
  intro i _
  simp [State.otp, h]

/-- What every command keeps: the commands that wait, X and K_MAX in their ranges (R41, R51), the blown bits of the OTP row (R478). -/
structure State.Kept (s t : State) : Prop where
  pending : t.pending = s.pending
  stretch : s.stretchOk → t.stretchOk
  otp : OtpKept s t

namespace State.Kept
variable {s t u : State}

theorem refl : s.Kept s := ⟨rfl, id, .refl s⟩

theorem trans (ht : s.Kept t) (hu : t.Kept u) : s.Kept u :=
  ⟨hu.pending.trans ht.pending, hu.stretch ∘ ht.stretch, ht.otp.trans hu.otp⟩

theorem ite {c : Prop} {d : Decidable c} (ht : s.Kept t) (hu : s.Kept u) : s.Kept (if c then t else u) := by
  split
  · exact ht
  · exact hu

theorem foldl {α : Type} {f : State → α → State} {l : List α} (h : ∀ t a, Kept t (f t a)) : s.Kept (l.foldl f s) := by
  induction l generalizing s with
  | nil => exact refl
  | cons a l ih => exact (h s a).trans ih

end State.Kept

theorem State.Kept.of_steady {s t : State} (h : s.Steady t) : s.Kept t := by
  have x : t.stitch.x = s.stitch.x := congrArg (·.time.x) h
  have xNext : t.stitch.xNext = s.stitch.xNext := congrArg (·.time.xNext) h
  have kMax : t.stitch.kMax = s.stitch.kMax := congrArg (·.time.kMax) h
  refine ⟨congrArg Spine.pending h, ?_, .of_words (congrArg Spine.otp h)⟩
  rw [State.stretchOk, State.stretchOk, x, xNext, kMax]
  exact id

theorem State.Kept.of_eq {s t : State} (pending : t.pending = s.pending) (stitch : t.stitch = s.stitch)
    (words : t.sec.otp.words = s.sec.otp.words) : s.Kept t := by
  refine ⟨pending, ?_, .of_words words⟩
  rw [State.stretchOk, State.stretchOk, stitch]
  exact id

theorem State.Kept.iteFst {α : Type} {s : State} {c : Prop} {d : Decidable c} {r r' : State × α} (h : s.Kept r.1) (h' : s.Kept r'.1) :
    s.Kept (if c then r else r').1 := by
  split
  · exact h
  · exact h'

theorem State.onStitch_kept {s : State} {f : Stitch → Stitch} (h : s.stretchOk → (s.onStitch f).stretchOk) : s.Kept (s.onStitch f) :=
  ⟨rfl, h, .of_words rfl⟩

/-- The state that `o` holds, where it holds one, has the spine of `s`. -/
def State.MaySteady (s : State) (o : Option State) : Prop := ∀ t, o = some t → s.Steady t

namespace State.MaySteady
variable {s t : State} {o o' : Option State}

theorem none : s.MaySteady none := by simp [State.MaySteady]

theorem some (h : s.Steady t) : s.MaySteady (some t) := fun _ eq => Option.some.inj eq ▸ h

theorem ite {c : Prop} {d : Decidable c} (h : s.MaySteady o) (h' : s.MaySteady o') : s.MaySteady (if c then o else o') := by
  split
  · exact h
  · exact h'

theorem getD (h : s.MaySteady o) : s.Steady (o.getD s) := by
  cases o with
  | none => exact .refl
  | some t => exact h t rfl

end State.MaySteady

/-- The outcome is a next state that keeps what every command keeps. -/
def State.Keeps (s : State) (o : Host.Outcome State Fault Refusal) : Prop := ∃ t, o = .next t ∧ s.Kept t

namespace State.Keeps
variable {s t : State} {o o' : Host.Outcome State Fault Refusal}

theorem next (h : s.Kept t) : s.Keeps (.next t) := ⟨t, rfl, h⟩

theorem steady (h : s.Steady t) : s.Keeps (.next t) := .next (.of_steady h)

theorem after (ht : s.Kept t) (h : t.Keeps o) : s.Keeps o := by
  obtain ⟨u, run, kept⟩ := h
  exact ⟨u, run, ht.trans kept⟩

theorem ite {c : Prop} {d : Decidable c} (h : s.Keeps o) (h' : s.Keeps o') : s.Keeps (if c then o else o') := by
  split
  · exact h
  · exact h'

end State.Keeps

theorem State.Keeps.answer {s : State} {p : Nat} {tbl : Bool} {r : State × Nat} (h : s.Kept r.1) : s.Keeps (answer p tbl r) :=
  .next <| .ite h <| h.trans <| .of_steady rfl

/-- Settles O6. -/
theorem stretchOkAfterReset : Obligations.StretchOkAfterReset := by
  unfold Obligations.StretchOkAfterReset State.stretchOk
  decide

end Sys2Proof.Machine
end

section
/-!
PROOFS. What every command keeps: the state's operations on ports, events, jobs, assets and lanes.
-/

namespace Sys2Proof.Machine.State

/-! ### Registers, events, marks and entries -/

theorem onPort_steady {s : State} {p : Nat} {f : Port → Port} : s.Steady (s.onPort p f) := rfl

theorem onLane_steady {s : State} {i : Nat} {f : Lane → Lane} : s.Steady (s.onLane i f) := rfl

theorem onHead_steady {s : State} {x : Nat} {f : Head → Head} : s.Steady (s.onHead x f) := rfl

theorem onDev_steady {s : State} {f : Dev → Dev} : s.Steady (s.onDev f) := rfl

theorem onJobs_steady {s : State} {f : Jobs → Jobs} : s.Steady (s.onJobs f) := rfl

theorem onWelt_steady {s : State} {f : Welt → Welt} : s.Steady (s.onWelt f) := rfl

theorem onEv_steady {s : State} {f : EventQ → EventQ} : s.Steady (s.onEv f) := rfl

theorem takeFresh_steady {s : State} : s.Steady (s.takeFresh).2 := rfl

theorem setWord_steady {s : State} {a : Nat} {w : Word} : s.Steady (s.setWord a w) := rfl

theorem putCfg_steady {s : State} {o : Obj} {f : Field} {v : Nat} : s.Steady (s.putCfg o f v) := rfl

theorem refuse_steady {s : State} {p rc : Nat} {tbl : Bool} : s.Steady (s.refuse p rc tbl) := rfl

theorem noteAccess_steady {s : State} {p rc : Nat} {tbl : Bool} : s.Steady (s.noteAccess p rc tbl) := rfl

theorem onFlash_steady {s : State} {f : FlashCtl → FlashCtl} (h : (f s.flash).imageSwitch = s.flash.imageSwitch) :
    s.Steady (s.onFlash f) := by
  rw [State.Steady, State.spine, State.spine]
  exact congrArg (Spine.mk _ _ · _) h

theorem appendEvent_steady {s : State} {e : Event} : s.Steady (s.appendEvent e) :=
  .of_sameBut <| (s.appendEvent_frame _).mono (by simp)

theorem queueHeld_steady {s : State} {n : Nat} : s.Steady (queueHeld n s) :=
  .of_sameBut <| (queueHeld_frame n s).mono (by simp)

theorem raise_steady {s : State} {cls code lane : Nat} {args : List Word} : s.Steady (s.raise cls code lane args) :=
  .of_sameBut <| (s.raise_frame _ _ _ _).mono (by simp)

theorem sensorBroken_steady {s : State} {arg : Word} : s.Steady (s.sensorBroken arg) := .trans (by rfl) raise_steady

theorem raiseJob_steady {s : State} {code lane : Nat} {job : Word} : s.Steady (s.raiseJob code lane job) :=
  .of_sameBut <| (s.raiseJob_frame _ _ _).mono (by simp)

theorem onJob_steady {s : State} {seq : Word} {f : Job → Job} : s.Steady (s.onJob seq f) := rfl

theorem onRec_steady {s : State} {seq : Word} {idx : Nat} {f : RecStatus → RecStatus} : s.Steady (s.onRec seq idx f) := rfl

theorem writeEntry_steady {s : State} {kind port : Nat} {seq : Word} {body : List Word} {act : OnCommit} :
    s.Steady (s.writeEntry kind port seq body act) := rfl

theorem flushMarks_steady {s : State} : s.Steady s.flushMarks := .of_sameBut <| s.flushMarks_frame.mono (by simp)

theorem queueMark_steady {s : State} {code idx arg : Nat} {job : Word} : s.Steady (s.queueMark code idx arg job) :=
  .of_sameBut <| (s.queueMark_frame _ _ _ _).mono (by simp)

theorem onGate_steady {s : State} {job : Word} {idx : Nat} {f : Gate → Option Gate} : s.Steady (s.onGate job idx f) := rfl

theorem writeSettle_steady {s : State} {job : Word} {idx verdict source hint : Nat} {detail : Word} :
    s.Steady (s.writeSettle job idx verdict source hint detail) := rfl

theorem gateEvidence_steady {s : State} {g : Gate} {detail : Word} : s.Steady (s.gateEvidence g detail) :=
  .ite .refl <| queueMark_steady.trans <| flushMarks_steady.trans <| writeSettle_steady.trans onGate_steady

theorem evidence_steady {s : State} {source srcidx : Nat} {detail : Word} : s.Steady (s.evidence source srcidx detail) := by
  rw [State.evidence]
  refine .foldl fun t g => ?_
  split
  · exact .ite gateEvidence_steady .refl
  · exact .refl

/-! ### Asset directory -/

theorem setDir_steady {s : State} {e : Nat} {d : DirEntry} : s.Steady (s.setDir e d) := rfl

theorem setAssetWord_steady {s : State} {b w : Nat} {v : Word} : s.Steady (s.setAssetWord b w v) := .ite rfl rfl

/-! ### Assets -/

theorem onBank_steady {s : State} {b : Nat} {f : Bank → Bank} : s.Steady (s.onBank b f) := rfl

theorem eraseRun_steady {s : State} {b k n : Nat} : s.Steady (s.eraseRun b k n) :=
  .trans (.foldl fun _ _ => onBank_steady) <| .ite rfl rfl

theorem eraseCopies_steady {s : State} {place off0 off1 size : Nat} : s.Steady (s.eraseCopies place off0 off1 size) :=
  .trans (.ite eraseRun_steady .refl) <| .ite eraseRun_steady .refl

theorem eraseRecord_steady {s : State} {d : DirEntry} : s.Steady (s.eraseRecord d) := eraseCopies_steady

theorem eraseCommand_steady {s : State} {d : DirEntry} : s.Steady (s.eraseCommand d) := eraseCopies_steady

theorem assetStore_steady {s : State} {p e kind place size : Nat} : s.Steady (s.assetStore p e kind place size).1 := by
  rw [State.assetStore]
  refine .iteFst .refl <| .iteFst .refl <| .iteFst .refl ?_
  split
  · exact setDir_steady
  · exact eraseCommand_steady.trans setDir_steady

theorem assetRepair_steady {s : State} {p e size : Nat} : s.Steady (s.assetRepair p e size).1 := by
  rw [State.assetRepair]
  refine .iteFst .refl <| .iteFst .refl ?_
  dsimp only
  split
  · exact setDir_steady
  · exact eraseCommand_steady.trans setDir_steady

theorem assetDelete_steady {s : State} {e : Nat} : s.Steady (s.assetDelete e).1 :=
  .iteFst (eraseRecord_steady.trans setDir_steady) .refl

theorem assetFail_steady {s : State} {e r : Nat} : s.Steady (s.assetFail e r) :=
  eraseCommand_steady.trans <| .ite setDir_steady setDir_steady

theorem assetAbort_steady {s : State} {p e : Nat} : s.Steady (s.assetAbort p e).1 :=
  .iteFst .refl <| .iteFst .refl assetFail_steady

theorem assetPort_steady {s : State} {p e : Nat} {w : Word} : s.Steady (s.assetPort p e w).1 :=
  .iteFst .refl <| .iteFst .refl <| .iteFst .refl <| .iteFst .refl setDir_steady

theorem assetOp_steady {s : State} {p e : Nat} {w : Word} : s.Steady (s.assetOp p e w).1 := by
  rw [State.assetOp]
  split
  · exact assetStore_steady
  · exact assetRepair_steady
  · exact assetDelete_steady
  · exact assetAbort_steady
  · exact .refl

theorem assetProgram_steady {s : State} {e b : Nat} : s.Steady (s.assetProgram e b) := by
  rw [State.assetProgram]
  split
  · exact .refl
  · exact setAssetWord_steady.trans <| .ite setDir_steady setDir_steady

theorem resumeHeldJobs_steady {s : State} : s.Steady s.resumeHeldJobs :=
  .foldl fun _ _ => .ite (onJob_steady.trans raiseJob_steady) .refl

theorem assetVerified_steady {s : State} {e : Nat} : s.Steady (s.assetVerified e) :=
  .ite assetFail_steady <| .ite (eraseRecord_steady.trans <| setDir_steady.trans resumeHeldJobs_steady) setDir_steady

theorem withHeads_steady {s : State} {heads : Vector Head 2} : s.Steady { s with heads := heads } := rfl

theorem holdWhere_steady {s : State} {bad : Rec → Bool} : s.Steady (s.holdWhere bad) := by
  rw [State.holdWhere]
  refine .foldl fun t j => ?_
  dsimp only
  split
  · exact .refl
  · exact .ite withHeads_steady <| withHeads_steady.trans <| onJob_steady.trans raiseJob_steady

theorem holdUsers_steady {s : State} {e : Nat} : s.Steady (s.holdUsers e) := holdWhere_steady

theorem damageAsset_steady {s : State} {e b sector : Nat} : s.Steady (s.damageAsset e b sector) :=
  .ite .refl <| setDir_steady.trans <| raise_steady.trans holdUsers_steady

theorem markBad_steady {s : State} {b w : Nat} : s.Steady (s.markBad b w) := rfl

theorem assetWordBad_steady {s : State} {b w : Nat} : s.Steady (s.assetWordBad b w) := by
  rw [State.assetWordBad]
  exact markBad_steady.trans <| by
    split
    · exact .refl
    · exact .ite onBank_steady damageAsset_steady

theorem withAssets_steady {s t : State} {a : Assets} (h : s.Steady t) : s.Steady { t with assets := a } := h

theorem rewriteAsset_steady {s : State} {b k : Nat} : s.Steady (s.rewriteAsset b k) := by
  rw [State.rewriteAsset]
  split
  · exact .refl
  · exact withAssets_steady <| .foldl fun _ _ => setAssetWord_steady

theorem damageBank_steady {s : State} {b : Nat} : s.Steady (s.damageBank b) :=
  .foldl fun _ _ => .ite assetFail_steady <| .ite damageAsset_steady .refl

/-! ### Lanes -/

theorem writeLane_steady {s : State} {i code : Nat} : s.Steady (s.writeLane i code) := rfl

theorem setFence_steady {s : State} {seq : Word} {idx : Nat} {st : FenceState} : s.Steady (s.setFence seq idx st) := rfl

theorem breakFence_steady {s : State} {seq : Word} {idx : Nat} : s.Steady (s.breakFence seq idx) :=
  .of_sameBut <| (s.breakFence_frame _ _).mono (by simp)

theorem breakFencesOver_steady {s : State} {i : Nat} : s.Steady (s.breakFencesOver i) :=
  .of_sameBut <| (s.breakFencesOver_frame _).mono (by simp)

theorem checkDone_steady {s : State} {seq : Word} : s.Steady (s.checkDone seq) :=
  .of_sameBut <| (s.checkDone_frame _).mono (by simp)

theorem dropDeadline_steady {s : State} {seq : Word} {idx : Nat} : s.Steady (s.dropDeadline seq idx) := rfl

theorem dropItem_steady {s : State} {i : Nat} {q : QItem} : s.Steady (s.dropItem i q) := rfl

theorem gateEnded_steady {s : State} {q : QItem} : s.Steady (s.gateEnded q) := .of_sameBut <| (s.gateEnded_frame _).mono (by simp)

theorem endRecord_steady {s : State} {i : Nat} {q : QItem} : s.Steady (s.endRecord i q) :=
  dropItem_steady.trans <| onRec_steady.trans <| queueMark_steady.trans <|
    .trans (.ite (flushMarks_steady.trans onLane_steady) .refl) <| gateEnded_steady.trans checkDone_steady

theorem endRunning_steady {s : State} {i : Nat} : s.Steady (s.endRunning i) := by
  rw [State.endRunning]
  split
  · exact endRecord_steady
  · exact .refl

theorem stepAside_steady {s : State} {i : Nat} : s.Steady (s.stepAside i) := .of_sameBut <| (s.stepAside_frame _).mono (by simp)

theorem gateStopped_steady {s : State} {q : QItem} : s.Steady (s.gateStopped q) := rfl

theorem cancelRecord_steady {s : State} {i : Nat} {q : QItem} : s.Steady (s.cancelRecord i q) :=
  dropItem_steady.trans <| gateStopped_steady.trans <| onRec_steady.trans <| queueMark_steady.trans checkDone_steady

theorem endCtrl_steady {s : State} {q : QItem} {ok : Bool} : s.Steady (s.endCtrl q ok) :=
  .of_sameBut <| (s.endCtrl_frame _ _).mono (by simp)

theorem cameToRest_steady {s : State} {i : Nat} : s.Steady (s.cameToRest i) := by
  rw [State.cameToRest]
  refine .ite .refl ?_
  exact onLane_steady.trans <| by
    split
    · exact gateStopped_steady.trans onRec_steady
    · exact .refl

theorem beginStop_steady {s : State} {i : Nat} {goal : LaneState} : s.Steady (s.beginStop i goal) :=
  .ite .refl <| onLane_steady.trans <| .ite (.foldl fun _ _ => .ite onLane_steady .refl) .refl

theorem showHeld_steady {s : State} {i : Nat} {held : Bool} : s.Steady (s.showHeld i held) :=
  .of_sameBut <| (s.showHeld_frame _ _).mono (by simp)

theorem holdLane_steady {s : State} {i : Nat} : s.Steady (s.holdLane i) := .of_sameBut <| (s.holdLane_frame _).mono (by simp)

theorem leaveService_steady {s : State} {i : Nat} {st : LaneState} {code : Nat} : s.Steady (s.leaveService i st code) :=
  beginStop_steady.trans <| onLane_steady.trans <| raise_steady.trans <| breakFencesOver_steady.trans <|
    holdLane_steady.trans writeLane_steady

theorem faultOne_steady {s : State} {i : Nat} : s.Steady (s.faultOne i) := .ite .refl leaveService_steady

theorem laneFault_steady {s : State} {i : Nat} : s.Steady (s.laneFault i) := by
  rw [State.laneFault]
  split
  · exact faultOne_steady.trans faultOne_steady
  · exact faultOne_steady

theorem laneGoesOut_steady {s : State} {i : Nat} : s.Steady (s.laneGoesOut i) := .ite .refl leaveService_steady

theorem resumeJobs_steady {s : State} {i : Nat} : s.Steady (s.resumeJobs i) :=
  .foldl fun _ _ => .ite (onJob_steady.trans raiseJob_steady) .refl

theorem readmitPass_steady {s : State} {i : Nat} : s.Steady (s.readmitPass i) := by
  rw [State.readmitPass]
  exact onLane_steady.trans <| raise_steady.trans <| writeLane_steady.trans <| resumeJobs_steady.trans <| by
    split
    · exact onLane_steady
    · exact .ite onLane_steady <| .ite (dropDeadline_steady.trans <| onRec_steady.trans onLane_steady) onLane_steady

theorem readmitFail_steady {s : State} {i : Nat} : s.Steady (s.readmitFail i) :=
  onLane_steady.trans <| raise_steady.trans <| breakFencesOver_steady.trans <| holdLane_steady.trans writeLane_steady

/-! ### Admission of jobs -/

theorem report_steady {s : State} {p ser : Nat} {st : JobStat} : s.Steady (s.report p ser st) := rfl

theorem reject_steady {s : State} {c : Closed} {code idx lane : Nat} : s.Steady (s.reject c code idx lane) := rfl

theorem writeJob_steady {s : State} {c : Closed} : s.Steady (s.writeJob c) :=
  onJobs_steady.trans <| .trans (.ite (onWelt_steady.trans <| writeEntry_steady.trans raise_steady) .refl) writeEntry_steady

theorem decideJob_steady {s : State} {c : Closed} : s.Steady (s.decideJob c) := by
  rw [State.decideJob]
  split
  · exact reject_steady
  · exact writeJob_steady

theorem refuseAt_steady {s : State} {p rc seq idx : Nat} : s.Steady (s.refuseAt p rc seq idx) := rfl

theorem queueRsp_steady {s : State} {p : Nat} {emerg : Bool} {words : List Word} : s.Steady (s.queueRsp p emerg words) := rfl

theorem ownResolved_steady {s : State} {p : Nat} {rsp : Option (Bool × Nat × Nat)} {rc : Nat} : s.Steady (s.ownResolved p rsp rc) := by
  unfold State.ownResolved
  extract_lets refused
  split
  · exact .ite refuse_steady .refl
  · extract_lets s1 hit step hs s2
    have noted : s.Steady s1 := .ite refuseAt_steady .refl
    have counted : s1.Steady s2 := onPort_steady
    refine noted.trans <| counted.trans ?_
    split
    · exact queueRsp_steady
    · exact .refl

theorem resolveOwn_steady {s : State} {b : BatchItem} : s.Steady (s.resolveOwn b) := by
  rw [State.resolveOwn]
  split
  · exact .ite ownResolved_steady <| .trans (.foldl fun _ _ => onLane_steady) ownResolved_steady
  · exact .trans (.foldl fun _ _ => onLane_steady) ownResolved_steady
  · exact .refl

theorem resolveBatch_steady {fuel : Nat} {s : State} : s.Steady (resolveBatch fuel s) := by
  induction fuel generalizing s with
  | zero => exact .refl
  | succ fuel ih =>
    rw [State.resolveBatch]
    refine .ite .refl ?_
    split
    · exact .refl
    · split
      · exact .ite .refl <| onJobs_steady.trans <| onJobs_steady.trans <| decideJob_steady.trans ih
      · exact onJobs_steady.trans <| resolveOwn_steady.trans ih

theorem resolve_steady {s : State} : s.Steady s.resolve := resolveBatch_steady

theorem batch_steady {s : State} {p : Nat} {k : BatchKind} : s.Steady (s.batch p k) := rfl

theorem queueRecord_steady {s : State} {seq : Word} {idx : Nat} {r : Rec} : s.Steady (s.queueRecord seq idx r) :=
  .ite .refl <| .ite (.foldl fun _ _ => onLane_steady) <| .ite onLane_steady onJobs_steady

theorem accept_steady {s : State} {seq : Word} {c : Closed} {recs : List Rec} : s.Steady (s.accept seq c recs) :=
  onJobs_steady.trans <| .trans (.foldl fun _ _ => onLane_steady) <| .trans (.foldl fun _ _ => queueRecord_steady) <|
    raiseJob_steady.trans <| report_steady.trans <|
    .trans (.foldl fun _ _ => holdLane_steady.trans breakFencesOver_steady) checkDone_steady

theorem laneOwn_steady {s : State} {p op mask : Nat} {rsp : Option (Bool × Nat × Nat)} : s.Steady (s.laneOwn p op mask rsp).1 :=
  .iteFst .refl <| .iteFst (.iteFst .refl batch_steady) <| .iteFst batch_steady <| .iteFst .refl .refl

end Sys2Proof.Machine.State
end

section
/-!
PROOFS. What every command keeps: axes, sensors, bridges and solenoids.
-/

namespace Sys2Proof.Machine.State

/-! ### Axes -/

theorem onAx_steady {s : State} {n : Nat} {f : Axis → Axis} : s.Steady (s.onAx n f) := rfl

theorem axStart_steady {s : State} {n : Nat} {m : AxMode} {tgt : Int} {p : Prof} : s.Steady (s.axStart n m tgt p) := rfl

theorem keepRest_steady {s : State} {n cause : Nat} : s.Steady (s.keepRest n cause) :=
  .of_sameBut <| (s.keepRest_frame _ _).mono (by simp)

theorem markUncertain_steady {s : State} {n cause : Nat} : s.Steady (s.markUncertain n cause) := onAx_steady.trans raise_steady

theorem confJudge_steady {s : State} {n : Nat} {c : Conf} : s.Steady (s.confJudge n c) :=
  .ite onAx_steady <| .ite markUncertain_steady onAx_steady

theorem confBegin_steady {s : State} {n : Nat} {c : Conf} : s.Steady (s.confBegin n c) := .ite onAx_steady confJudge_steady

theorem uncertain_steady {s : State} {n cause : Nat} {lost : Bool} : s.Steady (s.uncertain n cause lost) :=
  .ite markUncertain_steady confBegin_steady

theorem shiftPos_steady {s : State} {n : Nat} {c : Int} : s.Steady (s.shiftPos n c) := rfl

theorem stoppedNow_steady {s : State} {n : Nat} : s.Steady (s.stoppedNow n) := onLane_steady.trans cameToRest_steady

theorem unrelease_steady {s : State} {i : Nat} {q : QItem} : s.Steady (s.unrelease i q) := rfl

theorem heldFault_steady {s : State} {i : Nat} {q : QItem} : s.Steady (s.heldFault i q) := unrelease_steady.trans laneFault_steady

theorem moveToward_steady {s : State} {n : Nat} {tgt : Int} {p : Prof} : s.Steady (s.moveToward n tgt p) :=
  .ite (onAx_steady.trans <| raise_steady.trans stoppedNow_steady) <| .ite (onAx_steady.trans <|
    keepRest_steady.trans stoppedNow_steady) axStart_steady

theorem startMove_steady {s : State} {n : Nat} {q : QItem} : s.Steady (s.startMove n q) := .ite heldFault_steady moveToward_steady

theorem homeFail_steady {s : State} {n : Nat} : s.Steady (s.homeFail n) := by
  rw [State.homeFail]
  refine .ite onAx_steady ?_
  exact onAx_steady.trans <| markUncertain_steady.trans <| by
    refine .ite readmitFail_steady ?_
    split
    · exact heldFault_steady
    · exact laneFault_steady

theorem homeBreak_steady {s : State} {n : Nat} : s.Steady (s.homeBreak n) := .ite .refl <| .ite homeFail_steady onAx_steady

theorem homeTravel_steady {s : State} {n : Nat} {step : HomeStep} {dist : Nat} {along : Bool} {slot : Nat} :
    s.Steady (s.homeTravel n step dist along slot) :=
  .ite (onAx_steady.trans homeFail_steady) <| axStart_steady.trans onAx_steady

theorem clickerHomed_steady {s : State} {n : Nat} : s.Steady (s.clickerHomed n) := .foldl fun _ _ => .ite onHead_steady .refl

theorem homeEnd_steady {s : State} {n : Nat} : s.Steady (s.homeEnd n) :=
  onAx_steady.trans <| putCfg_steady.trans <| putCfg_steady.trans <| raise_steady.trans <| clickerHomed_steady.trans <|
    .ite readmitPass_steady endRunning_steady

theorem refMet_steady {s : State} {n t : Nat} : s.Steady (s.refMet n t) := rfl

theorem homeBegin_steady {s : State} {n : Nat} : s.Steady (s.homeBegin n) :=
  onAx_steady.trans <| .ite (onAx_steady.trans refMet_steady) <| .ite homeTravel_steady <| .ite homeTravel_steady <|
    .ite homeTravel_steady homeTravel_steady

theorem homeRef_steady {s : State} {n : Nat} {p : Int} : s.Steady (s.homeRef n p) :=
  shiftPos_steady.trans <| onAx_steady.trans <| .ite homeEnd_steady onAx_steady

theorem homeRest_steady {s : State} {n : Nat} : s.Steady (s.homeRest n) := by
  rw [State.homeRest]
  exact onAx_steady.trans <| by
    split
    · exact .ite homeTravel_steady <| .ite homeTravel_steady homeFail_steady
    · exact .ite homeTravel_steady homeFail_steady
    · exact .ite homeTravel_steady homeFail_steady
    · exact homeEnd_steady
    · exact .refl

theorem startHome_steady {s : State} {n slot : Nat} {check : Bool} : s.Steady (s.startHome n slot check) :=
  onAx_steady.trans homeBegin_steady

theorem startHomeRec_steady {s : State} {n : Nat} {q : QItem} : s.Steady (s.startHomeRec n q) :=
  .ite heldFault_steady startHome_steady

theorem disengage_steady {s : State} {n : Nat} {cause : Option Nat} : s.Steady (s.disengage n cause) := rfl

theorem engage_steady {s : State} {n : Nat} {g : GearSet} : s.Steady (s.engage n g) := rfl

theorem startGear_steady {s : State} {n : Nat} {q : QItem} : s.Steady (s.startGear n q) :=
  .ite heldFault_steady <| .ite (.ite endRecord_steady <| .ite onAx_steady disengage_steady) <| .ite heldFault_steady <|
    .ite onAx_steady <| engage_steady.trans onAx_steady

theorem freeSlot_steady {s : State} {n : Nat} : s.Steady (s.freeSlot n) := rfl

theorem gearLimit_steady {s : State} {n : Nat} {neg : Bool} : s.Steady (s.gearLimit n neg) :=
  disengage_steady.trans <| .trans (.ite onAx_steady freeSlot_steady) <| onLane_steady.trans beginStop_steady

theorem gearMove_steady {s : State} {n : Nat} {acc : Int} {pieces : List (Nat × Nat × Int)} : s.Steady (s.gearMove n acc pieces) := by
  rw [State.gearMove]
  split
  · exact gearLimit_steady
  · exact onAx_steady

theorem gearSlot_steady {s : State} {n : Nat} : s.Steady (s.gearSlot n) := by
  rw [State.gearSlot]
  refine .ite (.ite (gearMove_steady.trans disengage_steady) gearMove_steady) ?_
  split
  · exact gearMove_steady
  · split
    · exact gearMove_steady
    · exact engage_steady.trans gearMove_steady

theorem pendSlot_steady {s : State} {n : Nat} : s.Steady (s.pendSlot n) := by
  rw [State.pendSlot]
  split
  · exact .refl
  · split
    · exact .refl
    · exact engage_steady.trans gearMove_steady

theorem profileSlot_steady {s : State} {n : Nat} : s.Steady (s.profileSlot n) := rfl

theorem takeStop_steady {s : State} {n : Nat} : s.Steady (s.takeStop n) :=
  .ite .refl <| .ite (onAx_steady.trans <| cameToRest_steady.trans onLane_steady) <| .ite disengage_steady onAx_steady

theorem motionSlot_steady {s : State} {n : Nat} : s.Steady (s.motionSlot n) := by
  rw [State.motionSlot]
  refine .ite .refl ?_
  extract_lets works s1 s2 s3
  have taken : s2.Steady s3 := by
    refine .ite ?_ .refl
    split
    · exact .ite (endRecord_steady.trans onAx_steady) onAx_steady
    · exact onAx_steady
  refine .trans (onAx_steady.trans takeStop_steady) <| taken.trans ?_
  split
  · exact onAx_steady.trans gearSlot_steady
  · exact freeSlot_steady
  · exact profileSlot_steady
  · exact .ite .refl profileSlot_steady
  · exact .refl
  · exact pendSlot_steady

/-! ### Encoders, SSI, probes -/

theorem onEnc_steady {s : State} {n : Nat} {f : Enc → Enc} : s.Steady (s.onEnc n f) := rfl

theorem onSsi_steady {s : State} {p : Nat} {f : Ssi → Ssi} : s.Steady (s.onSsi p f) := rfl

theorem onPrb_steady {s : State} {r : Nat} {f : Prb → Prb} : s.Steady (s.onPrb r f) := rfl

theorem dropSlaves_steady {s : State} {msrc k : Nat} : s.Steady (s.dropSlaves msrc k) :=
  .foldl fun _ _ => .ite (disengage_steady.trans laneFault_steady) .refl

theorem encFault_steady {s : State} {n code : Nat} : s.Steady (s.encFault n code) :=
  .ite .refl <| onEnc_steady.trans <| sensorBroken_steady.trans <| dropSlaves_steady.trans <|
    .foldl fun _ _ => .ite faultOne_steady .refl

theorem indexCheck_steady {s : State} {n : Nat} : s.Steady (s.indexCheck n) :=
  .ite .refl <| .ite onEnc_steady <| .ite encFault_steady onEnc_steady

theorem indexHomes_steady {s : State} {n ph : Nat} : s.Steady (s.indexHomes n ph) := .foldl fun _ _ => .ite refMet_steady .refl

theorem encArm_steady {s : State} {n : Nat} : s.Steady (s.encArm n) := rfl

theorem encZero_steady {s : State} {n : Nat} : s.Steady (s.encZero n) := rfl

theorem encClr_steady {s : State} {n : Nat} : s.Steady (s.encClr n) := rfl

theorem ssiStart_steady {s : State} {p ph : Nat} : s.Steady (s.ssiStart p ph) := rfl

theorem ssiConfs_steady {s : State} {p : Nat} : s.Steady (s.ssiConfs p) := by
  rw [State.ssiConfs]
  refine .foldl fun t n => ?_
  refine .ite ?_ .refl
  split
  · exact .ite .refl <| .ite onAx_steady confJudge_steady
  · exact .refl

theorem ssiFault_steady {s : State} {p : Nat} : s.Steady (s.ssiFault p) :=
  .ite .refl <| onSsi_steady.trans <| sensorBroken_steady.trans <| dropSlaves_steady.trans ssiConfs_steady

theorem ssiClr_steady {s : State} {p : Nat} : s.Steady (s.ssiClr p) := rfl

theorem ssiBoundary_steady {s : State} {p len : Nat} : s.Steady (s.ssiBoundary p len) :=
  onSsi_steady.trans <| .ite .refl <| .ite onSsi_steady ssiStart_steady

theorem askStop_steady {s : State} {mask : Nat} : s.Steady (s.askStop mask) := rfl

theorem probeRead_steady {s : State} {r : Nat} : s.Steady (s.probeRead r).2 := by
  rw [State.probeRead]
  split
  · exact onPrb_steady
  · exact onPrb_steady

/-! ### Bridges and homing -/

theorem onBr_steady {s : State} {b : Nat} {f : Bridge → Bridge} : s.Steady (s.onBr b f) := rfl

theorem slewV_steady {s : State} {n : Nat} : s.Steady (s.slewV n) := rfl

theorem newPeriod_steady {s : State} {b : Nat} : s.Steady (s.newPeriod b) := rfl

theorem dropMotion_steady {s : State} {n cause : Nat} : s.Steady (s.dropMotion n cause) :=
  .ite onAx_steady <| .ite onAx_steady <| onAx_steady.trans keepRest_steady

theorem dropDc_steady {s : State} {n : Nat} : s.Steady (s.dropDc n) := rfl

theorem bridgesOut_steady {s : State} {n : Nat} {fs : List Lasting} : s.Steady (s.bridgesOut n fs) :=
  onAx_steady.trans <| .foldl fun _ _ => raise_steady

theorem bridgesLasting_steady {s : State} {n : Nat} {fs : List Lasting} : s.Steady (s.bridgesLasting n fs) :=
  bridgesOut_steady.trans <| dropMotion_steady.trans <| dropDc_steady.trans <| .trans (.ite uncertain_steady .refl) <|
    laneFault_steady.trans cameToRest_steady

theorem bridgeDetect_steady {s : State} {b cause elem : Nat} : s.Steady (s.bridgeDetect b cause elem) :=
  .ite .refl <| .ite bridgesLasting_steady onBr_steady

theorem bridgeEnable_steady {s : State} {b : Nat} : s.Steady (s.bridgeEnable b) := rfl

theorem bridgeReleased_steady {s : State} {b : Nat} : s.Steady (s.bridgeReleased b) := .ite bridgeEnable_steady .refl

theorem bridgePass_steady {s : State} {b : Nat} : s.Steady (s.bridgePass b) := rfl

theorem headroomAt_steady {s : State} {b : Nat} : s.Steady (s.headroomAt b) :=
  .ite .refl <| onBr_steady.trans <| onAx_steady.trans raise_steady

theorem startDc_steady {s : State} {n : Nat} {q : QItem} {left : Nat} : s.Steady (s.startDc n q left) :=
  .ite heldFault_steady onAx_steady

theorem brakeDc_steady {s : State} {n : Nat} : s.Steady (s.brakeDc n) := rfl

theorem dcSlot_steady {s : State} {n : Nat} : s.Steady (s.dcSlot n) := by
  rw [State.dcSlot]
  refine .ite .refl <| .ite (brakeDc_steady.trans <| dropDc_steady.trans cameToRest_steady) <| .ite ?_ .refl
  split
  · exact onAx_steady.trans <| onBr_steady.trans newPeriod_steady
  · exact .refl

theorem vgdFaults_steady {s : State} : s.Steady s.vgdFaults :=
  .trans (.foldl fun _ _ => .ite .refl bridgesLasting_steady) <| .foldl fun _ _ => onBr_steady

/-! ### Solenoids -/

theorem onChan_steady {s : State} {c : Nat} {f : Chan → Chan} : s.Steady (s.onChan c f) := rfl

theorem endStopped_steady {s : State} {i : Nat} {q : QItem} : s.Steady (s.endStopped i q) :=
  dropItem_steady.trans <| onRec_steady.trans <| queueMark_steady.trans <|
    .trans (.ite (flushMarks_steady.trans onLane_steady) .refl) <| gateStopped_steady.trans checkDone_steady

theorem solRest_steady {s : State} {b : Nat} : s.Steady (s.solRest b) := .ite cameToRest_steady .refl

theorem endSol_steady {s : State} {c : Nat} {st : ChanState} : s.Steady (s.endSol c st) := by
  rw [State.endSol]
  exact onChan_steady.trans <| by
    refine .trans ?_ solRest_steady
    split
    · exact .ite endStopped_steady endRecord_steady
    · exact .refl

theorem beginSeg_steady {s : State} {c k : Nat} : s.Steady (s.beginSeg c k) := rfl

theorem nextSeg_steady {s : State} {c : Nat} : s.Steady (s.nextSeg c) := rfl

theorem jumpLast_steady {s : State} {c : Nat} : s.Steady (s.jumpLast c) := .ite beginSeg_steady .refl

theorem beginProfile_steady {s : State} {c : Nat} : s.Steady (s.beginProfile c) := rfl

theorem deferStart_steady {s : State} {c : Nat} : s.Steady (s.deferStart c) := onChan_steady.trans raise_steady

theorem startSol_steady {s : State} {b : Nat} {q : QItem} : s.Steady (s.startSol b q) :=
  .ite heldFault_steady <| onChan_steady.trans <| .ite deferStart_steady <| onChan_steady.trans stepAside_steady

theorem hotStarts_steady {s : State} : s.Steady s.hotStarts := by
  rw [State.hotStarts]
  refine .foldl fun t c => ?_
  refine .ite ?_ .refl
  exact onChan_steady.trans <| by
    refine .trans ?_ beginProfile_steady
    split
    · exact .ite stepAside_steady .refl
    · exact .refl

theorem closureEvidence_steady {s : State} {c : Nat} {arg : Word} : s.Steady (s.closureEvidence c arg) := by
  rw [State.closureEvidence]
  split
  · exact .ite gateEvidence_steady .refl
  · exact .refl

theorem closed_steady {s : State} {c us ph : Nat} {method : Bool} : s.Steady (s.closed c us ph method) :=
  onChan_steady.trans <| raise_steady.trans <| closureEvidence_steady.trans nextSeg_steady

theorem kink_steady {s : State} {c us ph : Nat} : s.Steady (s.kink c us ph) := by
  rw [State.kink]
  split
  · exact .refl
  · exact .ite .refl <| .ite closed_steady <| .ite onChan_steady .refl

theorem noPeak_steady {s : State} {c vs : Nat} : s.Steady (s.noPeak c vs) := raise_steady

theorem notClosed_steady {s : State} {c us : Nat} : s.Steady (s.notClosed c us) := onChan_steady.trans raise_steady

theorem miss_steady {s : State} {c : Nat} : s.Steady (s.miss c) := .ite jumpLast_steady nextSeg_steady

theorem releaseCheck_steady {s : State} {c : Nat} : s.Steady (s.releaseCheck c) := rfl

theorem solStopChan_steady {s : State} {c : Nat} : s.Steady (s.solStopChan c) :=
  .ite (.ite (onChan_steady.trans jumpLast_steady) .refl) <| .ite onChan_steady <| .ite (onChan_steady.trans endSol_steady) .refl

theorem solStopProfiles_steady {s : State} {b : Nat} : s.Steady (s.solStopProfiles b) := .foldl fun _ _ => solStopChan_steady

theorem solLasting_steady {s : State} {c cause code : Nat} {driving : Bool} {nh nl : Nat} :
    s.Steady (s.solLasting c cause code driving nh nl) :=
  onChan_steady.trans <| raise_steady.trans <| solStopProfiles_steady.trans <| laneFault_steady.trans <|
    .trans (.ite endSol_steady onChan_steady) solRest_steady

theorem diagFaults_steady {s : State} {b : Nat} : s.Steady (s.diagFaults b) := .foldl fun _ _ => .ite solLasting_steady .refl

theorem solSlot_steady {s : State} {b : Nat} : s.Steady (s.solSlot b) := by
  rw [State.solSlot]
  refine .ite .refl ?_
  exact solStopProfiles_steady.trans <| by
    refine .trans ?_ solRest_steady
    split
    · exact .ite (.trans (.foldl fun _ _ => onChan_steady) <| endStopped_steady.trans diagFaults_steady) .refl
    · exact .refl

theorem solResume_steady {s : State} {c : Nat} : s.Steady (s.solResume c) :=
  .ite .refl <| .ite onChan_steady <| .ite (onChan_steady.trans beginSeg_steady) onChan_steady

theorem solReleased_steady {s : State} {c : Nat} : s.Steady (s.solReleased c) := .ite solResume_steady .refl

theorem vgdSols_steady {s : State} : s.Steady s.vgdSols := .foldl fun _ _ => .ite solLasting_steady onChan_steady

theorem solReadmit_steady {s : State} {b : Nat} : s.Steady (s.solReadmit b) :=
  .ite .refl <| .ite readmitPass_steady readmitFail_steady

theorem solDiagEnd_steady {s : State} {b : Nat} : s.Steady (s.solDiagEnd b) := by
  rw [State.solDiagEnd]
  refine .ite .refl <| .trans ?_ <| diagFaults_steady.trans solRest_steady
  split
  · exact .ite endRecord_steady .refl
  · exact .refl

theorem solFinal_steady {s : State} {c r cause : Nat} {driving : Bool} {nh nl : Nat} : s.Steady (s.solFinal c r cause driving nh nl) :=
  onChan_steady.trans <| .ite (.ite endSol_steady <| onChan_steady.trans <| .ite solReadmit_steady <|
    .ite solDiagEnd_steady .refl) <| .trans (.ite onChan_steady .refl) <| .ite (onChan_steady.trans <|
    raise_steady.trans solReadmit_steady) <| .ite (onChan_steady.trans solDiagEnd_steady) solLasting_steady

theorem startSolDiag_steady {s : State} {b : Nat} {q : QItem} : s.Steady (s.startSolDiag b q) :=
  .trans (.foldl fun _ _ => .ite .refl <| .ite onChan_steady onChan_steady) <| .ite .refl endRecord_steady

theorem solReadmitCheck_steady {s : State} {b : Nat} : s.Steady (s.solReadmitCheck b) :=
  .trans (.foldl fun _ _ => .ite .refl onChan_steady) solReadmit_steady

theorem thetaDecay_steady {s : State} {c dt : Nat} : s.Steady (s.thetaDecay c dt) := rfl

theorem thetaLost_steady {s : State} {c : Nat} : s.Steady (s.thetaLost c) := rfl

theorem coilFlags_steady {s : State} {c : Nat} {broken : Bool} : s.Steady (s.coilFlags c broken) := rfl

theorem hotCut_steady {s : State} {c : Nat} : s.Steady (s.hotCut c) := .ite (raise_steady.trans jumpLast_steady) .refl

theorem solDomainUp_steady {s : State} {g dt : Nat} : s.Steady (s.solDomainUp g dt) :=
  .foldl fun _ _ => thetaDecay_steady.trans onChan_steady

end Sys2Proof.Machine.State
end

section
/-!
PROOFS. What every command keeps: the heads.
-/

namespace Sys2Proof.Machine.State

/-! ### Heads -/

theorem bandAfresh_steady {s : State} {x : Nat} : s.Steady (s.bandAfresh x) := rfl

theorem stageLevels_steady {s : State} {x : Nat} {cur : List (Nat × Nat)} : s.Steady (s.stageLevels x cur) := rfl

theorem stage1_steady {s : State} {x : Nat} {line : List (Nat × Nat)} : s.Steady (s.stage1 x line) := rfl

theorem freshVh_steady {s : State} {x : Nat} : s.Steady (s.freshVh x) := rfl

theorem groupFrom_steady {s : State} {x win : Nat} : s.Steady (s.groupFrom x win) := by
  rw [State.groupFrom]
  split
  · exact .refl
  · exact onHead_steady

theorem ungroupFrom_steady {s : State} {x win : Nat} : s.Steady (s.ungroupFrom x win) := by
  rw [State.ungroupFrom]
  split
  · exact .refl
  · exact onHead_steady

/-! ### Paths -/

theorem stoppedWith_steady {s : State} {x : Nat} : s.Steady (s.stoppedWith x) := onLane_steady.trans cameToRest_steady

theorem vhenUp_steady {s : State} {x : Nat} : s.Steady (s.vhenUp x) := rfl

theorem vhenSlot_steady {s : State} {x : Nat} : s.Steady (s.vhenSlot x) := .ite onHead_steady .refl

theorem layoutBad_steady {s : State} {q : QItem} {b w : Nat} : s.Steady (s.layoutBad q b w) := .ite assetWordBad_steady .refl

theorem layOut_steady {s : State} {x : Nat} {q : QItem} {c : Nat} : s.Steady (s.layOut x q c) :=
  .of_sameBut <| (s.layOut_frame _ _ _).mono (by simp)

theorem checkOverrun_steady {s : State} {x : Nat} : s.Steady (s.checkOverrun x) :=
  .ite .refl <| .ite onHead_steady <| .ite .refl <| onHead_steady.trans <| .trans (by rfl) raise_steady

theorem commitLate_steady {s : State} {x : Nat} {b : Band} : s.Steady (s.commitLate x b) := raise_steady

theorem dropPrint_steady {s : State} {x : Nat} {job : Word} {idx : Nat} : s.Steady (s.dropPrint x job idx) := rfl

theorem takePath_steady {s : State} {x : Nat} {q : QItem} : s.Steady (s.takePath x q) :=
  .of_sameBut <| (s.takePath_frame _ _).mono (by simp)

theorem patternLayout_steady {s : State} {x : Nat} : s.Steady (s.patternLayout x) := rfl

theorem rollTo_steady {s : State} {x c : Nat} {e : Nat × Nat × Nat} : s.Steady (s.rollTo x c e) := rfl

theorem startPrint_steady {s : State} {x : Nat} {q : QItem} : s.Steady (s.startPrint x q) :=
  .ite heldFault_steady <| .ite stoppedWith_steady <| .ite endRecord_steady <| .ite (takePath_steady.trans rollTo_steady) <|
    .ite onHead_steady <| takePath_steady.trans <| vhenUp_steady.trans onHead_steady

theorem axisToPath_steady {s : State} {x : Nat} : s.Steady (s.axisToPath x) := rfl

theorem feedLimited_steady {s : State} {x : Nat} {tgt : Int} : s.Steady (s.feedLimited x tgt) :=
  onAx_steady.trans <| keepRest_steady.trans stoppedWith_steady

theorem beginCopy_steady {s : State} {x : Nat} : s.Steady (s.beginCopy x) := by
  rw [State.beginCopy]
  split
  · exact .refl
  · exact onAx_steady.trans <| onHead_steady.trans <| axisToPath_steady.trans <| freshVh_steady.trans stage1_steady

theorem placeLines_steady {s : State} {x : Nat} {p0 p1 : Int} {r16 fuel : Nat} : s.Steady (s.placeLines x p0 p1 r16 fuel) := by
  induction fuel generalizing s with
  | zero => exact .refl
  | succ fuel ih =>
    rw [State.placeLines]
    refine .ite .refl ?_
    split
    · exact .refl
    · exact onHead_steady.trans <| .trans (.ite onHead_steady .refl) ih

theorem beginFall_steady {s : State} {x : Nat} : s.Steady (s.beginFall x) := rfl

theorem beginRise_steady {s : State} {x : Nat} : s.Steady (s.beginRise x) := rfl

theorem pathRest_steady {s : State} {x : Nat} : s.Steady (s.pathRest x) :=
  onHead_steady.trans <| .trans (.ite keepRest_steady .refl) cameToRest_steady

theorem unplace_steady {s : State} {x : Nat} : s.Steady (s.unplace x) := rfl

theorem rampSlot_steady {s : State} {x : Nat} : s.Steady (s.rampSlot x) :=
  .ite (.ite onHead_steady <| onHead_steady.trans beginFall_steady) <| .ite (.ite (onHead_steady.trans <|
    raise_steady.trans beginRise_steady) onHead_steady) <| .ite (onHead_steady.trans <| raise_steady.trans beginFall_steady) <|
    .ite onHead_steady onHead_steady

theorem followCheck_steady {s : State} {x : Nat} : s.Steady (s.followCheck x) := rfl

theorem rollOver_steady {s : State} {x : Nat} : s.Steady (s.rollOver x) := .ite .refl rollTo_steady

theorem pathDone_steady {s : State} {x : Nat} : s.Steady (s.pathDone x) :=
  onAx_steady.trans <| onHead_steady.trans <| .trans (.ite beginStop_steady .refl) <| onHead_steady.trans <|
    .ite cameToRest_steady .refl

theorem placeSlot_steady {s : State} {x : Nat} {p0 p1 : Int} {r16 : Nat} : s.Steady (s.placeSlot x p0 p1 r16) :=
  .ite .refl <| placeLines_steady.trans <| rollOver_steady.trans <| .ite placeLines_steady .refl

theorem followLost_steady {s : State} {x : Nat} : s.Steady (s.followLost x) := .ite onHead_steady .refl

theorem followsLost_steady {s : State} : s.Steady s.followsLost := followLost_steady.trans followLost_steady

theorem runSlot_steady {s : State} {x : Nat} : s.Steady (s.runSlot x) := by
  rw [State.runSlot]
  refine .ite pathRest_steady ?_
  exact onHead_steady.trans <| by
    refine .trans ?_ <| followCheck_steady.trans <| .trans (.ite .refl placeSlot_steady) <| onHead_steady.trans <|
      .ite pathDone_steady <| .ite onHead_steady <| rampSlot_steady.trans <| .ite pathRest_steady .refl
    split
    · exact onHead_steady.trans <| freshVh_steady.trans stage1_steady
    · exact .refl

theorem holdShort_steady {s : State} {x : Nat} : s.Steady (s.holdShort x) :=
  onHead_steady.trans <| raise_steady.trans faultOne_steady

theorem shortSlot_steady {s : State} {x : Nat} : s.Steady (s.shortSlot x) := .ite holdShort_steady .refl

theorem restage_steady {s : State} {x : Nat} : s.Steady (s.restage x) := by
  rw [State.restage]
  split
  · exact .ite stageLevels_steady <| .ite stageLevels_steady .refl
  · exact .ite stageLevels_steady .refl

theorem reframe_steady {s : State} {x : Nat} : s.Steady (s.reframe x) := rfl

theorem redoSlot_steady {s : State} {x : Nat} : s.Steady (s.redoSlot x) := .ite onHead_steady .refl

theorem resumeSlot_steady {s : State} {x : Nat} : s.Steady (s.resumeSlot x) :=
  .ite .refl <| .ite (onHead_steady.trans feedLimited_steady) <| freshVh_steady.trans <| restage_steady.trans <|
    reframe_steady.trans <| axisToPath_steady.trans onHead_steady

theorem pathAxisSlot_steady {s : State} {x : Nat} : s.Steady (s.pathAxisSlot x) :=
  onAx_steady.trans <| onHead_steady.trans <| onAx_steady.trans <| .ite .refl <| onHead_steady.trans <|
    .ite placeSlot_steady .refl

theorem afterStart_steady {s : State} {x n : Nat} : s.Steady (s.afterStart x n) := by
  rw [State.afterStart]
  split
  · exact .refl
  · refine .ite (stage1_steady.trans onHead_steady) <| .ite ?_ ?_
    · exact onHead_steady.trans <| by
        split
        · exact onHead_steady.trans stage1_steady
        · exact .refl
    · split
      · exact onHead_steady.trans stage1_steady
      · exact onHead_steady.trans <| by
          split
          · exact commitLate_steady
          · exact .refl

theorem afterLine_steady {s : State} {x n : Nat} : s.Steady (s.afterLine x n) := by
  rw [State.afterLine]
  split
  · exact afterStart_steady
  · exact onHead_steady.trans <| by
      refine .ite afterStart_steady ?_
      split
      · exact stageLevels_steady
      · exact onHead_steady.trans stageLevels_steady
      · exact onHead_steady

theorem printEnded_steady {s : State} {x : Nat} {q : QItem} : s.Steady (s.printEnded x q) :=
  endRecord_steady.trans <| dropPrint_steady.trans <| onHead_steady.trans <| .ite (onHead_steady.trans <|
    .ite beginStop_steady stoppedWith_steady) .refl

theorem contPath_steady {s : State} {x : Nat} : s.Steady (s.contPath x) :=
  .ite stoppedWith_steady <| vhenUp_steady.trans onHead_steady

/-! ### Scans -/

theorem adoptDot_steady {s : State} {x d : Nat} : s.Steady (s.adoptDot x d) := .ite .refl <| .ite .refl rfl

theorem raiseDots_steady {s : State} {x code cls : Nat} {old : List Nat} : s.Steady (s.raiseDots x code cls old) := by
  rw [State.raiseDots]
  split
  · exact .refl
  · exact raise_steady

theorem adoptScan_steady {s : State} {x : Nat} : s.Steady (s.adoptScan x) :=
  .trans (.foldl fun _ _ => adoptDot_steady) <| raiseDots_steady.trans <| raiseDots_steady.trans raiseDots_steady

theorem scanEnd_steady {s : State} {x st : Nat} : s.Steady (s.scanEnd x st) := .of_sameBut <| (s.scanEnd_frame _ _).mono (by simp)

theorem scanStart_steady {s : State} {x kind : Nat} {apply : Bool} : s.Steady (s.scanStart x kind apply) := rfl

theorem scanResume_steady {s : State} {x : Nat} : s.Steady (s.scanResume x) := rfl

theorem scanAbandon_steady {s : State} {x : Nat} : s.Steady (s.scanAbandon x) := .ite scanEnd_steady .refl

theorem scanBoundary_steady {s : State} {x : Nat} : s.Steady (s.scanBoundary x) :=
  .ite .refl <| .ite onHead_steady <| .ite (onHead_steady.trans cameToRest_steady) .refl

theorem scanDone_steady {s : State} {x : Nat} : s.Steady (s.scanDone x) :=
  onHead_steady.trans <| scanEnd_steady.trans <| .trans (.ite adoptScan_steady .refl) <|
    .ite (endRunning_steady.trans onHead_steady) <| .ite readmitPass_steady .refl

theorem scanFailed_steady {s : State} {x : Nat} : s.Steady (s.scanFailed x) :=
  scanEnd_steady.trans <| .ite readmitFail_steady <| faultOne_steady.trans cameToRest_steady

theorem setRmeas_steady {s : State} {x d r : Nat} : s.Steady (s.setRmeas x d r) := rfl

theorem startScan_steady {s : State} {x : Nat} {q : QItem} : s.Steady (s.startScan x q) := rfl

theorem scanSlot_steady {s : State} {x : Nat} : s.Steady (s.scanSlot x) :=
  .ite scanBoundary_steady <| .ite (.ite scanResume_steady scanStart_steady) .refl

/-! ### Clicker -/

theorem pathMove_steady {s : State} {x n : Nat} {tgt : Int} {p : Prof} {free : Option Nat} : s.Steady (s.pathMove x n tgt p free) :=
  .ite (onAx_steady.trans <| keepRest_steady.trans stoppedWith_steady) axStart_steady

theorem axSettle_steady {s : State} {n : Nat} : s.Steady (s.axSettle n) := rfl

theorem axBrake_steady {s : State} {n : Nat} : s.Steady (s.axBrake n) := rfl

theorem clkMove_steady {s : State} {x : Nat} {step : HStep} {d : Int} {prof : Nat} : s.Steady (s.clkMove x step d prof) :=
  onHead_steady.trans pathMove_steady

theorem backOff_steady {s : State} {x : Nat} {step : HStep} : s.Steady (s.backOff x step) := clkMove_steady

theorem strokeBegin_steady {s : State} {x : Nat} : s.Steady (s.strokeBegin x) :=
  onHead_steady.trans <| .ite clkMove_steady clkMove_steady

theorem returnBegin_steady {s : State} {x : Nat} : s.Steady (s.returnBegin x) := onHead_steady.trans clkMove_steady

theorem cutFeed_steady {s : State} {x : Nat} : s.Steady (s.cutFeed x) :=
  .ite (onHead_steady.trans pathMove_steady) strokeBegin_steady

theorem cutBegin_steady {s : State} {x : Nat} {part : Bool} : s.Steady (s.cutBegin x part) :=
  onHead_steady.trans <| .ite cutFeed_steady backOff_steady

theorem startCut_steady {s : State} {x : Nat} {q : QItem} : s.Steady (s.startCut x q) :=
  .ite heldFault_steady <| .ite onHead_steady <| onHead_steady.trans cutBegin_steady

theorem cutDone_steady {s : State} {x : Nat} : s.Steady (s.cutDone x) := by
  rw [State.cutDone]
  exact axSettle_steady.trans <| shiftPos_steady.trans <| onAx_steady.trans <| onHead_steady.trans <| by
    split
    · exact .refl
    · refine .trans ?_ <| .ite cameToRest_steady <| endRecord_steady.trans <| .ite cameToRest_steady .refl
      split
      · exact .ite gateEvidence_steady .refl
      · exact .refl

theorem jamLasting_steady {s : State} {x cause : Nat} : s.Steady (s.jamLasting x cause) :=
  onHead_steady.trans <| raise_steady.trans <| laneFault_steady.trans <|
    .ite (faultOne_steady.trans cameToRest_steady) faultOne_steady

theorem jam_steady {s : State} {x cause : Nat} : s.Steady (s.jam x cause) :=
  onHead_steady.trans <| .ite jamLasting_steady <| onHead_steady.trans <| .ite onHead_steady <| axBrake_steady.trans onHead_steady

theorem homeSwitch_steady {s : State} {x : Nat} : s.Steady (s.homeSwitch x) := by
  rw [State.homeSwitch]
  refine .ite ?_ onHead_steady
  exact onHead_steady.trans <| by
    split
    · exact axSettle_steady.trans cutFeed_steady
    · exact axSettle_steady.trans strokeBegin_steady
    · exact .ite cutDone_steady .refl
    · exact .refl

theorem limitSwitch_steady {s : State} {n i : Nat} : s.Steady (s.limitSwitch n i) :=
  .foldl fun _ _ => .ite homeSwitch_steady .refl

theorem sensorSwitch_steady {s : State} {k : Nat} : s.Steady (s.sensorSwitch k) := .foldl fun _ _ => .ite homeSwitch_steady .refl

theorem clickStep_steady {s : State} {x : Nat} : s.Steady (s.clickStep x) := .ite jam_steady .refl

theorem clickRest_steady {s : State} {x : Nat} : s.Steady (s.clickRest x) := by
  rw [State.clickRest]
  exact axSettle_steady.trans <| by
    split
    · exact .ite cutFeed_steady jam_steady
    · exact .ite strokeBegin_steady jam_steady
    · exact returnBegin_steady
    · exact jam_steady
    · exact onHead_steady
    · exact .refl

/-! ### Feed and patterns -/

theorem onMs_steady {s : State} {n : Nat} {f : Ms → Ms} : s.Steady (s.onMs n f) := rfl

theorem feedOn_steady {s : State} {x : Nat} : s.Steady (s.feedOn x) := pathMove_steady

theorem seekBegin_steady {s : State} {x : Nat} : s.Steady (s.seekBegin x) := onHead_steady.trans <| .ite feedOn_steady .refl

theorem ledBegin_steady {s : State} {x : Nat} {second : Bool} : s.Steady (s.ledBegin x second) := rfl

theorem searchLost_steady {s : State} {x : Nat} : s.Steady (s.searchLost x) := rfl

theorem markLost_steady {s : State} {x : Nat} : s.Steady (s.markLost x) := raise_steady.trans stoppedWith_steady

theorem searchBegin_steady {s : State} {x bound : Nat} : s.Steady (s.searchBegin x bound) :=
  onHead_steady.trans <| .ite (onHead_steady.trans markLost_steady) <| .ite ledBegin_steady seekBegin_steady

theorem toGoal_steady {s : State} {x : Nat} {goal : Int} : s.Steady (s.toGoal x goal) :=
  onHead_steady.trans <| .ite pathMove_steady <| .ite onAx_steady onAx_steady

theorem edgeFound_steady {s : State} {x : Nat} {edge : Int} : s.Steady (s.edgeFound x edge) :=
  .ite .refl <| .ite onHead_steady <| onHead_steady.trans toGoal_steady

theorem searchDone_steady {s : State} {x : Nat} : s.Steady (s.searchDone x) :=
  onHead_steady.trans <| .ite patternLayout_steady <| endRunning_steady.trans onHead_steady

theorem calFail_steady {s : State} {x : Nat} : s.Steady (s.calFail x) :=
  .ite (onMs_steady.trans <| faultOne_steady.trans <| .ite cameToRest_steady .refl) <| .ite (onHead_steady.trans onMs_steady) <|
    axBrake_steady.trans onHead_steady

theorem feedStep_steady {s : State} {x : Nat} : s.Steady (s.feedStep x) :=
  .ite .refl <| .ite calFail_steady <| .ite searchLost_steady .refl

theorem feedRest_steady {s : State} {x : Nat} : s.Steady (s.feedRest x) := by
  rw [State.feedRest]
  exact axSettle_steady.trans <| by
    split
    · exact onHead_steady.trans endRunning_steady
    · exact strokeBegin_steady
    · exact onHead_steady.trans onMs_steady
    · exact markLost_steady
    · exact .ite searchDone_steady toGoal_steady
    · exact .refl

theorem boundRest_steady {s : State} {x n : Nat} : s.Steady (s.boundRest x n) :=
  .ite (.trans (.ite onAx_steady .refl) <| .trans (.ite (onHead_steady.trans endRunning_steady) .refl) <|
    keepRest_steady.trans cameToRest_steady) <| .ite clickRest_steady feedRest_steady

theorem startFeed_steady {s : State} {x : Nat} {q : QItem} : s.Steady (s.startFeed x q) :=
  .ite heldFault_steady <| .ite stoppedWith_steady <| .ite onHead_steady <| onHead_steady.trans <|
    .ite searchBegin_steady pathMove_steady

theorem startPattern_steady {s : State} {x : Nat} {q : QItem} : s.Steady (s.startPattern x q) :=
  .ite heldFault_steady <| .ite stoppedWith_steady <| .ite onHead_steady <| takePath_steady.trans <| vhenUp_steady.trans <|
    onHead_steady.trans <| .ite patternLayout_steady searchBegin_steady

theorem startHead_steady {s : State} {x : Nat} {q : QItem} : s.Steady (s.startHead x q) :=
  .ite startPrint_steady <| .ite startFeed_steady <| .ite startCut_steady <| .ite startScan_steady startPattern_steady

theorem dropHead_steady {s : State} {x : Nat} : s.Steady (s.dropHead x) :=
  dropPrint_steady.trans <| .trans (.ite scanEnd_steady .refl) onHead_steady

theorem waitSlot_steady {s : State} {x : Nat} : s.Steady (s.waitSlot x) :=
  .trans (.ite beginStop_steady .refl) <| .ite (onHead_steady.trans cameToRest_steady) <|
    .ite (.ite (onHead_steady.trans feedLimited_steady) beginCopy_steady) .refl

theorem homeSeen_steady {s : State} {x : Nat} : s.Steady (s.homeSeen x) := .ite onHead_steady .refl

theorem headSlot_steady {s : State} {x : Nat} : s.Steady (s.headSlot x) := by
  unfold State.headSlot
  extract_lets s1 idle s2 s3
  have begun : s.Steady s1 := homeSeen_steady.trans <| scanSlot_steady.trans redoSlot_steady
  clear_value s1
  have stepped : s1.Steady s2 := by
    unfold s2
    split
    · exact runSlot_steady.trans shortSlot_steady
    · exact waitSlot_steady
    · exact .ite resumeSlot_steady <| .ite (onHead_steady.trans cameToRest_steady) .refl
    · exact .refl
    · exact .ite cameToRest_steady .refl
  have taken : s2.Steady s3 := onHead_steady
  refine begun.trans <| stepped.trans ?_
  split
  · refine .ite (taken.trans ?_) .refl
    split
    · exact .ite cutBegin_steady startHead_steady
    · exact .refl
  · exact .refl

theorem mediaOut_steady {s : State} {n : Nat} : s.Steady (s.mediaOut n) := by
  rw [State.mediaOut]
  split
  · exact .refl
  · exact raise_steady.trans <| .ite (.ite beginStop_steady .refl) <| .ite onHead_steady .refl

theorem msSide_steady {s : State} {n ph : Nat} : s.Steady (s.msSide n ph) := by
  unfold State.msSide
  extract_lets m mode pos gap len s1 m1 len1 counts s2 s3 isOut
  have sided : s.Steady s1 := .ite onMs_steady onMs_steady
  have counted : s1.Steady s2 := .ite onMs_steady .refl
  have edge : s2.Steady s3 := by
    refine .ite ?_ .refl
    split
    · exact edgeFound_steady
    · exact .refl
  exact sided.trans <| .ite (counted.trans <| edge.trans <| .ite (onMs_steady.trans mediaOut_steady) .refl) <|
    .ite (onMs_steady.trans putCfg_steady) .refl

theorem ledCycle_steady {s : State} {x n : Nat} : s.Steady (s.ledCycle x n) :=
  .ite onMs_steady <| onMs_steady.trans <| .ite .refl <| .ite calFail_steady <| onMs_steady.trans <|
    onHead_steady.trans feedOn_steady

theorem learnCycle_steady {s : State} {x n ph : Nat} : s.Steady (s.learnCycle x n ph) :=
  onMs_steady.trans <| onMs_steady.trans <| .ite (putCfg_steady.trans <| putCfg_steady.trans <| putCfg_steady.trans <|
    putCfg_steady.trans <| onMs_steady.trans seekBegin_steady) .refl

theorem onSns_steady {s : State} {n : Nat} {f : Sns → Sns} : s.Steady (s.onSns n f) := rfl

theorem snsCount_steady {s : State} {n : Nat} : s.Steady (s.snsCount n) := rfl

theorem snsChange_steady {s : State} {n : Nat} {on : Bool} : s.Steady (s.snsChange n on) :=
  onSns_steady.trans <| .trans (.ite snsCount_steady <| .ite (snsCount_steady.trans raise_steady) <| .ite onSns_steady <|
    .ite (snsCount_steady.trans evidence_steady) .refl) sensorSwitch_steady

end Sys2Proof.Machine.State
end

section
/-!
PROOFS. What every command keeps: shank, temperatures, resets, flash, AUX, power, security.
-/

namespace Sys2Proof.Machine.State

/-! ### Shank -/

theorem onGrp_steady {s : State} {g : Nat} {f : Group → Group} : s.Steady (s.onGrp g f) := rfl

theorem onShank_steady {s : State} {f : Shank → Shank} : s.Steady (s.onShank f) := rfl

theorem safeAxis_steady {s : State} {n : Nat} : s.Steady (s.safeAxis n) := rfl

theorem forceAxis_steady {s : State} {n : Nat} : s.Steady (s.forceAxis n) := safeAxis_steady.trans <| .ite uncertain_steady .refl

theorem forceSol_steady {s : State} {c : Nat} : s.Steady (s.forceSol c) := rfl

theorem instant_steady {s : State} {x : Nat} : s.Steady (s.instant x).2 := rfl

theorem forceHead_steady {s : State} {x : Nat} : s.Steady (s.forceHead x) :=
  instant_steady.trans <| onHead_steady.trans <| unplace_steady.trans <| .ite .refl <| .ite onHead_steady <|
    .ite (scanEnd_steady.trans readmitFail_steady) .refl

theorem forcePaths_steady {s : State} {n : Nat} : s.Steady (s.forcePaths n) := .foldl fun _ _ => .ite unplace_steady .refl

theorem forceOutputs_steady {s : State} {g : Nat} : s.Steady (s.forceOutputs g) :=
  .ite (forceAxis_steady.trans forcePaths_steady) <| .ite forceSol_steady forceHead_steady

theorem trip_steady {s : State} {g cause elem : Nat} : s.Steady (s.trip g cause elem) :=
  onGrp_steady.trans <| onShank_steady.trans <| raise_steady.trans <| forceOutputs_steady.trans askStop_steady

theorem relHoldOver_steady {s : State} {g : Nat} : s.Steady (s.relHoldOver g) := .ite safeAxis_steady forceSol_steady

theorem bistAbort_steady {s : State} : s.Steady s.bistAbort := .ite rfl .refl

theorem forceAll_steady {s : State} : s.Steady s.forceAll := .foldl fun _ _ => .ite .refl forceOutputs_steady

theorem startDischarge_steady {s : State} : s.Steady s.startDischarge := rfl

theorem enterSafe_steady {s : State} {code : Nat} {disch : Bool} : s.Steady (s.enterSafe code disch) :=
  onShank_steady.trans <| raise_steady.trans <| .trans (.ite (onDev_steady.trans <| forceAll_steady.trans <|
    bistAbort_steady.trans askStop_steady) .refl) <| .ite startDischarge_steady .refl

theorem outputsFree_steady {s : State} {g : Nat} : s.Steady (s.outputsFree g) :=
  .ite (.foldl fun _ _ => bridgeReleased_steady.trans <| .ite newPeriod_steady .refl) <| .ite solReleased_steady .refl

theorem writeGrel_steady {s : State} {g : Nat} : s.Steady (s.writeGrel g).1 :=
  .iteFst .refl <| .iteFst .refl <| onGrp_steady.trans outputsFree_steady

theorem writeRel_steady {s : State} : s.Steady (s.writeRel).1 :=
  .iteFst .refl <| onShank_steady.trans <| onDev_steady.trans <| .foldl fun _ _ => outputsFree_steady

theorem writeDisch_steady {s : State} : s.Steady (s.writeDisch).1 := .iteFst .refl enterSafe_steady

theorem writeShankCtl_steady {s : State} {w : Word} : s.Steady (s.writeShankCtl w).1 :=
  .iteFst writeDisch_steady <| .iteFst writeRel_steady .refl

theorem beyondRev1_kept {s : State} {p : Nat} {r : State × Nat} (h : s.Kept r.1) : s.Kept (s.beyondRev1 p r).1 := .iteFst .refl h

theorem setLimit_steady {s : State} {o : Obj} {a : Nat} {f : Field} {w : Word} : s.Steady (s.setLimit o a f w) :=
  .of_sameBut <| (s.setLimit_frame _ _ _ _).mono (by simp)

theorem writeLimit_steady {s : State} {p a : Nat} {w : Word} : s.Steady (s.writeLimit p a w).1 := by
  rw [State.writeLimit]
  split
  · exact .refl
  · exact .iteFst .refl <| .trans (.foldl fun _ _ => setLimit_steady) <| .ite noteAccess_steady .refl

/-! ### Temperatures -/

theorem onSup_steady {s : State} {f : Supply → Supply} : s.Steady (s.onSup f) := rfl

theorem onTin_steady {s : State} {i : Nat} {f : TempIn → TempIn} : s.Steady (s.onTin i f) := rfl

theorem readTherm_steady {s : State} {i code : Nat} : s.Steady (s.readTherm i code).2 := .iteSnd takeFresh_steady .refl

theorem tempGood_steady {s : State} {i : Nat} {v : Int} : s.Steady (s.tempGood i v) :=
  .ite (.ite .refl <| .ite onTin_steady <| .ite onTin_steady onTin_steady) <| .trans (.ite onSup_steady .refl) onTin_steady

theorem tempBad_steady {s : State} {i : Nat} : s.Steady (s.tempBad i) := rfl

theorem tempBroken_steady {s : State} {i : Nat} : s.Steady (s.tempBroken i) := onTin_steady.trans sensorBroken_steady

theorem tempEvent_steady {s : State} {code : Nat} {v : Int} {zone index lane : Nat} : s.Steady (s.tempEvent code v zone index lane) :=
  raise_steady

theorem headSample_steady {s : State} {x : Nat} : s.Steady (s.headSample x) :=
  onSup_steady.trans <| .trans (.ite tempEvent_steady .refl) <| .trans (.ite tempEvent_steady .refl) <|
    .ite (tempEvent_steady.trans <| .ite beginStop_steady .refl) .refl

theorem dieLevels_steady {s : State} : s.Steady s.dieLevels :=
  onSup_steady.trans <| .trans (.ite .refl tempEvent_steady) <| .ite enterSafe_steady .refl

theorem dieSet_steady {s : State} : s.Steady s.dieSet :=
  .trans (.foldl fun _ _ => .ite tempBad_steady tempGood_steady) <| onSup_steady.trans <| onSup_steady.trans <|
    onTin_steady.trans <| dieLevels_steady.trans <| .foldl fun _ _ => .ite headSample_steady .refl

theorem ntcSample_steady {s : State} {k : Nat} : s.Steady (s.ntcSample k) :=
  onSup_steady.trans <| .ite .refl <| .ite tempEvent_steady <| tempEvent_steady.trans <| .ite askStop_steady .refl

theorem inputUsers_steady {s : State} {i : Nat} : s.Steady (s.inputUsers i) :=
  onTin_steady.trans <| .ite headSample_steady ntcSample_steady

/-! ### Resets -/

theorem takeReset_kept {s : State} {cause sub : Nat} {lost : Bool} : s.Kept (s.takeReset cause sub lost) := by
  obtain ⟨-, -, -, -, stitch, -, -, pending, -, words⟩ := s.takeReset_wasReset cause sub lost
  refine ⟨pending, fun _ => ?_, .of_words words⟩
  rw [State.stretchOk, stitch]
  exact stretchOkAfterReset

theorem faultReset_kept {s : State} {sub : Nat} : s.Kept (s.faultReset sub) := .trans (.of_steady enterSafe_steady) takeReset_kept

/-! ### Flash -/

theorem secondPart_steady {s : State} {code : Nat} : s.Steady (s.secondPart code) :=
  .of_sameBut <| (s.secondPart_frame _).mono (by simp)

theorem imageFail_steady {s : State} {result : Nat} : s.Steady (s.imageFail result) := rfl

theorem onDom_steady {s : State} {d : Nat} {f : Domain → Domain} : s.Steady (s.onDom d f) := rfl

theorem dropBank_steady {s : State} {b : Nat} : s.Steady (s.dropBank b) := rfl

theorem bankLost_kept {s : State} {b : Nat} : s.Kept (s.bankLost b) :=
  .trans (.of_steady <| damageBank_steady.trans <| .ite imageFail_steady .refl) <| .ite faultReset_kept .refl

theorem retireBank_kept {s : State} {b : Nat} : s.Kept (s.retireBank b) :=
  .ite .refl <| .trans (.of_steady <| dropBank_steady.trans <| raise_steady.trans secondPart_steady) bankLost_kept

theorem lastingFlash_kept {s : State} {b sector : Nat} {later : Bool} : s.Kept (s.lastingFlash b sector later) :=
  .trans (.of_steady <| onBank_steady.trans <| (onFlash_steady (by rfl)).trans raise_steady) <| .ite retireBank_kept .refl

theorem flashTransient_steady {s : State} {b : Nat} : s.Steady (s.flashTransient b) := rfl

theorem sectorLost_steady {s : State} {b sector : Nat} : s.Steady (s.sectorLost b sector) := by
  rw [State.sectorLost]
  split
  · exact .ite imageFail_steady .refl
  · split
    · exact .ite assetFail_steady .refl
    · exact .refl
  · exact .refl

theorem enterSector_steady {s : State} {b k : Nat} : s.Steady (s.enterSector b k) :=
  onBank_steady.trans <| .ite writeEntry_steady .refl

theorem programmed_steady {s : State} {b : Nat} : s.Steady (s.programmed b) := by
  rw [State.programmed]
  split
  · exact onBank_steady.trans onWelt_steady
  · exact enterSector_steady
  · exact assetProgram_steady
  · exact rfl
  · exact .refl
  · exact .refl

theorem programLost_kept {s : State} {b sector : Nat} : s.Kept (s.programLost b sector) := by
  rw [State.programLost]
  split
  · exact .trans (.of_steady onBank_steady) lastingFlash_kept
  · exact .trans (.of_steady onBank_steady) lastingFlash_kept
  · exact lastingFlash_kept.trans <| .of_steady onBank_steady
  · exact .trans (.of_steady assetFail_steady) lastingFlash_kept
  · exact .trans (.of_steady imageFail_steady) lastingFlash_kept
  · exact .refl

theorem suspend_steady {s : State} : s.Steady s.suspend := rfl

theorem pulseEnd_kept {s : State} {b sector : Nat} {ok : Bool} : s.Kept (s.pulseEnd b sector ok) :=
  .ite (.of_steady <| .trans (.ite (onBank_steady.trans flashTransient_steady) .refl) programmed_steady) <|
    .ite (.trans (.of_steady onBank_steady) programLost_kept) <| .of_steady onBank_steady

theorem countErase_steady {s : State} {b k : Nat} : s.Steady (s.countErase b k) :=
  onBank_steady.trans <| .ite (.trans (by rfl) raise_steady) .refl

theorem sectorErased_steady {s : State} {b k : Nat} : s.Steady (s.sectorErased b k) :=
  onBank_steady.trans <| .trans (.ite rewriteAsset_steady .refl) countErase_steady

theorem repairAt_steady {s : State} {b sector : Nat} {e : Entry} : s.Steady (s.repairAt b sector e) :=
  onWelt_steady.trans raise_steady

theorem entryBad_steady {s : State} {b sector i : Nat} {e : Entry} : s.Steady (s.entryBad b sector i e) :=
  onWelt_steady.trans <| .ite .refl <| .ite repairAt_steady <| onDev_steady.trans raise_steady

theorem atEntry_steady {s : State} {b k o : Nat} {f : Nat → Entry → State} (h : ∀ i e, s.Steady (f i e)) :
    s.Steady (s.atEntry b k o f) := by
  rw [State.atEntry]
  split
  · split
    · exact h _ _
    · exact .refl
  · exact .refl

theorem journalBad_steady {s : State} {b k o : Nat} : s.Steady (s.journalBad b k o) := atEntry_steady fun _ _ => entryBad_steady

theorem journalWeak_steady {s : State} {b k o : Nat} : s.Steady (s.journalWeak b k o) :=
  atEntry_steady fun _ _ => .ite repairAt_steady .refl

theorem switchImage_kept {s : State} : s.Kept s.switchImage := .ite faultReset_kept .refl

theorem imageBad_kept {s : State} {b : Nat} : s.Kept (s.imageBad b) := by
  unfold State.imageBad
  refine .ite (.of_steady rfl) <| .ite .refl ?_
  extract_lets _ s1
  have unsigned : s.Kept s1 := .of_steady rfl
  have waits : s1.Kept (s1.onFlash fun f => { f with imageSwitch := true }) := .of_eq rfl rfl rfl
  exact unsigned.trans <| waits.trans <| .trans (.of_steady raise_steady) switchImage_kept

theorem settingsBad_steady {s : State} {b k : Nat} : s.Steady (s.settingsBad b k) := .ite onBank_steady rfl

theorem wordBad_kept {s : State} {b addr : Nat} : s.Kept (s.wordBad b addr) := by
  rw [State.wordBad]
  split
  · exact .of_steady journalBad_steady
  · exact imageBad_kept
  · exact .of_steady assetWordBad_steady
  · exact .of_steady settingsBad_steady

theorem scrubCorrectable_steady {s : State} {b addr : Nat} : s.Steady (s.scrubCorrectable b addr) := by
  unfold State.scrubCorrectable
  extract_lets k seen s1 s2
  have told : s1.Steady s2 := .ite .refl <| onBank_steady.trans raise_steady
  have fresh : s2.Steady s2.takeFresh.2 := takeFresh_steady
  refine (onFlash_steady rfl).trans <| told.trans <| fresh.trans <| .ite .refl ?_
  split
  · exact journalWeak_steady
  · split
    · exact .ite onBank_steady .refl
    · exact .refl
  · exact .ite .refl onBank_steady
  · exact .refl

theorem scrubUncorrectable_kept {s : State} {b addr : Nat} : s.Kept (s.scrubUncorrectable b addr) :=
  .trans (.of_steady <| .trans (by rfl) <| .ite .refl <| onBank_steady.trans raise_steady) <| wordBad_kept.trans <|
    .ite retireBank_kept .refl

theorem scrubAt_steady {s : State} {b addr : Nat} : s.Steady (s.scrubAt b addr) := rfl

theorem retireSram_steady {s : State} {b : Nat} : s.Steady (s.retireSram b) :=
  .ite .refl <| onDev_steady.trans <| onDom_steady.trans <| raise_steady.trans <| secondPart_steady.trans laneFault_steady

theorem writeSave_steady {s : State} : s.Steady (s.writeSave).1 := .iteFst .refl <| .iteFst .refl rfl

theorem writeScrubNow_steady {s : State} : s.Steady (s.writeScrubNow).1 := .iteFst .refl <| .iteFst .refl rfl

/-! ### AUX -/

theorem onAux_steady {s : State} {k : Nat} {f : Aux → Aux} : s.Steady (s.onAux k f) := rfl

theorem setXfer_steady {s : State} {x : Option Xfer} : s.Steady (s.setXfer x) := rfl

theorem startXfer_steady {s : State} {q : QItem} : s.Steady (s.startXfer q) := .ite heldFault_steady setXfer_steady

theorem writeResults_steady {n : Nat} {s : State} {q : QItem} {cs : List Nat} : s.Steady (s.writeResults q n cs) := by
  induction n generalizing s cs with
  | zero => exact .refl
  | succ n ih => exact .ite .refl <| writeEntry_steady.trans ih

theorem endXfer_steady {s : State} : s.Steady s.endXfer := by
  rw [State.endXfer]
  split
  · exact setXfer_steady.trans <| writeResults_steady.trans <| onJob_steady.trans endRecord_steady
  · exact setXfer_steady

theorem stopXfer_steady {s : State} : s.Steady s.stopXfer := by
  rw [State.stopXfer]
  split
  · exact onAux_steady.trans endXfer_steady
  · exact .refl

theorem openRx_steady {s : State} : s.Steady s.openRx := by
  rw [State.openRx]
  split
  · exact .ite (setXfer_steady.trans <| .ite endXfer_steady .refl) .refl
  · exact .refl

theorem auxSlot_steady {s : State} {cycles : Nat} : s.Steady (s.auxSlot cycles) := by
  unfold State.auxSlot
  extract_lets _ s1 s2
  have drained : s.Steady s1 := rfl
  refine drained.trans <| openRx_steady.trans ?_
  split
  · exact .ite (onAux_steady.trans <| setXfer_steady.trans openRx_steady) .refl
  · exact .refl

theorem auxChar_steady {s : State} {k char : Nat} {noise ferr perr : Bool} : s.Steady (s.auxChar k char noise ferr perr) := by
  rw [State.auxChar]
  refine .ite .refl ?_
  exact onAux_steady.trans <| by
    refine .ite .refl <| .ite onAux_steady ?_
    split
    · exact .ite (onAux_steady.trans <| setXfer_steady.trans <| .ite endXfer_steady .refl) .refl
    · exact .refl

theorem writeAuxTx_steady {s : State} {k char : Nat} : s.Steady (s.writeAuxTx k char).1 :=
  .iteFst .refl <| .iteFst .refl onAux_steady

theorem readAuxRx_steady {s : State} {k : Nat} : s.Steady (s.readAuxRx k).2 := by
  rw [State.readAuxRx]
  split
  · exact .iteSnd .refl onAux_steady
  · exact .refl

theorem writeAuxCtl_steady {s : State} {k : Nat} {w : Word} : s.Steady (s.writeAuxCtl k w).1 :=
  .iteFst .refl <| .iteFst .refl onAux_steady

/-! ### Power -/

theorem domainDown_steady {s : State} {d : Nat} : s.Steady (s.domainDown d) :=
  onDom_steady.trans <| .ite onHead_steady <| .ite (.foldl fun _ _ => onAx_steady) <| .foldl fun _ _ => onChan_steady

theorem bridgeChecks_steady {s : State} {n : Nat} : s.Steady (s.bridgeChecks n) := rfl

theorem domainUp_steady {s : State} {d dt : Nat} : s.Steady (s.domainUp d dt) :=
  onDom_steady.trans <| .ite .refl <| .ite (.foldl fun _ _ => bridgeChecks_steady) solDomainUp_steady

theorem wakeDomains_steady {s : State} : s.Steady s.wakeDomains := .foldl fun _ _ => .ite onDom_steady .refl

theorem enginesOff_steady {s : State} : s.Steady s.enginesOff := .foldl fun _ _ => .ite domainDown_steady .refl

theorem enterSleep_steady {s : State} : s.Steady s.enterSleep := rfl

theorem writeGoOff_steady {s : State} : s.Steady (s.writeGoOff).1 := rfl

theorem sleepLoss_steady {s : State} : s.Steady s.sleepLoss := rfl

theorem wakeUp_kept {s : State} {src dt : Nat} : s.Kept (s.wakeUp src dt) :=
  .trans (.of_steady <| by rfl) <| .trans (.of_steady sleepLoss_steady) <| .trans
    (onStitch_kept fun ⟨_, _, kMax⟩ => ⟨by simp, by simp, kMax⟩) <|
    .of_steady <| .foldl fun _ _ => thetaDecay_steady

theorem setCore_steady {s : State} {k : Nat} {c : CoreState} : s.Steady (s.setCore k c) := rfl

theorem retireCore_kept {s : State} {k : Nat} : s.Kept (s.retireCore k) :=
  .trans (.of_steady <| setCore_steady.trans <| onDom_steady.trans <| raise_steady.trans secondPart_steady) <|
    .ite faultReset_kept .refl

/-! ### Security, images, OTP -/

theorem startBist_steady {s : State} {test : Nat} : s.Steady (s.startBist test).1 := .iteFst .refl <| .iteFst .refl rfl

theorem legCheck_steady {s : State} {prev new : List Bool} {b h l : Nat} : s.Steady (s.legCheck prev new b h l) :=
  .ite trip_steady <| .ite trip_steady <| .ite trip_steady .refl

theorem driveCheck_steady {s : State} {prev new : List Bool} : s.Steady (s.driveCheck prev new) :=
  .ite .refl <| .foldl fun _ _ => legCheck_steady.trans legCheck_steady

theorem intrude_steady {s : State} {code : Nat} : s.Steady (s.intrude code) :=
  enterSafe_steady.trans <| bistAbort_steady.trans <| .trans (by rfl) <| .trans (by rfl) <| holdWhere_steady.trans <|
    .ite driveCheck_steady .refl

theorem imageBegin_steady {s : State} {p len : Nat} : s.Steady (s.imageBegin p len).1 :=
  .iteFst .refl <| .iteFst .refl <| .iteFst .refl <| .trans (.foldl fun _ _ => onBank_steady) rfl

theorem imageActivate_steady {s : State} : s.Steady (s.imageActivate).1 := .iteFst .refl rfl

theorem imageConfirm_steady {s : State} : s.Steady (s.imageConfirm).1 := .iteFst .refl rfl

theorem imageAbort_steady {s : State} {p : Nat} : s.Steady (s.imageAbort p).1 := .iteFst .refl <| .iteFst .refl imageFail_steady

theorem imageDropped_steady {s : State} {p : Nat} : s.Steady (s.imageDropped p) := .ite imageFail_steady .refl

theorem imagePort_steady {s : State} {p : Nat} {w : Word} : s.Steady (s.imagePort p w).1 :=
  .iteFst .refl <| .iteFst .refl <| .iteFst .refl <| .iteFst .refl <| .iteFst imageFail_steady rfl

theorem otpKept_blow {s : State} {i : Nat} {w : Word} : OtpKept s (s.blow i w) := by
  intro k _
  have word : (s.blow i w).otp k = s.otp k ∨ (s.blow i w).otp k = s.otp k ||| w := at'_upd_cases _ _ _ _
  obtain word | word := word
  · rw [word]
    simp
  · rw [word]
    ext j
    simp
    grind

theorem blow_kept {s : State} {i : Nat} {w : Word} : s.Kept (s.blow i w) := ⟨rfl, id, otpKept_blow⟩

theorem otpBegin_steady {s : State} {op : OtpOp} : s.Steady (s.otpBegin op) := rfl

theorem programWord_steady {s : State} {p i : Nat} {v : Word} : s.Steady (s.programWord p i v).1 :=
  .iteFst .refl <| .iteFst .refl otpBegin_steady

theorem programKey_steady {s : State} {p slot use : Nat} : s.Steady (s.programKey p slot use).1 :=
  .iteFst .refl <| .iteFst .refl rfl

theorem revokeKey_steady {s : State} {p slot : Nat} : s.Steady (s.revokeKey p slot).1 := .iteFst .refl otpBegin_steady

theorem otpOp_steady {s : State} {p : Nat} {w : Word} : s.Steady (s.otpOp p w).1 := by
  rw [State.otpOp]
  split
  · exact programWord_steady
  · exact programKey_steady
  · exact revokeKey_steady
  · exact .refl

theorem raiseLevel_steady {s : State} {p : Nat} {w : Word} {rsp : Option (Bool × Nat × Nat)} : s.Steady (s.raiseLevel p w rsp) := rfl

theorem lowerLevel_kept {s : State} {w : Word} : s.Kept (s.lowerLevel w) :=
  .trans (.of_steady enterSafe_steady) <| blow_kept.trans takeReset_kept

/-- A write of PROT_LEVEL that is not refused keeps what every command keeps. -/
def ProtKept (s : State) : ProtResult → Prop
  | .done t => s.Kept t
  | .wait t => s.Kept t
  | .refused _ => True

theorem protKept_ite {s : State} {c : Prop} [Decidable c] {r r' : ProtResult} (h : s.ProtKept r) (h' : s.ProtKept r') :
    s.ProtKept (if c then r else r') := by
  split
  · exact h
  · exact h'

theorem writeProt_kept {s : State} {p key target : Nat} {rsp : Option (Bool × Nat × Nat)} :
    s.ProtKept (s.writeProt p key target rsp) := by
  have raised (w : Word) : s.ProtKept (.wait (s.raiseLevel p w rsp)) := .of_steady raiseLevel_steady
  rw [State.writeProt]
  refine protKept_ite trivial <| protKept_ite .refl <| protKept_ite trivial <| protKept_ite trivial <| protKept_ite (raised _) ?_
  refine protKept_ite ?_ ?_
  · split
    · exact raised _
    · trivial
  · split
    · exact lowerLevel_kept
    · trivial

theorem afterProt_kept {s : State} {p : Nat} {r : ProtResult} (h : s.ProtKept r) : s.Kept (s.afterProt p r) := by
  cases r with
  | done t => exact h
  | wait t => exact h
  | refused rc => exact .of_steady refuse_steady

theorem otpFinish_steady {s : State} {op : OtpOp} : s.Steady (s.otpFinish op) :=
  .trans (by rfl) <| .ite ownResolved_steady <| .ite rfl .refl

theorem otpFail_kept {s : State} {op : OtpOp} {i : Nat} {w : Word} : s.Kept (s.otpFail op i w) :=
  .ite (.of_steady <| .trans (by rfl) ownResolved_steady) <| .trans (.of_steady takeFresh_steady) <| blow_kept.trans <| .of_steady rfl

/-! ### Work dropped -/

theorem dropWork_steady {s : State} {i : Nat} : s.Steady (s.dropWork i) := .ite dropHead_steady <| .ite onAx_steady .refl

end Sys2Proof.Machine.State
end

section
/-!
PROOFS. What every command keeps: welt, limits and stalls, re-admission, the dispatcher and the boundary.
-/

namespace Sys2Proof.Machine.State

/-! ### Welt -/

theorem ckptCommitted_steady {s : State} {m : Mark} : s.Steady (s.ckptCommitted m) := rfl

theorem marksCommitted_steady {s : State} {ms : List Mark} : s.Steady (s.marksCommitted ms) :=
  .foldl fun _ _ => .ite (onRec_steady.trans ckptCommitted_steady) <| .ite onRec_steady .refl

theorem gateArmed_steady {s : State} {seq : Word} {idx i : Nat} {r : Rec} : s.Steady (s.gateArmed seq idx i r) := by
  rw [State.gateArmed]
  split
  · exact .refl
  · exact onRec_steady.trans onWelt_steady

theorem endGated_steady {s : State} {i : Nat} {q : QItem} : s.Steady (s.endGated i q) :=
  .ite onLane_steady <| dropWork_steady.trans <| endRecord_steady.trans onLane_steady

theorem endSettled_steady {s : State} : s.Steady s.endSettled := by
  rw [State.endSettled]
  refine .foldl fun t i => ?_
  refine .ite ?_ .refl
  exact onLane_steady.trans <| by
    split
    · exact endGated_steady
    · exact .refl

theorem settleCommitted_steady {s : State} {seq : Word} {idx verdict hint : Nat} : s.Steady (s.settleCommitted seq idx verdict hint) := by
  unfold State.settleCommitted
  extract_lets i s1 s2 s3 s4
  have told : s2.Steady s3 := .ite raise_steady .refl
  have ended : s3.Steady s4 := by
    unfold s4
    split
    · exact .ite endGated_steady .refl
    · exact .refl
  exact .ite (.ite (onRec_steady.trans <| onGate_steady.trans raise_steady) .refl) <| onGate_steady.trans <| onRec_steady.trans <|
    told.trans <| ended.trans checkDone_steady

theorem onCommit_steady {s : State} {w : WriteReq} : s.Steady (s.onCommit w) := by
  rw [State.onCommit]
  split
  · exact accept_steady
  · dsimp only
    split
    · exact gateArmed_steady
    · exact .refl
  · exact marksCommitted_steady
  · exact onWelt_steady
  · exact .refl
  · exact .ite settleCommitted_steady .refl

theorem copyEntry_steady {s : State} {e : Entry} {body : List Word} : s.Steady (s.copyEntry e body) := rfl

theorem copyJob_steady {s : State} {e : Entry} {newer : List Entry} : s.Steady (s.copyJob e newer) :=
  .trans (.foldl fun _ _ => writeEntry_steady) <| .foldl fun _ _ => .ite writeEntry_steady copyEntry_steady

theorem copyForward_steady {s : State} {e : Entry} {newer : List Entry} : s.Steady (s.copyForward e newer) := by
  rw [State.copyForward]
  split
  · exact .refl
  · exact copyJob_steady
  · exact .ite copyJob_steady .refl
  · exact .ite .refl copyEntry_steady
  · exact .ite .refl copyEntry_steady

theorem copyLive_steady {s : State} {stop : Word} {es : List Entry} : s.Steady (s.copyLive stop es) := by
  induction es generalizing s with
  | nil => exact .refl
  | cons e es ih => exact .trans (.ite copyForward_steady .refl) ih

theorem carryForward_steady {s : State} : s.Steady s.carryForward := by
  rw [State.carryForward]
  refine .ite .refl ?_
  split
  · exact .refl
  · exact copyLive_steady.trans writeEntry_steady

theorem commitEntry_steady {s : State} : s.Steady s.commitEntry := by
  rw [State.commitEntry]
  split
  · exact .refl
  · exact .ite .refl <| onWelt_steady.trans <| (onFlash_steady (by rfl)).trans <| onCommit_steady.trans <|
      (onFlash_steady (by rfl)).trans carryForward_steady

theorem programFront_steady {n : Nat} {s : State} : s.Steady (programFront n s) := by
  induction n generalizing s with
  | zero => exact .refl
  | succ n ih => exact .ite .refl <| .trans (.ite programmed_steady .refl) <| .trans (.ite programmed_steady .refl) ih

theorem writeAll_steady {n : Nat} {s : State} : s.Steady (writeAll n s) := by
  induction n generalizing s with
  | zero => exact .refl
  | succ n ih => exact .ite .refl <| programFront_steady.trans <| commitEntry_steady.trans ih

theorem lookupStart_steady {s : State} {b : Nat} : s.Steady (s.lookupStart b).1 := .iteFst .refl <| .iteFst .refl onWelt_steady

/-! ### Steps, limits and stalls of the axes -/

theorem stallLasting_steady {s : State} {n : Nat} : s.Steady (s.stallLasting n) :=
  onAx_steady.trans <| raise_steady.trans <| .ite homeBreak_steady <| dropMotion_steady.trans <| uncertain_steady.trans <|
    laneFault_steady.trans cameToRest_steady

theorem stallFound_steady {s : State} {n : Nat} : s.Steady (s.stallFound n) := by
  rw [State.stallFound]
  exact onAx_steady.trans <| by
    refine .ite (.ite .refl refMet_steady) ?_
    split
    · exact jam_steady
    · split
      · exact onAx_steady
      · exact .ite stallLasting_steady onAx_steady

theorem fullStepDone_steady {s : State} {n : Nat} {est : Bool} {lam : Int} : s.Steady (s.fullStepDone n est lam) :=
  onAx_steady.trans <| .ite .refl <| onAx_steady.trans <| .ite stallFound_steady .refl

theorem pathStep_steady {s : State} {n : Nat} : s.Steady (s.pathStep n) :=
  .foldl fun _ _ => .ite clickStep_steady <| .ite feedStep_steady .refl

theorem stopRest_steady {s : State} {n cause : Nat} : s.Steady (s.stopRest n cause) :=
  .trans (.ite onAx_steady keepRest_steady) <| .trans (.ite endRunning_steady .refl) <| onLane_steady.trans cameToRest_steady

theorem restNow_steady {s : State} {n : Nat} : s.Steady (s.restNow n) := by
  rw [State.restNow]
  split
  · exact .refl
  · exact .refl
  · exact .refl
  · exact onAx_steady.trans <| keepRest_steady.trans <| .trans (.ite raise_steady .refl) <| .ite cameToRest_steady <|
      .ite endRunning_steady stoppedNow_steady
  · exact .ite stopRest_steady <| .ite .refl <| .ite homeFail_steady homeRest_steady
  · exact .ite stopRest_steady <| .ite (stopRest_steady.trans stoppedNow_steady) <|
      .ite (keepRest_steady.trans endRunning_steady) stopRest_steady

theorem limitHard_steady {s : State} {n : Nat} : s.Steady (s.limitHard n) := by
  rw [State.limitHard]
  split
  · exact unplace_steady.trans <| dropMotion_steady.trans <| laneFault_steady.trans cameToRest_steady
  · split
    · exact homeFail_steady
    · exact .refl
    · exact onAx_steady.trans <| onLane_steady.trans beginStop_steady

theorem limitRamp_steady {s : State} {n : Nat} : s.Steady (s.limitRamp n) := by
  rw [State.limitRamp]
  split
  · exact beginStop_steady
  · exact .ite homeBreak_steady <| onLane_steady.trans beginStop_steady

theorem homeSwitchOn_steady {s : State} {n i : Nat} : s.Steady (s.homeSwitchOn n i) := .ite onAx_steady .refl

theorem homeSwitchOff_steady {s : State} {n i ph : Nat} : s.Steady (s.homeSwitchOff n i ph) :=
  .ite (.ite refMet_steady onAx_steady) .refl

/-! ### Re-admission -/

theorem request_steady {s : State} {i : Nat} : s.Steady (s.request i) := by
  rw [State.request]
  split
  · exact .ite .refl onDom_steady
  · exact .refl

theorem bridgeRecheck_steady {s : State} {n : Nat} : s.Steady (s.bridgeRecheck n) := rfl

theorem vmLostTest_steady {s : State} {n : Nat} : s.Steady (s.vmLostTest n) :=
  .ite .refl <| .trans (.ite uncertain_steady .refl) <| .ite .refl onSup_steady

theorem checkBegin_steady {s : State} {i : Nat} : s.Steady (s.checkBegin i) :=
  onLane_steady.trans <| .ite (.ite readmitFail_steady scanStart_steady) <| .ite bridgeRecheck_steady solReadmitCheck_steady

theorem reAdmitLane_steady {s s0 : State} {q : QItem} {i : Nat} : s.Steady (State.reAdmitLane s0 q s i) :=
  .ite .refl <| onLane_steady.trans <| raise_steady.trans <| .ite .refl readmitFail_steady

theorem reAdmit_steady {s : State} {q : QItem} : s.Steady (s.reAdmit q) :=
  .ite (.foldl fun _ _ => reAdmitLane_steady) endCtrl_steady

theorem contHead_steady {s : State} {x : Nat} {q : QItem} : s.MaySteady (s.contHead x q) := by
  rw [State.contHead]
  refine .ite (.some <| .ite scanResume_steady startScan_steady) ?_
  refine .ite (.ite .none <| .ite (.ite .none <| .some <| onHead_steady.trans pathMove_steady) <| .some startHead_steady) ?_
  refine .ite (.some cutBegin_steady) <| .ite (.some contPath_steady) <| .ite (.some stoppedWith_steady) ?_
  split
  · exact .some pathMove_steady
  · exact .some <| .trans (.ite vhenUp_steady .refl) toGoal_steady
  · exact .some contPath_steady
  · exact .some contPath_steady
  · exact .some <| .trans (.ite vhenUp_steady .refl) searchBegin_steady

theorem contAxis_steady {s : State} {n : Nat} {q : QItem} : s.MaySteady (s.contAxis n q) :=
  .ite (.ite .none <| .ite (.some heldFault_steady) <| .ite (.some startMove_steady) <| .some moveToward_steady) <|
    .ite (.some startHomeRec_steady) <| .ite (.some startDc_steady) .none

theorem contRec_steady {s : State} {i : Nat} {q : QItem} : s.MaySteady (s.contRec i q) :=
  .ite contHead_steady <| .ite contAxis_steady .none

theorem continueLane_steady {s : State} {i : Nat} : s.MaySteady (s.continueLane i) := by
  rw [State.continueLane]
  refine .ite .none <| .ite (.some .refl) ?_
  split
  · exact .ite (.some <| onLane_steady.trans contPath_steady) <| .some onLane_steady
  · refine .ite .none ?_
    split
    · exact .none
    · next t run => exact .some <| onLane_steady.trans <| (contRec_steady t run).trans <| .ite onRec_steady .refl

theorem readmitSlot_steady {s : State} {i : Nat} : s.Steady (s.readmitSlot i) :=
  .ite (.ite readmitFail_steady <| .ite .refl onLane_steady) <| .ite (.ite readmitPass_steady <| .ite checkBegin_steady request_steady) <|
    .ite (onLane_steady.trans continueLane_steady.getD) .refl

theorem readmitClose_steady {s : State} {i : Nat} : s.Steady (s.readmitClose i) := by
  rw [State.readmitClose]
  split
  · exact .refl
  · refine .ite .refl <| onLane_steady.trans <| .ite .refl <| dropDeadline_steady.trans <| by
      dsimp only
      split
      · exact endCtrl_steady
      · exact .refl

theorem checkAbort_steady {s : State} {i : Nat} : s.Steady (s.checkAbort i) :=
  .ite (.ite scanEnd_steady .refl) <| .ite onAx_steady <| .ite (.foldl fun _ _ => onChan_steady) .refl

theorem stopCheck_steady {s : State} {i : Nat} {goal : LaneState} : s.Steady (s.stopCheck i goal) :=
  .trans (.ite .refl checkAbort_steady) <| onLane_steady.trans <| .ite .refl cameToRest_steady

/-! ### Dispatcher -/

theorem waitFor_steady {s : State} {i : Nat} {w : Wait} : s.Steady (s.waitFor i w) := rfl

theorem arm_steady {s : State} {i : Nat} {q : QItem} : s.Steady (s.arm i q).1 :=
  .iteFst .refl <| .iteFst .refl <| .iteFst .refl <| flushMarks_steady.trans writeEntry_steady

theorem startEngine_steady {s : State} {i : Nat} {q : QItem} : s.Steady (s.startEngine i q) :=
  .ite startHead_steady <| .ite (.ite startMove_steady <| .ite startHomeRec_steady <| .ite startGear_steady startDc_steady) <|
    .ite (.ite startSol_steady startSolDiag_steady) <| .ite startXfer_steady endRecord_steady

theorem jobStarts_steady {s : State} {i : Nat} {seq : Word} : s.Steady (s.jobStarts i seq) :=
  .of_sameBut <| (s.jobStarts_frame _ _).mono (by simp)

theorem release_steady {s : State} {i : Nat} {q : QItem} : s.Steady (s.release i q) :=
  onLane_steady.trans <| .trans (.ite onJobs_steady .refl) <| onGate_steady.trans <| onRec_steady.trans <|
    jobStarts_steady.trans <| .trans (.ite bistAbort_steady .refl) startEngine_steady

theorem tryRecord_steady {s : State} {i : Nat} {q : QItem} : s.Steady (s.tryRecord i q) := by
  rw [State.tryRecord]
  split
  · exact .trans (.ite (.foldl fun _ _ => request_steady) .refl) waitFor_steady
  · dsimp only
    split
    · exact arm_steady.trans waitFor_steady
    · exact arm_steady.trans release_steady

theorem popItem_steady {s : State} {i : Nat} {q : QItem} : s.Steady (s.popItem i q) := rfl

theorem outInOrder_steady {s : State} {i : Nat} {q : QItem} : s.Steady (s.outInOrder i q) :=
  popItem_steady.trans <| laneGoesOut_steady.trans <| .ite .refl endCtrl_steady

theorem evalLane_steady {fuel : Nat} {s : State} {i : Nat} : s.Steady (evalLane fuel s i) := by
  induction fuel generalizing s with
  | zero => exact .refl
  | succ fuel ih =>
    rw [State.evalLane]
    split
    · exact .refl
    · refine .ite ?_ <| .ite (.ite outInOrder_steady waitFor_steady) tryRecord_steady
      split
      · exact waitFor_steady
      · exact waitFor_steady
      · exact popItem_steady.trans ih

theorem dispatch_steady {s : State} {i : Nat} : s.Steady (s.dispatch i) := .ite evalLane_steady .refl

theorem dropStanding_steady {s : State} {seq : Word} {idx : Nat} : s.Steady (s.dropStanding seq idx) := rfl

theorem fenceOver_steady {s : State} {seq : Word} {idx : Nat} {st : FenceState} {code arg : Nat} :
    s.Steady (s.fenceOver seq idx st code arg) :=
  setFence_steady.trans <| queueMark_steady.trans <| dropStanding_steady.trans onRec_steady

theorem cancelWaiting_steady {s : State} {i : Nat} {q : QItem} : s.Steady (s.cancelWaiting i q) :=
  .ite cancelRecord_steady <| .ite .refl <| setFence_steady.trans <| dropStanding_steady.trans <|
    onRec_steady.trans queueMark_steady

theorem fenceClock_steady {s : State} {seq : Word} {idx : Nat} {r : Rec} : s.Steady (s.fenceClock seq idx r) :=
  .ite onJobs_steady .refl

theorem evalFence_steady {s : State} {seq : Word} {idx : Nat} {r : Rec} : s.Steady (s.evalFence seq idx r) :=
  .ite .refl <| fenceClock_steady.trans <| .ite .refl <| .ite flushMarks_steady <| .ite .refl <| fenceOver_steady.trans <|
    raise_steady.trans checkDone_steady

theorem fences_steady {s : State} : s.Steady s.fences := by
  rw [State.fences]
  refine .foldl fun t j => ?_
  refine .foldl fun t f => ?_
  split
  · exact .ite evalFence_steady .refl
  · exact .refl

theorem fenceResume_steady {s : State} {seq : Word} {idx : Nat} {cancel : Bool} : s.Steady (s.fenceResume seq idx cancel) := by
  rw [State.fenceResume]
  split
  · exact .refl
  · exact .ite .refl <| .trans (.ite (.foldl fun _ _ => .foldl fun _ _ => cancelWaiting_steady) .refl) <|
      fenceOver_steady.trans checkDone_steady

theorem leaveRecovery_steady {s : State} {i : Nat} : s.Steady (s.leaveRecovery i) :=
  .ite .refl <| .trans (.foldl fun _ _ => raiseJob_steady.trans <| .ite onJob_steady .refl) <|
    .trans (.ite .refl showHeld_steady) onLane_steady

theorem skipLane_steady {s : State} {i : Nat} : s.Steady (s.skipLane i) := by
  rw [State.skipLane]
  refine .ite .refl <| .ite readmitFail_steady ?_
  split
  · exact .ite .refl <| dropWork_steady.trans <| cancelRecord_steady.trans onLane_steady
  · exact .ite (dropWork_steady.trans <| cancelRecord_steady.trans onLane_steady) onLane_steady
  · exact .ite readmitFail_steady onLane_steady

theorem continueOn_steady {s : State} {i : Nat} : s.Steady (s.continueOn i) :=
  .ite .refl <| .ite (.ite .refl onLane_steady) continueLane_steady.getD

theorem cancelHeld_steady {s : State} {seq : Word} {i : Nat} : s.Steady (s.cancelHeld seq i) :=
  .ite .refl <| .trans (.foldl fun _ _ => .ite (dropWork_steady.trans cancelRecord_steady) .refl) <|
    .trans (.foldl fun _ _ => cancelRecord_steady) onJobs_steady

theorem resumeOp_steady {s : State} {q : QItem} : s.Steady (s.resumeOp q) := by
  rw [State.resumeOp]
  split
  · exact .foldl fun _ _ => leaveRecovery_steady
  · exact .foldl fun _ _ => continueOn_steady
  · exact .foldl fun _ _ => skipLane_steady
  · exact fenceResume_steady
  · exact fenceResume_steady
  · exact .foldl fun _ _ => cancelHeld_steady

theorem resolvedDone_steady {s : State} {i : Nat} {q : QItem} : s.Steady (s.resolvedDone i q) :=
  .ite (dropWork_steady.trans <| endRecord_steady.trans <| .ite onLane_steady .refl) <| .ite endRecord_steady .refl

theorem resolvedRedo_steady {s : State} {i : Nat} {q : QItem} : s.Steady (s.resolvedRedo i q) :=
  .trans (.ite dropWork_steady .refl) <| dropDeadline_steady.trans <| onRec_steady.trans onLane_steady

theorem resolveGate_steady {s : State} {q : QItem} : s.Steady (s.resolveGate q) := by
  rw [State.resolveGate]
  split
  · exact .ite endCtrl_steady <| writeSettle_steady.trans <| onGate_steady.trans <| onRec_steady.trans <| raise_steady.trans <|
      .trans (.ite resolvedDone_steady resolvedRedo_steady) <| checkDone_steady.trans endCtrl_steady
  · exact endCtrl_steady

theorem actCtrl_steady {s : State} {q : QItem} : s.Steady (s.actCtrl q) :=
  .ite resolveGate_steady <| .ite (resumeOp_steady.trans endCtrl_steady) <|
    .ite (.trans (.foldl fun _ _ => laneGoesOut_steady) endCtrl_steady) reAdmit_steady

theorem ctrlFront_steady {s : State} {ok : QItem → Bool} : s.Steady (s.ctrlFront ok) := by
  rw [State.ctrlFront]
  split
  · exact .ite (onJobs_steady.trans actCtrl_steady) .refl
  · exact .refl

theorem ctrlAll_steady {s : State} : s.Steady s.ctrlAll := .foldl fun _ _ => ctrlFront_steady

theorem stopLane_steady {s : State} {i : Nat} : s.Steady (s.stopLane i) := by
  rw [State.stopLane]
  exact raise_steady.trans <| onLane_steady.trans <| by
    refine .ite stopCheck_steady <| .ite onLane_steady ?_
    refine .trans ?_ <| beginStop_steady.trans <| .ite (stopXfer_steady.trans cameToRest_steady) <| .ite cameToRest_steady .refl
    split
    · exact beginStop_steady
    · exact .refl

theorem takeStops_steady {s : State} : s.Steady s.takeStops := onJobs_steady.trans <| .foldl fun _ _ => stopLane_steady

theorem dispatchType_steady {s : State} {i typ : Nat} : s.Steady (s.dispatchType i typ) := by
  rw [State.dispatchType]
  split
  · exact .ite dispatch_steady .refl
  · exact .refl

/-! ### Stitch -/

theorem keepAngle_steady {s : State} {old : Store} {n : Nat} : s.Steady (State.keepAngle old s n) := .ite onAx_steady .refl

theorem freshIndex_steady {s : State} {old : Store} {n : Nat} : s.Steady (State.freshIndex old s n) := .ite onEnc_steady .refl

theorem headGone_steady {s : State} {x : Nat} : s.Steady (s.headGone x) := .ite leaveService_steady .refl

theorem adoptDue_steady {s : State} : s.Steady s.adoptDue :=
  .ite .refl <| .trans (by rfl) <| .trans (.foldl fun _ _ => keepAngle_steady) <| .trans (.foldl fun _ _ => freshIndex_steady) <|
    headGone_steady.trans headGone_steady

theorem runCurrent_steady {s : State} {n : Nat} : s.Steady (s.runCurrent n) :=
  .ite .refl <| onAx_steady.trans <| .ite .refl <| newPeriod_steady.trans newPeriod_steady

theorem axisSlot_steady {s : State} {n : Nat} : s.Steady (s.axisSlot n) :=
  runCurrent_steady.trans <| onAx_steady.trans <| .trans (.ite pathAxisSlot_steady motionSlot_steady) dcSlot_steady

theorem vhenFall_steady {s : State} {was : List Nat} : s.Steady (State.vhenFall was s) := .foldl fun _ _ => vhenSlot_steady

theorem evaluate_steady {s : State} : s.Steady s.evaluate :=
  endSettled_steady.trans <| takeStops_steady.trans <| ctrlAll_steady.trans <| fences_steady.trans <|
    .trans (.foldl fun _ _ => readmitSlot_steady.trans readmitClose_steady) <| .foldl fun _ _ => dispatch_steady

theorem engineSlots_steady {s : State} {len : Nat} : s.Steady (s.engineSlots len) := by
  unfold State.engineSlots
  extract_lets s1 s2 s3
  have axes : s1.Steady s2 := .foldl fun _ _ => axisSlot_steady
  have banks : s2.Steady ((List.range 4).foldl State.solSlot s2) := .foldl fun _ _ => solSlot_steady
  exact headSlot_steady.trans <| headSlot_steady.trans <| axes.trans <| banks.trans <| hotStarts_steady.trans auxSlot_steady

theorem latchInputs_steady {s : State} {len : Nat} : s.Steady (s.latchInputs len) :=
  .trans (by rfl) <| ssiBoundary_steady.trans ssiBoundary_steady

theorem nextX_in_range {x k kMax slew : Nat} (hx : 65536 ≤ x ∧ x ≤ 262144) (hk : 256 ≤ k) (hm : 256 ≤ kMax ∧ kMax ≤ 1024) :
    65536 ≤ nextX x (min k kMax) slew ∧ nextX x (min k kMax) slew ≤ 262144 :=
  nextX_mem slew hx (by omega)

theorem stretchOk_sampled {s : State} (h : s.stretchOk) : (s.onStitch s.sampled).stretchOk := by
  obtain ⟨x, -, kMax⟩ := h
  have next := nextX_in_range (slew := s.stitch.slew) x s.largest_covers.1 kMax
  simp only [State.stretchOk, State.onStitch, State.sampled]
  exact ⟨x, next, kMax⟩

theorem sample_kept {s : State} : s.Kept s.sample :=
  (onStitch_kept stretchOk_sampled).trans <| .of_steady <| .of_sameBut <| s.sample_frame.mono (by simp)

theorem atSample_kept {s : State} : s.Kept s.atSample := by
  obtain ⟨-, x, xNext, kMax, -, -, -⟩ := s.atSample_stitch
  refine ⟨rfl, ?_, .of_words rfl⟩
  rw [State.stretchOk, State.stretchOk, x, xNext, kMax]
  exact id

theorem writePeriod_kept {s : State} {w : Word} : s.Kept (s.writePeriod w).1 := by
  refine .iteFst .refl <| .iteFst .refl ?_
  dsimp only
  exact onStitch_kept id

/-! ### Commits of tables -/

theorem adopt_steady {s : State} {ws : List Nat} : s.Steady (s.adopt ws) := .of_sameBut <| (s.adopt_frame _).mono (by simp)

theorem commit_steady {s : State} {p : Nat} : s.Steady (s.commit p).1 :=
  .iteFst .refl <| .iteFst .refl <| .iteFst .refl <| .iteFst .refl adopt_steady

theorem discard_steady {s : State} {p : Nat} : s.Steady (s.discard p) := rfl

end Sys2Proof.Machine.State
end

section
/-!
PROOFS. What every command keeps: recovery, start-up, registers, tables and the link.
-/

namespace Sys2Proof.Machine.State

/-! ### Recovery -/

theorem discardTorn_steady {s : State} {e : Entry} {b : Nat} : s.Steady (s.discardTorn e b) :=
  .ite .refl <| .trans (.foldl fun _ _ => countErase_steady) onBank_steady

theorem queueRecovered_steady {s : State} {j : Job} : s.Steady (s.queueRecovered j) :=
  .foldl fun _ _ => .ite .refl queueRecord_steady

theorem recoverDeadlines_steady {s : State} {j : Job} : s.Steady (s.recoverDeadlines j) := rfl

theorem recoverGate_steady {s : State} {g : Word × Nat} : s.Steady (s.recoverGate g) := by
  rw [State.recoverGate]
  split
  · exact .refl
  · exact gateArmed_steady.trans <| .ite (onRec_steady.trans onGate_steady) .refl

theorem recoverySettle_steady {s : State} {job : Word} {idx verdict source hint : Nat} :
    s.Steady (s.recoverySettle job idx verdict source hint) := rfl

theorem judgeGate_steady {s : State} {es : List Entry} {g : Word × Nat} : s.Steady (State.judgeGate es s g) := by
  rw [State.judgeGate]
  split
  · exact .refl
  · extract_lets s1 s2 h
    have cleared : s.Steady s2 := rfl
    exact .ite .refl <| .ite (cleared.trans <| onGate_steady.trans recoverySettle_steady) <|
      onRec_steady.trans <| onGate_steady.trans recoverySettle_steady

theorem interrupt_steady {s : State} {i : Nat} : s.Steady (s.interrupt i) := by
  rw [State.interrupt]
  split
  · exact .refl
  · exact onRec_steady.trans <| queueMark_steady.trans <| .ite .refl onLane_steady

theorem recoverLane_steady {s : State} {es : List Entry} {double : Bool} {i : Nat} : s.Steady (State.recoverLane es double s i) :=
  showHeld_steady.trans onLane_steady

theorem autoLeave_steady {s : State} {i : Nat} : s.Steady (s.autoLeave i) := .ite .refl leaveRecovery_steady

theorem entryEvents_steady {s : State} {out0 out1 : Bool} {log : List Entry} {gates : List (Word × Nat)} {e : Entry} {before : List Entry} :
    s.Steady (State.entryEvents out0 out1 log gates s e before) :=
  .ite (.ite .refl raise_steady) <| .trans (.ite .refl raise_steady) <| .ite raise_steady <| .ite raise_steady .refl

theorem logEvents_steady {out0 out1 : Bool} {log : List Entry} {gates : List (Word × Nat)} {before : List Entry} {s : State}
    {es : List Entry} : s.Steady (logEvents out0 out1 log gates before s es) := by
  induction es generalizing before s with
  | nil => exact .refl
  | cons e es ih => exact entryEvents_steady.trans ih

theorem repairEntry_steady {s : State} {out0 out1 : Bool} {log : List Entry} {e : Entry} : s.Steady (State.repairEntry out0 out1 log s e) :=
  .ite onWelt_steady .refl

theorem recoverSeq_steady {s : State} {es : List Entry} : s.Steady (s.recoverSeq es) := rfl

theorem rebuild_steady {s : State} {log es : List Entry} {out0 out1 double : Bool} : s.Steady (s.rebuild log es out0 out1 double).1 :=
  recoverSeq_steady.trans <| .trans (.foldl fun _ _ => repairEntry_steady) <| onJobs_steady.trans <|
    .trans (.foldl fun _ _ => queueRecovered_steady) <| .trans (.foldl fun _ _ => recoverDeadlines_steady) <|
    .trans (.foldl fun _ _ => recoverGate_steady) <| .trans (.foldl fun _ _ => judgeGate_steady) <|
    .trans (.foldl fun _ _ => interrupt_steady) <| .foldl fun _ _ => recoverLane_steady

theorem replay_steady {s : State} : s.Steady s.replay.1 := by
  rw [State.replay]
  dsimp only
  exact .trans (by
    split
    · exact discardTorn_steady.trans discardTorn_steady
    · exact .refl) <| onWelt_steady.trans <| onDev_steady.trans <| rebuild_steady.trans <| writeEntry_steady.trans <|
    flushMarks_steady.trans writeAll_steady

theorem recoveryDone_steady {s : State} {log : List Entry} {out0 out1 : Bool} {armed : List (Word × Nat)} :
    s.Steady (s.recoveryDone log out0 out1 armed) :=
  logEvents_steady.trans <| raise_steady.trans <| onEv_steady.trans <| .trans (t := { State.onEv _ _ with power := _ }) rfl onWelt_steady

theorem recover_steady {s : State} : s.Steady s.recover := by
  unfold State.recover
  extract_lets s1 log
  have begun : s.Steady s1 := onDev_steady
  have replayed : s1.Steady s1.replay.1 := replay_steady
  generalize s1.replay = r at replayed ⊢
  obtain ⟨t, armed, double⟩ := r
  dsimp -zeta only
  extract_lets t1 t2
  have done : t.Steady t1 := recoveryDone_steady
  have left : t1.Steady t2 := .ite (.foldl fun _ _ => autoLeave_steady) .refl
  exact begun.trans <| replayed.trans <| done.trans <| left.trans <| .foldl fun _ _ => checkDone_steady

/-! ### Start-up -/

theorem clampField_steady {s : State} {o : Obj} {f : Field} : s.Steady (s.clampField o f) := by
  rw [State.clampField]
  split
  · exact .ite putCfg_steady .refl
  · exact .refl

theorem clampLimits_steady {s : State} : s.Steady s.clampLimits :=
  clampField_steady.trans <| clampField_steady.trans <| .foldl fun _ _ => clampField_steady.trans <| clampField_steady.trans <|
    .ite (clampField_steady.trans clampField_steady) clampField_steady

theorem checkHead_steady {s : State} {x : Nat} : s.Steady (s.checkHead x) := .ite .refl rfl

theorem dropLost_steady {s : State} : s.Steady s.dropLost :=
  .foldl fun _ _ => .ite rfl <| .ite .refl <| eraseRecord_steady.trans setDir_steady

theorem holdLost_steady {s : State} : s.Steady s.holdLost := .trans (.foldl fun _ _ => .ite .refl holdUsers_steady) rfl

theorem finishRewrites_steady {s : State} : s.Steady s.finishRewrites := .foldl fun _ _ => .foldl fun _ _ => sectorErased_steady

theorem loadSettings_steady {s : State} : s.Steady s.loadSettings := by
  unfold State.loadSettings
  extract_lets s1 _ s2 s3 _ s4
  have lost : s.Steady s1 := dropLost_steady.trans finishRewrites_steady
  clear_value s1
  have loaded : s1.Steady s2 := rfl
  have checked : s2.Steady s3 := clampLimits_steady.trans <| checkHead_steady.trans checkHead_steady
  clear_value s3
  have unbound : s3.Steady s4 := .ite rfl .refl
  exact lost.trans <| loaded.trans <| checked.trans <| unbound.trans <| bandAfresh_steady.trans bandAfresh_steady

theorem loadInputs_steady {s : State} : s.Steady s.loadInputs :=
  bandAfresh_steady.trans <| bandAfresh_steady.trans <| onSup_steady.trans <| (onFlash_steady (by rfl)).trans <|
    .foldl fun _ _ => onSns_steady

theorem testSram_steady {s : State} {b : Nat} {first second : Bool} : s.Steady (s.testSram b first second) :=
  .ite .refl <| .ite (onDev_steady.trans <| onDom_steady.trans <| raise_steady.trans secondPart_steady) onDev_steady

theorem testBank_kept {s : State} {b : Nat} : s.Kept (s.testBank b) := .ite retireBank_kept .refl

theorem testCore_steady {s : State} {k : Nat} {first second : Bool} : s.Steady (s.testCore k first second) :=
  .ite .refl <| .ite (setCore_steady.trans <| onDom_steady.trans <| raise_steady.trans secondPart_steady) setCore_steady

theorem tryImages_steady {s : State} {bs : List Nat} : s.Steady (tryImages bs s).1 := by
  induction bs generalizing s with
  | nil => exact .refl
  | cons b bs ih => exact .iteFst .refl <| .trans (by rfl) ih

theorem loadKeys_steady {s : State} : s.Steady s.loadKeys := .foldl fun _ _ => rfl

theorem startConfirmed_steady {s : State} {n : Nat} {lost second : Bool} : s.Steady (s.startConfirmed n lost second) := rfl

theorem startConfirm_steady {s : State} {n cause : Nat} {lost : Bool} : s.Steady (s.startConfirm n cause lost) :=
  .ite markUncertain_steady <| .ite (.trans (by rfl) <| onSsi_steady.trans startConfirmed_steady) <| .ite (.trans (by rfl) <|
    onSsi_steady.trans startConfirmed_steady) <| .trans (by rfl) <| onSsi_steady.trans markUncertain_steady

theorem startAxes_steady {s : State} {lost : Bool} : s.Steady (s.startAxes lost) :=
  .foldl fun _ _ => .ite .refl <| .ite startConfirm_steady <| .ite startConfirm_steady .refl

theorem onRcd_steady {s : State} {f : StartRec → StartRec} : s.Steady (s.onRcd f) := rfl

theorem goReady_steady {s : State} {lost : Bool} {bootT recovT : Nat} : s.Steady (s.goReady lost bootT recovT) :=
  onRcd_steady.trans <| startAxes_steady.trans <| .trans (.ite (.foldl fun _ _ => thetaLost_steady) .refl) <|
    recover_steady.trans <| holdLost_steady.trans <| .trans (.foldl fun _ _ => .ite laneFault_steady .refl) <|
    onDev_steady.trans <| onRcd_steady.trans resolve_steady

theorem stayInBoot_steady {s : State} {noImage : Bool} : s.Steady (s.stayInBoot noImage) :=
  .trans (by rfl) <| .ite enterSafe_steady .refl

theorem bootImage_steady {s : State} {sub : Nat} {lost : Bool} {tests : BitVec 12} {bootT recovT : Nat} :
    s.Steady (s.bootImage sub lost tests bootT recovT) := by
  unfold State.bootImage
  extract_lets order
  have tried : s.Steady (tryImages order s).1 := tryImages_steady
  generalize tryImages order s = r at tried ⊢
  obtain ⟨t, run⟩ := r
  refine tried.trans ?_
  cases run with
  | none => exact stayInBoot_steady
  | some b =>
    dsimp only
    have runs (u : State) : u.Steady (u.onSec fun q => { q with run := b }) := rfl
    have powered (u : State) : u.Steady { u with power := { u.power with inReset := none, noImage := false } } := rfl
    exact (runs t).trans <| onRcd_steady.trans <| .trans (.ite raise_steady .refl) <| testCore_steady.trans <|
      testCore_steady.trans <| .ite stayInBoot_steady <| (powered _).trans goReady_steady

theorem massErase_kept {s : State} {bad : List (Fin 2 × BitVec 12)} : s.Kept (s.massErase bad) := by
  unfold State.massErase
  extract_lets of _ _ s1
  have erased : s.Kept s1 := .of_eq rfl rfl rfl
  refine erased.trans ?_
  split
  · exact blow_kept.trans takeReset_kept
  · exact .refl

theorem startUp_kept {s : State} {cause sub : Nat} {lost : Bool} {tests : BitVec 12} {bootT recovT : Nat} :
    s.Kept (s.startUp cause sub lost tests bootT recovT) := by
  unfold State.startUp
  extract_lets t _ s1 s2 s3 _ s4 s5 s6 s7 s8
  have told : s.Steady s3 := .trans (t := s2) rfl raise_steady
  have read : s3.Steady s5 := .trans (t := s4) rfl <| .ite rfl .refl
  have tested : s5.Steady s7 := loadSettings_steady.trans <| loadInputs_steady.trans <| loadKeys_steady.trans <|
    testSram_steady.trans testSram_steady
  exact .ite (.trans (.of_steady enterSafe_steady) takeReset_kept) <| .trans (.of_steady told) <| .ite (.of_steady stayInBoot_steady) <|
    .trans (.of_steady <| read.trans tested) <| testBank_kept.trans <| testBank_kept.trans <| .of_steady bootImage_steady

theorem activate_steady {s : State} : s.Steady (s.activate).1 :=
  .iteFst (imageActivate_steady.trans <| .trans (by rfl) <| .trans (by rfl) bootImage_steady) imageActivate_steady

/-! ### Registers and tables -/

theorem closeJob_steady {s : State} {p : Nat} {a : Assembler} : s.Steady (s.closeJob p a) :=
  .ite report_steady <| report_steady.trans batch_steady

theorem jobWord_steady {s : State} {p : Nat} {w : Word} : s.Steady (s.jobWord p w) :=
  onPort_steady.trans <| .ite closeJob_steady <| .ite onPort_steady <| .ite onPort_steady .refl

theorem takeEvents_steady {s : State} {p : Nat} {ids : List Nat} : s.Steady (s.takeEvents p ids) := rfl

theorem popEvent_steady {s : State} {p : Nat} : s.Steady (s.popEvent p).2 := by
  rw [State.popEvent]
  split
  · exact onPort_steady
  · split
    · exact takeEvents_steady.trans onPort_steady
    · exact .refl

theorem tableWord_steady {s : State} {o : Obj} {k : Nat} : s.Steady (s.tableWord o k).2 := by
  unfold State.tableWord
  extract_lets a held r
  split
  · exact .iteSnd probeRead_steady .refl
  · exact .iteSnd takeFresh_steady .refl
  · exact .iteSnd takeFresh_steady .refl
  · exact .iteSnd takeFresh_steady .refl
  · exact .refl

theorem readTable_steady {s : State} {p a : Nat} : s.Steady (s.readTable p a).2 := by
  rw [State.readTable]
  split
  · exact .iteSnd tableWord_steady noteAccess_steady
  · exact noteAccess_steady

theorem advance_steady {s : State} {p : Nat} {always : Bool} : s.Steady (s.advance p always) := rfl

theorem readData_steady {s : State} {p : Nat} {always : Bool} : s.Steady (s.readData p always).2 :=
  readTable_steady.trans advance_steady

theorem writeShadow_steady {s : State} {p a : Nat} {w : Word} : s.Steady (s.writeShadow p a w).1 :=
  .iteFst .refl <| .iteFst .refl <| .iteFst .refl <| .trans (by rfl) onPort_steady

theorem writePlain_steady {s : State} {a : Nat} {w : Word} : s.Steady (s.writePlain a w).1 := .iteFst .refl setWord_steady

theorem writeOt_steady {s : State} {p : Nat} {tbl : Bool} {held mask w : Word} : s.Steady (s.writeOt p tbl held mask w).1 :=
  .ite .refl noteAccess_steady

theorem writeLaneWord_steady {s : State} {i k : Nat} {w : Word} : s.Steady (s.writeLaneWord i k w).1 := by
  rw [State.writeLaneWord]
  refine .iteFst (.iteFst .refl writePlain_steady) <| .iteFst ?_ .refl
  split
  · exact .refl
  · exact askStop_steady
  · exact .refl

theorem writePower_steady {s : State} {k : Nat} {w : Word} : s.Steady (s.writePower k w).1 :=
  .iteFst .refl <| .iteFst (writePlain_steady.trans writeGoOff_steady) writePlain_steady

theorem writeWelt_steady {s : State} {k : Nat} {w : Word} : s.Steady (s.writeWelt k w).1 :=
  .iteFst writePlain_steady <| .iteFst onWelt_steady .refl

theorem writeLookup_steady {s : State} {b k : Nat} {w : Word} : s.Steady (s.writeLookup b k w).1 :=
  .iteFst onWelt_steady <| .iteFst (.iteFst .refl <| .iteFst .refl <| onWelt_steady.trans <|
    .iteFst lookupStart_steady .refl) .refl

theorem imageCmd_steady {s : State} {p : Nat} {w : Word} : s.Steady (s.imageCmd p w).1 := by
  rw [State.imageCmd]
  split
  · exact imageBegin_steady
  · exact activate_steady
  · exact imageConfirm_steady
  · exact imageAbort_steady
  · exact .refl

theorem writeOtp_steady {s : State} {p k : Nat} {w : Word} : s.Steady (s.writeOtp p k w).1 :=
  .iteFst rfl <| .iteFst otpOp_steady <| .iteFst rfl .refl

theorem writeDir_steady {s : State} {p e k : Nat} {w : Word} : s.Steady (s.writeDir p e k w).1 :=
  .iteFst (.iteFst setDir_steady .refl) <| .iteFst (.iteFst setDir_steady .refl) <| .iteFst assetOp_steady <|
    .iteFst assetPort_steady .refl

theorem writeScan_steady {s : State} {x : Nat} {w : Word} : s.Steady (s.writeScan x w).1 := by
  unfold State.writeScan
  have plain : s.Steady (s.writePlain (0x10000 * (x + 1) + 0x40) w).1 := writePlain_steady
  generalize s.writePlain (0x10000 * (x + 1) + 0x40) w = r at plain ⊢
  exact .iteFst plain <| .iteFst (plain.trans scanAbandon_steady) plain

theorem encCmd_steady {s : State} {n : Nat} {w : Word} : s.Steady (s.encCmd n w) :=
  .trans (.ite encArm_steady .refl) <| .trans (.ite encZero_steady .refl) <| .ite encClr_steady .refl

theorem prbCmd_steady {s : State} {r : Nat} {w : Word} : s.Steady (s.prbCmd r w) :=
  .trans (.ite onPrb_steady .refl) <| .trans (.ite onPrb_steady .refl) <| .ite onPrb_steady .refl

theorem writeObject_steady {s : State} {p : Nat} {o : Obj} {k : Nat} {w : Word} : s.Steady (s.writeObject p o k w).1 := by
  unfold State.writeObject
  extract_lets a
  split
  · exact writeOt_steady
  · exact writePlain_steady
  · exact writeLaneWord_steady
  · exact .iteFst .refl writePower_steady
  · exact writeWelt_steady
  · exact writeLookup_steady
  · exact .iteFst imageCmd_steady <| .iteFst imagePort_steady .refl
  · exact .iteFst writeOt_steady .refl
  · exact writeOtp_steady
  · exact writeDir_steady
  · exact .iteFst writeScan_steady .refl
  · exact .iteFst writeShankCtl_steady <| .iteFst writeLimit_steady <| .iteFst writeOt_steady .refl
  · exact .iteFst writeLimit_steady <| .iteFst writeGrel_steady .refl
  · exact .iteFst encCmd_steady .refl
  · exact .iteFst ssiClr_steady .refl
  · exact .iteFst prbCmd_steady .refl
  · exact .refl

theorem writeTable_steady {s : State} {p a : Nat} {w : Word} : s.Steady (s.writeTable p a w).1 := by
  rw [State.writeTable]
  refine .iteFst .refl ?_
  split
  · exact .refl
  · exact .iteFst .refl <| .iteFst .refl <| .iteFst writeShadow_steady writeObject_steady

theorem writeData_steady {s : State} {p : Nat} {always : Bool} {w : Word} : s.Steady (s.writeData p always w).1 :=
  .trans (.ite writeTable_steady <| writeTable_steady.trans refuse_steady) advance_steady

theorem fallAlert_steady {s : State} : s.Steady s.fallAlert := rfl

theorem fallBack_steady {s : State} {p : Nat} : s.Steady (s.fallBack p) :=
  fallAlert_steady.trans <| onPort_steady.trans raise_steady

theorem writeLinkCtl_steady {s : State} {p : Nat} {rsp : Option (Bool × Nat × Nat)} {w : Word} : s.Steady (s.writeLinkCtl p rsp w).1 :=
  .iteFst .refl <| .iteFst .refl <| onPort_steady.trans <| .ite .refl <| .ite fallBack_steady fallAlert_steady

theorem clearCounts_steady {s : State} : s.Steady s.clearCounts := rfl

theorem writeDevStat_steady {s : State} {w : Word} : s.Steady (s.writeDevStat w) :=
  .trans (.ite onDev_steady .refl) <| .ite clearCounts_steady .refl

theorem writeAlert_steady {s : State} {w : Word} : s.Steady (s.writeAlert w) := rfl

theorem writeTblCtl_steady {s : State} {p : Nat} {w : Word} : s.Steady (s.writeTblCtl p w).1 :=
  .iteFst .refl <| .iteFst (.iteFst (commit_steady.trans onPort_steady) .refl) <|
    .iteFst (discard_steady.trans onPort_steady) onPort_steady

theorem writeStitchCtl_kept {s : State} {w : Word} : s.Kept (s.writeStitchCtl w).1 := by
  unfold State.writeStitchCtl
  split
  · exact .refl
  · next ok =>
    simp only [levelOk, Bool.not_eq_true', Bool.and_eq_false_iff, decide_eq_false_iff_not, not_or, not_not] at ok
    dsimp only
    refine onStitch_kept ?_
    rintro ⟨x, xNext, -⟩
    exact ⟨x, xNext, ok.1⟩

theorem writeStretch_steady {s : State} {w : Word} : s.Steady (s.writeStretch w).1 := .iteFst .refl rfl

theorem writeLock_steady {s : State} {p : Nat} {w : Word} : s.Steady (s.writeLock p w) :=
  writeOt_steady.trans <| .ite (.ite .refl noteAccess_steady) <| .trans (by rfl) onShank_steady

theorem writeTherm_steady {s : State} {w : Word} : s.Steady (s.writeTherm w) := rfl

theorem writeFlashCtl_steady {s : State} {w : Word} : s.Steady (s.writeFlashCtl w).1 :=
  .iteFst .refl <| .iteFst .refl <| .iteFst .refl <| .trans (.ite writeScrubNow_steady .refl) <|
    .trans (.ite writeSave_steady .refl) rfl

theorem writeBist_steady {s : State} {w : Word} : s.Steady (s.writeBist w).1 := .iteFst .refl <| .iteFst startBist_steady rfl

theorem writeAux_steady {s : State} {k off : Nat} {w : Word} : s.Steady (s.writeAux k off w).1 :=
  .iteFst writeAuxCtl_steady <| .iteFst onAux_steady <| .iteFst writeAuxTx_steady .refl

theorem readAux_steady {s : State} {k off : Nat} : s.Steady (s.readAux k off).2 :=
  .iteSnd .refl <| .iteSnd .refl <| .iteSnd .refl readAuxRx_steady

theorem readReg_steady {s : State} {p r : Nat} : s.Steady (s.readReg p r).2 := by
  unfold State.readReg
  split
  · exact popEvent_steady
  · exact readData_steady
  · exact .iteSnd (takeFresh_steady.trans takeFresh_steady) .refl
  iterate 8 exact readAux_steady
  exact .iteSnd noteAccess_steady .refl

theorem writeProtLevel_kept {s : State} {p : Nat} {rsp : Option (Bool × Nat × Nat)} {w : Word} : s.Kept (s.writeProtLevel p rsp w).s := by
  have kept := writeProt_kept (s := s) (p := p) (key := bits w 35 24) (target := bits w 1 0) (rsp := rsp)
  rw [State.writeProtLevel]
  split
  · next written => exact .trans (written ▸ kept : s.ProtKept (.done _)) <| .of_steady writeOt_steady
  · next written => exact .trans (written ▸ kept : s.ProtKept (.wait _)) <| .of_steady writeOt_steady
  · exact .refl

theorem writeDirect_kept {s : State} {p r : Nat} {w : Word} {rsp : Option (Bool × Nat × Nat)} :
    s.Kept (s.writeDirect p r w rsp).s := by
  unfold State.writeDirect
  extract_lets done
  split
  · exact .of_steady writeOt_steady
  · exact .of_steady writeLinkCtl_steady
  · exact .of_steady onPort_steady
  · exact .of_steady writeDevStat_steady
  · exact .of_steady onPort_steady
  · exact .of_steady writeAlert_steady
  · exact .of_steady jobWord_steady
  · exact .of_steady onPort_steady
  · exact .of_steady writeData_steady
  · exact .of_steady writeTblCtl_steady
  · exact writeStitchCtl_kept
  · exact writePeriod_kept
  · exact .of_steady writeStretch_steady
  · exact .of_steady laneOwn_steady
  · exact .of_steady onShank_steady
  · exact .of_steady writeLock_steady
  · exact .of_steady writeTherm_steady
  · exact .of_steady onSup_steady
  · exact .of_steady writeFlashCtl_steady
  · exact .of_steady rfl
  · exact writeProtLevel_kept
  iterate 8 exact .of_steady writeAux_steady
  · exact .of_steady writeBist_steady
  · exact .of_steady onDev_steady
  all_goals exact .refl

theorem writeReg_kept {s : State} {p r : Nat} {w : Word} {rsp : Option (Bool × Nat × Nat)} : s.Kept (s.writeReg p r w rsp).s := by
  rw [State.writeReg]
  split
  · exact writeDirect_kept
  · exact writeDirect_kept.trans <| .of_steady refuse_steady

/-! ### Link -/

theorem countError_steady {s : State} {p : Nat} : s.Steady (s.countError p) :=
  .ite .refl <| onPort_steady.trans <| .ite fallBack_steady .refl

theorem discardFrame_steady {s : State} {p : Nat} {crc ctl emerg : Bool} : s.Steady (s.discardFrame p crc ctl emerg) :=
  onPort_steady.trans countError_steady

theorem ackBefore_steady {s : State} {p : Nat} {emerg : Bool} {seq : BitVec 8} : s.Steady (s.ackBefore p emerg seq) := by
  rw [State.ackBefore]
  split
  · exact .refl
  · exact .ite .refl <| onPort_steady.trans takeEvents_steady

theorem secondAttempt_steady {s : State} {p : Nat} {emerg : Bool} {skip : Nat} : s.Steady (s.secondAttempt p emerg skip) := by
  rw [State.secondAttempt]
  split
  · exact .refl
  · exact .ite (onPort_steady.trans raise_steady) onPort_steady

theorem enterUp_steady {s : State} {p : Nat} : s.Steady (s.enterUp p) :=
  onPort_steady.trans <| .trans (.ite raise_steady .refl) onPort_steady

theorem heard_steady {s : State} {p : Nat} : s.Steady (s.heard p) := onPort_steady.trans <| .ite enterUp_steady .refl

theorem freshLink_steady {s : State} {p rev : Nat} : s.Steady (s.freshLink p rev) :=
  onEv_steady.trans <| onPort_steady.trans <| discard_steady.trans <| imageDropped_steady.trans <|
    .foldl fun _ _ => assetFail_steady

theorem helloAck_steady {s : State} {p window maxlen rev div : Nat} {cont : Bool} :
    s.Steady (s.helloAck p window maxlen rev div cont) := rfl

theorem hello_steady {s : State} {p : Nat} {w0 w1 : Word} : s.Steady (s.hello p w0 w1) :=
  heard_steady.trans <| .trans (.ite onPort_steady .refl) <| .ite (takeFresh_steady.trans <| takeFresh_steady.trans <|
    takeFresh_steady.trans helloAck_steady) <| .trans (.ite ackBefore_steady freshLink_steady) <| onPort_steady.trans <|
    helloAck_steady.trans <| .ite (.ite enterUp_steady onPort_steady) onPort_steady

theorem ackFrame_steady {s : State} {p : Nat} {emerg : Bool} {ackseq : BitVec 8} : s.Steady (s.ackFrame p emerg ackseq) :=
  heard_steady.trans <| .ite .refl <| ackBefore_steady.trans <| .ite onPort_steady .refl

theorem nakFrame_steady {s : State} {p : Nat} {emerg : Bool} {ackseq : BitVec 8} : s.Steady (s.nakFrame p emerg ackseq) := by
  unfold State.nakFrame
  extract_lets s1 e s2
  have acked : s1.Steady s2 := .ite .refl ackBefore_steady
  refine heard_steady.trans <| .ite .refl <| acked.trans ?_
  split
  · exact .ite secondAttempt_steady .refl
  · exact .refl

theorem syncNumbers_steady {s : State} {p : Nat} {w : Word} : s.Steady (s.syncNumbers p w) :=
  ackBefore_steady.trans <| ackBefore_steady.trans onPort_steady

theorem syncFrame_steady {s : State} {p : Nat} {w : Word} : s.Steady (s.syncFrame p w) :=
  heard_steady.trans <| .ite .refl <| onPort_steady.trans <| syncNumbers_steady.trans <| .ite onPort_steady .refl

theorem syncAckFrame_steady {s : State} {p : Nat} {w : Word} : s.Steady (s.syncAckFrame p w) :=
  heard_steady.trans <| .ite (syncNumbers_steady.trans <| onPort_steady.trans enterUp_steady) .refl

theorem opBegin_steady {s : State} {p seq j : Nat} : s.Steady (s.opBegin p seq j) := rfl

theorem tblBegin_steady {s : State} {p seq : Nat} {w : Word} : s.Steady (s.tblBegin p seq w) := rfl

theorem ackAlone_steady {s : State} {p : Nat} {emerg : Bool} : s.Steady (s.ackAlone p emerg) := rfl

/-- What is done word by word keeps what every word's part keeps. -/
theorem ranFold_kept {α : Type} {f : Ran → α → Ran} {l : List α} {r : Ran} (h : ∀ (r : Ran) a, r.s.Kept (f r a).s) :
    r.s.Kept (l.foldl f r).s := by
  induction l generalizing r with
  | nil => exact .refl
  | cons a l ih => exact (h r a).trans ih

theorem runReads_kept {p seq : Nat} {r : Ran} {ops : List (Word × Nat)} : r.s.Kept (runReads p seq r ops).s :=
  ranFold_kept fun _ _ => .of_steady <| opBegin_steady.trans readReg_steady

theorem runWrites_kept {p seq : Nat} {emerg : Bool} {r : Ran} {ops : List ((Word × Word) × Nat)} :
    r.s.Kept (runWrites p seq emerg r ops).s :=
  ranFold_kept fun _ _ => .trans (.of_steady opBegin_steady) writeReg_kept

theorem jobWrWord_steady {r : Ran} {p seq : Nat} {outcome : Bool} {w : Word} : r.s.Steady (r.jobWrWord p seq outcome w).s := by
  rw [Ran.jobWrWord]
  split
  · exact onPort_steady.trans jobWord_steady
  · exact jobWord_steady

theorem runJobWords_kept {p seq : Nat} {outcome : Bool} {r : Ran} {ops : List (Word × Nat)} :
    r.s.Kept (runJobWords p seq outcome r ops).s :=
  ranFold_kept fun r o => .of_steady <| opBegin_steady.trans <|
    jobWrWord_steady (r := { r with s := r.s.opBegin p seq o.2 })

theorem runTblReads_kept {p seq : Nat} {r : Ran} {ops : List Nat} : r.s.Kept (runTblReads p seq r ops).s :=
  ranFold_kept fun _ _ => .of_steady <| opBegin_steady.trans readData_steady

theorem runTblWrites_kept {p seq : Nat} {r : Ran} {ops : List (Word × Nat)} : r.s.Kept (runTblWrites p seq r ops).s :=
  ranFold_kept fun _ _ => .of_steady <| opBegin_steady.trans writeData_steady

theorem run_kept {s : State} {p typ seq : Nat} {emerg outcome : Bool} {ws : List Word} :
    s.Kept (s.run p typ seq emerg outcome ws).s := by
  rw [State.run]
  split
  · exact runReads_kept (r := ⟨s, [], 0, 0, 0, false⟩)
  · split
    · exact runWrites_kept (r := ⟨s, [], 0, 0, 0, false⟩)
    · split
      · exact runJobWords_kept (r := ⟨s, [], 0, 0, 0, false⟩)
      · refine .trans (t := s.tblBegin p seq (ws.headD 0)) (.of_steady tblBegin_steady) ?_
        split
        · exact runTblReads_kept (r := ⟨s.tblBegin p seq (ws.headD 0), [], 0, 0, 0, false⟩)
        · exact runTblWrites_kept (r := ⟨s.tblBegin p seq (ws.headD 0), [], 0, 0, 0, false⟩)

theorem runRequest_kept {s : State} {p typ seq : Nat} {emerg outcome bad : Bool} {ws : List Word} :
    s.Kept (s.runRequest p typ seq emerg outcome bad ws) :=
  .trans (.ite (.of_steady queueRsp_steady) <| .ite (.of_steady queueRsp_steady) <| run_kept.trans <| .ite (.of_steady onPort_steady) <|
    .ite .refl <| .of_steady queueRsp_steady) <| .of_steady ackAlone_steady

theorem frame_kept {s : State} {p typ : Nat} {emerg outcome bad : Bool} {seq ackseq : BitVec 8} {ws : List Word} :
    s.Kept (s.frame p typ emerg outcome bad seq ackseq ws) :=
  .ite (.of_steady discardFrame_steady) <| .trans (.of_steady heard_steady) <| .ite .refl <|
    .trans (.of_steady ackBefore_steady) <| .ite (.trans (.of_steady onPort_steady) runRequest_kept) <| .of_steady <|
    .ite onPort_steady <| onPort_steady.trans <| .ite .refl countError_steady

theorem afterRsp_steady {s : State} {p : Nat} {f : Frame} : s.Steady (s.afterRsp p f) := by
  rw [State.afterRsp]
  split
  · exact .ite fallBack_steady .refl
  · exact .refl

theorem sendEvents_steady {s : State} {p : Nat} {emerg : Bool} {es : List Event} : s.Steady (s.sendEvents p emerg es) := rfl

theorem clearWire_steady {s : State} {p : Nat} : s.Steady (s.clearWire p) := rfl

theorem sendEmerg_steady {s : State} {p : Nat} : s.MaySteady (s.sendEmerg p) := by
  rw [State.sendEmerg]
  refine .ite .none ?_
  split
  · exact .some <| onPort_steady.trans afterRsp_steady
  · exact .ite .none <| .some sendEvents_steady

/-! ### Receiver -/

theorem receive_kept {s : State} {p : Nat} {f : HostFrame} : s.Kept (s.receive p f) :=
  .ite (.of_steady hello_steady) <| .ite (.of_steady heard_steady) <| .ite (.of_steady ackFrame_steady) <|
    .ite (.of_steady nakFrame_steady) <| .ite (.of_steady syncFrame_steady) <| .ite (.of_steady syncAckFrame_steady) frame_kept

theorem hunt_kept {s : State} {p n : Nat} : s.Kept (hunt p n s) := by
  induction n generalizing s with
  | zero => exact .refl
  | succ n ih =>
    rw [State.hunt]
    split
    · exact .refl
    · exact .trans (.of_steady onPort_steady) ih
    · exact .trans (.of_steady <| onPort_steady.trans discardFrame_steady) ih
    · exact .trans (.of_steady onPort_steady) <| receive_kept.trans ih

theorem takeChars_kept {s : State} {p : Nat} : s.Kept (s.takeChars p) := .trans (.of_steady onPort_steady) <| .ite hunt_kept .refl

theorem breakOff_kept {s : State} {p n : Nat} : s.Kept (breakOff p n s) := by
  induction n generalizing s with
  | zero => exact .refl
  | succ n ih =>
    rw [State.breakOff]
    split
    · exact .refl
    · exact .trans (.of_steady <| onPort_steady.trans discardFrame_steady) <| hunt_kept.trans ih

theorem arrive_kept {s : State} {p : Nat} : s.Kept (s.arrive p) := takeChars_kept.trans breakOff_kept

end Sys2Proof.Machine.State
end

section
/-!
PROOFS. What every command keeps: the commands.
-/

namespace Sys2Proof.Machine.State

theorem execStore_keeps {s : State} {port : Fin 2} {entry : BitVec 12} {kind : BitVec 4} {place : BitVec 2} {size : BitVec 20} :
    s.Keeps (execStore port entry kind place size s) :=
  .answer <| .of_steady assetStore_steady

theorem execRepair_keeps {s : State} {port : Fin 2} {entry : BitVec 12} {size : BitVec 20} : s.Keeps (execRepair port entry size s) :=
  .answer <| .of_steady assetRepair_steady

theorem execDelete_keeps {s : State} {port : Fin 2} {entry : BitVec 12} : s.Keeps (execDelete port entry s) :=
  .answer <| .of_steady assetDelete_steady

theorem execAssetAbort_keeps {s : State} {port : Fin 2} {entry : BitVec 12} : s.Keeps (execAssetAbort port entry s) :=
  .answer <| .of_steady assetAbort_steady

theorem execAssetPortWrite_keeps {s : State} {port : Fin 2} {entry : BitVec 12} {word : Word} :
    s.Keeps (execAssetPortWrite port entry word s) :=
  .answer <| .of_steady assetPort_steady

theorem execAssetVerifyDone_keeps {s : State} {entry : BitVec 12} : s.Keeps (execAssetVerifyDone entry s) :=
  .steady <| .ite assetVerified_steady .refl

theorem execAssetIdleTimeout_keeps {s : State} {entry : BitVec 12} : s.Keeps (execAssetIdleTimeout entry s) :=
  .ite (.steady assetFail_steady) <| .next .refl

theorem execBatchResolve_keeps {s : State} : s.Keeps (execBatchResolve s) := .steady resolve_steady

theorem execDecisionPacing_keeps {s : State} : s.Keeps (execDecisionPacing s) := .steady <| onJobs_steady.trans resolve_steady

theorem execClaim_keeps {s : State} {port : Fin 2} {mask : BitVec 19} : s.Keeps (execClaim port mask s) :=
  .answer <| .of_steady laneOwn_steady

theorem execRelease_keeps {s : State} {port : Fin 2} {mask : BitVec 19} : s.Keeps (execRelease port mask s) :=
  .answer <| .of_steady laneOwn_steady

theorem execEncCount_keeps {s : State} {enc : Fin 8} {a b : Bool} : s.Keeps (execEncCount enc a b s) :=
  .after (.of_steady onEnc_steady) <| .steady <| .ite .refl <| .ite (.ite .refl <| .ite encFault_steady onEnc_steady) onEnc_steady

theorem execEncIndex_keeps {s : State} {enc : Fin 8} {level : Bool} {ph : BitVec 12} : s.Keeps (execEncIndex enc level ph s) :=
  .after (.of_steady onEnc_steady) <| .ite (.next .refl) <| .after (.of_steady indexCheck_steady) <|
    .after (.of_steady onEnc_steady) <| .steady indexHomes_steady

theorem execQuadWindowEnd_keeps {s : State} {enc : Fin 8} : s.Keeps (execQuadWindowEnd enc s) :=
  .steady <| .ite onEnc_steady .refl

theorem execEncArm_keeps {s : State} {port : Fin 2} {enc : Fin 8} : s.Keeps (execEncArm port enc s) := .steady encArm_steady

theorem execEncZero_keeps {s : State} {port : Fin 2} {enc : Fin 8} : s.Keeps (execEncZero port enc s) := .steady encZero_steady

theorem execEncClr_keeps {s : State} {port : Fin 2} {enc : Fin 8} : s.Keeps (execEncClr port enc s) := .steady encClr_steady

theorem execSsiTransferEnd_keeps {s : State} {ssi : Fin 2} {bs : List Bool} : s.Keeps (execSsiTransferEnd ssi bs s) := by
  unfold execSsiTransferEnd
  extract_lets p q c
  split
  · exact .next .refl
  · dsimp only
    split
    · exact .steady <| onSsi_steady.trans <| onSsi_steady.trans ssiConfs_steady
    · exact .steady <| onSsi_steady.trans <| onSsi_steady.trans <| .ite ssiFault_steady .refl

theorem execSsiRepeat_keeps {s : State} {ssi : Fin 2} {ph : BitVec 12} : s.Keeps (execSsiRepeat ssi ph s) :=
  .steady <| .ite ssiStart_steady .refl

theorem execSsiClr_keeps {s : State} {port ssi : Fin 2} : s.Keeps (execSsiClr port ssi s) := .steady ssiClr_steady

theorem execCntEdge_keeps {s : State} {cnt : Fin 16} {level : Bool} {us : BitVec 20} : s.Keeps (execCntEdge cnt level us s) :=
  .steady rfl

theorem execProbeCapture_keeps {s : State} {prb : Fin 4} {ph : BitVec 12} {rise : Bool} : s.Keeps (execProbeCapture prb ph rise s) :=
  .after (.of_steady onPrb_steady) <| .ite (.next .refl) <| .ite (.steady onPrb_steady) <| .after (.of_steady onPrb_steady) <|
    .steady <| .ite askStop_steady .refl

theorem execProbeArm_keeps {s : State} {port : Fin 2} {prb : Fin 4} : s.Keeps (execProbeArm port prb s) := .steady onPrb_steady

theorem execProbeDisarm_keeps {s : State} {port : Fin 2} {prb : Fin 4} : s.Keeps (execProbeDisarm port prb s) :=
  .steady onPrb_steady

theorem execProbeFlush_keeps {s : State} {port : Fin 2} {prb : Fin 4} : s.Keeps (execProbeFlush port prb s) :=
  .steady onPrb_steady

theorem execProbeStampRead_keeps {s : State} {port : Fin 2} {prb : Fin 4} : s.Keeps (execProbeStampRead port prb s) :=
  .steady <| probeRead_steady.trans onPort_steady

theorem execBridgeFault_keeps {s : State} {bridge : Fin 24} {site : ProbeAt × Fin 4} {reading : Bool × BitVec 16 × BitVec 16} :
    s.Keeps (execBridgeFault bridge site reading s) := by
  rw [execBridgeFault]
  refine .steady ?_
  split
  · exact bridgeDetect_steady
  · exact .refl

theorem execBridgeRecover_keeps {s : State} {bridge : Fin 24} : s.Keeps (execBridgeRecover bridge s) :=
  .steady <| .ite .refl <| .ite onBr_steady bridgeEnable_steady

theorem execBridgeConfirmEnd_keeps {s : State} {bridge : Fin 24} : s.Keeps (execBridgeConfirmEnd bridge s) := by
  rw [execBridgeConfirmEnd]
  refine .steady ?_
  split
  · exact .ite .refl <| .ite bridgePass_steady onBr_steady
  · exact .refl

theorem execChopperTrip_keeps {s : State} {bridge : Fin 24} {code : BitVec 12} : s.Keeps (execChopperTrip bridge code s) :=
  .ite (.next .refl) <| .after (.of_steady onBr_steady) <| .steady <| .ite bridgePass_steady .refl

theorem execChopperOffEnd_keeps {s : State} {bridge : Fin 24} : s.Keeps (execChopperOffEnd bridge s) :=
  .steady <| .ite newPeriod_steady .refl

theorem execFullDutyEnd_keeps {s : State} {bridge : Fin 24} {code : BitVec 12} {comm : Bool} :
    s.Keeps (execFullDutyEnd bridge code comm s) :=
  .ite (.next .refl) <| .after (.of_steady onBr_steady) <| .ite (.next .refl) <| .after (.of_steady onBr_steady) <| .steady <|
    .ite bridgeDetect_steady <| .ite bridgeDetect_steady <| .ite headroomAt_steady .refl

theorem execPwmPeriod_keeps {s : State} {bridge : Fin 24} {code : BitVec 12} : s.Keeps (execPwmPeriod bridge code s) :=
  .ite (.next .refl) <| .after (.of_steady onBr_steady) <| .after (.of_steady <| .ite slewV_steady .refl) <|
    .steady newPeriod_steady

theorem execDcRunEnd_keeps {s : State} {bridge : Fin 24} : s.Keeps (execDcRunEnd bridge s) := by
  rw [execDcRunEnd]
  split
  · exact .next .refl
  · exact .ite (.next .refl) <| .after (.of_steady onAx_steady) <| .after (.of_steady onBr_steady) <| .steady endRunning_steady

theorem execSolProfileStart_keeps {s : State} {chan : Fin 32} : s.Keeps (execSolProfileStart chan s) := by
  rw [execSolProfileStart]
  split
  · exact .next .refl
  · exact .steady <| .ite .refl <| .ite deferStart_steady beginProfile_steady

theorem execSolTrip_keeps {s : State} {chan : Fin 32} {code : BitVec 10} {us : BitVec 24} : s.Keeps (execSolTrip chan code us s) :=
  .ite (.next .refl) <| .after (.of_steady onChan_steady) <| .steady <| .ite nextSeg_steady .refl

theorem execSolPwmPeriod_keeps {s : State} {chan : Fin 32} {duty : BitVec 10} {us : BitVec 24} {ph : BitVec 12} :
    s.Keeps (execSolPwmPeriod chan duty us ph s) :=
  .ite (.next .refl) <| .after (.of_steady onChan_steady) <| .after (.of_steady kink_steady) <| .steady <|
    .ite .refl onChan_steady

theorem execDipSample_keeps {s : State} {chan : Fin 32} {code : BitVec 10} {us : BitVec 24} {ph : BitVec 12} :
    s.Keeps (execDipSample chan code us ph s) :=
  .ite (.next .refl) <| .after (.of_steady onChan_steady) <| .steady <| .ite closed_steady <| .ite onChan_steady .refl

theorem execSegmentTmax_keeps {s : State} {chan : Fin 32} {us : BitVec 24} {vs : BitVec 9} : s.Keeps (execSegmentTmax chan us vs s) :=
  .ite (.steady releaseCheck_steady) <| .ite (.next .refl) <| .steady <| .ite nextSeg_steady <|
    .ite (noPeak_steady.trans miss_steady) <| .ite (.trans (.ite .refl noPeak_steady) <| notClosed_steady.trans miss_steady) <|
    onChan_steady.trans nextSeg_steady

theorem execSegmentStitchEnd_keeps {s : State} {chan : Fin 32} : s.Keeps (execSegmentStitchEnd chan s) :=
  .steady <| .ite nextSeg_steady .refl

theorem execSolReleaseDetect_keeps {s : State} {chan : Fin 32 × BitVec 10 × BitVec 9 × BitVec 9} : s.Keeps (execSolReleaseDetect chan s) :=
  .steady <| .ite (onChan_steady.trans endSol_steady) .refl

theorem execSolFault_keeps {s : State} {chan : Fin 32} {probe : Probe} {nh nl : BitVec 9} : s.Keeps (execSolFault chan probe nh nl s) :=
  .ite (.next .refl) <| .ite (.steady <| .ite onChan_steady .refl) <| .ite (.next .refl) <| .ite (.steady solLasting_steady) <|
    .steady onChan_steady

theorem execSolRecover_keeps {s : State} {chan : Fin 32} : s.Keeps (execSolRecover chan s) := .steady solResume_steady

theorem execSolConfirmEnd_keeps {s : State} {chan : Fin 32} : s.Keeps (execSolConfirmEnd chan s) :=
  .steady <| .ite onChan_steady .refl

theorem execOffStateCheckDone_keeps {s : State} {chan : Fin 32} {nh1 nl1 nh2 nl2 vs : BitVec 9} {ofs : BitVec 12} :
    s.Keeps (execOffStateCheckDone chan nh1 nl1 nh2 nl2 vs ofs s) :=
  .ite (.next .refl) <| .after (.of_steady <| .ite onChan_steady .refl) <| .ite (.steady onChan_steady) <|
    .ite (.steady onChan_steady) <| .ite (.steady solFinal_steady) <| .steady solFinal_steady

theorem execOnStateCheckDone_keeps {s : State} {chan : Fin 32} {code : BitVec 10} {nh : BitVec 9} {low : BitVec 9 × BitVec 9} :
    s.Keeps (execOnStateCheckDone chan code nh low s) :=
  .ite (.next .refl) <| .ite (.steady onChan_steady) <| .steady solFinal_steady

theorem execCoilModelUpdate_keeps {s : State} {chan : Fin 32} {isq : BitVec 20} {mv ma : BitVec 16} :
    s.Keeps (execCoilModelUpdate chan isq mv ma s) :=
  .ite (.next .refl) <| .after (.of_steady onChan_steady) <| .after (.of_steady onChan_steady) <| .after (.of_steady <|
    .ite onChan_steady .refl) <| .after (.of_steady onChan_steady) <| .after (.of_steady coilFlags_steady) <| .steady <|
    .ite hotCut_steady .refl

theorem execLayout_keeps {s : State} {head : Fin 2} {found : Bool × Option (Fin 2 × BitVec 20)} : s.Keeps (execLayout head found s) := by
  rw [execLayout]
  split
  · exact .next .refl
  · refine .ite (.next .refl) ?_
    refine .after ?_ <| .ite (.next .refl) <| .after (.of_steady <| .ite onDev_steady .refl) <| .steady layOut_steady
    refine .of_steady ?_
    split
    · exact layoutBad_steady
    · exact .refl

theorem execBandCommit_keeps {s : State} {head : Fin 2} : s.Keeps (execBandCommit head s) := by
  rw [execBandCommit]
  split
  · exact .next .refl
  · exact .ite (.next .refl) <| .after (.of_steady <| onHead_steady.trans onHead_steady) <| .after (.of_steady <|
      .ite commitLate_steady .refl) <| .after (.of_steady checkOverrun_steady) <| .steady <| .ite followCheck_steady .refl

theorem execLineStart_keeps {s : State} {head : Fin 2} {vh : BitVec 9} : s.Keeps (execLineStart head vh s) := by
  unfold execLineStart
  extract_lets x h
  split
  · exact .next .refl
  · split
    · extract_lets n s1 d want least t gap tint out w s2 s3 s4
      have grouped : s2.Steady s3 := .ite groupFrom_steady .refl
      have placed : s3.Steady s4 := afterLine_steady.trans checkOverrun_steady
      refine .steady <| onHead_steady.trans <| onHead_steady.trans <| grouped.trans <| placed.trans <| .ite ?_ .refl
      split
      · exact .ite stepAside_steady .refl
      · exact .refl
    · exact .steady <| onHead_steady.trans <| unplace_steady.trans holdShort_steady

theorem execVhSettleEnd_keeps {s : State} {head : Fin 2} {vh : BitVec 9} : s.Keeps (execVhSettleEnd head vh s) :=
  .after (.of_steady <| .ite .refl onHead_steady) <| .ite (.next .refl) <| .ite (.steady onHead_steady) <|
    .ite (.steady onHead_steady) <| .after (.of_steady onHead_steady) <| .steady <| .ite scanFailed_steady faultOne_steady

theorem execScanDot_keeps {s : State} {head : Fin 2} {valid : Bool} {rmeas : BitVec 20} {vh : BitVec 9} :
    s.Keeps (execScanDot head valid rmeas vh s) := by
  unfold execScanDot
  extract_lets x h d
  split
  · refine .ite (.next .refl) <| .after (.of_steady onHead_steady) <| .ite ?_ <| .ite (.steady scanFailed_steady) <|
      .steady <| onHead_steady.trans scanBoundary_steady
    dsimp only
    split
    · exact .steady <| setRmeas_steady.trans <| onHead_steady.trans <| onHead_steady.trans scanBoundary_steady
    · exact .steady <| setRmeas_steady.trans <| onHead_steady.trans scanDone_steady
  · exact .next .refl

theorem execBackgroundScanStart_keeps {s : State} {head : Fin 2} : s.Keeps (execBackgroundScanStart head s) :=
  .ite (.steady scanStart_steady) <| .next .refl

theorem execClickerRecover_keeps {s : State} {head : Fin 2} : s.Keeps (execClickerRecover head s) :=
  .ite (.steady <| .ite strokeBegin_steady backOff_steady) <| .next .refl

theorem execLastSliceEnd_keeps {s : State} {head : Fin 2} : s.Keeps (execLastSliceEnd head s) := by
  unfold execLastSliceEnd
  extract_lets x s1
  have gone : s.Kept s1 := .of_steady onHead_steady
  split
  · exact .next .refl
  · split
    · exact .next gone
    · exact .after gone <| .after (.of_steady <| .ite queueMark_steady .refl) <| .ite (.next .refl) <|
        .ite (.steady <| dropPrint_steady.trans <| .ite onHead_steady cutBegin_steady) <| .steady printEnded_steady

theorem execMsCycle_keeps {s : State} {ms : Fin 4} {lit : BitVec 12} {dark : BitVec 12 × BitVec 12} :
    s.Keeps (execMsCycle ms lit dark s) := by
  unfold execMsCycle
  extract_lets n s1 s2
  have works : s1.Steady s2 := by
    unfold s2
    split
    · exact .ite .refl <| .ite ledCycle_steady <| .ite learnCycle_steady .refl
    · exact .refl
  exact .ite (.next .refl) <| .steady <| onMs_steady.trans <| works.trans msSide_steady

theorem execCalRetry_keeps {s : State} {ms : Fin 4} : s.Keeps (execCalRetry ms s) := by
  rw [execCalRetry]
  split
  · exact .ite (.steady ledBegin_steady) <| .next .refl
  · exact .next .refl

theorem execSnsSample_keeps {s : State} {sns : Fin 8} {code : BitVec 12} : s.Keeps (execSnsSample sns code s) :=
  .after (.of_steady onSns_steady) <| .ite (.steady <| .ite onSns_steady .refl) <| .ite (.steady <|
    onSns_steady.trans sensorBroken_steady) <| .ite (.steady onSns_steady) <| .ite (.steady onSns_steady) <|
    .steady snsChange_steady

theorem execTicketTaken_keeps {s : State} {sns : Fin 8} : s.Keeps (execTicketTaken sns s) :=
  .ite (.steady <| onSns_steady.trans <| snsCount_steady.trans <| raise_steady.trans evidence_steady) <| .next .refl

theorem execMonitorSample_keeps {s : State} {group : Fin 58} {draws : Bool} {volts amps : BitVec 16} :
    s.Keeps (execMonitorSample group draws volts amps s) :=
  .after (.of_steady onGrp_steady) <| .after (.of_steady <| .ite (onGrp_steady.trans relHoldOver_steady) .refl) <|
    .after (.of_steady <| .ite trip_steady .refl) <| .steady <| .ite trip_steady .refl

theorem execEnergyBucket_keeps {s : State} {group : Fin 58} : s.Keeps (execEnergyBucket group s) := .steady onGrp_steady

theorem execOntime_keeps {s : State} {group : Fin 58} {elem : BitVec 4} : s.Keeps (execOntime group elem s) :=
  .steady <| .ite trip_steady .refl

theorem execStrobeLimit_keeps {s : State} {head : Fin 2} {elem : BitVec 4} {duty : Bool} : s.Keeps (execStrobeLimit head elem duty s) :=
  .steady trip_steady

theorem execStopInput_keeps {s : State} {low : Bool} : s.Keeps (execStopInput low s) :=
  .after (.of_steady onShank_steady) <| .steady <| .ite (onShank_steady.trans enterSafe_steady) .refl

theorem execDoorOpen_keeps {s : State} {isOpen : Bool} : s.Keeps (execDoorOpen isOpen s) :=
  .after (.of_steady onShank_steady) <| .steady <| .ite enterSafe_steady .refl

theorem execGrel_keeps {s : State} {port : Fin 2} {group : Fin 58} : s.Keeps (execGrel port group s) :=
  .answer <| beyondRev1_kept <| .of_steady writeGrel_steady

theorem execRel_keeps {s : State} {port : Fin 2} : s.Keeps (execRel port s) := .answer <| beyondRev1_kept <| .of_steady writeRel_steady

theorem execDisch_keeps {s : State} {port : Fin 2} : s.Keeps (execDisch port s) := .answer <| beyondRev1_kept <| .of_steady writeDisch_steady

theorem execDischargeUpdate_keeps {s : State} {vm vs : BitVec 9} : s.Keeps (execDischargeUpdate vm vs s) := by
  unfold execDischargeUpdate
  extract_lets e em es s1
  have estimated : s.Steady s1 := onShank_steady
  refine .steady <| estimated.trans ?_
  split
  · exact onShank_steady
  · exact .ite startDischarge_steady .refl
  · exact .refl

theorem execDischargeTimeout_keeps {s : State} : s.Keeps (execDischargeTimeout s) :=
  .steady <| .ite .refl <| onShank_steady.trans raise_steady

theorem execShankLimitWrite_keeps {s : State} {port : Fin 2} {addr : BitVec 24} {value : Word} :
    s.Keeps (execShankLimitWrite port addr value s) :=
  .ite (.answer <| .of_steady writeLimit_steady) <| .next .refl

theorem execTempSample_keeps {s : State} {input : Fin 18} {code : BitVec 12} : s.Keeps (execTempSample input code s) :=
  .ite (.after (.of_steady onTin_steady) <| .steady <| .ite dieSet_steady .refl) <| .ite (.steady <|
    onTin_steady.trans ntcSample_steady) <| .after (.of_steady onTin_steady) <| .after (.of_steady <| .ite tempBad_steady <|
    readTherm_steady.trans tempGood_steady) <| .steady inputUsers_steady

theorem execSensorRecheck_keeps {s : State} {input : Fin 18} {code : BitVec 12} : s.Keeps (execSensorRecheck input code s) :=
  .ite (.next .refl) <| .after (.of_steady onTin_steady) <| .ite (.steady <| .ite tempBroken_steady tempGood_steady) <|
    .ite (.steady <| tempBroken_steady.trans inputUsers_steady) <| .steady <| readTherm_steady.trans <|
    tempGood_steady.trans inputUsers_steady

theorem execSagAssert_keeps {s : State} {supply : Fin 4} {volts : BitVec 9} {win : BitVec 5} : s.Keeps (execSagAssert supply volts win s) :=
  .ite (.next .refl) <| .after (.of_steady onSup_steady) <| .after (.of_steady raise_steady) <| .steady <| .ite .refl <|
    groupFrom_steady.trans onHead_steady

theorem execVgdLow_keeps {s : State} : s.Keeps (execVgdLow s) :=
  .steady <| .ite .refl <| onSup_steady.trans <| vgdFaults_steady.trans vgdSols_steady

theorem execVgdClear_keeps {s : State} : s.Keeps (execVgdClear s) :=
  .ite (.next .refl) <| .after (.of_steady onSup_steady) <| .after (.of_steady <|
    .foldl fun _ _ => .ite newPeriod_steady .refl) <| .steady <| .foldl fun _ _ => solReleased_steady

theorem execVmLoss_keeps {s : State} : s.Keeps (execVmLoss s) :=
  .ite (.next .refl) <| .after (.of_steady onSup_steady) <| .steady <| .foldl fun _ _ => .ite onSup_steady <|
    .foldl fun _ _ => .ite uncertain_steady .refl

theorem execVmRearm_keeps {s : State} : s.Keeps (execVmRearm s) := .steady onSup_steady

theorem execWordProgramDone_keeps {s : State} {bank : Fin 2} {ok : Bool} : s.Keeps (execWordProgramDone bank ok s) := by
  rw [execWordProgramDone]
  split
  · exact .next .refl
  · exact .ite (.next .refl) <| .next <| .trans (.of_steady suspend_steady) pulseEnd_kept

theorem execEraseSliceEnd_keeps {s : State} {bank : Fin 2} {blank : Bool} : s.Keeps (execEraseSliceEnd bank blank s) := by
  rw [execEraseSliceEnd]
  split
  · exact .next .refl
  · exact .ite (.next .refl) <| .ite (.after (.of_steady <| .ite flashTransient_steady .refl) <| .steady sectorErased_steady) <|
      .ite (.steady onBank_steady) <| .ite (.steady onBank_steady) <| .after (.of_steady onBank_steady) <| .next <|
        .trans (.of_steady sectorLost_steady) lastingFlash_kept

theorem execEraseResume_keeps {s : State} {bank : Fin 2} : s.Keeps (execEraseResume bank s) := .steady <| .ite .refl onBank_steady

theorem execScrubPassStart_keeps {s : State} : s.Keeps (execScrubPassStart s) := .steady <| .ite rfl .refl

theorem execScrubRead_keeps {s : State} {bank : Fin 2} {addr : BitVec 21} {verdict : BitVec 2} :
    s.Keeps (execScrubRead bank addr verdict s) :=
  .ite (.next .refl) <| .after (.of_steady scrubAt_steady) <| .ite (.ite (.next .refl) <| .steady onBank_steady) <|
    .ite (.steady <| .ite journalBad_steady .refl) <| .ite (.next .refl) <| .ite (.steady scrubCorrectable_steady) <|
    .next scrubUncorrectable_kept

theorem execSramScrubTick_keeps {s : State} {bank : Fin 2} {verdict : BitVec 2} : s.Keeps (execSramScrubTick bank verdict s) :=
  .ite (.next .refl) <| .ite (.steady retireSram_steady) <| .ite (.steady onDev_steady) <| .next .refl

theorem execSave_keeps {s : State} {port : Fin 2} : s.Keeps (execSave port s) := .answer <| .of_steady writeSave_steady

theorem execScrubNow_keeps {s : State} {port : Fin 2} : s.Keeps (execScrubNow port s) :=
  .answer <| .of_steady writeScrubNow_steady

theorem execSaveDone_keeps {s : State} : s.Keeps (execSaveDone s) := by
  rw [execSaveDone]
  split
  · exact .ite (.next .refl) <| .steady rfl
  · exact .next .refl

theorem execAuxXferEnd_keeps {s : State} : s.Keeps (execAuxXferEnd s) := by
  rw [execAuxXferEnd]
  split
  · exact .steady <| .ite endXfer_steady .refl
  · exact .next .refl

theorem execLineIdle_keeps {s : State} {uart : Fin 4} : s.Keeps (execLineIdle uart s) := .steady <| .ite .refl onAux_steady

theorem execAuxTxWrite_keeps {s : State} {port aux : Fin 2} {char : BitVec 9} : s.Keeps (execAuxTxWrite port aux char s) :=
  .answer <| .of_steady writeAuxTx_steady

theorem execAuxRxRead_keeps {s : State} {port aux : Fin 2} : s.Keeps (execAuxRxRead port aux s) :=
  .steady <| readAuxRx_steady.trans onPort_steady

theorem execAuxCtlWrite_keeps {s : State} {port aux : Fin 2} {value : Word} : s.Keeps (execAuxCtlWrite port aux value s) :=
  .answer <| .of_steady writeAuxCtl_steady

theorem execDomainIdle_keeps {s : State} {dom : Fin 16} : s.Keeps (execDomainIdle dom s) := .steady <| .ite onDom_steady .refl

theorem execDomainOff_keeps {s : State} {dom : Fin 16} : s.Keeps (execDomainOff dom s) := .steady <| .ite domainDown_steady .refl

theorem execDomainPowerUp_keeps {s : State} {dom : Fin 16} {dt : BitVec 32} : s.Keeps (execDomainPowerUp dom dt s) :=
  .steady <| .ite domainUp_steady .refl

theorem withPower_steady {s : State} {power : Power} : s.Steady { s with power := power } := rfl

theorem execSleepEntry_keeps {s : State} : s.Keeps (execSleepEntry s) :=
  .steady <| .ite (enginesOff_steady.trans withPower_steady) .refl

theorem execOffEntry_keeps {s : State} : s.Keeps (execOffEntry s) := .steady <| .ite rfl .refl

theorem execGoOff_keeps {s : State} {port : Fin 2} : s.Keeps (execGoOff port s) := .answer <| .of_steady writeGoOff_steady

theorem execWake_keeps {s : State} {src : BitVec 4} {dt : BitVec 32} : s.Keeps (execWake src dt s) := by
  rw [execWake]
  refine .next ?_
  split
  · exact wakeUp_kept
  · exact takeReset_kept.trans <| .of_steady rfl
  · exact .of_steady <| .ite rfl .refl

theorem execAonXtalLoss_keeps {s : State} : s.Keeps (execAonXtalLoss s) := .steady rfl

theorem execPllUFault_keeps {s : State} : s.Keeps (execPllUFault s) := .steady rfl

theorem execPllURelock_keeps {s : State} {ok : Bool} : s.Keeps (execPllURelock ok s) :=
  .next <| .ite .refl <| .ite (.of_steady rfl) faultReset_kept

theorem execClockFault_keeps {s : State} {finding : BitVec 2 × BitVec 10} : s.Keeps (execClockFault finding s) :=
  .next <| .ite faultReset_kept .refl

theorem execFabricParityError_keeps {s : State} {repeatOk : Bool} : s.Keeps (execFabricParityError repeatOk s) :=
  .next <| .ite (.of_steady onDev_steady) faultReset_kept

theorem execWatchdogMiss_keeps {s : State} {core : Fin 2} : s.Keeps (execWatchdogMiss core s) := by
  rw [execWatchdogMiss]
  refine .ite (.next .refl) <| .next ?_
  split
  · exact .of_steady setCore_steady
  · exact retireCore_kept
  · exact .refl

theorem execCoreProbationEnd_keeps {s : State} {core : Fin 2} : s.Keeps (execCoreProbationEnd core s) :=
  .steady <| .ite (setCore_steady.trans onDev_steady) .refl

theorem execPor_keeps {s : State} : s.Keeps (execPor s) := .after (.trans (.of_steady takeFresh_steady) takeReset_kept) <| .steady rfl

theorem execPinReset_keeps {s : State} : s.Keeps (execPinReset s) := .next takeReset_kept

theorem execBrownOut_keeps {s : State} {src : BitVec 4} : s.Keeps (execBrownOut src s) :=
  .next <| .ite .refl <| takeReset_kept.trans <| .of_steady onSup_steady

theorem execBistStart_keeps {s : State} {port : Fin 2} {test : BitVec 4} : s.Keeps (execBistStart port test s) :=
  .answer <| .of_steady startBist_steady

theorem execUpdateIrIntrusive_keeps {s : State} {instr : BitVec 8} : s.Keeps (execUpdateIrIntrusive instr s) :=
  .ite (.next .refl) <| .ite (.steady intrude_steady) <| .steady rfl

theorem execTestLogicReset_keeps {s : State} : s.Keeps (execTestLogicReset s) := .steady <| .ite .refl rfl

theorem onSec_steady {s : State} {f : Sec → Sec} (h : (f s.sec).otp = s.sec.otp) : s.Steady (s.onSec f) :=
  congrArg (fun o : Otp => Spine.mk s.pending s.stitch.timebase s.flash.imageSwitch o.words) h

theorem execUpdateDr_keeps {s : State} {scan : List Bool × Bool} : s.Keeps (execUpdateDr scan s) :=
  .ite (.next .refl) <| .steady <| (onSec_steady (by rfl)).trans <| .ite driveCheck_steady .refl

theorem execGuardSupply_keeps {s : State} {supply : Fin 4} {above : Bool} : s.Keeps (execGuardSupply supply above s) :=
  .steady <| (onSec_steady (by rfl)).trans <| .trans (.ite .refl bistAbort_steady) <| .ite driveCheck_steady .refl

theorem execBegin_keeps {s : State} {port : Fin 2} {len : BitVec 19} : s.Keeps (execBegin port len s) :=
  .answer <| .of_steady imageBegin_steady

theorem execConfirm_keeps {s : State} {port : Fin 2} : s.Keeps (execConfirm port s) := .answer <| .of_steady imageConfirm_steady

theorem execImageAbort_keeps {s : State} {port : Fin 2} : s.Keeps (execImageAbort port s) :=
  .answer <| .of_steady imageAbort_steady

theorem execImagePortWrite_keeps {s : State} {port : Fin 2} {word : Word} : s.Keeps (execImagePortWrite port word s) :=
  .answer <| .of_steady imagePort_steady

theorem execImageVerifyDone_keeps {s : State} : s.Keeps (execImageVerifyDone s) :=
  .ite (.next .refl) <| .ite (.steady imageFail_steady) <| .steady rfl

theorem execImageIdleTimeout_keeps {s : State} : s.Keeps (execImageIdleTimeout s) := .steady <| .ite imageFail_steady .refl

theorem execProgramWord_keeps {s : State} {port : Fin 2} {oword : BitVec 7} {value : Word} : s.Keeps (execProgramWord port oword value s) :=
  .answer <| .of_steady <| .trans rfl programWord_steady

theorem execProgramKey_keeps {s : State} {port : Fin 2} {slot : Fin 8} {use : BitVec 2} : s.Keeps (execProgramKey port slot use s) :=
  .answer <| .of_steady programKey_steady

theorem execRevokeKey_keeps {s : State} {port : Fin 2} {slot : Fin 8} : s.Keeps (execRevokeKey port slot s) :=
  .answer <| .of_steady revokeKey_steady

theorem execProtRaise_keeps {s : State} {port : Fin 2} {key : BitVec 12} {target : BitVec 2} : s.Keeps (execProtRaise port key target s) :=
  .next <| afterProt_kept writeProt_kept

theorem execProtLower_keeps {s : State} {port : Fin 2} {key : BitVec 12} {target : BitVec 2} : s.Keeps (execProtLower port key target s) :=
  .next <| afterProt_kept writeProt_kept

theorem onOtp_steady {s : State} {f : Otp → Otp} (h : (f s.sec.otp).words = s.sec.otp.words) : s.Steady (s.onOtp f) :=
  congrArg (Spine.mk _ _ _) h

theorem execOtpProgramDone_keeps {s : State} {ok : Bool} : s.Keeps (execOtpProgramDone ok s) := by
  rw [execOtpProgramDone]
  split
  · exact .next .refl
  · split
    · exact .steady otpFinish_steady
    · exact .ite (.after blow_kept <| .steady <| (onOtp_steady (by rfl)).trans <| .ite otpFinish_steady .refl) <|
        .ite (.next otpFail_kept) <| .steady rfl

theorem execWeltEntryCommit_keeps {s : State} : s.Keeps (execWeltEntryCommit s) := .steady commitEntry_steady

theorem execMarksFlushTimer_keeps {s : State} : s.Keeps (execMarksFlushTimer s) := .steady flushMarks_steady

theorem execGateWindowExpiry_keeps {s : State} {entry : Fin 64} : s.Keeps (execGateWindowExpiry entry s) := by
  rw [execGateWindowExpiry]
  split
  · exact .next .refl
  · exact .ite (.next .refl) <| .steady <| onGate_steady.trans <| onRec_steady.trans writeSettle_steady

theorem execLookupGo_keeps {s : State} {port block : Fin 2} : s.Keeps (execLookupGo port block s) :=
  .answer <| .of_steady lookupStart_steady

theorem execLookupDone_keeps {s : State} {block : Fin 2} : s.Keeps (execLookupDone block s) :=
  .ite (.steady onWelt_steady) <| .next .refl

theorem execWeltLoadTick_keeps {s : State} : s.Keeps (execWeltLoadTick s) := .steady onWelt_steady

theorem execStepEvent_keeps {s : State} {axis : Fin 12} {emfA emfB : List EmfSample} : s.Keeps (execStepEvent axis emfA emfB s) := by
  rw [execStepEvent]
  split
  · exact .next .refl
  · exact .ite (.next .refl) <| .after (.of_steady onAx_steady) <| .after (.of_steady <| .ite fullStepDone_steady .refl) <|
      .steady pathStep_steady

theorem execStallSpanEnd_keeps {s : State} {axis : Fin 12} : s.Keeps (execStallSpanEnd axis s) := by
  rw [execStallSpanEnd]
  refine .steady ?_
  split
  · exact .ite onAx_steady .refl
  · exact .refl

theorem execAxisAtRest_keeps {s : State} {axis : Fin 12} : s.Keeps (execAxisAtRest axis s) := by
  rw [execAxisAtRest]
  refine .steady <| .ite .refl ?_
  split
  · exact .ite boundRest_steady .refl
  · exact restNow_steady

theorem execHomeReference_keeps {s : State} {axis : Fin 12} : s.Keeps (execHomeReference axis s) := by
  rw [execHomeReference]
  refine .steady <| .ite .refl ?_
  split
  · exact homeRef_steady
  · exact .refl

theorem execHomeRetry_keeps {s : State} {axis : Fin 12} : s.Keeps (execHomeRetry axis s) :=
  .steady <| .ite (onAx_steady.trans homeBegin_steady) .refl

theorem execConfRetry_keeps {s : State} {axis : Fin 12} : s.Keeps (execConfRetry axis s) := by
  rw [execConfRetry]
  refine .steady ?_
  split
  · exact .ite .refl confBegin_steady
  · exact .refl

theorem execLimit_keeps {s : State} {axis : Fin 12} {input : Fin 2} : s.Keeps (execLimit axis input s) :=
  .ite (.next .refl) <| .after (.of_steady onAx_steady) <| .after (.of_steady <| .ite .refl <| onAx_steady.trans raise_steady) <|
    .after (.of_steady <| .ite .refl <| .ite limitHard_steady <| .ite limitRamp_steady .refl) <| .steady <|
    homeSwitchOn_steady.trans limitSwitch_steady

theorem execLimitRelease_keeps {s : State} {axis : Fin 12} {input : Fin 2 × BitVec 12} : s.Keeps (execLimitRelease axis input s) :=
  .ite (.after (.of_steady onAx_steady) <| .steady <| homeSwitchOff_steady.trans limitSwitch_steady) <| .next .refl

theorem execStandstill_keeps {s : State} {axis : Fin 12} : s.Keeps (execStandstill axis s) :=
  .ite (.steady onAx_steady) <| .next .refl

theorem execGearLagGrace_keeps {s : State} {axis : Fin 12} : s.Keeps (execGearLagGrace axis s) :=
  .ite (.steady <| disengage_steady.trans <| raise_steady.trans laneFault_steady) <| .next .refl

theorem execBridgeCheckDone_keeps {s : State} {axis : Fin 12} {a1 a2 b1 b2 : BitVec 12} {gateA gateB : BitVec 8} :
    s.Keeps (execBridgeCheckDone axis a1 a2 b1 b2 gateA gateB s) :=
  .ite (.next .refl) <| .after (.of_steady onAx_steady) <| .after (.of_steady <| .ite (newPeriod_steady.trans newPeriod_steady) <|
    .ite (bridgesOut_steady.trans readmitFail_steady) bridgesLasting_steady) <| .after (.of_steady vmLostTest_steady) <|
    .steady <| .ite (.ite startHome_steady readmitPass_steady) .refl

theorem execReadmitTimeout_keeps {s : State} : s.Keeps (execReadmitTimeout s) := by
  rw [execReadmitTimeout]
  split
  · exact .next .refl
  · exact .after (.of_steady onJobs_steady) <| .steady <| raiseJob_steady.trans <| .foldl fun _ _ => stopCheck_steady.trans <|
      readmitFail_steady.trans readmitClose_steady

theorem execRecordTimeout_keeps {s : State} {lane : Fin 19} : s.Keeps (execRecordTimeout lane s) := by
  rw [execRecordTimeout]
  split
  · exact .next .refl
  · exact .after (.of_steady <| dropDeadline_steady.trans raiseJob_steady) <| .ite (.after (.of_steady <|
      onLane_steady.trans beginStop_steady) <| .steady <| .ite (stopXfer_steady.trans cameToRest_steady) .refl) <| .next .refl

theorem execFenceTimeout_keeps {s : State} : s.Keeps (execFenceTimeout s) := by
  rw [execFenceTimeout]
  split
  · exact .next .refl
  · exact .after (.of_steady onJobs_steady) <| .steady <| raiseJob_steady.trans breakFence_steady

theorem execPrintRelease_keeps {s : State} {head : Fin 2} : s.Keeps (execPrintRelease head s) := .steady dispatchType_steady

theorem execFeedRelease_keeps {s : State} {head : Fin 2} : s.Keeps (execFeedRelease head s) := .steady dispatchType_steady

theorem execCutRelease_keeps {s : State} {head : Fin 2} : s.Keeps (execCutRelease head s) := .steady dispatchType_steady

theorem execScanRelease_keeps {s : State} {head : Fin 2} : s.Keeps (execScanRelease head s) := .steady dispatchType_steady

theorem execPatternRelease_keeps {s : State} {head : Fin 2} : s.Keeps (execPatternRelease head s) := .steady dispatchType_steady

theorem execMoveRelease_keeps {s : State} {axis : Fin 12} : s.Keeps (execMoveRelease axis s) := .steady dispatchType_steady

theorem execHomeRelease_keeps {s : State} {axis : Fin 12} : s.Keeps (execHomeRelease axis s) := .steady dispatchType_steady

theorem execGearRelease_keeps {s : State} {axis : Fin 12} : s.Keeps (execGearRelease axis s) := .steady dispatchType_steady

theorem execDcRunRelease_keeps {s : State} {axis : Fin 12} : s.Keeps (execDcRunRelease axis s) := .steady dispatchType_steady

theorem execSolRunRelease_keeps {s : State} {bank : Fin 4} : s.Keeps (execSolRunRelease bank s) := .steady dispatchType_steady

theorem execSolDiagRelease_keeps {s : State} {bank : Fin 4} : s.Keeps (execSolDiagRelease bank s) := .steady dispatchType_steady

theorem execAuxXferRelease_keeps {s : State} : s.Keeps (execAuxXferRelease s) := .steady dispatchType_steady

theorem execNote_keeps {s : State} : s.Keeps (execNote s) := .steady dispatchType_steady

theorem execLaneOutInOrder_keeps {s : State} {lane : Fin 19} : s.Keeps (execLaneOutInOrder lane s) := .steady dispatchType_steady

theorem execFence_keeps {s : State} : s.Keeps (execFence s) := .steady fences_steady

theorem execResolve_keeps {s : State} : s.Keeps (execResolve s) := .steady ctrlFront_steady

theorem execStartRecovered_keeps {s : State} : s.Keeps (execStartRecovered s) := .steady ctrlFront_steady

theorem execContinue_keeps {s : State} : s.Keeps (execContinue s) := .steady ctrlFront_steady

theorem execSkip_keeps {s : State} : s.Keeps (execSkip s) := .steady ctrlFront_steady

theorem execFenceProceed_keeps {s : State} : s.Keeps (execFenceProceed s) := .steady ctrlFront_steady

theorem execFenceCancel_keeps {s : State} : s.Keeps (execFenceCancel s) := .steady ctrlFront_steady

theorem execCancelHeld_keeps {s : State} : s.Keeps (execCancelHeld s) := .steady ctrlFront_steady

theorem execLaneOut_keeps {s : State} : s.Keeps (execLaneOut s) := .steady ctrlFront_steady

theorem execReAdmit_keeps {s : State} : s.Keeps (execReAdmit s) := .steady ctrlFront_steady

theorem execStop_keeps {s : State} {port : Fin 2} {lane : Fin 19} {mask : BitVec 19} : s.Keeps (execStop port lane mask s) :=
  .steady askStop_steady

theorem execStitchPeriodWrite_keeps {s : State} {port : Fin 2} {value : Word} : s.Keeps (execStitchPeriodWrite port value s) :=
  .answer writePeriod_kept

theorem execCommit_keeps {s : State} {port : Fin 2} : s.Keeps (execCommit port s) := .answer <| .of_steady commit_steady

theorem execDiscard_keeps {s : State} {port : Fin 2} : s.Keeps (execDiscard port s) := .steady discard_steady

theorem execStartUp_keeps {s : State} {tests : BitVec 12 × List (Fin 2 × BitVec 12)} {bootT recovT : BitVec 18} :
    s.Keeps (execStartUp tests bootT recovT s) := by
  rw [execStartUp]
  split
  · exact .next .refl
  · exact .ite (.steady stayInBoot_steady) <| .ite (.next massErase_kept) <| .next startUp_kept

theorem execActivate_keeps {s : State} {port : Fin 2} : s.Keeps (execActivate port s) := .answer <| .of_steady activate_steady

theorem execTblDataWrite_keeps {s : State} {port : Fin 2} {value : Word} : s.Keeps (execTblDataWrite port value s) :=
  .steady writeData_steady

theorem execJobWinWrite_keeps {s : State} {port : Fin 2} {word : Word} : s.Keeps (execJobWinWrite port word s) :=
  .steady jobWord_steady

theorem execClrCnt_keeps {s : State} {port : Fin 2} : s.Keeps (execClrCnt port s) := .steady clearCounts_steady

theorem execClrStats_keeps {s : State} {port : Fin 2} : s.Keeps (execClrStats port s) := .steady onPort_steady

theorem execAbandon_keeps {s : State} {port head : Fin 2} : s.Keeps (execAbandon port head s) :=
  .answer <| .iteFst (beyondRev1_kept <| .of_steady scanAbandon_steady) <| .of_steady scanAbandon_steady

theorem execHeldBackEventQueue_keeps {s : State} : s.Keeps (execHeldBackEventQueue s) := .steady queueHeld_steady

theorem execEventLost_keeps {s : State} {port : Fin 2} : s.Keeps (execEventLost port s) :=
  .ite (.next .refl) <| .steady <| onEv_steady.trans <| appendEvent_steady.trans onPort_steady

theorem execDividerAdopt_keeps {s : State} {port : Fin 2} : s.Keeps (execDividerAdopt port s) := by
  rw [execDividerAdopt]
  split
  · exact .steady <| .ite .refl onPort_steady
  · exact .next .refl

theorem execConfirmTimeout_keeps {s : State} {port : Fin 2} : s.Keeps (execConfirmTimeout port s) :=
  .steady <| .ite onPort_steady .refl

theorem execAckTimeout_keeps {s : State} {port : Fin 2} {emerg : Bool} : s.Keeps (execAckTimeout port emerg s) :=
  .ite (.next .refl) <| .after (.of_steady <| onPort_steady.trans countError_steady) <| .steady <| .ite secondAttempt_steady .refl

theorem execSyncTimeout_keeps {s : State} {port : Fin 2} : s.Keeps (execSyncTimeout port s) :=
  .ite (.next .refl) <| .after (.of_steady <| onPort_steady.trans countError_steady) <| .ite (.next .refl) <|
    .ite (.steady onPort_steady) <| .steady fallBack_steady

theorem execErrBucketTick_keeps {s : State} {port : Fin 2} : s.Keeps (execErrBucketTick port s) := .steady onPort_steady

theorem execFallback_keeps {s : State} {port : Fin 2} : s.Keeps (execFallback port s) := .steady fallBack_steady

theorem execOutcomeResponse_keeps {s : State} {port : Fin 2} : s.Keeps (execOutcomeResponse port s) := by
  unfold execOutcomeResponse
  extract_lets s1
  have cleared : s.Steady s1 := clearWire_steady
  split
  · exact .steady cleared
  · exact .steady <| cleared.trans <| onPort_steady.trans <| .ite onPort_steady queueRsp_steady

theorem execSync_keeps {s : State} {port : Fin 2} {w : Word} : s.Keeps (execSync port w s) :=
  .next <| .ite (takeChars_kept.trans <| .trans (.of_steady onPort_steady) <| .of_steady syncFrame_steady) .refl

theorem execStrayByte_keeps {s : State} {port : Fin 2} : s.Keeps (execStrayByte port s) := .steady <| .ite onPort_steady .refl

theorem execFrameDiscard_keeps {s : State} {port : Fin 2} {crc ctl emerg : Bool} : s.Keeps (execFrameDiscard port crc ctl emerg s) :=
  .ite (.next .refl) <| .after takeChars_kept <| .after (.of_steady <| onPort_steady.trans discardFrame_steady) <| .next hunt_kept

theorem execCharacterReceived_keeps {s : State} {uart : Fin 4} {start : BitVec 3} {data parity : List (BitVec 3)} {stop : BitVec 3} :
    s.Keeps (execCharacterReceived uart start data parity stop s) := by
  unfold execCharacterReceived
  extract_lets samples a
  refine .next <| .ite ?_ ?_
  · split
    · exact .refl
    · exact .trans (.of_steady onPort_steady) <| .ite takeChars_kept .refl
  · split
    · exact .refl
    · exact .of_steady auxChar_steady

theorem execReceiveTimeout_keeps {s : State} {uart : Fin 4} : s.Keeps (execReceiveTimeout uart s) :=
  .next <| .ite takeChars_kept .refl

theorem execCtsChange_keeps {s : State} {port : Fin 2} {low : Bool} : s.Keeps (execCtsChange port low s) :=
  .ite (.steady onPort_steady) <| .after (.of_steady onPort_steady) <| .steady <| .ite enterUp_steady .refl

theorem execCoreRestart_keeps {s : State} {core : Fin 2} : s.Keeps (execCoreRestart core s) :=
  .next <| .ite (.trans (.of_steady setCore_steady) <| takeChars_kept.trans takeChars_kept) .refl

theorem framed_kept {s : State} {p : Nat} {f : State → State} (h : ∀ t, Kept t (f t)) : s.Kept (s.framed p f) :=
  .ite (arrive_kept.trans (h _)) .refl

theorem onStitch_steady {s : State} {f : Stitch → Stitch} (h : (f s.stitch).timebase = s.stitch.timebase) : s.Steady (s.onStitch f) :=
  congrArg (Spine.mk _ · _ _) h

theorem relax_timebase {g : Stitch} : g.relax.timebase = g.timebase := by
  unfold Stitch.relax
  split <;> rfl

theorem execSagClear_keeps {s : State} {supply : Fin 4} {volts : BitVec 9} {win : BitVec 5} :
    s.Keeps (execSagClear supply volts win s) := by
  unfold execSagClear
  extract_lets m s1 s2 s3
  have held : s1.Steady s2 := onStitch_steady <| by
    split_ifs <;> rfl
  exact .ite (.next .refl) <| .steady <| onSup_steady.trans <| held.trans <| raise_steady.trans <|
    .ite .refl <| ungroupFrom_steady.trans onHead_steady

theorem execBistDone_keeps {s : State} {samples : List PinSample} : s.Keeps (execBistDone samples s) :=
  .ite (.next .refl) <| .steady <| onSec_steady rfl

theorem advance_kept {s : State} : s.Kept (s.onStitch Stitch.advance) := by
  refine onStitch_kept ?_
  rintro ⟨-, xNext, kMax⟩
  exact ⟨xNext, xNext, kMax⟩

/-- A boundary of a stitch that runs: the stitch advances, all else leaves the spine as it is; then a switch of images that waits may follow. -/
theorem execStitchBoundary_steady {s : State} (running : s.stitch.running = true) :
    ∃ u, (s.onStitch Stitch.advance).Steady u ∧
      (execStitchBoundary s = .next u ∨ execStitchBoundary s = .next u.switchImage) := by
  unfold execStitchBoundary
  extract_lets _ s1 len was s2 s3 s4
  simp only [running, Bool.not_true, Bool.false_eq_true, if_false]
  split
  · exact ⟨_, adoptDue_steady.trans enterSleep_steady, .inl rfl⟩
  · refine ⟨s4.wakeDomains, ?_, .inr rfl⟩
    have begun : (s.onStitch Stitch.advance).Steady (s1.onStitch Stitch.advance) := rfl
    have adopted : (s1.onStitch Stitch.advance).Steady s2 := adoptDue_steady.trans <| latchInputs_steady.trans followsLost_steady
    have slots : s2.Steady s3 := evaluate_steady.trans <| vhenFall_steady.trans engineSlots_steady
    clear_value s3
    have retained : s3.Steady s4 := rfl
    have woken : s4.Steady s4.wakeDomains := wakeDomains_steady
    exact begun.trans <| adopted.trans <| slots.trans <| retained.trans woken

theorem execStitchBoundary_keeps {s : State} : s.Keeps (execStitchBoundary s) := by
  by_cases running : s.stitch.running = true
  · obtain ⟨u, steady, run | run⟩ := execStitchBoundary_steady running
    · rw [run]
      exact .next <| advance_kept.trans <| .of_steady steady
    · rw [run]
      exact .next <| advance_kept.trans <| .trans (.of_steady steady) switchImage_kept
  · rw [execStitchBoundary, Bool.eq_false_of_not_eq_true running]
    exact .next .refl

theorem execGovernorSample_keeps {s : State} : s.Keeps (execGovernorSample s) := .ite (.next .refl) <| .next <| atSample_kept.trans sample_kept

theorem execOverrunRelax_keeps {s : State} : s.Keeps (execOverrunRelax s) := .steady <| onStitch_steady relax_timebase

theorem execSagHoldExpiry_keeps {s : State} {supply : Fin 3} : s.Keeps (execSagHoldExpiry supply s) :=
  .steady <| onStitch_steady <| by split_ifs <;> rfl

theorem execRegisterWrite_keeps {s : State} {port : Fin 2} {addr : BitVec 6} {value : Word} :
    s.Keeps (execRegisterWrite port addr value s) :=
  .next writeReg_kept

theorem execEventPop_keeps {s : State} {port : Fin 2} : s.Keeps (execEventPop port s) := .steady <| popEvent_steady.trans onPort_steady

theorem execTblDataRead_keeps {s : State} {port : Fin 2} : s.Keeps (execTblDataRead port s) :=
  .steady <| readData_steady.trans onPort_steady

theorem execRspSend_keeps {s : State} {port : Fin 2} : s.Keeps (execRspSend port s) := by
  unfold execRspSend
  refine .ite (.next .refl) ?_
  extract_lets s1
  have cleared : s.Steady s1 := clearWire_steady
  split
  · next t sent => exact .steady <| cleared.trans <| sendEmerg_steady t sent
  · split
    · exact .steady <| cleared.trans <| .ite (onPort_steady.trans afterRsp_steady) .refl
    · exact .steady cleared

theorem execEvtSend_keeps {s : State} {port : Fin 2} : s.Keeps (execEvtSend port s) := by
  unfold execEvtSend
  refine .ite (.next .refl) ?_
  extract_lets s1
  have cleared : s.Steady s1 := clearWire_steady
  split
  · next t sent => exact .steady <| cleared.trans <| sendEmerg_steady t sent
  · exact .steady <| cleared.trans <| .ite .refl sendEvents_steady

theorem execEmergencyEvtSend_keeps {s : State} {send : Fin 2 × Option Nat} : s.Keeps (execEmergencyEvtSend send s) := by
  unfold execEmergencyEvtSend
  extract_lets port cut broken
  clear_value broken
  have sends : (s.clearWire port).MaySteady (if s.uartsRun = true then (s.clearWire port).sendEmerg port else none) :=
    .ite sendEmerg_steady .none
  generalize (if s.uartsRun = true then (s.clearWire port).sendEmerg port else none) = o at sends ⊢
  cases o with
  | none => exact .steady clearWire_steady
  | some t =>
    refine .steady <| clearWire_steady.trans <| (sends t rfl).trans ?_
    cases broken with
    | none => exact .refl
    | some f => exact onPort_steady

theorem execHello_keeps {s : State} {port : Fin 2} {w0 w1 : Word} : s.Keeps (execHello port w0 w1 s) :=
  .next <| framed_kept fun _ => .of_steady hello_steady

theorem execAck_keeps {s : State} {port : Fin 2} {emerg : Bool} {ackseq : BitVec 8} : s.Keeps (execAck port emerg ackseq s) :=
  .next <| framed_kept fun _ => .of_steady ackFrame_steady

theorem execNak_keeps {s : State} {port : Fin 2} {emerg : Bool} {ackseq : BitVec 8} : s.Keeps (execNak port emerg ackseq s) :=
  .next <| framed_kept fun _ => .of_steady nakFrame_steady

theorem execSyncAck_keeps {s : State} {port : Fin 2} {w : Word} : s.Keeps (execSyncAck port w s) :=
  .next <| framed_kept fun _ => .of_steady syncAckFrame_steady

theorem execRegRd_keeps {s : State} {port : Fin 2} {seq ackseq : BitVec 8} {payload : List Word} :
    s.Keeps (execRegRd port seq ackseq payload s) :=
  .next <| framed_kept fun _ => frame_kept

theorem execRegWr_keeps {s : State} {port : Fin 2} {seq ackseq : BitVec 8} {payload : List Word} :
    s.Keeps (execRegWr port seq ackseq payload s) :=
  .next <| framed_kept fun _ => frame_kept

theorem execJobWr_keeps {s : State} {port : Fin 2} {seq ackseq : BitVec 8} {outcome : Bool} {payload : List Word} :
    s.Keeps (execJobWr port seq ackseq outcome payload s) :=
  .next <| framed_kept fun _ => frame_kept

theorem execTblRd_keeps {s : State} {port : Fin 2} {seq ackseq : BitVec 8} {payload : List Word} :
    s.Keeps (execTblRd port seq ackseq payload s) :=
  .next <| framed_kept fun _ => frame_kept

theorem execTblWr_keeps {s : State} {port : Fin 2} {seq ackseq : BitVec 8} {payload : List Word} :
    s.Keeps (execTblWr port seq ackseq payload s) :=
  .next <| framed_kept fun _ => frame_kept

theorem execUnsupportedFrame_keeps {s : State} {port : Fin 2} {typ seq ackseq : BitVec 8} :
    s.Keeps (execUnsupportedFrame port typ seq ackseq s) :=
  .next <| .ite .refl <| framed_kept fun _ => frame_kept

theorem execEmergencyRegWr_keeps {s : State} {port : Fin 2} {typ seq ackseq : BitVec 8} {payload : List Word} :
    s.Keeps (execEmergencyRegWr port typ seq ackseq payload s) :=
  .next <| .ite .refl <| framed_kept fun _ => frame_kept

end Sys2Proof.Machine.State
end

section
/-!
PROOFS. What every command keeps, and every step.
-/

namespace Sys2Proof.Machine

/-- Every command answers a next state that keeps what every command keeps. -/
theorem exec_keeps (c : Instr) (s : State) : s.Keeps (exec c s) :=
  match c with
  | .stitchBoundary => State.execStitchBoundary_keeps
  | .governorSample => State.execGovernorSample_keeps
  | .overrunRelax => State.execOverrunRelax_keeps
  | .sagHoldExpiry .. => State.execSagHoldExpiry_keeps
  | .stitchPeriodWrite .. => State.execStitchPeriodWrite_keeps
  | .lineStart .. => State.execLineStart_keeps
  | .lastSliceEnd .. => State.execLastSliceEnd_keeps
  | .strayByte .. => State.execStrayByte_keeps
  | .frameDiscard .. => State.execFrameDiscard_keeps
  | .hello .. => State.execHello_keeps
  | .ack .. => State.execAck_keeps
  | .nak .. => State.execNak_keeps
  | .sync .. => State.execSync_keeps
  | .syncAck .. => State.execSyncAck_keeps
  | .regRd .. => State.execRegRd_keeps
  | .regWr .. => State.execRegWr_keeps
  | .jobWr .. => State.execJobWr_keeps
  | .tblRd .. => State.execTblRd_keeps
  | .tblWr .. => State.execTblWr_keeps
  | .unsupportedFrame .. => State.execUnsupportedFrame_keeps
  | .emergencyRegWr .. => State.execEmergencyRegWr_keeps
  | .rspSend .. => State.execRspSend_keeps
  | .outcomeResponse .. => State.execOutcomeResponse_keeps
  | .evtSend .. => State.execEvtSend_keeps
  | .emergencyEvtSend .. => State.execEmergencyEvtSend_keeps
  | .ackTimeout .. => State.execAckTimeout_keeps
  | .syncTimeout .. => State.execSyncTimeout_keeps
  | .dividerAdopt .. => State.execDividerAdopt_keeps
  | .confirmTimeout .. => State.execConfirmTimeout_keeps
  | .errBucketTick .. => State.execErrBucketTick_keeps
  | .fallback .. => State.execFallback_keeps
  | .clrStats .. => State.execClrStats_keeps
  | .ctsChange .. => State.execCtsChange_keeps
  | .registerWrite .. => State.execRegisterWrite_keeps
  | .eventPop .. => State.execEventPop_keeps
  | .tblDataRead .. => State.execTblDataRead_keeps
  | .tblDataWrite .. => State.execTblDataWrite_keeps
  | .commit .. => State.execCommit_keeps
  | .discard .. => State.execDiscard_keeps
  | .jobWinWrite .. => State.execJobWinWrite_keeps
  | .claim .. => State.execClaim_keeps
  | .release .. => State.execRelease_keeps
  | .clrCnt port => State.execClrCnt_keeps (port := port)
  | .protRaise .. => State.execProtRaise_keeps
  | .protLower .. => State.execProtLower_keeps
  | .auxTxWrite .. => State.execAuxTxWrite_keeps
  | .auxRxRead .. => State.execAuxRxRead_keeps
  | .auxCtlWrite .. => State.execAuxCtlWrite_keeps
  | .bistStart .. => State.execBistStart_keeps
  | .bistDone .. => State.execBistDone_keeps
  | .save .. => State.execSave_keeps
  | .saveDone => State.execSaveDone_keeps
  | .scrubNow .. => State.execScrubNow_keeps
  | .heldBackEventQueue => State.execHeldBackEventQueue_keeps
  | .eventLost .. => State.execEventLost_keeps
  | .batchResolve => State.execBatchResolve_keeps
  | .weltEntryCommit => State.execWeltEntryCommit_keeps
  | .printRelease .. => State.execPrintRelease_keeps
  | .feedRelease .. => State.execFeedRelease_keeps
  | .cutRelease .. => State.execCutRelease_keeps
  | .scanRelease .. => State.execScanRelease_keeps
  | .patternRelease .. => State.execPatternRelease_keeps
  | .moveRelease .. => State.execMoveRelease_keeps
  | .homeRelease .. => State.execHomeRelease_keeps
  | .gearRelease .. => State.execGearRelease_keeps
  | .dcRunRelease .. => State.execDcRunRelease_keeps
  | .solRunRelease .. => State.execSolRunRelease_keeps
  | .solDiagRelease .. => State.execSolDiagRelease_keeps
  | .auxXferRelease => State.execAuxXferRelease_keeps
  | .note => State.execNote_keeps
  | .fence => State.execFence_keeps
  | .resolve => State.execResolve_keeps
  | .startRecovered => State.execStartRecovered_keeps
  | .continue' => State.execContinue_keeps
  | .skip => State.execSkip_keeps
  | .fenceProceed => State.execFenceProceed_keeps
  | .fenceCancel => State.execFenceCancel_keeps
  | .cancelHeld => State.execCancelHeld_keeps
  | .laneOut => State.execLaneOut_keeps
  | .laneOutInOrder .. => State.execLaneOutInOrder_keeps
  | .reAdmit => State.execReAdmit_keeps
  | .readmitTimeout => State.execReadmitTimeout_keeps
  | .stop port .. => State.execStop_keeps (port := port)
  | .recordTimeout .. => State.execRecordTimeout_keeps
  | .fenceTimeout => State.execFenceTimeout_keeps
  | .marksFlushTimer => State.execMarksFlushTimer_keeps
  | .gateWindowExpiry .. => State.execGateWindowExpiry_keeps
  | .lookupGo .. => State.execLookupGo_keeps
  | .lookupDone .. => State.execLookupDone_keeps
  | .weltLoadTick => State.execWeltLoadTick_keeps
  | .store .. => State.execStore_keeps
  | .repair .. => State.execRepair_keeps
  | .delete .. => State.execDelete_keeps
  | .assetAbort .. => State.execAssetAbort_keeps
  | .assetPortWrite .. => State.execAssetPortWrite_keeps
  | .assetVerifyDone .. => State.execAssetVerifyDone_keeps
  | .assetIdleTimeout .. => State.execAssetIdleTimeout_keeps
  | .layout .. => State.execLayout_keeps
  | .bandCommit .. => State.execBandCommit_keeps
  | .vhSettleEnd .. => State.execVhSettleEnd_keeps
  | .backgroundScanStart .. => State.execBackgroundScanStart_keeps
  | .scanDot .. => State.execScanDot_keeps
  | .abandon .. => State.execAbandon_keeps
  | .msCycle .. => State.execMsCycle_keeps
  | .calRetry .. => State.execCalRetry_keeps
  | .snsSample .. => State.execSnsSample_keeps
  | .ticketTaken .. => State.execTicketTaken_keeps
  | .clickerRecover .. => State.execClickerRecover_keeps
  | .stepEvent .. => State.execStepEvent_keeps
  | .stallSpanEnd .. => State.execStallSpanEnd_keeps
  | .axisAtRest .. => State.execAxisAtRest_keeps
  | .homeReference .. => State.execHomeReference_keeps
  | .homeRetry .. => State.execHomeRetry_keeps
  | .confRetry .. => State.execConfRetry_keeps
  | .limit .. => State.execLimit_keeps
  | .standstill .. => State.execStandstill_keeps
  | .gearLagGrace .. => State.execGearLagGrace_keeps
  | .dcRunEnd .. => State.execDcRunEnd_keeps
  | .chopperTrip .. => State.execChopperTrip_keeps
  | .chopperOffEnd .. => State.execChopperOffEnd_keeps
  | .fullDutyEnd .. => State.execFullDutyEnd_keeps
  | .bridgeFault .. => State.execBridgeFault_keeps
  | .bridgeRecover .. => State.execBridgeRecover_keeps
  | .bridgeConfirmEnd .. => State.execBridgeConfirmEnd_keeps
  | .bridgeCheckDone .. => State.execBridgeCheckDone_keeps
  | .solProfileStart .. => State.execSolProfileStart_keeps
  | .segmentTmax .. => State.execSegmentTmax_keeps
  | .segmentStitchEnd .. => State.execSegmentStitchEnd_keeps
  | .solTrip .. => State.execSolTrip_keeps
  | .solReleaseDetect .. => State.execSolReleaseDetect_keeps
  | .coilModelUpdate .. => State.execCoilModelUpdate_keeps
  | .solFault .. => State.execSolFault_keeps
  | .solRecover .. => State.execSolRecover_keeps
  | .solConfirmEnd .. => State.execSolConfirmEnd_keeps
  | .offStateCheckDone .. => State.execOffStateCheckDone_keeps
  | .onStateCheckDone .. => State.execOnStateCheckDone_keeps
  | .encCount .. => State.execEncCount_keeps
  | .encIndex .. => State.execEncIndex_keeps
  | .quadWindowEnd .. => State.execQuadWindowEnd_keeps
  | .encArm port .. => State.execEncArm_keeps (port := port)
  | .encZero port .. => State.execEncZero_keeps (port := port)
  | .encClr port .. => State.execEncClr_keeps (port := port)
  | .ssiClr port .. => State.execSsiClr_keeps (port := port)
  | .ssiTransferEnd .. => State.execSsiTransferEnd_keeps
  | .ssiRepeat .. => State.execSsiRepeat_keeps
  | .cntEdge .. => State.execCntEdge_keeps
  | .probeCapture .. => State.execProbeCapture_keeps
  | .probeArm port .. => State.execProbeArm_keeps (port := port)
  | .probeDisarm port .. => State.execProbeDisarm_keeps (port := port)
  | .probeFlush port .. => State.execProbeFlush_keeps (port := port)
  | .probeStampRead .. => State.execProbeStampRead_keeps
  | .monitorSample .. => State.execMonitorSample_keeps
  | .energyBucket .. => State.execEnergyBucket_keeps
  | .ontime .. => State.execOntime_keeps
  | .strobeLimit .. => State.execStrobeLimit_keeps
  | .grel .. => State.execGrel_keeps
  | .rel .. => State.execRel_keeps
  | .disch .. => State.execDisch_keeps
  | .shankLimitWrite .. => State.execShankLimitWrite_keeps
  | .stopInput .. => State.execStopInput_keeps
  | .doorOpen .. => State.execDoorOpen_keeps
  | .dischargeUpdate .. => State.execDischargeUpdate_keeps
  | .dischargeTimeout => State.execDischargeTimeout_keeps
  | .tempSample .. => State.execTempSample_keeps
  | .sensorRecheck .. => State.execSensorRecheck_keeps
  | .sagAssert .. => State.execSagAssert_keeps
  | .sagClear .. => State.execSagClear_keeps
  | .vgdLow => State.execVgdLow_keeps
  | .vgdClear => State.execVgdClear_keeps
  | .vmLoss => State.execVmLoss_keeps
  | .brownOut .. => State.execBrownOut_keeps
  | .wordProgramDone .. => State.execWordProgramDone_keeps
  | .eraseSliceEnd .. => State.execEraseSliceEnd_keeps
  | .scrubPassStart => State.execScrubPassStart_keeps
  | .scrubRead .. => State.execScrubRead_keeps
  | .sramScrubTick .. => State.execSramScrubTick_keeps
  | .characterReceived .. => State.execCharacterReceived_keeps
  | .receiveTimeout .. => State.execReceiveTimeout_keeps
  | .auxXferEnd => State.execAuxXferEnd_keeps
  | .pllUFault => State.execPllUFault_keeps
  | .pllURelock .. => State.execPllURelock_keeps
  | .clockFault .. => State.execClockFault_keeps
  | .fabricParityError .. => State.execFabricParityError_keeps
  | .watchdogMiss .. => State.execWatchdogMiss_keeps
  | .coreRestart .. => State.execCoreRestart_keeps
  | .coreProbationEnd .. => State.execCoreProbationEnd_keeps
  | .domainIdle .. => State.execDomainIdle_keeps
  | .domainOff .. => State.execDomainOff_keeps
  | .domainPowerUp .. => State.execDomainPowerUp_keeps
  | .sleepEntry => State.execSleepEntry_keeps
  | .wake .. => State.execWake_keeps
  | .offEntry => State.execOffEntry_keeps
  | .goOff .. => State.execGoOff_keeps
  | .por => State.execPor_keeps
  | .pinReset => State.execPinReset_keeps
  | .startUp .. => State.execStartUp_keeps
  | .updateIrIntrusive .. => State.execUpdateIrIntrusive_keeps
  | .testLogicReset => State.execTestLogicReset_keeps
  | .begin' .. => State.execBegin_keeps
  | .activate .. => State.execActivate_keeps
  | .confirm .. => State.execConfirm_keeps
  | .imageAbort .. => State.execImageAbort_keeps
  | .imagePortWrite .. => State.execImagePortWrite_keeps
  | .imageVerifyDone => State.execImageVerifyDone_keeps
  | .imageIdleTimeout => State.execImageIdleTimeout_keeps
  | .programWord .. => State.execProgramWord_keeps
  | .programKey .. => State.execProgramKey_keeps
  | .revokeKey .. => State.execRevokeKey_keeps
  | .otpProgramDone .. => State.execOtpProgramDone_keeps
  | .aonXtalLoss => State.execAonXtalLoss_keeps
  | .vmRearm => State.execVmRearm_keeps
  | .limitRelease .. => State.execLimitRelease_keeps
  | .lineIdle .. => State.execLineIdle_keeps
  | .eraseResume .. => State.execEraseResume_keeps
  | .decisionPacing => State.execDecisionPacing_keeps
  | .pwmPeriod .. => State.execPwmPeriod_keeps
  | .solPwmPeriod .. => State.execSolPwmPeriod_keeps
  | .dipSample .. => State.execDipSample_keeps
  | .updateDr .. => State.execUpdateDr_keeps
  | .guardSupply .. => State.execGuardSupply_keeps

theorem step_keeps (s : State) : ∃ t, step s = .next t ∧ (s.stretchOk → t.stretchOk) ∧ OtpKept s t ∧ t.pending = s.pending.tail := by
  unfold step
  split
  · next empty => exact ⟨s, rfl, id, .refl s, by rw [empty]; rfl⟩
  · next c rest queue =>
    obtain ⟨t, run, kept⟩ := exec_keeps c { s with pending := rest }
    exact ⟨t, run, kept.stretch, kept.otp, by rw [kept.pending, queue]; rfl⟩

/-- Settles O5: every command keeps the ranges; the queue is no part of them. -/
theorem stretchStaysInRange : Obligations.StretchStaysInRange := by
  intro s t ok run
  obtain ⟨u, next, stretch, -, -⟩ := step_keeps s
  exact Host.Outcome.next.inj (next.symm.trans run) ▸ stretch ok

end Sys2Proof.Machine
end

section
/-!
PROOFS. Family 02: the stitch boundary (R41, R42, R46), the overrun request that falls (R57), the sag holds that end (R49).
-/

namespace Sys2Proof.Machine

theorem State.switchImage_of_none {s : State} (h : s.flash.imageSwitch = false) : s.switchImage = s := by
  rw [State.switchImage, h, if_neg (by simp)]

theorem stitchBoundary_advances {s : State} (none : s.flash.imageSwitch = false) (running : s.stitch.running = true) :
    Answers .stitchBoundary s fun t =>
      t.stitch.n = s.stitch.n + 1 ∧ t.stitch.x = s.stitch.xNext ∧ t.stitch.period = s.stitch.newPeriod.getD s.stitch.period ∧
        t.stitch.newPeriod = .none := by
  obtain ⟨u, steady, run⟩ := State.execStitchBoundary_steady running
  have waits : u.flash.imageSwitch = false := (congrArg Spine.imageSwitch steady).trans none
  rw [State.switchImage_of_none waits, or_self] at run
  have time : u.stitch.timebase = s.stitch.advance.timebase := congrArg Spine.time steady
  exact ⟨u, run, congrArg Timebase.n time, congrArg Timebase.x time, congrArg Timebase.period time, congrArg Timebase.newPeriod time⟩

theorem stitchBoundary_stands {s : State} (stands : s.stitch.running = false) : exec .stitchBoundary s = .next s := by
  show execStitchBoundary s = _
  rw [execStitchBoundary, stands]
  rfl

/-! ### Requests that run out -/

theorem Stitch.relax_of_due {g : Stitch} (above : 0x100 < g.ovrReq) (due : g.ovrSince.passed g.govRelax g.phase = true) :
    g.relax = { g with ovrReq := max 0x100 (g.ovrReq - g.govStep),
                       ovrSince := { g.ovrSince with age := g.ovrSince.age - g.govRelax } } := by
  simp only [Stitch.relax, above, due, decide_true, Bool.and_self, if_true]

theorem Stitch.relax_of_not_due {g : Stitch} (h : g.ovrReq ≤ 0x100 ∨ g.ovrSince.passed g.govRelax g.phase = false) : g.relax = g := by
  obtain low | early := h
  · simp only [Stitch.relax, Nat.not_lt.mpr low, decide_false, Bool.false_and, Bool.false_eq_true, if_false]
  · simp only [Stitch.relax, early, Bool.and_false, Bool.false_eq_true, if_false]

theorem overrunRelax_lowers {s : State} (above : 0x100 < s.stitch.ovrReq)
    (due : s.stitch.ovrSince.passed s.stitch.govRelax s.stitch.phase = true) :
    Answers .overrunRelax s fun t =>
      t.stitch.ovrReq = max 0x100 (s.stitch.ovrReq - s.stitch.govStep) ∧ t.stitch.x = s.stitch.x ∧ SameBut [.stitch] s t := by
  obtain ⟨-, x, -⟩ := s.stitch.relax_fields
  exact ⟨s.onStitch Stitch.relax, rfl, congrArg Stitch.ovrReq (Stitch.relax_of_due above due), x, s.onStitch_frame _⟩

theorem overrunRelax_waits {s : State} (h : s.stitch.ovrReq ≤ 0x100 ∨ s.stitch.ovrSince.passed s.stitch.govRelax s.stitch.phase = false) :
    exec .overrunRelax s = .next s := by
  show Host.Outcome.next (s.onStitch Stitch.relax) = _
  rw [State.onStitch, Stitch.relax_of_not_due h]

theorem Stitch.endHold_some (g : Stitch) (h : Since) : g.endHold (some h) = if h.passed g.govHold g.phase then none else some h := by
  cases passed : h.passed g.govHold g.phase <;> simp [Stitch.endHold, Option.filter, passed]

/-- Settles O10: the boundary does nothing to the time base but the advance; a request that runs out is one field of the stitch. -/
theorem stitchTimebaseRuns : Obligations.StitchTimebaseRuns := by
  refine ⟨fun s none => ⟨stitchBoundary_advances none, stitchBoundary_stands⟩, fun s h => ?_⟩
  have ends (p : Bool) (b : h.passed s.stitch.govHold s.stitch.phase = p) :
      s.stitch.endHold (some h) = if p then none else some h := b ▸ s.stitch.endHold_some h
  refine ⟨overrunRelax_lowers, overrunRelax_waits, fun held passed => ?_, fun held passed => ?_, fun held passed => ?_, fun held waits => ?_⟩
  · exact ⟨_, rfl, (congrArg s.stitch.endHold held).trans (ends true passed), rfl, s.onStitch_frame _⟩
  · exact ⟨_, rfl, (congrArg s.stitch.endHold held).trans (ends true passed), rfl, s.onStitch_frame _⟩
  · exact ⟨_, rfl, (congrArg s.stitch.endHold held).trans (ends true passed), rfl, s.onStitch_frame _⟩
  · have same : s.stitch.endHold s.stitch.holdVM = s.stitch.holdVM := by rw [held, ends false waits]; rfl
    exact congrArg (fun v => Host.Outcome.next { s with stitch := { s.stitch with holdVM := v } }) same

end Sys2Proof.Machine
end

section
/-!
PROOFS. Family 02: LINE_START takes a line, and what follows it in the pipeline leaves the lines started (R67, R262); the last slice of a copy
(R141); VH settles (R239).
-/

namespace Sys2Proof.Machine

/-! ### What the pipeline behind a line start leaves -/

/-- What the start of a line writes into its head. -/
structure Started where
  placed : List PlacedLine
  copy : Nat
  line : Nat
  lines : Word
  vhRead : Nat
  lastDue : Option CopyEnd

/-- The line `pl` of head `h` has been taken, `rest` waits behind it, and VH reads `vh`. -/
def Started.ofTaken (h : Head) (pl : PlacedLine) (rest : List PlacedLine) (vh : Nat) : Started :=
  ⟨rest, pl.copy, pl.line, h.lines + 1, vh, if pl.last then some ⟨pl.job, pl.idx, pl.copy, pl.copies⟩ else h.lastDue⟩

def Head.started (h : Head) : Started := ⟨h.placed, h.copy, h.line, h.lines, h.vhRead, h.lastDue⟩

/-- `t` has the lines of head `x` as they have been started in `s`, and the axes, the welt and the channels of `s`. -/
structure State.StartKept (x : Nat) (s t : State) : Prop where
  head : (t.head x).started = (s.head x).started
  axes : t.axes = s.axes
  welt : t.welt = s.welt
  chans : t.chans = s.chans

namespace State.StartKept
variable {x : Nat} {s t u : State}

theorem refl : s.StartKept x s := ⟨rfl, rfl, rfl, rfl⟩

theorem trans (ht : s.StartKept x t) (hu : t.StartKept x u) : s.StartKept x u :=
  ⟨hu.head.trans ht.head, hu.axes.trans ht.axes, hu.welt.trans ht.welt, hu.chans.trans ht.chans⟩

theorem ite {c : Prop} [Decidable c] (ht : s.StartKept x t) (hu : s.StartKept x u) : s.StartKept x (if c then t else u) := by
  split
  · exact ht
  · exact hu

theorem of_sameBut (h : SameBut [.lanes, .stitch, .dev, .ev, .ports] s t) : s.StartKept x t :=
  ⟨congrArg (fun v => (at' v x).started) (h .heads (by simp)), h .axes (by simp), h .welt (by simp), h .chans (by simp)⟩

end State.StartKept

namespace State
variable {s : State} {x : Nat}

theorem onHead_startKept {f : Head → Head} (hf : ∀ h, (f h).started = h.started) : s.StartKept x (s.onHead x f) := by
  refine ⟨?_, rfl, rfl, rfl⟩
  obtain same | changed := at'_upd_cases s.heads x x f
  · exact congrArg Head.started same
  · exact (congrArg Head.started changed).trans (hf _)

theorem groupFrom_startKept {win : Nat} : s.StartKept x (s.groupFrom x win) := by
  unfold State.groupFrom
  extract_lets
  split
  · exact .refl
  · exact onHead_startKept fun _ => rfl

theorem stageLevels_startKept {cur : List (Nat × Nat)} : s.StartKept x (s.stageLevels x cur) := onHead_startKept fun _ => rfl

theorem stage1_startKept {line : List (Nat × Nat)} : s.StartKept x (s.stage1 x line) := stageLevels_startKept

theorem commitLate_startKept {b : Band} : s.StartKept x (s.commitLate x b) := .of_sameBut <| (s.raise_frame _ _ _ _).mono (by simp)

theorem afterStart_startKept {n : Nat} : s.StartKept x (s.afterStart x n) := by
  unfold State.afterStart
  dsimp only
  split
  · exact .refl
  · refine .ite (stage1_startKept.trans <| onHead_startKept fun _ => by rfl) <| .ite ?_ ?_
    · split
      · exact (onHead_startKept fun _ => by rfl).trans <| (onHead_startKept fun _ => by rfl).trans stage1_startKept
      · exact onHead_startKept fun _ => rfl
    · split
      · exact (onHead_startKept fun _ => by rfl).trans stage1_startKept
      · split
        · exact (onHead_startKept fun _ => by rfl).trans commitLate_startKept
        · exact onHead_startKept fun _ => rfl

theorem afterLine_startKept {n : Nat} : s.StartKept x (s.afterLine x n) := by
  unfold State.afterLine
  split
  · exact afterStart_startKept
  · refine (onHead_startKept fun _ => by rfl).trans <| .ite afterStart_startKept ?_
    split
    · exact stageLevels_startKept
    · exact (onHead_startKept fun _ => by rfl).trans stageLevels_startKept
    · exact onHead_startKept fun _ => rfl

theorem checkOverrun_startKept : s.StartKept x (s.checkOverrun x) := by
  have told (t : State) (f : Stitch → Stitch) : t.StartKept x ((t.onStitch f).raise 6 4 x []) :=
    .of_sameBut <| ((t.onStitch_frame f).mono (by simp)).trans ((State.raise_frame _ _ _ _ _).mono (by simp))
  exact .ite .refl <| .ite (onHead_startKept fun _ => rfl) <| .ite .refl <| (onHead_startKept fun _ => by rfl).trans (told _ _)

theorem stepAside_startKept {i : Nat} : s.StartKept x (s.stepAside i) := .of_sameBut <| (s.stepAside_frame i).mono (by simp)

end State

/-! ### LINE_START (R67) -/

theorem execLineStart_ready (x : Fin 2) (vh : BitVec 9) (s : State) {pl : PlacedLine} {rest : List PlacedLine} {a f : LineOut}
    (placed : (s.head x).placed = pl :: rest) (ready : (s.head x).ready = some a) (fresh : (s.head x).readyFresh = some f) :
    ∃ t, execLineStart x vh s = .next t ∧ t.axes = s.axes ∧ t.welt = s.welt ∧ t.chans = s.chans ∧
      (t.head x).started = .ofTaken (s.head x) pl rest vh.toNat := by
  unfold execLineStart
  extract_lets y h
  split
  · next empty => exact absurd (placed.symm.trans empty) (List.cons_ne_nil _ _)
  · next p tl line =>
    obtain ⟨rfl, rfl⟩ := List.cons.inj (placed.symm.trans line)
    split
    · extract_lets n s1 d want least t gap tint out w s2 s3 s4
      have begun : (s2.head x).started = .ofTaken (s.head x) pl rest vh.toNat := by
        unfold s2 s1 y
        rw [State.head_onHead_fin, State.head_onHead_fin]
        rfl
      have grouped : s2.StartKept x s3 := .ite State.groupFrom_startKept .refl
      have worked : s3.StartKept x s4 := State.afterLine_startKept.trans State.checkOverrun_startKept
      have answers (t : State) (kept : s2.StartKept x t) :
          ∃ u, (Host.Outcome.next t : Host.Outcome State Fault Refusal) = .next u ∧ u.axes = s.axes ∧ u.welt = s.welt ∧
            u.chans = s.chans ∧ (u.head x).started = .ofTaken (s.head x) pl rest vh.toNat :=
        ⟨t, rfl, kept.axes, kept.welt, kept.chans, kept.head.trans begun⟩
      refine answers _ <| grouped.trans <| worked.trans <| .ite ?_ .refl
      split
      · exact .ite State.stepAside_startKept .refl
      · exact .refl
    · next none => exact absurd fresh (none a f ready)

theorem execLineStart_none (x : Fin 2) (vh : BitVec 9) (s : State) (placed : (s.head x).placed = []) :
    execLineStart x vh s = .next s := by
  unfold execLineStart
  simp only [placed]

theorem execLineStart_short (x : Fin 2) (vh : BitVec 9) (s : State) {pl : PlacedLine} {rest : List PlacedLine}
    (placed : (s.head x).placed = pl :: rest) (ready : (s.head x).ready = none) :
    execLineStart x vh s = .next (((s.onHead x fun h => { h with placed := rest }).unplace x).holdShort x) := by
  unfold execLineStart
  simp only [placed, ready]

/-! ### Lanes that fault -/

theorem State.beginStop_frame (s : State) (i : Nat) (goal : LaneState) : SameBut [.lanes] s (s.beginStop i goal) := by
  have path (cs : List Nat) (t : State) :
      SameBut [.lanes] t (cs.foldl (fun s a => if s.headOwns i then s.onLane a fun l => { l with pathStop := true } else s) t) :=
    .foldl (fun u _ => .ite (u.onLane_frame _ _) (.refl _ u)) _ t
  exact .ite (.refl _ s) <| .ite ((s.onLane_frame _ _).trans (path _ _)) (s.onLane_frame _ _)

/-- What follows once a lane is in FAULT leaves the lanes. -/
theorem State.faultTold_frame (s : State) (i code kind : Nat) (args : List Word) :
    SameBut [.jobs, .welt, .dev, .ev, .ports] s ((((s.raise 4 code i args).breakFencesOver i).holdLane i).writeLane i kind) :=
  (((State.raise_frame _ _ _ _ _).mono (by simp)).trans (State.breakFencesOver_frame _ i)).trans <|
    (State.holdLane_frame _ i).trans ((State.writeEntry_frame _ _ _ _ _ _).mono (by simp))

theorem State.faultOne_frame (s : State) (i : Nat) : SameBut [.lanes, .jobs, .welt, .dev, .ev, .ports] s (s.faultOne i) :=
  .ite (.refl _ s) <| ((s.beginStop_frame i .fault).mono (by simp)).trans <|
    ((State.onLane_frame _ _ _).mono (by simp)).trans ((State.faultTold_frame _ _ _ _ _).mono (by simp))

theorem State.faultOne_state (s : State) {i : Nat} (hi : i < 19) : ((s.faultOne i).lane i).state = .fault := by
  unfold State.faultOne
  split
  · next fault => exact fault
  · exact (s.leaveService_lane i .fault 1 hi).1

theorem State.readmitFail_frame (s : State) (i : Nat) :
    SameBut [.jobs, .welt, .dev, .ev, .ports] (s.onLane i fun l => { l with state := .fault, raStep := 0 }) (s.readmitFail i) :=
  State.faultTold_frame _ _ _ _ _

theorem State.readmitFail_state (s : State) {i : Nat} (hi : i < 19) : ((s.readmitFail i).lane i).state = .fault := by
  have lane : (s.readmitFail i).lane i = { s.lane i with state := .fault, raStep := 0 } :=
    (congrArg (at' · i) (s.readmitFail_frame i .lanes (by simp))).trans (s.lane_onLane i _ hi)
  rw [lane]

/-- The lane is the check of a RE_ADMIT that is being stopped. -/
def Lane.checkStops (l : Lane) : Bool := l.state == .readmit && l.stopTo == .stopped

/-- What a stop that has come to rest writes into its lane. -/
def Lane.rest (check : Bool) (gateDone : QItem → Bool) (l : Lane) : Lane :=
  { l with stopping := false, state := if l.inService || check then l.stopTo else l.state,
           raStep := if check then 5 else l.raStep, settledStop := l.settledStop || l.running.any gateDone }

/-- The state once a stop has come to rest in its lane, before the record that ran there is told. -/
def State.rested (s : State) (i : Nat) : State :=
  if (s.lane i).stopping then s.onLane i (Lane.rest (s.lane i).checkStops s.gateDone) else s

theorem State.cameToRest_rested (s : State) (i : Nat) : SameBut [.jobs, .welt] (s.rested i) (s.cameToRest i) := by
  unfold State.rested State.cameToRest
  cases stopping : (s.lane i).stopping
  · simp only [stopping, Bool.not_false, if_true, Bool.false_eq_true, if_false]
    exact .refl _ s
  · simp only [stopping, Bool.not_true, Bool.false_eq_true, if_false, if_true]
    split
    · exact ((State.gateStopped_frame _ _).mono (by simp)).trans ((State.onRec_frame _ _ _ _).mono (by simp))
    · exact .refl _ _

theorem State.cameToRest_frame (s : State) (i : Nat) : SameBut [.lanes, .jobs, .welt] s (s.cameToRest i) := by
  have rested : SameBut [.lanes, .jobs, .welt] s (s.rested i) := .ite ((s.onLane_frame _ _).mono (by simp)) (.refl _ s)
  exact rested.trans ((s.cameToRest_rested i).mono (by simp))

/-- A lane that has left service with a fault stays in FAULT when its stop comes to rest. -/
theorem State.cameToRest_fault (s : State) {i : Nat} (hi : i < 19) (fault : (s.lane i).state = .fault) :
    ((s.cameToRest i).lane i).state = .fault := by
  have lane : (s.cameToRest i).lane i = (s.rested i).lane i := congrArg (at' · i) (s.cameToRest_rested i .lanes (by simp))
  rw [lane, State.rested]
  split
  · rw [s.lane_onLane i _ hi]
    simp [Lane.rest, Lane.checkStops, Lane.inService, fault]
  · exact fault

theorem State.holdShort_fault (s : State) (x : Fin 2) : ((s.holdShort x).lane x).state = .fault := State.faultOne_state _ (by omega)

theorem State.holdShort_placed (s : State) (x : Fin 2) : ((s.holdShort x).head x).placed = (s.head x).placed := by
  have heads : SameBut [.lanes, .jobs, .welt, .dev, .ev, .ports] (s.onHead x fun h => { h with cutOff := true }) (s.holdShort x) :=
    ((State.raise_frame _ _ _ _ _).mono (by simp)).trans (State.faultOne_frame _ _)
  have head : (s.holdShort x).head x = { s.head x with cutOff := true } :=
    (congrArg (at' · x.val) (heads .heads (by simp))).trans (s.head_onHead_fin x _)
  rw [head]

theorem State.unplace_placed (s : State) (x : Fin 2) : ((s.unplace x).head x).placed = [] := by
  rw [State.unplace, State.head_onHead_fin]

/-! ### LAST_SLICE_END (R141) -/

/-- The lane holds record `q` no more. -/
def Lane.Without (q : QItem) (l : Lane) : Prop := l.running ≠ some q ∧ q ∉ l.tail ∧ q ∉ l.queue

section
variable {q : QItem} {i : Nat}

theorem State.onLane_without (s : State) (j : Nat) {f : Lane → Lane} (hf : ∀ l, l.Without q → (f l).Without q)
    (gone : (s.lane i).Without q) : ((s.onLane j f).lane i).Without q := by
  obtain same | changed := at'_upd_cases s.lanes j i f
  · exact (congrArg (Lane.Without q) same).mpr gone
  · exact (congrArg (Lane.Without q) changed).mpr (hf _ gone)

theorem SameBut.without {s t : State} (h : SameBut [.jobs, .welt, .dev, .ev, .ports, .heads] s t) (gone : (s.lane i).Without q) :
    (t.lane i).Without q := by
  have lane : t.lane i = s.lane i := congrArg (at' · i) (h .lanes (by simp))
  rwa [lane]

theorem State.dropItem_without (s : State) (hi : i < 19) : ((s.dropItem i q).lane i).Without q := by
  rw [State.dropItem, State.lane_onLane _ _ _ hi, Lane.norm_eq]
  refine ⟨?_, by simp, by simp⟩
  dsimp only
  split
  · exact nofun
  · next other => exact other

theorem State.endRecord_without (s : State) (hi : i < 19) : ((s.endRecord i q).lane i).Without q := by
  have marked (t : State) (gone : (t.lane i).Without q) :
      (((t.onRec q.job q.idx fun r => { r with outcome := .ended }).queueMark 2 q.idx 0 q.job).lane i).Without q :=
    SameBut.without (((State.onRec_frame _ _ _ _).mono (by simp)).trans ((State.queueMark_frame _ _ _ _ _).mono (by simp))) gone
  have told (t : State) (gone : (t.lane i).Without q) : (((t.gateEnded q).checkDone q.job).lane i).Without q :=
    SameBut.without (((State.gateEnded_frame _ _).mono (by simp)).trans ((State.checkDone_frame _ _).mono (by simp))) gone
  refine told _ ?_
  split
  · exact State.onLane_without _ i (fun _ gone => gone) <|
      SameBut.without ((State.flushMarks_frame _).mono (by simp)) (marked _ (s.dropItem_without hi))
  · exact marked _ (s.dropItem_without hi)

theorem State.beginStop_without (s : State) (j : Nat) (goal : LaneState) (gone : (s.lane i).Without q) :
    ((s.beginStop j goal).lane i).Without q := by
  have path (cs : List Nat) (t : State) (gone : (t.lane i).Without q) :
      ((cs.foldl (fun s a => if s.headOwns j then s.onLane a fun l => { l with pathStop := true } else s) t).lane i).Without q := by
    induction cs generalizing t with
    | nil => exact gone
    | cons a rest ih =>
      refine ih _ ?_
      dsimp only
      split
      · exact t.onLane_without a (fun _ gone => gone) gone
      · exact gone
  unfold State.beginStop
  split
  · exact gone
  · have stopping := s.onLane_without j (f := fun l => { l with stopping := true, stopTo := goal }) (fun _ gone => gone) gone
    dsimp only
    split
    · exact path _ _ stopping
    · exact stopping

theorem State.cameToRest_without (s : State) (j : Nat) (gone : (s.lane i).Without q) : ((s.cameToRest j).lane i).Without q := by
  refine SameBut.without ((s.cameToRest_rested j).mono (by simp)) ?_
  rw [State.rested]
  split
  · exact s.onLane_without j (fun _ gone => gone) gone
  · exact gone

theorem State.stoppedWith_without (s : State) (x : Nat) (gone : (s.lane i).Without q) : ((s.stoppedWith x).lane i).Without q :=
  State.cameToRest_without _ x (s.onLane_without x (fun _ gone => gone) gone)

theorem State.onHead_without (s : State) (x : Nat) (f : Head → Head) (gone : (s.lane i).Without q) : ((s.onHead x f).lane i).Without q :=
  SameBut.without ((s.onHead_frame x f).mono (by simp)) gone

end

theorem State.printEnded_without (s : State) (x : Fin 2) (q : QItem) : ((s.printEnded x q).lane x).Without q := by
  have ended : ((((s.endRecord x q).dropPrint x q.job q.idx).onHead x fun h =>
      if h.job = q.job ∧ h.idx = q.idx then { h with typ := 0 } else h).lane x).Without q :=
    State.onHead_without _ _ _ <| State.onHead_without _ _ _ <| s.endRecord_without (by omega)
  unfold State.printEnded
  dsimp only
  split
  · have told := State.onHead_without _ x (fun h => { h with stopAfter := false }) ended
    split
    · exact State.beginStop_without _ _ _ told
    · exact State.stoppedWith_without _ _ told
  · exact ended

theorem State.endRecord_frame (s : State) (i : Nat) (q : QItem) :
    SameBut [.lanes, .jobs, .welt, .dev, .ev, .ports] s (s.endRecord i q) := by
  have marked : SameBut [.lanes, .jobs, .welt, .dev, .ev, .ports] s
      (((s.dropItem i q).onRec q.job q.idx fun r => { r with outcome := .ended }).queueMark 2 q.idx 0 q.job) :=
    ((s.dropItem_frame i q).mono (by simp)).trans <|
      ((State.onRec_frame _ _ _ _).mono (by simp)).trans ((State.queueMark_frame _ _ _ _ _).mono (by simp))
  have flushed (t : State) (f : Lane → Lane) : SameBut [.lanes, .jobs, .welt, .dev, .ev, .ports] t (t.flushMarks.onLane i f) :=
    (t.flushMarks_frame.mono (by simp)).trans ((State.onLane_frame _ _ _).mono (by simp))
  have told (t : State) : SameBut [.lanes, .jobs, .welt, .dev, .ev, .ports] t ((t.gateEnded q).checkDone q.job) :=
    ((t.gateEnded_frame q).mono (by simp)).trans ((State.checkDone_frame _ _).mono (by simp))
  exact marked.trans <| .trans (.ite (flushed _ _) (.refl _ _)) (told _)

theorem State.stoppedWith_frame (s : State) (x : Nat) : SameBut [.lanes, .jobs, .welt] s (s.stoppedWith x) :=
  ((s.onLane_frame _ _).mono (by simp)).trans (State.cameToRest_frame _ _)

theorem State.onHead_lastDue (s : State) (x : Fin 2) {f : Head → Head} (hf : ∀ h, (f h).lastDue = h.lastDue) :
    ((s.onHead x f).head x).lastDue = (s.head x).lastDue :=
  (congrArg Head.lastDue (s.head_onHead_fin x f)).trans (hf _)

theorem SameBut.lastDue {s t : State} (x : Nat) (h : SameBut [.lanes, .jobs, .welt, .dev, .ev, .ports] s t) :
    (t.head x).lastDue = (s.head x).lastDue :=
  congrArg (fun v => (at' v x).lastDue) (h .heads (by simp))

theorem State.dropPrint_lastDue (s : State) (x : Fin 2) (job : Word) (idx : Nat) :
    ((s.dropPrint x job idx).head x).lastDue = (s.head x).lastDue := by
  rw [State.dropPrint, State.head_onHead_fin]

theorem State.printEnded_lastDue (s : State) (x : Fin 2) (q : QItem) : ((s.printEnded x q).head x).lastDue = (s.head x).lastDue := by
  have ended : ((((s.endRecord x q).dropPrint x q.job q.idx).onHead x fun h =>
      if h.job = q.job ∧ h.idx = q.idx then { h with typ := 0 } else h).head x).lastDue = (s.head x).lastDue :=
    (State.onHead_lastDue _ _ fun h => by split <;> rfl).trans <| (State.dropPrint_lastDue _ _ _ _).trans <|
      (s.endRecord_frame x q).lastDue x
  unfold State.printEnded
  dsimp only
  split
  · have told := (State.onHead_lastDue _ x (f := fun h => { h with stopAfter := false }) fun _ => rfl).trans ended
    split
    · exact (SameBut.lastDue x ((State.beginStop_frame _ _ _).mono (by simp))).trans told
    · exact (SameBut.lastDue x ((State.stoppedWith_frame _ _).mono (by simp))).trans told
  · exact ended

/-- The mark COPY_DONE of a PRINT of several copies. -/
def State.copyMark (s : State) (c : CopyEnd) (q : QItem) : State :=
  if q.r.typ = tPrint ∧ 1 < c.copies then s.queueMark 4 c.idx c.copy c.job else s

theorem State.copyMark_frame (s : State) (c : CopyEnd) (q : QItem) : SameBut [.welt] s (s.copyMark c q) :=
  .ite (s.queueMark_frame _ _ _ _) (.refl _ s)

section
variable (x : Fin 2) (s : State) {c : CopyEnd} {q : QItem} (due : (s.head x).lastDue = some c)
  (item : (s.lane x).itemOf c.job c.idx = some q)

theorem execLastSliceEnd_none (never : (s.head x).lastDue = none) : execLastSliceEnd x s = .next s := by
  unfold execLastSliceEnd
  simp only [never]

include due item

theorem execLastSliceEnd_copy (more : c.copy < c.copies) :
    execLastSliceEnd x s = .next ((s.onHead x fun h => { h with lastDue := none }).copyMark c q) := by
  have held : ((s.onHead x fun h => { h with lastDue := none }).lane x).itemOf c.job c.idx = some q := item
  unfold execLastSliceEnd
  simp only [due, held, more, if_true]
  rfl

theorem execLastSliceEnd_last (last : c.copies ≤ c.copy) (whole : q.r.typ = tPattern → (s.head x).pattern ≠ 1) :
    execLastSliceEnd x s = .next (((s.onHead x fun h => { h with lastDue := none }).copyMark c q).printEnded x q) := by
  have held : ((s.onHead x fun h => { h with lastDue := none }).lane x).itemOf c.job c.idx = some q := item
  unfold execLastSliceEnd
  simp only [due, held, Nat.not_lt.mpr last, if_false]
  refine if_neg ?_
  rintro ⟨pattern, cut, -⟩
  have head : (((s.onHead x fun h => { h with lastDue := none }).copyMark c q).head x).pattern = (s.head x).pattern :=
    (congrArg (fun v => (at' v x.val).pattern) (State.copyMark_frame _ c q .heads (by simp))).trans
      (congrArg Head.pattern (s.head_onHead_fin x _))
  exact whole pattern (head.symm.trans cut)

end

theorem lastSliceEnd_copy (x : Fin 2) (s : State) {c : CopyEnd} {q : QItem} (due : (s.head x).lastDue = some c)
    (item : (s.lane x).itemOf c.job c.idx = some q) (more : c.copy < c.copies) :
    Answers (.lastSliceEnd x) s fun t => (t.head x).lastDue = none ∧ t.lanes = s.lanes ∧ SameBut [.heads, .welt] s t := by
  have frame : SameBut [.heads, .welt] s ((s.onHead x fun h => { h with lastDue := none }).copyMark c q) :=
    ((s.onHead_frame _ _).mono (by simp)).trans ((State.copyMark_frame _ _ _).mono (by simp))
  have head : (((s.onHead x fun h => { h with lastDue := none }).copyMark c q).head x).lastDue = none :=
    (SameBut.lastDue x ((State.copyMark_frame _ _ _).mono (by simp))).trans (congrArg Head.lastDue (s.head_onHead_fin x _))
  exact ⟨_, execLastSliceEnd_copy x s due item more, head, frame .lanes (by simp), frame⟩

theorem lastSliceEnd_last (x : Fin 2) (s : State) {c : CopyEnd} {q : QItem} (due : (s.head x).lastDue = some c)
    (item : (s.lane x).itemOf c.job c.idx = some q) (last : c.copies ≤ c.copy)
    (whole : q.r.typ = tPattern → (s.head x).pattern ≠ 1) :
    Answers (.lastSliceEnd x) s fun t => (t.head x).lastDue = none ∧ (t.lane x).Without q := by
  have head : (((s.onHead x fun h => { h with lastDue := none }).copyMark c q).head x).lastDue = none :=
    (SameBut.lastDue x ((State.copyMark_frame _ _ _).mono (by simp))).trans (congrArg Head.lastDue (s.head_onHead_fin x _))
  exact ⟨_, execLastSliceEnd_last x s due item last whole, (State.printEnded_lastDue _ x q).trans head, State.printEnded_without _ x q⟩

/-! ### VH_SETTLE_END (R239) -/

theorem State.onHead_onlyHead (s : State) (x : Nat) (f : Head → Head) : OnlyHead x s (s.onHead x f) :=
  ⟨s.onHead_frame x f, fun j ne => at'_upd_ne s.heads x j f ne⟩

theorem OnlyHead.trans {x : Nat} {s t u : State} (ht : OnlyHead x s t) (hu : OnlyHead x t u) : OnlyHead x s u :=
  ⟨ht.1.trans hu.1, fun j ne => (hu.2 j ne).trans (ht.2 j ne)⟩

theorem State.scanFailed_vhen (s : State) (x : Fin 2) : ((s.scanFailed x).head x).vhen = (s.head x).vhen := by
  have ended : ((s.scanEnd x 4).head x).vhen = (s.head x).vhen :=
    (congrArg (fun v => (at' v x.val).vhen) (State.raise_frame _ _ _ _ _ .heads (by simp))).trans
      (congrArg Head.vhen (s.head_onHead_fin x _))
  unfold State.scanFailed
  dsimp only
  split
  · have heads : ((s.scanEnd x 4).readmitFail x).heads = (s.scanEnd x 4).heads := State.readmitFail_frame _ _ .heads (by simp)
    exact (congrArg (fun v => (at' v x.val).vhen) heads).trans ended
  · have heads : (((s.scanEnd x 4).faultOne x).cameToRest x).heads = (s.scanEnd x 4).heads :=
      (State.cameToRest_frame _ _ .heads (by simp)).trans (State.faultOne_frame _ _ .heads (by simp))
    exact (congrArg (fun v => (at' v x.val).vhen) heads).trans ended

theorem State.scanFailed_fault (s : State) (x : Fin 2) : ((s.scanFailed x).lane x).state = .fault := by
  unfold State.scanFailed
  dsimp only
  split
  · exact State.readmitFail_state _ (by omega)
  · exact State.cameToRest_fault _ (by omega) (State.faultOne_state _ (by omega))

/-- Head `x` has taken a reading of VH. -/
def State.vhTaken (s : State) (x vh : Nat) : State := s.onHead x fun h => { h with vhRead := vh }

/-- VH has settled well; a second wait counts as a transient. -/
def Head.settled (h : Head) : Head := { h with settle := 0, vhTr := if h.settle = 2 then satInc 4095 h.vhTr else h.vhTr }

/-- VH has failed to settle: its supply is off. -/
def State.vhLost (s : State) (x : Nat) : State := s.onHead x fun h => { h with settle := 0, vhen := false }

section
variable (x : Fin 2) (vh : BitVec 9) (s : State)

theorem execVhSettleEnd_none (never : (s.head x).settle = 0) : execVhSettleEnd x vh s = .next s := by
  unfold execVhSettleEnd
  simp only [never, if_true]

theorem execVhSettleEnd_well (waits : (s.head x).settle ≠ 0) (well : (s.desc x).vhOk vh.toNat = true) :
    execVhSettleEnd x vh s = .next ((s.vhTaken x vh.toNat).onHead x Head.settled) := by
  unfold execVhSettleEnd
  simp only [waits, well, if_true, if_false]
  rfl

theorem execVhSettleEnd_again (first : (s.head x).settle = 1) (bad : (s.desc x).vhOk vh.toNat = false) :
    execVhSettleEnd x vh s = .next ((s.vhTaken x vh.toNat).onHead x fun h => { h with settle := 2 }) := by
  unfold execVhSettleEnd
  simp only [first, bad, Nat.one_ne_zero, Bool.false_eq_true, if_true, if_false]
  rfl

theorem execVhSettleEnd_lost (second : (s.head x).settle = 2) (bad : (s.desc x).vhOk vh.toNat = false) :
    execVhSettleEnd x vh s = .next (if (s.head x).sstate = 1 then ((s.vhTaken x vh.toNat).vhLost x).scanFailed x
      else ((s.vhTaken x vh.toNat).vhLost x).faultOne x) := by
  unfold execVhSettleEnd
  simp only [second, bad, OfNat.ofNat_ne_zero, Nat.reduceEqDiff, Bool.false_eq_true, if_false]
  rfl

theorem vhTaken_head (f : Head → Head) :
    ((s.vhTaken x vh.toNat).onHead x f).head x = f { s.head x with vhRead := vh.toNat } := by
  rw [State.head_onHead_fin, State.vhTaken, State.head_onHead_fin]

theorem vhTaken_onlyHead (f : Head → Head) : OnlyHead x s ((s.vhTaken x vh.toNat).onHead x f) :=
  (s.onHead_onlyHead _ _).trans (State.onHead_onlyHead _ _ _)

theorem vhSettleEnd_well (waits : (s.head x).settle ≠ 0) (well : (s.desc x).vhOk vh.toNat = true) :
    Answers (.vhSettleEnd x vh) s fun t =>
      (t.head x).settle = 0 ∧ (t.head x).vhRead = vh.toNat ∧ (t.head x).vhen = (s.head x).vhen ∧ OnlyHead x s t := by
  refine ⟨_, execVhSettleEnd_well x vh s waits well, ?_⟩
  have head := vhTaken_head x vh s Head.settled
  exact ⟨congrArg Head.settle head, congrArg Head.vhRead head, (congrArg Head.vhen head).trans rfl, vhTaken_onlyHead x vh s _⟩

theorem vhSettleEnd_again (first : (s.head x).settle = 1) (bad : (s.desc x).vhOk vh.toNat = false) :
    Answers (.vhSettleEnd x vh) s fun t => (t.head x).settle = 2 ∧ OnlyHead x s t := by
  have head := vhTaken_head x vh s fun h => { h with settle := 2 }
  exact ⟨_, execVhSettleEnd_again x vh s first bad, congrArg Head.settle head, vhTaken_onlyHead x vh s _⟩

theorem vhSettleEnd_lost (second : (s.head x).settle = 2) (bad : (s.desc x).vhOk vh.toNat = false) :
    Answers (.vhSettleEnd x vh) s fun t => (t.head x).vhen = false ∧ (t.lane x).state = .fault := by
  have off : (((s.vhTaken x vh.toNat).vhLost x).head x).vhen = false := congrArg Head.vhen (vhTaken_head x vh s _)
  refine ⟨_, execVhSettleEnd_lost x vh s second bad, ?_⟩
  split
  · exact ⟨(State.scanFailed_vhen _ x).trans off, State.scanFailed_fault _ x⟩
  · have heads := State.faultOne_frame ((s.vhTaken x vh.toNat).vhLost x) x .heads (by simp)
    exact ⟨(congrArg (fun v => (at' v x.val).vhen) heads).trans off, State.faultOne_state _ (by omega)⟩

end

/-- LINE_START with its masks ready (R67, R262). -/
theorem lineStart_ready (x : Fin 2) (vh : BitVec 9) (s : State) {pl : PlacedLine} {rest : List PlacedLine} {a f : LineOut}
    (placed : (s.head x).placed = pl :: rest) (ready : (s.head x).ready = some a) (fresh : (s.head x).readyFresh = some f) :
    Answers (.lineStart x vh) s fun t =>
      (t.head x).placed = rest ∧ (t.head x).copy = pl.copy ∧ (t.head x).line = pl.line ∧
        (t.head x).lines = (s.head x).lines + 1 ∧ (t.head x).vhRead = vh.toNat ∧
        (t.head x).lastDue = (if pl.last then some ⟨pl.job, pl.idx, pl.copy, pl.copies⟩ else (s.head x).lastDue) ∧
        t.axes = s.axes ∧ t.welt = s.welt ∧ t.chans = s.chans := by
  obtain ⟨t, next, axes, welt, chans, started⟩ := execLineStart_ready x vh s placed ready fresh
  exact ⟨t, next, congrArg Started.placed started, congrArg Started.copy started, congrArg Started.line started,
    congrArg Started.lines started, congrArg Started.vhRead started, congrArg Started.lastDue started, axes, welt, chans⟩

/-- Settles O35: what a line start writes is left by the pipeline behind it; a record that has ended stands nowhere in its lane
whatever stops with it; the lane of a VH that fails twice is in FAULT, by the scan that fails or of itself. -/
theorem linesStartAndEnd : Obligations.LinesStartAndEnd := by
  intro x vh s
  refine ⟨fun pl rest a f placed ready fresh => lineStart_ready x vh s placed ready fresh, execLineStart_none x vh s, ?short,
    execLastSliceEnd_none x s, fun c q due item _ more => lastSliceEnd_copy x s due item more,
    fun c q due item last whole => lastSliceEnd_last x s due item last whole, vhSettleEnd_well x vh s, vhSettleEnd_again x vh s,
    vhSettleEnd_lost x vh s, execVhSettleEnd_none x vh s⟩
  intro pl rest placed ready
  exact ⟨_, execLineStart_short x vh s placed ready, State.holdShort_fault _ x,
    (State.holdShort_placed _ x).trans (State.unplace_placed _ x)⟩

end Sys2Proof.Machine
end

section
/-! PROOFS. Family 02: the boundary at which SLEEP is entered also adopts the words that are due, and a head they leave without dots goes OUT. -/

namespace Sys2Proof.Machine

/-- On the way to SLEEP, all at rest, with a commit that takes head 0's dots away due at the next boundary. -/
def headGoneAtSleep : State :=
  let s := State.reset
  { s with
    dev := { s.dev with st := .ready }
    stitch := { s.stitch with running := true }
    power := { s.power with entering := true }
    tbl := { s.tbl with due := [(0, 0)] } }

theorem headGoneAtSleep_maySleep : headGoneAtSleep.maySleep = true := by decide +kernel

theorem headGoneAtSleep_idle : (headGoneAtSleep.lane 0).state = .idle := by decide +kernel

theorem execStitchBoundary_of_entering (s : State) (running : s.stitch.running = true) (entering : s.power.entering = true)
    (rest : s.maySleep = true) : execStitchBoundary s = .next (s.onStitch Stitch.advance).adoptDue.enterSleep := by
  simp only [execStitchBoundary, running, entering, rest, Bool.not_true, Bool.and_self, Bool.false_eq_true, if_false, if_true]

theorem headGoneAtSleep_out : ((headGoneAtSleep.onStitch Stitch.advance).adoptDue.enterSleep.lane 0).state = .out := by decide +kernel

/-- Refutes O53: the boundary that completes the entry to SLEEP also brings a due commit into force (R20), and the head lane it leaves without
dots goes OUT (R227), so the lanes do not all stay as they were. -/
theorem not_domainsAndSleep : ¬ Obligations.DomainsAndSleep := by
  intro h
  obtain ⟨-, -, -, -, -, -, -, -, boundary, -⟩ := h 0 0 headGoneAtSleep
  obtain ⟨t, run, -, -, -, -, -, lanes, -, -⟩ := boundary rfl rfl headGoneAtSleep_maySleep
  have after : t = (headGoneAtSleep.onStitch Stitch.advance).adoptDue.enterSleep :=
    Host.Outcome.next.inj (run.symm.trans (execStitchBoundary_of_entering _ rfl rfl headGoneAtSleep_maySleep))
  have out : (t.lane 0).state = .out := after ▸ headGoneAtSleep_out
  have same : t.lane 0 = headGoneAtSleep.lane 0 := congrArg (at' · 0) lanes
  rw [same, headGoneAtSleep_idle] at out
  exact LaneState.noConfusion out

end Sys2Proof.Machine
end

section
/-!
PROOFS. The link: what a change of one port leaves, what reaches the wire, and a receiver that holds no characters (R74, R492, R496).
-/

namespace Sys2Proof.Machine

/-! ### States that differ in one port -/

theorem OnlyPort.refl (p : Nat) (s : State) : OnlyPort p s s := ⟨.refl _ s, fun _ _ => rfl⟩

theorem OnlyPort.trans {p : Nat} {s t u : State} (ht : OnlyPort p s t) (hu : OnlyPort p t u) : OnlyPort p s u :=
  ⟨ht.1.trans hu.1, fun j hj => (hu.2 j hj).trans (ht.2 j hj)⟩

theorem OnlyPort.ite {p : Nat} {s t u : State} {c : Prop} [Decidable c] (ht : OnlyPort p s t) (hu : OnlyPort p s u) :
    OnlyPort p s (if c then t else u) := by
  split
  · exact ht
  · exact hu

theorem State.onPort_onPort (s : State) (p : Nat) (f g : Port → Port) : (s.onPort p f).onPort p g = s.onPort p fun q => g (f q) := by
  simp only [State.onPort, upd_upd]

theorem State.port_congr {s t : State} (h : t.ports = s.ports) (p : Nat) : t.port p = s.port p := congrArg (at' · p) h

theorem Answers.of_next {c : Instr} {s t : State} {P : State → Prop} (run : exec c s = .next t) (h : P t) : Answers c s P := ⟨t, run, h⟩

/-- A command that changes one port, to `q`. -/
theorem Answers.of_port {c : Instr} {s : State} {p : Fin 2} {P : State → Prop} {f : Port → Port} {q : Port}
    (run : exec c s = .next (s.onPort p f)) (port : f (s.port p) = q) (h : ∀ t, t.port p = q → OnlyPort p s t → P t) : Answers c s P :=
  ⟨_, run, h _ ((s.port_onPort_fin p f).trans port) (s.onPort_onlyPort p f)⟩

/-! ### A receiver that holds no characters -/

theorem State.hunt_of_empty (p : Nat) (s : State) (h : (s.port p).rxRing = []) : State.hunt p (s.port p).rxRing.length s = s := by
  rw [h]; rfl

theorem State.arrive_of_quiet {p : Fin 2} {s : State} (h : s.quietRx p) : s.arrive p = s := by
  obtain ⟨-, ring, fifo⟩ := h
  simp only [State.arrive, s.takeChars_of_empty p ring fifo, ring, List.length_nil, State.breakOff]

/-- A frame that comes to a port without waiting characters is executed on the state as it stands. -/
theorem State.framed_of_quiet {p : Fin 2} {s : State} (h : s.quietRx p) (f : State → State) : s.framed p f = f s := by
  rw [State.framed, if_pos h.1, State.arrive_of_quiet h]

theorem State.heard_of_not_confirm {p : Fin 2} {s : State} (h : (s.port p).st ≠ .confirm) : s.heard p = s.clearWire p := by
  have st : ((s.clearWire p).port p).st ≠ .confirm := by rw [State.clearWire, State.port_onPort_fin]; exact h
  exact if_neg st

/-! ### What reaches the wire (R98, R496) -/

/-- The port with frames put on its wire. -/
def Port.onWire (q : Port) (fs : List Frame) : Port := { q with wire := q.wire ++ fs }

@[simp] theorem Port.onWire_st (q : Port) (fs : List Frame) : (q.onWire fs).st = q.st := rfl
@[simp] theorem Port.onWire_rev (q : Port) (fs : List Frame) : (q.onWire fs).rev = q.rev := rfl
@[simp] theorem Port.onWire_div (q : Port) (fs : List Frame) : (q.onWire fs).div = q.div := rfl
@[simp] theorem Port.onWire_nextRx (q : Port) (fs : List Frame) : (q.onWire fs).nextRx = q.nextRx := rfl
@[simp] theorem Port.onWire_txq (q : Port) (fs : List Frame) : (q.onWire fs).txq = q.txq := rfl
@[simp] theorem Port.onWire_wire (q : Port) (fs : List Frame) : (q.onWire fs).wire = q.wire ++ fs := rfl
@[simp] theorem Port.onWire_errLimit (q : Port) (fs : List Frame) : (q.onWire fs).errLimit = q.errLimit := rfl
@[simp] theorem Port.onWire_errWin (q : Port) (fs : List Frame) : (q.onWire fs).errWin = q.errWin := rfl
@[simp] theorem Port.onWire_buckets (q : Port) (fs : List Frame) : (q.onWire fs).buckets = q.buckets := rfl
@[simp] theorem Port.onWire_cts (q : Port) (fs : List Frame) : (q.onWire fs).cts = q.cts := rfl

theorem Port.onWire_onWire (q : Port) (fs gs : List Frame) : (q.onWire fs).onWire gs = q.onWire (fs ++ gs) := by
  simp only [Port.onWire, List.append_assoc]

theorem Port.emit_of_cts {q : Port} (h : q.cts = true) (f : Frame) : q.emit f = q.onWire [f] := if_pos h

theorem Port.control_of_cts {q : Port} (h : q.cts = true) (typ : Nat) (emerg : Bool) (payload : List Word) :
    q.control typ emerg payload = q.onWire [⟨typ, emerg, 0, if emerg then q.eNextRx else q.nextRx, payload, 1, [], none⟩] :=
  Port.emit_of_cts h _

theorem Port.emitAll_of_cts {q : Port} (h : q.cts = true) (fs : List Frame) : q.emitAll fs = q.onWire fs := by
  induction fs generalizing q with
  | nil => simp only [Port.emitAll, List.foldl_nil, Port.onWire, List.append_nil]
  | cons f fs ih =>
    have step : q.emitAll (f :: fs) = (q.emit f).emitAll fs := rfl
    have open' : (q.onWire [f]).cts = true := h
    rw [step, Port.emit_of_cts h, ih open', Port.onWire_onWire, List.singleton_append]

/-- The port with other frames on its wire and other frames held back from it. -/
def Port.setWire (q : Port) (wire held : List Frame) : Port := { q with wire := wire, held := held }

/-- A frame put on the wire, or held back from it, changes nothing else of the port. -/
theorem Port.emit_setWire (q : Port) (f : Frame) : ∃ w h, q.emit f = q.setWire w h := by
  unfold Port.emit
  split
  · exact ⟨_, _, rfl⟩
  · exact ⟨_, _, rfl⟩

theorem Port.control_setWire (q : Port) (typ : Nat) (emerg : Bool) (payload : List Word) :
    ∃ w h, q.control typ emerg payload = q.setWire w h := q.emit_setWire _

theorem Port.emitAll_setWire (q : Port) (fs : List Frame) : ∃ w h, q.emitAll fs = q.setWire w h := by
  induction fs generalizing q with
  | nil => exact ⟨q.wire, q.held, rfl⟩
  | cons f fs ih =>
    obtain ⟨w, h, put⟩ := q.emit_setWire f
    obtain ⟨w', h', rest⟩ := ih (q.emit f)
    exact ⟨w', h', rest.trans (by rw [put]; rfl)⟩

end Sys2Proof.Machine
end

section
/-!
PROOFS. Bytes, characters and statistics of a host port (R74, R91, R98, R105, R488, R492..R496).
-/

namespace Sys2Proof.Machine

/-! ### Bytes, error buckets, flow control -/

theorem strayByte_counts {p : Fin 2} {s : State} (h : s.hears = true) :
    Answers (.strayByte p) s fun t => t.port p = { s.port p with stray := (s.port p).stray + 1 } ∧ OnlyPort p s t :=
  have run : exec (.strayByte p) s = .next (s.onPort p fun q => { q with stray := q.stray + 1 }) := congrArg Host.Outcome.next (if_pos h)
  .of_port run rfl fun _ => And.intro

theorem errBucketTick_opens (p : Fin 2) (s : State) :
    Answers (.errBucketTick p) s fun t =>
      (t.port p).buckets = (0 :: (s.port p).buckets).take 255 ∧ (t.port p).st = (s.port p).st ∧ OnlyPort p s t := by
  refine .of_port rfl rfl fun t port only => ?_
  rw [port]
  exact ⟨rfl, rfl, only⟩

theorem ctsChange_shuts (p : Fin 2) (s : State) :
    Answers (.ctsChange p false) s fun t => t.port p = { s.port p with cts := false } ∧ OnlyPort p s t :=
  .of_port rfl rfl fun _ => And.intro

/-- The host lets the port transmit: the frames held go, in their order (R98). -/
theorem ctsChange_opens {p : Fin 2} {s : State} (h : (s.port p).upOnAck = false) :
    Answers (.ctsChange p true) s fun t =>
      (t.port p).cts = true ∧ (t.port p).held = [] ∧ ((s.port p).held = [] → (t.port p).wire = (s.port p).wire) ∧ OnlyPort p s t := by
  refine ⟨_, rfl, ?_⟩
  simp only [h, Bool.false_eq_true, if_false]
  refine ⟨?_, ?_, fun none => ?_, s.onPort_onlyPort p _⟩
  · rw [State.port_onPort_fin]
  · rw [State.port_onPort_fin]
  · rw [State.port_onPort_fin]
    simp only [none, List.filter_nil, List.isEmpty_nil, if_true]

theorem clrStats_zeroes (p : Fin 2) (s : State) :
    Answers (.clrStats p) s fun t =>
      (t.port p).crcErr = 0 ∧ (t.port p).fmtErr = 0 ∧ (t.port p).retxOk = 0 ∧ (t.port p).resync = 0 ∧ (t.port p).fallbacks = 0 ∧
        (t.port p).stray = 0 ∧ (t.port p).noise = 0 ∧ (t.port p).buckets = (s.port p).buckets ∧ OnlyPort p s t := by
  refine .of_port rfl rfl fun t port only => ?_
  rw [port]
  exact ⟨rfl, rfl, rfl, rfl, rfl, rfl, rfl, rfl, only⟩

/-! ### Characters (R488, R492, R494) -/

/-- The noise flag of a character counted (R91, R105). -/
def Port.heardNoise (q : Port) (noise : Bool) : Port := if noise then { q with noiseSeen := true, noise := q.noise + 1 } else q

theorem Port.heardNoise_eq (q : Port) (noise : Bool) :
    q.heardNoise noise = { q with noiseSeen := q.noiseSeen || noise, noise := if noise then q.noise + 1 else q.noise } := by
  cases noise
  · simp [Port.heardNoise]
  · simp [Port.heardNoise]

theorem Port.char_eq (q : Port) (char : Nat) (noise ferr : Bool) :
    q.char char noise ferr =
      let r := q.heardNoise noise
      if r.rxFill < 3136 then
        Port.setRts { r with rxFifo := r.rxFifo ++ [element (char % 256) noise ferr r.rxLost], rxLost := false }
      else { r with rxLost := true } := rfl

theorem Port.char_of_room {q : Port} (h : q.rxFill < 3136) (char : Nat) (noise ferr : Bool) :
    q.char char noise ferr = Port.setRts { q with
      noiseSeen := q.noiseSeen || noise, noise := if noise then q.noise + 1 else q.noise,
      rxFifo := q.rxFifo ++ [element (char % 256) noise ferr q.rxLost], rxLost := false } := by
  rw [Port.char_eq, Port.heardNoise_eq]
  exact if_pos h

theorem Port.char_of_full {q : Port} (h : 3136 ≤ q.rxFill) (char : Nat) (noise ferr : Bool) :
    q.char char noise ferr = { q with
      noiseSeen := q.noiseSeen || noise, noise := if noise then q.noise + 1 else q.noise, rxLost := true } := by
  rw [Port.char_eq, Port.heardNoise_eq]
  exact if_neg (Nat.not_lt.mpr h)

/-- A character that does not fill its block of 16 stays in the FIFO (R492). -/
theorem exec_characterReceived_of_room {p : Fin 2} {s : State} {u : Fin 4} {a : BitVec 3} {d q : List (BitVec 3)} {z : BitVec 3} {c : Heard}
    (hu : u.val = p.val) (hh : s.hears = true) (hc : decodeChar false 0 (charSamples a d q z) = some c)
    (hroom : ((s.port p).char c.char c.noise c.ferr).rxFifo.length < 16) :
    exec (.characterReceived u a d q z) s = .next (s.onPort p fun q => q.char c.char c.noise c.ferr) := by
  show execCharacterReceived u a d q z s = _
  have part : ¬ 16 ≤ ((s.onPort p fun q => q.char c.char c.noise c.ferr).port p).rxFifo.length := by
    rw [State.port_onPort_fin]; exact Nat.not_le.mpr hroom
  simp only [execCharacterReceived, hu, p.isLt, if_true, hh, hc, part, if_false]

theorem exec_characterReceived_of_no_char {p : Fin 2} {s : State} {u : Fin 4} {a : BitVec 3} {d q : List (BitVec 3)} {z : BitVec 3}
    (hu : u.val = p.val) (hc : decodeChar false 0 (charSamples a d q z) = none) : exec (.characterReceived u a d q z) s = .next s := by
  show execCharacterReceived u a d q z s = _
  simp only [execCharacterReceived, hu, p.isLt, if_true, hc, ite_self]

theorem characterReceived_kept {p : Fin 2} {s : State} {u : Fin 4} {a : BitVec 3} {d q : List (BitVec 3)} {z : BitVec 3} {c : Heard}
    (hu : u.val = p.val) (hh : s.hears = true) (hc : decodeChar false 0 (charSamples a d q z) = some c)
    (hfill : (s.port p).rxFill < 3136) (hfifo : (s.port p).rxFifo.length < 15) :
    Answers (.characterReceived u a d q z) s fun t =>
      (t.port p).rxFifo = (s.port p).rxFifo ++ [element (c.char % 256) c.noise c.ferr (s.port p).rxLost] ∧
        (t.port p).rxRing = (s.port p).rxRing ∧ (t.port p).rxLost = false ∧
        (t.port p).noise = (if c.noise then (s.port p).noise + 1 else (s.port p).noise) ∧ OnlyPort p s t := by
  have char := Port.char_of_room hfill c.char c.noise c.ferr
  have part : ((s.port p).char c.char c.noise c.ferr).rxFifo.length < 16 := by
    have grown := congrArg (fun q : Port => q.rxFifo.length) char
    simp only [Port.setRts, List.length_append, List.length_singleton] at grown
    omega
  refine .of_port (exec_characterReceived_of_room hu hh hc part) char fun t port only => ?_
  rw [port]
  exact ⟨rfl, rfl, rfl, rfl, only⟩

theorem characterReceived_lost {p : Fin 2} {s : State} {u : Fin 4} {a : BitVec 3} {d q : List (BitVec 3)} {z : BitVec 3} {c : Heard}
    (hu : u.val = p.val) (hh : s.hears = true) (hc : decodeChar false 0 (charSamples a d q z) = some c)
    (hfill : 3136 ≤ (s.port p).rxFill) (hfifo : (s.port p).rxFifo.length < 16) :
    Answers (.characterReceived u a d q z) s fun t =>
      (t.port p).rxLost = true ∧ (t.port p).rxFifo = (s.port p).rxFifo ∧ (t.port p).rxRing = (s.port p).rxRing ∧ OnlyPort p s t := by
  have char := Port.char_of_full hfill c.char c.noise c.ferr
  refine .of_port (exec_characterReceived_of_room hu hh hc (char ▸ hfifo)) char fun t port only => ?_
  rw [port]
  exact ⟨rfl, rfl, rfl, only⟩

/-! ### The receive timeout (R493) -/

/-- The port with its partial block in the ring. -/
def Port.blockMoved (q : Port) : Port := { q with rxRing := q.rxRing ++ q.rxFifo, rxFifo := [] }

theorem State.hunt_of_more {p n : Nat} {s : State} (h : lookAt (s.port p).maxlen (s.port p).rxRing = .more) : State.hunt p n s = s := by
  cases n with
  | zero => rfl
  | succ n => simp only [State.hunt, h]

/-- Core 0 finds nothing to work through: it is not there, or no whole frame has come (R34, R74). -/
theorem State.takeChars_of_nothing {p : Fin 2} {s : State}
    (h : s.dutyRuns 0 = false ∨ lookAt (s.port p).maxlen ((s.port p).rxRing ++ (s.port p).rxFifo) = .more) :
    s.takeChars p = s.onPort p Port.blockMoved := by
  have taken : s.takeChars p =
      if (s.onPort p Port.blockMoved).dutyRuns 0 then
        State.hunt p ((s.onPort p Port.blockMoved).port p).rxRing.length (s.onPort p Port.blockMoved)
      else s.onPort p Port.blockMoved := rfl
  rw [taken]
  obtain idle | more := h
  · have idle' : (s.onPort p Port.blockMoved).dutyRuns 0 = false := idle
    rw [idle', if_neg Bool.false_ne_true]
  · rw [State.hunt_of_more (by rw [State.port_onPort_fin]; exact more), ite_self]

theorem receiveTimeout_moves {p : Fin 2} {s : State} {u : Fin 4} (hu : u.val = p.val)
    (h : s.dutyRuns 0 = false ∨ lookAt (s.port p).maxlen ((s.port p).rxRing ++ (s.port p).rxFifo) = .more) :
    Answers (.receiveTimeout u) s fun t =>
      t.port p = { s.port p with rxRing := (s.port p).rxRing ++ (s.port p).rxFifo, rxFifo := [] } ∧ OnlyPort p s t := by
  have run : exec (.receiveTimeout u) s = .next (s.onPort p Port.blockMoved) := by
    show execReceiveTimeout u s = _
    rw [execReceiveTimeout, hu, if_pos p.isLt, State.takeChars_of_nothing h]
  exact .of_port run rfl fun _ => And.intro

/-- Settles O13: each command is one change of its port. -/
theorem linkCountersCount : Obligations.LinkCountersCount := fun p s =>
  ⟨strayByte_counts, errBucketTick_opens p s, ctsChange_shuts p s, ctsChange_opens, clrStats_zeroes p s,
    fun _ _ _ _ _ _ => characterReceived_kept, fun _ _ _ _ _ _ => characterReceived_lost,
    fun _ _ _ _ _ => exec_characterReceived_of_no_char, fun _ => receiveTimeout_moves⟩

end Sys2Proof.Machine
end

section
/-!
PROOFS. Link errors: a port that falls back, an error counted, a frame discarded (R74, R91, R92).
-/

namespace Sys2Proof.Machine

/-! ### Falling back (R92) -/

/-- The port as it falls back. -/
def Port.fallenBack (q : Port) : Port :=
  { q with st := .hunt, div := 40, newDiv := none, syncSent := 0, fbPend := none, fallen := true, fellBack := true,
           fallbacks := q.fallbacks + 1, held := [], upOnAck := false, rxRing := [], rxFifo := [] }

theorem State.fallBack_port (s : State) (p : Fin 2) :
    (s.fallBack p).port p = { (s.port p).fallenBack with lost := ((s.fallBack p).port p).lost } := by
  have told := (State.raise_noted (s.fallAlert.onPort p Port.fallenBack) 11 3 31 [BitVec.ofNat 36 p]).port p
  have alert : s.fallAlert.port p = s.port p := rfl
  rwa [State.port_onPort_fin, alert] at told

theorem State.fallBack_linkPend (s : State) (p : Nat) : (s.fallBack p).dev.linkPend = true :=
  congrArg Dev.linkPend (State.raise_noted (s.fallAlert.onPort p Port.fallenBack) 11 3 31 [BitVec.ofNat 36 p]).dev

theorem State.fallBack_frame (s : State) (p : Nat) : SameBut [.ports, .dev, .ev] s (s.fallBack p) :=
  (((s.onDev_frame _).mono (by simp)).trans ((State.onPort_frame _ p _).mono (by simp))).trans ((State.raise_frame _ _ _ _ _).mono (by simp))

/-- What a fallback makes of its port, as far as the statements speak of it. -/
theorem State.fallBack_fields (s : State) (p : Fin 2) :
    ((s.fallBack p).port p).st = .hunt ∧ ((s.fallBack p).port p).div = 40 ∧ ((s.fallBack p).port p).newDiv = none ∧
      ((s.fallBack p).port p).fellBack = true ∧ ((s.fallBack p).port p).fallbacks = (s.port p).fallbacks + 1 ∧
      ((s.fallBack p).port p).unacked = (s.port p).unacked ∧ ((s.fallBack p).port p).txq = (s.port p).txq ∧
      ((s.fallBack p).port p).rxRing = [] := by
  rw [s.fallBack_port p]
  generalize s.port p = q
  exact ⟨rfl, rfl, rfl, rfl, rfl, rfl, rfl, rfl⟩

theorem fallback_leads_to_hunt (p : Fin 2) (s : State) :
    Answers (.fallback p) s fun t =>
      (t.port p).st = .hunt ∧ (t.port p).div = 40 ∧ (t.port p).newDiv = none ∧ (t.port p).fellBack = true ∧
        (t.port p).fallbacks = (s.port p).fallbacks + 1 ∧ (t.port p).unacked = (s.port p).unacked ∧
        (t.port p).txq = (s.port p).txq ∧ t.dev.linkPend = true ∧ SameBut [.ports, .dev, .ev] s t := by
  obtain ⟨st, div, newDiv, fellBack, fallbacks, unacked, txq, -⟩ := s.fallBack_fields p
  exact ⟨s.fallBack p, rfl, st, div, newDiv, fellBack, fallbacks, unacked, txq, s.fallBack_linkPend p, s.fallBack_frame p⟩

/-! ### A link error (R91) -/

/-- The port with a link error counted. -/
def Port.countedError (q : Port) : Port := { q.errored with errSince := true, eErrSince := true }

@[simp] theorem Port.countedError_st (q : Port) : q.countedError.st = q.st := rfl
@[simp] theorem Port.countedError_cts (q : Port) : q.countedError.cts = q.cts := rfl
@[simp] theorem Port.countedError_wire (q : Port) : q.countedError.wire = q.wire := rfl
@[simp] theorem Port.countedError_nextRx (q : Port) : q.countedError.nextRx = q.nextRx := rfl
@[simp] theorem Port.countedError_txq (q : Port) : q.countedError.txq = q.txq := rfl
@[simp] theorem Port.countedError_fallbacks (q : Port) : q.countedError.fallbacks = q.fallbacks := rfl
@[simp] theorem Port.countedError_rxRing (q : Port) : q.countedError.rxRing = q.rxRing := rfl
@[simp] theorem Port.countedError_buckets (q : Port) : q.countedError.buckets = q.errored.buckets := rfl

theorem State.countError_of_down {s : State} {p : Fin 2} (h : (s.port p).st = .hunt ∨ (s.port p).st = .confirm) : s.countError p = s := if_pos h

theorem State.countError_of_linked {s : State} {p : Fin 2} (h : (s.port p).st = .up ∨ (s.port p).st = .sync) :
    s.countError p =
      if (s.port p).errLimit ≤ (s.port p).errored.errCnt then (s.onPort p Port.countedError).fallBack p else s.onPort p Port.countedError := by
  have linked : ¬ ((s.port p).st = .hunt ∨ (s.port p).st = .confirm) := by
    obtain h | h := h <;> rw [h] <;> decide
  have counted : s.countError p =
      if (s.port p).errLimit ≤ ((s.onPort p Port.countedError).port p).errCnt then (s.onPort p Port.countedError).fallBack p
      else s.onPort p Port.countedError := if_neg linked
  rw [counted, State.port_onPort_fin]
  rfl

theorem State.countError_of_below {s : State} {p : Fin 2} (h : (s.port p).st = .up ∨ (s.port p).st = .sync)
    (hb : (s.port p).errored.errCnt < (s.port p).errLimit) : s.countError p = s.onPort p Port.countedError := by
  rw [State.countError_of_linked h, if_neg (Nat.not_le.mpr hb)]

theorem State.countError_of_limit {s : State} {p : Fin 2} (h : (s.port p).st = .up ∨ (s.port p).st = .sync)
    (hl : (s.port p).errLimit ≤ (s.port p).errored.errCnt) : s.countError p = (s.onPort p Port.countedError).fallBack p := by
  rw [State.countError_of_linked h, if_pos hl]

/-! ### A frame is discarded (R74) -/

/-- The port with a discard counted by its kind (R105). -/
def Port.kindCounted (crc : Bool) (q : Port) : Port := if crc then { q with crcErr := q.crcErr + 1 } else { q with fmtErr := q.fmtErr + 1 }

/-- The port with a discarded frame noted as one that will come a second time (R89). -/
def Port.secondDue (ctl emerg : Bool) (q : Port) : Port :=
  if q.st = .hunt ∨ q.st = .confirm ∨ ctl then q
  else if emerg then { q with eDiscarded := max q.eDiscarded (min 2 (q.eDiscarded + 1)) }
  else { q with discarded := max q.discarded (min q.window (q.discarded + 1)) }

theorem Port.kindCounted_eq (crc : Bool) (q : Port) :
    q.kindCounted crc = { q with crcErr := if crc then q.crcErr + 1 else q.crcErr, fmtErr := if crc then q.fmtErr else q.fmtErr + 1 } := by
  cases crc <;> rfl

theorem Port.secondDue_eq (ctl emerg : Bool) (q : Port) :
    q.secondDue ctl emerg = { q with discarded := (q.secondDue ctl emerg).discarded, eDiscarded := (q.secondDue ctl emerg).eDiscarded } := by
  unfold Port.secondDue
  split
  · rfl
  · split <;> rfl

/-- The port that hunts on behind the SOF of a frame it has discarded. -/
def Port.brokenOff (crc ctl emerg : Bool) (q : Port) : Port := ((q.dropRing 1).kindCounted crc).secondDue ctl emerg

/-- FRAME_DISCARD where no characters wait: the discard is counted, by its kind and as a link error, and nothing is left to hunt in. -/
theorem exec_frameDiscard_of_quiet {p : Fin 2} {s : State} (crc ctl em : Bool) (h : s.quietRx p) {t : State}
    (counted : (s.onPort p (Port.brokenOff crc ctl (s.emergOf p em))).countError p = t) (empty : (t.port p).rxRing = []) :
    exec (.frameDiscard p crc ctl em) s = .next t := by
  show execFrameDiscard p crc ctl em s = _
  obtain ⟨hears, ring, fifo⟩ := h
  have broken : (s.onPort p fun q => q.dropRing 1).discardFrame p crc ctl (s.emergOf p em) = t := by
    rw [← counted, State.discardFrame, State.onPort_onPort]
    rfl
  simp only [execFrameDiscard, hears, Bool.not_true, Bool.false_eq_true, if_false, s.takeChars_of_empty p ring fifo, broken,
    State.hunt_of_empty p t empty]

/-- Port `r` is `q` with a discard counted by its kind and the SOF of its frame taken from the ring. -/
structure Port.Discarded (crc : Bool) (q r : Port) : Prop where
  crcErr : r.crcErr = if crc then q.crcErr + 1 else q.crcErr
  fmtErr : r.fmtErr = if crc then q.fmtErr else q.fmtErr + 1
  fallbacks : r.fallbacks = q.fallbacks
  st : r.st = q.st
  buckets : r.buckets = q.buckets
  errWin : r.errWin = q.errWin
  errLimit : r.errLimit = q.errLimit
  rxRing : r.rxRing = q.rxRing.drop 1

theorem Port.brokenOff_discarded (crc ctl emerg : Bool) (q : Port) : q.Discarded crc (q.brokenOff crc ctl emerg) := by
  rw [Port.brokenOff, Port.secondDue_eq, Port.kindCounted_eq]
  exact ⟨rfl, rfl, rfl, rfl, rfl, rfl, rfl, rfl⟩

theorem Port.Discarded.errored_errCnt {crc : Bool} {q r : Port} (h : q.Discarded crc r) : r.errored.errCnt = q.errored.errCnt := by
  simp only [Port.errCnt, Port.errored, h.buckets, h.errWin]

theorem Port.Discarded.countedError {crc : Bool} {q r : Port} (h : q.Discarded crc r) :
    r.countedError.crcErr = (if crc then q.crcErr + 1 else q.crcErr) ∧ r.countedError.fmtErr = (if crc then q.fmtErr else q.fmtErr + 1) ∧
      r.countedError.buckets = q.errored.buckets ∧ r.countedError.st = q.st := by
  refine ⟨h.crcErr, h.fmtErr, ?_, h.st⟩
  simp only [Port.countedError, Port.errored, h.buckets]

section
variable {p : Fin 2} {s : State} (crc ctl em : Bool)

theorem State.discarded_port (e : Bool) : (s.port p).Discarded crc ((s.onPort p (Port.brokenOff crc ctl e)).port p) := by
  rw [State.port_onPort_fin]
  exact (s.port p).brokenOff_discarded crc ctl e

variable (quiet : s.quietRx p)
include quiet

theorem State.discarded_ring (e : Bool) : ((s.onPort p (Port.brokenOff crc ctl e)).port p).rxRing = [] := by
  rw [(State.discarded_port crc ctl e).rxRing, quiet.2.1, List.drop_nil]

theorem frameDiscard_counts (h : (s.port p).st = .hunt ∨ (s.port p).st = .confirm) :
    Answers (.frameDiscard p crc ctl em) s fun t =>
      (t.port p).crcErr = (if crc then (s.port p).crcErr + 1 else (s.port p).crcErr) ∧
        (t.port p).fmtErr = (if crc then (s.port p).fmtErr else (s.port p).fmtErr + 1) ∧
        (t.port p).buckets = (s.port p).buckets ∧ (t.port p).st = (s.port p).st ∧ OnlyPort p s t := by
  have noted := State.discarded_port (s := s) (p := p) crc ctl (s.emergOf p em)
  have down := State.countError_of_down (noted.st.symm ▸ h)
  exact ⟨_, exec_frameDiscard_of_quiet crc ctl em quiet down (State.discarded_ring crc ctl quiet _),
    noted.crcErr, noted.fmtErr, noted.buckets, noted.st, s.onPort_onlyPort p _⟩

theorem frameDiscard_counts_error (h : (s.port p).st = .up ∨ (s.port p).st = .sync)
    (hb : (s.port p).errored.errCnt < (s.port p).errLimit) :
    Answers (.frameDiscard p crc ctl em) s fun t =>
      (t.port p).crcErr = (if crc then (s.port p).crcErr + 1 else (s.port p).crcErr) ∧
        (t.port p).fmtErr = (if crc then (s.port p).fmtErr else (s.port p).fmtErr + 1) ∧
        (t.port p).buckets = (s.port p).errored.buckets ∧ (t.port p).st = (s.port p).st ∧ OnlyPort p s t := by
  have noted := State.discarded_port (s := s) (p := p) crc ctl (s.emergOf p em)
  have below := State.countError_of_below (noted.st.symm ▸ h) (by rw [noted.errored_errCnt, noted.errLimit]; exact hb)
  refine ⟨_, exec_frameDiscard_of_quiet crc ctl em quiet below ?_, ?_⟩
  · rw [State.port_onPort_fin, Port.countedError_rxRing, State.discarded_ring crc ctl quiet]
  · beta_reduce
    rw [State.port_onPort_fin]
    obtain ⟨crcErr, fmtErr, buckets, st⟩ := noted.countedError
    exact ⟨crcErr, fmtErr, buckets, st, (s.onPort_onlyPort p _).trans (State.onPort_onlyPort _ p _)⟩

theorem frameDiscard_falls_back (h : (s.port p).st = .up ∨ (s.port p).st = .sync)
    (hl : (s.port p).errLimit ≤ (s.port p).errored.errCnt) :
    Answers (.frameDiscard p crc ctl em) s fun t =>
      (t.port p).st = .hunt ∧ (t.port p).div = 40 ∧ (t.port p).fallbacks = (s.port p).fallbacks + 1 ∧
        t.dev.linkPend = true ∧ SameBut [.ports, .dev, .ev] s t := by
  have noted := State.discarded_port (s := s) (p := p) crc ctl (s.emergOf p em)
  have limit := State.countError_of_limit (noted.st.symm ▸ h) (by rw [noted.errored_errCnt, noted.errLimit]; exact hl)
  obtain ⟨st, div, -, -, fallbacks, -, -, ring⟩ := State.fallBack_fields
    ((s.onPort p (Port.brokenOff crc ctl (s.emergOf p em))).onPort p Port.countedError) p
  rw [State.port_onPort_fin, Port.countedError_fallbacks, noted.fallbacks] at fallbacks
  exact ⟨_, exec_frameDiscard_of_quiet crc ctl em quiet limit ring, st, div, fallbacks, State.fallBack_linkPend _ p,
    (((s.onPort_frame p _).trans (State.onPort_frame _ p _)).mono (by simp)).trans (State.fallBack_frame _ p)⟩

end

/-- Settles O14: a discard is counted by its kind; what the link error does to the port is that of `countError`. -/
theorem discardsCountAndFallBack : Obligations.DiscardsCountAndFallBack := fun p crc ctl em s =>
  ⟨frameDiscard_counts crc ctl em, frameDiscard_counts_error crc ctl em, frameDiscard_falls_back crc ctl em, fallback_leads_to_hunt p s⟩

end Sys2Proof.Machine
end

section
/-!
PROOFS. What acknowledgement, a second send and the way to UP make of a port (R84, R86, R89, R90).
-/

namespace Sys2Proof.Machine

/-! ### The wire begins anew -/

/-- The port with nothing on its wire. -/
def Port.unwired (q : Port) : Port := { q with wire := [] }

@[simp] theorem Port.unwired_st (q : Port) : q.unwired.st = q.st := rfl
@[simp] theorem Port.unwired_cts (q : Port) : q.unwired.cts = q.cts := rfl
@[simp] theorem Port.unwired_rev (q : Port) : q.unwired.rev = q.rev := rfl
@[simp] theorem Port.unwired_maxlen (q : Port) : q.unwired.maxlen = q.maxlen := rfl
@[simp] theorem Port.unwired_nextRx (q : Port) : q.unwired.nextRx = q.nextRx := rfl
@[simp] theorem Port.unwired_eNextRx (q : Port) : q.unwired.eNextRx = q.eNextRx := rfl
@[simp] theorem Port.unwired_txq (q : Port) : q.unwired.txq = q.txq := rfl
@[simp] theorem Port.unwired_unacked (q : Port) : q.unwired.unacked = q.unacked := rfl
@[simp] theorem Port.unwired_eUnacked (q : Port) : q.unwired.eUnacked = q.eUnacked := rfl
@[simp] theorem Port.unwired_errLimit (q : Port) : q.unwired.errLimit = q.errLimit := rfl
@[simp] theorem Port.unwired_errSince (q : Port) : q.unwired.errSince = q.errSince := rfl
@[simp] theorem Port.unwired_errWin (q : Port) : q.unwired.errWin = q.errWin := rfl
@[simp] theorem Port.unwired_buckets (q : Port) : q.unwired.buckets = q.buckets := rfl
@[simp] theorem Port.unwired_div (q : Port) : q.unwired.div = q.div := rfl
@[simp] theorem Port.unwired_upSinceReset (q : Port) : q.unwired.upSinceReset = q.upSinceReset := rfl
@[simp] theorem Port.unwired_wire (q : Port) : q.unwired.wire = [] := rfl

theorem Port.unwired_errored_errCnt (q : Port) : q.unwired.errored.errCnt = q.errored.errCnt := rfl

theorem State.clearWire_eq (s : State) (p : Nat) : s.clearWire p = s.onPort p Port.unwired := rfl

theorem State.clearWire_port (s : State) (p : Fin 2) : (s.clearWire p).port p = (s.port p).unwired := s.port_onPort_fin p _

theorem State.clearWire_frame (s : State) (p : Nat) : SameBut [.ports] s (s.clearWire p) := s.onPort_frame p _

/-! ### Acknowledgement (R86) -/

/-- The port with frames of both spaces acknowledged. -/
def Port.acked (q : Port) (retxOk : Word) (unacked eUnacked : List Frame) : Port :=
  { q with retxOk := retxOk, unacked := unacked, eUnacked := eUnacked }

@[simp] theorem Port.acked_st (q : Port) (r : Word) (u e : List Frame) : (q.acked r u e).st = q.st := rfl
@[simp] theorem Port.acked_cts (q : Port) (r : Word) (u e : List Frame) : (q.acked r u e).cts = q.cts := rfl
@[simp] theorem Port.acked_rev (q : Port) (r : Word) (u e : List Frame) : (q.acked r u e).rev = q.rev := rfl
@[simp] theorem Port.acked_maxlen (q : Port) (r : Word) (u e : List Frame) : (q.acked r u e).maxlen = q.maxlen := rfl
@[simp] theorem Port.acked_nextRx (q : Port) (r : Word) (u e : List Frame) : (q.acked r u e).nextRx = q.nextRx := rfl
@[simp] theorem Port.acked_eNextRx (q : Port) (r : Word) (u e : List Frame) : (q.acked r u e).eNextRx = q.eNextRx := rfl
@[simp] theorem Port.acked_txq (q : Port) (r : Word) (u e : List Frame) : (q.acked r u e).txq = q.txq := rfl
@[simp] theorem Port.acked_wire (q : Port) (r : Word) (u e : List Frame) : (q.acked r u e).wire = q.wire := rfl
@[simp] theorem Port.acked_errLimit (q : Port) (r : Word) (u e : List Frame) : (q.acked r u e).errLimit = q.errLimit := rfl
@[simp] theorem Port.acked_errSince (q : Port) (r : Word) (u e : List Frame) : (q.acked r u e).errSince = q.errSince := rfl
@[simp] theorem Port.acked_buckets (q : Port) (r : Word) (u e : List Frame) : (q.acked r u e).buckets = q.buckets := rfl
@[simp] theorem Port.acked_errWin (q : Port) (r : Word) (u e : List Frame) : (q.acked r u e).errWin = q.errWin := rfl
@[simp] theorem Port.acked_unacked (q : Port) (r : Word) (u e : List Frame) : (q.acked r u e).unacked = u := rfl

theorem State.takeEvents_frame (s : State) (p : Nat) (ids : List Nat) : SameBut [.ev] s (s.takeEvents p ids) := s.onEv_frame _

theorem State.takeEvents_port (s : State) (p j : Nat) (ids : List Nat) : (s.takeEvents p ids).port j = s.port j := rfl

/-- The first `n` of the unacknowledged frames `fs` of a space leave it. -/
def State.takeAcked (s : State) (p : Nat) (emerg : Bool) (fs : List Frame) (n : Nat) : State :=
  (s.onPort p fun q =>
    let q := { q with retxOk := q.retxOk + BitVec.ofNat 36 ((fs.take n).filter fun f : Frame => 2 ≤ f.sends).length }
    if emerg then { q with eUnacked := fs.drop n } else { q with unacked := fs.drop n }).takeEvents p ((fs.take n).flatMap (·.events))

theorem State.takeAcked_frame (s : State) (p : Nat) (emerg : Bool) (fs : List Frame) (n : Nat) :
    SameBut [.ports, .ev] s (s.takeAcked p emerg fs n) :=
  ((s.onPort_frame p _).mono (by simp)).trans ((State.takeEvents_frame _ p _).mono (by simp))

theorem State.takeAcked_port (s : State) (p : Fin 2) (emerg : Bool) (fs : List Frame) (n : Nat) :
    ∃ r, (s.takeAcked p emerg fs n).port p =
      (s.port p).acked r (if emerg then (s.port p).unacked else fs.drop n) (if emerg then fs.drop n else (s.port p).eUnacked) := by
  rw [State.takeAcked, State.takeEvents_port, State.port_onPort_fin]
  cases emerg <;> exact ⟨_, rfl⟩

/-- An acknowledgement does nothing or takes frames from the front of a space. -/
theorem State.ackBefore_cases (s : State) (p : Nat) (emerg : Bool) (k : BitVec 8) :
    s.ackBefore p emerg k = s ∨ ∃ fs n, s.ackBefore p emerg k = s.takeAcked p emerg fs n := by
  have eq : s.ackBefore p emerg k =
      match if emerg then (s.port p).eUnacked else (s.port p).unacked with
      | [] => s
      | f :: rest => if (f :: rest).length < (k - f.seq).toNat then s else s.takeAcked p emerg (f :: rest) (k - f.seq).toNat := by
    unfold State.ackBefore
    dsimp only
    generalize (if emerg then (s.port p).eUnacked else (s.port p).unacked) = fs
    cases fs <;> rfl
  rw [eq]
  split
  · exact .inl rfl
  · split
    · exact .inl rfl
    · exact .inr ⟨_, _, rfl⟩

theorem State.ackBefore_frame (s : State) (p : Nat) (emerg : Bool) (k : BitVec 8) : SameBut [.ports, .ev] s (s.ackBefore p emerg k) := by
  obtain none | ⟨fs, n, taken⟩ := s.ackBefore_cases p emerg k
  · rw [none]
    exact .refl _ s
  · rw [taken]
    exact s.takeAcked_frame p emerg fs n

/-- Of its port an acknowledgement changes the unacknowledged frames and RETX_OK. -/
theorem State.ackBefore_port (s : State) (p : Fin 2) (emerg : Bool) (k : BitVec 8) :
    ∃ r u e, (s.ackBefore p emerg k).port p = (s.port p).acked r u e := by
  obtain none | ⟨fs, n, taken⟩ := s.ackBefore_cases p emerg k
  · exact ⟨(s.port p).retxOk, (s.port p).unacked, (s.port p).eUnacked, by rw [none]; rfl⟩
  · obtain ⟨r, port⟩ := s.takeAcked_port p emerg fs n
    exact ⟨r, _, _, taken ▸ port⟩

/-- The frames before a number the port has sent leave the NORMAL space. -/
theorem State.ackBefore_of_sent {s : State} {p : Fin 2} {k : BitVec 8} {f : Frame} {rest : List Frame}
    (sent : (s.port p).unacked = f :: rest) (hk : (k - f.seq).toNat ≤ (s.port p).unacked.length) :
    ∃ r, (s.ackBefore p false k).port p = (s.port p).acked r ((s.port p).unacked.drop (k - f.seq).toNat) (s.port p).eUnacked := by
  have taken := Nat.not_lt.mpr hk
  rw [sent] at taken
  simp only [State.ackBefore, sent, Bool.false_eq_true, if_false, taken, State.takeEvents_port, State.port_onPort_fin]
  exact ⟨_, rfl⟩

/-! ### Frames sent once more (R89, R90) -/

/-- The unacknowledged NORMAL frames on their next send. -/
def Port.nextSends (q : Port) : List Frame := q.unacked.map q.again

theorem Port.nextSends_eq (q : Port) : q.nextSends = q.unacked.map fun f => { f with sends := f.sends + 1, ackseq := q.nextRx } := rfl

/-- The port with its unacknowledged NORMAL frames sent once more. -/
def Port.resent (q : Port) : Port := { q with wire := q.wire ++ q.nextSends, unacked := q.nextSends }

@[simp] theorem Port.resent_st (q : Port) : q.resent.st = q.st := rfl
@[simp] theorem Port.resent_buckets (q : Port) : q.resent.buckets = q.buckets := rfl
@[simp] theorem Port.resent_wire (q : Port) : q.resent.wire = q.wire ++ q.nextSends := rfl
@[simp] theorem Port.resent_unacked (q : Port) : q.resent.unacked = q.nextSends := rfl

theorem Port.resend_of_cts {q : Port} (h : q.cts = true) : q.resend false 0 = q.resent := by
  simp only [Port.resend, Bool.false_eq_true, if_false, List.drop_zero, List.take_zero, List.nil_append, Port.emitAll_of_cts h]
  rfl

theorem State.secondAttempt_of_first {s : State} {p : Fin 2} {f : Frame} {rest : List Frame}
    (sent : (s.port p).unacked = f :: rest) (first : f.sends < 2) : s.secondAttempt p false 0 = s.onPort p fun q => q.resend false 0 := by
  simp only [State.secondAttempt, Bool.false_eq_true, if_false, List.drop_zero, sent, Nat.not_le.mpr first]

/-- The port that begins SYNC. -/
def Port.syncBegun (q : Port) : Port := ({ q with st := .sync, syncSent := 1 } : Port).control tySync false [q.syncWord]

theorem State.secondAttempt_of_second {s : State} {p : Fin 2} {f : Frame} {rest : List Frame}
    (sent : (s.port p).unacked = f :: rest) (second : 2 ≤ f.sends) :
    s.secondAttempt p false 0 = (s.onPort p Port.syncBegun).raise 11 2 31 [BitVec.ofNat 36 p] := by
  simp only [State.secondAttempt, Bool.false_eq_true, if_false, List.drop_zero, sent, second, if_true]
  rfl

/-- The port with other frames on its way: on the wire, held back from it, unacknowledged. -/
def Port.setSent (q : Port) (wire held unacked eUnacked : List Frame) : Port :=
  { q with wire := wire, held := held, unacked := unacked, eUnacked := eUnacked }

@[simp] theorem Port.setSent_st (q : Port) (w h u e : List Frame) : (q.setSent w h u e).st = q.st := rfl
@[simp] theorem Port.setSent_nextRx (q : Port) (w h u e : List Frame) : (q.setSent w h u e).nextRx = q.nextRx := rfl
@[simp] theorem Port.setSent_wire (q : Port) (w h u e : List Frame) : (q.setSent w h u e).wire = w := rfl

theorem Port.resend_setSent (q : Port) (emerg : Bool) :
    ∃ w h u e, q.resend emerg 0 = q.setSent w h u e ∧ (q.unacked = [] → u = []) ∧ (q.cts = true → ∃ more, w = q.wire ++ more) := by
  have onto (fs : List Frame) (w h : List Frame) (put : q.emitAll fs = q.setWire w h) (open' : q.cts = true) : ∃ more, w = q.wire ++ more :=
    ⟨fs, congrArg Port.wire (put.symm.trans (Port.emitAll_of_cts open' fs))⟩
  cases emerg
  · obtain ⟨w, h, put⟩ := q.emitAll_setWire (q.unacked.map q.again)
    refine ⟨w, h, q.nextSends, q.eUnacked, ?_, fun none => by rw [Port.nextSends, none, List.map_nil], onto _ w h put⟩
    simp only [Port.resend, Bool.false_eq_true, if_false, List.drop_zero, List.take_zero, List.nil_append, put]
    rfl
  · obtain ⟨w, h, put⟩ := q.emitAll_setWire (q.eUnacked.map q.again)
    refine ⟨w, h, q.unacked, q.eUnacked.map q.again, ?_, id, onto _ w h put⟩
    simp only [Port.resend, if_true, List.drop_zero, List.take_zero, List.nil_append, put]
    rfl

/-- The port with the send counts of its unacknowledged frames reset. -/
def Port.recounted (q : Port) : Port :=
  { q with unacked := q.unacked.map fun f => { f with sends := 0 }, eUnacked := q.eUnacked.map fun f => { f with sends := 0 } }

theorem Port.resendAll_eq (q : Port) : q.resendAll = (q.recounted.resend true 0).resend false 0 := rfl

theorem Port.resendAll_setSent (q : Port) :
    ∃ w h u e, q.resendAll = q.setSent w h u e ∧ (q.unacked = [] → u = []) ∧ (q.cts = true → ∃ more, w = q.wire ++ more) := by
  obtain ⟨w, h, u, e, first, empty, onto⟩ := q.recounted.resend_setSent true
  obtain ⟨w', h', u', e', second, empty', onto'⟩ := (q.recounted.resend true 0).resend_setSent false
  rw [first] at second empty' onto'
  refine ⟨w', h', u', e', ?_, fun none => empty' (empty (by rw [Port.recounted, none, List.map_nil])), fun open' => ?_⟩
  · rw [Port.resendAll_eq, first, second]
    rfl
  · obtain ⟨a, ha⟩ := onto open'
    obtain ⟨b, hb⟩ := onto' open'
    exact ⟨a ++ b, hb.trans ((congrArg (· ++ b) ha).trans (List.append_assoc _ _ _))⟩

/-! ### UP (R84) -/

/-- The port as it comes to UP. -/
def Port.cameUp (q : Port) : Port := { q with st := .up, everUp := true, upSinceReset := true, fallen := false, syncSent := 0 }

theorem State.enterUp_eq (s : State) (p : Fin 2) :
    s.enterUp p =
      (if (s.port p).st = .hunt ∨ (s.port p).st = .confirm then (s.onPort p Port.cameUp).raise 11 1 31 [BitVec.ofNat 36 p]
        else s.onPort p Port.cameUp).onPort p Port.resendAll := rfl

theorem State.enterUp_frame (s : State) (p : Fin 2) : SameBut [.ports, .dev, .ev] s (s.enterUp p) := by
  have up : SameBut [.ports, .dev, .ev] s (s.onPort p Port.cameUp) := (s.onPort_frame p _).mono (by simp)
  have told : SameBut [.ports, .dev, .ev] s ((s.onPort p Port.cameUp).raise 11 1 31 [BitVec.ofNat 36 p]) :=
    up.trans ((State.raise_frame _ _ _ _ _).mono (by simp))
  exact (SameBut.ite told up).trans ((State.onPort_frame _ p _).mono (by simp))

theorem State.enterUp_port (s : State) (p : Fin 2) :
    ∃ n, (s.enterUp p).port p = ({ (s.port p).cameUp with lost := n } : Port).resendAll := by
  rw [State.enterUp_eq, State.port_onPort_fin]
  split
  · have told := (State.raise_noted (s.onPort p Port.cameUp) 11 1 31 [BitVec.ofNat 36 p]).port p
    rw [State.port_onPort_fin] at told
    exact ⟨_, congrArg Port.resendAll told⟩
  · exact ⟨(s.port p).lost, by rw [State.port_onPort_fin]; rfl⟩

theorem State.enterUp_of_sync {s : State} {p : Fin 2} (h : (s.port p).st = .sync) :
    s.enterUp p = s.onPort p fun q => q.cameUp.resendAll := by
  have linked : ¬ ((s.port p).st = .hunt ∨ (s.port p).st = .confirm) := by rw [h]; decide
  rw [State.enterUp_eq, if_neg linked, State.onPort_onPort]

end Sys2Proof.Machine
end

section
/-!
PROOFS. ACK, NAK and the timeouts in UP, SYNC, and frames out of order (R86..R90).
-/

namespace Sys2Proof.Machine

/-- The port when an answer has not come in time: its wire begun anew, a link error counted (R88, R90). -/
def Port.missed (q : Port) : Port := q.unwired.countedError

@[simp] theorem Port.missed_st (q : Port) : q.missed.st = q.st := rfl
@[simp] theorem Port.missed_cts (q : Port) : q.missed.cts = q.cts := rfl
@[simp] theorem Port.missed_wire (q : Port) : q.missed.wire = [] := rfl
@[simp] theorem Port.missed_unacked (q : Port) : q.missed.unacked = q.unacked := rfl
@[simp] theorem Port.missed_nextRx (q : Port) : q.missed.nextRx = q.nextRx := rfl
@[simp] theorem Port.missed_eNextRx (q : Port) : q.missed.eNextRx = q.eNextRx := rfl
@[simp] theorem Port.missed_syncSent (q : Port) : q.missed.syncSent = q.syncSent := rfl

theorem State.countError_of_wired {s : State} {p : Fin 2} (h : (s.port p).st = .up ∨ (s.port p).st = .sync)
    (below : (s.port p).errored.errCnt < (s.port p).errLimit) : (s.clearWire p).countError p = s.onPort p Port.missed := by
  have wired := s.clearWire_port p
  rw [State.countError_of_below (s := s.clearWire p) (by rw [wired, Port.unwired_st]; exact h)
    (by rw [wired, Port.unwired_errored_errCnt, Port.unwired_errLimit]; exact below), State.clearWire_eq, State.onPort_onPort]
  rfl

/-- What a device's SYNC begun on an empty wire makes of the port. -/
theorem Port.syncBegun_of_cts {q : Port} (h : q.cts = true) (empty : q.wire = []) :
    q.syncBegun.st = .sync ∧ q.syncBegun.syncSent = 1 ∧ q.syncBegun.unacked = q.unacked ∧
      ∃ g, q.syncBegun.wire = [g] ∧ g.typ = tySync ∧ g.payload = [q.syncWord] := by
  have put := Port.control_of_cts (q := { q with st := .sync, syncSent := 1 }) h tySync false [q.syncWord]
  rw [Port.syncBegun, put]
  exact ⟨rfl, rfl, rfl, _, congrArg (· ++ [_]) empty, rfl, rfl⟩

/-! ### ACK, NAK and T_ACK in UP (R86, R89) -/

section
variable {p : Fin 2} {s : State}

theorem State.ackFrame_of_up (up : (s.port p).st = .up) (k : BitVec 8) : s.ackFrame p false k = (s.clearWire p).ackBefore p false k := by
  have plain (t : State) : t.emergOf p false = false := rfl
  have heard := State.heard_of_not_confirm (s := s) (p := p) (by rw [up]; decide)
  simp only [State.ackFrame, up, heard, plain, reduceCtorEq, if_false]

/-- A NAK that names the oldest frame sent acknowledges none; the frame is lost, and tried again. -/
theorem State.nakFrame_of_oldest (up : (s.port p).st = .up) {f : Frame} {rest : List Frame} (sent : (s.port p).unacked = f :: rest) :
    ∃ t r, s.nakFrame p false f.seq = t.secondAttempt p false 0 ∧ SameBut [.ports, .ev] s t ∧
      t.port p = (s.port p).unwired.acked r (f :: rest) (s.port p).eUnacked := by
  have wired := s.clearWire_port p
  have here : (f.seq - f.seq).toNat = 0 := by rw [BitVec.sub_self]; rfl
  obtain ⟨r, port⟩ := State.ackBefore_of_sent (s := s.clearWire p) (p := p) (k := f.seq) (by rw [wired, Port.unwired_unacked, sent])
    (by rw [here]; exact Nat.zero_le _)
  rw [here, List.drop_zero, wired, Port.unwired_unacked, Port.unwired_eUnacked, sent] at port
  refine ⟨_, r, ?_, ((s.clearWire_frame p).mono (by simp)).trans (State.ackBefore_frame _ p false f.seq), port⟩
  have plain (t : State) : t.emergOf p false = false := rfl
  have heard := State.heard_of_not_confirm (s := s) (p := p) (by rw [up]; decide)
  have named : ((s.port p).unwired.acked r (f :: rest) (s.port p).eUnacked).before false f.seq = some 0 := by
    simp only [Port.before, Port.acked_unacked, Bool.false_eq_true, if_false, here, Nat.zero_le, if_true]
  simp only [State.nakFrame, heard, wired, port, Port.acked_st, Port.unwired_st, up, named, plain, reduceCtorEq, Bool.false_eq_true,
    if_false, if_true]

variable (quiet : s.quietRx p) (cts : (s.port p).cts = true) (up : (s.port p).st = .up) {f : Frame} {rest : List Frame}
  (sent : (s.port p).unacked = f :: rest)
include quiet cts up sent

omit cts in
theorem ack_takes {k : BitVec 8} (hk : (k - f.seq).toNat ≤ (s.port p).unacked.length) :
    Answers (.ack p false k) s fun t =>
      (t.port p).unacked = (s.port p).unacked.drop (k - f.seq).toNat ∧ (t.port p).st = .up ∧ (t.port p).wire = [] ∧
        (t.port p).txq = (s.port p).txq ∧ SameBut [.ports, .ev] s t := by
  have run : exec (.ack p false k) s = .next ((s.clearWire p).ackBefore p false k) :=
    congrArg Host.Outcome.next ((State.framed_of_quiet quiet _).trans (State.ackFrame_of_up up k))
  have wired := s.clearWire_port p
  obtain ⟨r, port⟩ := State.ackBefore_of_sent (s := s.clearWire p) (p := p) (k := k) (by rw [wired, Port.unwired_unacked, sent])
    (by rw [wired, Port.unwired_unacked]; exact hk)
  have frame := ((s.clearWire_frame p).mono (by simp)).trans (State.ackBefore_frame (s.clearWire p) p false k)
  exact ⟨_, run, by simp [port, wired], by simp [port, wired, up], by simp [port, wired], by simp [port, wired], frame⟩

theorem nak_resends (first : f.sends < 2) :
    Answers (.nak p false f.seq) s fun t =>
      (t.port p).unacked = (s.port p).unacked.map (fun g => { g with sends := g.sends + 1, ackseq := (s.port p).nextRx }) ∧
        (t.port p).wire = (t.port p).unacked ∧ (t.port p).st = .up ∧ SameBut [.ports, .ev] s t := by
  obtain ⟨t, r, nak, frame, port⟩ := State.nakFrame_of_oldest up sent
  have again := State.secondAttempt_of_first (s := t) (p := p) (by rw [port, Port.acked_unacked]) first
  have resent : (t.port p).resend false 0 = (t.port p).resent := Port.resend_of_cts (by rw [port, Port.acked_cts, Port.unwired_cts, cts])
  have sends : (t.port p).nextSends =
      (s.port p).unacked.map (fun g => { g with sends := g.sends + 1, ackseq := (s.port p).nextRx }) := by
    rw [Port.nextSends_eq, port, Port.acked_unacked, Port.acked_nextRx, Port.unwired_nextRx, sent]
  refine ⟨_, congrArg Host.Outcome.next ((State.framed_of_quiet quiet _).trans (nak.trans again)), ?_⟩
  simp only [State.port_onPort_fin, resent, Port.resent_unacked, Port.resent_wire, Port.resent_st]
  refine ⟨sends, ?_, ?_, frame.trans ((State.onPort_frame _ p _).mono (by simp))⟩
  · rw [port, Port.acked_wire, Port.unwired_wire, List.nil_append]
  · rw [port, Port.acked_st, Port.unwired_st, up]

theorem nak_leads_to_sync (second : 2 ≤ f.sends) :
    Answers (.nak p false f.seq) s fun t =>
      (t.port p).st = .sync ∧ (t.port p).syncSent = 1 ∧ (t.port p).unacked = (s.port p).unacked ∧
        (∃ g, (t.port p).wire = [g] ∧ g.typ = tySync ∧ g.payload = [(s.port p).syncWord]) ∧ SameBut [.ports, .dev, .ev] s t := by
  obtain ⟨t, r, nak, frame, port⟩ := State.nakFrame_of_oldest up sent
  have lost := State.secondAttempt_of_second (s := t) (p := p) (by rw [port, Port.acked_unacked]) second
  obtain ⟨st, syncSent, unacked, wire⟩ := Port.syncBegun_of_cts (q := t.port p) (by rw [port, Port.acked_cts, Port.unwired_cts, cts])
    (by rw [port, Port.acked_wire, Port.unwired_wire])
  have word : (t.port p).syncWord = (s.port p).syncWord := by
    rw [port, Port.syncWord, Port.acked_nextRx, Port.acked_eNextRx, Port.unwired_nextRx, Port.unwired_eNextRx, Port.syncWord]
  have told := (State.raise_noted (t.onPort p Port.syncBegun) 11 2 31 [BitVec.ofNat 36 p]).port p
  rw [State.port_onPort_fin] at told
  rw [word] at wire
  refine ⟨_, congrArg Host.Outcome.next ((State.framed_of_quiet quiet _).trans (nak.trans lost)), ?_⟩
  beta_reduce
  rw [told]
  exact ⟨st, syncSent, unacked.trans (by rw [port, Port.acked_unacked, sent]), wire, (frame.mono (by simp)).trans
    (((State.onPort_frame t p _).mono (by simp)).trans ((State.raise_frame _ _ _ _ _).mono (by simp)))⟩

omit quiet in
theorem ackTimeout_resends (first : f.sends < 2) (below : (s.port p).errored.errCnt < (s.port p).errLimit) :
    Answers (.ackTimeout p false) s fun t =>
      (t.port p).unacked = (s.port p).unacked.map (fun g => { g with sends := g.sends + 1, ackseq := (s.port p).nextRx }) ∧
        (t.port p).wire = (t.port p).unacked ∧ (t.port p).buckets = (s.port p).errored.buckets ∧ OnlyPort p s t := by
  have counted := s.countError_of_wired (p := p) (.inl up) below
  have port : (s.onPort p Port.missed).port p = (s.port p).missed := State.port_onPort_fin _ _ _
  have again := State.secondAttempt_of_first (s := s.onPort p Port.missed) (p := p) (by rw [port, Port.missed_unacked, sent]) first
  rw [State.onPort_onPort] at again
  have run : exec (.ackTimeout p false) s = .next (s.onPort p fun q => q.missed.resend false 0) := by
    show execAckTimeout p false s = _
    simp only [execAckTimeout, up, sent, ← Port.unwired.eq_def, ← State.clearWire_eq, counted, port, Port.missed_st, again, ne_eq,
      not_true_eq_false, Bool.false_eq_true, if_false, if_true, List.isEmpty_cons, or_self]
  have resent : (s.port p).missed.resend false 0 = (s.port p).missed.resent := Port.resend_of_cts (by rw [Port.missed_cts, cts])
  refine .of_port run resent fun t after only => ?_
  rw [after, Port.resent_unacked, Port.resent_wire, Port.resent_buckets, Port.nextSends_eq, Port.missed_unacked, Port.missed_nextRx]
  exact ⟨rfl, rfl, rfl, only⟩

end

end Sys2Proof.Machine
end

section
/-!
PROOFS. SYNC from both sides, and frames that come out of order (R87, R88, R90).
-/

namespace Sys2Proof.Machine

/-! ### The numbers of a SYNC (R90) -/

/-- The port after the numbers of a SYNC: no frame of the host is known to be on its second send. -/
def Port.renumbered (q : Port) : Port := { q with discarded := 0, eDiscarded := 0 }

@[simp] theorem Port.renumbered_st (q : Port) : q.renumbered.st = q.st := rfl
@[simp] theorem Port.renumbered_wire (q : Port) : q.renumbered.wire = q.wire := rfl
@[simp] theorem Port.renumbered_cts (q : Port) : q.renumbered.cts = q.cts := rfl
@[simp] theorem Port.renumbered_nextRx (q : Port) : q.renumbered.nextRx = q.nextRx := rfl
@[simp] theorem Port.renumbered_resync (q : Port) : q.renumbered.resync = q.resync := rfl

theorem State.syncNumbers_frame (s : State) (p : Nat) (w : Word) : SameBut [.ports, .ev] s (s.syncNumbers p w) :=
  ((s.ackBefore_frame p true _).trans (State.ackBefore_frame _ p false _)).trans ((State.onPort_frame _ p _).mono (by simp))

theorem State.syncNumbers_port (s : State) (p : Fin 2) (w : Word) :
    ∃ r u e, (s.syncNumbers p w).port p = ((s.port p).acked r u e).renumbered := by
  obtain ⟨r, u, e, first⟩ := s.ackBefore_port p true (BitVec.ofNat 8 (bits w 15 8))
  obtain ⟨r', u', e', second⟩ := (s.ackBefore p true (BitVec.ofNat 8 (bits w 15 8))).ackBefore_port p false (BitVec.ofNat 8 (bits w 7 0))
  refine ⟨r', u', e', ?_⟩
  rw [State.syncNumbers, State.port_onPort_fin, second, first]
  rfl

/-! ### SYNC from the host -/

/-- The port with its ring emptied: a frame being received is discarded. -/
def Port.emptied (q : Port) : Port := q.dropRing q.rxRing.length

@[simp] theorem Port.emptied_st (q : Port) : q.emptied.st = q.st := rfl
@[simp] theorem Port.emptied_cts (q : Port) : q.emptied.cts = q.cts := rfl
@[simp] theorem Port.emptied_nextRx (q : Port) : q.emptied.nextRx = q.nextRx := rfl
@[simp] theorem Port.emptied_eNextRx (q : Port) : q.emptied.eNextRx = q.eNextRx := rfl

/-- The port that answers a SYNC on a wire begun anew. -/
def Port.syncAnswered (q : Port) : Port := q.unwired.control tySyncAck false [q.unwired.syncWord]

theorem Port.syncAnswered_of_cts {q : Port} (h : q.cts = true) :
    ∃ g, q.syncAnswered = q.unwired.onWire [g] ∧ g.typ = tySyncAck ∧ g.payload = [q.syncWord] :=
  ⟨_, Port.control_of_cts (q := q.unwired) h tySyncAck false [q.unwired.syncWord], rfl, rfl⟩

/-- A SYNC is answered first; its numbers count, and in UP all unacknowledged frames go again. -/
theorem State.syncFrame_of_linked {s : State} {p : Fin 2} (h : (s.port p).st = .up ∨ (s.port p).st = .sync) (w : Word) :
    s.syncFrame p w = (s.onPort p Port.syncAnswered).syncNumbers p w ∨
      s.syncFrame p w = ((s.onPort p Port.syncAnswered).syncNumbers p w).onPort p Port.resendAll := by
  have st : (s.port p).st ≠ .confirm ∧ (s.port p).st ≠ .hunt := by
    obtain h | h := h <;> rw [h] <;> decide
  have heard := State.heard_of_not_confirm st.1
  have wired := s.clearWire_port p
  have answered : ((s.clearWire p).onPort p fun q => q.control tySyncAck false [q.syncWord]) = s.onPort p Port.syncAnswered := by
    rw [State.clearWire_eq, State.onPort_onPort]
    rfl
  simp only [State.syncFrame, heard, wired, Port.unwired_st, st.2, if_false, answered]
  split
  · exact .inr rfl
  · exact .inl rfl

theorem sync_is_answered {p : Fin 2} {w : Word} {s : State} (quiet : s.quietRx p) (cts : (s.port p).cts = true)
    (h : (s.port p).st = .up ∨ (s.port p).st = .sync) :
    Answers (.sync p w) s fun t =>
      (∃ g more, (t.port p).wire = g :: more ∧ g.typ = tySyncAck ∧ g.payload = [(s.port p).syncWord]) ∧
        (t.port p).st = (s.port p).st ∧ (t.port p).nextRx = (s.port p).nextRx ∧ SameBut [.ports, .ev] s t := by
  have run : exec (.sync p w) s = .next ((s.onPort p Port.emptied).syncFrame p w) := by
    show execSync p w s = _
    obtain ⟨hears, ring, fifo⟩ := quiet
    rw [execSync, if_pos hears, s.takeChars_of_empty p ring fifo]
    rfl
  have emptied : (s.onPort p Port.emptied).port p = (s.port p).emptied := s.port_onPort_fin p _
  obtain ⟨g, answer, typ, payload⟩ := Port.syncAnswered_of_cts (q := (s.port p).emptied) (by rw [Port.emptied_cts, cts])
  have word : (s.port p).emptied.syncWord = (s.port p).syncWord := by
    rw [Port.syncWord, Port.emptied_nextRx, Port.emptied_eNextRx, Port.syncWord]
  obtain ⟨r, u, e, port⟩ := ((s.onPort p Port.emptied).onPort p Port.syncAnswered).syncNumbers_port p w
  rw [State.port_onPort_fin, emptied, answer] at port
  have frame : SameBut [.ports, .ev] s (((s.onPort p Port.emptied).onPort p Port.syncAnswered).syncNumbers p w) :=
    (((s.onPort_frame p _).trans (State.onPort_frame _ p _)).mono (by simp)).trans (State.syncNumbers_frame _ p w)
  obtain plain | resent := State.syncFrame_of_linked (s := s.onPort p Port.emptied) (p := p) (by rw [emptied, Port.emptied_st]; exact h) w
  · exact ⟨_, run.trans (congrArg _ plain), ⟨g, [], by simp [port], typ, payload.trans (by rw [word])⟩, by simp [port], by simp [port], frame⟩
  · obtain ⟨w', h', u', e', all, -, onto⟩ := (((s.port p).emptied.unwired.onWire [g]).acked r u e).renumbered.resendAll_setSent
    obtain ⟨more, wire⟩ := onto (by simp [cts])
    refine ⟨_, run.trans (congrArg _ resent), ?_⟩
    simp only [State.port_onPort_fin, port, all]
    refine ⟨⟨g, more, ?_, typ, payload.trans (by rw [word])⟩, ?_, ?_, frame.trans ((State.onPort_frame _ p _).mono (by simp))⟩
    · simp [wire]
    · simp
    · simp

/-! ### SYNC_ACK (R90) -/

/-- The port that has its answer to SYNC. -/
def Port.resyncCounted (q : Port) : Port := { q with resync := q.resync + 1, resynced := true }

@[simp] theorem Port.resyncCounted_st (q : Port) : q.resyncCounted.st = q.st := rfl

theorem State.syncAckFrame_of_sync {s : State} {p : Fin 2} (h : (s.port p).st = .sync) (w : Word) :
    s.syncAckFrame p w = ((s.clearWire p).syncNumbers p w).onPort p fun q => q.resyncCounted.cameUp.resendAll := by
  have heard := State.heard_of_not_confirm (s := s) (p := p) (by rw [h]; decide)
  have wired := s.clearWire_port p
  obtain ⟨r, u, e, port⟩ := (s.clearWire p).syncNumbers_port p w
  have counted : ((((s.clearWire p).syncNumbers p w).onPort p Port.resyncCounted).port p).st = .sync := by
    rw [State.port_onPort_fin, port, wired, Port.resyncCounted_st, Port.renumbered_st, Port.acked_st, Port.unwired_st, h]
  have up : s.syncAckFrame p w = (((s.clearWire p).syncNumbers p w).onPort p Port.resyncCounted).enterUp p := by
    simp only [State.syncAckFrame, heard, wired, Port.unwired_st, h, if_true]
    rfl
  rw [up, State.enterUp_of_sync counted, State.onPort_onPort]

theorem syncAck_brings_up {p : Fin 2} {w : Word} {s : State} (quiet : s.quietRx p) (h : (s.port p).st = .sync) :
    Answers (.syncAck p w) s fun t =>
      (t.port p).st = .up ∧ (t.port p).resync = (s.port p).resync + 1 ∧ (t.port p).resynced = true ∧ SameBut [.ports, .ev] s t := by
  have run : exec (.syncAck p w) s = _ :=
    congrArg Host.Outcome.next ((State.framed_of_quiet quiet _).trans (State.syncAckFrame_of_sync h w))
  obtain ⟨r, u, e, port⟩ := (s.clearWire p).syncNumbers_port p w
  have resync : (((s.clearWire p).syncNumbers p w).port p).resync = (s.port p).resync := by
    rw [port, s.clearWire_port]
    generalize s.port p = q
    rfl
  have frame := ((s.clearWire_frame p).mono (by simp)).trans ((s.clearWire p).syncNumbers_frame p w)
  refine ⟨_, run, ?_⟩
  simp only [State.port_onPort_fin]
  obtain ⟨w', h', u', e', all, -, -⟩ := (((s.clearWire p).syncNumbers p w).port p).resyncCounted.cameUp.resendAll_setSent
  rw [all, ← resync]
  generalize ((s.clearWire p).syncNumbers p w).port p = q
  exact ⟨rfl, rfl, rfl, frame.trans ((State.onPort_frame _ p _).mono (by simp))⟩

/-! ### An unanswered SYNC (R90) -/

/-- The port that sends its SYNC a second time. -/
def Port.syncRepeated (q : Port) : Port := ({ q with syncSent := 2 } : Port).control tySync false [q.syncWord]

theorem Port.syncRepeated_of_cts {q : Port} (h : q.cts = true) (empty : q.wire = []) :
    q.syncRepeated.st = q.st ∧ q.syncRepeated.syncSent = 2 ∧
      ∃ g, q.syncRepeated.wire = [g] ∧ g.typ = tySync ∧ g.payload = [q.syncWord] := by
  have put := Port.control_of_cts (q := { q with syncSent := 2 }) h tySync false [q.syncWord]
  rw [Port.syncRepeated, put]
  exact ⟨rfl, rfl, _, congrArg (· ++ [_]) empty, rfl, rfl⟩

section
variable {p : Fin 2} {s : State} (h : (s.port p).st = .sync) (below : (s.port p).errored.errCnt < (s.port p).errLimit)
include h below

/-- T_SYNC has run out once more: a link error is counted, and SYNC repeated or the link given up. -/
theorem exec_syncTimeout_of_sync :
    exec (.syncTimeout p) s = .next (if (s.port p).syncSent < 2 then (s.onPort p Port.missed).onPort p Port.syncRepeated
      else (s.onPort p Port.missed).fallBack p) := by
  show execSyncTimeout p s = _
  have counted := s.countError_of_wired (p := p) (.inr h) below
  have port : (s.onPort p Port.missed).port p = (s.port p).missed := State.port_onPort_fin _ _ _
  simp only [execSyncTimeout, h, ← Port.unwired.eq_def, ← State.clearWire_eq, counted, port, Port.missed_st, Port.missed_syncSent, ne_eq,
    not_true_eq_false, if_false]
  split <;> rfl

theorem syncTimeout_repeats (cts : (s.port p).cts = true) (once : (s.port p).syncSent < 2) :
    Answers (.syncTimeout p) s fun t =>
      (t.port p).st = .sync ∧ (t.port p).syncSent = 2 ∧
        (∃ g, (t.port p).wire = [g] ∧ g.typ = tySync ∧ g.payload = [(s.port p).syncWord]) ∧ OnlyPort p s t := by
  have run := exec_syncTimeout_of_sync h below
  rw [if_pos once, State.onPort_onPort] at run
  obtain ⟨st, syncSent, wire⟩ := Port.syncRepeated_of_cts (q := (s.port p).missed) (by rw [Port.missed_cts, cts]) (Port.missed_wire _)
  have word : (s.port p).missed.syncWord = (s.port p).syncWord := by
    rw [Port.syncWord, Port.missed_nextRx, Port.missed_eNextRx, Port.syncWord]
  rw [word] at wire
  refine .of_port run rfl fun t port only => ?_
  rw [port]
  exact ⟨st.trans (by rw [Port.missed_st, h]), syncSent, wire, only⟩

theorem syncTimeout_falls_back (twice : 2 ≤ (s.port p).syncSent) :
    Answers (.syncTimeout p) s fun t =>
      (t.port p).st = .hunt ∧ (t.port p).div = 40 ∧ t.dev.linkPend = true ∧ SameBut [.ports, .dev, .ev] s t := by
  have run := exec_syncTimeout_of_sync h below
  rw [if_neg (Nat.not_lt.mpr twice)] at run
  obtain ⟨st, div, -⟩ := (s.onPort p Port.missed).fallBack_fields p
  exact ⟨_, run, st, div, State.fallBack_linkPend _ p, ((s.onPort_frame p _).mono (by simp)).trans (State.fallBack_frame _ p)⟩

end

/-! ### A frame that comes to a port in UP (R87, R88) -/

/-- The port that knows of a gap of `d` frames, on their second send once they come (R89). -/
def Port.gapNoted (d : Nat) (q : Port) : Port := { q with discarded := max (d + 1) q.discarded }

@[simp] theorem Port.gapNoted_st (d : Nat) (q : Port) : (q.gapNoted d).st = q.st := rfl
@[simp] theorem Port.gapNoted_nextRx (d : Nat) (q : Port) : (q.gapNoted d).nextRx = q.nextRx := rfl
@[simp] theorem Port.gapNoted_txq (d : Nat) (q : Port) : (q.gapNoted d).txq = q.txq := rfl
@[simp] theorem Port.gapNoted_wire (d : Nat) (q : Port) : (q.gapNoted d).wire = q.wire := rfl
@[simp] theorem Port.gapNoted_errLimit (d : Nat) (q : Port) : (q.gapNoted d).errLimit = q.errLimit := rfl
@[simp] theorem Port.gapNoted_buckets (d : Nat) (q : Port) : (q.gapNoted d).buckets = q.buckets := rfl
@[simp] theorem Port.gapNoted_errWin (d : Nat) (q : Port) : (q.gapNoted d).errWin = q.errWin := rfl

/-- The port that asks for the frames of a gap. -/
def Port.gapTold (d : Nat) (q : Port) : Port := (q.gapNoted d).control tyNak false []

theorem Port.gapTold_of_cts {q : Port} (h : q.cts = true) (d : Nat) :
    ∃ g, q.gapTold d = (q.gapNoted d).onWire [g] ∧ g.typ = tyNak ∧ g.ackseq = q.nextRx :=
  ⟨_, Port.control_of_cts (q := q.gapNoted d) h tyNak false [], rfl, rfl⟩

section
variable {p : Fin 2} {s : State} (quiet : s.quietRx p) (cts : (s.port p).cts = true) (up : (s.port p).st = .up) {typ : Nat}
  {outcome bad : Bool} {seq k : BitVec 8} {ws : List Word} (len : ws.length ≤ (s.port p).maxlen)

/-- The state in which the number of a frame is reckoned: its ACKSEQ has counted (R86). -/
def State.reckoned (s : State) (p : Nat) (k : BitVec 8) : State := (s.clearWire p).ackBefore p false k

theorem State.reckoned_frame (s : State) (p : Nat) (k : BitVec 8) : SameBut [.ports, .ev] s (s.reckoned p k) :=
  ((s.clearWire_frame p).mono (by simp)).trans ((s.clearWire p).ackBefore_frame p false k)

theorem State.reckoned_port (s : State) (p : Fin 2) (k : BitVec 8) : ∃ r u e, (s.reckoned p k).port p = (s.port p).unwired.acked r u e := by
  obtain ⟨r, u, e, port⟩ := (s.clearWire p).ackBefore_port p false k
  exact ⟨r, u, e, port.trans (by rw [s.clearWire_port])⟩

/-- The state in which a gap of `d` frames has been asked for. -/
def State.gapTold (s : State) (p : Nat) (k : BitVec 8) (d : Nat) : State := (s.reckoned p k).onPort p (Port.gapTold d)

theorem State.gapTold_frame (s : State) (p : Nat) (k : BitVec 8) (d : Nat) : SameBut [.ports, .ev] s (s.gapTold p k d) :=
  (s.reckoned_frame p k).trans ((State.onPort_frame _ p _).mono (by simp))

theorem State.gapTold_port {s : State} {p : Fin 2} (cts : (s.port p).cts = true) (k : BitVec 8) (d : Nat) :
    ∃ r u e g, (s.gapTold p k d).port p = (((s.port p).unwired.acked r u e).gapNoted d).onWire [g] ∧ g.typ = tyNak ∧
      g.ackseq = (s.port p).nextRx := by
  obtain ⟨r, u, e, port⟩ := s.reckoned_port p k
  obtain ⟨g, told, typ, ackseq⟩ := Port.gapTold_of_cts (q := (s.port p).unwired.acked r u e) (by simp [cts]) d
  refine ⟨r, u, e, g, ?_, typ, ackseq.trans (by simp)⟩
  rw [State.gapTold, State.port_onPort_fin, port, told]

include up len

theorem State.frame_of_past (past : 240 ≤ (seq - (s.port p).nextRx).toNat) :
    s.frame p typ false outcome bad seq k ws = (s.reckoned p k).onPort p fun q => q.control tyAck false [] := by
  have heard := State.heard_of_not_confirm (s := s) (p := p) (by rw [up]; decide)
  have wired := s.clearWire_port p
  have ahead : (seq - (s.port p).nextRx).toNat ≠ 0 := by omega
  simp only [State.frame, Nat.not_lt.mpr len, if_false, heard, wired, Port.unwired_st, up, reduceCtorEq, Bool.false_eq_true,
    Port.unwired_nextRx, ahead, past, if_true]
  rfl

theorem State.frame_of_gap (ahead : 0 < (seq - (s.port p).nextRx).toNat) (gap : (seq - (s.port p).nextRx).toNat < 240) :
    s.frame p typ false outcome bad seq k ws =
      if (s.port p).errSince then s.gapTold p k (seq - (s.port p).nextRx).toNat
      else (s.gapTold p k (seq - (s.port p).nextRx).toNat).countError p := by
  have heard := State.heard_of_not_confirm (s := s) (p := p) (by rw [up]; decide)
  have wired := s.clearWire_port p
  simp only [State.frame, Nat.not_lt.mpr len, if_false, heard, wired, Port.unwired_st, up, reduceCtorEq, Bool.false_eq_true,
    Port.unwired_nextRx, Nat.ne_of_gt ahead, Nat.not_le.mpr gap, Port.unwired_errSince]
  rfl

include quiet cts

theorem regWr_of_past (past : 240 ≤ (seq - (s.port p).nextRx).toNat) :
    Answers (.regWr p seq k ws) s fun t =>
      (t.port p).nextRx = (s.port p).nextRx ∧ (t.port p).txq = (s.port p).txq ∧
        (∃ g, (t.port p).wire = [g] ∧ g.typ = tyAck ∧ g.ackseq = (s.port p).nextRx) ∧ SameBut [.ports, .ev] s t := by
  obtain ⟨r, u, e, port⟩ := s.reckoned_port p k
  have acked := Port.control_of_cts (q := (s.port p).unwired.acked r u e) (by simp [cts]) tyAck false []
  have frame := (s.reckoned_frame p k).trans ((State.onPort_frame (s.reckoned p k) p fun q => q.control tyAck false []).mono (by simp))
  refine ⟨_, congrArg Host.Outcome.next ((State.framed_of_quiet quiet _).trans (State.frame_of_past up len past)), ?_⟩
  simp only [State.port_onPort_fin, port, acked]
  exact ⟨by simp, by simp, ⟨_, by simp; rfl, rfl, by simp⟩, frame⟩

theorem regWr_of_gap (ahead : 0 < (seq - (s.port p).nextRx).toNat) (gap : (seq - (s.port p).nextRx).toNat < 240)
    (below : (s.port p).errored.errCnt < (s.port p).errLimit) :
    Answers (.regWr p seq k ws) s fun t =>
      (t.port p).nextRx = (s.port p).nextRx ∧ (t.port p).txq = (s.port p).txq ∧
        (∃ g, (t.port p).wire = [g] ∧ g.typ = tyNak ∧ g.ackseq = (s.port p).nextRx) ∧
        (t.port p).buckets = (if (s.port p).errSince then (s.port p).buckets else (s.port p).errored.buckets) ∧
        SameBut [.ports, .ev] s t := by
  obtain ⟨r, u, e, g, port, typ, ackseq⟩ := State.gapTold_port cts k (seq - (s.port p).nextRx).toNat
  have frame := s.gapTold_frame p k (seq - (s.port p).nextRx).toNat
  have run : exec (.regWr p seq k ws) s = .next _ :=
    congrArg Host.Outcome.next ((State.framed_of_quiet quiet _).trans (State.frame_of_gap up len ahead gap))
  generalize s.gapTold p k (seq - (s.port p).nextRx).toNat = t at run port frame
  cases counted : (s.port p).errSince
  · have once := State.countError_of_below (s := t) (p := p) (by simp [port, up]) (by simpa [port, Port.errCnt, Port.errored] using below)
    rw [counted, if_neg Bool.false_ne_true, once] at run
    refine ⟨_, run, ?_⟩
    simp only [State.port_onPort_fin, port]
    exact ⟨by simp, by simp, ⟨g, by simp, typ, ackseq⟩, by simp [Port.errored], frame.trans ((t.onPort_frame p _).mono (by simp))⟩
  · rw [counted, if_pos rfl] at run
    exact ⟨t, run, by simp [port], by simp [port], ⟨g, by simp [port], typ, ackseq⟩, by simp [port], frame⟩

end

/-- Settles O16: acknowledgement, SYNC and the number of a frame are judged one after the other, each on what the one before leaves of the
port. -/
theorem linkErrorsAreRepaired : Obligations.LinkErrorsAreRepaired :=
  ⟨fun _ _ _ _ _ quiet cts up sent => ⟨ack_takes quiet up sent, nak_resends quiet cts up sent, nak_leads_to_sync quiet cts up sent,
      ackTimeout_resends cts up sent⟩,
    fun _ _ _ quiet cts => ⟨sync_is_answered quiet cts, syncAck_brings_up quiet, fun sync once below => syncTimeout_repeats sync below cts once,
      fun sync twice below => syncTimeout_falls_back sync below twice⟩,
    fun _ _ _ _ _ quiet cts up len => ⟨regWr_of_past quiet cts up len, regWr_of_gap quiet cts up len⟩⟩

end Sys2Proof.Machine
end

section
/-!
PROOFS. HELLO, the adoption of a divider and CONFIRM (R81..R85).
-/

namespace Sys2Proof.Machine

/-! ### A link started afresh (R85) -/

/-- The port as a fresh link leaves it. -/
def Port.freshened (rev : Nat) (q : Port) : Port :=
  { q with nextRx := 0, eNextRx := 0, nextTx := 0, eNextTx := 0, unacked := [], eUnacked := [], txq := [],
           eTxq := if rev = 1 then [] else (q.eUnacked ++ q.eTxq).map fun f => { f with sends := 0 },
           deferred := [], ownRsp := [], fbPend := none, errSince := false, eErrSince := false, discarded := 0, eDiscarded := 0,
           syncSent := 0, held := q.held.filter (fun f => isControl f.typ), asm := { Assembler.reset with ser := q.asm.ser },
           jobStat := if q.asm.isOpen then ⟨0, 0, 0⟩ else q.jobStat, pend := [] }

theorem State.discard_frame (s : State) (p : Nat) : SameBut [.tbl, .ports] s (s.discard p) :=
  ((s.onTbl_frame _).mono (by simp)).trans ((State.onPort_frame _ p _).mono (by simp))

theorem State.imageFail_frame (s : State) (r : Nat) : SameBut [.sec] s (s.imageFail r) := s.onSec_frame fun _ => (s.imageFail r).sec

theorem State.imageDropped_frame (s : State) (p : Nat) : SameBut [.sec] s (s.imageDropped p) := .ite (s.imageFail_frame 7) (.refl _ s)

theorem State.setDir_frame (s : State) (e : Nat) (d : DirEntry) : SameBut [.assets] s (s.setDir e d) := by
  intro q hq
  cases q with
  | assets => exact absurd (.head _) hq
  | _ => rfl

theorem State.assetFail_frame (s : State) (e r : Nat) : SameBut [.flash, .assets] s (s.assetFail e r) := by
  have erased : SameBut [.flash, .assets] s (s.eraseCommand (s.dirEntry e)) := s.eraseCopies_frame _ _ _ _
  have put (d : DirEntry) : SameBut [.flash, .assets] s ((s.eraseCommand (s.dirEntry e)).setDir e d) :=
    erased.trans ((State.setDir_frame _ e d).mono (by simp))
  exact .ite (put _) (put _)

/-- A fresh link is one change of the port, the events of its frames made due again, and what the port was loading dropped. -/
theorem State.freshLink_spec (s : State) (p : Fin 2) (rev : Nat) :
    (s.freshLink p rev).port p = (s.port p).freshened rev ∧ SameBut [.ports, .ev, .tbl, .flash, .assets, .sec] s (s.freshLink p rev) := by
  unfold State.freshLink
  extract_lets q lost kept s1 asm s2 s3 mine
  have cleared : SameBut [.ports, .ev] s s2 := ((s.onEv_frame _).mono (by simp)).trans ((s1.onPort_frame p _).mono (by simp))
  have dropped : SameBut [.sec, .flash, .assets] (s2.discard p) (mine.foldl (fun s c => s.assetFail c.1 5) s3) :=
    (((s2.discard p).imageDropped_frame p).mono (by simp)).trans (.foldl (fun t c => (t.assetFail_frame c.1 5).mono (by simp)) mine s3)
  have frame : SameBut [.ports, .ev, .tbl, .flash, .assets, .sec] s (mine.foldl (fun s c => s.assetFail c.1 5) s3) :=
    (cleared.mono (by simp)).trans (((s2.discard_frame p).mono (by simp)).trans (dropped.mono (by simp)))
  refine ⟨?_, frame⟩
  have port : s2.port p = { (s.port p).freshened rev with pend := (s.port p).pend } := State.port_onPort_fin s1 p _
  rw [State.port_congr (dropped .ports (by simp)), State.discard, State.port_onPort_fin]
  show { s2.port p with pend := [] } = _
  rw [port]
  rfl

/-! ### HELLO_ACK (R82) -/

theorem getLsbD_field (hi lo v i : Nat) :
    (field hi lo v).getLsbD i = (decide (i < 36) && (decide (lo ≤ i) && (decide (i - lo < hi + 1 - lo) && v.testBit (i - lo)))) := by
  rw [field, BitVec.getLsbD_ofNat, Nat.testBit_shiftLeft, Nat.testBit_mod_two_pow]

theorem bits_helloAck_rev (window maxlen rev : Nat) : bits (field 23 16 window ||| field 15 8 maxlen ||| field 7 0 rev) 7 0 = rev % 2 ^ 8 := by
  apply Nat.eq_of_testBit_eq
  intro i
  rw [testBit_bits, Nat.testBit_mod_two_pow]
  by_cases low : i < 8
  · simp only [BitVec.getLsbD_or, getLsbD_field, Nat.zero_add, show i < 36 by omega, show ¬ 16 ≤ i by omega, show ¬ 8 ≤ i by omega,
      Nat.zero_le, Nat.sub_zero, low, decide_true, decide_false, Bool.true_and, Bool.false_and, Bool.false_or]
  · simp only [show ¬ i < 7 + 1 - 0 by omega, decide_false, Bool.false_and]

theorem State.helloAck_port (s : State) (p : Fin 2) (window maxlen rev div : Nat) (cont : Bool) :
    ∃ w h, (s.helloAck p window maxlen rev div cont).port p = (s.port p).setWire w h := by
  rw [State.helloAck, State.port_onPort_fin]
  exact (s.port p).control_setWire _ _ _

theorem State.helloAck_of_cts {s : State} {p : Fin 2} (cts : (s.port p).cts = true) (window maxlen rev div : Nat) (cont : Bool) :
    ∃ g, (s.helloAck p window maxlen rev div cont).port p = (s.port p).onWire [g] ∧ g.typ = tyHelloAck ∧ g.payload.length = 4 ∧
      bits (g.payload.getD 0 0) 7 0 = rev % 2 ^ 8 := by
  rw [State.helloAck, State.port_onPort_fin, Port.control_of_cts cts]
  exact ⟨_, rfl, rfl, rfl, bits_helloAck_rev window maxlen rev⟩

theorem State.helloAck_frame (s : State) (p window maxlen rev div : Nat) (cont : Bool) :
    SameBut [.ports] s (s.helloAck p window maxlen rev div cont) := s.onPort_frame p _

/-! ### HELLO outside CONFIRM -/

/-- The port with what a HELLO has agreed (R83). -/
def Port.agreed (h : Hello) (q : Port) : Port :=
  { q with rev := h.rev, window := h.window, maxlen := if h.rev = 1 then 32 else 128, newDiv := none }

/-- A refused HELLO is answered; of its answer only REV is fixed. -/
def State.helloRefused (s : State) (p : Nat) : State :=
  let a := s.takeFresh
  let b := a.2.takeFresh
  let c := b.2.takeFresh
  c.2.helloAck p (Config.freeNat a.1) (Config.freeNat b.1) 0 (Config.freeNat c.1) false

/-- A HELLO agreed on is answered, the link kept under CONT and started afresh without. -/
def State.greeted (s : State) (p : Nat) (h : Hello) : State :=
  ((if h.cont then s.ackBefore p false h.nextRx else s.freshLink p h.rev).onPort p (Port.agreed h)).helloAck
    p h.window (if h.rev = 1 then 32 else 128) h.rev h.div h.cont

theorem State.hello_of_not_confirm {s : State} {p : Fin 2} (h : (s.port p).st ≠ .confirm) (w0 w1 : Word) :
    s.hello p w0 w1 =
      let a := agree w0 w1 (s.port p).div (s.port p).upSinceReset
      let t := (s.clearWire p).greeted p a
      if a.rev = 0 then (s.clearWire p).helloRefused p
      else if a.div = (s.port p).div then (if (s.port p).cts then t.enterUp p else t.onPort p fun q => { q with upOnAck := true })
      else t.onPort p fun q => { q with newDiv := some a.div } := by
  have outside : ((s.port p).st == .confirm) = false := by rw [beq_eq_false_iff_ne]; exact h
  have heard := State.heard_of_not_confirm h
  have wired := s.clearWire_port p
  unfold State.hello
  simp only [outside, heard, wired, Bool.false_eq_true, if_false, Port.unwired_div, Port.unwired_cts, Port.unwired_upSinceReset]
  rfl

/-! ### Refused -/

section
variable {p : Fin 2} {w0 w1 : Word} {s : State} (quiet : s.quietRx p) (cts : (s.port p).cts = true) (outside : (s.port p).st ≠ .confirm)
include quiet outside

theorem exec_hello_of_not_confirm :
    exec (.hello p w0 w1) s = .next (
      let a := agree w0 w1 (s.port p).div (s.port p).upSinceReset
      let t := (s.clearWire p).greeted p a
      if a.rev = 0 then (s.clearWire p).helloRefused p
      else if a.div = (s.port p).div then (if (s.port p).cts then t.enterUp p else t.onPort p fun q => { q with upOnAck := true })
      else t.onPort p fun q => { q with newDiv := some a.div }) :=
  congrArg Host.Outcome.next ((State.framed_of_quiet quiet _).trans (State.hello_of_not_confirm outside w0 w1))

include cts

theorem hello_refused (refused : (agree w0 w1 (s.port p).div (s.port p).upSinceReset).rev = 0) :
    Answers (.hello p w0 w1) s fun t =>
      (t.port p).st = (s.port p).st ∧ (t.port p).rev = (s.port p).rev ∧ (t.port p).div = (s.port p).div ∧
        (t.port p).nextRx = (s.port p).nextRx ∧
        (∃ f, (t.port p).wire = [f] ∧ f.typ = tyHelloAck ∧ f.payload.length = 4 ∧ bits (f.payload.getD 0 0) 7 0 = 0) ∧
        SameBut [.ports, .fresh] s t := by
  have run := exec_hello_of_not_confirm (w0 := w0) (w1 := w1) quiet outside
  dsimp only at run
  rw [if_pos refused] at run
  have wired := s.clearWire_port p
  obtain ⟨t, drawn, port, frame⟩ : ∃ t, (∃ x y z, (s.clearWire p).helloRefused p = t.helloAck p x y 0 z false) ∧
      t.port p = (s.port p).unwired ∧ SameBut [.ports, .fresh] s t := by
    refine ⟨_, ⟨_, _, _, rfl⟩, wired, ((s.clearWire_frame p).mono (by simp)).trans ?_⟩
    exact (((State.takeFresh_frame _).trans (State.takeFresh_frame _)).trans (State.takeFresh_frame _)).mono (by simp)
  obtain ⟨x, y, z, answer⟩ := drawn
  obtain ⟨g, sent, typ, length, rev⟩ := State.helloAck_of_cts (s := t) (p := p) (by rw [port, Port.unwired_cts, cts]) x y 0 z false
  rw [answer] at run
  rw [port] at sent
  exact ⟨_, run, by simp [sent], by simp [sent], by simp [sent], by simp [sent], ⟨g, by simp [sent], typ, length, rev⟩,
    frame.trans ((State.helloAck_frame t p x y 0 z false).mono (by simp))⟩

end

/-! ### Agreed -/

theorem State.greeted_frame (s : State) (p : Fin 2) {h : Hello} (fresh : h.cont = false) :
    SameBut [.ports, .ev, .tbl, .flash, .assets, .sec] s (s.greeted p h) := by
  rw [State.greeted, fresh, if_neg Bool.false_ne_true]
  exact ((s.freshLink_spec p h.rev).2.trans ((State.onPort_frame _ p _).mono (by simp))).trans ((State.helloAck_frame _ _ _ _ _ _ _).mono (by simp))

theorem State.greeted_port (s : State) (p : Fin 2) {h : Hello} (fresh : h.cont = false) :
    ∃ w e, (s.greeted p h).port p = (((s.port p).freshened h.rev).agreed h).setWire w e := by
  rw [State.greeted, fresh, if_neg Bool.false_ne_true]
  obtain ⟨w, e, port⟩ := State.helloAck_port ((s.freshLink p h.rev).onPort p (Port.agreed h)) p h.window (if h.rev = 1 then 32 else 128) h.rev
    h.div false
  refine ⟨w, e, ?_⟩
  rw [port, State.port_onPort_fin, (s.freshLink_spec p h.rev).1]

/-- Under CONT as without, HELLO_ACK leaves with the revision agreed while state and divider are those of before (log 41). -/
theorem State.greeted_kept (s : State) (p : Fin 2) (h : Hello) :
    ((s.greeted p h).port p).st = (s.port p).st ∧ ((s.greeted p h).port p).div = (s.port p).div ∧ ((s.greeted p h).port p).rev = h.rev := by
  cases kept : h.cont
  · obtain ⟨w, e, port⟩ := s.greeted_port p kept
    rw [port]
    generalize s.port p = q
    exact ⟨rfl, rfl, rfl⟩
  · rw [State.greeted, kept, if_pos rfl]
    obtain ⟨r, u, e, acked⟩ := s.ackBefore_port p false h.nextRx
    obtain ⟨w, e', port⟩ := State.helloAck_port ((s.ackBefore p false h.nextRx).onPort p (Port.agreed h)) p h.window
      (if h.rev = 1 then 32 else 128) h.rev h.div true
    rw [port, State.port_onPort_fin, acked]
    generalize s.port p = q
    exact ⟨rfl, rfl, rfl⟩

section
variable {p : Fin 2} {w0 w1 : Word} {s : State} (quiet : s.quietRx p) (cts : (s.port p).cts = true) (outside : (s.port p).st ≠ .confirm)
  {h : Hello} (asked : agree w0 w1 (s.port p).div (s.port p).upSinceReset = h) (agreed : h.rev ≠ 0)
include quiet outside asked agreed

theorem hello_changes_divider (other : h.div ≠ (s.port p).div) :
    Answers (.hello p w0 w1) s fun t =>
      (t.port p).newDiv = some h.div ∧ (t.port p).div = (s.port p).div ∧ (t.port p).st = (s.port p).st ∧ (t.port p).rev = h.rev := by
  have run := exec_hello_of_not_confirm (w0 := w0) (w1 := w1) quiet outside
  dsimp only at run
  rw [asked, if_neg agreed, if_neg other] at run
  obtain ⟨st, div, rev⟩ := (s.clearWire p).greeted_kept p h
  rw [s.clearWire_port] at st div
  refine .of_next run ?_
  rw [State.port_onPort_fin]
  exact ⟨rfl, div, st, rev⟩

include cts

theorem hello_leads_to_up (same : h.div = (s.port p).div) (fresh : h.cont = false) :
    Answers (.hello p w0 w1) s fun t =>
      (t.port p).st = .up ∧ (t.port p).rev = h.rev ∧ (t.port p).window = h.window ∧
        (t.port p).maxlen = (if h.rev = 1 then 32 else 128) ∧ (t.port p).div = (s.port p).div ∧
        (t.port p).nextRx = 0 ∧ (t.port p).eNextRx = 0 ∧ (t.port p).nextTx = 0 ∧ (t.port p).unacked = [] ∧
        t.lanes = s.lanes ∧ t.jobs = s.jobs ∧ t.welt = s.welt := by
  have run := exec_hello_of_not_confirm (w0 := w0) (w1 := w1) quiet outside
  dsimp only at run
  rw [asked, if_neg agreed, if_pos same, if_pos cts] at run
  have frame : SameBut [.ports, .dev, .ev, .tbl, .flash, .assets, .sec] s (((s.clearWire p).greeted p h).enterUp p) :=
    (((s.clearWire_frame p).mono (by simp)).trans (((s.clearWire p).greeted_frame p fresh).mono (by simp))).trans
      ((State.enterUp_frame _ p).mono (by simp))
  obtain ⟨w, e, greeted⟩ := (s.clearWire p).greeted_port p fresh
  obtain ⟨n, up⟩ := ((s.clearWire p).greeted p h).enterUp_port p
  rw [greeted, s.clearWire_port] at up
  have lanes := frame .lanes (by simp)
  have jobs := frame .jobs (by simp)
  have welt := frame .welt (by simp)
  refine .of_next run ?_
  rw [up]
  generalize s.port p = q at *
  obtain ⟨w', e', u, v, all, empty, -⟩ :=
    ({ (((q.unwired.freshened h.rev).agreed h).setWire w e).cameUp with lost := n } : Port).resendAll_setSent
  rw [all]
  exact ⟨rfl, rfl, rfl, rfl, rfl, rfl, rfl, rfl, empty rfl, lanes, jobs, welt⟩

end

/-! ### The divider adopted, and CONFIRM (R84) -/

theorem dividerAdopt_adopts {p : Fin 2} {s : State} {d : Nat} (new : (s.port p).newDiv = some d)
    (gone : ((s.port p).held.any fun f => f.typ == tyHelloAck) = false) :
    Answers (.dividerAdopt p) s fun t => t.port p = { s.port p with div := d, st := .confirm, newDiv := none } ∧ OnlyPort p s t := by
  have run : exec (.dividerAdopt p) s = .next (s.onPort p fun q => { q with div := d, st := .confirm, newDiv := none }) := by
    show execDividerAdopt p s = _
    simp only [execDividerAdopt, new, gone, Bool.false_eq_true, if_false]
  exact .of_port run rfl fun _ => And.intro

theorem dividerAdopt_waits {p : Fin 2} {s : State} (none' : (s.port p).newDiv = none) : exec (.dividerAdopt p) s = .next s := by
  show execDividerAdopt p s = _
  simp only [execDividerAdopt, none']

theorem confirmTimeout_gives_up {p : Fin 2} {s : State} (h : (s.port p).st = .confirm) :
    Answers (.confirmTimeout p) s fun t => t.port p = { s.port p with div := 40, st := .hunt } ∧ OnlyPort p s t :=
  .of_port (congrArg Host.Outcome.next (if_pos h)) rfl fun _ => And.intro

theorem confirmTimeout_outside {p : Fin 2} {s : State} (h : (s.port p).st ≠ .confirm) : exec (.confirmTimeout p) s = .next s :=
  congrArg Host.Outcome.next (if_neg h)

/-- Settles O15: outside CONFIRM a HELLO comes to one of three states by what `agree` answers. -/
theorem helloAgreesOrRefuses : Obligations.HelloAgreesOrRefuses := fun _ _ _ _ quiet cts =>
  ⟨hello_refused quiet cts, fun outside agreed same fresh => hello_leads_to_up quiet cts outside rfl agreed same fresh,
    fun outside agreed other => hello_changes_divider quiet outside rfl agreed other, fun _ => dividerAdopt_adopts, dividerAdopt_waits,
    confirmTimeout_gives_up, confirmTimeout_outside⟩

end Sys2Proof.Machine
end

section
/-!
PROOFS. Requests in order: what a request leaves of the port while it runs, and its RSP (R75..R78, R95).
-/

namespace Sys2Proof.Machine

/-! ### What reads leave of the port (R106, R108, R124) -/

/-- Port `p` expects the same frames in `t` as in `s`, and the same frames wait to be sent. -/
structure State.LinkKept (p : Nat) (s t : State) : Prop where
  nextRx : (t.port p).nextRx = (s.port p).nextRx
  txq : (t.port p).txq = (s.port p).txq

namespace State.LinkKept
variable {p : Nat} {s t u : State}

theorem refl : s.LinkKept p s := ⟨rfl, rfl⟩

theorem trans (ht : s.LinkKept p t) (hu : t.LinkKept p u) : s.LinkKept p u := ⟨hu.nextRx.trans ht.nextRx, hu.txq.trans ht.txq⟩

theorem of_ports (h : t.ports = s.ports) : s.LinkKept p t :=
  ⟨congrArg Port.nextRx (State.port_congr h p), congrArg Port.txq (State.port_congr h p)⟩

theorem onPort {j : Nat} {f : Port → Port} (hf : ∀ q, (f q).nextRx = q.nextRx ∧ (f q).txq = q.txq) : s.LinkKept p (s.onPort j f) := by
  obtain same | changed := at'_upd_cases s.ports j p f
  · exact ⟨congrArg Port.nextRx same, congrArg Port.txq same⟩
  · exact ⟨(congrArg Port.nextRx changed).trans (hf _).1, (congrArg Port.txq changed).trans (hf _).2⟩

end State.LinkKept

namespace State
variable {p j : Nat} {s : State}

theorem opBegin_linkKept {seq k : Nat} : s.LinkKept p (s.opBegin j seq k) := .onPort fun _ => ⟨rfl, rfl⟩

theorem noteAccess_linkKept {rc : Nat} {tbl : Bool} : s.LinkKept p (s.noteAccess j rc tbl) := .onPort fun _ => ⟨rfl, rfl⟩

theorem advance_linkKept {always : Bool} : s.LinkKept p (s.advance j always) := .onPort fun q => by cases h : always || q.autoinc <;> exact ⟨rfl, rfl⟩

theorem popEvent_linkKept : s.LinkKept p (s.popEvent j).2 := by
  unfold State.popEvent
  split
  · exact .onPort fun _ => by exact ⟨rfl, rfl⟩
  · split
    · dsimp only
      exact (LinkKept.of_ports (s.takeEvents_frame j _ .ports (by simp))).trans (.onPort fun _ => by exact ⟨rfl, rfl⟩)
    · exact .refl

theorem probeRead_linkKept {n : Nat} : s.LinkKept p (s.probeRead n).2 := by
  unfold State.probeRead
  split
  · exact .of_ports rfl
  · exact .of_ports rfl

theorem tableWord_linkKept {o : Obj} {k : Nat} : s.LinkKept p (s.tableWord o k).2 := by
  unfold State.tableWord
  dsimp only
  split
  · split
    · exact probeRead_linkKept
    · exact .refl
  · split
    · exact .of_ports rfl
    · exact .refl
  · split
    · exact .of_ports rfl
    · exact .refl
  · split
    · exact .of_ports rfl
    · exact .refl
  · exact .refl

theorem readTable_linkKept {a : Nat} : s.LinkKept p (s.readTable j a).2 := by
  unfold State.readTable
  split
  · split
    · exact tableWord_linkKept
    · exact noteAccess_linkKept
  · exact noteAccess_linkKept

theorem readData_linkKept {always : Bool} : s.LinkKept p (s.readData j always).2 := readTable_linkKept.trans advance_linkKept

theorem readAuxRx_linkKept {k : Nat} : s.LinkKept p (s.readAuxRx k).2 := by
  unfold State.readAuxRx
  dsimp only
  split
  · split
    · exact .refl
    · exact .of_ports rfl
  · exact .refl

theorem readAux_linkKept {k off : Nat} : s.LinkKept p (s.readAux k off).2 := by
  unfold State.readAux
  split
  · exact .refl
  · split
    · exact .refl
    · split
      · exact .refl
      · exact readAuxRx_linkKept

theorem readReg_linkKept {r : Nat} : s.LinkKept p (s.readReg j r).2 := by
  unfold State.readReg
  split
  · exact popEvent_linkKept
  · exact readData_linkKept
  · dsimp only
    split
    · exact .of_ports rfl
    · exact .refl
  iterate 8 exact readAux_linkKept
  · split
    · exact noteAccess_linkKept
    · exact .refl

end State

/-! ### Operations in payload order (R78) -/

/-- What a run of reads comes to: one value for each, nothing refused, nothing waiting. -/
structure Ran.Reads (p : Nat) (n : Nat) (r u : Ran) : Prop where
  kept : r.s.LinkKept p u.s
  data : u.data.length = r.data.length + n
  rcode : u.rcode = r.rcode
  ridx : u.ridx = r.ridx
  waits : u.waits = r.waits
  closed : u.closed = r.closed

theorem Ran.Reads.refl (p : Nat) (r : Ran) : r.Reads p 0 r := ⟨.refl, rfl, rfl, rfl, rfl, rfl⟩

theorem Ran.Reads.trans {p m n : Nat} {r u v : Ran} (hu : r.Reads p m u) (hv : u.Reads p n v) : r.Reads p (m + n) v where
  kept := hu.kept.trans hv.kept
  data := by rw [hv.data, hu.data, Nat.add_assoc]
  rcode := hv.rcode.trans hu.rcode
  ridx := hv.ridx.trans hu.ridx
  waits := hv.waits.trans hu.waits
  closed := hv.closed.trans hu.closed

/-- One read. -/
theorem Ran.Reads.one {p : Nat} (r : Ran) {t : State} (w : Word) (h : r.s.LinkKept p t) : r.Reads p 1 { r with s := t, data := r.data ++ [w] } :=
  ⟨h, List.length_append, rfl, rfl, rfl, rfl⟩

theorem Ran.Reads.foldl {α : Type} {p : Nat} {f : Ran → α → Ran} (hf : ∀ (r : Ran) (a : α), r.Reads p 1 (f r a)) (ops : List α) (r : Ran) :
    r.Reads p ops.length (ops.foldl f r) := by
  induction ops generalizing r with
  | nil => exact .refl p r
  | cons a ops ih =>
    rw [List.length_cons, Nat.add_comm]
    exact (hf r a).trans (ih (f r a))

theorem runReads_reads (p seq : Nat) (r : Ran) (ops : List (Word × Nat)) : r.Reads p ops.length (runReads p seq r ops) :=
  .foldl (fun r _ => .one r _ (State.opBegin_linkKept.trans State.readReg_linkKept)) ops r

theorem runTblReads_reads (p seq : Nat) (r : Ran) (ops : List Nat) : r.Reads p ops.length (runTblReads p seq r ops) :=
  .foldl (fun r _ => .one r _ (State.opBegin_linkKept.trans State.readData_linkKept)) ops r

/-- Without OUTCOME no operation of a request defers its response: a fold of steps that leave it alone. -/
theorem Ran.foldl_closed {α : Type} {f : Ran → α → Ran} (hf : ∀ (r : Ran) (a : α), (f r a).closed = r.closed) (ops : List α) (r : Ran) :
    (ops.foldl f r).closed = r.closed := by
  induction ops generalizing r with
  | nil => rfl
  | cons a ops ih => exact (ih (f r a)).trans (hf r a)

theorem Ran.jobWrWord_closed (r : Ran) (p seq : Nat) (w : Word) : (r.jobWrWord p seq false w).closed = r.closed := by
  simp only [Ran.jobWrWord, Bool.false_and, Bool.false_eq_true, if_false]

theorem runJobWords_closed (p seq : Nat) (r : Ran) (ops : List (Word × Nat)) : (runJobWords p seq false r ops).closed = r.closed :=
  Ran.foldl_closed (fun _ _ => by rw [Ran.jobWrWord_closed]) ops r

theorem runWrites_closed (p seq : Nat) (emerg : Bool) (r : Ran) (ops : List ((Word × Word) × Nat)) :
    (runWrites p seq emerg r ops).closed = r.closed := Ran.foldl_closed (fun _ _ => by rfl) ops r

theorem runTblWrites_closed (p seq : Nat) (r : Ran) (ops : List (Word × Nat)) : (runTblWrites p seq r ops).closed = r.closed :=
  Ran.foldl_closed (fun _ _ => by rfl) ops r

theorem State.run_closed (s : State) (p typ seq : Nat) (emerg : Bool) (ws : List Word) : (s.run p typ seq emerg false ws).closed = false := by
  unfold State.run
  dsimp only
  split
  · exact (runReads_reads p seq _ _).closed
  · split
    · exact runWrites_closed _ _ _ _ _
    · split
      · exact runJobWords_closed _ _ _ _
      · split
        · exact (runTblReads_reads p seq _ _).closed
        · exact runTblWrites_closed _ _ _ _

end Sys2Proof.Machine
end

section
/-!
PROOFS. A request in order takes its number and is answered by one RSP (R75..R78, R87, R95).
-/

namespace Sys2Proof.Machine

/-! ### Taking a request in order (R87) -/

/-- The port with one more frame that came at its second send, where `more` of them were to come (R89, R105). -/
def Port.resentCounted (more : Nat) (q : Port) : Port := if 0 < more then { q with retxOk := q.retxOk + 1 } else q

theorem Port.resentCounted_eq (more : Nat) (q : Port) : q.resentCounted more = { q with retxOk := (q.resentCounted more).retxOk } := by
  unfold Port.resentCounted
  split <;> rfl

/-- The port that has taken the frame it expected in a space. -/
def Port.taken (emerg : Bool) (q : Port) : Port :=
  let more := if emerg then q.eDiscarded else q.discarded
  let r := q.resentCounted more
  if emerg then { r with eNextRx := r.eNextRx + 1, eErrSince := false, eDiscarded := more - 1 }
  else { r with nextRx := r.nextRx + 1, errSince := false, discarded := more - 1 }

/-- Of its port the taking of a frame changes the number expected and what is known of lost frames. -/
theorem Port.taken_fields (emerg : Bool) (q : Port) :
    (q.taken emerg).rev = q.rev ∧ (q.taken emerg).maxlen = q.maxlen ∧ (q.taken emerg).txq = q.txq ∧
      (q.taken emerg).nextRx = if emerg then q.nextRx else q.nextRx + 1 := by
  rw [Port.taken, Port.resentCounted_eq]
  cases emerg <;> exact ⟨rfl, rfl, rfl, rfl⟩

theorem State.onPort_congr (s : State) (p : Fin 2) {f g : Port → Port} (h : f (s.port p) = g (s.port p)) : s.onPort p f = s.onPort p g := by
  have port : s.port p = s.ports[p.val] := by rw [State.port, at'_eq, dif_pos p.isLt]
  rw [port] at h
  simp only [State.onPort, upd, h]

section
variable {p : Fin 2} {s : State} (up : (s.port p).st = .up)
include up

theorem State.accepted_eq (emerg : Bool) (k : BitVec 8) : s.accepted p emerg k = (s.reckoned p k).onPort p (Port.taken emerg) := by
  rw [State.accepted, State.heard_of_not_confirm (s := s) (p := p) (by rw [up]; decide)]
  exact State.onPort_congr _ p rfl

/-- Taking a frame in order keeps the revision, the greatest length and what waits to be sent. -/
theorem State.accepted_fields (emerg : Bool) (k : BitVec 8) :
    ((s.accepted p emerg k).port p).rev = (s.port p).rev ∧ ((s.accepted p emerg k).port p).maxlen = (s.port p).maxlen ∧
      ((s.accepted p emerg k).port p).txq = (s.port p).txq ∧
      ((s.accepted p emerg k).port p).nextRx = if emerg then (s.port p).nextRx else (s.port p).nextRx + 1 := by
  obtain ⟨r, u, e, port⟩ := s.reckoned_port p k
  have fields := ((s.port p).unwired.acked r u e).taken_fields emerg
  rw [State.accepted_eq up, State.port_onPort_fin, port]
  simpa only [Port.acked_rev, Port.acked_maxlen, Port.acked_txq, Port.acked_nextRx, Port.unwired_rev, Port.unwired_maxlen,
    Port.unwired_txq, Port.unwired_nextRx] using fields

theorem State.accepted_frame (emerg : Bool) (k : BitVec 8) : SameBut [.ports, .ev] s (s.accepted p emerg k) := by
  rw [State.accepted_eq up]
  exact (s.reckoned_frame p k).trans ((State.onPort_frame _ p _).mono (by simp))

/-- A frame with the number expected in its space is taken, and its request runs. -/
theorem State.frame_of_next {typ : Nat} {emerg outcome bad : Bool} {seq k : BitVec 8} {ws : List Word}
    (len : ws.length ≤ (s.port p).maxlen) (next : seq = if emerg then (s.port p).eNextRx else (s.port p).nextRx) :
    s.frame p typ emerg outcome bad seq k ws = (s.accepted p emerg k).runRequest p typ seq.toNat emerg outcome bad ws := by
  have heard := State.heard_of_not_confirm (s := s) (p := p) (by rw [up]; decide)
  have wired := s.clearWire_port p
  have here : (seq - (if emerg then (s.port p).eNextRx else (s.port p).nextRx)).toNat = 0 := by rw [next, BitVec.sub_self]; rfl
  obtain ⟨r, u, e, port⟩ := s.reckoned_port p k
  rw [State.accepted_eq up]
  simp only [State.frame, Nat.not_lt.mpr len, if_false, heard, wired, Port.unwired_st, up, reduceCtorEq, Port.unwired_eNextRx,
    Port.unwired_nextRx, here, if_true]
  refine congrArg (fun t : State => t.runRequest p typ seq.toNat emerg outcome bad ws) (State.onPort_congr _ p ?_)
  rw [show ((s.clearWire p).ackBefore p false k).port p = (s.port p).unwired.acked r u e from port]
  rfl

end

/-! ### The answer (R77, R79) -/

/-- An RSP queued in the NORMAL space, with the ACK where no frame of that space can go at once. -/
def State.answered (s : State) (p : Nat) (words : List Word) : State := (s.queueRsp p false words).ackAlone p false

theorem State.answered_frame (s : State) (p : Nat) (words : List Word) : SameBut [.ports] s (s.answered p words) :=
  (s.onPort_frame p _).trans (State.onPort_frame _ p _)

theorem State.answered_fields (s : State) (p : Fin 2) (words : List Word) :
    ((s.answered p words).port p).nextRx = (s.port p).nextRx ∧
      ((s.answered p words).port p).txq = (s.port p).txq ++ [⟨tyRsp, false, 0, 0, words, 0, [], none⟩] := by
  rw [State.answered, State.ackAlone, State.queueRsp, State.port_onPort_fin, State.port_onPort_fin]
  generalize s.port p = q
  simp only [Bool.false_eq_true, if_false]
  split
  · obtain ⟨w, h, put⟩ := Port.control_setWire { q with txq := q.txq ++ [⟨0x20, false, 0, 0, words, 0, [], none⟩] } tyAck false []
    rw [put]
    exact ⟨rfl, rfl⟩
  · exact ⟨rfl, rfl⟩

theorem hostRequest_of_rev2 {rev typ : Nat} (h : 2 ≤ rev) (known : typ = tyJobWr ∨ typ = tyTblRd ∨ typ = tyTblWr) :
    hostRequest rev typ = true := by
  obtain rfl | rfl | rfl := known <;> simp [hostRequest, h]

/-- A request of a known TYPE and sound form runs, and is answered by one RSP: DONE, or REFUSED with the first refusal. -/
theorem State.runRequest_of_sound {s : State} {p typ seq : Nat} {emerg : Bool} {ws : List Word}
    (known : emerg = true ∨ hostRequest (s.port p).rev typ = true) (sound : framePayloadOk typ (s.port p).maxlen emerg ws = true)
    (now : (s.run p typ seq emerg false ws).waits = 0) :
    s.runRequest p typ seq emerg false false ws =
      let r := s.run p typ seq emerg false ws
      (r.s.queueRsp p emerg (rspWord (if r.rcode = 0 then lsDone else lsRefused) r.rcode r.ridx seq :: r.data)).ackAlone p emerg := by
  have supported : (!emerg && !hostRequest (s.port p).rev typ) = false := by
    obtain h | h := known <;> rw [h] <;> simp
  have closed := s.run_closed p typ seq emerg ws
  simp only [State.runRequest, supported, sound, closed, now, Bool.not_true, Bool.or_self, Bool.false_and, Bool.false_eq_true, ne_eq,
    not_true_eq_false, if_false]

section
variable {p : Fin 2} {s : State} (up : (s.port p).st = .up) {k : BitVec 8} {ws : List Word} (len : ws.length ≤ (s.port p).maxlen)
include up len

/-- A sound request in order, whatever command brings its frame: it is taken, runs and is answered. -/
theorem State.frame_of_request {typ : Nat} {emerg : Bool} {seq : BitVec 8} (next : seq = if emerg then (s.port p).eNextRx else (s.port p).nextRx)
    (known : emerg = true ∨ hostRequest (s.port p).rev typ = true) (sound : framePayloadOk typ (s.port p).maxlen emerg ws = true)
    (now : ((s.accepted p emerg k).run p typ seq.toNat emerg false ws).waits = 0) :
    s.frame p typ emerg false false seq k ws =
      let r := (s.accepted p emerg k).run p typ seq.toNat emerg false ws
      (r.s.queueRsp p emerg (rspWord (if r.rcode = 0 then lsDone else lsRefused) r.rcode r.ridx seq.toNat :: r.data)).ackAlone p emerg := by
  obtain ⟨rev, maxlen, -⟩ := State.accepted_fields up emerg k
  rw [State.frame_of_next up len next]
  exact State.runRequest_of_sound (by rw [rev]; exact known) (by rw [maxlen]; exact sound) now

/-- A request whose operations are all reads is answered by as many values, and leaves what waits to be sent (R78). -/
theorem State.frame_of_reads {typ count : Nat} (known : hostRequest (s.port p).rev typ = true)
    (sound : framePayloadOk typ (s.port p).maxlen false ws = true) {r : Ran}
    (run : (s.accepted p false k).run p typ (s.port p).nextRx.toNat false false ws = r)
    (reads : (⟨s.accepted p false k, [], 0, 0, 0, false⟩ : Ran).Reads p count r) :
    ∃ t, s.frame p typ false false false (s.port p).nextRx k ws = t ∧ (t.port p).nextRx = (s.port p).nextRx + 1 ∧
      ∃ data, data.length = count ∧
        (t.port p).txq = (s.port p).txq ++
          [⟨tyRsp, false, 0, 0, rspWord lsDone 0 0 (s.port p).nextRx.toNat :: data, 0, [], none⟩] := by
  obtain ⟨kept, data, rcode, ridx, waits, -⟩ := reads
  obtain ⟨-, -, txq, nextRx⟩ := State.accepted_fields up false k
  obtain ⟨nextRx', txq'⟩ := r.s.answered_fields p (rspWord lsDone 0 0 (s.port p).nextRx.toNat :: r.data)
  have frame := State.frame_of_request up len (seq := (s.port p).nextRx) rfl (.inr known) sound (by rw [run]; exact waits)
  dsimp only at frame
  rw [run, rcode, ridx, if_pos rfl] at frame
  refine ⟨_, frame, ?_, r.data, by rw [data, List.length_nil, Nat.zero_add], ?_⟩
  · exact nextRx'.trans (kept.nextRx.trans nextRx)
  · exact txq'.trans (by rw [kept.txq, txq])

end

section
variable {p : Fin 2} {s : State} (quiet : s.quietRx p) (up : (s.port p).st = .up) {k : BitVec 8} {ws : List Word}
  (len : ws.length ≤ (s.port p).maxlen)
include quiet up len

theorem regRd_answers (sound : framePayloadOk tyRegRd (s.port p).maxlen false ws = true) :
    Answers (.regRd p (s.port p).nextRx k ws) s fun t =>
      (t.port p).nextRx = (s.port p).nextRx + 1 ∧
        ∃ data, data.length = ws.length ∧
          (t.port p).txq = (s.port p).txq ++
            [⟨tyRsp, false, 0, 0, rspWord lsDone 0 0 (s.port p).nextRx.toNat :: data, 0, [], none⟩] := by
  have reads := runReads_reads p (s.port p).nextRx.toNat ⟨s.accepted p false k, [], 0, 0, 0, false⟩ ws.zipIdx
  rw [List.length_zipIdx] at reads
  obtain ⟨t, frame, answer⟩ := State.frame_of_reads up len rfl sound rfl reads
  exact ⟨t, congrArg Host.Outcome.next ((State.framed_of_quiet quiet _).trans frame), answer⟩

theorem tblRd_answers (rev : 2 ≤ (s.port p).rev) (sound : framePayloadOk tyTblRd (s.port p).maxlen false ws = true) :
    Answers (.tblRd p (s.port p).nextRx k ws) s fun t =>
      (t.port p).nextRx = (s.port p).nextRx + 1 ∧
        ∃ data, data.length = (ws.getD 1 0).toNat ∧
          (t.port p).txq = (s.port p).txq ++
            [⟨tyRsp, false, 0, 0, rspWord lsDone 0 0 (s.port p).nextRx.toNat :: data, 0, [], none⟩] := by
  have begun : (s.accepted p false k).LinkKept p ((s.accepted p false k).tblBegin p (s.port p).nextRx.toNat (ws.headD 0)) :=
    State.opBegin_linkKept.trans (.onPort fun _ => by exact ⟨rfl, rfl⟩)
  obtain ⟨kept, data, rcode, ridx, waits, closed⟩ := runTblReads_reads p (s.port p).nextRx.toNat
    ⟨(s.accepted p false k).tblBegin p (s.port p).nextRx.toNat (ws.headD 0), [], 0, 0, 0, false⟩ (List.range (ws.getD 1 0).toNat)
  rw [List.length_range] at data
  obtain ⟨t, frame, answer⟩ := State.frame_of_reads (k := k) up len (hostRequest_of_rev2 rev (.inr (.inl rfl))) sound rfl
    ⟨begun.trans kept, data, rcode, ridx, waits, closed⟩
  exact ⟨t, congrArg Host.Outcome.next ((State.framed_of_quiet quiet _).trans frame), answer⟩

theorem emergencyRegWr_answers (rev : 2 ≤ (s.port p).rev) (sound : framePayloadOk tyRegWr (s.port p).maxlen true ws = true)
    (now : ((s.accepted p true k).run p tyRegWr (s.port p).eNextRx.toNat true false ws).waits = 0) :
    exec (.emergencyRegWr p 0x11 (s.port p).eNextRx k ws) s = .next
      (let r := (s.accepted p true k).run p tyRegWr (s.port p).eNextRx.toNat true false ws
      (r.s.queueRsp p true
        (rspWord (if r.rcode = 0 then lsDone else lsRefused) r.rcode r.ridx (s.port p).eNextRx.toNat :: r.data)).ackAlone p true) := by
  have emerg : s.emergOf p true = true := by simp only [State.emergOf, rev, decide_true, Bool.and_self]
  have frame := State.frame_of_request up len (emerg := true) (seq := (s.port p).eNextRx) rfl (.inl rfl) sound now
  have typ : (0x11 : BitVec 8).toNat = tyRegWr := rfl
  have sequenced : isControl tyRegWr = false := rfl
  show execEmergencyRegWr p 0x11 (s.port p).eNextRx k ws s = _
  rw [execEmergencyRegWr, typ, sequenced, if_neg Bool.false_ne_true, State.framed_of_quiet quiet, emerg, frame]

end

theorem unsupportedFrame_answers {p : Fin 2} {s : State} (quiet : s.quietRx p) (up : (s.port p).st = .up) {k typ : BitVec 8}
    (sequenced : isControl typ.toNat = false) (unknown : hostRequest (s.port p).rev typ.toNat = false) :
    Answers (.unsupportedFrame p typ (s.port p).nextRx k) s fun t =>
      (t.port p).nextRx = (s.port p).nextRx + 1 ∧
        (t.port p).txq = (s.port p).txq ++ [⟨tyRsp, false, 0, 0, [rspWord lsUnsupported 0 0 (s.port p).nextRx.toNat], 0, [], none⟩] ∧
        SameBut [.ports, .ev] s t := by
  obtain ⟨rev, -, txq, nextRx⟩ := State.accepted_fields up false k
  obtain ⟨nextRx', txq'⟩ := (s.accepted p false k).answered_fields p [rspWord lsUnsupported 0 0 (s.port p).nextRx.toNat]
  have taken := State.frame_of_next (typ := typ.toNat) (outcome := false) (bad := false) (k := k) (ws := []) up (Nat.zero_le _)
    (seq := (s.port p).nextRx) (emerg := false) rfl
  have answer : (s.accepted p false k).runRequest p typ.toNat (s.port p).nextRx.toNat false false false [] =
      (s.accepted p false k).answered p [rspWord lsUnsupported 0 0 (s.port p).nextRx.toNat] := by
    simp only [State.runRequest, rev, unknown, Bool.not_false, Bool.and_self, if_true]
    rfl
  have run : exec (.unsupportedFrame p typ (s.port p).nextRx k) s =
      .next ((s.accepted p false k).answered p [rspWord lsUnsupported 0 0 (s.port p).nextRx.toNat]) := by
    show execUnsupportedFrame p typ (s.port p).nextRx k s = _
    rw [execUnsupportedFrame, sequenced, unknown, Bool.or_self, if_neg Bool.false_ne_true, State.framed_of_quiet quiet, taken, answer]
  exact ⟨_, run, nextRx'.trans nextRx, txq'.trans (by rw [txq]),
    (State.accepted_frame up false k).trans ((State.answered_frame _ p _).mono (by simp))⟩

/-- Settles O17: a request in order is taken and runs on the port as it then is; its operations are read off the TYPE. -/
theorem requestsInOrderAreAnswered : Obligations.RequestsInOrderAreAnswered := by
  intro p k ws s quiet up len n m
  have runs (typ : Nat) (known : hostRequest (s.port p).rev typ = true) (sound : framePayloadOk typ (s.port p).maxlen false ws = true)
      (now : ((s.accepted p false k).run p typ n.toNat false false ws).waits = 0) :=
    (State.framed_of_quiet quiet fun s => s.frame p typ false false false n k ws).trans
      (State.frame_of_request up len rfl (.inr known) sound now)
  exact ⟨regRd_answers quiet up len, tblRd_answers quiet up len,
    fun sound now => congrArg Host.Outcome.next (runs tyRegWr rfl sound now),
    fun rev sound now => congrArg Host.Outcome.next (runs tyTblWr (hostRequest_of_rev2 rev (.inr (.inr rfl))) sound now),
    fun rev sound now => congrArg Host.Outcome.next (runs tyJobWr (hostRequest_of_rev2 rev (.inl rfl)) sound now),
    emergencyRegWr_answers quiet up len, fun _ => unsupportedFrame_answers quiet up⟩

end Sys2Proof.Machine
end

section
/-!
PROOFS. Sequenced frames leave in turn: RSPs, deferred RSPs, NORMAL and EMERGENCY events (R78, R79, R86, R94, R98).
-/

namespace Sys2Proof.Machine

/-! ### A sequenced frame leaves (R86) -/

theorem Port.cts_of_maySend {q : Port} (h : q.maySend = true) : q.cts = true := by
  simp only [Port.maySend, Bool.and_eq_true] at h
  exact h.1.2

/-- A NORMAL frame leaves on a wire begun anew, with the next number of its space, and waits for its acknowledgement. -/
theorem Port.transmit_normal {q : Port} (cts : q.cts = true) (empty : q.wire = []) {f : Frame} (normal : f.emerg = false) :
    (q.transmit f).nextTx = q.nextTx + 1 ∧ (q.transmit f).txq = q.txq ∧ (q.transmit f).deferred = q.deferred ∧ (q.transmit f).fbPend = q.fbPend ∧
      ∃ g, (q.transmit f).wire = [g] ∧ g.typ = f.typ ∧ g.emerg = false ∧ g.seq = q.nextTx ∧ g.payload = f.payload ∧
        (q.transmit f).unacked = q.unacked ++ [g] := by
  simp only [Port.transmit, normal, Bool.false_eq_true, if_false, Port.emit_of_cts cts]
  exact ⟨rfl, rfl, rfl, rfl, _, congrArg (· ++ [_]) empty, rfl, rfl, rfl, rfl, rfl⟩

/-- An EMERGENCY frame leaves likewise in its own space. -/
theorem Port.transmit_emergency {q : Port} (cts : q.cts = true) (empty : q.wire = []) {f : Frame} (emergency : f.emerg = true) :
    (q.transmit f).eNextTx = q.eNextTx + 1 ∧
      ∃ g, (q.transmit f).wire = [g] ∧ g.typ = f.typ ∧ g.emerg = true ∧ g.payload = f.payload ∧
        (q.transmit f).eUnacked = q.eUnacked ++ [g] := by
  simp only [Port.transmit, emergency, if_true, Port.emit_of_cts cts]
  exact ⟨rfl, _, congrArg (· ++ [_]) empty, rfl, rfl, rfl, rfl⟩

@[simp] theorem Port.unwired_maySend (q : Port) : q.unwired.maySend = q.maySend := rfl
@[simp] theorem Port.unwired_mayNormal (q : Port) : q.unwired.mayNormal = q.mayNormal := rfl
@[simp] theorem Port.unwired_eTxq (q : Port) : q.unwired.eTxq = q.eTxq := rfl
@[simp] theorem Port.unwired_deferred (q : Port) : q.unwired.deferred = q.deferred := rfl
@[simp] theorem Port.unwired_evtStream (q : Port) : q.unwired.evtStream = q.evtStream := rfl

theorem Port.mayNormal_of_window {q : Port} (may : q.maySend = true) (window : q.unacked.length < q.window) : q.mayNormal = true := by
  simp only [Port.mayNormal, may, window, decide_true, Bool.and_self]

/-! ### EMERGENCY frames go first (R94) -/

theorem State.sendEmerg_of_none {s : State} {p : Nat} (queued : (s.port p).eTxq = []) (due : s.emergDue p = []) : s.sendEmerg p = none := by
  simp only [State.sendEmerg, queued, due, takeFitting, List.isEmpty_nil, if_true, ite_self]

theorem State.sendEmerg_of_events {s : State} {p : Nat} {es : List Event} (may : (s.port p).maySend = true) (rev : 2 ≤ (s.port p).rev)
    (room : (s.port p).eUnacked.length < 2) (queued : (s.port p).eTxq = []) (fit : es = takeFitting (s.port p).maxlen (s.emergDue p))
    (some' : es ≠ []) : s.sendEmerg p = some (s.sendEvents p true es) := by
  have full : es.isEmpty = false := by rw [List.isEmpty_eq_false_iff]; exact some'
  simp only [State.sendEmerg, may, Nat.not_lt.mpr rev, Nat.not_le.mpr room, queued, ← fit, full, Bool.not_true, decide_false, Bool.or_self,
    Bool.false_eq_true, if_false]

/-! ### RSP_SEND (R79) -/

/-- The port, its wire begun anew, with `rest` left to be sent. -/
def Port.dequeued (rest : List Frame) (q : Port) : Port := { q.unwired with txq := rest }

@[simp] theorem Port.dequeued_cts (rest : List Frame) (q : Port) : (q.dequeued rest).cts = q.cts := rfl
@[simp] theorem Port.dequeued_wire (rest : List Frame) (q : Port) : (q.dequeued rest).wire = [] := rfl
@[simp] theorem Port.dequeued_nextTx (rest : List Frame) (q : Port) : (q.dequeued rest).nextTx = q.nextTx := rfl
@[simp] theorem Port.dequeued_unacked (rest : List Frame) (q : Port) : (q.dequeued rest).unacked = q.unacked := rfl
@[simp] theorem Port.dequeued_fbPend (rest : List Frame) (q : Port) : (q.dequeued rest).fbPend = q.fbPend := rfl
@[simp] theorem Port.dequeued_txq (rest : List Frame) (q : Port) : (q.dequeued rest).txq = rest := rfl

section
variable {p : Fin 2} {s : State}

theorem rspSend_sends (runs : s.uartsRun = true) (may : (s.port p).maySend = true) {f : Frame} {rest : List Frame}
    (eQueued : (s.port p).eTxq = []) (due : s.emergDue p = []) (queued : (s.port p).txq = f :: rest) (normal : f.emerg = false)
    (window : (s.port p).unacked.length < (s.port p).window) (noFallback : (s.port p).fbPend = none) :
    Answers (.rspSend p) s fun t =>
      (t.port p).txq = rest ∧ (t.port p).nextTx = (s.port p).nextTx + 1 ∧
        (∃ g, (t.port p).wire = [g] ∧ g.seq = (s.port p).nextTx ∧ g.payload = f.payload ∧
          (t.port p).unacked = (s.port p).unacked ++ [g]) ∧ OnlyPort p s t := by
  have wired := s.clearWire_port p
  have none' := State.sendEmerg_of_none (s := s.clearWire p) (p := p) (by rw [wired, Port.unwired_eTxq, eQueued]) due
  obtain ⟨nextTx, txq, -, fbPend, g, wire, -, -, seq, payload, unacked⟩ :=
    Port.transmit_normal (q := (s.port p).dequeued rest) ((Port.dequeued_cts _ _).trans (Port.cts_of_maySend may)) (Port.dequeued_wire _ _) normal
  simp only [Port.dequeued_nextTx, Port.dequeued_txq, Port.dequeued_fbPend, Port.dequeued_unacked] at nextTx txq fbPend seq unacked
  have left : ((s.clearWire p).onPort p fun q => ({ q with txq := rest } : Port).transmit f).afterRsp p f =
      s.onPort p fun q => (q.dequeued rest).transmit f := by
    have after : ((s.onPort p fun q => (q.dequeued rest).transmit f).port p).fbPend = none := by
      rw [State.port_onPort_fin, fbPend, noFallback]
    rw [State.clearWire_eq, State.onPort_onPort]
    simp only [State.afterRsp, ← Port.dequeued.eq_def, after]
  have run : exec (.rspSend p) s = .next (s.onPort p fun q => (q.dequeued rest).transmit f) := by
    show execRspSend p s = _
    simp only [execRspSend, runs, none', wired, Port.unwired_txq, queued, Port.unwired_mayNormal, Port.mayNormal_of_window may window, left,
      Bool.not_true, Bool.false_eq_true, if_false, if_true]
  refine .of_port run rfl fun t port only => ?_
  rw [port]
  exact ⟨txq, nextTx, ⟨g, wire, seq, payload, unacked⟩, only⟩

/-! ### OUTCOME_RESPONSE (R78) -/

/-- The port, its wire begun anew, without the deferred response `d`. -/
def Port.undeferred (d : Nat × Nat × JobStat) (q : Port) : Port := { q.unwired with deferred := q.deferred.erase d }

theorem State.undeferred_eq (s : State) (p : Nat) (d : Nat × Nat × JobStat) :
    ((s.clearWire p).onPort p fun q => { q with deferred := q.deferred.erase d }) = s.onPort p (Port.undeferred d) := by
  rw [State.clearWire_eq, State.onPort_onPort]
  rfl

@[simp] theorem Port.undeferred_cts (d : Nat × Nat × JobStat) (q : Port) : (q.undeferred d).cts = q.cts := rfl
@[simp] theorem Port.undeferred_wire (d : Nat × Nat × JobStat) (q : Port) : (q.undeferred d).wire = [] := rfl
@[simp] theorem Port.undeferred_nextTx (d : Nat × Nat × JobStat) (q : Port) : (q.undeferred d).nextTx = q.nextTx := rfl
@[simp] theorem Port.undeferred_unacked (d : Nat × Nat × JobStat) (q : Port) : (q.undeferred d).unacked = q.unacked := rfl
@[simp] theorem Port.undeferred_deferred (d : Nat × Nat × JobStat) (q : Port) : (q.undeferred d).deferred = q.deferred.erase d := rfl
@[simp] theorem Port.undeferred_mayNormal (d : Nat × Nat × JobStat) (q : Port) : (q.undeferred d).mayNormal = q.mayNormal := rfl
@[simp] theorem Port.undeferred_txq (d : Nat × Nat × JobStat) (q : Port) : (q.undeferred d).txq = q.txq := rfl
@[simp] theorem Port.undeferred_eTxq (d : Nat × Nat × JobStat) (q : Port) : (q.undeferred d).eTxq = q.eTxq := rfl

/-- The RSP of the job of a deferred response. -/
def outcomeRsp (d : Nat × Nat × JobStat) : Frame := ⟨tyRsp, false, 0, 0, [rspWord lsDone 0 0 d.1, d.2.2.word], 0, [], none⟩

/-- The oldest response whose job is decided leaves at once where it can, else it waits behind the frames queued (log 42). -/
theorem exec_outcomeResponse_of_decided {d : Nat × Nat × JobStat} (decided : ((s.port p).deferred.find? fun d => 3 ≤ d.2.2.code) = some d) :
    exec (.outcomeResponse p) s = .next (
      let t := s.onPort p (Port.undeferred d)
      if (s.port p).mayNormal && (s.port p).txq.isEmpty && (t.sendEmerg p).isNone then t.onPort p fun q => q.transmit (outcomeRsp d)
      else t.queueRsp p false (outcomeRsp d).payload) := by
  show execOutcomeResponse p s = _
  have after : (s.onPort p (Port.undeferred d)).port p = (s.port p).undeferred d := s.port_onPort_fin p _
  simp only [execOutcomeResponse, s.clearWire_port p, Port.unwired_deferred, decided, State.undeferred_eq, after, Port.undeferred_mayNormal,
    Port.undeferred_txq]
  rfl

theorem outcomeResponse_sends (may : (s.port p).maySend = true) {d : Nat × Nat × JobStat} (eQueued : (s.port p).eTxq = [])
    (due : s.emergDue p = []) (queued : (s.port p).txq = []) (window : (s.port p).unacked.length < (s.port p).window)
    (decided : ((s.port p).deferred.find? fun d => 3 ≤ d.2.2.code) = some d) :
    Answers (.outcomeResponse p) s fun t =>
      (t.port p).nextTx = (s.port p).nextTx + 1 ∧ (t.port p).deferred = (s.port p).deferred.erase d ∧
        (∃ g, (t.port p).wire = [g] ∧ g.typ = tyRsp ∧ g.seq = (s.port p).nextTx ∧
          g.payload = [rspWord lsDone 0 0 d.1, d.2.2.word] ∧ (t.port p).unacked = (s.port p).unacked ++ [g]) ∧
        OnlyPort p s t := by
  have after : (s.onPort p (Port.undeferred d)).port p = (s.port p).undeferred d := s.port_onPort_fin p _
  have none' := State.sendEmerg_of_none (s := s.onPort p (Port.undeferred d)) (p := p) (by rw [after, Port.undeferred_eTxq, eQueued]) due
  have run := exec_outcomeResponse_of_decided decided
  simp only [Port.mayNormal_of_window may window, queued, List.isEmpty_nil, none', Option.isNone_none, Bool.and_self, if_true,
    State.onPort_onPort] at run
  obtain ⟨nextTx, -, deferred, -, g, wire, typ, -, seq, payload, unacked⟩ :=
    Port.transmit_normal (q := (s.port p).undeferred d) (f := outcomeRsp d)
      ((Port.undeferred_cts _ _).trans (Port.cts_of_maySend may)) (Port.undeferred_wire _ _) rfl
  simp only [Port.undeferred_nextTx, Port.undeferred_deferred, Port.undeferred_unacked] at nextTx deferred seq unacked
  refine .of_port run rfl fun t port only => ?_
  rw [port]
  exact ⟨nextTx, deferred, ⟨g, wire, typ, seq, payload, unacked⟩, only⟩

theorem outcomeResponse_queues {d : Nat × Nat × JobStat} {f : Frame} {rest : List Frame} (queued : (s.port p).txq = f :: rest)
    (decided : ((s.port p).deferred.find? fun d => 3 ≤ d.2.2.code) = some d) :
    Answers (.outcomeResponse p) s fun t =>
      (t.port p).deferred = (s.port p).deferred.erase d ∧
        (t.port p).txq = (s.port p).txq ++ [⟨tyRsp, false, 0, 0, [rspWord lsDone 0 0 d.1, d.2.2.word], 0, [], none⟩] ∧
        OnlyPort p s t := by
  have run := exec_outcomeResponse_of_decided decided
  simp only [queued, List.isEmpty_cons, Bool.and_false, Bool.false_and, Bool.false_eq_true, if_false, State.queueRsp,
    State.onPort_onPort] at run
  refine .of_port run rfl fun t port only => ?_
  rw [port]
  generalize s.port p = q
  exact ⟨rfl, rfl, only⟩

end

/-! ### Events (R94) -/

/-- The EVT frame of some events. -/
def evtFrame (emerg : Bool) (es : List Event) : Frame := ⟨tyEvt, emerg, 0, 0, es.flatMap Event.words, 0, es.map (·.id), none⟩

theorem State.sendEvents_port (s : State) (p : Fin 2) (emerg : Bool) (es : List Event) :
    (s.sendEvents p emerg es).port p = (s.port p).transmit (evtFrame emerg es) := State.port_onPort_fin _ p _

theorem State.sendEvents_frame (s : State) (p : Nat) (emerg : Bool) (es : List Event) : SameBut [.ports, .ev] s (s.sendEvents p emerg es) :=
  ((s.onEv_frame _).mono (by simp)).trans ((State.onPort_frame _ p _).mono (by simp))

/-- The port whose wire an EMERGENCY frame took while `k` characters of `f` had gone; `f` goes again whole behind it. -/
def Port.overtaken (f : Frame) (k : Nat) (q : Port) : Port := { q with wire := { f with cut := some k } :: q.wire ++ [f] }

@[simp] theorem Port.overtaken_eNextTx (f : Frame) (k : Nat) (q : Port) : (q.overtaken f k).eNextTx = q.eNextTx := rfl
@[simp] theorem Port.overtaken_eUnacked (f : Frame) (k : Nat) (q : Port) : (q.overtaken f k).eUnacked = q.eUnacked := rfl
@[simp] theorem Port.overtaken_wire (f : Frame) (k : Nat) (q : Port) : (q.overtaken f k).wire = { f with cut := some k } :: q.wire ++ [f] := rfl

section
variable {p : Fin 2} {s : State} (runs : s.uartsRun = true) (may : (s.port p).maySend = true) {es : List Event}
include runs may

theorem evtSend_sends (fit : es = takeFitting (s.port p).maxlen (s.ev.entries.filter fun e => e.cls != 1 && e.dueP p && !e.flyP p))
    (eQueued : (s.port p).eTxq = []) (due : s.emergDue p = []) (window : (s.port p).unacked.length < (s.port p).window)
    (stream : (s.port p).evtStream = true) (rev : 2 ≤ (s.port p).rev) (some' : es ≠ []) :
    Answers (.evtSend p) s fun t =>
      (t.port p).nextTx = (s.port p).nextTx + 1 ∧
        (∃ g, (t.port p).wire = [g] ∧ g.typ = tyEvt ∧ g.emerg = false ∧ g.payload = es.flatMap Event.words ∧
          (t.port p).unacked = (s.port p).unacked ++ [g]) ∧ SameBut [.ports, .ev] s t := by
  have wired := s.clearWire_port p
  have none' := State.sendEmerg_of_none (s := s.clearWire p) (p := p) (by rw [wired, Port.unwired_eTxq, eQueued]) due
  have full : es.isEmpty = false := by rw [List.isEmpty_eq_false_iff]; exact some'
  have entries : (s.clearWire p).ev = s.ev := rfl
  have run : exec (.evtSend p) s = .next ((s.clearWire p).sendEvents p false es) := by
    show execEvtSend p s = _
    simp only [execEvtSend, runs, none', wired, entries, Port.unwired_maxlen, ← fit, full, Port.unwired_evtStream, stream, Port.unwired_rev,
      Nat.not_lt.mpr rev, Port.unwired_mayNormal, Port.mayNormal_of_window may window, Bool.not_true, decide_false, Bool.or_self,
      Bool.false_eq_true, if_false]
  obtain ⟨nextTx, -, -, -, g, wire, typ, emerg, -, payload, unacked⟩ :=
    Port.transmit_normal (q := (s.port p).unwired) (f := evtFrame false es) (Port.cts_of_maySend may) rfl rfl
  refine .of_next run ?_
  rw [State.sendEvents_port, wired]
  exact ⟨nextTx, ⟨g, wire, typ, emerg, payload, unacked⟩,
    ((s.clearWire_frame p).mono (by simp)).trans (State.sendEvents_frame _ p false es)⟩

variable (fit : es = takeFitting (s.port p).maxlen (s.emergDue p)) (rev : 2 ≤ (s.port p).rev) (room : (s.port p).eUnacked.length < 2)
  (eQueued : (s.port p).eTxq = []) (some' : es ≠ [])
include fit rev room eQueued some'

/-- The EMERGENCY events that fit leave in one frame, and behind it goes again what was abandoned for it. -/
theorem exec_emergencyEvtSend_of_due (cut : Option Nat) :
    exec (.emergencyEvtSend (p, cut)) s = .next (match cut.bind fun k => ((s.port p).abandoned k).map fun f => (f, k) with
      | none => (s.clearWire p).sendEvents p true es
      | some (f, k) => ((s.clearWire p).sendEvents p true es).onPort p (Port.overtaken f k)) := by
  show execEmergencyEvtSend (p, cut) s = _
  have wired := s.clearWire_port p
  have sent := State.sendEmerg_of_events (s := s.clearWire p) (p := p) (es := es) (by rw [wired, Port.unwired_maySend, may])
    (by rw [wired, Port.unwired_rev]; exact rev) (by rw [wired, Port.unwired_eUnacked]; exact room) (by rw [wired, Port.unwired_eTxq, eQueued])
    (by rw [wired, Port.unwired_maxlen]; exact fit) some'
  simp only [execEmergencyEvtSend, runs, if_true, sent]
  rfl

theorem emergencyEvtSend_sends :
    Answers (.emergencyEvtSend (p, none)) s fun t =>
      (t.port p).eNextTx = (s.port p).eNextTx + 1 ∧
        (∃ g, (t.port p).wire = [g] ∧ g.typ = tyEvt ∧ g.emerg = true ∧ g.payload = es.flatMap Event.words ∧
          (t.port p).eUnacked = (s.port p).eUnacked ++ [g]) ∧ SameBut [.ports, .ev] s t := by
  have run := exec_emergencyEvtSend_of_due runs may fit rev room eQueued some' none
  rw [Option.bind_none] at run
  obtain ⟨eNextTx, g, wire, typ, emerg, payload, eUnacked⟩ :=
    Port.transmit_emergency (q := (s.port p).unwired) (f := evtFrame true es) (Port.cts_of_maySend may) rfl rfl
  refine .of_next run ?_
  rw [State.sendEvents_port, s.clearWire_port p]
  exact ⟨eNextTx, ⟨g, wire, typ, emerg, payload, eUnacked⟩,
    ((s.clearWire_frame p).mono (by simp)).trans (State.sendEvents_frame _ p true es)⟩

theorem emergencyEvtSend_abandons {f : Frame} {k : Nat} (abandoned : (s.port p).abandoned k = some f) :
    Answers (.emergencyEvtSend (p, some k)) s fun t =>
      (t.port p).eNextTx = (s.port p).eNextTx + 1 ∧
        (∃ g, (t.port p).wire = [{ f with cut := some k }, g, f] ∧ g.typ = tyEvt ∧ g.emerg = true ∧
          g.payload = es.flatMap Event.words ∧ (t.port p).eUnacked = (s.port p).eUnacked ++ [g]) ∧ SameBut [.ports, .ev] s t := by
  have run := exec_emergencyEvtSend_of_due runs may fit rev room eQueued some' (some k)
  simp only [Option.bind_some, abandoned, Option.map_some] at run
  obtain ⟨eNextTx, g, wire, typ, emerg, payload, eUnacked⟩ :=
    Port.transmit_emergency (q := (s.port p).unwired) (f := evtFrame true es) (Port.cts_of_maySend may) rfl rfl
  refine .of_next run ?_
  rw [State.port_onPort_fin, State.sendEvents_port, s.clearWire_port p]
  rw [Port.overtaken_eNextTx, Port.overtaken_wire, Port.overtaken_eUnacked]
  refine ⟨eNextTx, ⟨g, ?_, typ, emerg, payload, eUnacked⟩, (((s.clearWire_frame p).mono (by simp)).trans
    (State.sendEvents_frame _ p true es)).trans ((State.onPort_frame _ p _).mono (by simp))⟩
  rw [wire]
  rfl

end

/-- Settles O18: the EMERGENCY frame due is looked for first; what leaves is one `transmit` in its space. -/
theorem framesLeaveInTurn : Obligations.FramesLeaveInTurn := fun _ _ runs may =>
  ⟨fun _ _ eQueued due queued normal window noFallback => rspSend_sends runs may eQueued due queued normal window noFallback,
    fun _ eQueued due queued window decided => outcomeResponse_sends may eQueued due queued window decided,
    fun _ _ _ queued decided => outcomeResponse_queues queued decided,
    fun _ fit eQueued due window stream rev some' => evtSend_sends runs may fit eQueued due window stream rev some',
    fun _ fit rev room eQueued some' => emergencyEvtSend_sends runs may fit rev room eQueued some',
    fun _ _ _ fit rev room eQueued some' abandoned => emergencyEvtSend_abandons runs may fit rev room eQueued some' abandoned⟩

end Sys2Proof.Machine
end

section
/-!
PROOFS. The table store keeps its canonical form (log 6).
-/

namespace Sys2Proof.Machine

theorem Store.mem_of_mem_insert {a : Nat} {w : Word} {st : Store} {d : Nat × Word} (h : d ∈ Store.insert a w st) :
    d = (a, w) ∨ d ∈ st := by
  induction st with
  | nil => simpa [Store.insert] using h
  | cons c rest ih =>
    rw [Store.insert] at h
    grind

theorem Store.insert_rising (a : Nat) (w : Word) (st : Store) (h : st.Pairwise fun c d => c.1 < d.1) :
    (Store.insert a w st).Pairwise fun c d => c.1 < d.1 := by
  induction st with
  | nil => exact List.pairwise_singleton _ _
  | cons c rest ih =>
    obtain ⟨first, rising⟩ := List.pairwise_cons.mp h
    rw [Store.insert]
    split
    · next before =>
      refine List.pairwise_cons.mpr ⟨List.forall_mem_cons.mpr ⟨before, fun d hd => ?_⟩, h⟩
      exact before.trans (first d hd)
    · split
      · next same => exact List.pairwise_cons.mpr ⟨fun d hd => same ▸ first d hd, rising⟩
      · next after differs =>
        refine List.pairwise_cons.mpr ⟨fun d hd => ?_, ih rising⟩
        rcases Store.mem_of_mem_insert hd with rfl | old
        · exact lt_of_le_of_ne (Nat.not_lt.mp after) (Ne.symm differs)
        · exact first d old

/-- The canonical form: addresses rising, no entry equal to its reset word. -/
theorem Store.wf_iff (st : Store) :
    st.wf = true ↔ (st.Pairwise fun c d => c.1 < d.1) ∧ ∀ c ∈ st, c.2 ≠ resetWord c.1 := by
  induction st with
  | nil => simp [Store.wf]
  | cons c rest ih =>
    simp only [Store.wf, Bool.and_eq_true, bne_iff_ne, List.all_eq_true, decide_eq_true_eq, ih, List.pairwise_cons, List.forall_mem_cons]
    tauto

theorem Store.set_wf (st : Store) (a : Nat) (w : Word) (h : st.wf = true) : (st.set a w).wf = true := by
  obtain ⟨rising, stored⟩ := st.wf_iff.mp h
  rw [Store.set]
  split
  · exact (Store.wf_iff _).mpr ⟨rising.filter _, fun c hc => stored c (List.mem_of_mem_filter hc)⟩
  · next differs =>
    refine (Store.wf_iff _).mpr ⟨Store.insert_rising a w st rising, fun c hc => ?_⟩
    rcases Store.mem_of_mem_insert hc with rfl | old
    · exact differs
    · exact stored c old

/-- Settles O9: the entry of the address is replaced or dropped, and the others stand as they did. -/
theorem tableStoreReadsBack : Obligations.TableStoreReadsBack :=
  ⟨fun st a b w _ => st.get_set a b w, fun st a w => st.set_wf a w⟩

end Sys2Proof.Machine
end

section
/-!
PROOFS. Writes of the direct registers (R106, R112, R115, R120).
-/

namespace Sys2Proof.Machine

/-- A write that is done at once and refused nothing. -/
theorem exec_registerWrite_of_done {p : Fin 2} {r : BitVec 6} {w : Word} {s t : State}
    (h : s.writeDirect p r.toNat w none = ⟨t, 0, false⟩) : exec (.registerWrite p r w) s = .next t := by
  show Host.Outcome.next (s.writeReg p r.toNat w none).s = _
  rw [State.writeReg, h]
  rfl

theorem exec_registerWrite_of_refused {p : Fin 2} {r : BitVec 6} {w : Word} {s : State} {rc : Nat} (hrc : rc ≠ 0) (hr : r.toNat ≠ 0x0D)
    (h : s.writeDirect p r.toNat w none = ⟨s, rc, false⟩) : exec (.registerWrite p r w) s = .next (s.refuse p rc false) := by
  show Host.Outcome.next (s.writeReg p r.toNat w none).s = _
  simp only [State.writeReg, h, hrc, hr, or_self, if_false]

theorem State.writeDirect_readOnly {s : State} {p r : Nat} {w : Word} {rsp : Option (Bool × Nat × Nat)}
    (h : r ∈ [0x00, 0x05, 0x09, 0x0A, 0x0B, 0x0F, 0x13, 0x15, 0x16, 0x17, 0x31]) : s.writeDirect p r w rsp = ⟨s, 0, false⟩ := by
  fin_cases h <;> rfl

theorem State.writeDirect_unmapped {s : State} {p r : Nat} {w : Word} {rsp : Option (Bool × Nat × Nat)} (lo : 0x32 ≤ r) (hi : r < 0x3F) :
    s.writeDirect p r w rsp = ⟨s, rcUnmapped, false⟩ := by
  interval_cases r <;> rfl

theorem registerWrite_unmapped (p : Fin 2) (r : BitVec 6) (w : Word) (s : State) (lo : 0x32 ≤ r.toNat) (hi : r.toNat < 0x3F) :
    Answers (.registerWrite p r w) s fun t => (t.port p).noteCode = rcUnmapped ∧ (t.port p).refusedBit = true ∧ OnlyPort p s t :=
  .of_port (exec_registerWrite_of_refused (by decide) (by omega) (State.writeDirect_unmapped lo hi)) rfl
    fun _ port only => ⟨congrArg Port.noteCode port, congrArg Port.refusedBit port, only⟩

/-- A write of TBL_ADDR (R110). -/
theorem exec_registerWrite_tblAddr (p : Fin 2) (w : Word) (s : State) :
    exec (.registerWrite p 0x0C w) s = .next (s.onPort p fun q => { q with tblAddr := BitVec.ofNat 24 (bits w 23 0) }) :=
  exec_registerWrite_of_done rfl

/-- Settles O19: each register's own write, then one lemma for the read-only and one for the unmapped numbers. -/
theorem directRegisterWrites : Obligations.DirectRegisterWrites := by
  intro p w s
  refine ⟨.of_next (exec_registerWrite_of_done rfl) ⟨rfl, s.onDev_frame _⟩,
    .of_port (exec_registerWrite_tblAddr p w s) rfl fun _ port only => ⟨port, only⟩,
    fun r hr => exec_registerWrite_of_done (State.writeDirect_readOnly (List.mem_map_of_mem (f := BitVec.toNat) hr)),
    fun r => registerWrite_unmapped p r w s, .of_next rfl ⟨rfl, rfl, rfl, rfl, rfl, rfl, rfl, rfl, s.onDev_frame _⟩⟩

end Sys2Proof.Machine
end

section
/-!
PROOFS. The table window: TBL_ADDR, reads and writes of TBL_DATA (R107..R115).
-/

namespace Sys2Proof.Machine

/-- The address of the next access of TBL_DATA (R111). -/
def Port.nextAddr (q : Port) : BitVec 24 := if q.autoinc then q.tblAddr + 1 else q.tblAddr

/-- What an access of TBL_DATA outside a TBL_RD or TBL_WR makes of its port once the word has been dealt with. -/
def Port.advanced (q : Port) : Port := { q with tblAddr := q.nextAddr }

theorem State.advance_eq (s : State) (p : Nat) : s.advance p false = s.onPort p Port.advanced := by
  have step : (fun q : Port => if false || q.autoinc then { q with tblAddr := q.tblAddr + 1 } else q) = Port.advanced := by
    funext q
    simp only [Bool.false_or, Port.advanced, Port.nextAddr]
    by_cases auto : q.autoinc = true
    · rw [if_pos auto, if_pos auto]
    · rw [if_neg auto, if_neg auto]
  rw [State.advance, step]

/-- A port with the note of an unmapped read. -/
def Port.notedUnmapped (q : Port) : Port :=
  { q with noteCode := noteUnmappedRd, noteTbl := true, notedBit := true, noteIdx := q.opIdx, noteSeq := q.frameSeq }

/-- A port with the refusal `rc` of a write through the window. -/
def Port.refusedTbl (rc : Nat) (q : Port) : Port :=
  { q with noteCode := rc, noteTbl := true, refusedBit := true, noteIdx := q.opIdx, noteSeq := q.frameSeq }

theorem State.readTable_of_unmapped {s : State} {p a : Nat} (h : region a = none) :
    s.readTable p a = (0, s.onPort p Port.notedUnmapped) := by
  simp only [State.readTable, h]
  rfl

theorem State.readTable_gov {s : State} {p a k : Nat} (h : region a = some (.gov, k)) (hm : mapped a = true) :
    s.readTable p a = (s.tbl.shadow.get (Obj.gov.base + k) ||| s.statusWord .gov k, s) := by
  simp only [State.readTable, h, hm, if_true]
  rfl

theorem exec_tblDataRead {p : Fin 2} {s : State} {r : Word × State} (h : s.readTable p (s.port p).tblAddr.toNat = r) :
    exec (.tblDataRead p) s = .next (r.2.onPort p fun q => { q.advanced with rdata := r.1 }) := by
  show Host.Outcome.next (State.returned (s.readData p false) p) = _
  rw [State.returned, State.readData, h, State.advance_eq, State.onPort_onPort]

theorem tblDataRead_unmapped (p : Fin 2) (s : State) (h : region (s.port p).tblAddr.toNat = none) :
    Answers (.tblDataRead p) s fun t =>
      (t.port p).rdata = 0 ∧ (t.port p).noteCode = noteUnmappedRd ∧ (t.port p).tblAddr = (s.port p).nextAddr ∧ OnlyPort p s t := by
  have run := exec_tblDataRead (State.readTable_of_unmapped h)
  rw [State.onPort_onPort] at run
  exact .of_port run rfl fun _ port only =>
    ⟨congrArg Port.rdata port, congrArg Port.noteCode port, congrArg Port.tblAddr port, only⟩

theorem tblDataRead_gov (p : Fin 2) (s : State) (k : Nat) (h : region (s.port p).tblAddr.toNat = some (.gov, k))
    (hm : mapped (s.port p).tblAddr.toNat = true) :
    Answers (.tblDataRead p) s fun t =>
      (t.port p).rdata = s.tbl.shadow.get (Obj.gov.base + k) ||| s.statusWord .gov k ∧ (t.port p).tblAddr = (s.port p).nextAddr ∧
        OnlyPort p s t :=
  .of_port (exec_tblDataRead (State.readTable_gov h hm)) rfl fun _ port only =>
    ⟨congrArg Port.rdata port, congrArg Port.tblAddr port, only⟩

/-! ### Writes of TBL_DATA -/

theorem exec_tblDataWrite_refused {p : Fin 2} {w : Word} {s : State} {rc : Nat} (hrc : rc ≠ 0)
    (h : s.writeTable p (s.port p).tblAddr.toNat w = (s, rc)) :
    exec (.tblDataWrite p w) s = .next (s.onPort p fun q => (q.refusedTbl rc).advanced) := by
  show Host.Outcome.next (s.writeData p false w).1 = _
  rw [State.writeData, h, State.advance_eq]
  dsimp only
  rw [if_neg hrc, State.refuse, State.onPort_onPort]
  rfl

theorem exec_tblDataWrite_done {p : Fin 2} {w : Word} {s t : State} (h : s.writeTable p (s.port p).tblAddr.toNat w = (t, 0)) :
    exec (.tblDataWrite p w) s = .next (t.onPort p Port.advanced) := by
  show Host.Outcome.next (s.writeData p false w).1 = _
  rw [State.writeData, h, State.advance_eq, if_pos rfl]

theorem tblDataWrite_refused {p : Fin 2} {w : Word} {s : State} {rc : Nat} (hrc : rc ≠ 0)
    (h : s.writeTable p (s.port p).tblAddr.toNat w = (s, rc)) :
    Answers (.tblDataWrite p w) s fun t =>
      (t.port p).noteCode = rc ∧ (t.port p).tblAddr = (s.port p).nextAddr ∧ OnlyPort p s t :=
  .of_port (exec_tblDataWrite_refused hrc h) rfl fun _ port only => ⟨congrArg Port.noteCode port, congrArg Port.tblAddr port, only⟩

theorem State.writeTable_asset {s : State} {p a : Nat} {w : Word} (lo : 0x400000 ≤ a) (hi : a < 0x5F8000) :
    s.writeTable p a w = (s, rcReadonly) := if_pos ⟨lo, hi⟩

theorem State.writeTable_unmapped {s : State} {p a : Nat} {w : Word} (h : region a = none) (out : a < 0x400000 ∨ 0x5F8000 ≤ a) :
    s.writeTable p a w = (s, rcUnmapped) := by
  rw [State.writeTable, if_neg (by omega), h]

theorem State.writeTable_shadowed {s : State} {p a k : Nat} {o : Obj} {w : Word} (h : region a = some (o, k)) (hm : mapped a = true)
    (hs : shadowed (o.base + k) = true) (hrev : (s.port p).rev ≠ 1) (out : a < 0x400000 ∨ 0x5F8000 ≤ a) :
    s.writeTable p a w = s.writeShadow p (o.base + k) w := by
  rw [State.writeTable, if_neg (by omega), h]
  simp only [hm, hrev, hs, Bool.not_true, Bool.false_eq_true, false_and, if_false, if_true]

/-- Word `a` of the shadow copies written with `w` by port `p`, whose pending set it joins (R113). -/
def State.shadowWritten (s : State) (p a : Nat) (w : Word) : State :=
  ({ s with tbl := { s.tbl with shadow := s.tbl.shadow.set a (mergeStored a (s.tbl.shadow.get a) w) } } : State).onPort p fun q =>
    { q with pend := if q.pend.contains a then q.pend else q.pend ++ [a] }

theorem State.writeShadow_plain {s : State} {p a : Nat} {w : Word} (hrev : (s.port p).rev ≠ 1) (h0 : a ≠ bindingAddr 0)
    (h1 : a ≠ bindingAddr 1) : s.writeShadow p a w = (s.shadowWritten p a w, 0) := by
  simp only [State.writeShadow, hrev, h0, h1, decide_false, Bool.false_and, Bool.false_eq_true, false_and, if_false]
  rfl

theorem State.shadowWritten_frame (s : State) (p a : Nat) (w : Word) : SameBut [.tbl, .ports] s (s.shadowWritten p a w) :=
  ((s.onTbl_frame _).mono (by simp)).trans ((State.onPort_frame _ _ _).mono (by simp))

theorem State.shadowWritten_pend (s : State) (p : Fin 2) (a : Nat) (w : Word) : a ∈ ((s.shadowWritten p a w).port p).pend := by
  rw [State.shadowWritten, State.port_onPort_fin]
  dsimp only
  split
  · next known => exact List.contains_iff_mem.mp known
  · exact List.mem_append_right _ (List.mem_singleton_self a)

theorem State.shadowWritten_nextAddr (s : State) (p : Fin 2) (a : Nat) (w : Word) :
    ((s.shadowWritten p a w).port p).nextAddr = (s.port p).nextAddr := by
  rw [State.shadowWritten, State.port_onPort_fin]
  rfl

theorem tblDataWrite_shadowed (p : Fin 2) (w : Word) (s : State) (a : Nat)
    (h : s.writeTable p (s.port p).tblAddr.toNat w = (s.shadowWritten p a w, 0)) :
    Answers (.tblDataWrite p w) s fun t =>
      t.tbl.shadow = s.tbl.shadow.set a (mergeStored a (s.tbl.shadow.get a) w) ∧ t.tbl.force = s.tbl.force ∧
        a ∈ (t.port p).pend ∧ (t.port p).tblAddr = (s.port p).nextAddr ∧ SameBut [.tbl, .ports] s t := by
  refine .of_next (exec_tblDataWrite_done h) ⟨rfl, rfl, ?_, ?_, (s.shadowWritten_frame p a w).trans ((State.onPort_frame _ _ _).mono (by simp))⟩
  · rw [State.port_onPort_fin]; exact s.shadowWritten_pend p a w
  · rw [State.port_onPort_fin]; exact s.shadowWritten_nextAddr p a w

/-- Settles O20: an access reads or writes its word, is noted or refused, and then the address advances. -/
theorem tableWindowAccess : Obligations.TableWindowAccess := by
  intro p w s a next
  refine ⟨tblDataRead_unmapped p s, tblDataRead_gov p s, fun lo hi => ?_, fun h out => ?_, fun o k h hm hs hrev out h0 h1 => ?_⟩
  · exact tblDataWrite_refused (by decide) (State.writeTable_asset lo hi)
  · exact tblDataWrite_refused (by decide) (State.writeTable_unmapped h out)
  · have rev : (s.port p).rev ≠ 1 := by omega
    exact tblDataWrite_shadowed p w s _ ((State.writeTable_shadowed h hm hs rev out).trans (State.writeShadow_plain rev h0 h1))

/-! ### TBL_ADDR (R110) -/

theorem State.readReg_tblAddr (s : State) (p : Nat) : (s.readReg p 0x0C).1 = field 23 0 (s.port p).tblAddr.toNat := rfl

theorem toNat_addrBits (w : Word) : (BitVec.ofNat 24 (bits w 23 0)).toNat = bits w 23 0 := by
  rw [BitVec.toNat_ofNat, Nat.mod_eq_of_lt (bits_lt w 23 0)]

/-- Settles O59: the register of the port takes the address, and the next access of TBL_DATA is one at that address. -/
theorem tableAddressRegister : Obligations.TableAddressRegister := by
  refine ⟨fun p => ?_, fun p w s => .of_port (exec_registerWrite_tblAddr p w s) rfl fun t port only => ?_⟩
  · rw [State.readReg_tblAddr, State.reset_port p.isLt]
    rfl
  · have addr : (t.port p).tblAddr.toNat = bits w 23 0 := (congrArg (·.tblAddr.toNat) port).trans (toNat_addrBits w)
    refine ⟨?_, addr, fun q ne => ?_, fun out => ?_, fun k gov hm => ?_⟩
    · rw [State.readReg_tblAddr, addr]
    · rw [State.readReg_tblAddr, State.readReg_tblAddr]
      exact congrArg (fun q => field 23 0 q.tblAddr.toNat) (only.2 q (Fin.val_ne_of_ne ne))
    · exact (tblDataRead_unmapped p t (addr ▸ out)).mono fun v ⟨rdata, note, _, _⟩ => ⟨rdata, note⟩
    · exact (tblDataRead_gov p t k (addr ▸ gov) (addr ▸ hm)).mono fun v ⟨rdata, _, _⟩ => rdata

end Sys2Proof.Machine
end

section
/-!
PROOFS. The event window: EVENT_POP, events held back, EVENT_LOST (R124..R126).
-/

namespace Sys2Proof.Machine

/-! ### EVENT_POP (R124, R126) -/

theorem State.popEvent_of_args {s : State} {p : Nat} {w : Word} {rest : List Word} (h : (s.port p).popArgs = w :: rest) :
    s.popEvent p = (w, s.onPort p fun q => { q with popArgs := rest }) := by
  simp only [State.popEvent, h]

theorem State.popEvent_of_event {s : State} {p : Nat} {e : Event} (h : (s.port p).popArgs = []) (he : s.nextEvent p = some e) :
    s.popEvent p = (e.word, (s.takeEvents p [e.id]).onPort p fun q => { q with popArgs := e.args }) := by
  simp only [State.popEvent, h, he]

theorem State.popEvent_of_none {s : State} {p : Nat} (h : (s.port p).popArgs = []) (he : s.nextEvent p = none) :
    s.popEvent p = (field 19 15 31 ||| field 14 0 s.stamp, s) := by
  simp only [State.popEvent, h, he]

theorem exec_eventPop {p : Fin 2} {s : State} {r : Word × State} (h : s.popEvent p = r) :
    exec (.eventPop p) s = .next (r.2.onPort p fun q => { q with rdata := r.1 }) := by
  show Host.Outcome.next (State.returned (s.popEvent p) p) = _
  rw [State.returned, h]

theorem Event.take_id (e : Event) (p : Nat) : (e.take p).id = e.id := by
  rw [Event.take]
  split <;> rfl

theorem Event.take_dueP (e : Event) (p : Nat) : (e.take p).dueP p = false := by
  rw [Event.take, Event.dueP]
  split <;> rfl

/-- What a port has taken is due to it no more. -/
theorem State.takeEvents_dueP (s : State) (p id : Nat) (d : Event) (h : d ∈ (s.takeEvents p [id]).ev.entries) (hid : d.id = id) :
    d.dueP p = false := by
  obtain ⟨c, -, rfl⟩ := List.mem_map.mp (List.mem_of_mem_filter h)
  by_cases taken : c.id = id
  · simp only [List.contains_cons, taken, BEq.rfl, Bool.true_or, if_true]
    exact c.take_dueP p
  · simp only [List.contains_cons, List.contains_nil, Bool.or_false, beq_iff_eq, taken, if_false] at hid

theorem eventPop_of_args (p : Fin 2) (s : State) (w : Word) (rest : List Word) (h : (s.port p).popArgs = w :: rest) :
    Answers (.eventPop p) s fun t => (t.port p).rdata = w ∧ (t.port p).popArgs = rest ∧ OnlyPort p s t := by
  have run := exec_eventPop (State.popEvent_of_args h)
  rw [State.onPort_onPort] at run
  exact .of_port run rfl fun _ port only => ⟨congrArg Port.rdata port, congrArg Port.popArgs port, only⟩

theorem eventPop_of_event (p : Fin 2) (s : State) (e : Event) (h : (s.port p).popArgs = []) (he : s.nextEvent p = some e) :
    Answers (.eventPop p) s fun t =>
      (t.port p).rdata = e.word ∧ (t.port p).popArgs = e.args ∧ (∀ d ∈ t.ev.entries, d.id = e.id → d.dueP p = false) ∧
        SameBut [.ports, .ev] s t := by
  have run := exec_eventPop (State.popEvent_of_event h he)
  rw [State.onPort_onPort] at run
  refine .of_next run ⟨?_, ?_, s.takeEvents_dueP p e.id, ?_⟩
  · rw [State.port_onPort_fin]
  · rw [State.port_onPort_fin]
  · exact ((s.takeEvents_frame p _).mono (by simp)).trans ((State.onPort_frame _ _ _).mono (by simp))

theorem eventPop_of_none (p : Fin 2) (s : State) (h : (s.port p).popArgs = []) (he : s.nextEvent p = none) :
    Answers (.eventPop p) s fun t =>
      (t.port p).rdata = (field 19 15 31 ||| field 14 0 s.stamp) ∧ (t.port p).popArgs = [] ∧ OnlyPort p s t :=
  .of_port (exec_eventPop (State.popEvent_of_none h he)) rfl fun _ port only =>
    ⟨congrArg Port.rdata port, (congrArg Port.popArgs port).trans h, only⟩

/-! ### Events held back (R125) -/

theorem State.releaseFor_of_room {s : State} {need n : Nat} (h : s.ev.otherUsed + need ≤ 224) : s.releaseFor need (n + 1) = s := if_pos h

theorem State.releaseFor_store (need n : Nat) (s : State) : (s.releaseFor need n).ev.store = s.ev.store := by
  induction n generalizing s with
  | zero => rfl
  | succ n ih =>
    rw [State.releaseFor]
    split
    · rfl
    · split
      · rfl
      · next e _ =>
        have counted : (s.countLost e.due0 e.due1).ev.store = s.ev.store := congrArg EventQ.store (s.countLost_frame _ _ .ev (by simp))
        exact (ih _).trans counted

/-- An event that is due to a port goes behind those in the queue. -/
theorem State.appendEvent_ev (s : State) (e : Event) :
    (s.appendEvent e).ev = if e.due then { s.ev with entries := s.ev.entries ++ [e] } else s.ev := by
  have pend : (if s.dev.classMask.getLsbD e.cls then s.onDev fun d => { d with evtPend := true } else s).ev = s.ev := by
    split <;> rfl
  rw [State.appendEvent, State.onEv_ev, pend]

theorem State.appendEvent_store (s : State) (e : Event) : (s.appendEvent e).ev.store = s.ev.store := by
  rw [State.appendEvent_ev]
  split <;> rfl

/-- The state once the oldest event held back has moved into the queue; `rest` stay held back. -/
def State.movedUp (s : State) (e : Event) (rest : List Event) : State :=
  (s.onEv fun q => EventQ.setPaused { q with store := rest }).appendEvent e

theorem State.movedUp_store (s : State) (e : Event) (rest : List Event) : (s.movedUp e rest).ev.store = rest :=
  State.appendEvent_store _ _

theorem State.movedUp_entries (s : State) (e : Event) (rest : List Event) :
    (s.movedUp e rest).ev.entries = if e.due then s.ev.entries ++ [e] else s.ev.entries := by
  rw [State.movedUp, State.appendEvent_ev]
  split <;> rfl

theorem State.queueHeld_of_room {s : State} {e : Event} {rest : List Event} {n : Nat} (hs : s.ev.store = e :: rest)
    (h : s.ev.otherUsed + e.size ≤ 224) : s.queueHeld (n + 1) = (s.movedUp e rest).queueHeld n := by
  rw [State.queueHeld]
  simp only [hs, State.releaseFor_of_room (n := 223) h, h, if_true]
  rfl

/-- Events held back move up from the front of their store. -/
theorem State.queueHeld_store (n : Nat) (s : State) : (s.queueHeld n).ev.store <:+ s.ev.store := by
  induction n generalizing s with
  | zero => exact List.suffix_refl _
  | succ n ih =>
    rw [State.queueHeld]
    split
    · exact List.suffix_refl _
    · next e rest hs =>
      dsimp only
      split
      · refine (ih _).trans ?_
        have moved := ((s.releaseFor e.size 224).movedUp_store e rest)
        rw [State.movedUp] at moved
        rw [moved, hs]
        exact List.suffix_cons e rest
      · rw [State.releaseFor_store]

theorem heldBackEventQueue_moves (s : State) (e : Event) (rest : List Event) (hs : s.ev.store = e :: rest)
    (h : s.ev.otherUsed + e.size ≤ 224) :
    Answers .heldBackEventQueue s fun t =>
      t.ev.store <:+ rest ∧ (rest = [] → t.ev.entries = if e.due then s.ev.entries ++ [e] else s.ev.entries) ∧
        SameBut [.ev, .dev, .ports] s t := by
  refine .of_next (t := s.queueHeld s.ev.store.length) rfl ?_
  have moved : s.queueHeld s.ev.store.length = (s.movedUp e rest).queueHeld rest.length := by
    rw [hs, List.length_cons, State.queueHeld_of_room hs h]
  refine ⟨?_, fun last => ?_, (State.queueHeld_frame _ s).mono (by simp)⟩
  · have front := State.queueHeld_store rest.length (s.movedUp e rest)
    rwa [s.movedUp_store, ← moved] at front
  · rw [moved, last]
    exact s.movedUp_entries e []

theorem exec_heldBackEventQueue_of_none (s : State) (h : s.ev.store = []) : exec .heldBackEventQueue s = .next s := by
  show Host.Outcome.next (State.queueHeld s.ev.store.length s) = _
  rw [h]
  rfl

/-! ### EVENT_LOST (R125) -/

/-- EVENT_LOST for port `p`: the count of the events it has lost, due to it alone. -/
def State.lostEvent (s : State) (p : Fin 2) : Event where
  id := s.ev.nextId
  cls := 14
  code := 1
  lane := 31
  stamp := s.stamp
  args := [BitVec.ofNat 36 (s.port p).lost]
  due0 := p == 0
  due1 := p == 1
  fly0 := false
  fly1 := false
  taken0 := false
  taken1 := false
  recovery := false

/-- The state once EVENT_LOST of port `p` stands in the queue. -/
def State.lossTold (s : State) (p : Fin 2) : State :=
  ((s.onEv fun q => { q with nextId := q.nextId + 1 }).appendEvent (s.lostEvent p)).onPort p fun q => { q with lost := 0 }

theorem exec_eventLost (p : Fin 2) (s : State) :
    exec (.eventLost p) s = if (s.port p).lost = 0 ∨ 224 < s.ev.otherUsed + 2 then .next s else .next (s.lossTold p) := rfl

theorem State.lostEvent_due (s : State) (p : Fin 2) :
    (s.lostEvent p).due = true ∧ (s.lostEvent p).dueP p = true ∧ (s.lostEvent p).dueP (1 - p.val) = false := by
  fin_cases p <;> exact ⟨rfl, rfl, rfl⟩

theorem State.lossTold_entries (s : State) (p : Fin 2) : (s.lossTold p).ev.entries = s.ev.entries ++ [s.lostEvent p] := by
  rw [State.lossTold, State.onPort_ev, State.appendEvent_ev, if_pos (s.lostEvent_due p).1]
  rfl

theorem eventLost_tells (p : Fin 2) (s : State) (hl : (s.port p).lost ≠ 0) (room : s.ev.otherUsed + 2 ≤ 224) :
    Answers (.eventLost p) s fun t =>
      (t.port p).lost = 0 ∧
        (∃ e : Event, t.ev.entries = s.ev.entries ++ [e] ∧ e.cls = 14 ∧ e.code = 1 ∧ e.args = [BitVec.ofNat 36 (s.port p).lost] ∧
          e.dueP p = true ∧ e.dueP (1 - p.val) = false) ∧ SameBut [.ports, .dev, .ev] s t := by
  have run : exec (.eventLost p) s = .next (s.lossTold p) := (exec_eventLost p s).trans (if_neg (by omega))
  obtain ⟨-, due, other⟩ := s.lostEvent_due p
  refine .of_next run ⟨?_, ⟨s.lostEvent p, s.lossTold_entries p, rfl, rfl, rfl, due, other⟩, ?_⟩
  · rw [State.lossTold, State.port_onPort_fin]
  · exact ((s.onEv_frame _).mono (by simp)).trans <|
      ((State.appendEvent_frame _ _).mono (by simp)).trans ((State.onPort_frame _ _ _).mono (by simp))

/-- Settles O22: a pop takes what is next at its port, a store of held-back events empties from its front, EVENT_LOST goes behind the
queue. -/
theorem eventsReachThePort : Obligations.EventsReachThePort := by
  intro p s
  exact ⟨eventPop_of_args p s, eventPop_of_event p s, eventPop_of_none p s, heldBackEventQueue_moves s, exec_heldBackEventQueue_of_none s,
    eventLost_tells p s, fun h => (exec_eventLost p s).trans (if_pos (Or.inl h))⟩

end Sys2Proof.Machine
end

section
/-!
PROOFS. The job window: the words of a job are assembled (R127, R138, R140).
-/

namespace Sys2Proof.Machine

/-! ### The assembler (R138) -/

theorem Assembler.take_begin {a : Assembler} {w : Word} (free : a.isOpen = false ∨ a.left = 0) (h : hdrType w = tJobBegin) :
    a.take w = (⟨true, bits w 7 0, [w], hdrLen w, false, a.ser + 1⟩, false) := by
  have between : (!a.isOpen || (a.left == 0 && hdrType w == tJobBegin)) = true := by
    rcases free with h' | h' <;> simp [h', h]
  rw [Assembler.take, if_pos between, if_pos h]

theorem Assembler.take_stray {a : Assembler} {w : Word} (closed : a.isOpen = false) (h : hdrType w ≠ tJobBegin) : a.take w = (a, false) := by
  rw [Assembler.take, if_pos (by simp [closed]), if_neg h]

/-- A word of an open job is appended, and closes the job or not. -/
theorem Assembler.take_word {a : Assembler} {w : Word} (opened : a.isOpen = true) (h : ¬ (a.left = 0 ∧ hdrType w = tJobBegin)) :
    (a.take w).1.words = a.words ++ [w] ∧ (a.take w).1.isOpen = !(a.take w).2 ∧ (a.take w).1.ser = a.ser ∧ (a.take w).1.tag = a.tag := by
  have within : ¬ (!a.isOpen || (a.left == 0 && hdrType w == tJobBegin)) = true := by simpa [opened] using h
  rw [Assembler.take, if_neg within]
  exact ⟨rfl, rfl, rfl, rfl⟩

/-- Only a word of an open job closes it. -/
theorem Assembler.within_of_closes {a : Assembler} {w : Word} (h : (a.take w).2 = true) : ¬ (a.left = 0 ∧ hdrType w = tJobBegin) := by
  rintro ⟨rest, begins⟩
  rw [Assembler.take_begin (.inr rest) begins] at h
  exact Bool.false_ne_true h

/-! ### A word written to JOB_WIN (R127, R138) -/

/-- The state once port `p`'s assembler has taken a word. -/
def State.assembled (s : State) (p : Nat) (a : Assembler) : State := s.onPort p fun q => { q with asm := a }

theorem exec_jobWinWrite {p : Fin 2} {w : Word} {s : State} {r : Assembler × Bool} (h : (s.port p).asm.take w = r) :
    exec (.jobWinWrite p w) s = .next
      (if r.2 then (s.assembled p r.1).closeJob p r.1
       else if r.1.ser ≠ (s.port p).asm.ser then (s.assembled p r.1).onPort p fun q => { q with jobStat := ⟨1, r.1.tag, 0⟩ }
       else if !(s.port p).asm.isOpen then (s.assembled p r.1).onPort p fun q => { q with jobStat := ⟨4, 0, rejectInfo 0 31⟩ }
       else s.assembled p r.1) := by
  rw [← h]
  rfl

theorem jobWinWrite_begin (p : Fin 2) (w : Word) (s : State) (free : (s.port p).asm.isOpen = false ∨ (s.port p).asm.left = 0)
    (h : hdrType w = tJobBegin) :
    Answers (.jobWinWrite p w) s fun t =>
      (t.port p).asm.isOpen = true ∧ (t.port p).asm.words = [w] ∧ (t.port p).jobStat = ⟨1, bits w 7 0, 0⟩ ∧ OnlyPort p s t := by
  have run := exec_jobWinWrite (Assembler.take_begin free h)
  simp only [Bool.false_eq_true, if_false, ne_eq, Nat.succ_ne_self, not_false_eq_true, if_true, State.assembled, State.onPort_onPort] at run
  exact .of_port run rfl fun _ port only =>
    ⟨congrArg (·.asm.isOpen) port, congrArg (·.asm.words) port, congrArg Port.jobStat port, only⟩

theorem jobWinWrite_stray (p : Fin 2) (w : Word) (s : State) (closed : (s.port p).asm.isOpen = false) (h : hdrType w ≠ tJobBegin) :
    Answers (.jobWinWrite p w) s fun t =>
      (t.port p).asm = (s.port p).asm ∧ (t.port p).jobStat = ⟨4, 0, rejectInfo 0 31⟩ ∧ OnlyPort p s t := by
  have run := exec_jobWinWrite (Assembler.take_stray closed h)
  simp only [Bool.false_eq_true, if_false, ne_eq, not_true, closed, Bool.not_false, if_true, State.assembled, State.onPort_onPort] at run
  exact .of_port run rfl fun _ port only => by rw [port]; exact ⟨rfl, rfl, only⟩

theorem jobWinWrite_word (p : Fin 2) (w : Word) (s : State) (opened : (s.port p).asm.isOpen = true) (h : ((s.port p).asm.take w).2 = false)
    (within : ¬ ((s.port p).asm.left = 0 ∧ hdrType w = tJobBegin)) :
    Answers (.jobWinWrite p w) s fun t =>
      (t.port p).asm.words = (s.port p).asm.words ++ [w] ∧ (t.port p).asm.isOpen = true ∧ (t.port p).jobStat = (s.port p).jobStat ∧
        OnlyPort p s t := by
  obtain ⟨words, isOpen, ser, -⟩ := Assembler.take_word opened within
  have run := exec_jobWinWrite (p := p) (w := w) (s := s) rfl
  simp only [h, Bool.false_eq_true, if_false, ne_eq, ser, not_true, opened, Bool.not_true, State.assembled] at run
  exact .of_port run rfl fun _ port only => by rw [port]; exact ⟨words, isOpen.trans (congrArg Bool.not h), rfl, only⟩

theorem jobWinWrite_closes (p : Fin 2) (w : Word) (s : State) (opened : (s.port p).asm.isOpen = true) (h : ((s.port p).asm.take w).2 = true)
    (room : s.pendingJobs p < 8) :
    Answers (.jobWinWrite p w) s fun t =>
      (∃ b : BatchItem, t.jobs.batch = s.jobs.batch ++ [b] ∧ b.stitch = s.stitch.n ∧ b.port = p.val) ∧ (t.port p).asm.isOpen = false ∧
        (t.port p).jobStat = ⟨2, (s.port p).asm.tag, 0⟩ ∧ SameBut [.ports, .jobs] s t := by
  obtain ⟨-, isOpen, -, tag⟩ := Assembler.take_word opened (Assembler.within_of_closes h)
  have run := exec_jobWinWrite (p := p) (w := w) (s := s) rfl
  have pending (b : Assembler) : (s.assembled p b).pendingJobs p = s.pendingJobs p := rfl
  simp only [h, if_true, State.closeJob, pending, if_neg (Nat.not_le.mpr room)] at run
  refine .of_next run ⟨⟨_, rfl, rfl, rfl⟩, ?_, ?_, ?_⟩
  · show ((((s.assembled p _).report p _ _).port p).asm).isOpen = false
    rw [State.report, State.port_onPort_fin, State.assembled, State.port_onPort_fin]
    exact isOpen.trans (congrArg Bool.not h)
  · show (((s.assembled p _).report p _ _).port p).jobStat = _
    rw [State.report, State.port_onPort_fin, State.assembled, State.port_onPort_fin, if_pos rfl, tag]
  · exact ((s.onPort_frame _ _).mono (by simp)).trans <|
      ((State.onPort_frame _ _ _).mono (by simp)).trans ((State.onJobs_frame _ _).mono (by simp))

/-- Settles O23: a word opens a job, strays, is appended, or closes its job into the batch. -/
theorem jobWordsAssemble : Obligations.JobWordsAssemble := by
  intro p w s a
  exact ⟨jobWinWrite_begin p w s, jobWinWrite_stray p w s, jobWinWrite_word p w s, jobWinWrite_closes p w s⟩

end Sys2Proof.Machine
end

section
/-!
PROOFS. Claims, releases and jobs in the batches of the stitches (R129, R144, R147, R164, R166).
-/

namespace Sys2Proof.Machine

theorem answer_of_done {p : Nat} {tbl : Bool} {s : State} : answer p tbl (s, 0) = .next s := rfl

/-! ### CLAIM and RELEASE join the batch (R116, R129) -/

theorem State.laneOwn_of_boot {s : State} (h : s.dev.st = .boot ∨ s.dev.st = .recovery) (p op mask : Nat) (rsp : Option (Bool × Nat × Nat)) :
    s.laneOwn p op mask rsp = (s, rcState) := by
  rcases h with h | h <;> simp [State.laneOwn, h]

theorem State.laneOwn_claim {s : State} {p : Nat} (h : s.dev.st = .ready ∨ s.dev.st = .safe) (hrev : (s.port p).rev ≠ 1) (mask : Nat) :
    s.laneOwn p 1 mask none = (s.batch p (.claim mask none), 0) := by
  rcases h with h | h <;> simp [State.laneOwn, h, hrev]

theorem State.laneOwn_release {s : State} (h : s.dev.st = .ready ∨ s.dev.st = .safe) (p mask : Nat) :
    s.laneOwn p 2 mask none = (s.batch p (.release mask none), 0) := by
  rcases h with h | h <;> simp [State.laneOwn, h]

/-! ### A batch of one item (R147) -/

theorem State.nextItem_single {s : State} {b : BatchItem} (hb : s.jobs.batch = [b]) (closed : b.stitch < s.stitch.n) :
    s.nextItem = some b := by
  simp only [State.nextItem, hb, List.filter_cons, closed, decide_true, if_true, List.filter_nil, List.map_cons, List.map_nil,
    List.min?_singleton, List.head?_cons, List.find?_cons, List.find?_nil]
  split
  · next first => revert first; split <;> simp_all
  · rfl

/-- The state once its only item has left the batch. -/
def State.batchTaken (s : State) : State := s.onJobs fun j => { j with batch := [] }

theorem State.erase_single {s : State} {b : BatchItem} (hb : s.jobs.batch = [b]) :
    (s.onJobs fun j => { j with batch := j.batch.erase b }) = s.batchTaken := by
  simp only [State.onJobs, State.batchTaken, hb, List.erase_cons_head]

/-- The only item of the batch is no job: it is resolved at once. -/
theorem exec_batchResolve_own {s : State} {b : BatchItem} (hb : s.jobs.batch = [b]) (closed : b.stitch < s.stitch.n)
    (may : s.mayDecide = true) (own : ∀ c, b.kind ≠ .job c) : exec .batchResolve s = .next (s.batchTaken.resolveOwn b) := by
  show Host.Outcome.next (State.resolveBatch s.jobs.batch.length s) = _
  rw [hb, List.length_singleton, State.resolveBatch]
  simp only [may, Bool.not_true, Bool.false_eq_true, if_false, State.nextItem_single hb closed, State.erase_single hb]
  rfl

/-- The only item of the batch is a job: it is decided, and the pacing runs. -/
theorem exec_batchResolve_job {s : State} {k p : Nat} {c : Closed} (hb : s.jobs.batch = [⟨k, p, .job c⟩]) (closed : k < s.stitch.n)
    (may : s.mayDecide = true) (paced : s.jobs.pacing = false) (held : s.ev.paused = false) :
    exec .batchResolve s = .next ((s.batchTaken.onJobs fun j => { j with pacing := true }).decideJob c) := by
  show Host.Outcome.next (State.resolveBatch s.jobs.batch.length s) = _
  rw [hb, List.length_singleton, State.resolveBatch]
  simp only [may, Bool.not_true, Bool.false_eq_true, if_false, State.nextItem_single hb closed, State.erase_single hb, paced, held,
    Bool.or_self]
  rfl

/-! ### Lanes change hands (R129, R147) -/

theorem State.lane_foldl_onLane {f : Lane → Lane} (idem : ∀ l, f (f l) = f l) (is : List Nat) (his : ∀ i ∈ is, i < 19) (s : State) (j : Nat) :
    (is.foldl (fun s i => s.onLane i f) s).lane j = if j ∈ is then f (s.lane j) else s.lane j := by
  induction is generalizing s with
  | nil => rfl
  | cons i is ih =>
    obtain ⟨hi, hrest⟩ := List.forall_mem_cons.mp his
    rw [List.foldl_cons, ih hrest]
    by_cases same : j = i
    · rw [same, s.lane_onLane i f hi, idem]
      simp
    · rw [s.lane_onLane_ne i j f same]
      simp [same]

theorem State.foldl_onLane_frame (f : Lane → Lane) (is : List Nat) (s : State) :
    SameBut [.lanes] s (is.foldl (fun s i => s.onLane i f) s) := .foldl (fun t i => t.onLane_frame i f) is s

theorem maskList_lt {n v i : Nat} (h : i ∈ maskList n v) : i < n := List.mem_range.mp (List.mem_of_mem_filter h)

/-- A lane that port `p` claims. -/
def Lane.claimed (p : Nat) (l : Lane) : Lane := { l with owner := p + 1 }

/-- A lane that port `p` releases. -/
def Lane.released (p : Nat) (l : Lane) : Lane := if l.owner = p + 1 then { l with owner := 0 } else l

theorem Lane.released_owner (p : Nat) (l : Lane) : (l.released p).owner ≠ p + 1 := by
  rw [Lane.released]
  split
  · exact Nat.zero_ne_add_one p
  · next other => exact other

theorem Lane.released_released (p : Nat) (l : Lane) : (l.released p).released p = l.released p := if_neg (l.released_owner p)

theorem State.batchTaken_frame (s : State) : SameBut [.jobs] s s.batchTaken := s.onJobs_frame _

theorem State.resolveOwn_claim {s : State} {k p mask : Nat} (free : ∀ i ∈ maskList 19 mask, s.ownerSeen i ≠ 2 - p) :
    s.resolveOwn ⟨k, p, .claim mask none⟩ = (maskList 19 mask).foldl (fun s i => s.onLane i (Lane.claimed p)) s := by
  have none : ¬ ((maskList 19 mask).any fun i => s.ownerSeen i == 2 - p) = true := by simpa using free
  simp only [State.resolveOwn, if_neg none]
  rfl

theorem State.resolveOwn_refused {s : State} {k p mask i : Nat} (hi : i ∈ maskList 19 mask) (held : s.ownerSeen i = 2 - p) :
    s.resolveOwn ⟨k, p, .claim mask none⟩ = s.refuse p rcOwner false := by
  have other : ((maskList 19 mask).any fun i => s.ownerSeen i == 2 - p) = true := List.any_eq_true.mpr ⟨i, hi, by simpa using held⟩
  simp only [State.resolveOwn, if_pos other]
  rfl

theorem State.resolveOwn_release {s : State} {k p mask : Nat} :
    s.resolveOwn ⟨k, p, .release mask none⟩ = (maskList 19 mask).foldl (fun s i => s.onLane i (Lane.released p)) s := rfl

/-- The lanes of a mask change hands, and no other part with them. -/
theorem batchResolve_changes_lanes {s : State} {mask : Nat} {f : Lane → Lane} (idem : ∀ l, f (f l) = f l)
    (run : exec .batchResolve s = .next ((maskList 19 mask).foldl (fun s i => s.onLane i f) s.batchTaken)) :
    Answers .batchResolve s fun t =>
      t.jobs.batch = [] ∧ (∀ i ∈ maskList 19 mask, t.lane i = f (s.lane i)) ∧ (∀ i, i ∉ maskList 19 mask → t.lane i = s.lane i) ∧
        SameBut [.jobs, .lanes] s t := by
  have lane := State.lane_foldl_onLane idem (maskList 19 mask) (fun _ => maskList_lt) s.batchTaken
  have frame := State.foldl_onLane_frame f (maskList 19 mask) s.batchTaken
  refine .of_next run ⟨congrArg Jobs.batch (frame .jobs (by simp)), fun i hi => (lane i).trans (if_pos hi),
    fun i hi => (lane i).trans (if_neg hi), (s.batchTaken_frame.mono (by simp)).trans (frame.mono (by simp))⟩

theorem batchResolve_claims (p : Fin 2) (mask : Nat) (s : State) (k : Nat) (closed : k < s.stitch.n) (may : s.mayDecide = true)
    (hb : s.jobs.batch = [⟨k, p, .claim mask none⟩]) (free : ∀ i ∈ maskList 19 mask, s.ownerSeen i ≠ 2 - p.val) :
    Answers .batchResolve s fun t =>
      t.jobs.batch = [] ∧ (∀ i ∈ maskList 19 mask, (t.lane i).owner = p.val + 1) ∧ (∀ i, i ∉ maskList 19 mask → t.lane i = s.lane i) ∧
        SameBut [.jobs, .lanes] s t := by
  have run := exec_batchResolve_own hb closed may (by simp)
  rw [State.resolveOwn_claim (s := s.batchTaken) free] at run
  exact (batchResolve_changes_lanes (f := Lane.claimed p) (fun _ => rfl) run).mono fun t ⟨batch, claimed, others, frame⟩ =>
    ⟨batch, fun i hi => congrArg Lane.owner (claimed i hi), others, frame⟩

theorem batchResolve_refuses (p : Fin 2) (mask : Nat) (s : State) (k i : Nat) (closed : k < s.stitch.n) (may : s.mayDecide = true)
    (hb : s.jobs.batch = [⟨k, p, .claim mask none⟩]) (hi : i ∈ maskList 19 mask) (held : s.ownerSeen i = 2 - p.val) :
    Answers .batchResolve s fun t =>
      t.jobs.batch = [] ∧ t.lanes = s.lanes ∧ (t.port p).noteCode = rcOwner ∧ SameBut [.jobs, .ports] s t := by
  have run := exec_batchResolve_own hb closed may (by simp)
  rw [State.resolveOwn_refused (s := s.batchTaken) hi held] at run
  exact .of_next run ⟨rfl, rfl, State.refuse_noteCode _ p _ _,
    (s.batchTaken_frame.mono (by simp)).trans ((State.onPort_frame _ _ _).mono (by simp))⟩

theorem batchResolve_releases (p : Fin 2) (mask : Nat) (s : State) (k : Nat) (closed : k < s.stitch.n) (may : s.mayDecide = true)
    (hb : s.jobs.batch = [⟨k, p, .release mask none⟩]) :
    Answers .batchResolve s fun t =>
      t.jobs.batch = [] ∧ (∀ i ∈ maskList 19 mask, (t.lane i).owner ≠ p.val + 1) ∧ (∀ i, i ∉ maskList 19 mask → t.lane i = s.lane i) ∧
        SameBut [.jobs, .lanes] s t := by
  have run := exec_batchResolve_own hb closed may (by simp)
  rw [State.resolveOwn_release] at run
  exact (batchResolve_changes_lanes (Lane.released_released p) run).mono
    fun t ⟨batch, released, others, frame⟩ => ⟨batch, fun i hi => released i hi ▸ Lane.released_owner p _, others, frame⟩

/-! ### A job is decided (R144, R164, R166) -/

/-- The state in which the only item of the batch, a job, is decided: the pacing runs already. -/
def State.deciding (s : State) : State := s.batchTaken.onJobs fun j => { j with pacing := true }

theorem State.deciding_frame (s : State) : SameBut [.jobs] s s.deciding := s.batchTaken_frame.trans (State.onJobs_frame _ _)

theorem State.liveWordsOf_deciding (s : State) (es : List Entry) : s.deciding.liveWordsOf es = s.liveWordsOf es := by
  induction es with
  | nil => rfl
  | cons e rest ih =>
    rw [State.liveWordsOf, State.liveWordsOf, ih]
    rfl

theorem State.liveWords_deciding (s : State) : s.deciding.liveWords = s.liveWords := by
  rw [State.liveWords, State.liveWordsOf_deciding]
  rfl

/-- The checks read neither the batch nor the pacing. -/
theorem State.judge_deciding (s : State) (c : Closed) : s.deciding.judge c = s.judge c := by
  have format : s.deciding.printFormatOk = s.printFormatOk := rfl
  have lanes : s.deciding.lanesOf = s.lanesOf := rfl
  have owner : s.deciding.ownerSeen = s.ownerSeen := rfl
  have assets : s.deciding.printAssetsOk = s.printAssetsOk := rfl
  have heads : s.deciding.headRefused = s.headRefused := rfl
  have ports : s.deciding.port = s.port := rfl
  have lane : s.deciding.lane = s.lane := rfl
  simp only [State.judge, format, lanes, owner, assets, heads, ports, lane, s.liveWords_deciding]
  rfl

theorem State.writeJob_of_next {s : State} (c : Closed) (h : s.jobs.decided ≠ BitVec.allOnes 36) :
    s.writeJob c = (s.onJobs fun j => { j with decided := s.jobs.decided + 1 }).writeEntry 2 c.port (s.jobs.decided + 1) c.words
      (.accept c (jobRecords c.words)) := by
  simp only [State.writeJob, h, if_false]

theorem batchResolve_accepts (c : Closed) (k : Nat) (s : State) (closed : k < s.stitch.n) (may : s.mayDecide = true)
    (paced : s.jobs.pacing = false) (held : s.ev.paused = false) (hb : s.jobs.batch = [⟨k, c.port, .job c⟩]) (passes : s.judge c = none)
    (next : s.jobs.decided ≠ BitVec.allOnes 36) :
    Answers .batchResolve s fun t =>
      t.jobs.batch = [] ∧ t.jobs.decided = s.jobs.decided + 1 ∧ t.jobs.pacing = true ∧
        t.welt.wq = s.welt.wq ++
          [⟨entryWords 2 s.welt.jepoch c.port (s.jobs.decided + 1) c.words, .accept c (jobRecords c.words)⟩] ∧
        t.jobs.table = s.jobs.table ∧ SameBut [.jobs, .welt] s t := by
  have decided : s.deciding.decideJob c = s.deciding.writeJob c := by rw [State.decideJob, State.judge_deciding, passes]
  have run := exec_batchResolve_job hb closed may paced held
  change exec .batchResolve s = .next (s.deciding.decideJob c) at run
  rw [decided, State.writeJob_of_next c (by exact next)] at run
  exact .of_next run ⟨rfl, rfl, rfl, rfl, rfl, (s.deciding_frame.mono (by simp)).trans <|
    ((State.onJobs_frame _ _).mono (by simp)).trans ((State.writeEntry_frame _ _ _ _ _ _).mono (by simp))⟩

theorem batchResolve_rejects (c : Closed) (k : Nat) (s : State) (closed : k < s.stitch.n) (may : s.mayDecide = true)
    (paced : s.jobs.pacing = false) (held : s.ev.paused = false) (hb : s.jobs.batch = [⟨k, c.port, .job c⟩]) (code idx lane : Nat)
    (fails : s.judge c = some (code, idx, lane)) (hp : c.port < 2) (last : (s.port c.port).asm.ser = c.ser) :
    Answers .batchResolve s fun t =>
      t.jobs.batch = [] ∧ t.jobs.decided = s.jobs.decided ∧ t.jobs.pacing = true ∧
        (t.port c.port).jobStat = ⟨code, c.tag, rejectInfo idx lane⟩ ∧ t.welt = s.welt ∧ SameBut [.jobs, .ports] s t := by
  have decided : s.deciding.decideJob c = s.deciding.reject c code idx lane := by rw [State.decideJob, State.judge_deciding, fails]
  have run := exec_batchResolve_job hb closed may paced held
  change exec .batchResolve s = .next (s.deciding.decideJob c) at run
  rw [decided] at run
  refine .of_next run ⟨rfl, rfl, rfl, ?_, rfl, (s.deciding_frame.mono (by simp)).trans ((State.onPort_frame _ _ _).mono (by simp))⟩
  rw [State.reject, State.report, State.port_onPort _ _ _ hp]
  exact if_pos last

/-- Settles O24: the requests join the batch; a batch of one item resolves it, and a job is judged as the state stood before. -/
theorem batchDecidesJobsAndLanes : Obligations.BatchDecidesJobsAndLanes := by
  refine ⟨fun p mask s => ⟨fun up hrev => ?_, fun up => ?_, fun down => ⟨?_, ?_⟩, batchResolve_claims p mask.toNat s,
    batchResolve_refuses p mask.toNat s, batchResolve_releases p mask.toNat s, fun empty => ?_, rfl⟩, fun c k s closed may paced held hb =>
      ⟨batchResolve_accepts c k s closed may paced held hb, batchResolve_rejects c k s closed may paced held hb⟩⟩
  · exact .of_next (congrArg (answer p false) (State.laneOwn_claim up hrev mask.toNat)) ⟨rfl, rfl, s.onJobs_frame _⟩
  · exact .of_next (congrArg (answer p false) (State.laneOwn_release up p mask.toNat)) ⟨rfl, rfl, s.onJobs_frame _⟩
  · show ∃ t, answer p false (s.laneOwn p 1 mask.toNat none) = .next t ∧ _
    rw [State.laneOwn_of_boot down]
    exact answer_refusal s p rcState false (by decide)
  · show ∃ t, answer p false (s.laneOwn p 2 mask.toNat none) = .next t ∧ _
    rw [State.laneOwn_of_boot down]
    exact answer_refusal s p rcState false (by decide)
  · show Host.Outcome.next (State.resolveBatch s.jobs.batch.length (s.onJobs fun j => { j with pacing := false })) = _
    rw [empty]
    rfl

end Sys2Proof.Machine
end

section
/-!
PROOFS. The resistance scan: its start, one dot, its end (R252..R256).
-/

namespace Sys2Proof.Machine

/-! ### One slot of a scan (R253..R255) -/

/-- Head `x` scans and stands at dot `dot`, with VH up and settled. -/
structure State.Measuring (s : State) (x : Fin 2) (dot : Nat) : Prop where
  scans : (s.head x).sstate = 1
  dot : (s.desc x).scanDot (s.head x).scanPos = some dot
  settled : (s.head x).settle = 0
  vhen : (s.head x).vhen = true

/-- A head that has taken the VH reading of a slot. -/
def Head.slotRead (vh : Nat) (h : Head) : Head := { h with vhRead := vh, vhSum := h.vhSum + vh, vhNum := h.vhNum + 1 }

/-- A head that has measured its dot. -/
def Head.dotTaken (h : Head) : Head :=
  { h with measured := h.measured + 1, retries := if h.retryDot then satInc 4095 h.retries else h.retries, retryDot := false }

/-- The dot of a slot is measured and stored, the head still at its position. -/
def State.dotMeasured (s : State) (x vh dot r : Nat) : State := ((s.onHead x (Head.slotRead vh)).setRmeas x dot r).onHead x Head.dotTaken

theorem State.Measuring.exec_next {s : State} {x : Fin 2} {dot n : Nat} (m : s.Measuring x dot) (r : BitVec 20) {vh : BitVec 9}
    (ok : (s.desc x).vhOk vh.toNat = true) (next : (s.desc x).scanNext ((s.head x).scanPos + 1) = some n) :
    exec (.scanDot x true r vh) s =
      .next (((s.dotMeasured x vh.toNat dot r.toNat).onHead x fun h => { h with scanPos := n }).scanBoundary x) := by
  show execScanDot x true r vh s = _
  simp only [execScanDot, m.scans, m.dot, m.settled, m.vhen, ne_eq, not_true, Bool.not_true, Bool.false_eq_true, or_self, if_false, ok,
    Bool.and_self, if_true, next]
  rfl

theorem State.Measuring.exec_last {s : State} {x : Fin 2} {dot : Nat} (m : s.Measuring x dot) (r : BitVec 20) {vh : BitVec 9}
    (ok : (s.desc x).vhOk vh.toNat = true) (last : (s.desc x).scanNext ((s.head x).scanPos + 1) = none) :
    exec (.scanDot x true r vh) s = .next ((s.dotMeasured x vh.toNat dot r.toNat).scanDone x) := by
  show execScanDot x true r vh s = _
  simp only [execScanDot, m.scans, m.dot, m.settled, m.vhen, ne_eq, not_true, Bool.not_true, Bool.false_eq_true, or_self, if_false, ok,
    Bool.and_self, if_true, last]
  rfl

theorem State.Measuring.exec_invalid {s : State} {x : Fin 2} {dot : Nat} (m : s.Measuring x dot) (r : BitVec 20) (vh : BitVec 9) :
    exec (.scanDot x false r vh) s = .next
      (if (s.head x).retryDot then (s.onHead x (Head.slotRead vh.toNat)).scanFailed x
       else ((s.onHead x (Head.slotRead vh.toNat)).onHead x fun h => { h with retryDot := true }).scanBoundary x) := by
  show execScanDot x false r vh s = _
  simp only [execScanDot, m.scans, m.dot, m.settled, m.vhen, ne_eq, not_true, Bool.not_true, Bool.false_eq_true, or_self, if_false,
    Bool.false_and]
  split <;> rfl

theorem State.dotMeasured_head (s : State) (x : Fin 2) (vh dot r : Nat) :
    (s.dotMeasured x vh dot r).head x = ((s.head x).slotRead vh).dotTaken := by
  have stored : ((s.onHead x (Head.slotRead vh)).setRmeas x dot r).head x = (s.onHead x (Head.slotRead vh)).head x :=
    congrArg (at' · x.val) (State.putCfg_frame _ _ _ _ .heads (by simp))
  rw [State.dotMeasured, State.head_onHead_fin, stored, State.head_onHead_fin]

theorem State.dotMeasured_frame (s : State) (x vh dot r : Nat) : SameBut [.heads, .tbl] s (s.dotMeasured x vh dot r) :=
  ((s.onHead_frame _ _).mono (by simp)).trans <|
    ((State.putCfg_frame _ _ _ _).mono (by simp)).trans ((State.onHead_frame _ _ _).mono (by simp))

/-- RMEAS of the dot holds what the slot has measured (R271). -/
theorem State.dotMeasured_rmeas (s : State) (x vh dot : Nat) (r : BitVec 20) :
    (s.dotMeasured x vh dot r.toNat).cfg (.dot x dot) F.dot_RMEAS = r.toNat := by
  rw [State.dotMeasured, State.cfg_congr (State.onHead_frame _ _ _ .tbl (by simp)), State.setRmeas,
    State.cfg_putCfg_self _ _ _ _ (by decide) r.isLt]

/-! ### A dot boundary (R256) -/

theorem State.scanBoundary_frame (s : State) (x : Nat) : SameBut [.heads, .lanes, .jobs, .welt] s (s.scanBoundary x) :=
  .ite (.refl _ s) <| .ite ((s.onHead_frame _ _).mono (by simp)) <|
    .ite (((s.onHead_frame _ _).mono (by simp)).trans ((State.cameToRest_frame _ _).mono (by simp))) (.refl _ s)

/-- At a dot boundary a scan may pause; the head keeps all else. -/
theorem State.scanBoundary_head (s : State) (x : Fin 2) :
    ∃ st, (s.scanBoundary x).head x = { s.head x with sstate := st } := by
  have pauses : (s.onHead x fun h => { h with sstate := 2 }).head x = { s.head x with sstate := 2 } := s.head_onHead_fin x _
  unfold State.scanBoundary
  dsimp only
  split
  · exact ⟨_, rfl⟩
  · split
    · exact ⟨2, pauses⟩
    · split
      · exact ⟨2, (congrArg (at' · x.val) (State.cameToRest_frame _ _ .heads (by simp))).trans pauses⟩
      · exact ⟨_, rfl⟩

theorem scanDot_next (x : Fin 2) (r : BitVec 20) (vh : BitVec 9) (s : State) (dot n : Nat) (m : s.Measuring x dot)
    (ok : (s.desc x).vhOk vh.toNat = true) (next : (s.desc x).scanNext ((s.head x).scanPos + 1) = some n) :
    Answers (.scanDot x true r vh) s fun t =>
      (t.head x).measured = (s.head x).measured + 1 ∧ (t.head x).scanPos = n ∧ (t.head x).retryDot = false ∧
        t.cfg (.dot x dot) F.dot_RMEAS = r.toNat ∧ t.axes = s.axes := by
  have run := m.exec_next r ok next
  have moved := (s.dotMeasured x vh.toNat dot r.toNat).onHead_frame x fun h => { h with scanPos := n }
  have bound := (moved.mono (by simp)).trans (State.scanBoundary_frame _ x)
  obtain ⟨st, head⟩ := State.scanBoundary_head ((s.dotMeasured x vh.toNat dot r.toNat).onHead x fun h => { h with scanPos := n }) x
  rw [State.head_onHead_fin, State.dotMeasured_head] at head
  refine .of_next run ⟨congrArg Head.measured head, congrArg Head.scanPos head, congrArg Head.retryDot head, ?_, ?_⟩
  · exact (State.cfg_congr (bound .tbl (by simp)) _ _).trans (s.dotMeasured_rmeas x vh.toNat dot r)
  · exact (bound .axes (by simp)).trans (s.dotMeasured_frame x vh.toNat dot r.toNat .axes (by simp))

theorem scanDot_repeats (x : Fin 2) (r : BitVec 20) (vh : BitVec 9) (s : State) (dot : Nat) (m : s.Measuring x dot)
    (fresh : (s.head x).retryDot = false) :
    Answers (.scanDot x false r vh) s fun t =>
      (t.head x).retryDot = true ∧ (t.head x).scanPos = (s.head x).scanPos ∧ (t.head x).measured = (s.head x).measured ∧
        t.axes = s.axes ∧ t.tbl = s.tbl := by
  have run := m.exec_invalid r vh
  rw [if_neg (by simp [fresh])] at run
  have bound := State.scanBoundary_frame ((s.onHead x (Head.slotRead vh.toNat)).onHead x fun h => { h with retryDot := true }) x
  obtain ⟨st, head⟩ := State.scanBoundary_head ((s.onHead x (Head.slotRead vh.toNat)).onHead x fun h => { h with retryDot := true }) x
  rw [State.head_onHead_fin, State.head_onHead_fin] at head
  exact .of_next run ⟨by rw [head], by rw [head]; rfl, by rw [head]; rfl, bound .axes (by simp), bound .tbl (by simp)⟩

/-! ### The end of a scan (R255, R256, R271) -/

theorem State.scanEnd_head (s : State) (x : Fin 2) (st : Nat) :
    ((s.scanEnd x st).head x).sstate = st ∧ ((s.scanEnd x st).head x).measured = (s.head x).measured := by
  have told (t : State) (args : List Word) : (t.raise 7 2 x args).head x = t.head x :=
    congrArg (at' · x.val) (t.raise_frame 7 2 x args .heads (by simp))
  rw [State.scanEnd, told, State.head_onHead_fin]
  exact ⟨rfl, rfl⟩

theorem State.scanFailed_sstate (s : State) (x : Fin 2) (kind : (s.head x).skind ≠ 2) : ((s.scanFailed x).head x).sstate = 4 := by
  have heads : (((s.scanEnd x 4).faultOne x).cameToRest x).heads = (s.scanEnd x 4).heads :=
    (State.cameToRest_frame _ _ .heads (by simp)).trans (State.faultOne_frame _ _ .heads (by simp))
  rw [State.scanFailed, if_neg kind]
  exact (congrArg (fun v => (at' v x.val).sstate) heads).trans (s.scanEnd_head x 4).1

theorem scanDot_fails (x : Fin 2) (r : BitVec 20) (vh : BitVec 9) (s : State) (dot : Nat) (m : s.Measuring x dot)
    (again : (s.head x).retryDot = true) (kind : (s.head x).skind ≠ 2) :
    Answers (.scanDot x false r vh) s fun t => (t.head x).sstate = 4 ∧ (t.lane x).state = .fault := by
  have run := m.exec_invalid r vh
  rw [if_pos again] at run
  have same : ((s.onHead x (Head.slotRead vh.toNat)).head x).skind = (s.head x).skind := by
    rw [State.head_onHead_fin]; rfl
  exact .of_next run ⟨State.scanFailed_sstate _ x (same ▸ kind), State.scanFailed_fault _ x⟩

theorem State.adoptDot_frame (s : State) (x d : Nat) : SameBut [.tbl, .ports] s (s.adoptDot x d) := by
  have unpended (t : State) (f : Port → Port) : SameBut [.tbl, .ports] t { t with ports := t.ports.map f } := by
    intro p hp
    cases p with
    | ports => exact absurd (.tail _ (.head _)) hp
    | _ => rfl
  have put (t : State) (o : Obj) (f : Field) (v : Nat) : SameBut [.tbl, .ports] t (t.putCfg o f v) := (t.putCfg_frame o f v).mono (by simp)
  exact .ite (.refl _ s) <| .ite (.refl _ s) <| ((put _ _ _ _).trans (put _ _ _ _)).trans <| (put _ _ _ _).trans (unpended _ _)

theorem State.raiseDots_frame (s : State) (x code cls : Nat) (old : List Nat) : SameBut [.dev, .ev, .ports] s (s.raiseDots x code cls old) := by
  rw [State.raiseDots]
  split
  · exact .refl _ s
  · exact s.raise_frame _ _ _ _

theorem State.adoptScan_frame (s : State) (x : Nat) : SameBut [.tbl, .ports, .dev, .ev] s (s.adoptScan x) := by
  have dots (ds : List Nat) : SameBut [.tbl, .ports, .dev, .ev] s (ds.foldl (fun (s : State) d => s.adoptDot x d) s) :=
    .foldl (fun t d => (t.adoptDot_frame x d).mono (by simp)) ds s
  have told (t : State) (code cls : Nat) (old : List Nat) : SameBut [.tbl, .ports, .dev, .ev] t (t.raiseDots x code cls old) :=
    (t.raiseDots_frame x code cls old).mono (by simp)
  exact (dots _).trans <| (told _ _ _ _).trans <| (told _ _ _ _).trans (told _ _ _ _)

/-- A background scan that has measured its last dot: its head once stamped, the scan DONE, its results perhaps adopted. -/
theorem State.scanDone_background (s : State) (x : Fin 2) (kind : (s.head x).skind = 0) :
    ((s.scanDone x).head x).sstate = 3 ∧ ((s.scanDone x).head x).measured = (s.head x).measured ∧
      SameBut [.heads, .tbl, .ports, .dev, .ev] s (s.scanDone x) := by
  let stamped : State := s.onHead x fun h =>
    { h with scanStamp := s.count, scanOpen := s.foundIn x 2, scanShort := s.foundIn x 3, scanHigh := s.foundIn x 1 }
  have ended : SameBut [.tbl, .ports, .dev, .ev] (stamped.scanEnd x 3) (s.scanDone x) := by
    unfold State.scanDone
    dsimp only
    rw [if_neg (by omega), if_neg (by omega)]
    exact .ite (State.adoptScan_frame _ x) (.refl _ _)
  have head : (s.scanDone x).head x = (stamped.scanEnd x 3).head x := congrArg (at' · x.val) (ended .heads (by simp))
  obtain ⟨sstate, measured⟩ := stamped.scanEnd_head x 3
  refine ⟨(congrArg Head.sstate head).trans sstate, ((congrArg Head.measured head).trans measured).trans ?_, ?_⟩
  · rw [State.head_onHead_fin]
  · exact ((s.onHead_frame x _).mono (by simp)).trans <| ((stamped.scanEnd_frame x 3).mono (by simp)).trans (ended.mono (by simp))

theorem scanDot_done (x : Fin 2) (r : BitVec 20) (vh : BitVec 9) (s : State) (dot : Nat) (m : s.Measuring x dot)
    (ok : (s.desc x).vhOk vh.toNat = true) (last : (s.desc x).scanNext ((s.head x).scanPos + 1) = none) (kind : (s.head x).skind = 0) :
    Answers (.scanDot x true r vh) s fun t =>
      (t.head x).measured = (s.head x).measured + 1 ∧ (t.head x).sstate = 3 ∧ t.lanes = s.lanes ∧ t.axes = s.axes := by
  have run := m.exec_last r ok last
  have head := s.dotMeasured_head x vh.toNat dot r.toNat
  obtain ⟨sstate, measured, frame⟩ := (s.dotMeasured x vh.toNat dot r.toNat).scanDone_background x ((congrArg Head.skind head).trans kind)
  have whole := ((s.dotMeasured_frame x vh.toNat dot r.toNat).mono (by simp)).trans frame
  exact .of_next run ⟨measured.trans (congrArg Head.measured head), sstate, whole .lanes (by simp), whole .axes (by simp)⟩

/-! ### Start and ABANDON (R252, R256) -/

theorem backgroundScanStart_starts (x : Fin 2) (s : State) (idle : (s.lane x).state = .idle) (on : (at' s.power.doms (8 + x)).st = .run)
    (auto : s.cfg (.head x) F.hsc_AUTO_MIN ≠ 0) (still : (s.head x).sstate ≠ 1) (unpaused : (s.head x).sstate ≠ 2)
    (rests : (s.head x).step = .idle) (dots : 1 ≤ (s.desc x).dots) :
    Answers (.backgroundScanStart x) s fun t =>
      (t.head x).sstate = 1 ∧ (t.head x).skind = 0 ∧ (t.head x).measured = 0 ∧ (t.head x).vhen = true ∧ OnlyHead x s t := by
  have starts : exec (.backgroundScanStart x) s = .next (s.scanStart x 0 false) :=
    if_pos ⟨idle, on, auto, still, by simp [unpaused], rests, dots⟩
  have head : (s.scanStart x 0 false).head x = _ := (s.vhenUp x).head_onHead_fin x _
  have up : (s.vhenUp x).head x = _ := s.head_onHead_fin x _
  exact .of_next starts ⟨congrArg Head.sstate head, congrArg Head.skind head, congrArg Head.measured head,
    (congrArg Head.vhen head).trans (congrArg Head.vhen up), (s.onHead_onlyHead x _).trans (State.onHead_onlyHead _ x _)⟩

/-- ABANDON where the port may address the head (R117). -/
theorem exec_abandon {x p : Fin 2} {s : State} (hrev : x = 1 → (s.port p).rev ≠ 1) : exec (.abandon p x) s = .next (s.scanAbandon x) := by
  show answer p true (if x = 1 then s.beyondRev1 p (s.scanAbandon x, 0) else (s.scanAbandon x, 0)) = _
  split
  · next b => rw [State.beyondRev1, if_neg (hrev b)]; rfl
  · rfl

theorem abandon_ends (x p : Fin 2) (s : State) (hrev : x = 1 → (s.port p).rev ≠ 1) (kind : (s.head x).skind = 0)
    (open_ : (s.head x).sstate = 1 ∨ (s.head x).sstate = 2) :
    Answers (.abandon p x) s fun t => (t.head x).sstate = 5 ∧ SameBut [.heads, .dev, .ev, .ports] s t := by
  have ends : s.scanAbandon x = s.scanEnd x 5 := if_pos ⟨kind, open_⟩
  exact .of_next ((exec_abandon hrev).trans (congrArg _ ends)) ⟨(s.scanEnd_head x 5).1, s.scanEnd_frame x 5⟩

theorem abandon_refused (p : Fin 2) (s : State) (hrev : (s.port p).rev = 1) :
    Answers (.abandon p 1) s fun t => (t.port p).noteCode = rcRevision ∧ OnlyPort p s t := by
  show ∃ t, answer p true (s.beyondRev1 p (s.scanAbandon 1, 0)) = .next t ∧ _
  rw [State.beyondRev1, if_pos hrev]
  exact answer_refusal s p rcRevision true (by decide)

/-- Settles O36: a slot stores its dot, repeats it or ends the scan; only a background scan is abandoned. -/
theorem scansMeasureDots : Obligations.ScansMeasureDots := by
  intro x p r vh s
  refine ⟨backgroundScanStart_starts x s, fun busy => if_neg fun h => busy h.1,
    fun dot n scans at_ settled vhen => scanDot_next x r vh s dot n ⟨scans, at_, settled, vhen⟩,
    fun dot scans at_ settled vhen => scanDot_done x r vh s dot ⟨scans, at_, settled, vhen⟩,
    fun dot scans at_ settled vhen => scanDot_repeats x r vh s dot ⟨scans, at_, settled, vhen⟩,
    fun dot scans at_ settled vhen => scanDot_fails x r vh s dot ⟨scans, at_, settled, vhen⟩,
    abandon_ends x p s, abandon_refused p s, fun hrev kind => (exec_abandon hrev).trans (congrArg _ (if_neg fun h => kind h.1))⟩

end Sys2Proof.Machine
end

section
/-!
PROOFS. The device safe state, its causes, and the release of what the shank holds (R117, R422..R428).
-/

namespace Sys2Proof.Machine

/-! ### What the force of outputs leaves alone -/

/-- What forcing every output leaves: the shank itself, the device's state, the stitch, the tables. -/
structure State.ForceKept (s t : State) : Prop where
  shank : t.shank = s.shank
  dev : t.dev.st = s.dev.st
  stitch : t.stitch = s.stitch
  tbl : t.tbl = s.tbl

namespace State.ForceKept
variable {s t u : State}

theorem refl (s : State) : s.ForceKept s := ⟨rfl, rfl, rfl, rfl⟩

theorem trans (ht : s.ForceKept t) (hu : t.ForceKept u) : s.ForceKept u :=
  ⟨hu.shank.trans ht.shank, hu.dev.trans ht.dev, hu.stitch.trans ht.stitch, hu.tbl.trans ht.tbl⟩

theorem ite {c : Prop} [Decidable c] (ht : s.ForceKept t) (hu : s.ForceKept u) : s.ForceKept (if c then t else u) := by
  split
  · exact ht
  · exact hu

theorem foldl {α : Type} {f : State → α → State} (h : ∀ t a, ForceKept t (f t a)) (l : List α) (s : State) : s.ForceKept (l.foldl f s) := by
  induction l generalizing s with
  | nil => exact refl s
  | cons a l ih => exact (h s a).trans (ih _)

theorem of_sameBut (h : SameBut [.fresh, .ev, .ports, .lanes, .jobs, .welt, .heads, .axes, .chans, .sec] s t) : s.ForceKept t :=
  ⟨h .shank (by simp), congrArg Dev.st (h .dev (by simp)), h .stitch (by simp), h .tbl (by simp)⟩

end State.ForceKept

theorem State.raise_forceKept (s : State) (cls code lane : Nat) (args : List Word) : s.ForceKept (s.raise cls code lane args) := by
  have frame := s.raise_frame cls code lane args
  refine ⟨frame .shank (by simp), ?_, frame .stitch (by simp), frame .tbl (by simp)⟩
  rw [(s.raise_noted cls code lane args).dev]

theorem State.onAx_forceKept (s : State) (n : Nat) (f : Axis → Axis) : s.ForceKept (s.onAx n f) := .of_sameBut ((s.onAx_frame n f).mono (by simp))

theorem State.onHead_forceKept (s : State) (x : Nat) (f : Head → Head) : s.ForceKept (s.onHead x f) :=
  .of_sameBut ((s.onHead_frame x f).mono (by simp))

theorem State.onJobs_forceKept (s : State) (f : Jobs → Jobs) : s.ForceKept (s.onJobs f) := .of_sameBut ((s.onJobs_frame f).mono (by simp))

theorem State.queueMark_forceKept (s : State) (code idx arg : Nat) (job : Word) : s.ForceKept (s.queueMark code idx arg job) :=
  .of_sameBut ((s.queueMark_frame code idx arg job).mono (by simp))

theorem State.breakFence_forceKept (s : State) (seq : Word) (idx : Nat) : s.ForceKept (s.breakFence seq idx) :=
  (((s.onJobs_forceKept _).trans (State.onJobs_forceKept _ _)).trans (State.queueMark_forceKept _ _ _ _ _)).trans (State.raise_forceKept _ _ _ _ _)

theorem State.breakFencesOver_forceKept (s : State) (i : Nat) : s.ForceKept (s.breakFencesOver i) :=
  .foldl (fun t _ => .foldl (fun u _ => .ite (u.breakFence_forceKept _ _) (.refl u)) _ t) _ s

theorem State.holdLane_forceKept (s : State) (i : Nat) : s.ForceKept (s.holdLane i) := by
  have shown : s.ForceKept (s.showHeld i true) := .foldl (fun t _ => .of_sameBut ((t.onRec_frame _ _ _).mono (by simp))) _ s
  refine shown.trans (.foldl (fun t seq => ?_) _ _)
  split
  · exact .ite (.refl t) ((t.onJobs_forceKept _).trans (State.raise_forceKept _ _ _ _ _))
  · exact .refl t

theorem State.readmitFail_forceKept (s : State) (i : Nat) : s.ForceKept (s.readmitFail i) := by
  refine .trans (.trans (.trans (.trans ?_ (State.raise_forceKept _ 4 1 i _)) (State.breakFencesOver_forceKept _ i))
    (State.holdLane_forceKept _ i)) (.of_sameBut ((State.writeEntry_frame _ _ _ _ _ _).mono (by simp)))
  exact .of_sameBut ((s.onLane_frame i _).mono (by simp))

theorem State.uncertain_forceKept (s : State) (n cause : Nat) (lost : Bool) : s.ForceKept (s.uncertain n cause lost) := by
  have marked (t : State) (c : Nat) : t.ForceKept (t.markUncertain n c) := (t.onAx_forceKept n _).trans (State.raise_forceKept _ _ _ _ _)
  exact .ite (marked s cause) <| .ite (s.onAx_forceKept n _) <| .ite (s.onAx_forceKept n _) <| .ite (marked s _) (s.onAx_forceKept n _)

theorem State.forceAxis_forceKept (s : State) (n : Nat) : s.ForceKept (s.forceAxis n) :=
  .ite ((s.onAx_forceKept n _).trans (State.uncertain_forceKept _ n 3 false)) (s.onAx_forceKept n _)

theorem State.forcePaths_forceKept (s : State) (n : Nat) : s.ForceKept (s.forcePaths n) :=
  .foldl (fun t x => .ite (t.onHead_forceKept x _) (.refl t)) _ s

theorem State.scanEnd_forceKept (s : State) (x st : Nat) : s.ForceKept (s.scanEnd x st) :=
  (s.onHead_forceKept x _).trans (State.raise_forceKept (s.onHead x _) 7 2 x _)

theorem State.forceHead_forceKept (s : State) (x : Nat) : s.ForceKept (s.forceHead x) := by
  rw [State.forceHead_eq]
  have dark : s.ForceKept (s.darken x) :=
    .trans (.trans (.of_sameBut (s.takeFresh_frame.mono (by simp))) (State.onHead_forceKept _ x _)) (State.onHead_forceKept _ x _)
  exact dark.trans <| .ite (.refl _) <| .ite (State.onHead_forceKept _ x _) <|
    .ite ((State.scanEnd_forceKept _ x 5).trans (State.readmitFail_forceKept _ x)) (.refl _)

theorem State.forceOutputs_forceKept (s : State) (g : Nat) : s.ForceKept (s.forceOutputs g) :=
  .ite ((s.forceAxis_forceKept _).trans (State.forcePaths_forceKept _ _))
    (.ite (.of_sameBut ((s.onChan_frame _ _).mono (by simp))) (s.forceHead_forceKept _))

theorem State.forceAll_forceKept (s : State) : s.ForceKept s.forceAll :=
  .foldl (fun t _ => .ite (.refl t) (t.forceOutputs_forceKept _)) _ s

/-! ### The entry into the safe state (R424, R425, R428) -/

/-- The shank once it is out of NORMAL. -/
def Shank.unsafed (k : Shank) : Shank := { k with st := if k.st = .normal then .safe else k.st }

/-- The shank as a discharge starts against the threshold `e`. -/
def Shank.discharge (e : Nat) (k : Shank) : Shank := { k with st := .discharging, discT := 0, dmOn := decide (e < k.em), dsOn := decide (e < k.es) }

theorem Shank.unsafed_st (k : Shank) : k.unsafed.st ≠ .normal := by
  show (if k.st = .normal then ShankState.safe else k.st) ≠ .normal
  split
  · exact nofun
  · next other => exact other

/-- The cause is told. -/
def State.causeTold (s : State) (code : Nat) : State := (s.onShank Shank.unsafed).raise 1 code 31 []

/-- The device is SAFE, every output forced, a self-test aborted, and every lane's stop asked for. -/
def State.madeSafe (s : State) : State :=
  ((s.onDev fun d => { d with st := if d.st = .ready then .safe else d.st }).forceAll.bistAbort).askStop 0x3FFFF

/-- The safe state entered, before any discharge. -/
def State.entered (s : State) (code : Nat) : State := if s.shank.st = .normal then (s.causeTold code).madeSafe else s.causeTold code

theorem State.enterSafe_eq (s : State) (code : Nat) (disch : Bool) :
    s.enterSafe code disch = if disch ∧ s.shank.st ≠ .discharging then (s.entered code).startDischarge else s.entered code := rfl

theorem State.causeTold_forceKept (s : State) (code : Nat) : (s.onShank Shank.unsafed).ForceKept (s.causeTold code) :=
  State.raise_forceKept _ 1 code 31 []

theorem State.madeSafe_forceKept (s : State) :
    (s.onDev fun d => { d with st := if d.st = .ready then .safe else d.st }).ForceKept s.madeSafe := by
  have aborted (t : State) : t.ForceKept t.bistAbort := .of_sameBut (t.bistAbort_frame.mono (by simp))
  have stops (t : State) : t.ForceKept (t.askStop 0x3FFFF) := t.onJobs_forceKept _
  rw [State.madeSafe]
  exact ((State.forceAll_forceKept _).trans (aborted _)).trans (stops _)

/-- Every lane's stop is asked for in the stitch in progress. -/
theorem State.madeSafe_stops (s : State) : (s.madeSafe.stitch.n, 0x3FFFF) ∈ s.madeSafe.jobs.stops := by
  have asked (t : State) : ((t.askStop 0x3FFFF).stitch.n, 0x3FFFF) ∈ (t.askStop 0x3FFFF).jobs.stops :=
    List.mem_append_right _ (List.mem_singleton_self _)
  rw [State.madeSafe]
  exact asked _

theorem State.entered_shank (s : State) (code : Nat) : (s.entered code).shank = s.shank.unsafed := by
  have told := (s.causeTold_forceKept code).shank
  rw [State.entered]
  split
  · exact (State.madeSafe_forceKept _).shank.trans told
  · exact told

theorem State.entered_stitch (s : State) (code : Nat) : (s.entered code).stitch = s.stitch := by
  have told := (s.causeTold_forceKept code).stitch
  rw [State.entered]
  split
  · exact (State.madeSafe_forceKept _).stitch.trans told
  · exact told

theorem State.entered_tbl (s : State) (code : Nat) : (s.entered code).tbl = s.tbl := by
  have told := (s.causeTold_forceKept code).tbl
  rw [State.entered]
  split
  · exact (State.madeSafe_forceKept _).tbl.trans told
  · exact told

/-- From NORMAL the entry stops every lane and takes a device that is READY to SAFE. -/
theorem State.entered_of_normal {s : State} (h : s.shank.st = .normal) (code : Nat) :
    (s.stitch.n, 0x3FFFF) ∈ (s.entered code).jobs.stops ∧ (s.dev.st = .ready → (s.entered code).dev.st = .safe) := by
  have told := s.causeTold_forceKept code
  have made := (s.causeTold code).madeSafe_forceKept
  rw [State.entered, if_pos h]
  refine ⟨?_, fun ready => made.dev.trans (if_pos (told.dev.trans ready))⟩
  have now : (s.causeTold code).madeSafe.stitch.n = s.stitch.n := congrArg Stitch.n (made.stitch.trans told.stitch)
  exact now ▸ State.madeSafe_stops _

/-- What an entry into the safe state does to the whole. -/
theorem State.enterSafe_entry (s : State) (code : Nat) (disch : Bool) :
    (s.enterSafe code disch).stitch = s.stitch ∧ (s.enterSafe code disch).tbl = s.tbl ∧
      (s.shank.st = .normal → (s.stitch.n, 0x3FFFF) ∈ (s.enterSafe code disch).jobs.stops ∧
        (s.dev.st = .ready → (s.enterSafe code disch).dev.st = .safe)) := by
  rw [State.enterSafe_eq]
  split
  · exact ⟨s.entered_stitch code, s.entered_tbl code, fun h => State.entered_of_normal h code⟩
  · exact ⟨s.entered_stitch code, s.entered_tbl code, fun h => State.entered_of_normal h code⟩

theorem State.enterSafe_shank (s : State) (code : Nat) (disch : Bool) :
    (s.enterSafe code disch).shank =
      if disch ∧ s.shank.st ≠ .discharging then s.shank.discharge (s.cfg .shk F.shk_E_SAFE) else s.shank.unsafed := by
  rw [State.enterSafe_eq]
  split
  · have started : (s.entered code).startDischarge.shank = (s.entered code).shank.discharge ((s.entered code).cfg .shk F.shk_E_SAFE) := rfl
    rw [started, s.entered_shank code, State.cfg_congr (s.entered_tbl code)]
    rfl
  · exact s.entered_shank code

theorem Shank.unsafed_of_discharging {k : Shank} (h : k.st = .discharging) : k.unsafed = k := by
  rw [Shank.unsafed, h, if_neg nofun, ← h]

/-- A cause that calls for a discharge leaves the shank discharging. -/
theorem State.enterSafe_discharging (s : State) (code : Nat) : (s.enterSafe code true).shank.st = .discharging := by
  rw [State.enterSafe_shank]
  split
  · rfl
  · next other =>
    have already : s.shank.st = .discharging := by simpa using other
    rw [Shank.unsafed_of_discharging already, already]

/-! ### STOP_N and DOOR_N (R424, R425) -/

theorem stopInput_low (s : State) (high : s.shank.stopLow = false) :
    Answers (.stopInput true) s fun t =>
      t.shank.stopLow = true ∧ t.shank.stopped = true ∧ t.shank.st ≠ .normal ∧ t.stitch = s.stitch ∧ t.tbl = s.tbl ∧
        (s.shank.st = .normal → (s.stitch.n, 0x3FFFF) ∈ t.jobs.stops ∧ (s.dev.st = .ready → t.dev.st = .safe)) := by
  let low : State := (s.onShank fun k => { k with stopLow := true }).onShank fun k => { k with stopped := true }
  have run : exec (.stopInput true) s = .next (low.enterSafe 1 (bit (s.otp 0x17) 23)) := by
    show execStopInput true s = _
    rw [execStopInput, high]
    rfl
  obtain ⟨stitch, tbl, stops⟩ := low.enterSafe_entry 1 (bit (s.otp 0x17) 23)
  have shank := low.enterSafe_shank 1 (bit (s.otp 0x17) 23)
  refine .of_next run ⟨?_, ?_, ?_, stitch, tbl, stops⟩
  · rw [shank]; split <;> rfl
  · rw [shank]; split <;> rfl
  · rw [shank]
    split
    · exact nofun
    · exact Shank.unsafed_st _

theorem doorOpen_opens (s : State) (closed : s.shank.doorOpen = false) :
    Answers (.doorOpen true) s fun t =>
      t.shank.doorOpen = true ∧ t.shank.st = .discharging ∧ t.stitch = s.stitch ∧ t.tbl = s.tbl ∧
        (s.shank.st = .normal → (s.stitch.n, 0x3FFFF) ∈ t.jobs.stops ∧ (s.dev.st = .ready → t.dev.st = .safe)) := by
  let opened : State := s.onShank fun k => { k with doorOpen := true }
  have run : exec (.doorOpen true) s = .next (opened.enterSafe 7 true) := by
    show execDoorOpen true s = _
    rw [execDoorOpen, closed]
    rfl
  obtain ⟨stitch, tbl, stops⟩ := opened.enterSafe_entry 7 true
  refine .of_next run ⟨?_, opened.enterSafe_discharging 7, stitch, tbl, stops⟩
  rw [opened.enterSafe_shank]
  split <;> rfl

/-! ### What releasing outputs leaves alone (R353, R354, R380, R423) -/

theorem State.onBr_frame (s : State) (b : Nat) (f : Bridge → Bridge) : SameBut [.axes] s (s.onBr b f) := s.onAx_frame _ _

theorem State.newPeriod_frame (s : State) (b : Nat) : SameBut [.axes] s (s.newPeriod b) := (s.onBr_frame b _).trans (State.onBr_frame _ b _)

theorem State.bridgeReleased_frame (s : State) (b : Nat) : SameBut [.axes] s (s.bridgeReleased b) :=
  .ite ((s.onBr_frame b _).trans (State.newPeriod_frame _ b)) (.refl _ s)

theorem State.solResume_frame (s : State) (c : Nat) : SameBut [.chans] s (s.solResume c) :=
  .ite (.refl _ s) <| .ite (s.onChan_frame c _) <| .ite ((s.onChan_frame c _).trans (State.onChan_frame _ c _)) (s.onChan_frame c _)

theorem State.outputsFree_frame (s : State) (g : Nat) : SameBut [.axes, .chans] s (s.outputsFree g) := by
  have bridges (bs : List Nat) : SameBut [.axes, .chans] s (bs.foldl (fun (s : State) b =>
      let s := s.bridgeReleased b
      if (s.br b).st = .run ∧ !s.bridgeForced b then s.newPeriod b else s) s) :=
    .foldl (fun t b => ((t.bridgeReleased_frame b).mono (by simp)).trans
      (.ite ((State.newPeriod_frame _ b).mono (by simp)) (.refl _ _))) bs s
  exact .ite (bridges _) <| .ite (.ite ((s.solResume_frame _).mono (by simp)) (.refl _ s)) (.refl _ s)

/-! ### Writes of GREL, REL and DISCH (R117, R423, R426, R427) -/

theorem State.beyondRev1_of_rev1 {s : State} {p : Nat} (h : (s.port p).rev = 1) (r : State × Nat) : s.beyondRev1 p r = (s, rcRevision) := if_pos h

theorem State.beyondRev1_of_later {s : State} {p : Nat} (h : (s.port p).rev ≠ 1) (r : State × Nat) : s.beyondRev1 p r = r := if_neg h

theorem exec_grel {p : Fin 2} {s : State} (h : (s.port p).rev ≠ 1) (g : Fin 58) : exec (.grel p g) s = answer p true (s.writeGrel g) :=
  congrArg (answer p true) (State.beyondRev1_of_later h _)

theorem exec_rel {p : Fin 2} {s : State} (h : (s.port p).rev ≠ 1) : exec (.rel p) s = answer p true s.writeRel :=
  congrArg (answer p true) (State.beyondRev1_of_later h _)

theorem exec_disch {p : Fin 2} {s : State} (h : (s.port p).rev ≠ 1) : exec (.disch p) s = answer p true s.writeDisch :=
  congrArg (answer p true) (State.beyondRev1_of_later h _)

/-- A command whose write is refused. -/
theorem Answers.of_refused {c : Instr} {p : Fin 2} {s : State} {r : State × Nat} {rc : Nat} (run : exec c s = answer p true r)
    (h : r = (s, rc)) (hrc : rc ≠ 0) : Answers c s fun t => (t.port p).noteCode = rc ∧ OnlyPort p s t := by
  rw [Answers, run, h]
  exact answer_refusal s p rc true hrc

theorem shankWrites_of_rev1 (p : Fin 2) (g : Fin 58) (s : State) (h : (s.port p).rev = 1) :
    ∀ c ∈ [Instr.grel p g, .rel p, .disch p], Answers c s fun t => (t.port p).noteCode = rcRevision ∧ OnlyPort p s t := by
  have refused {c : Instr} {r : State × Nat} (run : exec c s = answer p true (s.beyondRev1 p r)) :
      Answers c s fun t => (t.port p).noteCode = rcRevision ∧ OnlyPort p s t :=
    .of_refused run (State.beyondRev1_of_rev1 h r) (by decide)
  intro c hc
  simp only [List.mem_cons, List.not_mem_nil, or_false] at hc
  rcases hc with rfl | rfl | rfl
  · exact refused (r := s.writeGrel g) rfl
  · exact refused (r := s.writeRel) rfl
  · exact refused (r := s.writeDisch) rfl

theorem grel_of_free (p : Fin 2) (g : Fin 58) (s : State) (h : (s.port p).rev ≠ 1) (free : (s.grp g).forced = false) :
    exec (.grel p g) s = .next s := by
  rw [exec_grel h, State.writeGrel, free]
  rfl

theorem State.grp_onGrp (s : State) (g : Fin 58) (f : Group → Group) : (s.onGrp g f).grp g = f (s.grp g) := at'_upd_self _ _ _ g.isLt

theorem grel_releases (p : Fin 2) (g : Fin 58) (s : State) (h : (s.port p).rev ≠ 1) (forced : (s.grp g).forced = true)
    (normal : s.shank.st = .normal) (may : s.mayRelease g = true) :
    Answers (.grel p g) s fun t =>
      t.grp g = { s.grp g with forced := false, relHold := false, seenE := false, seenR := false } ∧
        Others s.shank.groups t.shank.groups g ∧ t.shank.st = .normal ∧ SameBut [.shank, .axes, .chans] s t := by
  have write : s.writeGrel g = ((s.onGrp g Group.unforce).outputsFree g, 0) := by simp [State.writeGrel, forced, normal, may]
  have run : exec (.grel p g) s = .next ((s.onGrp g Group.unforce).outputsFree g) := by rw [exec_grel h, write, answer_of_done]
  have free := (s.onGrp g Group.unforce).outputsFree_frame g
  have shank : ((s.onGrp g Group.unforce).outputsFree g).shank = (s.onGrp g Group.unforce).shank := free .shank (by simp)
  refine .of_next run ⟨?_, ?_, ?_, ((s.onGrp_frame g _).mono (by simp)).trans (free.mono (by simp))⟩
  · exact (congrArg (fun k : Shank => at' k.groups g.val) shank).trans (s.grp_onGrp g _)
  · rw [shank]; exact fun j ne => at'_upd_ne _ _ _ _ ne
  · rw [shank]; exact normal

theorem grel_refused (p : Fin 2) (g : Fin 58) (s : State) (h : (s.port p).rev ≠ 1) (forced : (s.grp g).forced = true)
    (held : s.shank.st ≠ .normal ∨ s.mayRelease g = false) :
    Answers (.grel p g) s fun t => (t.port p).noteCode = rcState ∧ OnlyPort p s t := by
  have write : s.writeGrel g = (s, rcState) := by
    rw [State.writeGrel, if_neg (by simp [forced]), if_pos (by simpa using held)]
  exact .of_refused (exec_grel h g) write (by decide)

/-- The state whose shank holds nothing any longer, before the outputs go back to their engines. -/
def State.unheld (s : State) : State :=
  (s.onShank fun k => { k with st := .normal, groups := k.groups.map Group.unforce }).onDev fun d =>
    { d with st := if d.st = .safe then .ready else d.st }

/-- The groups whose outputs the shank holds. -/
def State.heldGroups (s : State) : List Nat := (List.range 58).filter fun g => s.shank.st != .normal || (s.grp g).forced

theorem State.writeRel_released {s : State} (stop : s.shank.stopLow = false) (door : s.shank.doorOpen = false)
    (idle : s.shank.st ≠ .discharging) (supply : s.sup.shut = false) (test : s.sec.intrusive = none)
    (may : ∀ k < 58, (s.grp k).forced = true → s.mayRelease k = true) : s.writeRel = (s.heldGroups.foldl State.outputsFree s.unheld, 0) := by
  have clear : ¬ (s.shank.stopLow ∨ s.shank.doorOpen ∨ s.shank.st = .discharging ∨ s.sup.shut ∨ s.sec.intrusive.isSome ∨
      (List.range 58).any (fun g => (s.grp g).forced && !s.mayRelease g)) := by
    simpa [stop, door, idle, supply, test] using may
  rw [State.writeRel, if_neg clear]
  rfl

theorem rel_releases (p : Fin 2) (s : State) (h : (s.port p).rev ≠ 1) (stop : s.shank.stopLow = false) (door : s.shank.doorOpen = false)
    (idle : s.shank.st ≠ .discharging) (supply : s.sup.shut = false) (test : s.sec.intrusive = none)
    (may : ∀ k < 58, (s.grp k).forced = true → s.mayRelease k = true) :
    Answers (.rel p) s fun t =>
      t.shank.st = .normal ∧ (∀ k < 58, (t.grp k).forced = false) ∧ t.dev.st = (if s.dev.st = .safe then .ready else s.dev.st) ∧
        SameBut [.shank, .dev, .axes, .chans] s t := by
  have run : exec (.rel p) s = .next (s.heldGroups.foldl State.outputsFree s.unheld) := by
    rw [exec_rel h, State.writeRel_released stop door idle supply test may, answer_of_done]
  have free : SameBut [.axes, .chans] s.unheld (s.heldGroups.foldl State.outputsFree s.unheld) := .foldl State.outputsFree_frame _ _
  have shank := free .shank (by simp)
  refine .of_next run ⟨congrArg Shank.st shank, fun k hk => ?_, congrArg Dev.st (free .dev (by simp)), ?_⟩
  · rw [State.grp, show State.shank _ = _ from shank]
    exact congrArg Group.forced (at'_map s.shank.groups Group.unforce k hk)
  · exact ((s.onShank_frame _).mono (by simp)).trans <| ((State.onDev_frame _ _).mono (by simp)).trans (free.mono (by simp))

theorem rel_refused (p : Fin 2) (g : Fin 58) (s : State) (h : (s.port p).rev ≠ 1)
    (held : s.shank.stopLow = true ∨ s.shank.doorOpen = true ∨ s.shank.st = .discharging ∨
      ((s.grp g).forced = true ∧ s.mayRelease g = false)) :
    Answers (.rel p) s fun t => (t.port p).noteCode = rcState ∧ OnlyPort p s t := by
  have group (forced : (s.grp g).forced = true ∧ s.mayRelease g = false) :
      (List.range 58).any (fun g => (s.grp g).forced && !s.mayRelease g) = true :=
    List.any_eq_true.mpr ⟨g, List.mem_range.mpr g.isLt, by simp [forced]⟩
  have write : s.writeRel = (s, rcState) := by
    refine if_pos ?_
    rcases held with stop | door | idle | forced
    · exact .inl stop
    · exact .inr (.inl door)
    · exact .inr (.inr (.inl idle))
    · exact .inr (.inr (.inr (.inr (.inr (group forced)))))
  exact .of_refused (exec_rel h) write (by decide)

theorem disch_discharges (p : Fin 2) (s : State) (h : (s.port p).rev ≠ 1) (idle : s.shank.st ≠ .discharging) :
    Answers (.disch p) s fun t =>
      t.shank.st = .discharging ∧ t.shank.discT = 0 ∧ t.stitch = s.stitch ∧ t.tbl = s.tbl ∧
        (s.shank.st = .normal → (s.stitch.n, 0x3FFFF) ∈ t.jobs.stops ∧ (s.dev.st = .ready → t.dev.st = .safe)) := by
  have run : exec (.disch p) s = .next (s.enterSafe 0xA true) := by rw [exec_disch h, State.writeDisch, if_neg idle, answer_of_done]
  obtain ⟨stitch, tbl, stops⟩ := s.enterSafe_entry 0xA true
  refine .of_next run ⟨s.enterSafe_discharging 0xA, ?_, stitch, tbl, stops⟩
  rw [State.enterSafe_shank, if_pos ⟨rfl, idle⟩]
  rfl

theorem disch_refused (p : Fin 2) (s : State) (h : (s.port p).rev ≠ 1) (busy : s.shank.st = .discharging) :
    Answers (.disch p) s fun t => (t.port p).noteCode = rcState ∧ OnlyPort p s t :=
  .of_refused (exec_disch h) (if_pos busy) (by decide)

/-- Settles O47: a write is refused or ends a force; a cause enters the safe state, where DISCH and the door start a discharge. -/
theorem safeStateAndRelease : Obligations.SafeStateAndRelease := by
  intro p g s
  exact ⟨shankWrites_of_rev1 p g s, grel_of_free p g s, grel_releases p g s, grel_refused p g s, rel_releases p s, rel_refused p g s,
    disch_discharges p s, disch_refused p s, stopInput_low s, .of_next rfl ⟨rfl, s.onShank_frame _⟩, doorOpen_opens s,
    .of_next rfl ⟨rfl, s.onShank_frame _⟩⟩

end Sys2Proof.Machine
end

section
/-!
PROOFS. The AUX ports: their registers, characters received, the end of an AUX_XFER (R135, R488..R500).
-/

namespace Sys2Proof.Machine

/-! ### One AUX port -/

theorem State.aux_onAux (s : State) (k : Fin 2) (f : Aux → Aux) : (s.onAux k f).aux k = f (s.aux k) := at'_upd_self _ _ _ k.isLt

theorem State.onAux_others (s : State) (k : Nat) (f : Aux → Aux) : Others s.uarts.aux (s.onAux k f).uarts.aux k :=
  fun _ ne => at'_upd_ne _ _ _ _ ne

theorem State.onAux_onAux (s : State) (k : Nat) (f g : Aux → Aux) : (s.onAux k f).onAux k g = s.onAux k fun a => g (f a) := by
  simp only [State.onAux, upd_upd]

/-- A command that changes one AUX port, to `a`. -/
theorem Answers.of_aux {c : Instr} {s : State} {k : Fin 2} {P : State → Prop} {f : Aux → Aux} {a : Aux}
    (run : exec c s = .next (s.onAux k f)) (aux : f (s.aux k) = a)
    (h : ∀ t, t.aux k = a → Others s.uarts.aux t.uarts.aux k → SameBut [.uarts] s t → P t) : Answers c s P :=
  ⟨_, run, h _ ((s.aux_onAux k f).trans aux) (s.onAux_others k f) (s.onAux_frame k f)⟩

/-! ### TX, RX and CTL (R135, R497, R499) -/

/-- An AUX register's write that is refused. -/
theorem Answers.of_auxRefused {c : Instr} {p : Fin 2} {s : State} {r : State × Nat} {rc : Nat} (run : exec c s = answer p false r)
    (h : r = (s, rc)) (hrc : rc ≠ 0) : Answers c s fun t => (t.port p).noteCode = rc ∧ OnlyPort p s t := by
  rw [Answers, run, h]
  exact answer_refusal s p rc false hrc

/-- A TX write that may queue a character. -/
theorem State.writeAuxTx_of_up {s : State} {k : Nat} (up : s.mayFlash = true) (direct : (s.aux k).tunnel = false) (on : (s.aux k).en = true)
    (c : Nat) :
    s.writeAuxTx k c = if (s.aux k).txFree = 0 then (s, rcBusy)
      else (s.onAux k fun a => { a with tx := a.tx ++ [if a.nine then c % 512 else c % 256] }, 0) := by
  simp [State.writeAuxTx, up, direct, on]

theorem auxTxWrite_queues (p k : Fin 2) (s : State) (c : BitVec 9) (up : s.mayFlash = true) (direct : (s.aux k).tunnel = false)
    (on : (s.aux k).en = true) (room : (s.aux k).tx.length < 65) :
    Answers (.auxTxWrite p k c) s fun t =>
      t.aux k = { s.aux k with tx := (s.aux k).tx ++ [if (s.aux k).nine then c.toNat else c.toNat % 256] } ∧
        Others s.uarts.aux t.uarts.aux k ∧ SameBut [.uarts] s t := by
  have free : (s.aux k).txFree ≠ 0 := by rw [Aux.txFree]; omega
  have whole : c.toNat % 512 = c.toNat := Nat.mod_eq_of_lt c.isLt
  have write := (State.writeAuxTx_of_up up direct on c.toNat).trans (if_neg free)
  exact .of_aux (congrArg (answer p false) write) (by rw [whole]) fun t aux others frame => ⟨aux, others, frame⟩

theorem auxTxWrite_full (p k : Fin 2) (s : State) (c : BitVec 9) (up : s.mayFlash = true) (direct : (s.aux k).tunnel = false)
    (on : (s.aux k).en = true) (full : 65 ≤ (s.aux k).tx.length) :
    Answers (.auxTxWrite p k c) s fun t => (t.port p).noteCode = rcBusy ∧ OnlyPort p s t := by
  have none : (s.aux k).txFree = 0 := by rw [Aux.txFree]; omega
  exact .of_auxRefused rfl ((State.writeAuxTx_of_up up direct on c.toNat).trans (if_pos none)) (by decide)

theorem auxTxWrite_refused (p k : Fin 2) (s : State) (c : BitVec 9)
    (h : s.mayFlash = false ∨ (s.aux k).tunnel = true ∨ (s.aux k).en = false) :
    Answers (.auxTxWrite p k c) s fun t => (t.port p).noteCode = rcState ∧ OnlyPort p s t :=
  .of_auxRefused (r := s.writeAuxTx k c.toNat) rfl (if_pos (by simpa using h)) (by decide)

theorem auxRxRead_takes (p k : Fin 2) (s : State) (e : Nat) (rest : List Nat) (h : (s.aux k).rx = e :: rest)
    (direct : (s.aux k).tunnel = false) :
    Answers (.auxRxRead p k) s fun t =>
      (t.port p).rdata = (flag 35 true ||| flag 34 (e.testBit 11) ||| flag 33 (e.testBit 10) ||| flag 32 (e.testBit 9) ||| field 8 0 e) ∧
        t.aux k = { s.aux k with rx := rest } ∧ Others s.uarts.aux t.uarts.aux k ∧ SameBut [.uarts, .ports] s t := by
  have read : s.readAuxRx k = (flag 35 true ||| flag 34 (e.testBit 11) ||| flag 33 (e.testBit 10) ||| flag 32 (e.testBit 9) ||| field 8 0 e,
      s.onAux k fun a => { a with rx := rest }) := by
    simp [State.readAuxRx, h, direct]
  have run : exec (.auxRxRead p k) s = .next ((s.readAuxRx k).2.onPort p fun q => { q with rdata := (s.readAuxRx k).1 }) := rfl
  rw [read] at run
  refine .of_next run ⟨?_, s.aux_onAux k _, s.onAux_others k _, ((s.onAux_frame k _).mono (by simp)).trans ((State.onPort_frame _ _ _).mono (by simp))⟩
  rw [State.port_onPort_fin]

theorem auxRxRead_of_none (p k : Fin 2) (s : State) (h : (s.aux k).rx = [] ∨ (s.aux k).tunnel = true) :
    Answers (.auxRxRead p k) s fun t => (t.port p).rdata = 0 ∧ OnlyPort p s t := by
  have read : s.readAuxRx k = (0, s) := by
    unfold State.readAuxRx
    rcases h with empty | tunnel
    · simp only [empty]
    · dsimp only
      split
      · rw [if_pos tunnel]
      · rfl
  have run : exec (.auxRxRead p k) s = .next ((s.readAuxRx k).2.onPort p fun q => { q with rdata := (s.readAuxRx k).1 }) := rfl
  rw [read] at run
  exact .of_port run rfl fun _ port only => ⟨congrArg Port.rdata port, only⟩

theorem auxCtlWrite_refused (p k : Fin 2) (s : State) (w : Word) (h : bits w 23 8 = 0 ∨ 640 < bits w 23 8 ∨ bits w 5 4 = 3) :
    Answers (.auxCtlWrite p k w) s fun t => (t.port p).noteCode = rcRange ∧ OnlyPort p s t :=
  .of_auxRefused (r := s.writeAuxCtl k w) rfl (if_pos h) (by decide)

/-- An AUX port with the settings of a CTL word. -/
def Aux.withCtl (w : Word) (a : Aux) : Aux :=
  { a with div := bits w 23 8, en := bit w 7, nine := bit w 6, par := bits w 5 4, stop2 := bit w 3, addrOnly := bit w 2, tunnel := bit w 1 }

/-- A port that a CTL write switches off loses what it holds. -/
def Aux.cleared (w : Word) (a : Aux) : Aux :=
  if a.en && !bit w 7 then { a.withCtl w with rx := [], tx := [], credit := 0, idle := false } else a.withCtl w

/-- A CTL write with legal settings while nothing is sent and no transfer runs there. -/
theorem State.writeAuxCtl_legal {s : State} {k : Nat} {w : Word} (lo : 1 ≤ bits w 23 8) (hi : bits w 23 8 ≤ 640) (par : bits w 5 4 ≠ 3)
    (idle : (s.aux k).tx = []) (free : ∀ x, s.uarts.xfer = some x → x.port ≠ k) :
    s.writeAuxCtl k w = (s.onAux k fun _ =>
      { (s.aux k).cleared w with taking := if (s.aux k).addrOnly then ((s.aux k).cleared w).taking else false,
                                 idle := ((s.aux k).cleared w).idle && (s.aux k).en }, 0) := by
  have legal : ¬ (bits w 23 8 = 0 ∨ 640 < bits w 23 8 ∨ bits w 5 4 = 3) := by omega
  rw [State.writeAuxCtl]
  rw [if_neg legal, if_neg, Aux.cleared]
  · by_cases off : ((s.aux k).en && !bit w 7) = true
    · rw [if_pos off, if_pos off]
      rfl
    · rw [if_neg off, if_neg off]
      rfl
  · rw [Aux.txDone, idle]
    cases hx : s.uarts.xfer with
    | none => simp
    | some x => simp [free x hx]

theorem auxCtlWrite_sets (p k : Fin 2) (s : State) (w : Word) (lo : 1 ≤ bits w 23 8) (hi : bits w 23 8 ≤ 640) (par : bits w 5 4 ≠ 3)
    (idle : (s.aux k).tx = []) (free : ∀ x, s.uarts.xfer = some x → x.port ≠ k) :
    Answers (.auxCtlWrite p k w) s fun t =>
      (t.aux k).div = bits w 23 8 ∧ (t.aux k).en = bit w 7 ∧ (t.aux k).nine = bit w 6 ∧ (t.aux k).par = bits w 5 4 ∧
        (t.aux k).stop2 = bit w 3 ∧ (t.aux k).addrOnly = bit w 2 ∧ (t.aux k).tunnel = bit w 1 ∧
        (t.aux k).rx = (if (s.aux k).en && !bit w 7 then [] else (s.aux k).rx) ∧
        Others s.uarts.aux t.uarts.aux k ∧ SameBut [.uarts] s t := by
  refine .of_aux (congrArg (answer p false) (State.writeAuxCtl_legal lo hi par idle free)) rfl fun t aux others frame => ?_
  rw [aux, Aux.cleared]
  split
  · exact ⟨rfl, rfl, rfl, rfl, rfl, rfl, rfl, rfl, others, frame⟩
  · exact ⟨rfl, rfl, rfl, rfl, rfl, rfl, rfl, rfl, others, frame⟩

/-! ### Characters received (R488..R494) -/

section
variable {u : Fin 4} {k : Fin 2} {s : State} {a : BitVec 3} {d q : List (BitVec 3)} {z : BitVec 3}

theorem exec_characterReceived_aux (hu : u.val = k.val + 2) :
    exec (.characterReceived u a d q z) s = .next
      ((if s.uartsRun then decodeChar (s.aux k).nine (s.aux k).par (charSamples a d q z) else none).elim s fun c =>
        s.auxChar k c.char c.noise c.ferr c.perr) := by
  have index : u.val - 2 = k.val := by omega
  show execCharacterReceived u a d q z s = _
  simp only [execCharacterReceived, if_neg (show ¬ u.val < 2 by omega), index]
  split
  · next found => simp only [found, Option.elim_none]
  · next found => simp only [found, Option.elim_some]

theorem characterReceived_of_none (hu : u.val = k.val + 2)
    (h : (s.aux k).en = false ∨ s.uartsRun = false ∨ decodeChar (s.aux k).nine (s.aux k).par (charSamples a d q z) = none) :
    exec (.characterReceived u a d q z) s = .next s := by
  rw [exec_characterReceived_aux hu]
  rcases h with off | stopped | silent
  · cases if s.uartsRun then decodeChar (s.aux k).nine (s.aux k).par (charSamples a d q z) else none with
    | none => rfl
    | some c => rw [Option.elim_some, State.auxChar, if_pos (by simp [off])]
  · rw [stopped]; rfl
  · rw [silent, ite_self]; rfl

/-- A character on a port that the host reads directly. -/
theorem State.auxChar_direct {n : Nat} {noise ferr perr : Bool} (on : (s.aux k).en = true) (every : (s.aux k).addrOnly = false)
    (direct : (s.aux k).tunnel = false) :
    s.auxChar k n noise ferr perr = s.onAux k fun a =>
      Aux.store { a with idle := false, taking := true } (element (if (s.aux k).nine then n else n % 256) noise ferr perr) noise ferr perr := by
  simp only [State.auxChar, on, every, direct, Bool.not_true, Bool.not_false, Bool.true_or, Bool.false_eq_true, if_false, if_true,
    State.onAux_onAux]

theorem exec_characterReceived_direct {h : Heard} (hu : u.val = k.val + 2) (run : s.uartsRun = true)
    (hd : decodeChar (s.aux k).nine (s.aux k).par (charSamples a d q z) = some h) (on : (s.aux k).en = true)
    (every : (s.aux k).addrOnly = false) (direct : (s.aux k).tunnel = false) :
    exec (.characterReceived u a d q z) s = .next (s.onAux k fun a => Aux.store { a with idle := false, taking := true }
      (element (if (s.aux k).nine then h.char else h.char % 256) h.noise h.ferr h.perr) h.noise h.ferr h.perr) := by
  rw [exec_characterReceived_aux hu, run, if_pos rfl, hd]
  exact congrArg _ (State.auxChar_direct on every direct)

end

theorem characterReceived_stores (k : Fin 2) (s : State) (u : Fin 4) (a : BitVec 3) (d q : List (BitVec 3)) (z : BitVec 3) (h : Heard)
    (hu : u.val = k.val + 2) (run : s.uartsRun = true)
    (hd : decodeChar (s.aux k).nine (s.aux k).par (charSamples a d q z) = some h) (on : (s.aux k).en = true)
    (every : (s.aux k).addrOnly = false) (direct : (s.aux k).tunnel = false) :
    ((s.aux k).rx.length < 255 →
      Answers (.characterReceived u a d q z) s fun t =>
        (t.aux k).rx = (s.aux k).rx ++ [element (if (s.aux k).nine then h.char else h.char % 256) h.noise h.ferr h.perr] ∧
          (t.aux k).idle = false ∧ (t.aux k).ovr = (s.aux k).ovr ∧ (t.aux k).noise = ((s.aux k).noise || h.noise) ∧
          Others s.uarts.aux t.uarts.aux k ∧ SameBut [.uarts] s t) ∧
    (255 ≤ (s.aux k).rx.length →
      Answers (.characterReceived u a d q z) s fun t =>
        (t.aux k).rx = (s.aux k).rx ∧ (t.aux k).ovr = true ∧ Others s.uarts.aux t.uarts.aux k ∧ SameBut [.uarts] s t) := by
  have stored := exec_characterReceived_direct hu run hd on every direct
  refine ⟨fun room => .of_aux stored (if_neg (Nat.not_le.mpr room)) fun t aux others frame => ?_,
    fun full => .of_aux stored (if_pos full) fun t aux others frame => ?_⟩
  · rw [aux]; exact ⟨rfl, rfl, rfl, rfl, others, frame⟩
  · rw [aux]; exact ⟨rfl, rfl, others, frame⟩

theorem receiveTimeout_of_aux (k : Fin 2) (s : State) (u : Fin 4) (hu : u.val = k.val + 2) : exec (.receiveTimeout u) s = .next s :=
  congrArg Host.Outcome.next (if_neg (by omega))

theorem lineIdle_idles (k : Fin 2) (s : State) (u : Fin 4) (hu : u.val = k.val + 2) (on : (s.aux k).en = true) :
    Answers (.lineIdle u) s fun t =>
      t.aux k = { s.aux k with idle := true, taking := false } ∧ Others s.uarts.aux t.uarts.aux k ∧ SameBut [.uarts] s t := by
  have run : exec (.lineIdle u) s = .next (s.onAux k fun a => if a.en then { a with idle := true, taking := false } else a) := by
    show Host.Outcome.next (if u.val < 2 then s else s.onAux (u.val - 2) _) = _
    rw [if_neg (by omega), show u.val - 2 = k.val by omega]
  exact .of_aux run (if_pos on) fun t aux others frame => ⟨aux, others, frame⟩

/-! ### What waits to be written grows behind what waits already (R159) -/

theorem State.writeEntry_wq (s : State) (kind port : Nat) (seq : Word) (body : List Word) (act : OnCommit) :
    (s.writeEntry kind port seq body act).welt.wq = s.welt.wq ++ [⟨entryWords kind s.welt.jepoch port seq body, act⟩] := rfl

theorem State.writeEntry_wq_prefix (s : State) (kind port : Nat) (seq : Word) (body : List Word) (act : OnCommit) :
    s.welt.wq <+: (s.writeEntry kind port seq body act).welt.wq := List.prefix_append _ _

theorem State.flushMarks_wq (s : State) : s.welt.wq <+: s.flushMarks.welt.wq := by
  have written (es : List (Word × List Mark)) (t : State) : t.welt.wq <+:
      (es.foldl (fun s e => s.writeEntry 0x3 (s.portOf e.1) e.1 (e.2.map Mark.word) (.marks e.2)) t).welt.wq := by
    induction es generalizing t with
    | nil => exact List.prefix_rfl
    | cons e es ih => exact (t.writeEntry_wq_prefix _ _ _ _ _).trans (ih _)
  exact written _ s

theorem State.queueMark_wq (s : State) (code idx arg : Nat) (job : Word) : s.welt.wq <+: (s.queueMark code idx arg job).welt.wq := by
  rw [State.queueMark]
  split
  · exact State.flushMarks_wq (s.onWelt fun w => { w with marks := w.marks ++ [⟨code, idx, arg, job⟩] })
  · exact List.prefix_rfl

theorem State.gateEnded_wq (s : State) (q : QItem) : s.welt.wq <+: (s.gateEnded q).welt.wq := by
  rw [State.gateEnded]
  split
  · exact List.prefix_rfl
  · split
    · exact List.prefix_rfl
    · split
      · exact List.prefix_append _ _
      · exact List.prefix_rfl

theorem State.checkDone_wq (s : State) (seq : Word) : s.welt.wq <+: (s.checkDone seq).welt.wq := by
  rw [State.checkDone]
  split
  · exact List.prefix_rfl
  · split
    · have raised : ((s.queueMark 6 0 0 seq).raiseJob 3 31 seq).welt = (s.queueMark 6 0 0 seq).welt :=
        State.raiseJob_frame _ 3 31 seq .welt (by simp)
      exact (s.queueMark_wq 6 0 0 seq).trans ((congrArg (_ <+: Welt.wq ·) raised).mpr List.prefix_rfl)
    · exact List.prefix_rfl

theorem State.endRecord_wq (s : State) (i : Nat) (q : QItem) : s.welt.wq <+: (s.endRecord i q).welt.wq := by
  rw [State.endRecord]
  refine .trans (.trans ?_ (State.gateEnded_wq _ q)) (State.checkDone_wq _ q.job)
  have marked := State.queueMark_wq ((s.dropItem i q).onRec q.job q.idx fun r => { r with outcome := .ended }) 2 q.idx 0 q.job
  split
  · exact marked.trans (State.flushMarks_wq _)
  · exact marked

theorem wordsKind_entryWords {kind : Nat} (h : kind < 16) (jepoch : BitVec 12) (port : Nat) (seq : Word) (body : List Word) :
    wordsKind (entryWords kind jepoch port seq body) = kind := by
  show bits (field 35 32 kind ||| field 31 20 body.length ||| field 19 8 jepoch.toNat ||| field 7 6 port) 35 32 = kind
  apply Nat.eq_of_testBit_eq
  intro i
  rw [testBit_bits]
  by_cases hi : i < 4
  · simp only [field, BitVec.getLsbD_or, BitVec.getLsbD_ofNat, Nat.testBit_shiftLeft, Nat.testBit_mod_two_pow]
    simp [hi, show 32 + i < 36 by omega, show ¬ 32 + i - 20 < 12 by omega, show ¬ 32 + i - 8 < 12 by omega, show ¬ 32 + i - 6 < 2 by omega]
  · have beyond : kind < 2 ^ i := lt_of_lt_of_le h (Nat.pow_le_pow_right (n := 2) (by omega) (Nat.not_lt.mp hi))
    simp [hi, Nat.testBit_lt_two_pow beyond]

/-! ### The end of an AUX_XFER (R500) -/

theorem State.writeResults_frame (q : QItem) (n : Nat) (cs : List Nat) (s : State) : SameBut [.welt] s (s.writeResults q n cs) := by
  induction n generalizing cs s with
  | zero => exact .refl _ s
  | succ n ih => exact .ite (.refl _ s) ((s.writeEntry_frame _ _ _ _ _).trans (ih _ _))

/-- A transfer's results go entry by entry. -/
theorem State.writeResults_step {q : QItem} {n : Nat} {cs : List Nat} {s : State} (h : cs ≠ []) :
    ∃ body, s.writeResults q (n + 1) cs = (s.writeEntry 8 (s.portOf q.job) q.job body .nothing).writeResults q n (cs.drop 21) :=
  ⟨_, by rw [State.writeResults, if_neg (by simpa using h)]⟩

theorem State.writeResults_wq (q : QItem) (n : Nat) (cs : List Nat) (s : State) : s.welt.wq <+: (s.writeResults q n cs).welt.wq := by
  induction n generalizing cs s with
  | zero => exact List.prefix_rfl
  | succ n ih =>
    by_cases h : cs = []
    · rw [h]; exact List.prefix_rfl
    · obtain ⟨body, step⟩ := State.writeResults_step (q := q) (n := n) (s := s) h
      rw [step]
      exact (s.writeEntry_wq_prefix _ _ _ _ _).trans (ih _ _)

/-- The first of the RESULT entries of a transfer that has received something. -/
theorem State.writeResults_first {q : QItem} {n : Nat} {cs : List Nat} {s : State} (h : cs ≠ []) :
    ∃ (e : WriteReq) (more : List WriteReq), (s.writeResults q (n + 1) cs).welt.wq = s.welt.wq ++ e :: more ∧ e.kind = 8 ∧ e.seq = q.job := by
  obtain ⟨body, step⟩ := State.writeResults_step (q := q) (n := n) (s := s) h
  obtain ⟨more, grown⟩ := State.writeResults_wq q n (cs.drop 21) (s.writeEntry 8 (s.portOf q.job) q.job body .nothing)
  refine ⟨⟨entryWords 8 s.welt.jepoch (s.portOf q.job) q.job body, .nothing⟩, more, ?_, wordsKind_entryWords (by decide) _ _ _ _, rfl⟩
  rw [step, ← grown, State.writeEntry_wq, List.append_assoc, List.singleton_append]

/-- The results of a transfer are in the queue of the welt and in its job, the record not yet ended. -/
def State.resulted (s : State) (q : QItem) (got : List Nat) : State :=
  ((s.setXfer none).writeResults q (got.length + 1) got).onJob q.job fun j =>
    { j with results := (q.idx, got) :: j.results.filter fun r => r.1 != q.idx }

theorem State.endXfer_of_running {s : State} {x : Xfer} {q : QItem} (hx : s.uarts.xfer = some x) (hq : (s.lane 18).running = some q) :
    s.endXfer = (s.resulted q x.got).endRecord 18 q := by
  simp only [State.endXfer, hx, hq]
  rfl

theorem State.resulted_frame (s : State) (q : QItem) (got : List Nat) : SameBut [.jobs, .welt] (s.setXfer none) (s.resulted q got) :=
  ((State.writeResults_frame q _ got _).mono (by simp)).trans ((State.onJob_frame _ _ _).mono (by simp))

/-- A record that runs and ends runs on its lane no more. -/
theorem State.endRecord_running {s : State} {i : Nat} {q : QItem} (hi : i < 19) (h : (s.lane i).running = some q) :
    ((s.endRecord i q).lane i).running = none := by
  have keeps {t u : State} (same : SameBut [.jobs, .welt, .dev, .ev, .ports] t u) (gone : (t.lane i).running = none) :
      (u.lane i).running = none := (congrArg (fun v => (at' v i).running) (same .lanes (by simp))).trans gone
  have dropped : ((s.dropItem i q).lane i).running = none := (s.dropItem_lane i q hi).1.trans (if_pos h)
  have marked := keeps (((s.dropItem i q).onRec_frame q.job q.idx fun r => { r with outcome := .ended }).mono (by simp)) dropped
  have noted := keeps ((State.queueMark_frame _ 2 q.idx 0 q.job).mono (by simp)) marked
  rw [State.endRecord]
  refine keeps (((State.gateEnded_frame _ q).mono (by simp)).trans (State.checkDone_frame _ q.job)) ?_
  split
  · rw [State.lane_onLane _ i _ hi]
    exact (keeps ((State.flushMarks_frame _).mono (by simp)) noted :)
  · exact noted

theorem auxXferEnd_ends (s : State) (x : Xfer) (q : QItem) (hx : s.uarts.xfer = some x) (receives : x.rxOpen = true)
    (hq : (s.lane 18).running = some q) :
    Answers .auxXferEnd s fun t =>
      t.uarts.xfer = none ∧ (t.lane 18).running = none ∧
        (x.got ≠ [] → ∃ (e : WriteReq) (more : List WriteReq), t.welt.wq = s.welt.wq ++ e :: more ∧ e.kind = 8 ∧ e.seq = q.job) ∧ t.axes = s.axes ∧
        t.stitch = s.stitch := by
  have run : exec .auxXferEnd s = .next ((s.resulted q x.got).endRecord 18 q) := by
    show execAuxXferEnd s = _
    simp only [execAuxXferEnd, hx, receives, if_true, State.endXfer_of_running hx hq]
  have results := s.resulted_frame q x.got
  have ends := (s.resulted q x.got).endRecord_frame 18 q
  have runs : ((s.resulted q x.got).lane 18).running = some q :=
    (congrArg (fun v => (at' v 18).running) (results .lanes (by simp))).trans hq
  refine .of_next run ⟨?_, State.endRecord_running (by omega) runs, fun got => ?_, ?_, ?_⟩
  · exact congrArg Uarts.xfer ((ends .uarts (by simp)).trans (results .uarts (by simp)))
  · obtain ⟨e, more, first, kind, seq⟩ := State.writeResults_first (q := q) (n := x.got.length) (s := s.setXfer none) got
    obtain ⟨rest, grown⟩ := (s.resulted q x.got).endRecord_wq 18 q
    have written : (s.resulted q x.got).welt.wq = s.welt.wq ++ e :: more := first
    exact ⟨e, more ++ rest, by rw [← grown, written, List.append_assoc, List.cons_append], kind, seq⟩
  · exact (ends .axes (by simp)).trans (results .axes (by simp))
  · exact (ends .stitch (by simp)).trans (results .stitch (by simp))

/-- Settles O51: a register is written or its write refused, a character is stored or lost, the end of a transfer writes its results before
its record ends. -/
theorem auxPortsWork : Obligations.AuxPortsWork := by
  intro p k s
  refine ⟨fun c up direct on => ⟨auxTxWrite_queues p k s c up direct on, auxTxWrite_full p k s c up direct on⟩, auxTxWrite_refused p k s,
    auxRxRead_takes p k s, auxRxRead_of_none p k s, auxCtlWrite_refused p k s, auxCtlWrite_sets p k s, ?_,
    fun u a d q z hu => characterReceived_of_none hu, receiveTimeout_of_aux k s, lineIdle_idles k s,
    fun u hu => congrArg Host.Outcome.next (if_pos hu), auxXferEnd_ends s, fun none => ?_⟩
  · exact fun u a d q z h hu run hd on every direct => characterReceived_stores k s u a d q z h hu run hd on every direct
  · show execAuxXferEnd s = _
    simp only [execAuxXferEnd, none]

end Sys2Proof.Machine
end

section
/-!
PROOFS. What the operations on records and jobs keep of the journal's place and numbers, of the gate list, of the records of lane 31
and of the timeouts that run (R143, R152, R155, R158, R164, R188).
-/

namespace Sys2Proof.Machine

/-! ### The gate list -/

theorem State.gate?_eq_none_iff {s : State} {job : Word} {idx : Nat} :
    s.gate? job idx = none ↔ ∀ g, some g ∈ s.welt.gates.toList → ¬ (g.job = job ∧ g.idx = idx) := by
  rw [State.gate?, Option.join_eq_none_iff]
  constructor
  · rintro (all | last) g mem
    · simpa using List.find?_eq_none.mp all (some g) mem
    · exact absurd (List.find?_some last) (by simp)
  · intro all
    refine .inl (List.find?_eq_none.mpr ?_)
    rintro (_ | g) mem
    · simp
    · simpa using all g mem

/-- A change of gates that moves none to another record brings no record a gate. -/
theorem State.gate?_onGate_of_none {s : State} {job job' : Word} {idx idx' : Nat} {f : Gate → Option Gate}
    (hf : ∀ g h, f g = some h → h.job = g.job ∧ h.idx = g.idx) (gateless : s.gate? job idx = none) : (s.onGate job' idx' f).gate? job idx = none := by
  rw [State.gate?_eq_none_iff] at gateless ⊢
  intro h mem
  simp only [State.onGate, State.onWelt_welt, Vector.toList_map, List.mem_map] at mem
  obtain ⟨o, mem, eq⟩ := mem
  cases o with
  | none => cases eq
  | some g =>
    dsimp only at eq
    split at eq
    · obtain ⟨hjob, hidx⟩ := hf g h eq
      rw [hjob, hidx]
      exact gateless g mem
    · cases eq
      exact gateless _ mem

/-- The gate that leaves the gate list is there no more (R188). -/
theorem State.gate?_onGate_none (s : State) (job : Word) (idx : Nat) : (s.onGate job idx fun _ => none).gate? job idx = none := by
  rw [State.gate?_eq_none_iff]
  intro h mem
  simp only [State.onGate, State.onWelt_welt, Vector.toList_map, List.mem_map] at mem
  obtain ⟨o, -, eq⟩ := mem
  cases o with
  | none => cases eq
  | some g =>
    dsimp only at eq
    split at eq
    · cases eq
    · next other => cases eq; exact other

/-! ### What is kept -/

/-- The numbers of the jobs and the head of the welt stay, and no record comes by a gate. -/
structure State.PlaceKept (s t : State) : Prop where
  lastSeq : t.jobs.lastSeq = s.jobs.lastSeq
  decided : t.jobs.decided = s.jobs.decided
  head : t.welt.head = s.welt.head
  gate : ∀ job idx, s.gate? job idx = none → t.gate? job idx = none

/-- Besides, the records of lane 31 that wait stay, and no timeout begins to run. -/
structure State.BookKept (s t : State) : Prop extends s.PlaceKept t where
  ctrl : t.jobs.ctrl = s.jobs.ctrl
  deadlines : t.jobs.deadlines ⊆ s.jobs.deadlines

namespace State.PlaceKept
variable {s t u : State}

theorem refl (s : State) : s.PlaceKept s := ⟨rfl, rfl, rfl, fun _ _ => id⟩

theorem trans (ht : s.PlaceKept t) (hu : t.PlaceKept u) : s.PlaceKept u :=
  ⟨hu.lastSeq.trans ht.lastSeq, hu.decided.trans ht.decided, hu.head.trans ht.head, fun job idx none => hu.gate job idx (ht.gate job idx none)⟩

theorem foldl {α : Type} {f : State → α → State} (h : ∀ t a, PlaceKept t (f t a)) (l : List α) (s : State) : s.PlaceKept (l.foldl f s) := by
  induction l generalizing s with
  | nil => exact refl s
  | cons a rest ih => exact (h s a).trans (ih _)

end State.PlaceKept

namespace State.BookKept
variable {s t u : State}

theorem refl (s : State) : s.BookKept s := ⟨.refl s, rfl, List.Subset.refl _⟩

theorem trans (ht : s.BookKept t) (hu : t.BookKept u) : s.BookKept u :=
  ⟨ht.toPlaceKept.trans hu.toPlaceKept, hu.ctrl.trans ht.ctrl, List.Subset.trans hu.deadlines ht.deadlines⟩

theorem ite {c : Prop} [Decidable c] (ht : s.BookKept t) (hu : s.BookKept u) : s.BookKept (if c then t else u) := by
  split
  · exact ht
  · exact hu

theorem foldl {α : Type} {f : State → α → State} (h : ∀ t a, BookKept t (f t a)) (l : List α) (s : State) : s.BookKept (l.foldl f s) := by
  induction l generalizing s with
  | nil => exact refl s
  | cons a rest ih => exact (h s a).trans (ih _)

theorem of_eq (jobs : t.jobs = s.jobs) (welt : t.welt = s.welt) : s.BookKept t where
  lastSeq := by rw [jobs]
  decided := by rw [jobs]
  head := by rw [welt]
  gate job idx none := by rw [State.gate?, welt]; exact none
  ctrl := by rw [jobs]
  deadlines := by rw [jobs]; exact List.Subset.refl _

theorem of_sameBut {ps : List Part} (h : SameBut ps s t) (hj : Part.jobs ∉ ps := by simp) (hw : Part.welt ∉ ps := by simp) : s.BookKept t :=
  of_eq (h .jobs hj) (h .welt hw)

/-- Where no timeout ran, none runs. -/
theorem deadlines_eq_nil (h : s.BookKept t) (none : s.jobs.deadlines = []) : t.jobs.deadlines = [] :=
  List.eq_nil_of_subset_nil (none ▸ h.deadlines)

end State.BookKept

namespace State

/-! ### The state's operations -/

theorem onWelt_bookKept {s : State} {f : Welt → Welt} (head : (f s.welt).head = s.welt.head := by rfl)
    (gates : (f s.welt).gates = s.welt.gates := by rfl) : s.BookKept (s.onWelt f) where
  lastSeq := rfl
  decided := rfl
  head := head
  gate job idx none := by rw [State.gate?, State.onWelt_welt, gates]; exact none
  ctrl := rfl
  deadlines := List.Subset.refl _

theorem onLane_bookKept {s : State} {i : Nat} {f : Lane → Lane} : s.BookKept (s.onLane i f) := .of_eq rfl rfl

theorem raise_bookKept {s : State} {cls code lane : Nat} {args : List Word} : s.BookKept (s.raise cls code lane args) :=
  .of_sameBut (s.raise_frame _ _ _ _)

theorem raiseJob_bookKept {s : State} {code lane : Nat} {job : Word} : s.BookKept (s.raiseJob code lane job) := raise_bookKept

theorem onJob_bookKept {s : State} {seq : Word} {f : Job → Job} : s.BookKept (s.onJob seq f) :=
  ⟨⟨rfl, rfl, rfl, fun _ _ => id⟩, rfl, List.Subset.refl _⟩

theorem onRec_bookKept {s : State} {seq : Word} {idx : Nat} {f : RecStatus → RecStatus} : s.BookKept (s.onRec seq idx f) := onJob_bookKept

theorem dropDeadline_bookKept {s : State} {seq : Word} {idx : Nat} : s.BookKept (s.dropDeadline seq idx) :=
  ⟨⟨rfl, rfl, rfl, fun _ _ => id⟩, rfl, List.filter_subset_self _⟩

theorem writeEntry_bookKept {s : State} {kind port : Nat} {seq : Word} {body : List Word} {act : OnCommit} :
    s.BookKept (s.writeEntry kind port seq body act) := onWelt_bookKept

theorem flushMarks_bookKept {s : State} : s.BookKept s.flushMarks := by
  rw [State.flushMarks]
  exact .trans (.foldl (fun _ _ => writeEntry_bookKept) _ s) onWelt_bookKept

theorem queueMark_bookKept {s : State} {code idx arg : Nat} {job : Word} : s.BookKept (s.queueMark code idx arg job) :=
  .ite (.trans onWelt_bookKept flushMarks_bookKept) onWelt_bookKept

theorem onGate_bookKept {s : State} {job : Word} {idx : Nat} {f : Gate → Option Gate}
    (hf : ∀ g h, f g = some h → h.job = g.job ∧ h.idx = g.idx) : s.BookKept (s.onGate job idx f) :=
  ⟨⟨rfl, rfl, rfl, fun _ _ => gate?_onGate_of_none hf⟩, rfl, List.Subset.refl _⟩

theorem dropGate_bookKept {s : State} {job : Word} {idx : Nat} : s.BookKept (s.onGate job idx fun _ => none) :=
  onGate_bookKept fun _ _ eq => absurd eq (by simp)

theorem writeSettle_bookKept {s : State} {job : Word} {idx verdict source hint : Nat} {detail : Word} :
    s.BookKept (s.writeSettle job idx verdict source hint detail) := writeEntry_bookKept

/-! ### Fences, the end of records and jobs -/

theorem setFence_bookKept {s : State} {seq : Word} {idx : Nat} {st : FenceState} : s.BookKept (s.setFence seq idx st) := onJob_bookKept

theorem breakFence_bookKept {s : State} {seq : Word} {idx : Nat} : s.BookKept (s.breakFence seq idx) := by
  have counted : s.BookKept ((s.setFence seq idx .broken).onJobs fun j => { j with brokenCount := j.brokenCount + 1 }) :=
    ⟨⟨rfl, rfl, rfl, fun _ _ => id⟩, rfl, List.Subset.refl _⟩
  exact counted.trans (queueMark_bookKept.trans raise_bookKept)

theorem breakFencesOver_bookKept {s : State} {i : Nat} : s.BookKept (s.breakFencesOver i) :=
  .foldl (fun t _ => .foldl (fun _ _ => .ite breakFence_bookKept (.refl _)) _ t) _ s

theorem checkDone_bookKept {s : State} {seq : Word} : s.BookKept (s.checkDone seq) := by
  rw [State.checkDone]
  split
  · exact .refl s
  · exact .ite (.trans (queueMark_bookKept.trans raiseJob_bookKept) ⟨⟨rfl, rfl, rfl, fun _ _ => id⟩, rfl, List.Subset.refl _⟩) (.refl s)

theorem dropItem_bookKept {s : State} {i : Nat} {q : QItem} : s.BookKept (s.dropItem i q) := dropDeadline_bookKept.trans onLane_bookKept

theorem gateEnded_bookKept {s : State} {q : QItem} : s.BookKept (s.gateEnded q) := by
  rw [State.gateEnded]
  split
  · exact .refl s
  · refine .ite (.refl s) (.ite (writeSettle_bookKept.trans (onGate_bookKept ?_)) (onGate_bookKept ?_))
    · rintro g _ ⟨⟩; exact ⟨rfl, rfl⟩
    · rintro g _ ⟨⟩; exact ⟨rfl, rfl⟩

theorem gateStopped_bookKept {s : State} {q : QItem} : s.BookKept (s.gateStopped q) := by
  refine onGate_bookKept fun g h eq => ?_
  split at eq <;> (cases eq; exact ⟨rfl, rfl⟩)

theorem endRecord_bookKept {s : State} {i : Nat} {q : QItem} : s.BookKept (s.endRecord i q) := by
  have marked : s.BookKept (((s.dropItem i q).onRec q.job q.idx fun r => { r with outcome := .ended }).queueMark 2 q.idx 0 q.job) :=
    (dropItem_bookKept.trans onRec_bookKept).trans queueMark_bookKept
  exact marked.trans <| .trans (.ite (flushMarks_bookKept.trans onLane_bookKept) (.refl _)) (gateEnded_bookKept.trans checkDone_bookKept)

theorem cancelRecord_bookKept {s : State} {i : Nat} {q : QItem} : s.BookKept (s.cancelRecord i q) :=
  (dropItem_bookKept.trans gateStopped_bookKept).trans <| onRec_bookKept.trans <| queueMark_bookKept.trans checkDone_bookKept

theorem endCtrl_bookKept {s : State} {q : QItem} {ok : Bool} : s.BookKept (s.endCtrl q ok) :=
  onRec_bookKept.trans <| queueMark_bookKept.trans checkDone_bookKept

theorem dropStanding_bookKept {s : State} {seq : Word} {idx : Nat} : s.BookKept (s.dropStanding seq idx) :=
  dropDeadline_bookKept.trans (.of_eq rfl rfl)

theorem fenceOver_bookKept {s : State} {seq : Word} {idx : Nat} {st : FenceState} {code arg : Nat} :
    s.BookKept (s.fenceOver seq idx st code arg) :=
  .trans (setFence_bookKept.trans (queueMark_bookKept.trans dropStanding_bookKept)) onRec_bookKept

theorem cancelWaiting_bookKept {s : State} {i : Nat} {q : QItem} : s.BookKept (s.cancelWaiting i q) :=
  .ite cancelRecord_bookKept <| .ite (.refl s) <|
    (setFence_bookKept.trans dropStanding_bookKept).trans <| onRec_bookKept.trans queueMark_bookKept

/-! ### Stops and service -/

theorem cameToRest_bookKept {s : State} {i : Nat} : s.BookKept (s.cameToRest i) := by
  refine .ite (.refl s) ?_
  split
  · exact onLane_bookKept.trans (gateStopped_bookKept.trans onRec_bookKept)
  · exact onLane_bookKept

theorem beginStop_bookKept {s : State} {i : Nat} {goal : LaneState} : s.BookKept (s.beginStop i goal) := .of_sameBut (s.beginStop_frame i goal)

theorem showHeld_bookKept {s : State} {i : Nat} {held : Bool} : s.BookKept (s.showHeld i held) := .foldl (fun _ _ => onRec_bookKept) _ s

theorem holdLane_bookKept {s : State} {i : Nat} : s.BookKept (s.holdLane i) := by
  refine showHeld_bookKept.trans (.foldl (fun t seq => ?_) _ _)
  split
  · exact .ite (.refl t) (onJob_bookKept.trans raiseJob_bookKept)
  · exact .refl t

theorem leaveService_bookKept {s : State} {i : Nat} {st : LaneState} {code : Nat} : s.BookKept (s.leaveService i st code) :=
  .trans (beginStop_bookKept.trans onLane_bookKept) <| .trans raise_bookKept <|
    .trans (breakFencesOver_bookKept.trans holdLane_bookKept) writeEntry_bookKept

theorem readmitFail_bookKept {s : State} {i : Nat} : s.BookKept (s.readmitFail i) :=
  .trans onLane_bookKept <| .trans raise_bookKept <| .trans (breakFencesOver_bookKept.trans holdLane_bookKept) writeEntry_bookKept

theorem dropHead_frame (s : State) (x : Nat) : SameBut [.heads, .dev, .ev, .ports] s (s.dropHead x) := by
  have print : SameBut [.heads, .dev, .ev, .ports] s (s.dropPrint x (s.head x).job (s.head x).idx) := (s.onHead_frame x _).mono (by simp)
  have scan (t : State) : SameBut [.heads, .dev, .ev, .ports] t (t.scanEnd x 5) := (t.scanEnd_frame x 5).mono (by simp)
  exact print.trans <| .trans (.ite (scan _) (.refl _ _)) ((State.onHead_frame _ _ _).mono (by simp))

theorem dropWork_frame (s : State) (i : Nat) : SameBut [.heads, .axes, .dev, .ev, .ports] s (s.dropWork i) :=
  .ite ((s.dropHead_frame i).mono (by simp)) <| .ite ((s.onAx_frame _ _).mono (by simp)) (.refl _ s)

theorem dropWork_bookKept {s : State} {i : Nat} : s.BookKept (s.dropWork i) := .of_sameBut (s.dropWork_frame i)

end State

/-! ### Lanes that a change leaves alone -/

theorem SameBut.lane {ps : List Part} {s t : State} (h : SameBut ps s t) (i : Nat) (hl : Part.lanes ∉ ps := by simp) : t.lane i = s.lane i :=
  congrArg (at' · i) (h .lanes hl)

theorem SameBut.ax {ps : List Part} {s t : State} (h : SameBut ps s t) (n : Nat) (ha : Part.axes ∉ ps := by simp) : t.ax n = s.ax n :=
  congrArg (at' · n) (h .axes ha)

theorem State.cancelRecord_told (s : State) (i : Nat) (q : QItem) :
    SameBut [.jobs, .welt, .dev, .ev, .ports] (s.dropItem i q) (s.cancelRecord i q) :=
  .trans (.trans ((State.gateStopped_frame _ q).mono (by simp)) ((State.onRec_frame _ _ _ _).mono (by simp)))
    (.trans ((State.queueMark_frame _ _ _ _ _).mono (by simp)) (State.checkDone_frame _ _))

end Sys2Proof.Machine
end

section
/-!
PROOFS. STOP (R150), the timeouts of records (R143, R155), of fences (R153) and of re-admissions (R154).
-/

namespace Sys2Proof.Machine

/-! ### STOP (R150) -/

theorem stop_asks (p : Fin 2) (i : Fin 19) (mask : BitVec 19) (s : State) :
    Answers (.stop p i mask) s fun t =>
      t.jobs.stops = s.jobs.stops ++ [(s.stitch.n, if mask = 0 then 2 ^ i.val else mask.toNat)] ∧ t.lanes = s.lanes ∧ SameBut [.jobs] s t :=
  .of_next rfl ⟨rfl, rfl, s.onJobs_frame _⟩

/-! ### A lane that begins to stop -/

/-- The axes of a head path that stops are told by their path alone (R27). -/
theorem State.foldl_pathStop_lane (s : State) (x i : Nat) (cs : List Nat) :
    ∃ p, (cs.foldl (fun s a => if s.headOwns x then s.onLane a fun l => { l with pathStop := true } else s) s).lane i =
      { s.lane i with pathStop := p } := by
  induction cs generalizing s with
  | nil => exact ⟨_, rfl⟩
  | cons a rest ih =>
    rw [List.foldl_cons]
    split
    · obtain ⟨p, lane⟩ := ih (s.onLane a fun l => { l with pathStop := true })
      rcases at'_upd_cases s.lanes a i fun l => { l with pathStop := true } with same | told
      · exact ⟨p, lane.trans (congrArg (fun l : Lane => { l with pathStop := p }) same)⟩
      · exact ⟨p, lane.trans (congrArg (fun l : Lane => { l with pathStop := p }) told)⟩
    · exact ih s

theorem State.beginStop_lane (s : State) {i : Nat} (hi : i < 19) (goal : LaneState) (moves : (s.lane i).stopping = false)
    (runs : (s.lane i).state ≠ .stopped) : ∃ p, (s.beginStop i goal).lane i = { s.lane i with stopping := true, stopTo := goal, pathStop := p } := by
  have told := s.lane_onLane i (fun l => { l with stopping := true, stopTo := goal }) hi
  rw [State.beginStop, if_neg (by simp [moves, runs])]
  dsimp only
  split
  · obtain ⟨p, lane⟩ := State.foldl_pathStop_lane (s.onLane i fun l => { l with stopping := true, stopTo := goal }) i i
      ((s.onLane i fun l => { l with stopping := true, stopTo := goal }).boundAxes i)
    exact ⟨p, lane.trans (by rw [told])⟩
  · exact ⟨(s.lane i).pathStop, told⟩

theorem State.cameToRest_lane (s : State) {i : Nat} (hi : i < 19) (stops : (s.lane i).stopping = true) :
    (s.cameToRest i).lane i = (s.lane i).rest (s.lane i).checkStops s.gateDone := by
  rw [(s.cameToRest_rested i).lane i, State.rested, if_pos stops, s.lane_onLane i _ hi]

theorem State.cameToRest_lane_ne (s : State) {i j : Nat} (other : j ≠ i) : (s.cameToRest i).lane j = s.lane j := by
  rw [(s.cameToRest_rested i).lane j, State.rested]
  split
  · exact s.lane_onLane_ne i j _ other
  · rfl

/-! ### The transfer of a stopped AUX record (R500) -/

/-- The stop of a lane in service stays as it is. -/
structure Lane.StopKept (l m : Lane) : Prop where
  stopping : m.stopping = l.stopping
  stopTo : m.stopTo = l.stopTo
  stopCause : m.stopCause = l.stopCause
  inService : l.inService = true → m.inService = true

theorem Lane.StopKept.refl (l : Lane) : l.StopKept l := ⟨rfl, rfl, rfl, id⟩

theorem Lane.StopKept.trans {l m k : Lane} (hm : l.StopKept m) (hk : m.StopKept k) : l.StopKept k :=
  ⟨hk.stopping.trans hm.stopping, hk.stopTo.trans hm.stopTo, hk.stopCause.trans hm.stopCause, fun h => hk.inService (hm.inService h)⟩

theorem Lane.StopKept.norm {l m : Lane} (h : l.StopKept m) : l.StopKept m.norm :=
  h.trans ⟨by rw [m.norm_eq], by rw [m.norm_eq], by rw [m.norm_eq], m.norm_inService⟩

theorem State.onLane_stopKept (s : State) (i j : Nat) {f : Lane → Lane} (hf : ∀ l : Lane, l.StopKept (f l)) :
    (s.lane j).StopKept ((s.onLane i f).lane j) := by
  rcases at'_upd_cases s.lanes i j f with same | changed
  · exact (congrArg (s.lane j).StopKept same).mpr (.refl _)
  · exact (congrArg (s.lane j).StopKept changed).mpr (hf _)

theorem SameBut.stopKept {ps : List Part} {s t : State} (h : SameBut ps s t) (i : Nat) (hl : Part.lanes ∉ ps := by simp) :
    (s.lane i).StopKept (t.lane i) := by
  rw [h.lane i hl]
  exact .refl _

theorem State.endRecord_stopKept (s : State) (i j : Nat) (q : QItem) : (s.lane j).StopKept ((s.endRecord i q).lane j) := by
  have keeps {t u : State} (same : SameBut [.jobs, .welt, .dev, .ev, .ports] t u) (kept : (s.lane j).StopKept (t.lane j)) :
      (s.lane j).StopKept (u.lane j) := kept.trans (same.stopKept j)
  have dropped : (s.lane j).StopKept ((s.dropItem i q).lane j) :=
    ((s.dropDeadline_frame q.job q.idx).stopKept j).trans (State.onLane_stopKept _ i j fun l => Lane.StopKept.norm ⟨rfl, rfl, rfl, id⟩)
  have marked := keeps (((s.dropItem i q).onRec_frame q.job q.idx fun r => { r with outcome := .ended }).mono (by simp)) dropped
  have noted := keeps ((State.queueMark_frame _ 2 q.idx 0 q.job).mono (by simp)) marked
  rw [State.endRecord]
  refine keeps (((State.gateEnded_frame _ q).mono (by simp)).trans (State.checkDone_frame _ q.job)) ?_
  split
  · exact (keeps ((State.flushMarks_frame _).mono (by simp)) noted).trans (State.onLane_stopKept _ i j fun _ => ⟨rfl, rfl, rfl, id⟩)
  · exact noted

theorem State.resulted_bookKept {s : State} {q : QItem} {got : List Nat} : s.BookKept (s.resulted q got) := by
  have results (n : Nat) (cs : List Nat) (t : State) : t.BookKept (t.writeResults q n cs) := by
    induction n generalizing cs t with
    | zero => exact .refl t
    | succ n ih => exact .ite (.refl t) (State.writeEntry_bookKept.trans (ih _ _))
  have taken : s.BookKept (s.setXfer none) := .of_eq rfl rfl
  exact (taken.trans (results (got.length + 1) got _)).trans State.onJob_bookKept

/-- The transfer in progress ends, its record with it. -/
theorem State.stopXfer_cases (s : State) :
    SameBut [.uarts] s s.stopXfer ∨ ∃ t q got, SameBut [.uarts] s t ∧ s.stopXfer = (t.resulted q got).endRecord 18 q := by
  have set (t : State) (x : Option Xfer) : SameBut [.uarts] t (t.setXfer x) := t.setXfer_frame x
  unfold State.stopXfer
  split
  · next x hx =>
    have cut : SameBut [.uarts] s (s.onAux x.port Aux.cut) := s.onAux_frame _ _
    have xfer : (s.onAux x.port Aux.cut).uarts.xfer = some x := hx
    cases runs : ((s.onAux x.port Aux.cut).lane 18).running with
    | some q => exact .inr ⟨_, q, x.got, cut, State.endXfer_of_running xfer runs⟩
    | none =>
      refine .inl (cut.trans ?_)
      rw [State.endXfer, xfer, runs]
      exact set _ _
  · exact .inl (.refl _ s)

theorem State.stopXfer_stopKept (s : State) : (s.lane 18).StopKept (s.stopXfer.lane 18) := by
  obtain same | ⟨t, q, got, cut, ended⟩ := s.stopXfer_cases
  · exact same.stopKept 18
  · have results : SameBut [.jobs, .welt, .uarts] t (t.resulted q got) :=
      ((t.setXfer_frame none).mono (by simp)).trans ((t.resulted_frame q got).mono (by simp))
    rw [ended]
    exact (cut.stopKept 18).trans ((results.stopKept 18).trans (State.endRecord_stopKept _ 18 18 q))

theorem State.stopXfer_bookKept {s : State} : s.BookKept s.stopXfer := by
  obtain same | ⟨t, q, got, cut, ended⟩ := s.stopXfer_cases
  · exact .of_sameBut same
  · rw [ended]
    exact (State.BookKept.of_sameBut cut).trans (State.resulted_bookKept.trans State.endRecord_bookKept)

/-! ### RECORD_TIMEOUT (R143, R155) -/

/-- The timeout of a record is over and told. -/
def State.timeoutTold (s : State) (i : Nat) (q : QItem) : State := (s.dropDeadline q.job q.idx).raiseJob 7 i q.job

/-- The record of a lane in service begins to stop for its timeout. -/
def State.timeoutStop (s : State) (i : Nat) : State :=
  (s.onLane i fun l => { l with stopCause := if l.stopping then l.stopCause else 5 }).beginStop i .stopped

section
variable {s : State} {i : Fin 19} {q : QItem} {d : Nat}

theorem State.timeoutTold_frame : SameBut [.jobs, .ev, .dev, .ports] s (s.timeoutTold i q) :=
  ((s.dropDeadline_frame _ _).mono (by simp)).trans ((State.raiseJob_frame _ _ _ _).mono (by simp))

theorem State.timeoutTold_jobs (only : s.jobs.deadlines = [(q.job, q.idx, d)]) :
    (s.timeoutTold i q).jobs = { s.jobs with deadlines := [] } := by
  refine (State.raiseJob_frame _ _ _ _ .jobs (by simp)).trans ?_
  rw [State.dropDeadline, State.onJobs_jobs, only]
  simp

theorem exec_recordTimeout_of_due (runs : (s.lane i).running = some q) (only : s.jobs.deadlines = [(q.job, q.idx, d)]) (due : d < s.nextPh) :
    exec (.recordTimeout i) s = .next (if (s.lane i).inService then
      if i.val = 18 then ((s.timeoutTold i q).timeoutStop i).stopXfer.cameToRest i else (s.timeoutTold i q).timeoutStop i
      else s.timeoutTold i q) := by
  have lane : ((s.dropDeadline q.job q.idx).raiseJob 7 i q.job).lane i = s.lane i := State.timeoutTold_frame.lane i
  show execRecordTimeout i s = _
  simp only [execRecordTimeout, runs, Option.toList_some, List.singleton_append, List.find?_cons, only, List.any_cons, List.any_nil,
    beq_self_eq_true, Bool.true_and, due, decide_true, Bool.or_false, lane]
  split <;> rfl

theorem recordTimeout_stops (runs : (s.lane i).running = some q) (only : s.jobs.deadlines = [(q.job, q.idx, d)]) (due : d < s.nextPh)
    (serves : (s.lane i).inService = true) (moves : (s.lane i).stopping = false) :
    Answers (.recordTimeout i) s fun t =>
      t.jobs.deadlines = [] ∧ (t.lane i).stopCause = 5 ∧ ((t.lane i).stopping = true ∨ (t.lane i).state = .stopped) := by
  have told : (s.timeoutTold i q).jobs.deadlines = [] := by rw [State.timeoutTold_jobs only]
  have caused : ((s.timeoutTold i q).onLane i fun l => { l with stopCause := if l.stopping then l.stopCause else 5 }).lane i =
      { s.lane i with stopCause := 5 } := by
    simp only [State.lane_onLane_fin, State.timeoutTold_frame.lane i, moves, Bool.false_eq_true, if_false]
  have running : (s.lane i).state ≠ .stopped := fun stopped => by simp [Lane.inService, stopped] at serves
  obtain ⟨p, stop⟩ := State.beginStop_lane ((s.timeoutTold i q).onLane i fun l => { l with stopCause := if l.stopping then l.stopCause else 5 })
    i.isLt .stopped (by rw [caused]; exact moves) (by rw [caused]; exact running)
  rw [caused] at stop
  have stopKept : (s.timeoutTold i q).BookKept ((s.timeoutTold i q).timeoutStop i) := State.onLane_bookKept.trans State.beginStop_bookKept
  refine .of_next (exec_recordTimeout_of_due runs only due) ?_
  rw [if_pos serves]
  split
  · next aux =>
    obtain ⟨stopping, stopTo, stopCause, inService⟩ := ((s.timeoutTold i q).timeoutStop i).stopXfer_stopKept
    rw [← aux, show ((s.timeoutTold i q).timeoutStop i).lane i = _ from stop] at stopping stopTo stopCause inService
    have rest := State.cameToRest_lane ((s.timeoutTold i q).timeoutStop i).stopXfer i.isLt stopping
    refine ⟨(stopKept.trans (State.stopXfer_bookKept.trans State.cameToRest_bookKept)).deadlines_eq_nil told, ?_, .inr ?_⟩
    · rw [rest]
      exact stopCause
    · rw [rest, Lane.rest, inService serves, Bool.true_or, if_pos rfl]
      exact stopTo
  · have lane : ((s.timeoutTold i q).timeoutStop i).lane i = _ := stop
    exact ⟨stopKept.deadlines_eq_nil told, by rw [lane], .inl (by rw [lane])⟩

theorem recordTimeout_of_stopped (runs : (s.lane i).running = some q) (only : s.jobs.deadlines = [(q.job, q.idx, d)]) (due : d < s.nextPh)
    (stopped : (s.lane i).state = .stopped) :
    Answers (.recordTimeout i) s fun t =>
      t.jobs = { s.jobs with deadlines := [] } ∧ t.lanes = s.lanes ∧ SameBut [.jobs, .ev, .dev, .ports] s t := by
  refine .of_next (exec_recordTimeout_of_due runs only due) ?_
  rw [if_neg (by simp [Lane.inService, stopped])]
  exact ⟨State.timeoutTold_jobs only, State.timeoutTold_frame .lanes (by simp), State.timeoutTold_frame⟩

theorem recordTimeout_of_not_due (later : ∀ d ∈ s.jobs.deadlines, s.nextPh ≤ d.2.2) : exec (.recordTimeout i) s = .next s := by
  have waits : ((s.lane i).running.toList ++ (s.lane i).tail).find? (fun q => s.jobs.deadlines.any fun d =>
      d.1 == q.job && d.2.1 == q.idx && decide (d.2.2 < s.nextPh)) = none := by
    refine List.find?_eq_none.mpr fun q _ due => ?_
    obtain ⟨d, mem, due⟩ := List.any_eq_true.mp due
    simp [Nat.not_lt.mpr (later d mem)] at due
  show execRecordTimeout i s = _
  simp only [execRecordTimeout, waits]

end

/-! ### FENCE_TIMEOUT (R153, R155) -/

theorem State.breakFence_brokenCount (s : State) (seq : Word) (idx : Nat) :
    (s.breakFence seq idx).jobs.brokenCount = s.jobs.brokenCount + 1 := by
  rw [State.breakFence, State.raise_frame _ _ _ _ _ .jobs (by simp), State.queueMark_frame _ _ _ _ _ .jobs (by simp)]
  rfl

/-- Timeout `d` runs no more. -/
def State.timedOut (s : State) (d : Word × Nat × Nat) : State := s.onJobs fun j => { j with deadlines := j.deadlines.erase d }

theorem State.timedOut_deadlines {s : State} {d : Word × Nat × Nat} (only : s.jobs.deadlines = [d]) : (s.timedOut d).jobs.deadlines = [] := by
  rw [State.timedOut, State.onJobs_jobs, only]
  simp

theorem fenceTimeout_breaks {s : State} {d : Word × Nat × Nat} {j : Job} (only : s.jobs.deadlines = [d]) (due : d.2.2 < s.nextPh)
    (job : s.job? d.1 = some j) (waits : (d.2.1, FenceState.waiting) ∈ j.fences) :
    Answers .fenceTimeout s fun t =>
      t.jobs.deadlines = [] ∧ t.jobs.brokenCount = s.jobs.brokenCount + 1 ∧ t.lanes = s.lanes := by
  have run : exec .fenceTimeout s = .next (((s.timedOut d).raiseJob 7 31 d.1).breakFence d.1 d.2.1) := by
    show execFenceTimeout s = _
    simp [execFenceTimeout, only, due, job, waits, State.timedOut]
  have told := (s.timedOut d).raiseJob_frame 7 31 d.1
  refine .of_next run ⟨(State.raiseJob_bookKept.trans State.breakFence_bookKept).deadlines_eq_nil (State.timedOut_deadlines only), ?_, ?_⟩
  · rw [State.breakFence_brokenCount, told .jobs (by simp)]
    rfl
  · exact (State.breakFence_frame _ _ _ .lanes (by simp)).trans (told .lanes (by simp))

/-! ### READMIT_TIMEOUT (R154) -/

/-- A lane's re-admission has run out: its check stops, it is in FAULT again and lets go of the record. -/
def State.readmitOver (s : State) (i : Nat) : State := ((s.stopCheck i .fault).readmitFail i).readmitClose i

theorem State.checkAbort_frame (s : State) (i : Nat) : SameBut [.heads, .axes, .chans, .dev, .ev, .ports] s (s.checkAbort i) := by
  refine .ite (.ite ((s.scanEnd_frame _ _).mono (by simp)) (.refl _ s)) (.ite ((s.onAx_frame _ _).mono (by simp)) (.ite ?_ (.refl _ s)))
  exact .foldl (fun t _ => (t.onChan_frame _ _).mono (by simp)) _ s

theorem State.stopCheck_lane_ne (s : State) (goal : LaneState) {i j : Nat} (other : j ≠ i) : (s.stopCheck i goal).lane j = s.lane j := by
  rw [State.stopCheck]
  split
  · exact s.lane_onLane_ne i j _ other
  · rw [State.cameToRest_lane_ne _ other, State.lane_onLane_ne _ _ _ _ other, (s.checkAbort_frame i).lane j]

theorem State.stopCheck_bookKept {s : State} {i : Nat} {goal : LaneState} : s.BookKept (s.stopCheck i goal) := by
  have stop (c : Bool) : s.BookKept ((if c then s else s.checkAbort i).onLane i fun l => { l with stopping := true, stopTo := goal }) :=
    .trans (.ite (.refl s) (.of_sameBut (s.checkAbort_frame i))) State.onLane_bookKept
  rw [State.stopCheck]
  exact .ite (stop _) ((stop _).trans State.cameToRest_bookKept)

theorem State.readmitFail_lane (s : State) {i : Nat} (hi : i < 19) :
    (s.readmitFail i).lane i = { s.lane i with state := .fault, raStep := 0 } :=
  ((s.readmitFail_frame i).lane i).trans (s.lane_onLane i _ hi)

theorem State.readmitFail_lane_ne (s : State) {i j : Nat} (other : j ≠ i) : (s.readmitFail i).lane j = s.lane j :=
  ((s.readmitFail_frame i).lane j).trans (s.lane_onLane_ne i j _ other)

/-- A lane that lets go of its RE_ADMIT keeps its state; the record ends without the lanes. -/
theorem State.readmitClose_cases (s : State) (i : Nat) :
    s.readmitClose i = s ∨ ∃ t, t = s.onLane i (fun l => { l with raRec := none }) ∧
      SameBut [.jobs, .welt, .dev, .ev, .ports] t (s.readmitClose i) ∧ t.BookKept (s.readmitClose i) := by
  unfold State.readmitClose
  split
  · exact .inl rfl
  · split
    · exact .inl rfl
    · refine .inr ⟨_, rfl, ?_⟩
      dsimp only
      split
      · exact ⟨.refl _ _, .refl _⟩
      · split
        · exact ⟨((State.dropDeadline_frame _ _ _).mono (by simp)).trans (State.endCtrl_frame _ _ _), State.dropDeadline_bookKept.trans State.endCtrl_bookKept⟩
        · exact ⟨(State.dropDeadline_frame _ _ _).mono (by simp), State.dropDeadline_bookKept⟩

theorem State.readmitClose_bookKept {s : State} {i : Nat} : s.BookKept (s.readmitClose i) := by
  obtain same | ⟨t, rfl, -, kept⟩ := s.readmitClose_cases i
  · rw [same]; exact .refl s
  · exact State.onLane_bookKept.trans kept

theorem State.readmitClose_lane (s : State) (i j : Nat) : ((s.readmitClose i).lane j).state = (s.lane j).state := by
  obtain same | ⟨t, rfl, told, -⟩ := s.readmitClose_cases i
  · rw [same]
  · refine (congrArg Lane.state (told.lane j)).trans ?_
    rcases at'_upd_cases s.lanes i j fun l => { l with raRec := none } with keeps | changed
    · exact congrArg Lane.state keeps
    · exact (congrArg Lane.state changed :)

theorem State.readmitOver_bookKept {s : State} {i : Nat} : s.BookKept (s.readmitOver i) :=
  State.stopCheck_bookKept.trans (State.readmitFail_bookKept.trans State.readmitClose_bookKept)

theorem State.readmitOver_state (s : State) {i : Nat} (hi : i < 19) : ((s.readmitOver i).lane i).state = .fault := by
  rw [State.readmitOver, State.readmitClose_lane, State.readmitFail_lane _ hi]

theorem State.readmitOver_state_ne (s : State) {i j : Nat} (other : j ≠ i) : ((s.readmitOver i).lane j).state = (s.lane j).state := by
  rw [State.readmitOver, State.readmitClose_lane, State.readmitFail_lane_ne _ other, State.stopCheck_lane_ne _ _ other]

/-- Once the re-admission of some lanes has run out, a lane is in READMIT only if it was before and is none of them. -/
theorem State.foldl_readmitOver_state (ls : List Nat) (s : State) {i : Nat} (hi : i < 19) (out : i ∈ ls ∨ (s.lane i).state ≠ .readmit) :
    ((ls.foldl State.readmitOver s).lane i).state ≠ .readmit := by
  induction ls generalizing s with
  | nil => simpa using out
  | cons k rest ih =>
    rw [List.foldl_cons]
    refine ih (s.readmitOver k) ?_
    by_cases this : i = k
    · right
      rw [← this, s.readmitOver_state hi]
      decide
    · rw [s.readmitOver_state_ne this]
      simpa [this] using out

theorem readmitTimeout_faults {s : State} {d : Word × Nat × Nat} {q : QItem} (only : s.jobs.deadlines = [d]) (due : d.2.2 < s.nextPh)
    (item : s.item? d.1 d.2.1 = some q) (typ : q.r.typ = tReAdmit) :
    Answers .readmitTimeout s fun t =>
      t.jobs.deadlines = [] ∧ ∀ i < 19, (s.lane i).raRec = some (d.1, d.2.1) → (t.lane i).state ≠ .readmit := by
  let ls := (List.range 19).filter fun i => ((s.timedOut d).lane i).raRec == some (d.1, d.2.1) && (s.timedOut d).readmitting i
  have run : exec .readmitTimeout s = .next (ls.foldl State.readmitOver ((s.timedOut d).raiseJob 7 31 d.1)) := by
    show execReadmitTimeout s = _
    simp only [execReadmitTimeout, only, List.find?_cons, due, item, typ, decide_true, beq_self_eq_true, Bool.and_self]
    rfl
  have kept : (s.timedOut d).BookKept (ls.foldl State.readmitOver ((s.timedOut d).raiseJob 7 31 d.1)) :=
    State.raiseJob_bookKept.trans (.foldl (fun _ _ => State.readmitOver_bookKept) _ _)
  refine .of_next run ⟨kept.deadlines_eq_nil (State.timedOut_deadlines only), fun i hi mine => State.foldl_readmitOver_state ls _ hi ?_⟩
  rw [((s.timedOut d).raiseJob_frame 7 31 d.1).lane i]
  by_cases readmit : (s.lane i).state = .readmit
  · refine .inl (List.mem_filter.mpr ⟨List.mem_range.mpr hi, ?_⟩)
    have mine : ((s.timedOut d).lane i).raRec = some (d.1, d.2.1) := mine
    have readmit : ((s.timedOut d).lane i).state = .readmit := readmit
    simp [mine, State.readmitting, readmit]
  · exact .inr readmit

theorem timeouts_of_none {s : State} (none : s.jobs.deadlines = []) : exec .fenceTimeout s = .next s ∧ exec .readmitTimeout s = .next s := by
  constructor
  · show execFenceTimeout s = _
    simp only [execFenceTimeout, none, List.find?_nil]
  · show execReadmitTimeout s = _
    simp only [execReadmitTimeout, none, List.find?_nil]

/-! ### The obligation -/

/-- Settles O25: a STOP is only asked for; a timeout that is due ends and is told, and what it is of stops, breaks or is back in FAULT. -/
theorem stopsAndTimeouts : Obligations.StopsAndTimeouts := fun s =>
  ⟨fun p i mask => stop_asks p i mask s, fun _ _ _ => recordTimeout_stops, fun _ _ _ runs only due stopped _ =>
    recordTimeout_of_stopped runs only due stopped, fun _ => recordTimeout_of_not_due, fun _ _ => fenceTimeout_breaks,
    fun _ _ => readmitTimeout_faults, timeouts_of_none⟩

end Sys2Proof.Machine
end

section
/-!
PROOFS. The records of lane 31 act and end (R152): a RESUME on its lanes (R180, R313), LANE_OUT and RE_ADMIT (R154).
-/

namespace Sys2Proof.Machine

/-! ### The front of lane 31 -/

/-- The record at the front of lane 31 is taken. -/
def State.ctrlTaken (s : State) (rest : List QItem) : State := s.onJobs fun j => { j with ctrl := rest }

section
variable {s : State} {q : QItem} {rest : List QItem}

theorem State.ctrlFront_eq (front : s.ctrlIs q rest) {ok : QItem → Bool} (passes : ok q = true) :
    s.ctrlFront ok = (s.ctrlTaken rest).actCtrl q := by
  have ctrl : s.jobs.ctrl = q :: rest := front
  rw [State.ctrlFront, ctrl]
  exact if_pos passes

theorem QItem.resumes_iff {op : Nat} : q.resumes op = true ↔ q.r.typ = tResume ∧ bits (q.r.w 1) 35 32 = op := by
  simp [QItem.resumes]

/-- A record of lane 31 whose effect comes before its end: what it leaves stays but for what the end writes. -/
theorem Answers.of_ctrl {c : Instr} {ok : QItem → Bool} {u : State} {b : Bool} {p : State → Prop} (run : exec c s = .next (s.ctrlFront ok))
    (front : s.ctrlIs q rest) (passes : ok q = true) (acts : (s.ctrlTaken rest).actCtrl q = u.endCtrl q b) (kept : (s.ctrlTaken rest).BookKept u)
    (holds : ∀ t, SameBut [.jobs, .welt, .dev, .ev, .ports] u t → u.BookKept t → t.jobs.ctrl = rest → p t) : Answers c s p := by
  refine .of_next (run.trans (congrArg _ ((State.ctrlFront_eq front passes).trans acts))) ?_
  exact holds _ (u.endCtrl_frame q b) State.endCtrl_bookKept (kept.trans State.endCtrl_bookKept).ctrl

theorem State.actCtrl_of_resume (typ : q.r.typ = tResume) : s.actCtrl q = (s.resumeOp q).endCtrl q true := by
  rw [State.actCtrl, if_neg (by rw [typ]; decide), if_pos typ]

/-- A RESUME at the front of lane 31 acts and ENDS. -/
theorem Answers.of_resume {c : Instr} {op : Nat} {u : State} {p : State → Prop} (run : exec c s = .next (s.ctrlFront fun q => q.resumes op))
    (front : s.ctrlIs q rest) (resumes : q.resumes op = true) (acts : (s.ctrlTaken rest).resumeOp q = u) (kept : (s.ctrlTaken rest).BookKept u)
    (holds : ∀ t, SameBut [.jobs, .welt, .dev, .ev, .ports] u t → t.jobs.ctrl = rest → p t) : Answers c s p := by
  obtain ⟨typ, -⟩ := QItem.resumes_iff.mp resumes
  refine .of_ctrl run front resumes ((State.actCtrl_of_resume typ).trans (by rw [acts])) kept fun t same _ => holds t same

end

/-! ### START_RECOVERED (R180) -/

section
variable {s : State} {q : QItem} {rest : List QItem} {i : Nat}

/-- The jobs of a lane that leaves RECOVERY are told so; where it is out of service they are held, else its records wait again. -/
def State.recoveryTold (s : State) (i : Nat) (out : Bool) : State :=
  let t := (s.lane i).jobs.foldl (fun (s : State) seq =>
    let s := s.raiseJob 6 i seq
    if out then s.onJob seq fun j => { j with heldOn := i :: j.heldOn.filter (· != i) } else s) s
  if out then t else t.showHeld i false

theorem State.recoveryTold_frame (s : State) (i : Nat) (out : Bool) : SameBut [.jobs, .dev, .ev, .ports] s (s.recoveryTold i out) := by
  have jobs (l : List Word) := SameBut.foldl (ps := [.jobs, .dev, .ev, .ports]) (f := fun (s : State) seq =>
    let s := s.raiseJob 6 i seq
    if out then s.onJob seq fun j => { j with heldOn := i :: j.heldOn.filter (· != i) } else s) (fun t _ =>
      ((t.raiseJob_frame _ _ _).mono (by simp)).trans (.ite ((State.onJob_frame _ _ _).mono (by simp)) (.refl _ _))) l s
  exact .ite (jobs _) ((jobs _).trans ((State.showHeld_frame _ _ _).mono (by simp)))

theorem State.recoveryTold_bookKept {s : State} {i : Nat} {out : Bool} : s.BookKept (s.recoveryTold i out) := by
  have jobs (l : List Word) := State.BookKept.foldl (f := fun (s : State) seq =>
    let s := s.raiseJob 6 i seq
    if out then s.onJob seq fun j => { j with heldOn := i :: j.heldOn.filter (· != i) } else s) (fun _ _ =>
      State.raiseJob_bookKept.trans (.ite State.onJob_bookKept (.refl _))) l s
  exact .ite (jobs _) ((jobs _).trans State.showHeld_bookKept)

/-- In a lane where nothing runs, the record at its head that only CONTINUE or SKIP may take up stands as stopped (R179). -/
def Lane.takenUp (lost : QItem → Bool) (l : Lane) : Lane :=
  let m := match l.running, l.queue with
    | none, q :: rest => if lost q && !q.r.gate then { l with running := some q, queue := rest } else l
    | _, _ => l
  { m with wait := .none, after := .idle }

/-- A lane leaves RECOVERY: for FAULT or OUT, for STOPPED, or to serve (R180). -/
def Lane.recovered (out : Bool) (after : LaneState) (lost : QItem → Bool) (l : Lane) : Lane :=
  if out then { l.takenUp lost with state := after }
  else if (l.takenUp lost).running.isSome || after == .stopped then { l.takenUp lost with state := .stopped }
  else { l.takenUp lost with state := .idle }.norm

theorem Lane.norm_of_idle (l : Lane) : ({ l with state := .idle } : Lane).norm.inService = true := Lane.norm_inService _ rfl

theorem Lane.recovered_state (out : Bool) {after : LaneState} (lost : QItem → Bool) (l : Lane) (ha : out = true → after ≠ .recovery) :
    (l.recovered out after lost).state ≠ .recovery := by
  rw [Lane.recovered]
  split
  · next h => exact ha h
  · split
    · exact LaneState.noConfusion
    · intro recovers
      have serves := (l.takenUp lost).norm_of_idle
      simp [Lane.inService, recovers] at serves

theorem State.leaveRecovery_eq (recovers : (s.lane i).state = .recovery) :
    let out := (s.lane i).after == .fault || (s.lane i).after == .out
    ∃ lost, s.leaveRecovery i = (s.recoveryTold i out).onLane i (Lane.recovered out ((s.recoveryTold i out).lane i).after lost) :=
  ⟨_, if_neg (not_not.mpr recovers)⟩

/-- The one lane an operation works on, its mask naming no other. -/
theorem State.resumeOp_of_lanes {op : Nat} {k : State → Nat → State} (resumes : q.resumes op = true) (mask : maskList 19 q.r.mask = [i])
    (acts : op = 1 ∧ k = State.leaveRecovery ∨ op = 2 ∧ k = State.continueOn ∨ op = 3 ∧ k = State.skipLane ∨
      op = 6 ∧ k = fun s => s.cancelHeld (q.r.w 2)) : s.resumeOp q = k s i := by
  obtain ⟨-, code⟩ := QItem.resumes_iff.mp resumes
  rw [State.resumeOp, code, mask]
  rcases acts with ⟨rfl, rfl⟩ | ⟨rfl, rfl⟩ | ⟨rfl, rfl⟩ | ⟨rfl, rfl⟩ <;> rfl

theorem startRecovered_leaves (hi : i < 19) (front : s.ctrlIs q rest) (mask : maskList 19 q.r.mask = [i]) (resumes : q.resumes 1 = true)
    (recovers : (s.lane i).state = .recovery) :
    Answers .startRecovered s fun t =>
      (t.lane i).state ≠ .recovery ∧ (∀ k, k ≠ i → t.lane k = s.lane k) ∧ t.jobs.ctrl = rest ∧ t.axes = s.axes := by
  have recovers : ((s.ctrlTaken rest).lane i).state = .recovery := recovers
  obtain ⟨lost, left⟩ := State.leaveRecovery_eq recovers
  have told := (s.ctrlTaken rest).recoveryTold_frame i (((s.ctrlTaken rest).lane i).after == .fault || ((s.ctrlTaken rest).lane i).after == .out)
  refine .of_resume rfl front resumes ((State.resumeOp_of_lanes resumes mask (.inl ⟨rfl, rfl⟩)).trans left)
    (State.recoveryTold_bookKept.trans State.onLane_bookKept) fun t same ctrl => ⟨?_, fun k other => ?_, ctrl, ?_⟩
  · rw [same.lane i, State.lane_onLane _ i _ hi]
    refine Lane.recovered_state _ _ _ fun out => ?_
    rw [told.lane i]
    rcases Bool.or_eq_true_iff.mp out with fault | out
    · rw [eq_of_beq fault]; decide
    · rw [eq_of_beq out]; decide
  · rw [same.lane k, State.lane_onLane_ne _ i k _ other, told.lane k]
    rfl
  · exact (same .axes (by simp)).trans (told .axes (by simp))

/-! ### CONTINUE (R152, R313) -/

/-- A stopped lane at rest that CONTINUE may act on: nothing holds it, it stopped in an earlier stitch, and not in its check. -/
structure State.MayContinue (s : State) (i : Nat) : Prop where
  stopped : (s.lane i).state = .stopped
  rests : (s.lane i).stopping = false
  free : s.laneHeld i = false
  cool : s.ntcHolds i = false
  noCheck : (s.lane i).raStep ≠ 5
  earlier : (s.lane i).stopStitch ≠ s.stitch.n + 1

theorem State.MayContinue.taken (h : s.MayContinue i) : (s.ctrlTaken rest).MayContinue i :=
  ⟨h.stopped, h.rests, h.free, h.cool, h.noCheck, h.earlier⟩

theorem State.MayContinue.continueOn (h : s.MayContinue i) : s.continueOn i = (s.continueLane i).getD s := by
  rw [State.continueOn, if_neg h.earlier, if_neg fun check => h.noCheck check.2.1]

/-- The stopped lane with nothing left to run serves again. -/
def Lane.resumed (l : Lane) : Lane := { l with state := .idle, wait := .none, stopCause := 1 }.norm

theorem State.MayContinue.continueOn_of_none (h : s.MayContinue i) (runs : (s.lane i).running = none) (tail : (s.lane i).tail = []) :
    s.continueOn i = s.onLane i Lane.resumed := by
  rw [h.continueOn]
  simp only [State.continueLane, h.stopped, h.rests, h.free, h.cool, runs, tail, ne_eq, not_true_eq_false, Bool.false_eq_true, or_self, if_false,
    List.isEmpty_nil, Bool.not_true, false_and, and_false]
  rfl

theorem Lane.resumed_state (l : Lane) (runs : l.running = none) (tail : l.tail = []) : l.resumed.state = .idle ∨ l.resumed.state = .waiting := by
  simp only [Lane.resumed, Lane.norm, runs, tail, Option.isSome_none, List.isEmpty_nil, Bool.not_true, Bool.or_self, Bool.false_eq_true, if_false]
  split
  · exact .inl rfl
  · exact .inr rfl

theorem Lane.resumed_eq (l : Lane) : l.resumed = { l with state := l.resumed.state, wait := l.resumed.wait, stopCause := 1 } := Lane.norm_eq _

theorem Lane.resumed_inService (l : Lane) : l.resumed.inService = true := Lane.norm_inService _ rfl

theorem continue_of_none (hi : i < 19) (front : s.ctrlIs q rest) (mask : maskList 19 q.r.mask = [i]) (resumes : q.resumes 2 = true)
    (may : s.MayContinue i) (runs : (s.lane i).running = none) (tail : (s.lane i).tail = []) :
    Answers .continue' s fun t =>
      ((t.lane i).state = .idle ∨ (t.lane i).state = .waiting) ∧ (t.lane i).queue = (s.lane i).queue ∧
        (∀ k, k ≠ i → t.lane k = s.lane k) ∧ t.jobs.ctrl = rest ∧ t.axes = s.axes := by
  refine .of_resume rfl front resumes
    ((State.resumeOp_of_lanes resumes mask (.inr (.inl ⟨rfl, rfl⟩))).trans (may.taken.continueOn_of_none runs tail))
    State.onLane_bookKept fun t same ctrl => ?_
  have lane : t.lane i = (s.lane i).resumed := (same.lane i).trans ((s.ctrlTaken rest).lane_onLane i _ hi)
  refine ⟨lane ▸ (s.lane i).resumed_state runs tail, ?_, fun k other => ?_, ctrl, same .axes (by simp)⟩
  · rw [lane, Lane.resumed_eq]
  · exact (same.lane k).trans ((s.ctrlTaken rest).lane_onLane_ne i k _ other)

/-- The lane runs its stopped record again. -/
def State.runsAgain (s : State) (i : Nat) : State := s.onLane i fun l => { l with state := .running, wait := .none, stopCause := 1 }

/-- A stopped MOVE that has a way to go goes on to the target it had (R313). -/
theorem State.MayContinue.continueOn_of_move {n : Fin 12} {r : QItem} (h : s.MayContinue (n + 2)) (runs : (s.lane (n + 2)).running = some r)
    (typ : r.r.typ = tMove) (gate : s.gateOpen r = false) (kind : s.cfg (.ax n) F.ax_KIND = 1) (pos : (s.ax n).posOk = true)
    (left : (s.ax n).remd.natAbs < 2 ^ 34) (far : ((s.ax n).tgt - (s.ax n).pos).natAbs < 2 ^ 34)
    (free : s.blocked n ((s.ax n).tgt - (s.ax n).pos < 0) none = false) :
    ∃ p, s.continueOn (n + 2) =
      ((s.runsAgain (n + 2)).axStart n .move (s.ax n).tgt p).onRec r.job r.idx fun r => { r with outcome := .running } := by
  let run := s.runsAgain (n + 2)
  have moves (p : Prof) : run.moveToward n (s.ax n).tgt p = run.axStart n .move (s.ax n).tgt p := run.moveToward_of_free n _ p far free
  have kind : ¬ run.cfg (.ax n) F.ax_KIND ≠ 1 := not_not.mpr kind
  have left : ¬ 2 ^ 34 ≤ (run.ax n).remd.natAbs := Nat.not_le.mpr left
  have pos : ¬ (!(run.ax n).posOk) = true := by simp [show (run.ax n).posOk = true from pos]
  have starts : ∃ p, run.contRec (n + 2) r = some (run.axStart n .move (s.ax n).tgt p) := by
    rw [State.contRec, if_neg (by omega), if_pos (by omega), State.contAxis, Nat.add_sub_cancel, if_pos typ, if_neg pos, if_neg kind, if_neg left]
    exact ⟨_, congrArg some (moves _)⟩
  obtain ⟨p, starts⟩ := starts
  refine ⟨p, ?_⟩
  have running : ((run.axStart n .move (s.ax n).tgt p).lane (n + 2)).state = .running := by
    rw [(run.axStart_frame n _ _ p).lane (n + 2)]
    exact congrArg Lane.state (s.lane_onLane (n + 2) _ (by omega))
  have cont : s.continueLane (n + 2) = some ((run.axStart n .move (s.ax n).tgt p).onRec r.job r.idx fun r => { r with outcome := .running }) := by
    have starts : (s.onLane (n + 2) fun l => { l with state := .running, wait := .none, stopCause := 1 }).contRec (n + 2) r = _ := starts
    simp only [State.continueLane, h.stopped, h.rests, h.free, h.cool, runs, gate, starts, running, ne_eq, not_true_eq_false, Bool.false_eq_true,
      or_self, Bool.or_self, if_false, if_true]
  rw [h.continueOn, cont]
  rfl

theorem continue_moves {n : Fin 12} {r : QItem} (front : s.ctrlIs q rest) (mask : maskList 19 q.r.mask = [n.val + 2]) (resumes : q.resumes 2 = true)
    (may : s.MayContinue (n + 2)) (runs : (s.lane (n + 2)).running = some r) (typ : r.r.typ = tMove) (gate : s.gateOpen r = false)
    (kind : s.cfg (.ax n) F.ax_KIND = 1) (pos : (s.ax n).posOk = true) (left : (s.ax n).remd.natAbs < 2 ^ 34)
    (far : ((s.ax n).tgt - (s.ax n).pos).natAbs < 2 ^ 34) (free : s.blocked n ((s.ax n).tgt - (s.ax n).pos < 0) none = false) :
    Answers .continue' s fun t =>
      (t.lane (n + 2)).state = .running ∧ (t.ax n).mode = .move ∧ (t.ax n).tgt = (s.ax n).tgt ∧ (t.ax n).pos = (s.ax n).pos ∧ t.jobs.ctrl = rest := by
  obtain ⟨p, goes⟩ := State.MayContinue.continueOn_of_move (s := s.ctrlTaken rest) may.taken runs typ gate kind pos left far free
  have start := ((s.ctrlTaken rest).runsAgain (n + 2)).axStart_frame n .move ((s.ctrlTaken rest).ax n).tgt p
  refine .of_resume rfl front resumes ((State.resumeOp_of_lanes resumes mask (.inr (.inl ⟨rfl, rfl⟩))).trans goes)
    ((State.onLane_bookKept.trans (.of_sameBut start)).trans State.onRec_bookKept) fun t same ctrl => ?_
  have lane : (t.lane (n + 2)).state = .running :=
    (congrArg Lane.state ((same.lane _).trans ((State.onRec_frame _ _ _ _).lane _))).trans <|
      (congrArg Lane.state (start.lane _)).trans (congrArg Lane.state ((s.ctrlTaken rest).lane_onLane (n + 2) _ (by omega)))
  have axis : t.ax n = (((s.ctrlTaken rest).runsAgain (n + 2)).axStart n .move ((s.ctrlTaken rest).ax n).tgt p).ax n :=
    (same.ax n).trans ((State.onRec_frame _ _ _ _).ax n)
  rw [State.axStart, State.ax_onAx_fin] at axis
  exact ⟨lane, by rw [axis], by rw [axis]; rfl, by rw [axis]; rfl, ctrl⟩

/-! ### SKIP (R152) -/

theorem State.skipLane_of_running {r : QItem} (stopped : (s.lane i).state = .stopped) (rests : (s.lane i).stopping = false)
    (earlier : (s.lane i).stopStitch ≠ s.stitch.n + 1) (noCheck : (s.lane i).raStep ≠ 5) (runs : (s.lane i).running = some r)
    (gate : s.gateOpen r = false) : s.skipLane i = ((s.dropWork i).cancelRecord i r).onLane i Lane.resumed := by
  simp only [State.skipLane, stopped, rests, earlier, noCheck, runs, gate, ne_eq, not_true_eq_false, Bool.false_eq_true, or_self, if_false]
  rfl

theorem skip_drops {r : QItem} (hi : i < 19) (front : s.ctrlIs q rest) (mask : maskList 19 q.r.mask = [i]) (resumes : q.resumes 3 = true)
    (stopped : (s.lane i).state = .stopped) (rests : (s.lane i).stopping = false) (earlier : (s.lane i).stopStitch ≠ s.stitch.n + 1)
    (noCheck : (s.lane i).raStep ≠ 5) (runs : (s.lane i).running = some r) (gate : s.gateOpen r = false) :
    Answers .skip s fun t =>
      (t.lane i).running = none ∧ (t.lane i).stopCause = 1 ∧ (t.lane i).state ≠ .stopped ∧ t.jobs.ctrl = rest := by
  have skips := State.skipLane_of_running (s := s.ctrlTaken rest) stopped rests earlier noCheck runs gate
  refine .of_resume rfl front resumes ((State.resumeOp_of_lanes resumes mask (.inr (.inr (.inl ⟨rfl, rfl⟩)))).trans skips)
    ((State.dropWork_bookKept.trans State.cancelRecord_bookKept).trans State.onLane_bookKept) fun t same ctrl => ?_
  have lane : t.lane i = ((((s.ctrlTaken rest).dropWork i).cancelRecord i r).lane i).resumed := (same.lane i).trans (State.lane_onLane _ i _ hi)
  have worked : (((s.ctrlTaken rest).dropWork i).lane i).running = some r := (congrArg Lane.running (State.dropWork_frame _ i |>.lane i)).trans runs
  obtain ⟨dropped, -, -⟩ := ((s.ctrlTaken rest).dropWork i).dropItem_lane i r hi
  rw [if_pos worked, ← (State.cancelRecord_told _ i r).lane i] at dropped
  refine ⟨?_, ?_, fun state => ?_, ctrl⟩
  · rw [lane, Lane.resumed_eq]
    exact dropped
  · rw [lane, Lane.resumed_eq]
  · have serves := Lane.resumed_inService ((((s.ctrlTaken rest).dropWork i).cancelRecord i r).lane i)
    rw [← lane, Lane.inService, state] at serves
    cases serves

/-! ### CANCEL_HELD (R152) -/

theorem State.cancelRecord_queue (s : State) (hi : i < 19) (r : QItem) :
    ((s.cancelRecord i r).lane i).queue = (s.lane i).queue.filter (· != r) := by
  obtain ⟨-, queue, -⟩ := s.dropItem_lane i r hi
  rw [(s.cancelRecord_told i r).lane i, queue]

/-- The records that are cancelled wait in their lane no more, and none comes to wait. -/
theorem State.foldl_cancelRecord_queue (s : State) (hi : i < 19) (rs : List QItem) :
    ((rs.foldl (fun (s : State) q => s.cancelRecord i q) s).lane i).queue = (s.lane i).queue.filter fun q => !rs.contains q := by
  induction rs generalizing s with
  | nil => simp
  | cons r rest ih =>
    rw [List.foldl_cons, ih, State.cancelRecord_queue s hi, List.filter_filter]
    congr 1
    funext q
    simp [Bool.and_comm, bne, Bool.beq_eq_decide_eq]

/-- The record of a CANCEL_HELD takes out of the lane: those of its job, or all. -/
def QItem.cancelled (seq : Word) (q : QItem) : Bool := q.r.lane < 19 && (seq == 0 || q.job == seq)

/-- The released records of a lane out of service that are at rest and have no open gate are cancelled. -/
def State.heldDropped (s : State) (seq : Word) (i : Nat) : State :=
  ((s.lane i).running.toList ++ (s.lane i).tail).foldl (fun (t : State) q =>
    if q.cancelled seq && !(s.lane i).stopping && !t.gateOpen q then (t.dropWork i).cancelRecord i q else t) s

theorem State.heldDropped_queue (s : State) (hi : i < 19) (seq : Word) : ((s.heldDropped seq i).lane i).queue ⊆ (s.lane i).queue := by
  suffices all : ∀ (stops : Bool) (rs : List QItem) (t : State), ((rs.foldl (fun (t : State) q =>
      if q.cancelled seq && !stops && !t.gateOpen q then (t.dropWork i).cancelRecord i q else t) t).lane i).queue ⊆ (t.lane i).queue from
    all _ _ _
  intro stops rs t
  induction rs generalizing t with
  | nil => exact List.Subset.refl _
  | cons r rest ih =>
    refine List.Subset.trans (ih _) ?_
    dsimp only
    split
    · rw [State.cancelRecord_queue _ hi, (t.dropWork_frame i).lane i]
      exact List.filter_subset_self _
    · exact List.Subset.refl _

theorem State.heldDropped_bookKept {s : State} {seq : Word} : s.BookKept (s.heldDropped seq i) :=
  .foldl (fun _ _ => .ite (State.dropWork_bookKept.trans State.cancelRecord_bookKept) (.refl _)) _ s

theorem State.cancelHeld_of_out (out : s.outOfService i = true) (seq : Word) :
    ∃ f : Jobs → Jobs, s.cancelHeld seq i =
      (((s.lane i).queue.filter (QItem.cancelled seq)).foldl (fun (s : State) q => s.cancelRecord i q) (s.heldDropped seq i)).onJobs f ∧
        ∀ j, (f j).ctrl = j.ctrl ∧ (f j).deadlines = j.deadlines ∧ (f j).lastSeq = j.lastSeq ∧ (f j).decided = j.decided := by
  rw [State.cancelHeld, if_neg (by simp [out])]
  exact ⟨_, rfl, fun _ => ⟨rfl, rfl, rfl, rfl⟩⟩

theorem cancelHeld_empties (hi : i < 19) (front : s.ctrlIs q rest) (mask : maskList 19 q.r.mask = [i]) (resumes : q.resumes 6 = true)
    (out : s.outOfService i = true) :
    Answers .cancelHeld s fun t =>
      (∀ r ∈ (t.lane i).queue, ¬ (r.r.lane < 19 ∧ (q.r.w 2 = 0 ∨ r.job = q.r.w 2))) ∧ t.jobs.ctrl = rest := by
  obtain ⟨f, cancels, keeps⟩ := State.cancelHeld_of_out (s := s.ctrlTaken rest) out (q.r.w 2)
  have jobs (t : State) : t.BookKept (t.onJobs f) := by
    obtain ⟨ctrl, deadlines, lastSeq, decided⟩ := keeps t.jobs
    exact ⟨⟨lastSeq, decided, rfl, fun _ _ => id⟩, ctrl, deadlines ▸ List.Subset.refl _⟩
  refine .of_resume rfl front resumes ((State.resumeOp_of_lanes resumes mask (.inr (.inr (.inr ⟨rfl, rfl⟩)))).trans cancels)
    ((State.heldDropped_bookKept.trans (.foldl (fun _ _ => State.cancelRecord_bookKept) _ _)).trans (jobs _)) fun t same ctrl => ⟨fun r mem => ?_, ctrl⟩
  rw [(same.lane i).trans ((State.onJobs_frame _ f).lane i), State.foldl_cancelRecord_queue _ hi, List.mem_filter] at mem
  obtain ⟨waits, kept⟩ := mem
  have waited : r ∈ ((s.ctrlTaken rest).lane i).queue := State.heldDropped_queue _ hi _ waits
  have other : QItem.cancelled (q.r.w 2) r ≠ true := fun hit => by simp [List.mem_filter, waited, hit] at kept
  simpa [QItem.cancelled] using other

/-! ### LANE_OUT and RE_ADMIT (R154) -/

theorem State.outOfService_eq_false : s.outOfService i = false ↔ (s.lane i).state ≠ .fault ∧ (s.lane i).state ≠ .out := by
  simp [State.outOfService]

theorem State.leaveService_raStep (s : State) (hi : i < 19) (st : LaneState) (code : Nat) : ((s.leaveService i st code).lane i).raStep = 0 := by
  have told : SameBut [.jobs, .welt, .dev, .ev, .ports]
      ((s.beginStop i st).onLane i fun l => { l with state := st, wait := .none, raStep := 0 }) (s.leaveService i st code) :=
    State.faultTold_frame _ _ _ _ _
  rw [told.lane i, State.lane_onLane _ i _ hi]

theorem laneOut_goesOut (hi : i < 19) (front : s.ctrlIs q rest) (mask : maskList 19 q.r.mask = [i]) (typ : q.r.typ = tLaneOut)
    (serves : s.outOfService i = false) :
    Answers .laneOut s fun t => (t.lane i).state = .out ∧ (t.lane i).raStep = 0 ∧ t.jobs.ctrl = rest := by
  obtain ⟨fault, out⟩ := State.outOfService_eq_false.mp serves
  have goes : (s.ctrlTaken rest).laneGoesOut i = (s.ctrlTaken rest).leaveService i .out 2 := if_neg (not_or.mpr ⟨out, fault⟩)
  have acts : (s.ctrlTaken rest).actCtrl q = ((s.ctrlTaken rest).leaveService i .out 2).endCtrl q true := by
    rw [State.actCtrl, if_neg (by rw [typ]; decide), if_neg (by rw [typ]; decide), if_pos typ, mask, ← goes]
    rfl
  refine .of_ctrl rfl front (beq_iff_eq.mpr typ) acts State.leaveService_bookKept fun t same _ ctrl => ⟨?_, ?_, ctrl⟩
  · rw [same.lane i]
    exact ((s.ctrlTaken rest).leaveService_lane i .out 2 hi).1
  · rw [same.lane i]
    exact (s.ctrlTaken rest).leaveService_raStep hi .out 2

/-- The re-admission of a lane begins. -/
def Lane.readmitted (q : QItem) (l : Lane) : Lane := { l with state := .readmit, wait := .none, raStep := 1, raRec := some (q.job, q.idx) }

/-- The lane alone is re-admitted: it waits for no bound axis, and its bank is sound. -/
theorem State.reAdmit_of_lane (mask : maskList 19 q.r.mask = [i]) (out : s.outOfService i = true) (sound : s.headRefused i = false)
    (axes : i < 2 → ∀ a ∈ s.boundAxes i, s.outOfService a = false) :
    ∃ args, s.reAdmit q = (s.onLane i (Lane.readmitted q)).raise 4 3 i args := by
  have down : (if i < 2 then (s.boundAxes i).filter s.outOfService else []) = [] := by
    split
    · next head => exact List.filter_eq_nil_iff.mpr fun a mem => by simp [axes head a mem]
    · rfl
  have told (args : List Word) : ((s.onLane i (Lane.readmitted q)).raise 4 3 i args).headRefused i = s.headRefused i := by
    rw [State.headRefused, (State.raise_noted _ _ _ _ _).dev]
    rfl
  rw [State.reAdmit, mask, List.any_cons, out, Bool.true_or, if_pos rfl, List.foldl_cons, List.foldl_nil, State.reAdmitLane, if_neg (by simp [out])]
  refine ⟨[BitVec.ofNat 36 ((s.onLane i (Lane.readmitted q)).lane i).epoch.toNat], ?_⟩
  simp only [down, List.all_nil, Bool.true_and, if_true]
  exact if_pos ((congrArg not ((told _).trans sound)).trans rfl)

theorem reAdmit_begins (hi : i < 19) (front : s.ctrlIs q rest) (mask : maskList 19 q.r.mask = [i]) (typ : q.r.typ = tReAdmit)
    (out : s.outOfService i = true) (sound : s.headRefused i = false) (axes : i < 2 → ∀ a ∈ s.boundAxes i, s.outOfService a = false) :
    Answers .reAdmit s fun t =>
      (t.lane i).state = .readmit ∧ (t.lane i).raStep = 1 ∧ (t.lane i).raRec = some (q.job, q.idx) ∧
        (∀ k, k ≠ i → t.lane k = s.lane k) ∧ t.jobs.ctrl = rest := by
  obtain ⟨args, begins⟩ := State.reAdmit_of_lane (s := s.ctrlTaken rest) mask out sound axes
  have acts : (s.ctrlTaken rest).actCtrl q = (s.ctrlTaken rest).reAdmit q := by
    rw [State.actCtrl, if_neg (by rw [typ]; decide), if_neg (by rw [typ]; decide), if_neg (by rw [typ]; decide)]
  have told := ((s.ctrlTaken rest).onLane i (Lane.readmitted q)).raise_frame 4 3 i args
  have lane := (told.lane i).trans ((s.ctrlTaken rest).lane_onLane i (Lane.readmitted q) hi)
  have taken := State.ctrlFront_eq front (ok := fun q => q.r.typ == tReAdmit) (beq_iff_eq.mpr typ)
  refine .of_next (congrArg Host.Outcome.next (taken.trans (acts.trans begins)))
    ⟨by rw [lane]; rfl, by rw [lane]; rfl, by rw [lane]; rfl, fun k other => ?_, congrArg Jobs.ctrl (told .jobs (by simp))⟩
  exact (told.lane k).trans ((s.ctrlTaken rest).lane_onLane_ne i k _ other)

end

/-! ### The obligation -/

/-- Settles O28: a record of lane 31 acts on its one lane from the state in which it has left the queue, and its end leaves the lanes. -/
theorem lanesAreResumed : Obligations.LanesAreResumed := by
  refine ⟨fun q rest i s front mask => ⟨startRecovered_leaves i.isLt front mask, fun resumes stopped rests held cool runs tail check earlier =>
    continue_of_none i.isLt front mask resumes ⟨stopped, rests, held, cool, check, earlier⟩ runs tail, ?_, fun r resumes stopped rests earlier check =>
    skip_drops i.isLt front mask resumes stopped rests earlier check, cancelHeld_empties i.isLt front mask⟩,
    fun q rest i s front mask => ⟨laneOut_goesOut i.isLt front mask, reAdmit_begins i.isLt front mask⟩⟩
  intro n r lane resumes stopped rests held cool check earlier
  rw [lane] at mask stopped rests held cool check earlier ⊢
  exact continue_moves front mask resumes ⟨stopped, rests, held, cool, check, earlier⟩

end Sys2Proof.Machine
end

section
/-!
PROOFS. Fences are proceeded, cancelled or done (R152, R153); a gate in doubt is resolved (R175).
-/

namespace Sys2Proof.Machine

/-! ### A fence leaves the lanes -/

/-- The record at index `idx` of job `seq` waits in no lane. -/
def State.StandsNowhere (s : State) (seq : Word) (idx : Nat) : Prop := ∀ k < 19, ∀ r ∈ (s.lane k).queue, ¬ (r.job = seq ∧ r.idx = idx)

theorem State.StandsNowhere.of_sameBut {ps : List Part} {s t : State} {seq : Word} {idx : Nat} (gone : s.StandsNowhere seq idx) (h : SameBut ps s t)
    (hl : Part.lanes ∉ ps := by simp) : t.StandsNowhere seq idx := by
  intro k hk r mem
  rw [h.lane k hl] at mem
  exact gone k hk r mem

theorem State.dropStanding_standsNowhere (s : State) (seq : Word) (idx : Nat) : (s.dropStanding seq idx).StandsNowhere seq idx := by
  intro k hk r mem ⟨job, index⟩
  rw [State.lane, State.dropStanding, at'_map _ _ _ hk, Lane.norm_eq] at mem
  simp [job, index] at mem

theorem State.fenceOver_standsNowhere (s : State) (seq : Word) (idx : Nat) (st : FenceState) (code arg : Nat) :
    (s.fenceOver seq idx st code arg).StandsNowhere seq idx :=
  (State.dropStanding_standsNowhere _ seq idx).of_sameBut (State.onRec_frame _ _ _ _)

section
variable {s : State} {q : QItem} {rest : List QItem} {j : Job}

/-! ### FENCE_PROCEED and FENCE_CANCEL (R152, R153) -/

/-- The records behind a broken fence go on: whatever is cancelled first, the fence is over. -/
theorem State.fenceResume_eq {seq : Word} {idx : Nat} (cancel : Bool) (job : s.job? seq = some j) (broken : (idx, FenceState.broken) ∈ j.fences) :
    ∃ u arg, s.fenceResume seq idx cancel = (u.fenceOver seq idx .resumed 10 arg).checkDone seq ∧ s.BookKept u := by
  have stands : j.fences.contains (idx, FenceState.broken) = true := List.contains_iff_mem.mpr broken
  rw [State.fenceResume, job]
  simp only [stands, Bool.not_true, Bool.false_eq_true, if_false]
  exact ⟨_, _, rfl, .ite (.foldl (fun _ _ => .foldl (fun _ _ => State.cancelWaiting_bookKept) _ _) _ s) (.refl s)⟩

/-- A FENCE_PROCEED or FENCE_CANCEL takes the broken fence that it names out of the lanes. -/
theorem fenceResume_clears {c : Instr} {op : Nat} {cancel : Bool} (run : exec c s = .next (s.ctrlFront fun q => q.resumes op))
    (front : s.ctrlIs q rest) (job : s.job? (q.r.w 2) = some j) (broken : (bits (q.r.w 1) 31 20, FenceState.broken) ∈ j.fences)
    (resumes : q.resumes op = true)
    (acts : (s.ctrlTaken rest).resumeOp q = (s.ctrlTaken rest).fenceResume (q.r.w 2) (bits (q.r.w 1) 31 20) cancel) :
    Answers c s fun t =>
      (∀ k < 19, ∀ r ∈ (t.lane k).queue, ¬ (r.job = q.r.w 2 ∧ r.idx = bits (q.r.w 1) 31 20)) ∧ t.jobs.ctrl = rest := by
  obtain ⟨u, arg, resumed, kept⟩ := State.fenceResume_eq (s := s.ctrlTaken rest) cancel job broken
  refine .of_resume run front resumes (acts.trans resumed) (kept.trans (State.fenceOver_bookKept.trans State.checkDone_bookKept))
    fun t same ctrl => ⟨?_, ctrl⟩
  exact ((State.fenceOver_standsNowhere _ _ _ _ _ _).of_sameBut (State.checkDone_frame _ _)).of_sameBut same

theorem fenceProceed_clears (front : s.ctrlIs q rest) (job : s.job? (q.r.w 2) = some j)
    (broken : (bits (q.r.w 1) 31 20, FenceState.broken) ∈ j.fences) (resumes : q.resumes 4 = true) :
    Answers .fenceProceed s fun t =>
      (∀ k < 19, ∀ r ∈ (t.lane k).queue, ¬ (r.job = q.r.w 2 ∧ r.idx = bits (q.r.w 1) 31 20)) ∧ t.jobs.ctrl = rest := by
  refine fenceResume_clears (cancel := false) rfl front job broken resumes ?_
  rw [State.resumeOp, (QItem.resumes_iff.mp resumes).2]
  rfl

theorem fenceCancel_clears (front : s.ctrlIs q rest) (job : s.job? (q.r.w 2) = some j)
    (broken : (bits (q.r.w 1) 31 20, FenceState.broken) ∈ j.fences) (resumes : q.resumes 5 = true) :
    Answers .fenceCancel s fun t =>
      (∀ k < 19, ∀ r ∈ (t.lane k).queue, ¬ (r.job = q.r.w 2 ∧ r.idx = bits (q.r.w 1) 31 20)) ∧ t.jobs.ctrl = rest := by
  refine fenceResume_clears (cancel := true) rfl front job broken resumes ?_
  rw [State.resumeOp, (QItem.resumes_iff.mp resumes).2]
  rfl

/-! ### A fence that every lane has reached (R153) -/

theorem State.fenceOver_brokenCount (s : State) (seq : Word) (idx : Nat) (st : FenceState) (code arg : Nat) :
    (s.fenceOver seq idx st code arg).jobs.brokenCount = s.jobs.brokenCount :=
  (congrArg Jobs.brokenCount (State.queueMark_frame (s.setFence seq idx st) code idx arg seq .jobs (by simp)) :)

theorem State.checkDone_brokenCount (s : State) (seq : Word) : (s.checkDone seq).jobs.brokenCount = s.jobs.brokenCount := by
  rw [State.checkDone]
  split
  · rfl
  · split
    · have told := ((s.queueMark_frame 6 0 0 seq).mono (by simp)).trans ((State.raiseJob_frame _ 3 31 seq).mono (qs := [.welt, .dev, .ev, .ports]) (by simp))
      exact (congrArg Jobs.brokenCount (told .jobs (by simp)) :)
    · rfl

/-- A LANE fence without a timeout is done once it stands at the head of every lane it names, none of them in RECOVERY. -/
theorem State.evalFence_of_reached {seq : Word} {k : Nat} {r : Rec} (tmo : r.tmo = false) (kind : bits (r.w 1) 35 34 = 1)
    (reached : ∀ i ∈ maskList 19 r.mask, (s.lane i).state ≠ .recovery ∧ s.fenceAt seq k i = true) :
    s.evalFence seq k r = ((s.fenceOver seq k .satisfied 8 0).raise 3 1 31 [seq]).checkDone seq := by
  have serve : ¬ ((maskList 19 r.mask).any fun i => (s.lane i).state == .recovery) = true := by
    simp only [List.any_eq_true, beq_iff_eq, not_exists, not_and]
    exact fun i mem => (reached i mem).1
  have clock : s.fenceClock seq k r = s := by rw [State.fenceClock, tmo]; rfl
  have stands : (maskList 19 r.mask).all (s.fenceAt seq k) = true := List.all_eq_true.mpr fun i mem => (reached i mem).2
  rw [State.evalFence, if_neg serve, clock]
  simp only [stands, kind, Bool.not_true, Bool.false_eq_true, if_false, Nat.reduceEqDiff, false_and, or_self]

theorem State.fences_of_one {k : Nat} {r : Rec} (only : s.jobs.table = [j]) (waits : j.fences = [(k, .waiting)]) (record : j.recs[k]? = some r) :
    s.fences = s.evalFence j.seq k r := by
  have job : s.job? j.seq = some j := by simp [State.job?, only]
  simp only [State.fences, only, waits, List.foldl_cons, List.foldl_nil, job, record, List.contains_cons, beq_self_eq_true, Bool.true_or, if_true]

theorem fence_done {k : Nat} {r : Rec} (only : s.jobs.table = [j]) (waits : j.fences = [(k, .waiting)]) (record : j.recs[k]? = some r)
    (tmo : r.tmo = false) (kind : bits (r.w 1) 35 34 = 1)
    (reached : ∀ i ∈ maskList 19 r.mask, (s.lane i).state ≠ .recovery ∧ s.fenceAt j.seq k i = true) :
    Answers .fence s fun t =>
      (∀ i < 19, ∀ x ∈ (t.lane i).queue, ¬ (x.job = j.seq ∧ x.idx = k)) ∧ t.jobs.brokenCount = s.jobs.brokenCount := by
  have done : s.fences = _ := (State.fences_of_one only waits record).trans (State.evalFence_of_reached tmo kind reached)
  refine .of_next (congrArg Host.Outcome.next done) ⟨?_, ?_⟩
  · exact ((s.fenceOver_standsNowhere _ _ _ _ _).of_sameBut (State.raise_frame _ _ _ _ _)).of_sameBut (State.checkDone_frame _ _)
  · rw [State.checkDone_brokenCount, State.raise_frame _ _ _ _ _ .jobs (by simp), State.fenceOver_brokenCount]

theorem fence_of_no_job (none : s.jobs.table = []) : exec .fence s = .next s := by
  show Host.Outcome.next s.fences = _
  rw [State.fences, none]
  rfl

/-! ### RESOLVE (R175) -/

theorem State.flushMarks_gates (s : State) : s.flushMarks.welt.gates = s.welt.gates := by
  have entries (es : List (Word × List Mark)) (t : State) :
      (es.foldl (fun s e => s.writeEntry 0x3 (s.portOf e.1) e.1 (e.2.map Mark.word) (.marks e.2)) t).welt.gates = t.welt.gates := by
    induction es generalizing t with
    | nil => rfl
    | cons e rest ih => exact ih _
  exact entries _ s

theorem State.queueMark_gates (s : State) (code idx arg : Nat) (job : Word) : (s.queueMark code idx arg job).welt.gates = s.welt.gates := by
  rw [State.queueMark]
  split
  · exact State.flushMarks_gates _
  · rfl

theorem State.checkDone_gates (s : State) (seq : Word) : (s.checkDone seq).welt.gates = s.welt.gates := by
  rw [State.checkDone]
  split
  · rfl
  · split
    · have told := State.raiseJob_frame (s.queueMark 6 0 0 seq) 3 31 seq .welt (by simp)
      exact (congrArg Welt.gates told).trans (s.queueMark_gates 6 0 0 seq)
    · rfl

theorem State.endCtrl_gates (s : State) (q : QItem) (ok : Bool) : (s.endCtrl q ok).welt.gates = s.welt.gates :=
  (State.checkDone_gates _ _).trans (State.queueMark_gates _ _ _ _ _)

theorem State.resolvedDone_bookKept {i : Nat} {it : QItem} : s.BookKept (s.resolvedDone i it) :=
  .ite ((State.dropWork_bookKept.trans State.endRecord_bookKept).trans (.ite State.onLane_bookKept (.refl _))) <|
    .ite State.endRecord_bookKept (.refl s)

theorem State.resolvedRedo_bookKept {i : Nat} {it : QItem} : s.BookKept (s.resolvedRedo i it) :=
  (State.BookKept.ite State.dropWork_bookKept (.refl s)).trans <|
    State.dropDeadline_bookKept.trans (State.onRec_bookKept.trans State.onLane_bookKept)

/-- The settle entry of a resolved gate is asked for, the gate leaves the gate list, and its record and the port are told. -/
def State.gateResolved (s : State) (seq : Word) (idx lane : Nat) (done : Prop) [Decidable done] : State :=
  ((((s.writeSettle seq idx (if done then 4 else 5) 0 0 0).onGate seq idx fun _ => none).onRec seq idx
    fun r => { r with gate := if done then .resolvedDone else .resolvedRedo, hint := 0 }).raise 5 3 lane [seq])

section
variable {seq : Word} {idx lane : Nat} {done : Prop} [Decidable done]

theorem State.gateResolved_bookKept : s.BookKept (s.gateResolved seq idx lane done) :=
  (State.writeSettle_bookKept.trans State.dropGate_bookKept).trans (State.onRec_bookKept.trans State.raise_bookKept)

theorem State.gateResolved_gate : (s.gateResolved seq idx lane done).gate? seq idx = none :=
  (State.onRec_bookKept.trans State.raise_bookKept).gate seq idx (State.gate?_onGate_none _ seq idx)

end

/-- A RESOLVE of a gate IN_DOUBT: the gate is taken off, then its record is over or runs again. -/
theorem State.resolveGate_of_doubt {g : Gate} {it : QItem} (gate : s.gate? (q.r.w 2) (bits (q.r.w 1) 11 0) = some g)
    (item : s.item? (q.r.w 2) (bits (q.r.w 1) 11 0) = some it) (doubt : g.doubt = true) :
    ∃ u, s.resolveGate q = u.endCtrl q true ∧ (s.gateResolved (q.r.w 2) (bits (q.r.w 1) 11 0) g.lane (bits (q.r.w 1) 35 34 = 1)).BookKept u := by
  rw [State.resolveGate, gate, item]
  simp only [doubt, Bool.not_true, Bool.false_eq_true, if_false]
  exact ⟨_, rfl, .trans (.ite State.resolvedDone_bookKept State.resolvedRedo_bookKept) State.checkDone_bookKept⟩

theorem State.resolveGate_of_sure {g : Gate} {it : QItem} (gate : s.gate? (q.r.w 2) (bits (q.r.w 1) 11 0) = some g)
    (item : s.item? (q.r.w 2) (bits (q.r.w 1) 11 0) = some it) (sure : g.doubt = false) : s.resolveGate q = s.endCtrl q false := by
  rw [State.resolveGate, gate, item]
  simp only [sure, Bool.not_false, if_true]

theorem resolve_takes {g : Gate} {it : QItem} (front : s.ctrlIs q rest) (typ : q.r.typ = tResolve)
    (gate : s.gate? (q.r.w 2) (bits (q.r.w 1) 11 0) = some g) (item : s.item? (q.r.w 2) (bits (q.r.w 1) 11 0) = some it) (doubt : g.doubt = true) :
    Answers .resolve s fun t => t.gate? (q.r.w 2) (bits (q.r.w 1) 11 0) = none ∧ t.jobs.ctrl = rest := by
  obtain ⟨u, resolves, kept⟩ := State.resolveGate_of_doubt (s := s.ctrlTaken rest) gate item doubt
  refine .of_ctrl rfl front (beq_iff_eq.mpr typ) ((if_pos typ).trans resolves) (State.gateResolved_bookKept.trans kept) fun t _ book ctrl =>
    ⟨(kept.trans book).gate _ _ State.gateResolved_gate, ctrl⟩

theorem resolve_leaves {g : Gate} {it : QItem} (front : s.ctrlIs q rest) (typ : q.r.typ = tResolve)
    (gate : s.gate? (q.r.w 2) (bits (q.r.w 1) 11 0) = some g) (item : s.item? (q.r.w 2) (bits (q.r.w 1) 11 0) = some it) (sure : g.doubt = false) :
    Answers .resolve s fun t => t.welt.gates = s.welt.gates ∧ t.lanes = s.lanes ∧ t.jobs.ctrl = rest := by
  have acts : (s.ctrlTaken rest).actCtrl q = (s.ctrlTaken rest).endCtrl q false :=
    (if_pos typ).trans (State.resolveGate_of_sure (s := s.ctrlTaken rest) gate item sure)
  refine .of_next (congrArg Host.Outcome.next ((State.ctrlFront_eq front (ok := fun q => q.r.typ == tResolve) (beq_iff_eq.mpr typ)).trans acts))
    ⟨State.endCtrl_gates _ _ _, State.endCtrl_frame _ _ _ .lanes (by simp), State.endCtrl_bookKept.ctrl⟩

end

/-! ### The obligation -/

/-- Settles O29: a fence that is over stands in no lane, and a gate IN_DOUBT that is resolved leaves the gate list for good. -/
theorem fencesAndGatesResolve : Obligations.FencesAndGatesResolve := fun _ =>
  ⟨fun _ _ _ front job broken => ⟨fenceProceed_clears front job broken, fenceCancel_clears front job broken⟩, fun _ _ _ => fence_done,
    fence_of_no_job, fun _ _ _ _ front typ gate item => ⟨resolve_takes front typ gate item, resolve_leaves front typ gate item⟩⟩

end Sys2Proof.Machine
end

section
/-!
PROOFS. The commit of an entry of the welt (R158, R159, R465): what it brings about (R144, R172, R175) and the entries it asks for (R190).
-/

namespace Sys2Proof.Machine

/-! ### Entries that are asked for -/

/-- The state with more entries waiting to be written, behind those that wait. -/
def State.Asks (s t : State) : Prop := ∃ more, t = s.onWelt fun w => { w with wq := w.wq ++ more }

namespace State.Asks
variable {s t u : State}

theorem refl (s : State) : s.Asks s := ⟨[], by rw [State.onWelt]; simp⟩

theorem trans (ht : s.Asks t) (hu : t.Asks u) : s.Asks u := by
  obtain ⟨more, rfl⟩ := ht
  obtain ⟨rest, rfl⟩ := hu
  exact ⟨more ++ rest, by simp [State.onWelt]⟩

theorem ite {c : Prop} [Decidable c] (ht : s.Asks t) (hu : s.Asks u) : s.Asks (if c then t else u) := by
  split
  · exact ht
  · exact hu

theorem foldl {α : Type} {f : State → α → State} (h : ∀ t a, Asks t (f t a)) (l : List α) (s : State) : s.Asks (l.foldl f s) := by
  induction l generalizing s with
  | nil => exact refl s
  | cons a rest ih => exact (h s a).trans (ih _)

theorem bookKept (h : s.Asks t) : s.BookKept t := by
  obtain ⟨more, rfl⟩ := h
  exact State.onWelt_bookKept

theorem frame (h : s.Asks t) : SameBut [.welt] s t := by
  obtain ⟨more, rfl⟩ := h
  exact s.onWelt_frame _

end State.Asks

namespace State

theorem writeEntry_asks {s : State} {kind port : Nat} {seq : Word} {body : List Word} {act : OnCommit} :
    s.Asks (s.writeEntry kind port seq body act) :=
  ⟨[⟨entryWords kind s.welt.jepoch port seq body, act⟩], by rw [State.writeEntry, State.onWelt, State.onWelt]⟩

theorem copyJob_asks {s : State} {e : Entry} {newer : List Entry} : s.Asks (s.copyJob e newer) :=
  .trans (.foldl (fun _ _ => writeEntry_asks) _ s) <| .foldl (fun _ _ => .ite writeEntry_asks writeEntry_asks) _ _

theorem copyForward_asks {s : State} {e : Entry} {newer : List Entry} : s.Asks (s.copyForward e newer) := by
  rw [State.copyForward]
  split
  · exact .refl s
  · exact copyJob_asks
  · exact .ite copyJob_asks (.refl s)
  · exact .ite (.refl s) writeEntry_asks
  · exact .ite (.refl s) writeEntry_asks

theorem copyLive_asks {s : State} {stop : Word} {es : List Entry} : s.Asks (s.copyLive stop es) := by
  induction es generalizing s with
  | nil => exact .refl s
  | cons e rest ih => exact .trans (.ite copyForward_asks (.refl s)) ih

theorem carryForward_asks {s : State} : s.Asks s.carryForward := by
  rw [State.carryForward]
  refine .ite (.refl s) ?_
  split
  · exact .refl s
  · exact copyLive_asks.trans writeEntry_asks

end State

/-! ### The commit (R159, R465) -/

/-- The entry at the front stands in the welt, which goes on behind it, and the banks are done with it. -/
def State.entryTaken (s : State) (w : WriteReq) (rest : List WriteReq) : State :=
  (s.onWelt fun v => { v with log := v.log ++ [s.entryOf w], head := v.head + BitVec.ofNat 36 w.words.length, wq := rest }).onFlash
    fun f => { f with banks := f.banks.map Bank.committed }

/-- Each bank keeps erased sectors ahead of its head. -/
def State.banksReserve (s : State) : State := s.onFlash fun f => { f with banks := f.banks.map fun q => q.reserve s.welt.tail 16 }

section
variable {s : State} {w : WriteReq} {rest : List WriteReq}

theorem State.commitEntry_of_done (front : s.welt.wq = w :: rest) (done : s.frontDone = true) :
    s.commitEntry = (((s.entryTaken w rest).onCommit w).banksReserve).carryForward := by
  rw [State.commitEntry, front]
  simp only [done, Bool.not_true, Bool.false_eq_true, if_false]
  rfl

theorem commit_of_not_done (waits : s.frontDone = false) : exec .weltEntryCommit s = .next s := by
  show Host.Outcome.next s.commitEntry = _
  rw [State.commitEntry]
  split
  · rfl
  · rw [if_pos (by rw [waits]; rfl)]

theorem State.entryTaken_frame (s : State) (w : WriteReq) (rest : List WriteReq) : SameBut [.welt, .flash] s (s.entryTaken w rest) :=
  ((s.onWelt_frame _).mono (by simp)).trans ((State.onFlash_frame _ _).mono (by simp))

/-- What the end of a commit adds: sectors to erase, and entries to carry forward. -/
theorem State.commitEnd_bookKept {t : State} : t.BookKept t.banksReserve.carryForward :=
  (State.BookKept.of_sameBut (t.onFlash_frame _)).trans State.carryForward_asks.bookKept

theorem State.commitEnd_frame (t : State) : SameBut [.welt, .flash] t t.banksReserve.carryForward :=
  ((t.onFlash_frame _).mono (by simp)).trans (State.carryForward_asks.frame.mono (by simp))

theorem commit_adds (front : s.welt.wq = w :: rest) (done : s.frontDone = true) (act : w.act = .nothing) (kind : w.kind ≠ 5)
    (room : (s.welt.head + BitVec.ofNat 36 w.words.length - s.welt.tail).toNat < 1024 * 510) :
    let copy (b : Nat) : Copy := ⟨if s.bankOut b then 0 else w.words.length, [], s.bankOut b⟩
    Answers .weltEntryCommit s fun t =>
      t.welt.head = s.welt.head + BitVec.ofNat 36 w.words.length ∧ t.welt.wq = rest ∧ t.welt.tail = s.welt.tail ∧
        t.welt.log = s.welt.log ++ [⟨w.words, s.welt.head, s.welt.head, copy 0, copy 1⟩] ∧ SameBut [.welt, .flash] s t := by
  have nothing : (s.entryTaken w rest).onCommit w = s.entryTaken w rest := by
    rw [State.onCommit, act]
    exact if_neg kind
  have stays : (s.entryTaken w rest).banksReserve.carryForward = (s.entryTaken w rest).banksReserve := if_pos (.inl room)
  have entry : s.entryOf w = ⟨w.words, s.welt.head, s.welt.head, ⟨if s.bankOut 0 then 0 else w.words.length, [], s.bankOut 0⟩,
      ⟨if s.bankOut 1 then 0 else w.words.length, [], s.bankOut 1⟩⟩ := by rw [State.entryOf, act]
  have commits : s.commitEntry = (s.entryTaken w rest).banksReserve := by rw [State.commitEntry_of_done front done, nothing, stays]
  refine .of_next (congrArg Host.Outcome.next commits) ⟨rfl, rfl, rfl, entry ▸ rfl, ?_⟩
  exact (s.entryTaken_frame w rest).trans ((State.onFlash_frame _ _).mono (by simp))

/-! ### The commit of a JOB entry (R144, R164) -/

section
variable {seq : Word} {c : Closed} {recs : List Rec}

theorem State.queueRecord_frame (s : State) (seq : Word) (idx : Nat) (r : Rec) : SameBut [.lanes, .jobs] s (s.queueRecord seq idx r) :=
  .ite (.refl _ s) <| .ite (.foldl (fun t _ => (t.onLane_frame _ _).mono (by simp)) _ s) <|
    .ite ((s.onLane_frame _ _).mono (by simp)) ((s.onJobs_frame _).mono (by simp))

theorem State.queueRecord_placeKept {s : State} {idx : Nat} {r : Rec} : s.PlaceKept (s.queueRecord seq idx r) := by
  rw [State.queueRecord]
  split
  · exact .refl s
  · split
    · exact .foldl (fun _ _ => State.onLane_bookKept.toPlaceKept) _ s
    · split
      · exact State.onLane_bookKept.toPlaceKept
      · exact ⟨rfl, rfl, rfl, fun _ _ => id⟩

theorem State.report_frame (s : State) (p ser : Nat) (st : JobStat) : SameBut [.ports] s (s.report p ser st) := s.onPort_frame _ _

theorem State.accept_frame (s : State) (seq : Word) (c : Closed) (recs : List Rec) :
    SameBut [.lanes, .jobs, .welt, .dev, .ev, .ports] s (s.accept seq c recs) := by
  unfold State.accept
  extract_lets fences j ends taken lanes owned queued told down broken
  have takes : SameBut [.jobs] s taken := s.onJobs_frame _
  have owns : SameBut [.lanes] taken owned := .foldl (fun t i => t.onLane_frame i _) _ _
  have queues : SameBut [.lanes, .jobs] owned queued := .foldl (fun t (p : Rec × Nat) => t.queueRecord_frame seq p.2 p.1) _ _
  have tells : SameBut [.lanes, .jobs, .welt, .dev, .ev, .ports] queued told :=
    ((State.raiseJob_frame _ 1 31 seq).mono (by simp)).trans ((State.report_frame _ _ _ _).mono (by simp))
  have breaks : SameBut [.lanes, .jobs, .welt, .dev, .ev, .ports] told broken :=
    .foldl (fun t i => ((t.holdLane_frame i).mono (by simp)).trans ((State.breakFencesOver_frame _ i).mono (by simp))) _ _
  have ends : SameBut [.lanes, .jobs, .welt, .dev, .ev, .ports] broken (broken.checkDone seq) :=
    (State.checkDone_frame _ seq).mono (by simp)
  have queued : SameBut [.lanes, .jobs, .welt, .dev, .ev, .ports] s queued :=
    (takes.mono (by simp)).trans <| (owns.mono (by simp)).trans (queues.mono (by simp))
  exact queued.trans (tells.trans (breaks.trans ends))

/-- The job stands in the job table under its number, and its timeouts run (R144, R155, R164). -/
def State.jobTaken (s : State) (seq : Word) (c : Closed) (recs : List Rec) : State :=
  s.onJobs fun k =>
    { k with
      table := k.table ++ [⟨seq, c.port, jobHref c.words, c.words, recs, recs.map firstStatus,
        (recs.zipIdx.filter fun p => p.1.typ == tFence).map fun p => (p.2, FenceState.waiting), false, false, false, [], [], s.assetsOf recs⟩]
      lastSeq := seq
      deadlines := k.deadlines ++ (recs.zipIdx.filter fun p => (p.1.typ == tFence || p.1.typ == tReAdmit) && p.1.tmo).map fun p =>
        (seq, p.2, (s.stitch.n + 1) * 4096 + phOf p.1.timeout) }

/-- Nothing after that gives a number or a place in the welt. -/
theorem State.accept_placeKept : (s.jobTaken seq c recs).PlaceKept (s.accept seq c recs) := by
  unfold State.accept
  extract_lets fences j ends taken lanes owned queued told down broken
  have owns : taken.PlaceKept owned := .foldl (fun _ _ => State.onLane_bookKept.toPlaceKept) _ _
  have queues : owned.PlaceKept queued := .foldl (fun _ _ => State.queueRecord_placeKept) _ _
  have tells : queued.PlaceKept told := (State.raiseJob_bookKept.trans (.of_sameBut (State.report_frame _ _ _ _))).toPlaceKept
  have breaks : told.PlaceKept broken :=
    .foldl (fun _ _ => (State.holdLane_bookKept.trans State.breakFencesOver_bookKept).toPlaceKept) _ _
  exact (owns.trans queues).trans (tells.trans (breaks.trans State.checkDone_bookKept.toPlaceKept))

theorem commit_accepts (front : s.welt.wq = w :: rest) (done : s.frontDone = true) (act : w.act = .accept c recs) :
    Answers .weltEntryCommit s fun t =>
      t.welt.head = s.welt.head + BitVec.ofNat 36 w.words.length ∧ t.jobs.lastSeq = w.seq ∧ t.jobs.decided = s.jobs.decided ∧
        t.axes = s.axes ∧ t.chans = s.chans := by
  have accepts : (s.entryTaken w rest).onCommit w = (s.entryTaken w rest).accept w.seq c recs := by rw [State.onCommit, act]
  have commits := State.commitEntry_of_done front done
  rw [accepts] at commits
  have kept : ((s.entryTaken w rest).jobTaken w.seq c recs).PlaceKept ((s.entryTaken w rest).accept w.seq c recs).banksReserve.carryForward :=
    State.accept_placeKept.trans State.commitEnd_bookKept.toPlaceKept
  have frame : SameBut [.lanes, .jobs, .welt, .dev, .ev, .ports, .flash] s ((s.entryTaken w rest).accept w.seq c recs).banksReserve.carryForward :=
    ((s.entryTaken_frame w rest).mono (by simp)).trans <|
      ((State.accept_frame _ _ _ _).mono (by simp)).trans ((State.commitEnd_frame _).mono (by simp))
  exact .of_next (congrArg Host.Outcome.next commits)
    ⟨kept.head, kept.lastSeq, kept.decided, frame .axes (by simp), frame .chans (by simp)⟩

end

/-! ### The commit of a GATE_SETTLE entry (R172, R175) -/

theorem State.endGated_bookKept {i : Nat} {q : QItem} : s.BookKept (s.endGated i q) :=
  .ite State.onLane_bookKept <| (State.dropWork_bookKept.trans State.endRecord_bookKept).trans State.onLane_bookKept

/-- A verdict that settles takes the gate off the gate list, and nothing that follows brings one back. -/
theorem State.settleCommitted_bookKept {seq : Word} {idx verdict hint : Nat} (settles : verdict ≠ 3) :
    (s.onGate seq idx fun _ => none).BookKept (s.settleCommitted seq idx verdict hint) := by
  unfold State.settleCommitted
  extract_lets i gone noted told ended
  rw [if_neg settles]
  have tells : noted.BookKept told := .ite State.raise_bookKept (.refl _)
  have ends : told.BookKept ended := by
    unfold ended
    split
    · exact .ite State.endGated_bookKept (.refl _)
    · exact .refl _
  exact (State.onRec_bookKept.trans tells).trans (ends.trans State.checkDone_bookKept)

theorem commit_settles (front : s.welt.wq = w :: rest) (done : s.frontDone = true) (act : w.act = .nothing) (kind : w.kind = 5)
    (settles : bits (w.body.getD 0 0) 23 20 ≠ 3) :
    Answers .weltEntryCommit s fun t =>
      t.welt.head = s.welt.head + BitVec.ofNat 36 w.words.length ∧ t.gate? w.seq (bits (w.body.getD 0 0) 35 24) = none := by
  have settled : (s.entryTaken w rest).onCommit w = (s.entryTaken w rest).settleCommitted w.seq (bits (w.body.getD 0 0) 35 24)
      (bits (w.body.getD 0 0) 23 20) (bits (w.body.getD 0 0) 15 12) := by
    rw [State.onCommit, act]
    exact if_pos kind
  have commits := State.commitEntry_of_done front done
  rw [settled] at commits
  have kept := (State.settleCommitted_bookKept (s := s.entryTaken w rest) (seq := w.seq) (idx := bits (w.body.getD 0 0) 35 24)
    (hint := bits (w.body.getD 0 0) 15 12) settles).trans State.commitEnd_bookKept
  exact .of_next (congrArg Host.Outcome.next commits) ⟨kept.head, kept.gate _ _ (State.gate?_onGate_none _ _ _)⟩

end

/-! ### The obligation -/

/-- Settles O30: the entry goes to the head before its effect, and neither the effect nor the end of the commit moves the head. -/
theorem entriesCommitInOrder : Obligations.EntriesCommitInOrder := fun _ _ _ =>
  ⟨commit_adds, fun _ _ => commit_accepts, commit_settles, commit_of_not_done⟩

end Sys2Proof.Machine
end

section
/-!
PROOFS. The marks that wait are flushed, gates run out of their window, the load of the journal is counted (R161..R163, R169, R173, R189).
-/

namespace Sys2Proof.Machine

/-! ### The body of an entry (R158) -/

theorem wordsBlen_entryWords {kind : Nat} {jepoch : BitVec 12} {port : Nat} {seq : Word} {body : List Word} (h : body.length < 2 ^ 12) :
    wordsBlen (entryWords kind jepoch port seq body) = body.length := by
  show bits (field 35 32 kind ||| field 31 20 body.length ||| field 19 8 jepoch.toNat ||| field 7 6 port) 31 20 = body.length
  apply Nat.eq_of_testBit_eq
  intro i
  rw [testBit_bits]
  by_cases hi : i < 12
  · simp only [field, BitVec.getLsbD_or, BitVec.getLsbD_ofNat, Nat.testBit_shiftLeft, Nat.testBit_mod_two_pow]
    simp [hi, show 20 + i < 36 by omega, show ¬ 32 ≤ 20 + i by omega, show ¬ 20 + i - 8 < 12 by omega, show ¬ 20 + i - 6 < 2 by omega]
  · have beyond : body.length < 2 ^ i := lt_of_lt_of_le h (Nat.pow_le_pow_right (n := 2) (by omega) (Nat.not_lt.mp hi))
    simp [hi, Nat.testBit_lt_two_pow beyond]

theorem wordsBody_entryWords {kind : Nat} {jepoch : BitVec 12} {port : Nat} {seq : Word} {body : List Word} (h : body.length < 2 ^ 12) :
    wordsBody (entryWords kind jepoch port seq body) = body := by
  rw [wordsBody, wordsBlen_entryWords h]
  exact List.take_left

/-! ### Marks are packed into entries (R161, R162) -/

/-- A mark opens an entry of its own, or joins the one behind it. -/
theorem packMarks_cons (m : Mark) (rest : List Mark) :
    packMarks (m :: rest) = (m.job, [m]) :: packMarks rest ∨
      ∃ q ms more, packMarks rest = (q, ms) :: more ∧ ms.length < 8 ∧ packMarks (m :: rest) = (m.job, m :: ms) :: more := by
  rw [packMarks]
  cases packMarks rest with
  | nil => exact .inl rfl
  | cons e more =>
    dsimp only
    split
    · next joins => exact .inr ⟨e.1, e.2, more, rfl, of_decide_eq_true (Bool.and_eq_true_iff.mp joins).1, rfl⟩
    · exact .inl rfl

theorem packMarks_flatMap (ms : List Mark) : (packMarks ms).flatMap Prod.snd = ms := by
  induction ms with
  | nil => rfl
  | cons m rest ih =>
    obtain opens | ⟨q, ks, more, behind, -, joins⟩ := packMarks_cons m rest
    · rw [opens, List.flatMap_cons, ih, List.singleton_append]
    · rw [behind, List.flatMap_cons] at ih
      rw [joins, List.flatMap_cons, List.cons_append, ih]

theorem packMarks_length {ms : List Mark} {e : Word × List Mark} (h : e ∈ packMarks ms) : 1 ≤ e.2.length ∧ e.2.length ≤ 8 := by
  induction ms with
  | nil => cases h
  | cons m rest ih =>
    obtain opens | ⟨q, ks, more, behind, room, joins⟩ := packMarks_cons m rest
    · rw [opens, List.mem_cons] at h
      obtain rfl | h := h
      · exact ⟨Nat.le_refl 1, Nat.le_add_left 1 7⟩
      · exact ih h
    · rw [behind] at ih
      rw [joins, List.mem_cons] at h
      obtain rfl | h := h
      · exact ⟨Nat.le_add_left 1 _, room⟩
      · exact ih (.tail _ h)

/-! ### MARKS_FLUSH_TIMER (R169) -/

/-- The MARKS entry of one group of packed marks. -/
def State.markEntry (s : State) (e : Word × List Mark) : WriteReq :=
  ⟨entryWords 3 s.welt.jepoch (s.portOf e.1) e.1 (e.2.map Mark.word), .marks e.2⟩

theorem State.foldl_writeMarks (es : List (Word × List Mark)) (s : State) :
    es.foldl (fun s e => s.writeEntry 0x3 (s.portOf e.1) e.1 (e.2.map Mark.word) (.marks e.2)) s =
      s.onWelt fun w => { w with wq := w.wq ++ es.map s.markEntry } := by
  induction es generalizing s with
  | nil => simp [State.onWelt]
  | cons e es ih =>
    rw [List.foldl_cons, ih]
    show s.onWelt (fun w => { w with wq := (w.wq ++ [s.markEntry e]) ++ es.map s.markEntry }) = _
    simp only [List.append_assoc, List.singleton_append, List.map_cons]

theorem State.flushMarks_eq (s : State) :
    s.flushMarks = s.onWelt fun w => { w with wq := w.wq ++ (packMarks s.welt.marks).map s.markEntry, marks := [] } := by
  rw [State.flushMarks, State.foldl_writeMarks]
  rfl

theorem State.markEntry_body (s : State) {ms : List Mark} {e : Word × List Mark} (h : e ∈ packMarks ms) :
    (s.markEntry e).body = e.2.map Mark.word :=
  wordsBody_entryWords (by have := (packMarks_length h).2; rw [List.length_map]; omega)

theorem marksFlush_writes (s : State) :
    Answers .marksFlushTimer s fun t =>
      t.welt.marks = [] ∧
        (∃ more, t.welt.wq = s.welt.wq ++ more ∧ (∀ e ∈ more, e.kind = 3 ∧ 1 ≤ e.body.length ∧ e.body.length ≤ 8) ∧
          more.flatMap (·.body) = s.welt.marks.map Mark.word) ∧
        t.welt.log = s.welt.log ∧ t.welt.head = s.welt.head ∧ t.welt.gates = s.welt.gates ∧ SameBut [.welt] s t := by
  refine .of_next (congrArg Host.Outcome.next s.flushMarks_eq)
    ⟨rfl, ⟨(packMarks s.welt.marks).map s.markEntry, rfl, fun w mem => ?_, ?_⟩, rfl, rfl, rfl, s.onWelt_frame _⟩
  · obtain ⟨e, packed, rfl⟩ := List.mem_map.mp mem
    rw [s.markEntry_body packed, List.length_map]
    exact ⟨wordsKind_entryWords (by decide) _ _ _ _, packMarks_length packed⟩
  · calc ((packMarks s.welt.marks).map s.markEntry).flatMap (·.body)
        = (packMarks s.welt.marks).flatMap fun e => e.2.map Mark.word := by
          rw [List.flatMap_map]
          exact List.flatMap_congr fun e packed => s.markEntry_body packed
      _ = ((packMarks s.welt.marks).flatMap Prod.snd).map Mark.word := List.map_flatMap.symm
      _ = s.welt.marks.map Mark.word := by rw [packMarks_flatMap]

/-! ### GATE_WINDOW_EXPIRY (R173) -/

theorem State.gate?_isSome {s : State} {e : Nat} {g : Gate} (h : at' s.welt.gates e = some g) : ∃ h, s.gate? g.job g.idx = some h := by
  rw [← Option.ne_none_iff_exists', ne_eq, State.gate?_eq_none_iff]
  intro absent
  refine absent g ?_ ⟨rfl, rfl⟩
  rw [at'_eq] at h
  split at h
  · exact Vector.mem_toList_iff.mpr (h ▸ Vector.getElem_mem _)
  · cases h

theorem State.gate?_eq_find (s : State) (job : Word) (idx : Nat) :
    s.gate? job idx = (s.welt.gates.toList.find? (Option.any fun g => g.job == job && g.idx == idx)).join := by
  rw [State.gate?]
  congr 3
  funext o
  cases o <;> rfl

theorem State.onGate_gates (s : State) (job : Word) (idx : Nat) (f : Gate → Gate) :
    (s.onGate job idx fun g => some (f g)).welt.gates =
      s.welt.gates.map (Option.map fun g => if g.job = job ∧ g.idx = idx then f g else g) := by
  show s.welt.gates.map _ = _
  congr 1
  funext o
  cases o with
  | none => rfl
  | some g =>
    dsimp only [Option.map_some]
    split
    · rfl
    · rfl

/-- A change of a record's gate that leaves it the record's is read off the gate list. -/
theorem State.gate?_onGate_some (s : State) (job : Word) (idx : Nat) {f : Gate → Gate} (hf : ∀ g, (f g).job = g.job ∧ (f g).idx = g.idx) :
    (s.onGate job idx fun g => some (f g)).gate? job idx = (s.gate? job idx).map f := by
  have same : ((Option.any fun g : Gate => g.job == job && g.idx == idx) ∘
      Option.map fun g => if g.job = job ∧ g.idx = idx then f g else g) = Option.any fun g => g.job == job && g.idx == idx := by
    funext o
    cases o with
    | none => rfl
    | some g =>
      by_cases its : g.job = job ∧ g.idx = idx
      · simp [its, hf]
      · simp [its]
  rw [State.gate?_eq_find, State.gate?_eq_find, State.onGate_gates, Vector.toList_map, List.find?_map, same]
  cases found : s.welt.gates.toList.find? (Option.any fun g => g.job == job && g.idx == idx) with
  | none => rfl
  | some o =>
    cases o with
    | none => rfl
    | some g =>
      have its : g.job = job ∧ g.idx = idx := by simpa using List.find?_some found
      simp [its]

theorem State.portOf_onRec (s : State) (seq : Word) (idx : Nat) (f : RecStatus → RecStatus) :
    (s.onRec seq idx f).portOf seq = s.portOf seq := by
  have job := s.job?_onJob seq (fun j => { j with status := j.status.modify idx f }) fun _ => rfl
  rw [State.portOf, State.portOf, State.onRec, job]
  cases s.job? seq <;> rfl

/-- The gate's window no longer runs: it has ended by stitch `n`. -/
def Gate.ranOut (g : Gate) (n : Nat) : Bool := g.windowEnd.any fun k => decide (k ≤ n)

section
variable {e : Fin 64} {s : State}

theorem execGateWindowExpiry_none (free : at' s.welt.gates e = none) : exec (.gateWindowExpiry e) s = .next s := by
  show execGateWindowExpiry e s = _
  rw [execGateWindowExpiry, free]

theorem execGateWindowExpiry_some {g : Gate} (gate : at' s.welt.gates e = some g) :
    exec (.gateWindowExpiry e) s =
      if g.doubt || g.settling || !g.ranOut s.stitch.n then .next s
      else .next (((s.onGate g.job g.idx fun h => some { h with doubt := true, hint := s.gateHint g }).onRec g.job g.idx
        fun r => { r with gate := .inDoubt }).writeSettle g.job g.idx 3 0 (s.gateHint g) 0) := by
  show execGateWindowExpiry e s = _
  rw [execGateWindowExpiry, gate]
  refine if_congr ?_ rfl rfl
  rw [Gate.ranOut]
  cases g.windowEnd <;> rfl

theorem gateWindow_runsOut {g : Gate} {k : Nat} (gate : at' s.welt.gates e = some g) (sure : g.doubt = false) (waits : g.settling = false)
    (window : g.windowEnd = some k) (out : k ≤ s.stitch.n) :
    Answers (.gateWindowExpiry e) s fun t =>
      (∃ h, t.gate? g.job g.idx = some h ∧ h.doubt = true) ∧
        t.welt.wq = s.welt.wq ++
          [⟨entryWords 5 s.welt.jepoch (s.portOf g.job) g.job (settleWords g.idx 3 0 (s.gateHint g) 0), .nothing⟩] ∧
        t.welt.log = s.welt.log ∧ SameBut [.welt, .jobs] s t := by
  have ran : g.ranOut s.stitch.n = true := by simp [Gate.ranOut, window, out]
  have run := execGateWindowExpiry_some gate
  rw [sure, waits, ran, if_neg (by decide)] at run
  obtain ⟨h, its⟩ := State.gate?_isSome gate
  have doubted := s.gate?_onGate_some g.job g.idx (f := fun h => { h with doubt := true, hint := s.gateHint g }) fun _ => ⟨rfl, rfl⟩
  refine .of_next run ⟨⟨_, doubted.trans (congrArg _ its), rfl⟩, ?_, rfl, ?_⟩
  · rw [State.writeSettle, State.writeEntry_wq, State.portOf_onRec]
    rfl
  · exact (((s.onGate_frame _ _ _).mono (by simp)).trans ((State.onRec_frame _ _ _ _).mono (by simp))).trans
      ((State.writeEntry_frame _ _ _ _ _ _).mono (by simp))

theorem gateWindow_leaves {g : Gate} (gate : at' s.welt.gates e = some g)
    (rests : g.doubt = true ∨ g.settling = true ∨ g.windowEnd = none ∨ ∃ k, g.windowEnd = some k ∧ s.stitch.n < k) :
    exec (.gateWindowExpiry e) s = .next s := by
  rw [execGateWindowExpiry_some gate]
  refine if_pos ?_
  obtain doubt | settling | never | ⟨k, window, runs⟩ := rests
  · simp [doubt]
  · simp [settling]
  · simp [Gate.ranOut, never]
  · simp [Gate.ranOut, window, runs]

end

/-! ### The obligation -/

/-- Settles O31: packed marks are the marks in order, a gate that ran out is read off the changed gate list, a second is one change of the
welt. -/
theorem marksAndGatesSettle : Obligations.MarksAndGatesSettle :=
  ⟨marksFlush_writes, fun _ s => ⟨fun _ _ => gateWindow_runsOut, execGateWindowExpiry_none, fun _ => gateWindow_leaves,
    .of_next rfl ⟨rfl, rfl, rfl, s.onWelt_frame _⟩⟩⟩

end Sys2Proof.Machine
end

section
/-!
PROOFS. Job lookup: GO, and its answer by number or by HREF (R187).
-/

namespace Sys2Proof.Machine

section
variable {p b : Fin 2} {s : State}

/-! ### LOOKUP_GO -/

/-- The lookup that GO begins: the answer of the one before is gone. -/
def Lookup.begun (l : Lookup) : Lookup :=
  { Lookup.reset with key := l.key, byCode := l.byCode, part := l.part, start := l.start, status := 1 }

theorem State.lookupStart_begins (rests : (at' s.welt.lookups b).status ≠ 1)
    (by' : (at' s.welt.lookups b).byCode = 1 ∨ (at' s.welt.lookups b).byCode = 2) (part : (at' s.welt.lookups b).part ≤ 1) :
    s.lookupStart b = (s.onWelt fun v => { v with lookups := upd v.lookups b fun _ => (at' s.welt.lookups b).begun }, 0) :=
  (if_neg rests).trans (if_neg (by omega))

theorem lookupGo_starts (rests : (at' s.welt.lookups b).status ≠ 1)
    (by' : (at' s.welt.lookups b).byCode = 1 ∨ (at' s.welt.lookups b).byCode = 2) (part : (at' s.welt.lookups b).part ≤ 1) :
    Answers (.lookupGo p b) s fun t =>
      (at' t.welt.lookups b).status = 1 ∧ (at' t.welt.lookups b).key = (at' s.welt.lookups b).key ∧
        Others s.welt.lookups t.welt.lookups b ∧ t.welt.log = s.welt.log ∧ SameBut [.welt] s t := by
  have block := at'_upd_self s.welt.lookups b (fun _ => (at' s.welt.lookups b).begun) b.isLt
  have run := congrArg (answer p true) (State.lookupStart_begins rests by' part)
  exact .of_next (run.trans answer_of_done) ⟨congrArg Lookup.status block, (congrArg Lookup.key block :),
    fun j other => at'_upd_ne _ _ _ _ other, rfl, s.onWelt_frame _⟩

theorem lookupGo_busy (runs : (at' s.welt.lookups b).status = 1) :
    Answers (.lookupGo p b) s fun t => (t.port p).noteCode = rcBusy ∧ OnlyPort p s t := by
  have refused : s.lookupStart b = (s, rcBusy) := if_pos runs
  show ∃ t, answer p true (s.lookupStart b) = .next t ∧ _
  rw [refused]
  exact answer_refusal s p rcBusy true (by decide)

theorem lookupGo_range (rests : (at' s.welt.lookups b).status ≠ 1)
    (reserved : (at' s.welt.lookups b).byCode ≠ 1 ∧ (at' s.welt.lookups b).byCode ≠ 2 ∨ 1 < (at' s.welt.lookups b).part) :
    Answers (.lookupGo p b) s fun t => (t.port p).noteCode = rcRange ∧ OnlyPort p s t := by
  have refused : s.lookupStart b = (s, rcRange) := (if_neg rests).trans (if_pos reserved)
  show ∃ t, answer p true (s.lookupStart b) = .next t ∧ _
  rw [refused]
  exact answer_refusal s p rcRange true (by decide)

/-! ### What a lookup answers -/

theorem State.lookupAnswer_number {l : Lookup} {j : Job} (by' : l.byCode = 1) (found : (s.retained.find? fun j => j.seq == l.key) = some j) :
    s.lookupAnswer l = l.found j (s.retained.filter fun k => k.href == j.href).length := by
  rw [State.lookupAnswer]
  simp only [by', found, if_true]

theorem State.lookupAnswer_noNumber {l : Lookup} (by' : l.byCode = 1) (none : (s.retained.find? fun j => j.seq == l.key) = none) :
    s.lookupAnswer l = { l with status := if l.key.after s.jobs.lastSeq then 3 else 4, nrec := 0, matches' := 0, window := [] } := by
  rw [State.lookupAnswer]
  simp only [by', none, if_true]

theorem State.lookupAnswer_href {l : Lookup} {j : Job} (by' : l.byCode = 2)
    (found : newestJob (s.retained.filter fun j => j.href == l.key) = some j) :
    s.lookupAnswer l = l.found j (s.retained.filter fun k => k.href == l.key).length := by
  rw [State.lookupAnswer]
  simp only [by', found, OfNat.ofNat_ne_one, if_false]

theorem State.lookupAnswer_noHref {l : Lookup} (by' : l.byCode = 2) (none : (s.retained.find? fun j => j.href == l.key) = none) :
    s.lookupAnswer l = { l with status := 3, nrec := 0, matches' := 0, window := [] } := by
  have nobody : (s.retained.filter fun j => j.href == l.key) = [] := List.filter_eq_nil_iff.mpr (List.find?_eq_none.mp none)
  rw [State.lookupAnswer]
  simp only [by', nobody, newestJob, OfNat.ofNat_ne_one, if_false]

/-! ### LOOKUP_DONE -/

/-- A lookup that runs leaves its answer in its block. -/
theorem lookupDone_leaves {l : Lookup} (runs : (at' s.welt.lookups b).status = 1) (answers : s.lookupAnswer (at' s.welt.lookups b) = l) :
    Answers (.lookupDone b) s fun t => at' t.welt.lookups b = l ∧ SameBut [.welt] s t := by
  have run : exec (.lookupDone b) s = .next (s.onWelt fun w => { w with lookups := upd w.lookups b fun _ => l }) :=
    answers ▸ if_pos runs
  exact .of_next run ⟨at'_upd_self _ _ _ b.isLt, s.onWelt_frame _⟩

end

/-! ### The obligation -/

/-- Settles O32: GO is judged in the order of R187; what LOOKUP_DONE leaves in the block is the answer, read by BY and by what is found. -/
theorem lookupsAnswer : Obligations.LookupsAnswer := by
  intro p b s
  refine ⟨lookupGo_starts, lookupGo_busy, lookupGo_range, fun j runs by' found => ?number, fun runs by' none => ?noNumber,
    fun j runs by' found => ?href, fun runs by' none => ?noHref, fun rests => if_neg rests⟩
  case number =>
    refine (lookupDone_leaves runs (State.lookupAnswer_number by' found)).mono fun t ⟨block, frame⟩ => ?_
    rw [block]
    exact ⟨rfl, rfl, rfl, rfl, frame⟩
  case noNumber =>
    exact (lookupDone_leaves runs (State.lookupAnswer_noNumber by' none)).mono fun t ⟨block, frame⟩ => ⟨congrArg Lookup.status block, frame⟩
  case href =>
    refine (lookupDone_leaves runs (State.lookupAnswer_href by' found)).mono fun t ⟨block, frame⟩ => ?_
    rw [block]
    exact ⟨rfl, rfl, rfl, frame⟩
  case noHref =>
    exact (lookupDone_leaves runs (State.lookupAnswer_noHref by' none)).mono fun t ⟨block, frame⟩ => ⟨congrArg Lookup.status block, frame⟩

end Sys2Proof.Machine
end

section
/-!
PROOFS. Word programs and erases of the flash (R157, R189, R455, R457, R460, R464, R471).
-/

namespace Sys2Proof.Machine

/-! ### One bank -/

theorem State.bank_onBank (s : State) (b : Fin 2) (f : Bank → Bank) : (s.onBank b f).bank b = f (s.bank b) := at'_upd_self _ _ _ b.isLt

theorem State.onBank_others (s : State) (b : Nat) (f : Bank → Bank) : Others s.flash.banks (s.onBank b f).flash.banks b :=
  fun _ other => at'_upd_ne _ _ _ _ other

theorem State.bank_congr {s t : State} (h : t.flash = s.flash) (b : Nat) : t.bank b = s.bank b := congrArg (fun f : FlashCtl => at' f.banks b) h

/-- The erases of every bank stand suspended, where one is in progress (R460). -/
theorem State.suspend_bank (s : State) (b : Nat) : s.suspend.bank b = { s.bank b with susp := (s.bank b).erasing } := by
  rw [State.bank, State.bank, State.suspend, State.onFlash_flash, at'_eq, at'_eq]
  split
  · rw [Vector.getElem_map]
  · rfl

theorem State.suspend_frame (s : State) : SameBut [.flash] s s.suspend := s.onFlash_frame _

/-! ### What a bank programs next -/

/-- Nothing that decides on the next welt pulse differs: the banks but for a suspension and a repeat, those in service, the welt. -/
structure State.SamePulses (s t : State) : Prop where
  ret : t.dev.flashRet = s.dev.flashRet
  welt : t.welt = s.welt
  bank : ∀ b, ∃ susp again, t.bank b = { s.bank b with susp := susp, again := again }

theorem State.SamePulses.weltPulse {s t : State} (h : s.SamePulses t) (b : Nat) : t.weltPulse b = s.weltPulse b := by
  obtain ⟨susp, again, own⟩ := h.bank b
  obtain ⟨susp', again', other⟩ := h.bank (1 - b)
  simp only [State.weltPulse, State.bankOut, State.frontWords, State.nextLpos, h.ret, h.welt, own, other]
  rfl

theorem State.SamePulses.trans {s t u : State} (ht : s.SamePulses t) (hu : t.SamePulses u) : s.SamePulses u where
  ret := hu.ret.trans ht.ret
  welt := hu.welt.trans ht.welt
  bank b := by
    obtain ⟨susp, again, bank⟩ := hu.bank b
    obtain ⟨_, _, first⟩ := ht.bank b
    exact ⟨susp, again, by rw [bank, first]⟩

theorem State.suspend_samePulses (s : State) : s.SamePulses s.suspend :=
  ⟨rfl, rfl, fun b => ⟨_, _, s.suspend_bank b⟩⟩

theorem State.again_samePulses (s : State) (b : Fin 2) (v : Bool) : s.SamePulses (s.onBank b fun q => { q with again := v }) where
  ret := rfl
  welt := rfl
  bank k := by
    by_cases its : k = b
    · subst its
      exact ⟨(s.bank b).susp, v, s.bank_onBank b _⟩
    · exact ⟨(s.bank k).susp, (s.bank k).again, s.onBank_others b _ k its⟩

section
variable {b : Fin 2} {s : State}

theorem State.bankOut_of_weltPulse {p : WeltPulse} (h : s.weltPulse b = some p) : s.bankOut b = false := by
  rw [State.weltPulse] at h
  cases out : s.bankOut b
  · rfl
  · simp [out] at h

theorem State.weltPending_of_weltPulse {p : WeltPulse} (h : s.weltPulse b = some p) : s.weltPending = true := by
  rw [State.weltPending, Bool.or_eq_true]
  match b, h with
  | 0, h => exact .inl (Option.isSome_of_eq_some h)
  | 1, h => exact .inr (Option.isSome_of_eq_some h)

theorem State.pulse_of_word (h : s.weltPulse b = some .word) : s.pulse b = .welt := by rw [State.pulse, h]

theorem State.pulse_of_first {k : Nat} (h : s.weltPulse b = some (.first k)) : s.pulse b = .first k := by rw [State.pulse, h]

theorem State.programming_of_weltPulse {p : WeltPulse} (h : s.weltPulse b = some p) : ∃ sector, s.programming b = some sector := by
  rw [State.programming, State.bankOut_of_weltPulse h]
  cases p with
  | word => exact ⟨(s.bank b).at_, by rw [State.pulse_of_word h]; rfl⟩
  | first k => exact ⟨k, by rw [State.pulse_of_first h]; rfl⟩

/-! ### WORD_PROGRAM_DONE -/

theorem execWordProgramDone_none (idle : s.programming b = none) (ok : Bool) : exec (.wordProgramDone b ok) s = .next s := by
  show execWordProgramDone b ok s = _
  rw [execWordProgramDone, idle]

/-- A pulse for the welt ends, whatever is being erased. -/
theorem execWordProgramDone_welt {p : WeltPulse} (pulse : s.weltPulse b = some p) (ok : Bool) :
    ∃ sector, exec (.wordProgramDone b ok) s = .next (s.suspend.pulseEnd b sector ok) := by
  obtain ⟨sector, programs⟩ := State.programming_of_weltPulse pulse
  refine ⟨sector, ?_⟩
  show execWordProgramDone b ok s = _
  rw [execWordProgramDone, programs, State.weltPending_of_weltPulse pulse]
  simp

theorem State.pulseEnd_verified (sector : Nat) (once : (s.bank b).again = false) : s.pulseEnd b sector true = s.programmed b := by
  simp [State.pulseEnd, once]

theorem State.pulseEnd_madeGood (sector : Nat) (twice : (s.bank b).again = true) :
    s.pulseEnd b sector true = ((s.onBank b fun q => { q with again := false }).flashTransient b).programmed b := by
  simp [State.pulseEnd, twice]

theorem State.pulseEnd_repeats (sector : Nat) (once : (s.bank b).again = false) :
    s.pulseEnd b sector false = s.onBank b fun q => { q with again := true } := by
  simp [State.pulseEnd, once]

/-- The word of the entry at the front stands in bank `b` and counts (R189). -/
def State.wordStands (s : State) (b : Nat) : State := (s.onBank b fun q => { q with done := q.done + 1 }).onWelt fun w => w.count b

theorem State.programmed_word (h : s.weltPulse b = some .word) : s.programmed b = s.wordStands b := by
  rw [State.programmed, State.pulse_of_word h]
  rfl

theorem State.programmed_first {k : Nat} (h : s.weltPulse b = some (.first k)) : s.programmed b = s.enterSector b k := by
  rw [State.programmed, State.pulse_of_first h]

theorem State.wordStands_bank : (s.wordStands b).bank b = { s.bank b with done := (s.bank b).done + 1 } := s.bank_onBank b _

theorem State.wordStands_frame (s : State) (b : Nat) : SameBut [.flash, .welt] s (s.wordStands b) :=
  ((s.onBank_frame _ _).mono (by simp)).trans ((State.onWelt_frame _ _).mono (by simp))

theorem State.suspend_again : (s.suspend.bank b).again = (s.bank b).again := by rw [State.suspend_bank]

theorem wordProgramDone_word (pulse : s.weltPulse b = some .word) (once : (s.bank b).again = false) :
    Answers (.wordProgramDone b true) s fun t =>
      t.bank b = { s.bank b with done := (s.bank b).done + 1, susp := (s.bank b).erasing } ∧ t.welt = s.welt.count b ∧
        Others s.suspend.flash.banks t.flash.banks b ∧ SameBut [.flash, .welt] s t := by
  obtain ⟨sector, run⟩ := execWordProgramDone_welt pulse true
  have word : s.suspend.weltPulse b = some .word := (s.suspend_samePulses.weltPulse b).trans pulse
  rw [State.pulseEnd_verified sector (State.suspend_again.trans once), State.programmed_word word] at run
  refine .of_next run ⟨?_, rfl, s.suspend.onBank_others b _, (s.suspend_frame.mono (by simp)).trans (s.suspend.wordStands_frame b)⟩
  rw [State.wordStands_bank, State.suspend_bank]

theorem wordProgramDone_repeats (pulse : s.weltPulse b = some .word) (once : (s.bank b).again = false) :
    Answers (.wordProgramDone b false) s fun t =>
      t.bank b = { s.bank b with again := true, susp := (s.bank b).erasing } ∧ Others s.suspend.flash.banks t.flash.banks b ∧
        SameBut [.flash] s t := by
  obtain ⟨sector, run⟩ := execWordProgramDone_welt pulse false
  rw [State.pulseEnd_repeats sector (State.suspend_again.trans once)] at run
  refine .of_next run ⟨?_, s.suspend.onBank_others b _, s.suspend_frame.trans (State.onBank_frame _ _ _)⟩
  rw [State.bank_onBank, State.suspend_bank]

/-- The repeat has verified: a transient of the bank (R34, R464). -/
def State.repeatVerified (s : State) (b : Nat) : State := (s.suspend.onBank b fun q => { q with again := false }).flashTransient b

theorem State.repeatVerified_samePulses : s.SamePulses (s.repeatVerified b) :=
  (s.suspend_samePulses.trans (s.suspend.again_samePulses b false)).trans ⟨rfl, rfl, fun _ => ⟨_, _, rfl⟩⟩

theorem State.repeatVerified_bank : (s.repeatVerified b).bank b = { s.bank b with susp := (s.bank b).erasing, again := false } := by
  refine (s.suspend.bank_onBank b _).trans ?_
  rw [State.suspend_bank]

theorem State.repeatVerified_frame (s : State) (b : Nat) : SameBut [.flash, .dev] s (s.repeatVerified b) :=
  ((s.suspend_frame.trans (State.onBank_frame _ _ _)).mono (by simp)).trans ((State.onDev_frame _ _).mono (by simp))

theorem wordProgramDone_madeGood (pulse : s.weltPulse b = some .word) (twice : (s.bank b).again = true) :
    Answers (.wordProgramDone b true) s fun t =>
      (t.bank b).done = (s.bank b).done + 1 ∧ (t.bank b).again = false ∧ t.welt = s.welt.count b ∧
        at' t.dev.flashTr b = at' s.dev.flashTr b + 1 ∧ SameBut [.flash, .dev, .welt] s t := by
  obtain ⟨sector, run⟩ := execWordProgramDone_welt pulse true
  have word : (s.repeatVerified b).weltPulse b = some .word := (State.repeatVerified_samePulses.weltPulse b).trans pulse
  rw [State.pulseEnd_madeGood sector (State.suspend_again.trans twice)] at run
  have bank : ((s.repeatVerified b).wordStands b).bank b =
      { s.bank b with susp := (s.bank b).erasing, again := false, done := (s.bank b).done + 1 } := by
    rw [State.wordStands_bank, State.repeatVerified_bank]
  refine .of_next (run.trans (congrArg _ (State.programmed_word word)))
    ⟨congrArg Bank.done bank, congrArg Bank.again bank, rfl, at'_upd_self _ _ _ b.isLt, ?_⟩
  exact ((s.repeatVerified_frame b).mono (by simp)).trans ((State.wordStands_frame _ b).mono (by simp))

/-! ### FIRST of a sector (R157, R190) -/

/-- Keeping erased sectors in reserve changes which sectors are in use and which are to be erased, nothing else. -/
theorem Bank.reserve_eq (tail : Word) (n : Nat) (q : Bank) :
    ∃ used eraseQ, q.reserve tail n = { q with used := used, eraseQ := eraseQ } := by
  induction n generalizing q with
  | zero => exact ⟨q.used, q.eraseQ, rfl⟩
  | succ n ih =>
    rw [Bank.reserve]
    split
    · exact ⟨q.used, q.eraseQ, rfl⟩
    · split
      · exact ⟨q.used, q.eraseQ, rfl⟩
      · next k f rest _ =>
        split
        · exact ⟨q.used, q.eraseQ, rfl⟩
        · obtain ⟨used, eraseQ, more⟩ := ih (Bank.queueErase k { q with used := rest })
          refine ⟨used, eraseQ, more.trans ?_⟩
          rw [Bank.queueErase]
          split
          · rfl
          · rfl

theorem State.enterSector_bank (k : Nat) :
    (s.enterSector b k).bank b = ((s.bank b).enter k (s.nextLpos b)).reserve s.welt.tail 16 := by
  rw [State.enterSector]
  split
  · exact s.bank_onBank b _
  · exact s.bank_onBank b _

theorem State.enterSector_frame (s : State) (b k : Nat) : SameBut [.flash, .welt] s (s.enterSector b k) :=
  ((s.onBank_frame _ _).mono (by simp)).trans (.ite ((State.writeEntry_frame _ _ _ _ _ _).mono (by simp)) (.refl _ _))

theorem State.suspend_nextLpos : s.suspend.nextLpos b = s.nextLpos b := by
  rw [State.nextLpos, State.nextLpos, State.suspend_bank]
  rfl

theorem wordProgramDone_first {k : Nat} (pulse : s.weltPulse b = some (.first k)) (once : (s.bank b).again = false) :
    Answers (.wordProgramDone b true) s fun t =>
      (t.bank b).at_ = k ∧ (t.bank b).first = s.nextLpos b ∧ (t.bank b).ahead = (s.bank b).ahead.filter (· != k) ∧
        (t.bank b).done = (s.bank b).done ∧ SameBut [.flash, .welt] s t := by
  obtain ⟨sector, run⟩ := execWordProgramDone_welt pulse true
  have first : s.suspend.weltPulse b = some (.first k) := (s.suspend_samePulses.weltPulse b).trans pulse
  rw [State.pulseEnd_verified sector (State.suspend_again.trans once), State.programmed_first first] at run
  obtain ⟨used, eraseQ, reserved⟩ := Bank.reserve_eq s.suspend.welt.tail 16 ((s.suspend.bank b).enter k (s.suspend.nextLpos b))
  have bank := (State.enterSector_bank k).trans reserved
  rw [State.suspend_nextLpos, State.suspend_bank] at bank
  exact .of_next run ⟨congrArg Bank.at_ bank, congrArg Bank.first bank, congrArg Bank.ahead bank, (congrArg Bank.done bank :),
    (s.suspend_frame.mono (by simp)).trans (s.suspend.enterSector_frame b k)⟩

/-! ### ERASE_SLICE_END (R457, R464) -/

theorem execEraseSliceEnd_none (idle : (s.bank b).eraseQ = []) (blank : Bool) : exec (.eraseSliceEnd b blank) s = .next s := by
  show execEraseSliceEnd b blank s = _
  rw [execEraseSliceEnd, idle]

/-- An erased sector leaves the erases and joins the erased reserve of the journal. -/
def Bank.blank (k : Nat) (q : Bank) : Bank :=
  { q with eraseQ := q.eraseQ.filter (· != k), slices := 0, eraseTwo := false, rewrite := q.rewrite.filter (· != k),
           ahead := if k < 1536 then q.ahead ++ [k] else q.ahead }

/-- A sector's erase is its `n`th (R471). -/
def Bank.counted (k n : Nat) (warn : Bool) (q : Bank) : Bank :=
  { q with erases := (k, n) :: q.erases.filter (fun c => c.1 != k), worn := if warn then k :: q.worn else q.worn }

theorem Bank.erasesOf_counted (k n : Nat) (warn : Bool) (q : Bank) : (q.counted k n warn).erasesOf k = n := by
  simp [Bank.erasesOf, Bank.counted]

theorem State.rewriteAsset_frame (s : State) (b k : Nat) : SameBut [.assets] s (s.rewriteAsset b k) := by
  have replaced (t : State) (a : Assets) : SameBut [.assets] t { t with assets := a } := by
    intro p hp
    cases p with
    | assets => exact absurd (.head _) hp
    | _ => rfl
  rw [State.rewriteAsset]
  split
  · exact .refl _ s
  · exact .trans (.foldl (fun t _ => .ite (replaced t _) (replaced t _)) _ s) (replaced _ _)

theorem State.countErase_banks (s : State) (b k : Nat) :
    ∃ warn, (s.countErase b k).flash.banks = upd s.flash.banks b (Bank.counted k ((s.bank b).erasesOf k + 1) warn) := by
  have told (t : State) (warn : Bool) (args : List Word) :
      (if warn then (t.onFlash fun f => { f with wearWarn := true }).raise 12 1 31 args else t).flash.banks = t.flash.banks := by
    split
    · exact (congrArg FlashCtl.banks (State.raise_frame _ 12 1 31 args .flash (by simp)) :)
    · rfl
  exact ⟨_, told (s.onBank b (Bank.counted k ((s.bank b).erasesOf k + 1) _)) _ _⟩

theorem State.countErase_frame (s : State) (b k : Nat) : SameBut [.flash, .dev, .ev, .ports] s (s.countErase b k) :=
  ((s.onBank_frame _ _).mono (by simp)).trans <|
    .ite (((State.onFlash_frame _ _).mono (by simp)).trans ((State.raise_frame _ _ _ _ _).mono (by simp))) (.refl _ _)

theorem State.sectorErased_banks (s : State) (b : Fin 2) (k : Nat) :
    ∃ warn, (s.sectorErased b k).flash.banks =
      upd s.flash.banks b fun q => (q.blank k).counted k ((s.bank b).erasesOf k + 1) warn := by
  have rewritten (t : State) (c : Prop) [Decidable c] : (if c then t.rewriteAsset b (k - 2048) else t).flash = t.flash :=
    (SameBut.ite (State.rewriteAsset_frame t _ _) (.refl _ t)) .flash (by simp)
  have erased := rewritten (s.onBank b (Bank.blank k)) ((s.bank b).rewrite.contains k ∧ sectorRegion k = 2)
  obtain ⟨warn, banks⟩ := State.countErase_banks
    (if (s.bank b).rewrite.contains k ∧ sectorRegion k = 2 then (s.onBank b (Bank.blank k)).rewriteAsset b (k - 2048)
      else s.onBank b (Bank.blank k)) b k
  rw [State.bank_congr erased, s.bank_onBank, erased] at banks
  exact ⟨warn, banks.trans (upd_upd _ _ _ _)⟩

theorem State.sectorErased_frame (s : State) (b k : Nat) : SameBut [.flash, .assets, .dev, .ev, .ports] s (s.sectorErased b k) :=
  ((s.onBank_frame _ _).mono (by simp)).trans <|
    .trans (.ite ((State.rewriteAsset_frame _ _ _).mono (by simp)) (.refl _ _)) ((State.countErase_frame _ _ _).mono (by simp))

section
variable {k : Nat} {rest : List Nat} (queue : (s.bank b).eraseQ = k :: rest) (serves : s.bankOut b = false)
  (runs : (s.bank b).susp = false) (free : s.weltPending = false)
include queue serves runs free

theorem execEraseSliceEnd_runs (blank : Bool) :
    exec (.eraseSliceEnd b blank) s =
      if blank then .next ((if (s.bank b).eraseTwo then s.flashTransient b else s).sectorErased b k)
      else if (s.bank b).slices + 1 < 32 then .next (s.onBank b fun q => { q with slices := q.slices + 1 })
      else if !(s.bank b).eraseTwo then .next (s.onBank b fun q => { q with slices := 0, eraseTwo := true })
      else .next (((s.onBank b fun q => { q with eraseQ := q.eraseQ.drop 1, slices := 0, eraseTwo := false }).sectorLost b k).lastingFlash
        b k false) := by
  have works : ¬ (s.bankOut b = true ∨ (s.bank b).susp = true ∨ s.weltPending = true) := by simp [serves, runs, free]
  show execEraseSliceEnd b blank s = _
  rw [execEraseSliceEnd, queue]
  exact if_neg works

theorem eraseSliceEnd_blank (first : (s.bank b).eraseTwo = false) :
    Answers (.eraseSliceEnd b true) s fun t =>
      (t.bank b).eraseQ = rest.filter (· != k) ∧ (t.bank b).erasesOf k = (s.bank b).erasesOf k + 1 ∧ (t.bank b).slices = 0 ∧
        (k < 1536 → k ∈ (t.bank b).ahead) ∧ Others s.flash.banks t.flash.banks b ∧
        SameBut [.flash, .assets, .dev, .ev, .ports] s t := by
  have run := execEraseSliceEnd_runs queue serves runs free true
  rw [if_pos rfl, if_neg (by rw [first]; decide)] at run
  obtain ⟨warn, banks⟩ := s.sectorErased_banks b k
  have bank : (s.sectorErased b k).bank b = ((s.bank b).blank k).counted k ((s.bank b).erasesOf k + 1) warn := by
    rw [State.bank, banks, at'_upd_self _ _ _ b.isLt]
    rfl
  have gone : ((s.bank b).blank k).eraseQ = rest.filter (· != k) := by
    rw [Bank.blank, queue, List.filter_cons_of_neg (by simp)]
  have joins (pool : k < 1536) : k ∈ ((s.bank b).blank k).ahead := by
    rw [Bank.blank, if_pos pool]
    exact List.mem_append_right _ (.head _)
  refine .of_next run ⟨?_, ?_, congrArg Bank.slices bank, fun pool => ?_, fun j other => ?_, s.sectorErased_frame b k⟩
  · rw [bank]
    exact gone
  · rw [bank]
    exact Bank.erasesOf_counted k _ warn _
  · rw [bank]
    exact joins pool
  · rw [banks]
    exact at'_upd_ne _ _ _ _ other

theorem eraseSliceEnd_again (more : (s.bank b).slices < 31) :
    Answers (.eraseSliceEnd b false) s fun t =>
      t.bank b = { s.bank b with slices := (s.bank b).slices + 1 } ∧ Others s.flash.banks t.flash.banks b ∧ SameBut [.flash] s t := by
  have run := execEraseSliceEnd_runs queue serves runs free false
  rw [if_neg (by decide), if_pos (by omega)] at run
  exact .of_next run ⟨s.bank_onBank b _, s.onBank_others b _, s.onBank_frame _ _⟩

theorem eraseSliceEnd_second (last : (s.bank b).slices = 31) (first : (s.bank b).eraseTwo = false) :
    Answers (.eraseSliceEnd b false) s fun t =>
      t.bank b = { s.bank b with slices := 0, eraseTwo := true } ∧ Others s.flash.banks t.flash.banks b ∧ SameBut [.flash] s t := by
  have run := execEraseSliceEnd_runs queue serves runs free false
  rw [if_neg (by decide), if_neg (by omega), if_pos (by rw [first]; rfl)] at run
  exact .of_next run ⟨s.bank_onBank b _, s.onBank_others b _, s.onBank_frame _ _⟩

end

/-! ### ERASE_RESUME (R460) -/

theorem eraseResume_resumes (free : s.weltPending = false) :
    Answers (.eraseResume b) s fun t =>
      t.bank b = { s.bank b with susp := false } ∧ Others s.flash.banks t.flash.banks b ∧ SameBut [.flash] s t :=
  .of_next (congrArg Host.Outcome.next (if_neg (by rw [free]; decide))) ⟨s.bank_onBank b _, s.onBank_others b _, s.onBank_frame _ _⟩

theorem execEraseResume_pending (pending : s.weltPending = true) : exec (.eraseResume b) s = .next s :=
  congrArg Host.Outcome.next (if_pos pending)

end

end Sys2Proof.Machine
end

section
/-!
PROOFS. The scrubbers of the flash and of the SRAM, and the settings (R34, R36, R116, R467..R470, R473, R475).
-/

namespace Sys2Proof.Machine

/-! ### The scrubber's passes (R467) -/

section
variable {s : State}

theorem State.mayFlash_iff : s.mayFlash = true ↔ s.dev.st = .ready ∨ s.dev.st = .safe := by
  simp [State.mayFlash]

theorem scrubPassStart_starts (enabled : s.flash.scrubEn = true) (rests : s.flash.pass = false) (up : s.mayFlash = true) :
    Answers .scrubPassStart s fun t =>
      t.flash.pass = true ∧ t.flash.fast = false ∧ t.flash.sector = 0 ∧ SameBut [.flash] s t :=
  .of_next (congrArg Host.Outcome.next (if_pos ⟨enabled, by rw [rests]; rfl, State.mayFlash_iff.mp up⟩)) ⟨rfl, rfl, rfl, s.onFlash_frame _⟩

theorem execScrubPassStart_not (h : s.flash.scrubEn = false ∨ s.flash.pass = true ∨ s.mayFlash = false) :
    exec .scrubPassStart s = .next s := by
  refine congrArg Host.Outcome.next (if_neg ?_)
  rintro ⟨enabled, rests, up⟩
  obtain off | runs | down := h
  · exact Bool.false_ne_true (off.symm.trans enabled)
  · rw [runs] at rests
    cases rests
  · exact Bool.false_ne_true (down.symm.trans (State.mayFlash_iff.mpr up))

end

/-! ### SCRUB_READ (R468..R470) -/

/-- The scrubber's place, its finding of correctable words and the stitch are kept. -/
structure State.ScrubKept (s t : State) : Prop where
  sector : t.flash.sector = s.flash.sector
  corr : t.flash.corr = s.flash.corr
  stitch : t.stitch = s.stitch

namespace State
variable {s : State}

namespace ScrubKept
variable {t u : State}

theorem refl (s : State) : s.ScrubKept s := ⟨rfl, rfl, rfl⟩

theorem trans (ht : s.ScrubKept t) (hu : t.ScrubKept u) : s.ScrubKept u :=
  ⟨hu.sector.trans ht.sector, hu.corr.trans ht.corr, hu.stitch.trans ht.stitch⟩

theorem ite {c : Prop} [Decidable c] (ht : s.ScrubKept t) (hu : s.ScrubKept u) : s.ScrubKept (if c then t else u) := by
  split
  · exact ht
  · exact hu

theorem of_sameBut {ps : List Part} (h : SameBut ps s t) (hf : Part.flash ∉ ps := by simp) (hs : Part.stitch ∉ ps := by simp) :
    s.ScrubKept t :=
  ⟨congrArg FlashCtl.sector (h .flash hf), congrArg FlashCtl.corr (h .flash hf), h .stitch hs⟩

end ScrubKept

theorem onBank_scrubKept {b : Nat} {f : Bank → Bank} : s.ScrubKept (s.onBank b f) := ⟨rfl, rfl, rfl⟩

theorem raise_scrubKept {cls code lane : Nat} {args : List Word} : s.ScrubKept (s.raise cls code lane args) :=
  .of_sameBut (s.raise_frame _ _ _ _)

theorem takeFresh_scrubKept : s.ScrubKept s.takeFresh.2 := ⟨rfl, rfl, rfl⟩

theorem repairAt_scrubKept {b sector : Nat} {e : Entry} : s.ScrubKept (s.repairAt b sector e) :=
  .trans (.of_sameBut (s.onWelt_frame _)) raise_scrubKept

theorem journalWeak_scrubKept {b k o : Nat} : s.ScrubKept (s.journalWeak b k o) := by
  rw [State.journalWeak, State.atEntry]
  split
  · split
    · exact .ite repairAt_scrubKept (.refl s)
    · exact .refl s
  · exact .refl s

/-- A correctable word is counted and told, and what it needs besides leaves the scrubber's place. -/
theorem scrubCorrectable_scrubKept {b addr : Nat} : (s.onFlash fun f => { f with corr := true }).ScrubKept (s.scrubCorrectable b addr) := by
  unfold State.scrubCorrectable
  extract_lets k seen s1 s2
  have told : s1.ScrubKept s2 := .ite (.refl _) (onBank_scrubKept.trans raise_scrubKept)
  have fresh : s2.ScrubKept s2.takeFresh.2 := takeFresh_scrubKept
  refine told.trans <| fresh.trans <| .ite (.refl _) ?_
  split
  · exact journalWeak_scrubKept
  · split
    · exact .ite onBank_scrubKept (.refl _)
    · exact .refl _
  · exact .ite (.refl _) onBank_scrubKept
  · exact .refl _

end State

section
variable {b : Fin 2} {s : State}

theorem execScrubRead_noPass (rests : s.flash.pass = false) (a : BitVec 21) (v : BitVec 2) : exec (.scrubRead b a v) s = .next s :=
  if_pos (.inl (by rw [rests]; rfl))

section
variable {a : BitVec 21} (pass : s.flash.pass = true) (enabled : s.flash.scrubEn = true) (serves : s.bankOut b = false)
  (erasing : (s.bank b).eraseQ.head? ≠ some (a.toNat / 512)) (used : s.sectorFree b (a.toNat / 512) = false)
include pass enabled serves erasing used

/-- A word of a sector that holds data is read, and not erased: the verdict decides. -/
theorem execScrubRead_read (v : BitVec 2) (programmed : v ≠ 0) :
    exec (.scrubRead b a v) s = if v = 1 then .next (s.scrubAt b a.toNat)
      else if v = 2 then .next ((s.scrubAt b a.toNat).scrubCorrectable b a.toNat)
      else .next ((s.scrubAt b a.toNat).scrubUncorrectable b a.toNat) := by
  have reads : ¬ ((!s.flash.pass) = true ∨ (!s.flash.scrubEn) = true ∨ s.bankOut b = true ∨ (s.bank b).eraseQ.head? = some (a.toNat / 512)) := by
    simp [pass, enabled, serves, erasing]
  have holds : (s.scrubAt b a.toNat).sectorFree b (a.toNat / 512) = false := used
  exact (if_neg reads).trans ((if_neg (by rw [holds]; decide)).trans (if_neg programmed))

theorem scrubRead_sound :
    Answers (.scrubRead b a 1) s fun t =>
      t.flash.sector = a.toNat / 512 ∧ t.flash.banks = s.flash.banks ∧ t.flash.corr = s.flash.corr ∧ SameBut [.flash] s t :=
  .of_next (execScrubRead_read pass enabled serves erasing used 1 (by decide)) ⟨rfl, rfl, rfl, s.onFlash_frame _⟩

theorem scrubRead_correctable :
    Answers (.scrubRead b a 2) s fun t => t.flash.sector = a.toNat / 512 ∧ t.flash.corr = true ∧ t.stitch = s.stitch := by
  have kept : ((s.scrubAt b a.toNat).onFlash fun f => { f with corr := true }).ScrubKept ((s.scrubAt b a.toNat).scrubCorrectable b a.toNat) :=
    State.scrubCorrectable_scrubKept
  exact .of_next (execScrubRead_read pass enabled serves erasing used 2 (by decide)) ⟨kept.sector, kept.corr, kept.stitch⟩

end

/-! ### What a lane that faults leaves of the device's record (R149, R153) -/

theorem EventNoted.foldl {α : Type} {f : State → α → State} (h : ∀ t a, EventNoted t (f t a)) (l : List α) (s : State) :
    EventNoted s (l.foldl f s) := by
  induction l generalizing s with
  | nil => exact .refl s
  | cons a rest ih => exact (h s a).trans (ih _)

theorem EventNoted.of_sameBut {ps : List Part} {s t : State} (h : SameBut ps s t) (hd : Part.dev ∉ ps := by simp)
    (hp : Part.ports ∉ ps := by simp) : EventNoted s t where
  dev := by rw [(h .dev hd : t.dev = s.dev)]
  port p := by rw [show t.port p = s.port p from congrArg (at' · p) (h .ports hp)]

theorem EventNoted.sramRet {s t : State} (h : EventNoted s t) : t.dev.sramRet = s.dev.sramRet := by rw [h.dev]

theorem State.breakFencesOver_noted (s : State) (i : Nat) : EventNoted s (s.breakFencesOver i) := by
  have broken (t : State) (seq : Word) (idx : Nat) : EventNoted t (t.breakFence seq idx) :=
    .trans (.of_sameBut (((t.onJobs_frame _).trans (State.onJobs_frame _ _)).mono (qs := [.jobs]) (by simp))) <|
      .trans (.of_sameBut (State.queueMark_frame _ _ _ _ _)) (State.raise_noted _ _ _ _ _)
  exact .foldl (fun t _ => .foldl (fun u _ => .ite (broken u _ _) (.refl u)) _ t) _ s

theorem State.holdLane_noted (s : State) (i : Nat) : EventNoted s (s.holdLane i) := by
  have shown : EventNoted s (s.showHeld i true) := .foldl (fun t _ => .of_sameBut (t.onRec_frame _ _ _)) _ s
  refine shown.trans (.foldl (fun t seq => ?_) _ _)
  split
  · exact .ite (.refl t) (.trans (.of_sameBut (t.onJob_frame _ _)) (State.raise_noted _ _ _ _ _))
  · exact .refl t

theorem State.faultOne_noted (s : State) (i : Nat) : EventNoted s (s.faultOne i) :=
  .ite (.refl s) <| .trans (.of_sameBut ((s.beginStop_frame i .fault).trans (State.onLane_frame _ _ _))) <|
    .trans (State.raise_noted _ _ _ _ _) <| .trans (State.breakFencesOver_noted _ i) <| .trans (State.holdLane_noted _ i) <|
      .of_sameBut (State.writeEntry_frame _ _ _ _ _ _)

/-- A head lane is no bound axis: it faults alone (R27). -/
theorem State.laneFault_head (s : State) {i : Nat} (hi : i < 2) : s.laneFault i = s.faultOne i := by
  have free : s.ownerPath i = none := by
    rw [State.ownerPath, List.find?_eq_none]
    intro x _
    have apart : i ∉ s.boundAxes x := by
      rw [State.boundAxes, List.mem_append]
      rintro (feed | clicker)
      · split at feed
        · have := List.mem_singleton.mp feed; omega
        · cases feed
      · split at clicker
        · have := List.mem_singleton.mp clicker; omega
        · cases clicker
    simp [apart]
  rw [State.laneFault, free]

/-! ### SRAM_SCRUB_TICK (R34, R36, R475) -/

theorem State.secondPart_sramRet (s : State) (code : Nat) : (s.secondPart code).dev.sramRet = s.dev.sramRet := by
  rw [State.secondPart]
  split
  · rfl
  · exact (State.raise_noted _ _ _ _ _).sramRet

/-- The bank of SRAM is out of service, its domain OFF, and the ports are told (R36, R39). -/
def State.sramOut (s : State) (b : Nat) : State :=
  (((s.onDev fun d => { d with sramRet := upd d.sramRet b fun _ => true }).onDom (4 + b) fun d => { d with st := .off }).raise 13 3 31
    [field 3 0 (3 + b)]).secondPart (3 + b)

theorem State.sramOut_sramRet : at' (s.sramOut b).dev.sramRet b = true := by
  rw [State.sramOut, State.secondPart_sramRet, (State.raise_noted _ _ _ _ _).sramRet]
  exact at'_upd_self _ _ _ b.isLt

theorem State.sramOut_frame (s : State) (b : Nat) : SameBut [.dev, .power, .ev, .ports] s (s.sramOut b) :=
  (((s.onDev_frame _).mono (by simp)).trans ((State.onDom_frame _ _ _).mono (by simp))).trans <|
    ((State.raise_frame _ _ _ _ _).mono (by simp)).trans ((State.secondPart_frame _ _).mono (by simp))

theorem State.retireSram_of_inService (serves : at' s.dev.sramRet b = false) : s.retireSram b = (s.sramOut b).faultOne b := by
  show (if at' s.dev.sramRet b then s else (s.sramOut b).laneFault b) = _
  rw [if_neg (by rw [serves]; decide), State.laneFault_head _ b.isLt]

theorem State.retireSram_retires (serves : at' s.dev.sramRet b = false) :
    at' (s.retireSram b).dev.sramRet b = true ∧ ((s.retireSram b).lane b).state = .fault ∧ (s.retireSram b).stitch = s.stitch := by
  rw [State.retireSram_of_inService serves]
  refine ⟨?_, State.faultOne_state _ (by omega), ?_⟩
  · rw [((s.sramOut b).faultOne_noted b).sramRet]
    exact State.sramOut_sramRet
  · exact ((s.sramOut b).faultOne_frame b .stitch (by simp)).trans (s.sramOut_frame b .stitch (by simp))

/-- An uncorrectable word of bank `b` was found within the last second (R34). -/
def State.sramErrSoon (s : State) (b : Nat) : Bool := (at' s.dev.sramErr b).any fun t => decide (s.stitch.cycles - t ≤ 200000000)

theorem execSramScrubTick_retired (out : at' s.dev.sramRet b = true) (v : BitVec 2) : exec (.sramScrubTick b v) s = .next s := if_pos out

/-- The verdict on a bank of SRAM in service, and whether it had an uncorrectable word within the last second, decide. -/
theorem execSramScrubTick_eq (serves : at' s.dev.sramRet b = false) (v : BitVec 2) :
    exec (.sramScrubTick b v) s = if v = 3 ∨ (v = 2 ∧ s.sramErrSoon b) then .next (s.retireSram b)
      else if v = 2 then .next (s.onDev fun d => { d with sramErr := upd d.sramErr b fun _ => some s.stitch.cycles,
                                                          sramTr := upd d.sramTr b (· + 1), transient := true })
      else .next s := by
  have soon : (match at' s.dev.sramErr b with | some t => decide (s.stitch.cycles - t ≤ 200000000) | none => false) = s.sramErrSoon b := by
    rw [State.sramErrSoon]
    cases at' s.dev.sramErr b <;> rfl
  rw [← soon]
  exact if_neg (by rw [serves]; decide)

theorem sramScrubTick_transient (serves : at' s.dev.sramRet b = false)
    (late : ∀ t0, at' s.dev.sramErr b = some t0 → 200000000 < s.stitch.cycles - t0) :
    Answers (.sramScrubTick b 2) s fun t =>
      at' t.dev.sramErr b = some s.stitch.cycles ∧ at' t.dev.sramTr b = at' s.dev.sramTr b + 1 ∧ t.dev.transient = true ∧
        SameBut [.dev] s t := by
  have first : s.sramErrSoon b = false := by
    rw [State.sramErrSoon, Option.any_eq_false]
    intro t0 err
    exact decide_eq_false (Nat.not_le.mpr (late t0 err))
  have run := execSramScrubTick_eq serves 2
  rw [if_neg (by rw [first]; decide), if_pos rfl] at run
  exact .of_next run ⟨at'_upd_self _ _ _ b.isLt, at'_upd_self _ _ _ b.isLt, rfl, s.onDev_frame _⟩

theorem sramScrubTick_retires (serves : at' s.dev.sramRet b = false) {v : BitVec 2} (bad : v = 3 ∨ (v = 2 ∧ s.sramErrSoon b)) :
    Answers (.sramScrubTick b v) s fun t => at' t.dev.sramRet b = true ∧ (t.lane b).state = .fault ∧ t.stitch = s.stitch :=
  .of_next ((execSramScrubTick_eq serves v).trans (if_pos bad)) (State.retireSram_retires serves)

theorem sramScrubTick_sound (serves : at' s.dev.sramRet b = false) {v : BitVec 2} (sound : v ≠ 3 ∧ v ≠ 2) :
    exec (.sramScrubTick b v) s = .next s :=
  (execSramScrubTick_eq serves v).trans ((if_neg fun bad => bad.elim sound.1 fun soon => sound.2 soon.1).trans (if_neg sound.2))

end

/-! ### SAVE and SCRUB_NOW (R116, R467, R473) -/

section
variable {p : Fin 2} {s : State}

theorem save_snapshots (up : s.mayFlash = true) (rests : s.flashBusy = false) :
    Answers (.save p) s fun t =>
      (∃ w, t.flash.saving = some w ∧ w = s.tbl.force.filter fun c => inSettings c.1) ∧ t.flash.stored = s.flash.stored ∧
        SameBut [.flash] s t := by
  have done : s.writeSave = (s.onFlash fun f => { f with saving := some (s.tbl.force.filter fun c => inSettings c.1) }, 0) :=
    (if_neg (by rw [up]; decide)).trans (if_neg (by rw [rests]; decide))
  exact .of_next ((congrArg (answer p false) done).trans answer_of_done) ⟨⟨_, rfl, rfl⟩, rfl, s.onFlash_frame _⟩

theorem scrubNow_starts (up : s.mayFlash = true) (rests : s.flashBusy = false) :
    Answers (.scrubNow p) s fun t =>
      t.flash.pass = true ∧ t.flash.fast = true ∧ t.flash.sector = 0 ∧ SameBut [.flash] s t := by
  have done : s.writeScrubNow = (s.onFlash fun f => f.startPass true, 0) :=
    (if_neg (by rw [up]; decide)).trans (if_neg (by rw [rests]; decide))
  exact .of_next ((congrArg (answer p false) done).trans answer_of_done) ⟨rfl, rfl, rfl, s.onFlash_frame _⟩

/-- A write of SAVE or SCRUB_NOW that is refused is noted at its port (R112, R116). -/
theorem flashWrite_refused {rc : Nat} (hrc : rc ≠ 0) (save : s.writeSave = (s, rc)) (scrub : s.writeScrubNow = (s, rc)) :
    (Answers (.save p) s fun t => (t.port p).noteCode = rc ∧ OnlyPort p s t) ∧
      (Answers (.scrubNow p) s fun t => (t.port p).noteCode = rc ∧ OnlyPort p s t) := by
  obtain ⟨t, run, noted⟩ := answer_refusal s p rc false hrc
  exact ⟨⟨t, (congrArg (answer p false) save).trans run, noted⟩, ⟨t, (congrArg (answer p false) scrub).trans run, noted⟩⟩

theorem flashWrite_busy (up : s.mayFlash = true) (busy : s.flashBusy = true) :
    (Answers (.save p) s fun t => (t.port p).noteCode = rcBusy ∧ OnlyPort p s t) ∧
      (Answers (.scrubNow p) s fun t => (t.port p).noteCode = rcBusy ∧ OnlyPort p s t) :=
  flashWrite_refused (by decide) ((if_neg (by rw [up]; decide)).trans (if_pos busy)) ((if_neg (by rw [up]; decide)).trans (if_pos busy))

theorem flashWrite_state (down : s.mayFlash = false) :
    (Answers (.save p) s fun t => (t.port p).noteCode = rcState ∧ OnlyPort p s t) ∧
      (Answers (.scrubNow p) s fun t => (t.port p).noteCode = rcState ∧ OnlyPort p s t) :=
  flashWrite_refused (by decide) (if_pos (by rw [down]; rfl)) (if_pos (by rw [down]; rfl))

/-! ### SAVE_DONE (R473) -/

theorem saveDone_commits {w : Store} (saving : s.flash.saving = some w) (verified : ∀ k < 2, s.bankOut k = true ∨ (s.bank k).again = false) :
    Answers .saveDone s fun t => t.flash.saving = none ∧ t.flash.stored = w ∧ SameBut [.flash] s t := by
  have none : ([0, 1].any fun b => !s.bankOut b && (s.bank b).again) = false := by
    have bank (k : Nat) (hk : k < 2) : (!s.bankOut k && (s.bank k).again) = false := by
      obtain out | once := verified k hk
      · simp [out]
      · simp [once]
    simp [bank]
  have run : exec .saveDone s = .next (s.onFlash fun f =>
      { f with saving := Option.none, stored := w, lostRecs := f.lostRecs.filter (· != 0) }) := by
    show execSaveDone s = _
    rw [execSaveDone, saving]
    exact if_neg (by rw [none]; decide)
  exact .of_next run ⟨rfl, rfl, s.onFlash_frame _⟩

theorem execSaveDone_none (idle : s.flash.saving = none) : exec .saveDone s = .next s := by
  show execSaveDone s = _
  rw [execSaveDone, idle]

end

/-! ### The obligation -/

/-- Settles O50: a welt pulse is read off the state in which the erases stand suspended; an erased sector is one change of its bank; what a
correctable word brings about leaves the scrubber's place, and the fault of a head lane leaves the banks retired. -/
theorem flashIsKept : Obligations.FlashIsKept := by
  refine ⟨fun b s => ⟨execWordProgramDone_none, fun pulse once => ⟨wordProgramDone_word pulse once, wordProgramDone_repeats pulse once⟩,
    wordProgramDone_madeGood, fun _ => wordProgramDone_first, execEraseSliceEnd_none, fun k rest queue serves runs free =>
      ⟨eraseSliceEnd_blank queue serves runs free, eraseSliceEnd_again queue serves runs free, eraseSliceEnd_second queue serves runs free⟩,
    eraseResume_resumes, execEraseResume_pending⟩, fun p b s => ⟨scrubPassStart_starts, execScrubPassStart_not,
    fun a pass enabled serves erasing used => ⟨scrubRead_sound pass enabled serves erasing used,
      scrubRead_correctable pass enabled serves erasing used⟩,
    fun a v rests => execScrubRead_noPass rests a v, fun v out => execSramScrubTick_retired out v, fun serves => ?sram, save_snapshots,
    flashWrite_busy, flashWrite_state, fun w => saveDone_commits, execSaveDone_none, scrubNow_starts⟩⟩
  case sram =>
    refine ⟨sramScrubTick_sound serves (by decide), sramScrubTick_sound serves (by decide), sramScrubTick_transient serves,
      fun t0 err soon => ?_, sramScrubTick_retires serves (.inl rfl)⟩
    exact sramScrubTick_retires serves (.inr ⟨rfl, by rw [State.sramErrSoon, err]; exact decide_eq_true soon⟩)

end Sys2Proof.Machine
end

section
/-!
PROOFS. Gray levels (R203).
-/

namespace Sys2Proof.Machine

/-- Full LEVEL writes a source level as it is. -/
theorem grayOf_fifteen (e : Nat) : grayOf 15 e = e := by
  rw [grayOf]
  omega

/-- Settles O58: `widen` is R203's table line by line, and only full LEVEL calls for a computation. -/
theorem grayLevelsWiden : Obligations.GrayLevelsWiden :=
  ⟨fun _ _ => rfl, fun _ _ => rfl, fun _ _ => rfl, fun _ _ => rfl, fun _ _ => rfl, grayOf_fifteen⟩

end Sys2Proof.Machine
end

section
/-!
PROOFS. The commands on an entry of the asset directory: STORE, PORT, verification, ABORT, DELETE and REPAIR (R193..R200).
-/

namespace Sys2Proof.Machine

/-! ### The directory: a read after a write (R193) -/

theorem find?_putDir (e : Nat) (d : DirEntry) (l : List (Nat × DirEntry)) : (putDir e d l).find? (fun c => c.1 == e) = some (e, d) := by
  induction l with
  | nil => exact List.find?_cons_of_pos (beq_self_eq_true e)
  | cons c rest ih =>
    rw [putDir]
    split
    · exact List.find?_cons_of_pos (beq_self_eq_true e)
    · split
      · exact List.find?_cons_of_pos (beq_self_eq_true e)
      · next other => exact (List.find?_cons_of_neg (by simpa using Ne.symm other)).trans ih

theorem State.dirEntry_setDir (s : State) (e : Nat) (d : DirEntry) : (s.setDir e d).dirEntry e = d := by
  by_cases empty : d = DirEntry.empty
  · have gone : (s.assets.dir.filter fun c => c.1 != e).find? (fun c => c.1 == e) = none := by simp
    subst empty
    simp only [State.dirEntry, State.setDir, if_true, gone]
  · simp only [State.dirEntry, State.setDir, if_neg empty, find?_putDir]

/-! ### Commands that end in a write of the entry -/

section
variable {c : Instr} {s : State} {e : Nat} {d : DirEntry}

theorem Answers.of_setDir (run : exec c s = .next (s.setDir e d)) : Answers c s fun t => t.dirEntry e = d ∧ SameBut [.assets] s t :=
  .of_next run ⟨s.dirEntry_setDir e d, s.setDir_frame e d⟩

/-- A command that also puts sectors into the background erase (R195, R196). -/
theorem Answers.of_erase {place off0 off1 size : Nat} (run : exec c s = .next ((s.eraseCopies place off0 off1 size).setDir e d)) :
    Answers c s fun t => t.dirEntry e = d ∧ SameBut [.assets, .flash] s t :=
  .of_next run ⟨State.dirEntry_setDir _ e d,
    ((s.eraseCopies_frame place off0 off1 size).mono (by simp)).trans ((State.setDir_frame _ e d).mono (by simp))⟩

end

section
variable {p : Fin 2} {e : BitVec 12} {s : State}

/-! ### STORE (R194, R195) -/

/-- The entry under a STORE into the run from sector `a` on. -/
def DirEntry.storing (d : DirEntry) (kind place size p a : Nat) : DirEntry :=
  ({ d with kind := kind, place := place, size := size } : DirEntry).begin .loading p place a

/-- The directory record of a STORE in progress shows its run at once (R195). -/
def DirEntry.shown (d : DirEntry) : DirEntry := { d with off0 := d.coff0, off1 := d.coff1 }

/-- The fields of STORE lie in the ranges of R194. -/
def storeInRange (kind place size : Nat) : Prop := 1 ≤ kind ∧ kind ≤ 3 ∧ place ≤ 2 ∧ 1 ≤ size ∧ size ≤ 1015808

section
variable {kind : BitVec 4} {place : BitVec 2} {size : BitVec 20} (range : storeInRange kind.toNat place.toNat size.toNat)
include range

theorem storeInRange.not_refused : ¬ (kind.toNat = 0 ∨ 3 < kind.toNat ∨ 2 < place.toNat ∨ size.toNat = 0 ∨ 1015808 < size.toNat) := by
  obtain ⟨some, kinds, places, words, room⟩ := range
  omega

theorem store_of_used (used : (s.dirEntry e.toNat).st ≠ .free) :
    Answers (.store p e kind place size) s fun t => (t.port p).noteCode = rcState ∧ OnlyPort p s t := by
  have refused : s.assetStore p e.toNat kind.toNat place.toNat size.toNat = (s, rcState) := (if_neg range.not_refused).trans (if_pos used)
  exact .of_refused rfl refused (by decide)

variable (free : (s.dirEntry e.toNat).st = .free) (out0 : s.bankOut 0 = true → place.toNat = 1)
  (out1 : s.bankOut 1 = true → place.toNat = 0)
include free out0 out1

/-- A STORE that R194 does not refuse is decided by the room there is. -/
theorem assetStore_of_free :
    s.assetStore p e.toNat kind.toNat place.toNat size.toNat =
      ((s.findRun place.toNat (assetSectors size.toNat)).elim (s.setDir e.toNat { s.dirEntry e.toNat with result := 2 }) fun a =>
        let c := (s.dirEntry e.toNat).storing kind.toNat place.toNat size.toNat p a
        (s.eraseCommand c).setDir e.toNat c.shown, 0) := by
  have serves : ¬ ((at' s.dev.flashRet 0 && place.toNat != 1) || (at' s.dev.flashRet 1 && place.toNat != 0)) = true := by
    simpa [State.bankOut] using And.intro out0 out1
  refine (if_neg range.not_refused).trans ((if_neg (not_not.mpr free)).trans ((if_neg serves).trans ?_))
  cases s.findRun place.toNat (assetSectors size.toNat) <;> rfl

theorem store_loads {a : Nat} (room : s.findRun place.toNat (assetSectors size.toNat) = some a) :
    Answers (.store p e kind place size) s fun t =>
      t.dirEntry e.toNat = ((s.dirEntry e.toNat).storing kind.toNat place.toNat size.toNat p a).shown ∧ SameBut [.assets, .flash] s t := by
  have done := assetStore_of_free (p := p) range free out0 out1
  rw [room] at done
  exact .of_erase (congrArg (answer p true) done)

theorem store_without_room (full : s.findRun place.toNat (assetSectors size.toNat) = none) :
    Answers (.store p e kind place size) s fun t =>
      t.dirEntry e.toNat = { s.dirEntry e.toNat with result := 2 } ∧ SameBut [.assets] s t := by
  have done := assetStore_of_free (p := p) range free out0 out1
  rw [full] at done
  exact .of_setDir (congrArg (answer p true) done)

end

/-! ### Words at PORT (R194) -/

section
variable {w : Word} (open' : (s.dirEntry e.toNat).st = .loading ∨ (s.dirEntry e.toNat).st = .repairing)
include open'

theorem not_neither_loading_nor_repairing : ¬ ((s.dirEntry e.toNat).st ≠ .loading ∧ (s.dirEntry e.toNat).st ≠ .repairing) := by
  rwa [← not_or, not_not]

theorem assetPortWrite_takes (own : (s.dirEntry e.toNat).owner = p.val) (due : (s.dirEntry e.toNat).taken < (s.dirEntry e.toNat).size)
    (room : s.stagedOf p < 512) :
    Answers (.assetPortWrite p e w) s fun t =>
      t.dirEntry e.toNat = { s.dirEntry e.toNat with
        taken := (s.dirEntry e.toNat).taken + 1, staged := (s.dirEntry e.toNat).staged ++ [w] } ∧ SameBut [.assets] s t := by
  have done : s.assetPort p e.toNat w = (s.setDir e.toNat { s.dirEntry e.toNat with
      taken := (s.dirEntry e.toNat).taken + 1, staged := (s.dirEntry e.toNat).staged ++ [w] }, 0) :=
    (if_neg (not_neither_loading_nor_repairing open')).trans ((if_neg (not_not.mpr own)).trans ((if_neg (by omega)).trans (if_neg (by omega))))
  exact .of_setDir (congrArg (answer p true) done)

theorem assetPortWrite_of_other (other : (s.dirEntry e.toNat).owner ≠ p.val) :
    Answers (.assetPortWrite p e w) s fun t => (t.port p).noteCode = rcBusy ∧ OnlyPort p s t := by
  have refused : s.assetPort p e.toNat w = (s, rcBusy) := (if_neg (not_neither_loading_nor_repairing open')).trans (if_pos other)
  exact .of_refused rfl refused (by decide)

end

/-! ### A STORE that fails: ABORT and 10 s without a word (R194, R196, R197) -/

theorem State.assetFail_of_store {e : Nat} (store : (s.dirEntry e).repairing = false) (r : Nat) :
    s.assetFail e r = (s.eraseCommand (s.dirEntry e)).setDir e { DirEntry.empty with result := r } :=
  if_neg (by rw [store]; decide)

/-- A command by which a STORE fails frees its entry. -/
theorem Answers.of_assetFail {c : Instr} {e r : Nat} (run : exec c s = .next (s.assetFail e r))
    (store : (s.dirEntry e).repairing = false) :
    Answers c s fun t => t.dirEntry e = { DirEntry.empty with result := r } ∧ SameBut [.assets, .flash] s t :=
  .of_erase (run.trans (congrArg _ (s.assetFail_of_store store r)))

section
variable (store : (s.dirEntry e.toNat).repairing = false)
include store

theorem assetAbort_frees (loads : (s.dirEntry e.toNat).st = .loading) (own : (s.dirEntry e.toNat).owner = p.val) :
    Answers (.assetAbort p e) s fun t =>
      t.dirEntry e.toNat = { DirEntry.empty with result := 5 } ∧ SameBut [.assets, .flash] s t := by
  have done : s.assetAbort p e.toNat = (s.assetFail e.toNat 5, 0) :=
    (if_neg (not_neither_loading_nor_repairing (.inl loads))).trans (if_neg (not_not.mpr own))
  exact .of_assetFail (congrArg (answer p true) done) store

theorem assetIdleTimeout_frees (open' : (s.dirEntry e.toNat).st = .loading ∨ (s.dirEntry e.toNat).st = .repairing) :
    Answers (.assetIdleTimeout e) s fun t =>
      t.dirEntry e.toNat = { DirEntry.empty with result := 5 } ∧ SameBut [.assets, .flash] s t :=
  .of_assetFail (if_pos open') store

/-! ### Verification (R195) -/

variable (verifying : (s.dirEntry e.toNat).st = .verifying)
include verifying

theorem assetVerifyDone_readies (sound : (s.asStored e.toNat).verifyResult e.toNat = 1) :
    Answers (.assetVerifyDone e) s fun t =>
      ((t.dirEntry e.toNat).st = .ready ∧ (t.dirEntry e.toNat).result = 1 ∧
        (t.dirEntry e.toNat).gen = ((s.dirEntry e.toNat).gen + 1) % 4096) ∧ SameBut [.assets] s t := by
  have verified : s.assetVerified e.toNat = s.setDir e.toNat { ((s.asStored e.toNat).dirEntry e.toNat).settled with
      st := .ready, result := 1, deps := if (s.dirEntry e.toNat).kind = 3 then ((s.asStored e.toNat).template e.toNat).deps else [],
      gen := ((s.dirEntry e.toNat).gen + 1) % 4096 } :=
    (if_neg (not_not.mpr sound)).trans (if_neg (by rw [store]; decide))
  have run : exec (.assetVerifyDone e) s = .next (s.assetVerified e.toNat) := congrArg Host.Outcome.next (if_pos verifying)
  refine (Answers.of_setDir (run.trans (congrArg _ verified))).mono fun t ⟨entry, frame⟩ => ⟨?_, frame⟩
  rw [entry]
  exact ⟨rfl, rfl, rfl⟩

theorem assetVerifyDone_fails (bad : (s.asStored e.toNat).verifyResult e.toNat ≠ 1) :
    Answers (.assetVerifyDone e) s fun t =>
      t.dirEntry e.toNat = { DirEntry.empty with result := (s.asStored e.toNat).verifyResult e.toNat } ∧
        SameBut [.assets, .flash] s t := by
  have verified : s.assetVerified e.toNat = s.assetFail e.toNat ((s.asStored e.toNat).verifyResult e.toNat) := if_pos bad
  have run : exec (.assetVerifyDone e) s = .next (s.assetVerified e.toNat) := congrArg Host.Outcome.next (if_pos verifying)
  exact .of_assetFail (run.trans (congrArg _ verified)) store

end

theorem execAssetVerifyDone_of_not_verifying (rests : (s.dirEntry e.toNat).st ≠ .verifying) : exec (.assetVerifyDone e) s = .next s :=
  congrArg Host.Outcome.next (if_neg rests)

theorem execAssetIdleTimeout_of_free (free : (s.dirEntry e.toNat).st = .free) : exec (.assetIdleTimeout e) s = .next s :=
  if_neg (by rw [free]; decide)

/-! ### DELETE (R194, R198, R199) -/

theorem delete_frees (stored : (s.dirEntry e.toNat).st = .ready ∨ (s.dirEntry e.toNat).st = .damaged) (jobs : s.jobsOf e.toNat = 0)
    (deps : s.depsOf e.toNat = 0) :
    Answers (.delete p e) s fun t => t.dirEntry e.toNat = { DirEntry.empty with result := 1 } ∧ SameBut [.assets, .flash] s t := by
  have done : s.assetDelete e.toNat =
      ((s.eraseRecord (s.dirEntry e.toNat)).setDir e.toNat { DirEntry.empty with result := 1 }, 0) := if_pos ⟨stored, jobs, deps⟩
  exact .of_erase (congrArg (answer p true) done)

theorem delete_of_used (used : (s.dirEntry e.toNat).st ≠ .ready ∧ (s.dirEntry e.toNat).st ≠ .damaged ∨ s.jobsOf e.toNat ≠ 0 ∨
      s.depsOf e.toNat ≠ 0) :
    Answers (.delete p e) s fun t => (t.port p).noteCode = rcState ∧ OnlyPort p s t := by
  have refused : s.assetDelete e.toNat = (s, rcState) := if_neg fun ⟨stored, jobs, deps⟩ =>
    used.elim (fun rests => stored.elim rests.1 rests.2) fun referenced => referenced.elim (· jobs) (· deps)
  exact .of_refused rfl refused (by decide)

/-! ### REPAIR (R200) -/

/-- The placement of a REPAIR: that of the record, in the banks in service (R37, R200). -/
def State.repairPlace (s : State) (e : Nat) : Nat := if s.bankOut 0 then 1 else if s.bankOut 1 then 0 else (s.dirEntry e).place

variable {size : BitVec 20}

theorem repair_of_sound (sound : (s.dirEntry e.toNat).st ≠ .damaged) :
    Answers (.repair p e size) s fun t => (t.port p).noteCode = rcState ∧ OnlyPort p s t :=
  .of_refused (r := s.assetRepair p e.toNat size.toNat) rfl (if_pos sound) (by decide)

section
variable (damaged : (s.dirEntry e.toNat).st = .damaged)
include damaged

theorem repair_of_other_size (other : size.toNat ≠ (s.dirEntry e.toNat).size) :
    Answers (.repair p e size) s fun t => (t.port p).noteCode = rcRange ∧ OnlyPort p s t := by
  have refused : s.assetRepair p e.toNat size.toNat = (s, rcRange) := (if_neg (not_not.mpr damaged)).trans (if_pos other)
  exact .of_refused rfl refused (by decide)

variable (same : size.toNat = (s.dirEntry e.toNat).size)
include same

/-- A REPAIR that R200 does not refuse is decided by the room there is. -/
theorem assetRepair_of_damaged :
    s.assetRepair p e.toNat size.toNat =
      ((s.findRun (s.repairPlace e.toNat) (assetSectors size.toNat)).elim (s.setDir e.toNat { s.dirEntry e.toNat with result := 2 }) fun a =>
        let c := (s.dirEntry e.toNat).begin .repairing p (s.repairPlace e.toNat) a
        (s.eraseCommand c).setDir e.toNat c, 0) := by
  have place : (if at' s.dev.flashRet 0 then 1 else if at' s.dev.flashRet 1 then 0 else (s.dirEntry e.toNat).place) =
      s.repairPlace e.toNat := rfl
  refine (if_neg (not_not.mpr damaged)).trans ((if_neg (not_not.mpr same)).trans ?_)
  simp only [place]
  cases s.findRun (s.repairPlace e.toNat) (assetSectors size.toNat) <;> rfl

theorem repair_begins {a : Nat} (room : s.findRun (s.repairPlace e.toNat) (assetSectors size.toNat) = some a) :
    Answers (.repair p e size) s fun t =>
      t.dirEntry e.toNat = (s.dirEntry e.toNat).begin .repairing p (s.repairPlace e.toNat) a ∧ SameBut [.assets, .flash] s t := by
  have done := assetRepair_of_damaged (p := p) damaged same
  rw [room] at done
  exact .of_erase (congrArg (answer p true) done)

theorem repair_without_room (full : s.findRun (s.repairPlace e.toNat) (assetSectors size.toNat) = none) :
    Answers (.repair p e size) s fun t =>
      t.dirEntry e.toNat = { s.dirEntry e.toNat with result := 2 } ∧ SameBut [.assets] s t := by
  have done := assetRepair_of_damaged (p := p) damaged same
  rw [full] at done
  exact .of_setDir (congrArg (answer p true) done)

end

end

/-! ### The obligation -/

/-- Settles O33: every command that is not refused writes one entry, and what the obligation says of the entry is read off what was
written. -/
theorem assetsAreManaged : Obligations.AssetsAreManaged := by
  refine ⟨fun p e kind place size w s => ⟨fun k1 k3 pl n1 n free out0 out1 => ⟨fun a room => ?loads, fun full => ?full⟩,
    fun k1 k3 pl n1 n used => store_of_used ⟨k1, k3, pl, n1, n⟩ used, assetPortWrite_takes, assetPortWrite_of_other,
    fun verifying sound store => ?readies, fun verifying bad store => assetVerifyDone_fails store verifying bad,
    execAssetVerifyDone_of_not_verifying, fun loads own store => ?aborted, fun open' store => ?idle, execAssetIdleTimeout_of_free⟩,
    fun p e size s => ⟨delete_frees, delete_of_used, fun damaged same => ⟨fun a room => ?repairs, repair_without_room damaged same⟩,
      repair_of_other_size, repair_of_sound⟩⟩
  case loads =>
    refine (store_loads ⟨k1, k3, pl, n1, n⟩ free out0 out1 room).mono fun t ⟨entry, frame⟩ => ?_
    rw [entry]
    exact ⟨rfl, rfl, rfl, rfl, rfl, frame⟩
  case full =>
    refine (store_without_room ⟨k1, k3, pl, n1, n⟩ free out0 out1 full).mono fun t ⟨entry, frame⟩ => ?_
    rw [entry]
    exact ⟨rfl, free, frame⟩
  case readies =>
    exact (assetVerifyDone_readies store verifying sound).mono fun t ⟨⟨st, result, gen⟩, frame⟩ => ⟨st, result, gen, frame⟩
  case aborted =>
    refine (assetAbort_frees store loads own).mono fun t ⟨entry, frame⟩ => ?_
    rw [entry]
    exact ⟨rfl, rfl, frame⟩
  case idle =>
    refine (assetIdleTimeout_frees store open').mono fun t ⟨entry, frame⟩ => ?_
    rw [entry]
    exact ⟨rfl, rfl, frame⟩
  case repairs =>
    refine (repair_begins damaged same room).mono fun t ⟨entry, frame⟩ => ?_
    rw [entry]
    exact ⟨rfl, rfl, rfl, rfl, rfl, frame⟩

end Sys2Proof.Machine
end

section
/-!
PROOFS. What the work on a head path leaves of the sensors: the clicker and its switches, a search and a calibration (R286..R289, R296..R299).
-/

namespace Sys2Proof.Machine

/-- Every media sensor keeps its readings; the sensor inputs and the solenoid channels stay. -/
structure State.SensorsKept (s t : State) : Prop where
  reads : ∀ n, (at' t.mss n).reads = (at' s.mss n).reads
  snss : t.snss = s.snss
  chans : t.chans = s.chans

namespace State.SensorsKept
variable {s t u : State}

theorem refl : s.SensorsKept s := ⟨fun _ => rfl, rfl, rfl⟩

theorem trans (ht : s.SensorsKept t) (hu : t.SensorsKept u) : s.SensorsKept u :=
  ⟨fun n => (hu.reads n).trans (ht.reads n), hu.snss.trans ht.snss, hu.chans.trans ht.chans⟩

theorem ite {c : Prop} [Decidable c] (ht : s.SensorsKept t) (hu : s.SensorsKept u) : s.SensorsKept (if c then t else u) := by
  split
  · exact ht
  · exact hu

theorem foldl {α : Type} {f : State → α → State} (h : ∀ t a, SensorsKept t (f t a)) (l : List α) : s.SensorsKept (l.foldl f s) := by
  induction l generalizing s with
  | nil => exact refl
  | cons a l ih => exact (h s a).trans ih

theorem of_sameBut {ps : List Part} (h : SameBut ps s t) (out : .mss ∉ ps ∧ .snss ∉ ps ∧ .chans ∉ ps := by decide) : s.SensorsKept t :=
  ⟨fun n => congrArg (fun v => (at' v n).reads) (h .mss out.1), h .snss out.2.1, h .chans out.2.2⟩

end State.SensorsKept

/-! ### Evidence for a gate (R172) -/

theorem State.gateEvidence_frame (s : State) (g : Gate) (detail : Word) : SameBut [.welt] s (s.gateEvidence g detail) :=
  .ite (.refl _ s) <| (s.queueMark_frame _ _ _ _).trans <| (State.flushMarks_frame _).trans <|
    (State.writeEntry_frame _ _ _ _ _ _).trans (State.onGate_frame _ _ _ _)

theorem State.evidence_frame (s : State) (source srcidx : Nat) (detail : Word) : SameBut [.welt] s (s.evidence source srcidx detail) := by
  refine .foldl (fun t g => ?_) _ s
  split
  · exact .ite (t.gateEvidence_frame _ _) (.refl _ t)
  · exact .refl _ t

/-! ### A bound axis moves (R298, R316) -/

theorem State.pathMove_frame (s : State) (x n : Nat) (tgt : Int) (p : Prof) (free : Option Nat) :
    SameBut [.axes, .dev, .ev, .ports, .lanes, .jobs, .welt] s (s.pathMove x n tgt p free) := by
  have kept : SameBut [.axes, .dev, .ev, .ports] s ((s.onAx n fun a => { a with tgt := tgt, prof := p }).keepRest n 2) :=
    ((s.onAx_frame n _).mono (by simp)).trans (State.keepRest_frame _ n 2)
  exact .ite ((kept.mono (by simp)).trans ((State.stoppedWith_frame _ x).mono (by simp))) ((s.axStart_frame n _ _ _).mono (by simp))

theorem State.clkMove_step (s : State) (x : Fin 2) (step : HStep) (d : Int) (prof : Nat) :
    ((s.clkMove x step d prof).head x).step = step :=
  (congrArg (fun v => (at' v x.val).step) (State.pathMove_frame _ _ _ _ _ _ .heads (by simp))).trans
    (congrArg Head.step (s.head_onHead_fin x _))

theorem State.backOff_step (s : State) (x : Fin 2) (step : HStep) : ((s.backOff x step).head x).step = step := s.clkMove_step x step _ _

theorem State.strokeBegin_step (s : State) (x : Fin 2) :
    ((s.strokeBegin x).head x).step = if s.rotary x then .ret else .stroke := by
  rw [State.strokeBegin]
  cases type : s.rotary x
  · exact (congrArg (fun t : State => (t.head x).step) (if_neg (ne_true_of_eq_false type))).trans (State.clkMove_step _ x _ _ _)
  · exact (congrArg (fun t : State => (t.head x).step) (if_pos type)).trans (State.clkMove_step _ x _ _ _)

namespace State
variable {s : State}

theorem onHead_sensorsKept {x : Nat} {f : Head → Head} : s.SensorsKept (s.onHead x f) := .of_sameBut (s.onHead_frame x f)

theorem onAx_sensorsKept {n : Nat} {f : Axis → Axis} : s.SensorsKept (s.onAx n f) := .of_sameBut (s.onAx_frame n f)

theorem raise_sensorsKept {cls code lane : Nat} {args : List Word} : s.SensorsKept (s.raise cls code lane args) :=
  .of_sameBut (s.raise_frame cls code lane args)

theorem cameToRest_sensorsKept {i : Nat} : s.SensorsKept (s.cameToRest i) := .of_sameBut (s.cameToRest_frame i)

theorem pathMove_sensorsKept {x n : Nat} {tgt : Int} {p : Prof} {free : Option Nat} : s.SensorsKept (s.pathMove x n tgt p free) :=
  .of_sameBut (s.pathMove_frame x n tgt p free)

/-! ### The clicker (R296..R298) -/

theorem clkMove_sensorsKept {x : Nat} {step : HStep} {d : Int} {prof : Nat} : s.SensorsKept (s.clkMove x step d prof) :=
  onHead_sensorsKept.trans pathMove_sensorsKept

theorem strokeBegin_sensorsKept {x : Nat} : s.SensorsKept (s.strokeBegin x) :=
  onHead_sensorsKept.trans <| .ite clkMove_sensorsKept clkMove_sensorsKept

theorem cutFeed_sensorsKept {x : Nat} : s.SensorsKept (s.cutFeed x) :=
  .ite (onHead_sensorsKept.trans pathMove_sensorsKept) strokeBegin_sensorsKept

theorem endRecord_sensorsKept {i : Nat} {q : QItem} : s.SensorsKept (s.endRecord i q) := .of_sameBut (s.endRecord_frame i q)

theorem cutDone_sensorsKept {x : Nat} : s.SensorsKept (s.cutDone x) := by
  rw [State.cutDone]
  exact onAx_sensorsKept.trans <| onAx_sensorsKept.trans <| onAx_sensorsKept.trans <| onHead_sensorsKept.trans <| by
    split
    · exact .refl
    · refine .trans ?_ <| .ite cameToRest_sensorsKept <| endRecord_sensorsKept.trans <| .ite cameToRest_sensorsKept .refl
      split
      · exact .ite (.of_sameBut (State.gateEvidence_frame _ _ _)) .refl
      · exact .refl

theorem homeSwitch_sensorsKept {x : Nat} : s.SensorsKept (s.homeSwitch x) := by
  rw [State.homeSwitch]
  refine .ite ?_ onHead_sensorsKept
  exact onHead_sensorsKept.trans <| by
    split
    · exact onAx_sensorsKept.trans cutFeed_sensorsKept
    · exact onAx_sensorsKept.trans strokeBegin_sensorsKept
    · exact .ite cutDone_sensorsKept .refl
    · exact .refl

theorem sensorSwitch_sensorsKept {k : Nat} : s.SensorsKept (s.sensorSwitch k) :=
  .foldl (fun _ _ => .ite homeSwitch_sensorsKept .refl) _

/-! ### A search and a calibration (R286..R289) -/

theorem onMs_sensorsKept {n : Nat} {f : Ms → Ms} (hf : ∀ m, (f m).reads = m.reads := by exact fun _ => rfl) :
    s.SensorsKept (s.onMs n f) := by
  refine ⟨fun k => ?_, rfl, rfl⟩
  obtain same | changed := at'_upd_cases s.mss n k f
  · exact congrArg Ms.reads same
  · exact (congrArg Ms.reads changed).trans (hf _)

theorem putCfg_sensorsKept {o : Obj} {f : Field} {v : Nat} : s.SensorsKept (s.putCfg o f v) := .of_sameBut (s.putCfg_frame o f v)

theorem seekBegin_sensorsKept {x : Nat} : s.SensorsKept (s.seekBegin x) :=
  onHead_sensorsKept.trans <| .ite pathMove_sensorsKept .refl

theorem toGoal_sensorsKept {x : Nat} {goal : Int} : s.SensorsKept (s.toGoal x goal) :=
  onHead_sensorsKept.trans <| .ite pathMove_sensorsKept <| .ite onAx_sensorsKept onAx_sensorsKept

theorem edgeFound_sensorsKept {x : Nat} {edge : Int} : s.SensorsKept (s.edgeFound x edge) :=
  .ite .refl <| .ite onHead_sensorsKept <| onHead_sensorsKept.trans toGoal_sensorsKept

theorem faultOne_sensorsKept {i : Nat} : s.SensorsKept (s.faultOne i) := .of_sameBut (s.faultOne_frame i)

theorem calFail_sensorsKept {x : Nat} : s.SensorsKept (s.calFail x) :=
  .ite (.trans onMs_sensorsKept <| faultOne_sensorsKept.trans <| .ite cameToRest_sensorsKept .refl) <|
    .ite (onHead_sensorsKept.trans onMs_sensorsKept) <| onAx_sensorsKept.trans onHead_sensorsKept

theorem mediaOut_sensorsKept {n : Nat} : s.SensorsKept (s.mediaOut n) := by
  rw [State.mediaOut]
  split
  · exact .refl
  · exact raise_sensorsKept.trans <| .ite (.ite (.of_sameBut (State.beginStop_frame _ _ _)) .refl) <| .ite onHead_sensorsKept .refl

/-! ### A cycle of a media sensor (R283, R286, R289) -/

theorem msSide_sensorsKept {n ph : Nat} : s.SensorsKept (s.msSide n ph) := by
  unfold State.msSide
  extract_lets m mode pos gap len s1 m1 len1 counts s2 s3 isOut
  have sided : s.SensorsKept s1 := .ite onMs_sensorsKept onMs_sensorsKept
  have counted : s1.SensorsKept s2 := .ite onMs_sensorsKept .refl
  have edge : s2.SensorsKept s3 := by
    refine .ite ?_ .refl
    split
    · exact edgeFound_sensorsKept
    · exact .refl
  exact sided.trans <| .ite (counted.trans <| edge.trans <| .ite (.trans onMs_sensorsKept mediaOut_sensorsKept) .refl) <|
    .ite (.trans onMs_sensorsKept putCfg_sensorsKept) .refl

theorem ledCycle_sensorsKept {x n : Nat} : s.SensorsKept (s.ledCycle x n) :=
  .ite onMs_sensorsKept <| .trans onMs_sensorsKept <| .ite .refl <| .ite calFail_sensorsKept <|
    .trans onMs_sensorsKept <| onHead_sensorsKept.trans pathMove_sensorsKept

theorem learnCycle_sensorsKept {x n ph : Nat} : s.SensorsKept (s.learnCycle x n ph) :=
  .trans onMs_sensorsKept <| .trans onMs_sensorsKept <| .ite (putCfg_sensorsKept.trans <| putCfg_sensorsKept.trans <|
    putCfg_sensorsKept.trans <| putCfg_sensorsKept.trans <| .trans onMs_sensorsKept seekBegin_sensorsKept) .refl

/-- The cycle a calibration takes of its sensor's reading. -/
def calCycle (s : State) (n ph : Nat) : State :=
  match s.msPath n with
  | some (x, 0) =>
    if (s.lane x).state ≠ .running ∨ (s.lane x).stopping ∨ s.stitch.n < (s.lane x).relStitch then s
    else if (s.head x).step = .led then s.ledCycle x n
    else if (s.head x).step = .learn then s.learnCycle x n ph
    else s
  | _ => s

theorem calCycle_sensorsKept {n ph : Nat} : s.SensorsKept (s.calCycle n ph) := by
  rw [calCycle]
  split
  · exact .ite .refl <| .ite ledCycle_sensorsKept <| .ite learnCycle_sensorsKept .refl
  · exact .refl

end State

end Sys2Proof.Machine
end

section
/-!
PROOFS. Family 10: media sensors, the second attempt of a calibration, sensor inputs, tickets, the clicker after a jam.
-/

namespace Sys2Proof.Machine

/-! ### MS_CYCLE (R283) -/

/-- A reading enters a media sensor, which keeps the last four. -/
def Ms.taken (r : Nat) (m : Ms) : Ms := { m with reads := (r :: m.reads).take 4 }

section
variable {n : Fin 4} {lit dark ph : BitVec 12} {s : State}

theorem execMsCycle_on (on : s.cfg (.ms n) F.ms_MODE ≠ 0) :
    exec (.msCycle n lit (dark, ph)) s =
      .next (((s.onMs n (Ms.taken (lit.toNat - dark.toNat))).calCycle n ph.toNat).msSide n ph.toNat) :=
  if_neg on

theorem execMsCycle_off (off : s.cfg (.ms n) F.ms_MODE = 0) : exec (.msCycle n lit (dark, ph)) s = .next s := if_pos off

theorem msCycle_reads (on : s.cfg (.ms n) F.ms_MODE ≠ 0) :
    Answers (.msCycle n lit (dark, ph)) s fun t =>
      (at' t.mss n).reads = ((lit.toNat - dark.toNat) :: (at' s.mss n).reads).take 4 ∧ t.chans = s.chans := by
  have kept := (State.calCycle_sensorsKept (s := s.onMs n (Ms.taken (lit.toNat - dark.toNat))) (n := n) (ph := ph.toNat)).trans
    (State.msSide_sensorsKept (n := n) (ph := ph.toNat))
  have taken := at'_upd_self s.mss n (Ms.taken (lit.toNat - dark.toNat)) n.isLt
  exact .of_next (execMsCycle_on on) ⟨(kept.reads n).trans (congrArg Ms.reads taken), kept.chans⟩

end

/-! ### CAL_RETRY (R289) -/

theorem State.msa_of_msPath {s : State} {n x : Nat} (bound : s.msPath n = some (x, 0)) : s.msa x = n := by
  have mem := List.mem_of_head? bound
  simp only [List.mem_flatMap, List.mem_append] at mem
  obtain ⟨y, -, asMsa | asMsb⟩ := mem
  · split at asMsa
    · next msa =>
      obtain rfl : x = y := by simpa using asMsa
      exact beq_iff_eq.mp ((Bool.and_eq_true _ _).mp msa).2
    · simp at asMsa
  · split at asMsb <;> simp at asMsb

theorem State.ledBegin_frame (s : State) (x : Nat) (second : Bool) : SameBut [.mss, .heads] s (s.ledBegin x second) :=
  ((s.onMs_frame _ _).mono (by simp)).trans ((State.onHead_frame _ x _).mono (by simp))

/-- Its wait over, a calibration begins the LED search of its second attempt. -/
theorem calRetry_begins {s : State} {n : Fin 4} {x : Nat} (head : x < 2) (bound : s.msPath n = some (x, 0))
    (wait : (s.head x).step = .retryWait) (waits : (at' s.mss n).waits = true) (runs : (s.lane x).state = .running)
    (goes : (s.lane x).stopping = false) :
    Answers (.calRetry n) s fun t =>
      (t.head x).step = .led ∧ (at' t.mss n).second = true ∧ (at' t.mss n).led = 80 ∧ SameBut [.mss, .heads] s t := by
  have run : exec (.calRetry n) s = .next (s.ledBegin x true) := by
    show execCalRetry n s = _
    rw [execCalRetry, bound]
    exact if_pos ⟨wait, waits, runs, by rw [goes]; rfl⟩
  have begun (f : Ms → Ms) : at' (upd s.mss (s.msa x) f) n = f (at' s.mss n) := by
    rw [State.msa_of_msPath bound, at'_upd_self _ _ _ n.isLt]
  exact .of_next run ⟨congrArg Head.step (State.head_onHead _ x _ head), congrArg Ms.second (begun _), congrArg Ms.led (begun _),
    s.ledBegin_frame x true⟩

/-! ### SNS_SAMPLE (R291) -/

/-- `t` differs from `s` among the sensor inputs in input `n` at most, whose code stays. -/
structure State.CodeKept (n : Nat) (s t : State) : Prop where
  code : (at' t.snss n).code = (at' s.snss n).code
  others : Others s.snss t.snss n

namespace State.CodeKept
variable {n : Nat} {s t u : State}

theorem of_snss (h : t.snss = s.snss) : s.CodeKept n t := ⟨by rw [h], fun j _ => by rw [h]⟩

theorem refl : s.CodeKept n s := of_snss rfl

theorem trans (ht : s.CodeKept n t) (hu : t.CodeKept n u) : s.CodeKept n u :=
  ⟨hu.code.trans ht.code, fun j ne => (hu.others j ne).trans (ht.others j ne)⟩

theorem ite {c : Prop} [Decidable c] (ht : s.CodeKept n t) (hu : s.CodeKept n u) : s.CodeKept n (if c then t else u) := by
  split
  · exact ht
  · exact hu

theorem onSns {f : Sns → Sns} (hf : ∀ v, (f v).code = v.code := by exact fun _ => rfl) : s.CodeKept n (s.onSns n f) := by
  refine ⟨?_, fun j ne => at'_upd_ne s.snss n j f ne⟩
  obtain same | changed := at'_upd_cases s.snss n n f
  · exact congrArg Sns.code same
  · exact (congrArg Sns.code changed).trans (hf _)

end State.CodeKept

section
variable {n : Nat} {s : State}

theorem State.snsCount_codeKept : s.CodeKept n (s.snsCount n) := .onSns

theorem State.raise_codeKept {cls code lane : Nat} {args : List Word} : s.CodeKept n (s.raise cls code lane args) :=
  .of_snss (s.raise_frame cls code lane args .snss (by simp))

theorem State.evidence_codeKept {source srcidx : Nat} {detail : Word} : s.CodeKept n (s.evidence source srcidx detail) :=
  .of_snss (s.evidence_frame source srcidx detail .snss (by simp))

theorem State.sensorBroken_snss (arg : Word) : (s.sensorBroken arg).snss = s.snss := State.raise_frame _ _ _ _ _ .snss (by simp)

theorem State.sensorBroken_broken (arg : Word) : (s.sensorBroken arg).sup.broken = true :=
  congrArg Supply.broken (State.raise_frame { s with sup := { s.sup with broken := true } } _ _ _ _ .sup (by simp))

theorem State.snsChange_codeKept {on : Bool} : s.CodeKept n (s.snsChange n on) :=
  .trans .onSns <| .trans (.ite snsCount_codeKept <| .ite (snsCount_codeKept.trans raise_codeKept) <| .ite .onSns <|
    .ite (snsCount_codeKept.trans evidence_codeKept) .refl) (.of_snss State.sensorSwitch_sensorsKept.snss)

end

/-- A sample in a rail band of an input that watches them. -/
def snsRail (brk : Bool) (k : Nat) : Bool := brk && (decide (100 * k < 5 * 4095) || decide (95 * 4095 < 100 * k))

/-- A sensor input with its sample taken, before it is judged. -/
def Sns.sampled (brk : Bool) (k : Nat) (v : Sns) : Sns :=
  { v with code := k, rail := if snsRail brk k then min 400 (v.rail + 1) else 0,
           okRun := if snsRail brk k then 0 else min 2000 (v.okRun + 1), high := (snsLevel k brk).getD v.high, run := v.run + 1 }

def State.snsSampled (s : State) (n k : Nat) : State := s.onSns n (Sns.sampled (s.cfgB (.sns n) F.sns_BRK_EN) k)

section
variable {n : Fin 8} {k : BitVec 12} {s : State}

theorem State.snsSampled_snss (s : State) (n : Fin 8) (k : Nat) :
    at' (s.snsSampled n k).snss n = (at' s.snss n).sampled (s.cfgB (.sns n) F.sns_BRK_EN) k := at'_upd_self _ _ _ n.isLt

/-- However a sample is judged, its code stays. -/
theorem execSnsSample_codeKept : Answers (.snsSample n k) s ((s.snsSampled n k.toNat).CodeKept n) := by
  unfold Answers
  show ∃ t, execSnsSample n k s = .next t ∧ _
  unfold execSnsSample
  extract_lets m code brk rail s1 v on
  split
  · exact ⟨_, rfl, .ite .onSns .refl⟩
  split
  · exact ⟨_, rfl, State.CodeKept.trans .onSns (.of_snss (State.sensorBroken_snss _))⟩
  split
  · exact ⟨_, rfl, .onSns⟩
  split
  · exact ⟨_, rfl, .onSns⟩
  · exact ⟨_, rfl, State.snsChange_codeKept⟩

theorem snsSample_code : Answers (.snsSample n k) s fun t => (at' t.snss n).code = k.toNat ∧ Others s.snss t.snss n := by
  have sampled := s.snsSampled_snss n k.toNat
  exact execSnsSample_codeKept.mono fun t kept => ⟨kept.code.trans (congrArg Sns.code sampled), fun j ne =>
    (kept.others j ne).trans (at'_upd_ne s.snss n j _ ne)⟩

section
variable (sound : (at' s.snss n).broken = false) (watched : s.cfgB (.sns n) F.sns_BRK_EN = true) (stays : 399 ≤ (at' s.snss n).rail)
include sound watched stays

theorem execSnsSample_breaks (rail : snsRail true k.toNat = true) :
    exec (.snsSample n k) s = .next (((s.snsSampled n k.toNat).onSns n fun v =>
      { v with broken := true, okRun := 0, steady := 0 }).sensorBroken (BitVec.ofNat 36 (24 + n))) := by
  have sampled := s.snsSampled_snss n k.toNat
  rw [watched] at sampled
  have still : (at' (s.snsSampled n k.toNat).snss n).broken = false := (congrArg Sns.broken sampled).trans sound
  have railed : (at' (s.snsSampled n k.toNat).snss n).rail = min 400 ((at' s.snss n).rail + 1) :=
    (congrArg Sns.rail sampled).trans (if_pos rail)
  exact (if_neg (ne_true_of_eq_false still)).trans (if_pos ⟨watched, railed.ge.trans' (by omega)⟩)

theorem snsSample_breaks (low : 100 * k.toNat < 5 * 4095) :
    Answers (.snsSample n k) s fun t => (at' t.snss n).broken = true ∧ t.sup.broken = true := by
  have rail : snsRail true k.toNat = true := by simp [snsRail, low]
  refine .of_next (execSnsSample_breaks sound watched stays rail) ⟨?_, State.sensorBroken_broken _⟩
  rw [State.sensorBroken_snss]
  exact congrArg Sns.broken (at'_upd_self _ _ _ n.isLt)

end

end

/-! ### TICKET_TAKEN (R292) -/

/-- The ticket is gone and counted. -/
def Sns.ticketGone (count : Word) (v : Sns) : Sns := { v with present := false, count := (v.count + 1) % 2 ^ 32, last := count }

theorem State.snsCount_ticketGone (s : State) (n : Fin 8) :
    at' ((s.onSns n fun v => { v with present := false }).snsCount n).snss n = (at' s.snss n).ticketGone s.count := by
  rw [State.snsCount, State.onSns_snss, at'_upd_self _ _ _ n.isLt, State.onSns_snss, at'_upd_self _ _ _ n.isLt]
  rfl

theorem ticketTaken_counts {s : State} {n : Fin 8} (ticket : s.cfg (.sns n) F.sns_FUNC = 2) (present : (at' s.snss n).present = true)
    (off : (at' s.snss n).active = false) (sound : (at' s.snss n).broken = false)
    (gone : 20 * s.cfg (.sns n) F.sns_TAKEN ≤ (at' s.snss n).run) :
    Answers (.ticketTaken n) s fun t =>
      (at' t.snss n).present = false ∧ (at' t.snss n).count = ((at' s.snss n).count + 1) % 2 ^ 32 ∧
        (at' t.snss n).last = s.count ∧ Others s.snss t.snss n := by
  have run : exec (.ticketTaken n) s =
      .next ((((s.onSns n fun v => { v with present := false }).snsCount n).raise 7 9 31 [field 2 0 n]).evidence 1 n 0) :=
    if_pos ⟨ticket, present, by rw [off]; rfl, by rw [sound]; rfl, gone⟩
  refine .of_next run ?_
  rw [State.evidence_frame _ _ _ _ .snss (by simp), State.raise_frame _ _ _ _ _ .snss (by simp), s.snsCount_ticketGone n]
  exact ⟨rfl, rfl, rfl, fun j ne => (at'_upd_ne _ _ _ _ ne).trans (at'_upd_ne _ _ _ _ ne)⟩

/-! ### CLICKER_RECOVER (R299) -/

section
variable {x : Fin 2} {s : State}

theorem clickerRecover_acts (wait : (s.head x).step = .recover) (runs : (s.lane x).state = .running)
    (goes : (s.lane x).stopping = false) :
    Answers (.clickerRecover x) s fun t =>
      (t.head x).step = (if s.atHome x then (if s.rotary x then .ret else .stroke) else .backoff) := by
  have run : exec (.clickerRecover x) s = .next (if s.atHome x then s.strokeBegin x else s.backOff x .backoff) :=
    if_pos ⟨wait, runs, by rw [goes]; rfl⟩
  refine .of_next run ?_
  split
  · exact s.strokeBegin_step x
  · exact s.backOff_step x .backoff

theorem execClickerRecover_not (other : (s.head x).step ≠ .recover) : exec (.clickerRecover x) s = .next s :=
  if_neg fun h => other h.1

end

/-! ### The obligation -/

/-- Settles O37: what follows a reading or a sample leaves the readings and the code; the second attempt, the ticket and the broken input
are each one change of their sensor; the clicker's step is that of the move it begins with. -/
theorem mediaAndClicker : Obligations.MediaAndClicker := fun _ =>
  ⟨fun _ _ _ _ => msCycle_reads, fun _ _ _ _ => execMsCycle_off, fun _ _ => calRetry_begins, fun _ _ => snsSample_code,
    fun _ _ => snsSample_breaks, fun _ => ticketTaken_counts, fun _ => clickerRecover_acts, fun _ => execClickerRecover_not⟩

end Sys2Proof.Machine
end

section
/-!
PROOFS. The events of an axis: its step events (R308), a motion that has reached its target (R310..R312), the standstill drive (R321), the
second span of a stall (R356) and the grace of a gear's lag (R329).
-/

namespace Sys2Proof.Machine

/-! ### States that differ in one axis -/

theorem OnlyAxis.trans {n : Nat} {s t u : State} (ht : OnlyAxis n s t) (hu : OnlyAxis n t u) : OnlyAxis n s u :=
  ⟨ht.1.trans hu.1, fun j ne => (hu.2 j ne).trans (ht.2 j ne)⟩

theorem State.onAx_onlyAxis (s : State) (n : Nat) (f : Axis → Axis) : OnlyAxis n s (s.onAx n f) :=
  ⟨s.onAx_frame n f, fun _ ne => at'_upd_ne _ _ _ _ ne⟩

/-! ### STEP_EVENT (R308) -/

/-- The axis once the event `e`, the first of those placed, has been issued. -/
def Axis.issue (a : Axis) (e : Nat × Int) (rest : List (Nat × Int)) : Axis :=
  { a with events := rest, pos := e.2, evInt := e.1 - a.lastEv, evStride := (e.2 - a.pos).natAbs, lastEv := e.1 }

/-- A full step that gave no estimate of the load angle (R355): a second span counts it, nothing is judged. -/
def Axis.stepUnjudged (a : Axis) : Axis := { a with stallOk := false, span := a.span.map (· + 1) }

/-- No head path uses the axis. -/
def State.pathless (s : State) (n : Nat) : Prop :=
  ∀ x < 2, (s.cfgB (.head x) F.hb_CLK_EN = true → s.clkAx x ≠ n) ∧ (s.cfgB (.head x) F.hb_FEED_EN = true → s.feedAx x ≠ n)

/-- The estimate of the load angle that the samples of a full step give, where one can be formed (R355). -/
def State.estimate (s : State) (n : Nat) (up : Bool) (emfA emfB : List EmfSample) : Option Int :=
  if s.stallEst n then s.lambdaOf n up emfA emfB else none

/-- A full step has been moved, with the estimate its samples give. -/
def State.fullStepJudged (s : State) (n : Nat) (up : Bool) (emfA emfB : List EmfSample) : State :=
  s.fullStepDone n (s.estimate n up emfA emfB).isSome ((s.estimate n up emfA emfB).getD 0)

theorem State.stallEst_off {s : State} {n : Nat} (off : s.cfgB (.ax n) F.dr_STALL_EN = false) : s.stallEst n = false := by
  rw [State.stallEst, off]
  rfl

theorem State.lambdaOf_nil (s : State) (n : Nat) (up : Bool) (emfB : List EmfSample) : s.lambdaOf n up [] emfB = none := by
  have none : s.phaseEmf n [] = none := rfl
  unfold State.lambdaOf
  rw [none]
  cases s.phaseEmf n emfB <;> rfl

theorem State.estimate_none {s : State} {n : Nat} {up : Bool} {emfA emfB : List EmfSample}
    (blind : emfA = [] ∨ s.cfgB (.ax n) F.dr_STALL_EN = false) : s.estimate n up emfA emfB = none := by
  unfold State.estimate
  obtain rfl | off := blind
  · rw [State.lambdaOf_nil, ite_self]
  · exact if_neg (ne_true_of_eq_false (State.stallEst_off off))

theorem State.fullStepJudged_blind {s : State} {n : Nat} {up : Bool} {emfA emfB : List EmfSample}
    (blind : emfA = [] ∨ s.cfgB (.ax n) F.dr_STALL_EN = false) : s.fullStepJudged n up emfA emfB = s.onAx n Axis.stepUnjudged := by
  rw [State.fullStepJudged, State.estimate_none blind]
  rfl

theorem State.pathStep_of_pathless {s : State} {n : Nat} (free : s.pathless n) : s.pathStep n = s := by
  have skip (x : Nat) (hx : x < 2) :
      (if s.cfgB (.head x) F.hb_CLK_EN && s.clkAx x == n then s.clickStep x
        else if s.cfgB (.head x) F.hb_FEED_EN && s.feedAx x == n then s.feedStep x else s) = s := by
    obtain ⟨clicker, feed⟩ := free x hx
    rw [if_neg (by simpa using clicker), if_neg (by simpa using feed)]
  simp only [State.pathStep, List.foldl_cons, List.foldl_nil, skip 0 (by omega), skip 1 (by omega)]

section
variable {n : Fin 12} {s : State} {emfA emfB : List EmfSample}

theorem execStepEvent_none (late : ∀ e ∈ (s.ax n).events, s.nextPh ≤ e.1) : exec (.stepEvent n emfA emfB) s = .next s := by
  show execStepEvent n emfA emfB s = _
  unfold execStepEvent
  dsimp only
  split
  · rfl
  · next e rest events => exact if_pos (late e (events ▸ List.mem_cons_self))

theorem execStepEvent_issues {e : Nat × Int} {rest : List (Nat × Int)} (events : (s.ax n).events = e :: rest) (due : e.1 < s.nextPh) :
    ∃ crossed up : Bool, exec (.stepEvent n emfA emfB) s =
      .next ((if crossed then (s.onAx n (·.issue e rest)).fullStepJudged n up emfA emfB else s.onAx n (·.issue e rest)).pathStep n) := by
  refine ⟨s.fullStepOf n (s.ax n).pos != s.fullStepOf n e.2, (0 < e.2 - (s.ax n).pos) == (s.sigma n == 1), ?_⟩
  show execStepEvent n emfA emfB s = _
  simp only [execStepEvent, events, if_neg (Nat.not_le.mpr due)]
  rfl

theorem stepEvent_moves {e : Nat × Int} {rest : List (Nat × Int)} (events : (s.ax n).events = e :: rest) (due : e.1 < s.nextPh)
    (blind : emfA = [] ∨ s.cfgB (.ax n) F.dr_STALL_EN = false) (free : s.pathless n) :
    Answers (.stepEvent n emfA emfB) s fun t =>
      (t.ax n).pos = e.2 ∧ (t.ax n).events = rest ∧ (t.ax n).lastEv = e.1 ∧ (t.ax n).tgt = (s.ax n).tgt ∧ OnlyAxis n s t := by
  obtain ⟨crossed, up, run⟩ := execStepEvent_issues (emfA := emfA) (emfB := emfB) events due
  have issued := s.onAx_onlyAxis n (·.issue e rest)
  have axis := s.ax_onAx_fin n (·.issue e rest)
  cases crossed
  · replace run := run.trans (congrArg Host.Outcome.next (State.pathStep_of_pathless free))
    exact .of_next run ⟨congrArg Axis.pos axis, congrArg Axis.events axis, congrArg Axis.lastEv axis, (congrArg Axis.tgt axis :), issued⟩
  · rw [if_pos rfl, State.fullStepJudged_blind (s := s.onAx n (·.issue e rest)) blind,
      State.pathStep_of_pathless (s := (s.onAx n (·.issue e rest)).onAx n Axis.stepUnjudged) free] at run
    replace axis := (State.ax_onAx_fin _ n Axis.stepUnjudged).trans (congrArg Axis.stepUnjudged axis)
    exact .of_next run ⟨congrArg Axis.pos axis, congrArg Axis.events axis, congrArg Axis.lastEv axis, (congrArg Axis.tgt axis :),
      issued.trans (State.onAx_onlyAxis _ n _)⟩

end

/-! ### AXIS_AT_REST (R310..R312) -/

/-- An axis that comes to rest keeps its position, whatever distance remains (R312). -/
theorem State.keepRest_rests (s : State) (n : Fin 12) (cause : Nat) :
    ((s.keepRest n cause).ax n).mode = .rest ∧ ((s.keepRest n cause).ax n).pos = (s.ax n).pos := by
  have axis : (s.keepRest n cause).ax n =
      { (s.ax n).halt with mode := .rest, remd := (s.ax n).tgt - (s.ax n).pos, stop := none } := by
    unfold State.keepRest
    dsimp only
    split
    · exact s.ax_onAx_fin n _
    · exact ((State.raise_frame _ _ _ _ _).ax n).trans (s.ax_onAx_fin n _)
  rw [axis]
  exact ⟨rfl, rfl⟩

theorem State.endRunning_of_running {s : State} {i : Nat} {q : QItem} (runs : (s.lane i).running = some q) :
    s.endRunning i = s.endRecord i q := by
  rw [State.endRunning, runs]

section
variable {n : Fin 12} {s : State}

theorem execAxisAtRest_not (moves : s.axDone n = false) : exec (.axisAtRest n) s = .next s :=
  congrArg Host.Outcome.next (if_pos (by rw [moves]; rfl))

theorem axisAtRest_ends_move {q : QItem} (done : s.axDone n = true) (free : s.ownerPath (n.val + 2) = none) (move : (s.ax n).mode = .move)
    (goes : (s.lane (n.val + 2)).stopping = false) (path : (s.lane (n.val + 2)).pathStop = false) (stop : (s.ax n).stop ≠ some 2)
    (there : (s.ax n).pos = (s.ax n).tgt) (runs : (s.lane (n.val + 2)).running = some q) :
    Answers (.axisAtRest n) s fun t =>
      (t.ax n).mode = .rest ∧ (t.ax n).pos = (s.ax n).pos ∧ (t.lane (n.val + 2)).running = none ∧
        q ∉ (t.lane (n.val + 2)).queue ∧ t.heads = s.heads := by
  have rest : s.restNow n = (s.keepRest n 1).endRunning (n.val + 2) := by
    simp [State.restNow, move, goes, path, stop, there]
  have run : exec (.axisAtRest n) s = .next ((s.keepRest n 1).endRunning (n.val + 2)) := by
    show execAxisAtRest n s = _
    simp only [execAxisAtRest, done, free, rest, Bool.not_true, Bool.false_eq_true, if_false]
  obtain ⟨mode, pos⟩ := s.keepRest_rests n 1
  have kept : ((s.keepRest n 1).lane (n.val + 2)).running = some q := by rw [(s.keepRest_frame n 1).lane, runs]
  rw [State.endRunning_of_running kept] at run
  have ended := (s.keepRest n 1).endRecord_frame (n.val + 2) q
  obtain ⟨-, -, queue⟩ := (s.keepRest n 1).endRecord_without (q := q) (i := n.val + 2) (by omega)
  refine .of_next run ⟨?_, ?_, State.endRecord_running (by omega) kept, queue,
    (ended .heads (by simp)).trans (s.keepRest_frame n 1 .heads (by simp))⟩
  · rw [ended.ax n, mode]
  · rw [ended.ax n, pos]

/-! ### STANDSTILL (R321) -/

theorem standstill_begins (stepper : s.cfg (.ax n) F.ax_KIND = 1) (active : (s.ax n).sstate = 0) (rest : (s.ax n).mode = .rest)
    (idle : s.axisWorks n = false) (due : s.cfg (.ax n) F.ax_IDLE_ST ≤ (s.ax n).restN) :
    Answers (.standstill n) s fun t =>
      (t.ax n).sstate = s.cfg (.ax n) F.ax_SS_MODE + 1 ∧ (t.ax n).pos = (s.ax n).pos ∧ OnlyAxis n s t := by
  have axis := s.ax_onAx_fin n fun a => { a with sstate := s.cfg (.ax n) F.ax_SS_MODE + 1 }
  exact .of_next (if_pos ⟨stepper, active, rest, by rw [idle]; rfl, due⟩)
    ⟨congrArg Axis.sstate axis, (congrArg Axis.pos axis :), s.onAx_onlyAxis n _⟩

theorem execStandstill_not_due (early : (s.ax n).restN < s.cfg (.ax n) F.ax_IDLE_ST) : exec (.standstill n) s = .next s :=
  if_neg fun h => Nat.not_le.mpr early h.2.2.2.2

/-! ### STALL_SPAN_END (R356) -/

theorem stallSpanEnd_clears {k : Nat} (span : (s.ax n).span = some k) (ends : 4 * s.cfg (.ax n) F.dr_STALL_FS ≤ k ∨ (s.ax n).vel = 0) :
    Answers (.stallSpanEnd n) s fun t =>
      (t.ax n).span = none ∧ (t.ax n).stallRun = 0 ∧ (t.ax n).stallTr = satInc 4095 (s.ax n).stallTr ∧ OnlyAxis n s t := by
  have axis := s.ax_onAx_fin n fun a => { a with span := none, stallRun := 0, stallTr := satInc 4095 a.stallTr }
  have run : exec (.stallSpanEnd n) s =
      .next (s.onAx n fun a => { a with span := none, stallRun := 0, stallTr := satInc 4095 a.stallTr }) := by
    show execStallSpanEnd n s = _
    simp only [execStallSpanEnd, span, if_pos ends]
  exact .of_next run ⟨congrArg Axis.span axis, congrArg Axis.stallRun axis, congrArg Axis.stallTr axis, s.onAx_onlyAxis n _⟩

theorem execStallSpanEnd_none (none : (s.ax n).span = none) : exec (.stallSpanEnd n) s = .next s := by
  show execStallSpanEnd n s = _
  simp only [execStallSpanEnd, none]

end

/-! ### GEAR_LAG_GRACE (R328, R329) -/

/-- A stop that begins says where its lanes are to end; where they are now it leaves. -/
theorem State.beginStop_state (s : State) (i j : Nat) (goal : LaneState) : ((s.beginStop j goal).lane i).state = (s.lane i).state := by
  have told (t : State) (a : Nat) {f : Lane → Lane} (hf : ∀ l, (f l).state = l.state) : ((t.onLane a f).lane i).state = (t.lane i).state := by
    obtain same | changed := at'_upd_cases t.lanes a i f
    · exact congrArg Lane.state same
    · exact (congrArg Lane.state changed).trans (hf _)
  have path (cs : List Nat) (t : State) :
      ((cs.foldl (fun s a => if s.headOwns j then s.onLane a fun l => { l with pathStop := true } else s) t).lane i).state =
        (t.lane i).state := by
    induction cs generalizing t with
    | nil => rfl
    | cons a rest ih =>
      refine (ih _).trans ?_
      dsimp only
      split
      · exact told t a fun _ => rfl
      · rfl
  unfold State.beginStop
  split
  · rfl
  · have stopping := told s j (f := fun l => { l with stopping := true, stopTo := goal }) fun _ => rfl
    dsimp only
    split
    · exact (path _ _).trans stopping
    · exact stopping

/-- A lane in FAULT stays there when another one faults. -/
theorem State.faultOne_fault (s : State) {i : Nat} (j : Nat) (hi : i < 19) (fault : (s.lane i).state = .fault) :
    ((s.faultOne j).lane i).state = .fault := by
  by_cases h : i = j
  · exact h ▸ s.faultOne_state hi
  unfold State.faultOne
  split
  · exact fault
  · have told : SameBut [.jobs, .welt, .dev, .ev, .ports]
        ((s.beginStop j .fault).onLane j fun l => { l with state := .fault, wait := .none, raStep := 0 }) (s.leaveService j .fault 1) :=
      State.faultTold_frame _ _ _ _ _
    rw [told.lane i, State.lane_onLane_ne _ _ _ _ h, s.beginStop_state i j, fault]

theorem State.laneFault_fault (s : State) {i : Nat} (hi : i < 19) : ((s.laneFault i).lane i).state = .fault := by
  unfold State.laneFault
  split
  · exact State.faultOne_fault _ _ hi (s.faultOne_state hi)
  · exact s.faultOne_state hi

theorem State.laneFault_frame (s : State) (i : Nat) : SameBut [.lanes, .jobs, .welt, .dev, .ev, .ports] s (s.laneFault i) := by
  unfold State.laneFault
  split
  · exact (s.faultOne_frame i).trans (State.faultOne_frame _ _)
  · exact s.faultOne_frame i

section
variable {n : Fin 12} {s : State}

theorem State.disengage_gear {cause : Option Nat} (gear : (s.ax n).mode = .gear) :
    ((s.disengage n cause).ax n).mode = .disengage ∧ ((s.disengage n cause).ax n).gstate = .disengaging := by
  rw [State.disengage, State.ax_onAx_fin, if_pos gear]
  exact ⟨rfl, rfl⟩

theorem gearLagGrace_disengages (gear : (s.ax n).mode = .gear) (lag : (s.ax n).grace = some 0) :
    Answers (.gearLagGrace n) s fun t =>
      (t.ax n).mode = .disengage ∧ (t.ax n).gstate = .disengaging ∧ (t.lane (n.val + 2)).state = .fault := by
  refine .of_next (if_pos ⟨gear, lag⟩) ?_
  rw [(State.laneFault_frame _ _).ax n, (State.raise_frame _ _ _ _ _).ax n]
  obtain ⟨mode, gstate⟩ := State.disengage_gear (cause := some 4) gear
  exact ⟨mode, gstate, State.laneFault_fault _ (by omega)⟩

theorem execGearLagGrace_not (other : (s.ax n).grace ≠ some 0) : exec (.gearLagGrace n) s = .next s :=
  if_neg fun h => other h.2

end

/-! ### The obligation -/

/-- Settles O38: each event is the change it makes of its axis; a MOVE at its target also ends the record of its lane, and a lag that
outlasts its grace faults it. -/
theorem axesStepAndRest : Obligations.AxesStepAndRest := fun _ _ =>
  ⟨fun _ _ _ _ => stepEvent_moves, fun _ _ => execStepEvent_none, fun _ => axisAtRest_ends_move, execAxisAtRest_not, standstill_begins,
    execStandstill_not_due, fun _ => stallSpanEnd_clears, execStallSpanEnd_none, gearLagGrace_disengages, execGearLagGrace_not⟩

end Sys2Proof.Machine
end

section
/-!
PROOFS. A limit input that is the home switch of a clicker ends a CUT as it becomes active (R296, R298), and LIM_POS moves with the position
that the end of the CUT sets to 0.
-/

namespace Sys2Proof.Machine

/-- Path A cuts with axis 0 as its clicker, whose first limit input acts HARD and is the home switch; the blade is on its way home, 5
microsteps before it. -/
def cutReturning : State :=
  let s := ((State.reset.putCfg (.head 0) F.hb_CLK_EN 1).putCfg (.ax 0) F.ax_KIND 1).putCfg (.ax 0) F.ax_ACT0 1
  let s := s.onHead 0 fun h => { h with step := .ret, typ := tCut, left := true, cutTry := 1, cstate := 2 }
  let s := s.onLane 0 fun l => { l with state := .running, running := some ⟨1, 1, ⟨tCut, 0, false, false, false, 0, [0], 0, 0⟩⟩ }
  s.onAx 0 fun a => { a with mode := .move, pos := 5, tgt := -100 }

theorem cutReturning_open : (cutReturning.ax 0).lim0 = false := by decide +kernel

theorem cutReturning_acts : cutReturning.cfg (.ax 0) F.ax_ACT0 ≠ 0 := by decide +kernel

theorem cutReturning_pos : (cutReturning.ax 0).pos = 5 := by decide +kernel

/-- The switch ends the CUT, whose clicker stands at 0 from then on; the position noted for the limit is moved by the same -5. -/
theorem cutReturning_limit : Answers (.limit 0 0) cutReturning fun t => (t.head 0).step = .idle ∧ (t.ax 0).pos = 0 ∧ (t.ax 0).limPos = 0 :=
  ⟨_, rfl, by decide +kernel⟩

/-- Refutes O39: an activation notes POS in LIM_POS (R315), but where the limit input is the home switch that completes a CUT (R298) the
clicker's position is set to 0 and its stored positions move with it as at a reference (R319), LIM_POS too: it is no longer where the limit
acted. -/
theorem not_axesHomeAndLimit : ¬ Obligations.AxesHomeAndLimit := by
  intro h
  obtain ⟨-, -, -, -, -, -, -, limit, -⟩ := h 0 cutReturning
  obtain ⟨t, run, -, -, noted⟩ := limit cutReturning_open
  obtain ⟨u, run', -, -, moved⟩ := cutReturning_limit
  obtain rfl : t = u := Host.Outcome.next.inj (run.symm.trans run')
  have kept : (0 : Int) = 5 := moved.symm.trans ((noted cutReturning_acts).trans cutReturning_pos)
  exact absurd kept (by decide)

end Sys2Proof.Machine
end

section
/-!
PROOFS. The bridges of an axis: the chopper and the PWM periods (R341, R344, R351), the end of a DC_RUN (R345), faults with their recovery and
confirmation (R347..R350, R354), the bridge check (R343).
-/

namespace Sys2Proof.Machine

/-! ### What a change of one bridge makes of its axis -/

/-- `t` differs from `s` in one axis at most, and in it bridge `b` is now `q`. -/
def State.BridgeTo (s : State) (b : Nat) (q : Bridge) (t : State) : Prop := t.br b = q ∧ OnlyAxis (b / 2) s t

theorem Answers.of_bridge {c : Instr} {s t : State} {b : Nat} {q : Bridge} {P : State → Prop} (run : exec c s = .next t)
    (made : s.BridgeTo b q t) (h : ∀ u, u.br b = q → OnlyAxis (b / 2) s u → P u) : Answers c s P :=
  .of_next run (h t made.1 made.2)

theorem State.BridgeTo.trans {s t u : State} {b : Nat} {q r : Bridge} (ht : s.BridgeTo b q t) (hu : t.BridgeTo b r u) : s.BridgeTo b r u :=
  ⟨hu.1, ht.2.trans hu.2⟩

theorem State.BridgeTo.ite {s t u : State} {b : Nat} {q r : Bridge} {c : Prop} [Decidable c] (ht : s.BridgeTo b q t)
    (hu : s.BridgeTo b r u) : s.BridgeTo b (if c then q else r) (if c then t else u) := by
  split
  · exact ht
  · exact hu

theorem State.BridgeTo.refl (s : State) (b : Nat) : s.BridgeTo b (s.br b) s := ⟨rfl, .refl _ s, fun _ _ => rfl⟩

theorem State.onBr_bridgeTo (s : State) (b : Fin 24) (f : Bridge → Bridge) : s.BridgeTo b (f (s.br b)) (s.onBr b f) := by
  refine ⟨?_, s.onAx_onlyAxis _ _⟩
  unfold State.br State.onBr
  rw [s.ax_onAx _ _ (by omega)]
  split <;> rfl

theorem State.br_onBr (s : State) (b : Fin 24) (f : Bridge → Bridge) : (s.onBr b f).br b = f (s.br b) := (s.onBr_bridgeTo b f).1

theorem State.onAx_bridgeTo (s : State) (b : Fin 24) {f : Axis → Axis} (hf : ∀ a, (f a).a1 = a.a1 ∧ (f a).b1 = a.b1) :
    s.BridgeTo b (s.br b) (s.onAx (b / 2) f) := by
  refine ⟨?_, s.onAx_onlyAxis _ _⟩
  unfold State.br
  rw [s.ax_onAx _ _ (by omega), (hf _).1, (hf _).2]

/-- What an axis holds besides its bridges is left alone by a change of one of them. -/
theorem State.onBr_axis {α : Type} (s : State) (b : Fin 24) (f : Bridge → Bridge) (g : Axis → α)
    (hg : ∀ a q r, g { a with a1 := q, b1 := r } = g a) : g ((s.onBr b f).ax (b / 2)) = g (s.ax (b / 2)) := by
  unfold State.onBr
  rw [s.ax_onAx _ _ (by omega)]
  split
  · exact hg (s.ax _) (f (s.ax _).a1) (s.ax _).b1
  · exact hg (s.ax _) (s.ax _).a1 (f (s.ax _).b1)

/-- What a change of one bridge keeps of every bridge is kept in both bridges of every axis. -/
theorem State.onBr_keeps {α : Type} (s : State) (b n : Nat) {f : Bridge → Bridge} (g : Bridge → α) (hf : ∀ q, g (f q) = g q) :
    g ((s.onBr b f).ax n).a1 = g (s.ax n).a1 ∧ g ((s.onBr b f).ax n).b1 = g (s.ax n).b1 := by
  obtain same | changed := at'_upd_cases s.axes (b / 2) n fun a => if b % 2 = 0 then { a with a1 := f a.a1 } else { a with b1 := f a.b1 }
  · exact ⟨congrArg (g ·.a1) same, congrArg (g ·.b1) same⟩
  · rw [show (s.onBr b f).ax n = _ from changed]
    split
    · exact ⟨hf _, rfl⟩
    · exact ⟨rfl, hf _⟩

/-! ### The start of a regulation period (R337, R341) -/

/-- The state once bridge `b` has adopted the committed drive words. -/
def State.adoptDrive (s : State) (b : Nat) : State := s.onBr b fun q => { q with hold := [] }

theorem State.newPeriod_bridgeTo (s : State) (b : Fin 24) :
    s.BridgeTo b { s.br b with hold := [], sw := ((s.adoptDrive b).beginPeriod b).1, onCycles := ((s.adoptDrive b).beginPeriod b).2 }
      (s.newPeriod b) := by
  have adopted : s.BridgeTo b { s.br b with hold := [] } (s.adoptDrive b) := s.onBr_bridgeTo b _
  have begun := (s.adoptDrive b).onBr_bridgeTo b fun q =>
    { q with sw := ((s.adoptDrive b).beginPeriod b).1, onCycles := ((s.adoptDrive b).beginPeriod b).2 }
  rw [adopted.1] at begun
  exact adopted.trans begun

theorem State.newPeriod_onlyAxis (s : State) (b : Nat) : OnlyAxis (b / 2) s (s.newPeriod b) :=
  (s.onAx_onlyAxis _ _).trans (State.onAx_onlyAxis _ _ _)

theorem State.newPeriod_keeps {α : Type} (s : State) (b n : Nat) (g : Bridge → α) (hold : ∀ q, g { q with hold := [] } = g q)
    (sw : ∀ q w k, g { q with sw := w, onCycles := k } = g q) :
    g ((s.newPeriod b).ax n).a1 = g (s.ax n).a1 ∧ g ((s.newPeriod b).ax n).b1 = g (s.ax n).b1 := by
  obtain ⟨adoptedA, adoptedB⟩ := s.onBr_keeps b n g hold
  obtain ⟨begunA, begunB⟩ := (s.adoptDrive b).onBr_keeps b n g fun q =>
    sw q ((s.adoptDrive b).beginPeriod b).1 ((s.adoptDrive b).beginPeriod b).2
  exact ⟨begunA.trans adoptedA, begunB.trans adoptedB⟩

/-! ### A confirmation that passes (R349) -/

/-- The axis with one transient more of the class of cause `c`. -/
def Axis.countTransient (c : Nat) (a : Axis) : Axis :=
  if c ≤ 4 then { a with ocTr := satInc 4095 a.ocTr }
  else if c ≤ 7 then { a with gateTr := satInc 4095 a.gateTr }
  else { a with diagTr := satInc 4095 a.diagTr }

theorem Axis.countTransient_bridges (c : Nat) (a : Axis) : (a.countTransient c).a1 = a.a1 ∧ (a.countTransient c).b1 = a.b1 := by
  unfold Axis.countTransient
  split
  · exact ⟨rfl, rfl⟩
  · split <;> exact ⟨rfl, rfl⟩

theorem Axis.countTransient_oc {c : Nat} (h : c ≤ 4) (a : Axis) : (a.countTransient c).ocTr = satInc 4095 a.ocTr := by
  rw [Axis.countTransient, if_pos h]

theorem Axis.countTransient_gate {c : Nat} (above : 4 < c) (h : c ≤ 7) (a : Axis) :
    (a.countTransient c).gateTr = satInc 4095 a.gateTr := by
  rw [Axis.countTransient, if_neg (by omega), if_pos h]

/-- The state once the confirmation of bridge `b` is closed. -/
def State.unconfirmed (s : State) (b : Nat) : State := s.onBr b fun q => { q with confirm := none, confirmed1ms := false }

theorem State.bridgePass_eq (s : State) (b : Nat) :
    s.bridgePass b = (s.unconfirmed b).onAx (b / 2) (·.countTransient ((s.br b).confirm.getD 0)) := rfl

theorem State.bridgePass_bridgeTo (s : State) (b : Fin 24) :
    s.BridgeTo b { s.br b with confirm := none, confirmed1ms := false } (s.bridgePass b) := by
  have closed : s.BridgeTo b { s.br b with confirm := none, confirmed1ms := false } (s.unconfirmed b) := s.onBr_bridgeTo b _
  have counted := (s.unconfirmed b).onAx_bridgeTo b (Axis.countTransient_bridges ((s.br b).confirm.getD 0))
  rw [closed.1] at counted
  exact closed.trans counted

/-- Each class counts its transients in a counter of its own. -/
theorem State.bridgePass_counts (s : State) (b : Fin 24) {c : Nat} (opened : (s.br b).confirm = some c) (h : c ≤ 7) :
    (c ≤ 4 → ((s.bridgePass b).ax (b / 2)).ocTr = satInc 4095 (s.ax (b / 2)).ocTr) ∧
      (4 < c → ((s.bridgePass b).ax (b / 2)).gateTr = satInc 4095 (s.ax (b / 2)).gateTr) := by
  rw [s.bridgePass_eq, opened, State.ax_onAx _ _ _ (by omega)]
  refine ⟨fun low => ?_, fun high => ?_⟩
  · refine (Axis.countTransient_oc low _).trans (congrArg _ ?_)
    exact s.onBr_axis b _ Axis.ocTr fun _ _ _ => rfl
  · refine (Axis.countTransient_gate high h _).trans (congrArg _ ?_)
    exact s.onBr_axis b _ Axis.gateTr fun _ _ _ => rfl

/-! ### CHOPPER_TRIP and CHOPPER_OFF_END (R341) -/

/-- The bridge is in neither case that an end of the on-phase ignores. -/
theorem Bridge.on_phase {q : Bridge} (runs : q.st = .run) (on : q.sw = .drivePlus ∨ q.sw = .driveMinus) :
    ¬ (q.st ≠ .run ∨ (q.sw ≠ .drivePlus ∧ q.sw ≠ .driveMinus)) := by
  rintro (stopped | ⟨plus, minus⟩)
  · exact stopped runs
  · exact on.elim plus minus

/-- The bridge after a trip with reading `code`: the on-phase is over, and a judged period starts the counts of R351 anew. -/
def State.tripped (s : State) (b : Nat) (code : BitVec 12) (q : Bridge) : Bridge :=
  let n := satInc 64 q.nTrip
  { q with imeas := signed 12 code.toNat, sw := s.offPart b, nTrip := n, headroom := q.headroom && n < 64,
           nOpen := if s.judged b then 0 else q.nOpen, nSense := if s.judged b then 0 else q.nSense,
           nHead := if s.judged b then 0 else q.nHead }

section
variable {b : Fin 24} {code : BitVec 12} {s : State}

theorem chopperTrip_ends_on (runs : (s.br b).st = .run) (on : (s.br b).sw = .drivePlus ∨ (s.br b).sw = .driveMinus) :
    Answers (.chopperTrip b code) s fun t =>
      (t.br b).imeas = signed 12 code.toNat ∧ (t.br b).sw = s.offPart b ∧ (t.br b).nTrip = satInc 64 (s.br b).nTrip ∧
        (t.br b).st = .run ∧ OnlyAxis (b.val / 2) s t := by
  have trip := s.onBr_bridgeTo b (s.tripped b code)
  have pass := (s.onBr b (s.tripped b code)).bridgePass_bridgeTo b
  rw [trip.1] at pass
  refine .of_bridge (if_neg (Bridge.on_phase runs on)) (.ite (trip.trans pass) trip) fun t bridge only => ?_
  rw [bridge]
  split <;> exact ⟨rfl, rfl, rfl, runs, only⟩

theorem chopperOffEnd_begins (runs : (s.br b).st = .run) (current : s.inCurrent b = true) :
    Answers (.chopperOffEnd b) s fun t =>
      (t.br b).hold = [] ∧ (t.br b).sw = ((s.onBr b fun q => { q with hold := [] }).beginPeriod b).1 ∧
        (t.br b).imeas = (s.br b).imeas ∧ OnlyAxis (b.val / 2) s t := by
  refine .of_bridge (congrArg Host.Outcome.next (if_pos ⟨runs, current⟩)) (s.newPeriod_bridgeTo b) fun t bridge only => ?_
  rw [bridge]
  exact ⟨rfl, rfl, rfl, only⟩

/-! ### FULL_DUTY_END (R351) -/

/-- The bridge after an on-phase that no trip ended. -/
def State.fullDuty (s : State) (b : Nat) (code : BitVec 12) (q : Bridge) : Bridge :=
  { q with imeas := signed 12 code.toNat, sw := s.offPart b, nTrip := 0 }

theorem fullDutyEnd_unjudged (comm : Bool) (runs : (s.br b).st = .run) (on : (s.br b).sw = .drivePlus ∨ (s.br b).sw = .driveMinus)
    (unjudged : s.judged b = false) :
    Answers (.fullDutyEnd b code comm) s fun t =>
      (t.br b).imeas = signed 12 code.toNat ∧ (t.br b).sw = s.offPart b ∧ (t.br b).nTrip = 0 ∧ (t.br b).nOpen = (s.br b).nOpen ∧
        OnlyAxis (b.val / 2) s t := by
  have run : exec (.fullDutyEnd b code comm) s = .next (s.onBr b (s.fullDuty b code)) :=
    (if_neg (Bridge.on_phase runs on)).trans (if_pos (by rw [unjudged]; rfl))
  refine .of_bridge run (s.onBr_bridgeTo b _) fun t bridge only => ?_
  rw [bridge]
  exact ⟨rfl, rfl, rfl, rfl, only⟩

/-- The bridge after a judged full-duty period without current: `n` periods in a row towards OPEN, none towards the others. -/
def Bridge.openCounted (n : Nat) (q : Bridge) : Bridge := { q with nOpen := n, nSense := 0, nHead := 0 }

/-- Current is absent and the node did not commutate, and none of the three counts is full: the period counts towards OPEN. -/
theorem execFullDutyEnd_absent (runs : (s.br b).st = .run) (on : (s.br b).sw = .drivePlus ∨ (s.br b).sw = .driveMinus)
    (judged : s.judged b = true) (stepper : s.cfg (.ax (b.val / 2)) F.ax_KIND ≠ 2)
    (absent : 16 * signed 12 code.toNat < (s.drv b F.dr_OPEN_FR * (s.dac b).natAbs : Nat))
    (few : (s.br b).nOpen + 1 < s.drv b F.dr_OPEN_N) (sense : 0 < s.drv b F.dr_SENSE_N) (head : 0 < s.drv b F.dr_HEAD_N) :
    exec (.fullDutyEnd b code false) s = .next ((s.onBr b (s.fullDuty b code)).onBr b (·.openCounted ((s.br b).nOpen + 1))) := by
  refine (if_neg (Bridge.on_phase runs on)).trans ((if_neg (by rw [judged]; decide)).trans ?_)
  simp only [beq_eq_false_iff_ne.mpr stepper, absent, Bool.false_eq_true, if_false, decide_true, Bool.not_false, Bool.and_true,
    Bool.and_false, Bool.not_true, if_true, if_neg (Nat.not_le.mpr few), if_neg (Nat.not_le.mpr sense),
    if_neg (Nat.not_le.mpr head)]
  rfl

theorem fullDutyEnd_open (runs : (s.br b).st = .run) (on : (s.br b).sw = .drivePlus ∨ (s.br b).sw = .driveMinus)
    (judged : s.judged b = true) (stepper : s.cfg (.ax (b.val / 2)) F.ax_KIND ≠ 2)
    (absent : 16 * signed 12 code.toNat < (s.drv b F.dr_OPEN_FR * (s.dac b).natAbs : Nat))
    (few : (s.br b).nOpen + 1 < s.drv b F.dr_OPEN_N) (sense : 0 < s.drv b F.dr_SENSE_N) (head : 0 < s.drv b F.dr_HEAD_N) :
    Answers (.fullDutyEnd b code false) s fun t =>
      (t.br b).nOpen = (s.br b).nOpen + 1 ∧ (t.br b).imeas = signed 12 code.toNat ∧ (t.br b).st = .run ∧ OnlyAxis (b.val / 2) s t := by
  have duty := s.onBr_bridgeTo b (s.fullDuty b code)
  have counted := (s.onBr b (s.fullDuty b code)).onBr_bridgeTo b (·.openCounted ((s.br b).nOpen + 1))
  rw [duty.1] at counted
  refine .of_bridge (execFullDutyEnd_absent runs on judged stepper absent few sense head) (duty.trans counted) fun t bridge only => ?_
  rw [bridge]
  exact ⟨rfl, rfl, runs, only⟩

/-! ### PWM_PERIOD (R344, R345) -/

/-- The amplitude of a stepper moves toward its target with the periods of its bridge A. -/
def State.pwmSlewed (s : State) (b : Nat) : State := if b % 2 = 0 ∧ s.cfg (.ax (b / 2)) F.ax_KIND = 1 then s.slewV (b / 2) else s

theorem State.pwmSlewed_bridgeTo (s : State) (b : Fin 24) : s.BridgeTo b (s.br b) (s.pwmSlewed b) := by
  have slewed : s.BridgeTo b (s.br b) (s.slewV (b / 2)) := s.onAx_bridgeTo b fun _ => ⟨rfl, rfl⟩
  unfold State.pwmSlewed
  split
  · exact slewed
  · exact .refl s b

/-- The state with the reading of the shunt kept. -/
def State.sensed (s : State) (b : Nat) (code : BitVec 12) : State := s.onBr b fun q => { q with imeas := signed 12 code.toNat }

theorem State.sensed_bridgeTo (s : State) (b : Fin 24) (code : BitVec 12) :
    s.BridgeTo b { s.br b with imeas := signed 12 code.toNat } (s.sensed b code) := s.onBr_bridgeTo b _

theorem pwmPeriod_reads (runs : (s.br b).st = .run) (pwm : s.inCurrent b = false) :
    Answers (.pwmPeriod b code) s fun t =>
      (t.br b).imeas = signed 12 code.toNat ∧ (t.br b).st = .run ∧ (t.br b).hold = [] ∧ OnlyAxis (b.val / 2) s t := by
  have run : exec (.pwmPeriod b code) s = .next (((s.sensed b code).pwmSlewed b).newPeriod b) := if_neg (by simp [runs, pwm])
  have slewed := (s.sensed_bridgeTo b code).trans ((s.sensed b code).pwmSlewed_bridgeTo b)
  have begun := slewed.trans (State.newPeriod_bridgeTo _ b)
  rw [slewed.1, (s.sensed_bridgeTo b code).1] at begun
  refine .of_bridge run begun fun t bridge only => ?_
  rw [bridge]
  exact ⟨rfl, runs, rfl, only⟩

/-- No event of the chopper or of a PWM period acts on a bridge that is not in RUN. -/
theorem exec_notRun (other : (s.br b).st ≠ .run) :
    exec (.chopperTrip b code) s = .next s ∧ exec (.pwmPeriod b code) s = .next s ∧ exec (.chopperOffEnd b) s = .next s ∧
      ∀ comm, exec (.fullDutyEnd b code comm) s = .next s :=
  ⟨if_pos (.inl other), if_pos (.inl other), congrArg Host.Outcome.next (if_neg fun h => other h.1), fun _ => if_pos (.inl other)⟩

/-! ### DC_RUN_END (R345) -/

/-- A bridge whose DC_RUN has ended: in KEEP it drives on, else it takes SLOW or OFF. -/
def State.afterRun (s : State) (b : Nat) (q : Bridge) : Bridge :=
  let aft := s.drv b (if b % 2 = 0 then F.dr_AFT_A else F.dr_AFT_B)
  if aft = 2 then { q with keeps := true }
  else { q with drives := false, keeps := false, brakes := aft == 0, sw := s.heldSwitch b (if aft = 0 then .slow else .off) }

/-- The axis of a DC_RUN whose duration has passed. -/
def State.dcDone (s : State) (n : Nat) : State := s.onAx n fun a => { a with dcEnd := none, dcLeft := 0 }

theorem execDcRunEnd_none (none : (s.ax (b.val / 2)).dcEnd = .none) : exec (.dcRunEnd b) s = .next s := by
  show execDcRunEnd b s = _
  simp only [execDcRunEnd, none]

theorem execDcRunEnd_due {e : Nat} (ends : (s.ax (b.val / 2)).dcEnd = some e) (mine : (s.ax (b.val / 2)).dcBridge = (b.val % 2 == 1))
    (begun : (s.ax (b.val / 2)).took = false) (due : e ≤ s.nowPh + 4096) :
    exec (.dcRunEnd b) s =
      .next (((s.dcDone (b.val / 2)).onBr b (s.afterRun b)).endRunning (b.val / 2 + 2)) := by
  have elapsed : ¬ ((s.ax (b.val / 2)).dcBridge ≠ (b.val % 2 == 1) ∨ (s.ax (b.val / 2)).took = true ∨ s.nowPh + 4096 < e) := by
    rintro (other | waits | early)
    · exact other mine
    · exact absurd (begun.symm.trans waits) (by decide)
    · omega
  show execDcRunEnd b s = _
  simp only [execDcRunEnd, ends, if_neg elapsed]
  rfl

theorem dcRunEnd_ends {e : Nat} {r : QItem} (ends : (s.ax (b.val / 2)).dcEnd = some e)
    (mine : (s.ax (b.val / 2)).dcBridge = (b.val % 2 == 1)) (begun : (s.ax (b.val / 2)).took = false) (due : e ≤ s.nowPh + 4096)
    (runs : (s.lane (b.val / 2 + 2)).running = some r) :
    Answers (.dcRunEnd b) s fun t =>
      (t.ax (b.val / 2)).dcEnd = none ∧ (t.ax (b.val / 2)).dcLeft = 0 ∧ (t.lane (b.val / 2 + 2)).running = none ∧ t.heads = s.heads := by
  have run := execDcRunEnd_due ends mine begun due
  have kept : (((s.dcDone (b.val / 2)).onBr b (s.afterRun b)).lane (b.val / 2 + 2)).running = some r := runs
  rw [State.endRunning_of_running kept] at run
  have done := s.ax_onAx (b.val / 2) (fun a => { a with dcEnd := none, dcLeft := 0 }) (by omega)
  have ended := State.endRecord_frame ((s.dcDone (b.val / 2)).onBr b (s.afterRun b)) (b.val / 2 + 2) r
  refine .of_next run ⟨?_, ?_, State.endRecord_running (by omega) kept, ended .heads (by simp)⟩
  · rw [ended.ax]
    exact (State.onBr_axis _ b _ Axis.dcEnd fun _ _ _ => rfl).trans (congrArg Axis.dcEnd done)
  · rw [ended.ax]
    exact (State.onBr_axis _ b _ Axis.dcLeft fun _ _ _ => rfl).trans (congrArg Axis.dcLeft done)

end

/-- Settles O40: each event of a bridge in RUN is the change it makes of that bridge; a DC_RUN whose duration has passed ends the record of
its lane. -/
theorem bridgesChop : Obligations.BridgesChop := fun _ _ _ =>
  ⟨chopperTrip_ends_on, exec_notRun, chopperOffEnd_begins, fun runs on unjudged comm => fullDutyEnd_unjudged comm runs on unjudged,
    fullDutyEnd_open, pwmPeriod_reads, fun _ _ => dcRunEnd_ends, execDcRunEnd_none⟩

/-! ### BRIDGE_FAULT (R347, R348, R350) -/

/-- The bridge once cause `k` at element `elem` has turned it off for its recovery delay. -/
def Bridge.recovering (k elem : Nat) (q : Bridge) : Bridge :=
  { q with st := .recover, fcause := k, elem := elem, sw := .off, nOpen := 0, nSense := 0, nHead := 0 }

theorem State.bridgesLasting_fault (s : State) {n : Nat} (fs : List Lasting) (hn : n + 2 < 19) :
    ((s.bridgesLasting n fs).lane (n + 2)).state = .fault :=
  State.cameToRest_fault _ hn (State.laneFault_fault _ hn)

section
variable {s : State} {b : Fin 24} {k elem : Nat}

theorem State.bridgeDetect_not (other : (s.br b).st ≠ .run) : s.bridgeDetect b k elem = s := if_pos (.inl other)

/-- A bridge in RUN whose gates can be driven is open to detection. -/
theorem State.detects (runs : (s.br b).st = .run) (free : s.bridgeForced b = false) (supplied : s.sup.vgdLow = false) :
    ¬ ((s.br b).st ≠ .run ∨ s.bridgeForced b = true ∨ s.sup.vgdLow = true) := by
  simp [runs, free, supplied]

theorem State.bridgeDetect_first (runs : (s.br b).st = .run) (free : s.bridgeForced b = false) (supplied : s.sup.vgdLow = false)
    (first : (s.br b).confirm = none) : s.bridgeDetect b k elem = s.onBr b (Bridge.recovering k elem) :=
  (if_neg (State.detects runs free supplied)).trans (if_neg (by rw [first]; decide))

theorem State.bridgeDetect_again {c : Nat} (runs : (s.br b).st = .run) (free : s.bridgeForced b = false) (supplied : s.sup.vgdLow = false)
    (again : (s.br b).confirm = some c) : s.bridgeDetect b k elem = s.bridgesLasting (b / 2) [⟨b, k, elem, 0⟩] :=
  (if_neg (State.detects runs free supplied)).trans (if_pos (by rw [again]; rfl))

end

section
variable {b : Fin 24} {p : Probe} {s : State}

theorem execBridgeFault_some {k : Nat} (cause : s.bridgeCause b p = some k) :
    exec (.bridgeFault b (p.place, p.elem) (p.blank, p.value, p.sup)) s =
      .next (s.bridgeDetect b k (if p.place = .shunt then 4 else p.elem.val)) := by
  show execBridgeFault b _ _ s = _
  simp only [execBridgeFault, cause]

theorem execBridgeFault_none (none : s.bridgeCause b p = .none) :
    exec (.bridgeFault b (p.place, p.elem) (p.blank, p.value, p.sup)) s = .next s := by
  show execBridgeFault b _ _ s = _
  simp only [execBridgeFault, none]

theorem execBridgeFault_not (harmless : s.bridgeCause b p = none ∨ (s.br b).st ≠ .run) :
    exec (.bridgeFault b (p.place, p.elem) (p.blank, p.value, p.sup)) s = .next s := by
  cases cause : s.bridgeCause b p with
  | none => exact execBridgeFault_none cause
  | some k =>
    have other : (s.br b).st ≠ .run := harmless.resolve_left (by rw [cause]; exact Option.some_ne_none k)
    rw [execBridgeFault_some cause, State.bridgeDetect_not other]

theorem bridgeFault_recovers {k : Nat} (cause : s.bridgeCause b p = some k) (runs : (s.br b).st = .run)
    (free : s.bridgeForced b = false) (supplied : s.sup.vgdLow = false) (first : (s.br b).confirm = none) :
    Answers (.bridgeFault b (p.place, p.elem) (p.blank, p.value, p.sup)) s fun t =>
      (t.br b).st = .recover ∧ (t.br b).fcause = k ∧ (t.br b).elem = (if p.place = .shunt then 4 else p.elem.val) ∧
        (t.br b).sw = .off ∧ OnlyAxis (b.val / 2) s t := by
  have run := execBridgeFault_some cause
  rw [State.bridgeDetect_first runs free supplied first] at run
  refine .of_bridge run (s.onBr_bridgeTo b _) fun t bridge only => ?_
  rw [bridge]
  exact ⟨rfl, rfl, rfl, rfl, only⟩

theorem bridgeFault_lasts {k c : Nat} (cause : s.bridgeCause b p = some k) (runs : (s.br b).st = .run)
    (free : s.bridgeForced b = false) (supplied : s.sup.vgdLow = false) (again : (s.br b).confirm = some c) :
    Answers (.bridgeFault b (p.place, p.elem) (p.blank, p.value, p.sup)) s fun t => (t.lane (b.val / 2 + 2)).state = .fault := by
  have run := execBridgeFault_some cause
  rw [State.bridgeDetect_again runs free supplied again] at run
  exact .of_next run (State.bridgesLasting_fault _ _ (by omega))

/-! ### BRIDGE_RECOVER (R349, R354) -/

theorem execBridgeRecover_not (other : (s.br b).st ≠ .recover) : exec (.bridgeRecover b) s = .next s :=
  congrArg Host.Outcome.next (if_pos other)

theorem bridgeRecover_waits (recovers : (s.br b).st = .recover) (forced : s.bridgeForced b = true) :
    Answers (.bridgeRecover b) s fun t => (t.br b).recWaits = true ∧ (t.br b).st = .recover ∧ OnlyAxis (b.val / 2) s t := by
  have run : exec (.bridgeRecover b) s = .next (s.onBr b fun q => { q with recWaits := true }) :=
    congrArg Host.Outcome.next ((if_neg (not_not_intro recovers)).trans (if_pos forced))
  refine .of_bridge run (s.onBr_bridgeTo b _) fun t bridge only => ?_
  rw [bridge]
  exact ⟨rfl, recovers, only⟩

/-- The bridge in RUN again, its confirmation open. -/
def Bridge.enabled (q : Bridge) : Bridge :=
  { q with st := .run, confirm := some q.fcause, confirmed1ms := false, recWaits := false, nOpen := 0, nSense := 0, nHead := 0 }

theorem bridgeRecover_enables (recovers : (s.br b).st = .recover) (free : s.bridgeForced b = false) :
    Answers (.bridgeRecover b) s fun t =>
      (t.br b).st = .run ∧ (t.br b).confirm = some (s.br b).fcause ∧ (t.br b).confirmed1ms = false ∧ OnlyAxis (b.val / 2) s t := by
  have run : exec (.bridgeRecover b) s = .next ((s.onBr b Bridge.enabled).newPeriod b) :=
    congrArg Host.Outcome.next ((if_neg (not_not_intro recovers)).trans (if_neg (ne_true_of_eq_false free)))
  have begun := (s.onBr_bridgeTo b Bridge.enabled).trans (State.newPeriod_bridgeTo _ b)
  rw [State.br_onBr] at begun
  refine .of_bridge run begun fun t bridge only => ?_
  rw [bridge]
  exact ⟨rfl, rfl, rfl, only⟩

/-! ### BRIDGE_CONFIRM_END (R349) -/

theorem execBridgeConfirmEnd_none (none : (s.br b).confirm = .none) : exec (.bridgeConfirmEnd b) s = .next s := by
  show execBridgeConfirmEnd b s = _
  simp only [execBridgeConfirmEnd, none]

/-- The first 1 ms of running passes the causes 1..7; OPEN and SENSE_FULL go on with their counts from zero. -/
theorem execBridgeConfirmEnd_some {c : Nat} (confirms : (s.br b).confirm = some c) (runs : (s.br b).st = .run)
    (first : (s.br b).confirmed1ms = false) :
    exec (.bridgeConfirmEnd b) s =
      .next (if c ≤ 7 then s.bridgePass b else s.onBr b fun q => { q with confirmed1ms := true, nOpen := 0, nSense := 0 }) := by
  have due : ¬ ((s.br b).st ≠ .run ∨ (s.br b).confirmed1ms = true) := by simp [runs, first]
  show execBridgeConfirmEnd b s = _
  simp only [execBridgeConfirmEnd, confirms, if_neg due]

theorem bridgeConfirmEnd_passes {c : Nat} (confirms : (s.br b).confirm = some c) (runs : (s.br b).st = .run)
    (first : (s.br b).confirmed1ms = false) (hc : c ≤ 7) :
    Answers (.bridgeConfirmEnd b) s fun t =>
      (t.br b).confirm = none ∧ (t.br b).st = .run ∧
        (c ≤ 4 → (t.ax (b.val / 2)).ocTr = satInc 4095 (s.ax (b.val / 2)).ocTr) ∧
        (4 < c → (t.ax (b.val / 2)).gateTr = satInc 4095 (s.ax (b.val / 2)).gateTr) ∧ OnlyAxis (b.val / 2) s t := by
  have run := execBridgeConfirmEnd_some confirms runs first
  rw [if_pos hc] at run
  obtain ⟨bridge, only⟩ := s.bridgePass_bridgeTo b
  obtain ⟨oc, gate⟩ := s.bridgePass_counts b confirms hc
  refine .of_next run ⟨?_, ?_, oc, gate, only⟩
  · rw [bridge]
  · rw [bridge]
    exact runs

theorem bridgeConfirmEnd_counts_on {c : Nat} (confirms : (s.br b).confirm = some c) (runs : (s.br b).st = .run)
    (first : (s.br b).confirmed1ms = false) (hc : 7 < c) :
    Answers (.bridgeConfirmEnd b) s fun t =>
      (t.br b).confirmed1ms = true ∧ (t.br b).confirm = some c ∧ (t.br b).nOpen = 0 ∧ OnlyAxis (b.val / 2) s t := by
  have run := execBridgeConfirmEnd_some confirms runs first
  rw [if_neg (Nat.not_le.mpr hc)] at run
  refine .of_bridge run (s.onBr_bridgeTo b _) fun t bridge only => ?_
  rw [bridge]
  exact ⟨rfl, confirms, rfl, only⟩

end

/-! ### BRIDGE_CHECK_DONE (R343) -/

/-- The bridge after its check: no longer in CALIB, with the offset that was found. -/
def CheckOut.apply (r : CheckOut) (q : Bridge) : Bridge := { q with st := if q.st = .calib then .run else q.st, ofs := r.ofs.getD q.ofs }

theorem CheckOut.apply_st (r : CheckOut) (q : Bridge) : (r.apply q).st ≠ .calib := by
  unfold CheckOut.apply
  dsimp only
  split
  · decide
  · assumption

/-- The axis once what the check found on its bridges, `ra` and `rb`, is noted. -/
def Axis.checked (ra rb : CheckOut) (a : Axis) : Axis :=
  { a with a1 := ra.apply a.a1, b1 := rb.apply a.b1, ofsTr := min 4095 (a.ofsTr + ra.ofsTr + rb.ofsTr),
           gateTr := min 4095 (a.gateTr + ra.gateTr + rb.gateTr) }

/-- Both bridges of axis `n` begin a regulation period. -/
def State.newPeriods (s : State) (n : Nat) : State := (s.newPeriod (2 * n)).newPeriod (2 * n + 1)

theorem State.newPeriods_onlyAxis (s : State) (n : Nat) : OnlyAxis n s (s.newPeriods n) := by
  have a := s.newPeriod_onlyAxis (2 * n)
  have b := (s.newPeriod (2 * n)).newPeriod_onlyAxis (2 * n + 1)
  rw [show 2 * n / 2 = n by omega] at a
  rw [show (2 * n + 1) / 2 = n by omega] at b
  exact a.trans b

theorem State.newPeriods_keeps {α : Type} (s : State) (n : Nat) (g : Bridge → α) (hold : ∀ q, g { q with hold := [] } = g q)
    (sw : ∀ q w k, g { q with sw := w, onCycles := k } = g q) :
    g ((s.newPeriods n).ax n).a1 = g (s.ax n).a1 ∧ g ((s.newPeriods n).ax n).b1 = g (s.ax n).b1 := by
  obtain ⟨firstA, firstB⟩ := s.newPeriod_keeps (2 * n) n g hold sw
  obtain ⟨secondA, secondB⟩ := (s.newPeriod (2 * n)).newPeriod_keeps (2 * n + 1) n g hold sw
  exact ⟨secondA.trans firstA, secondB.trans firstB⟩

/-- The state once a check with the findings `ra` and `rb`, neither of them a fault, is noted and the bridges have begun to work. -/
def State.checkPassed (s : State) (n : Nat) (ra rb : CheckOut) : State := (s.onAx n (Axis.checked ra rb)).newPeriods n

theorem State.checkPassed_onlyAxis (s : State) (n : Nat) (ra rb : CheckOut) : OnlyAxis n s (s.checkPassed n ra rb) :=
  (s.onAx_onlyAxis n _).trans (State.newPeriods_onlyAxis _ n)

theorem State.checkPassed_keeps {α : Type} (s : State) (n : Fin 12) (ra rb : CheckOut) (g : Bridge → α)
    (hold : ∀ q, g { q with hold := [] } = g q) (sw : ∀ q w k, g { q with sw := w, onCycles := k } = g q) :
    g ((s.checkPassed n ra rb).ax n).a1 = g (ra.apply (s.ax n).a1) ∧ g ((s.checkPassed n ra rb).ax n).b1 = g (rb.apply (s.ax n).b1) := by
  have begun := (s.onAx n (Axis.checked ra rb)).newPeriods_keeps n g hold sw
  rw [s.ax_onAx_fin n] at begun
  exact begun

theorem SameBut.inCheck {ps : List Part} {s t : State} (h : SameBut ps s t) (i : Nat) (hl : Part.lanes ∉ ps := by simp) :
    t.inCheck i = s.inCheck i := by
  rw [State.inCheck, h.lane i hl, State.inCheck]

theorem State.vmLostTest_not {s : State} {n : Nat} (kept : at' s.sup.vmLostG (n / 3) = false) : s.vmLostTest n = s :=
  if_pos (by rw [kept]; rfl)

section
variable {s : State} {k : Fin 12} {a1 a2 b1 b2 : BitVec 12} {ga gb : BitVec 8}

theorem execBridgeCheckDone_not (idle : s.calibrating k = false) : exec (.bridgeCheckDone k a1 a2 b1 b2 ga gb) s = .next s :=
  if_pos (by rw [idle]; rfl)

/-- Both bridges are sound, outside a RE_ADMIT and with VM kept: they begin their first period. -/
theorem execBridgeCheckDone_sound (checks : s.calibrating k = true) (soundA : (bridgeOutcome (2 * k) a1 a2 ga).bad = [])
    (soundB : (bridgeOutcome (2 * k + 1) b1 b2 gb).bad = []) (plain : s.inCheck (k.val + 2) = false)
    (kept : at' s.sup.vmLostG (k.val / 3) = false) :
    exec (.bridgeCheckDone k a1 a2 b1 b2 ga gb) s =
      .next (s.checkPassed k (bridgeOutcome (2 * k) a1 a2 ga) (bridgeOutcome (2 * k + 1) b1 b2 gb)) := by
  obtain ⟨frame, -⟩ := s.checkPassed_onlyAxis k (bridgeOutcome (2 * k) a1 a2 ga) (bridgeOutcome (2 * k + 1) b1 b2 gb)
  have tested := State.vmLostTest_not (n := k) ((congrArg (fun u => at' u.vmLostG (k.val / 3)) (frame .sup (by simp))).trans kept)
  have served := (frame.inCheck (k.val + 2)).trans plain
  refine (if_neg (by rw [checks]; decide)).trans ?_
  rw [soundA, soundB, List.append_nil, if_pos rfl]
  exact congrArg Host.Outcome.next <|
    (if_neg (ne_true_of_eq_false ((congrArg (·.inCheck (k.val + 2)) tested).trans served))).trans tested

theorem bridgeCheckDone_sound (checks : s.calibrating k = true) (soundA : (bridgeOutcome (2 * k) a1 a2 ga).bad = [])
    (soundB : (bridgeOutcome (2 * k + 1) b1 b2 gb).bad = []) (plain : s.inCheck (k.val + 2) = false)
    (kept : at' s.sup.vmLostG (k.val / 3) = false) :
    Answers (.bridgeCheckDone k a1 a2 b1 b2 ga gb) s fun t =>
      (t.ax k).a1.st ≠ .calib ∧ (t.ax k).b1.st ≠ .calib ∧
        (t.ax k).a1.ofs = (bridgeOutcome (2 * k) a1 a2 ga).ofs.getD (s.ax k).a1.ofs ∧
        (t.ax k).b1.ofs = (bridgeOutcome (2 * k + 1) b1 b2 gb).ofs.getD (s.ax k).b1.ofs ∧ OnlyAxis k s t := by
  obtain ⟨stA, stB⟩ := s.checkPassed_keeps k (bridgeOutcome (2 * k) a1 a2 ga) (bridgeOutcome (2 * k + 1) b1 b2 gb) Bridge.st
    (fun _ => rfl) fun _ _ _ => rfl
  obtain ⟨ofsA, ofsB⟩ := s.checkPassed_keeps k (bridgeOutcome (2 * k) a1 a2 ga) (bridgeOutcome (2 * k + 1) b1 b2 gb) Bridge.ofs
    (fun _ => rfl) fun _ _ _ => rfl
  exact .of_next (execBridgeCheckDone_sound checks soundA soundB plain kept)
    ⟨stA.trans_ne (CheckOut.apply_st _ _), stB.trans_ne (CheckOut.apply_st _ _), ofsA, ofsB, s.checkPassed_onlyAxis k _ _⟩

end

/-- Settles O41: a cause turns a running bridge off, and during its confirmation faults the lane; REC_DLY and the 1 ms of running end in
the change they make of the bridge and its axis; a check that finds both bridges sound sets their state and offsets. -/
theorem bridgeFaultsRecover : Obligations.BridgeFaultsRecover := fun _ _ _ =>
  ⟨fun _ => bridgeFault_recovers, fun _ _ => bridgeFault_lasts, execBridgeFault_not, bridgeRecover_waits, bridgeRecover_enables,
    execBridgeRecover_not, fun _ => bridgeConfirmEnd_passes, fun _ => bridgeConfirmEnd_counts_on, execBridgeConfirmEnd_none,
    fun _ _ _ _ _ _ _ => bridgeCheckDone_sound, fun _ _ _ _ _ _ _ => execBridgeCheckDone_not⟩

end Sys2Proof.Machine
end

section
/-!
PROOFS. The block as a whole: a step takes one command, every command answers, blown bits of the OTP row stay blown (R477, R478).
-/

namespace Sys2Proof.Machine

/-- Settles O1: the front of the queue is the command that the step executes. -/
theorem stepRunsFrontCommand : Obligations.StepRunsFrontCommand := fun _ _ _ => rfl

/-- Settles O2: with no command at the front the step is the branch that idles. -/
theorem emptyQueueIdles : Obligations.EmptyQueueIdles := by
  intro s empty
  rw [step, empty]

/-- Settles O3: the next state is that of `exec_keeps`. -/
theorem everyCommandAnswers : Obligations.EveryCommandAnswers := by
  intro c s
  obtain ⟨t, run, -⟩ := exec_keeps c s
  exact ⟨t, run⟩

/-- The state that a step answers is one that `step_keeps` speaks of. -/
theorem step_keeps_of_next {s t : State} (run : step s = .next t) : OtpKept s t ∧ t.pending = s.pending.tail := by
  obtain ⟨u, next, -, kept⟩ := step_keeps s
  exact Host.Outcome.next.inj (next.symm.trans run) ▸ kept

/-- Settles O4: no command touches the queue's rest. -/
theorem stepTakesOneCommand : Obligations.StepTakesOneCommand := fun _ _ run => (step_keeps_of_next run).2

/-- Settles O7: a command leaves the OTP row alone or adds bits to a word of it. -/
theorem otpBitsStayBlown : Obligations.OtpBitsStayBlown := fun _ _ run => (step_keeps_of_next run).1

end Sys2Proof.Machine
end

section
/-!
PROOFS. The solenoid channels: the segments of a profile (R366..R371), the closing detection (R372), deferred starts (R378).
-/

namespace Sys2Proof.Machine

/-! ### What a change of one channel leaves alone -/

theorem State.onChan_onlyChan (s : State) (c : Nat) (f : Chan → Chan) : OnlyChan c s (s.onChan c f) :=
  ⟨s.onChan_frame c f, fun j hj => at'_upd_ne s.chans c j f hj⟩

theorem OnlyChan.refl (c : Nat) (s : State) : OnlyChan c s s := ⟨.refl _ s, fun _ _ => rfl⟩

theorem OnlyChan.trans {c : Nat} {s t u : State} (ht : OnlyChan c s t) (hu : OnlyChan c t u) : OnlyChan c s u :=
  ⟨ht.1.trans hu.1, fun j hj => (hu.2 j hj).trans (ht.2 j hj)⟩

theorem SameBut.chan {ps : List Part} {s t : State} (h : SameBut ps s t) (c : Nat) (hc : Part.chans ∉ ps := by simp) :
    t.chan c = s.chan c :=
  congrArg (at' · c) (h .chans hc :)

/-- `t` differs from `s` in channel `c` at most, and that channel is now `q`. -/
def State.ChanTo (s : State) (c : Nat) (q : Chan) (t : State) : Prop := t.chan c = q ∧ OnlyChan c s t

theorem State.onChan_chanTo (s : State) (c : Fin 32) (f : Chan → Chan) : s.ChanTo c (f (s.chan c)) (s.onChan c f) :=
  ⟨s.chan_onChan_fin c f, s.onChan_onlyChan c f⟩

theorem State.ChanTo.trans {s t u : State} {c : Nat} {q r : Chan} (ht : s.ChanTo c q t) (hu : t.ChanTo c r u) : s.ChanTo c r u :=
  ⟨hu.1, ht.2.trans hu.2⟩

theorem Answers.of_chan {c : Instr} {s t : State} {n : Nat} {q : Chan} {P : State → Prop} (run : exec c s = .next t)
    (made : s.ChanTo n q t) (h : ∀ u, u.chan n = q → OnlyChan n s u → P u) : Answers c s P :=
  .of_next run (h t made.1 made.2)

/-! ### A segment that begins (R366, R370) -/

/-- The channel at the start of segment `k`, in stitch `n`: what the segments before have left is forgotten. -/
def Chan.atSeg (n k : Nat) (q : Chan) : Chan :=
  { q with seg := min k q.nseg, segBegan := n, firstTrip := none, tripNow := false, peak := 0, iMax := 0, iMaxAt := 0, duties := [],
           dMax := 0, dMaxAt := 0, tripUs := 0 }

/-- The channel in whose profile segment `k` begins. -/
def State.segBegun (s : State) (c k : Nat) (q : Chan) : Chan :=
  let last := decide (q.nseg ≤ k)
  let q := q.atSeg s.stitch.n k
  if q.st = .recover then { q with recRelease := q.recRelease || last }
  else
    let q := if last then q.pass else q
    { q with st := if last then .release else .run, sw := s.segSwitch c q,
             hold := if q.cur F.sp_ITGT = 0 then q.hold else q.hold.filter fun h => 4 ≤ h.1 }

theorem State.beginSeg_chanTo (s : State) (c : Fin 32) (k : Nat) : s.ChanTo c (s.segBegun c k (s.chan c)) (s.beginSeg c k) :=
  s.onChan_chanTo c (s.segBegun c k)

theorem State.nextSeg_chanTo (s : State) (c : Fin 32) : s.ChanTo c (s.segBegun c ((s.chan c).seg + 1) (s.chan c)) (s.nextSeg c) :=
  s.beginSeg_chanTo c _

/-- A confirmation that passes ends, and is counted. -/
theorem Chan.pass_keeps {α : Type} (q : Chan) (g : Chan → α) (hg : ∀ q k m n, g { q with confirm := k, diagTr := m, ocTr := n } = g q) :
    g q.pass = g q := by
  unfold Chan.pass
  split
  · rfl
  · exact hg q none (satInc 4095 q.diagTr) q.ocTr
  · exact hg q none q.diagTr (satInc 4095 q.ocTr)

/-- What a channel holds that the start of a segment leaves alone, and its place in the profile. -/
structure Chan.Course where
  seg : Nat
  segBegan : Nat
  start : Option (Nat × Nat)
  runs : Nat
  closedRun : Bool
  method : Bool
  ctime : Nat
  cphase : Nat
  theta1 : Nat
  dresult : Nat
  checking : Nat

def Chan.course (q : Chan) : Chan.Course :=
  ⟨q.seg, q.segBegan, q.start, q.runs, q.closedRun, q.method, q.ctime, q.cphase, q.theta1, q.dresult, q.checking⟩

section
variable (s : State) (c k : Nat) (q : Chan)

theorem State.segBegun_course : (s.segBegun c k q).course = (q.atSeg s.stitch.n k).course := by
  unfold State.segBegun
  dsimp only
  split
  · rfl
  · split
    · exact Chan.pass_keeps _ Chan.course fun _ _ _ _ => rfl
    · rfl

theorem State.segBegun_seg : (s.segBegun c k q).seg = min k q.nseg := congrArg Chan.Course.seg (s.segBegun_course c k q)

theorem State.segBegun_st {q : Chan} (h : q.st ≠ .recover) :
    (s.segBegun c k q).st = .run ∨ (s.segBegun c k q).st = .release := by
  unfold State.segBegun
  dsimp only
  rw [if_neg (show (q.atSeg s.stitch.n k).st ≠ .recover from h)]
  cases decide (q.nseg ≤ k)
  · exact .inl rfl
  · exact .inr rfl

end

/-! ### SOL_PROFILE_START (R367, R378) -/

/-- The channel whose profile begins, before its first segment does. -/
def Chan.started (q : Chan) : Chan :=
  { q with st := .run, start := none, seg := 0, closedRun := false, stopped := false, confirm := none, recRelease := false,
           recWaits := false, lastUs := 0, runs := (q.runs + 1) % 2 ^ 24 }

theorem State.beginProfile_chanTo (s : State) (c : Fin 32) :
    s.ChanTo c ((s.onChan c Chan.started).segBegun c 0 (s.chan c).started) (s.beginProfile c) := by
  have started := s.onChan_chanTo c Chan.started
  have begun := (s.onChan c Chan.started).beginSeg_chanTo c 0
  rw [started.1] at begun
  exact started.trans begun

theorem State.deferStart_chan (s : State) (c : Fin 32) :
    (s.deferStart c).chan c = { s.chan c with st := .hotWait, start := none } ∧
      SameBut [.chans, .dev, .ev, .ports] s (s.deferStart c) := by
  have told := (s.onChan c fun q => { q with st := .hotWait, start := none }).raise_frame 9 4 (bankLane c) [(s.chan c).hotArg c false]
  exact ⟨(told.chan c).trans (s.chan_onChan_fin c _), ((s.onChan_frame c _).mono (by simp)).trans (told.mono (by simp))⟩

section
variable {c : Fin 32} {s : State} {k ph : Nat}

theorem execSolProfileStart_none (none : (s.chan c).start = .none) : exec (.solProfileStart c) s = .next s := by
  show execSolProfileStart c s = _
  simp only [execSolProfileStart, none]

theorem execSolProfileStart_due (start : (s.chan c).start = some (k, ph)) (due : k ≤ s.stitch.n) :
    exec (.solProfileStart c) s = .next (if s.solHot c then s.deferStart c else s.beginProfile c) := by
  show execSolProfileStart c s = _
  simp only [execSolProfileStart, start, if_neg (Nat.not_lt.mpr due)]

theorem solProfileStart_begins (start : (s.chan c).start = some (k, ph)) (due : k ≤ s.stitch.n) (cool : s.solHot c = false) :
    Answers (.solProfileStart c) s fun t =>
      (t.chan c).start = none ∧ (t.chan c).runs = ((s.chan c).runs + 1) % 2 ^ 24 ∧
        ((t.chan c).st = .run ∨ (t.chan c).st = .release) ∧ (t.chan c).closedRun = false ∧ OnlyChan c s t := by
  have run := execSolProfileStart_due start due
  rw [if_neg (ne_true_of_eq_false cool)] at run
  refine .of_chan run (s.beginProfile_chanTo c) fun t chan only => ?_
  have course := (s.onChan c Chan.started).segBegun_course c 0 (s.chan c).started
  have drives : (s.chan c).started.st ≠ .recover := show ChanState.run ≠ .recover by decide
  rw [chan]
  exact ⟨congrArg Chan.Course.start course, congrArg Chan.Course.runs course, State.segBegun_st _ _ _ drives,
    congrArg Chan.Course.closedRun course, only⟩

theorem solProfileStart_defers (start : (s.chan c).start = some (k, ph)) (due : k ≤ s.stitch.n) (hot : s.solHot c = true) :
    Answers (.solProfileStart c) s fun t =>
      (t.chan c).start = none ∧ (t.chan c).st = .hotWait ∧ (t.chan c).runs = (s.chan c).runs ∧
        SameBut [.chans, .dev, .ev, .ports] s t := by
  have run := execSolProfileStart_due start due
  rw [if_pos hot] at run
  obtain ⟨chan, frame⟩ := s.deferStart_chan c
  refine .of_next run ?_
  rw [chan]
  exact ⟨rfl, rfl, rfl, frame⟩

end

/-! ### SOL_TRIP and SOL_PWM_PERIOD (R369) -/

/-- The channel after a trip with reading `code` at `us`. -/
def Chan.tripped (code us : Nat) (q : Chan) : Chan :=
  { q with imeas := code, peak := max q.peak code, firstTrip := some (q.firstTrip.getD us), tripNow := true,
           sw := if q.cur F.sp_DECAY = 1 then .fast else .slow }

/-- The channel after a period of `duty` that ended at `us`. -/
def Chan.perioded (duty us : Nat) (q : Chan) : Chan :=
  { q with duty := duty, duties := (duty :: q.duties).take 16, lastUs := us, tripNow := false,
           tripUs := if q.tripNow then q.tripUs + (us - q.lastUs) else 0 }

section
variable {c : Fin 32} {s : State} {code duty : BitVec 10} {us : BitVec 24} {ph : BitVec 12}

theorem execSolTrip_on (runs : (s.chan c).st = .run) (on : (s.chan c).sw = .drive) (target : (s.chan c).cur F.sp_ITGT ≠ 0) :
    exec (.solTrip c code us) s =
      .next (if (s.chan c).cur F.sp_END = 1 then (s.onChan c (Chan.tripped code.toNat us.toNat)).nextSeg c
        else s.onChan c (Chan.tripped code.toNat us.toNat)) :=
  if_neg (by simp [runs, on, target])

theorem solTrip_ends_on (runs : (s.chan c).st = .run) (on : (s.chan c).sw = .drive) (target : (s.chan c).cur F.sp_ITGT ≠ 0)
    (other : (s.chan c).cur F.sp_END ≠ 1) :
    Answers (.solTrip c code us) s fun t =>
      (t.chan c).imeas = code.toNat ∧ (t.chan c).peak = max (s.chan c).peak code.toNat ∧ (t.chan c).tripNow = true ∧
        (t.chan c).firstTrip = some ((s.chan c).firstTrip.getD us.toNat) ∧
        (t.chan c).sw = (if (s.chan c).cur F.sp_DECAY = 1 then .fast else .slow) ∧ OnlyChan c s t := by
  have run := execSolTrip_on (code := code) (us := us) runs on target
  rw [if_neg other] at run
  refine .of_chan run (s.onChan_chanTo c _) fun t chan only => ?_
  rw [chan]
  exact ⟨rfl, rfl, rfl, rfl, rfl, only⟩

theorem solTrip_ends_peak (runs : (s.chan c).st = .run) (on : (s.chan c).sw = .drive) (target : (s.chan c).cur F.sp_ITGT ≠ 0)
    (peak : (s.chan c).cur F.sp_END = 1) :
    Answers (.solTrip c code us) s fun t => (t.chan c).seg = min ((s.chan c).seg + 1) (s.chan c).nseg ∧ OnlyChan c s t := by
  have run := execSolTrip_on (code := code) (us := us) runs on target
  rw [if_pos peak] at run
  have tripped := s.onChan_chanTo c (Chan.tripped code.toNat us.toNat)
  have begun := (s.onChan c (Chan.tripped code.toNat us.toNat)).nextSeg_chanTo c
  rw [tripped.1] at begun
  refine .of_chan run (tripped.trans begun) fun t chan only => ⟨?_, only⟩
  rw [chan, State.segBegun_seg]
  rfl

/-- Before the first trip the kink detector is not armed. -/
theorem State.kink_unarmed (s : State) {n us ph : Nat} (early : (s.chan n).firstTrip = none) : s.kink n us ph = s := by
  simp only [State.kink, early]

theorem solPwmPeriod_reads (runs : (s.chan c).st = .run) (target : (s.chan c).cur F.sp_ITGT ≠ 0) (early : (s.chan c).firstTrip = none) :
    Answers (.solPwmPeriod c duty us ph) s fun t =>
      (t.chan c).duty = duty.toNat ∧ (t.chan c).duties = (duty.toNat :: (s.chan c).duties).take 16 ∧ (t.chan c).lastUs = us.toNat ∧
        (t.chan c).tripNow = false ∧ OnlyChan c s t := by
  have read := s.onChan_chanTo c (Chan.perioded duty.toNat us.toNat)
  have unarmed := (s.onChan c (Chan.perioded duty.toNat us.toNat)).kink_unarmed (us := us.toNat) (ph := ph.toNat)
    ((congrArg Chan.firstTrip read.1).trans early)
  have same : ¬ (((s.onChan c (Chan.perioded duty.toNat us.toNat)).chan c).st ≠ .run ∨
      ((s.onChan c (Chan.perioded duty.toNat us.toNat)).chan c).seg ≠ (s.chan c).seg) := by
    rw [read.1]
    simp [Chan.perioded, runs]
  have begun := (s.onChan c (Chan.perioded duty.toNat us.toNat)).onChan_chanTo c fun q =>
    { q with sw := (s.onChan c (Chan.perioded duty.toNat us.toNat)).segSwitch c q, hold := q.hold.filter fun h => 4 ≤ h.1 }
  rw [read.1] at begun
  have run : exec (.solPwmPeriod c duty us ph) s = .next ((s.onChan c (Chan.perioded duty.toNat us.toNat)).onChan c fun q =>
      { q with sw := (s.onChan c (Chan.perioded duty.toNat us.toNat)).segSwitch c q, hold := q.hold.filter fun h => 4 ≤ h.1 }) := by
    refine (if_neg (by simp [runs, target])).trans ?_
    exact (congrArg (fun u : State => Host.Outcome.next (if (u.chan c).st ≠ .run ∨ (u.chan c).seg ≠ (s.chan c).seg then u
      else u.onChan c fun q => { q with sw := u.segSwitch c q, hold := q.hold.filter fun h => 4 ≤ h.1 })) unarmed).trans
      (congrArg Host.Outcome.next (if_neg same))
  refine .of_chan run (read.trans begun) fun t chan only => ?_
  rw [chan]
  exact ⟨rfl, rfl, rfl, rfl, only⟩

end

/-! ### DIP_SAMPLE (R372, R373) -/

/-- The channel whose record of a closing at `us`, in phase `ph` of the present stitch, is written. -/
def State.closingNoted (s : State) (us ph : Nat) (method : Bool) (q : Chan) : Chan :=
  { q with cseg := q.seg, method := method, ctime := us, cstamp := s.count, cphase := ph, closedRun := true }

theorem State.closureEvidence_frame (s : State) (c : Nat) (arg : Word) : SameBut [.welt] s (s.closureEvidence c arg) := by
  unfold State.closureEvidence
  split
  · exact .ite (s.gateEvidence_frame _ _) (.refl _ s)
  · exact .refl _ s

theorem State.closed_course (s : State) (c : Fin 32) (us ph : Nat) (method : Bool) :
    ((s.closed c us ph method).chan c).course =
      ((s.closingNoted us ph method (s.chan c)).atSeg s.stitch.n ((s.chan c).seg + 1)).course := by
  have told (t : State) (arg : Word) : SameBut [.dev, .ev, .ports, .welt] t ((t.raise 9 1 (bankLane c) [arg]).closureEvidence c arg) :=
    ((t.raise_frame _ _ _ _).mono (by simp)).trans ((State.closureEvidence_frame _ _ _).mono (by simp))
  have noted := told (s.onChan c (s.closingNoted us ph method))
    (field 35 33 (s.chan c).seg ||| flag 32 method ||| field 31 8 us ||| field 4 0 c)
  obtain ⟨begun, -⟩ := State.nextSeg_chanTo (((s.onChan c (s.closingNoted us ph method)).raise 9 1 (bankLane c)
    [field 35 33 (s.chan c).seg ||| flag 32 method ||| field 31 8 us ||| field 4 0 c]).closureEvidence c
    (field 35 33 (s.chan c).seg ||| flag 32 method ||| field 31 8 us ||| field 4 0 c)) c
  rw [noted.chan c, s.chan_onChan_fin c] at begun
  refine (congrArg Chan.course begun).trans ((State.segBegun_course _ _ _ _).trans ?_)
  rw [show _ = s.stitch from noted .stitch (by simp)]
  rfl

/-- The channel with the current that a dip sample reads. -/
def Chan.sampled (code : Nat) (q : Chan) : Chan := { q with imeas := code, peak := max q.peak code }

section
variable {c : Fin 32} {s : State} {code : BitVec 10} {us : BitVec 24} {ph : BitVec 12}

theorem execDipSample_watches (runs : (s.chan c).st = .run) (on : (s.chan c).sw = .drive) (close : (s.chan c).cur F.sp_END = 2)
    (watch : s.sc c F.sc_DIP_I ≠ 0) (early : (s.chan c).firstTrip = none) (isOpen : (s.chan c).closedRun = false) :
    exec (.dipSample c code us ph) s =
      .next (if code.toNat + s.sc c F.sc_DIP_I ≤ (s.chan c).iMax then
          (s.onChan c (Chan.sampled code.toNat)).closed c (s.chan c).iMaxAt ph.toNat true
        else if (s.chan c).iMax ≤ code.toNat then
          (s.onChan c (Chan.sampled code.toNat)).onChan c fun q => { q with iMax := code.toNat, iMaxAt := us.toNat }
        else s.onChan c (Chan.sampled code.toNat)) :=
  if_neg (by simp [runs, on, close, watch, early, isOpen])

theorem dipSample_reads (runs : (s.chan c).st = .run) (on : (s.chan c).sw = .drive) (close : (s.chan c).cur F.sp_END = 2)
    (watch : s.sc c F.sc_DIP_I ≠ 0) (early : (s.chan c).firstTrip = none) (isOpen : (s.chan c).closedRun = false)
    (above : (s.chan c).iMax < code.toNat + s.sc c F.sc_DIP_I) :
    Answers (.dipSample c code us ph) s fun t =>
      (t.chan c).imeas = code.toNat ∧ (t.chan c).iMax = max (s.chan c).iMax code.toNat ∧ (t.chan c).seg = (s.chan c).seg ∧
        OnlyChan c s t := by
  have run := execDipSample_watches (code := code) (us := us) (ph := ph) runs on close watch early isOpen
  rw [if_neg (Nat.not_le.mpr above)] at run
  have read := s.onChan_chanTo c (Chan.sampled code.toNat)
  by_cases highest : (s.chan c).iMax ≤ code.toNat
  · rw [if_pos highest] at run
    have marked := (s.onChan c (Chan.sampled code.toNat)).onChan_chanTo c fun q => { q with iMax := code.toNat, iMaxAt := us.toNat }
    rw [read.1] at marked
    refine .of_chan run (read.trans marked) fun t chan only => ?_
    rw [chan]
    exact ⟨rfl, (max_eq_right highest).symm, rfl, only⟩
  · rw [if_neg highest] at run
    refine .of_chan run read fun t chan only => ?_
    rw [chan]
    exact ⟨rfl, (max_eq_left (Nat.le_of_not_le highest)).symm, rfl, only⟩

theorem dipSample_closes (runs : (s.chan c).st = .run) (on : (s.chan c).sw = .drive) (close : (s.chan c).cur F.sp_END = 2)
    (watch : s.sc c F.sc_DIP_I ≠ 0) (early : (s.chan c).firstTrip = none) (isOpen : (s.chan c).closedRun = false)
    (dip : code.toNat + s.sc c F.sc_DIP_I ≤ (s.chan c).iMax) :
    Answers (.dipSample c code us ph) s fun t =>
      (t.chan c).closedRun = true ∧ (t.chan c).method = true ∧ (t.chan c).ctime = (s.chan c).iMaxAt ∧ (t.chan c).cphase = ph.toNat ∧
        (t.chan c).seg = min ((s.chan c).seg + 1) (s.chan c).nseg := by
  have run := execDipSample_watches (code := code) (us := us) (ph := ph) runs on close watch early isOpen
  rw [if_pos dip] at run
  have course := (s.onChan c (Chan.sampled code.toNat)).closed_course c (s.chan c).iMaxAt ph.toNat true
  rw [s.chan_onChan_fin c] at course
  exact .of_next run ⟨congrArg Chan.Course.closedRun course, congrArg Chan.Course.method course,
    congrArg Chan.Course.ctime course, congrArg Chan.Course.cphase course, congrArg Chan.Course.seg course⟩

/-! ### SEGMENT_TMAX and SEGMENT_STITCH_END (R370, R371) -/

theorem segmentTmax_checks_release {vs : BitVec 9} (release : (s.chan c).st = .release) :
    Answers (.segmentTmax c us vs) s fun t => (t.chan c).st = .diag ∧ (t.chan c).checking = 4 ∧ OnlyChan c s t := by
  refine .of_chan (if_pos release) (s.onChan_chanTo c _) fun t chan only => ?_
  rw [chan]
  exact ⟨rfl, rfl, only⟩

theorem segmentTmax_goes_on {vs : BitVec 9} (runs : (s.chan c).st = .run) (inner : (s.chan c).seg ≠ (s.chan c).nseg)
    (timed : (s.chan c).cur F.sp_END = 0) :
    Answers (.segmentTmax c us vs) s fun t => (t.chan c).seg = min ((s.chan c).seg + 1) (s.chan c).nseg ∧ OnlyChan c s t := by
  have run : exec (.segmentTmax c us vs) s = .next (s.nextSeg c) :=
    (if_neg (by rw [runs]; decide)).trans ((if_neg (by simp [runs, inner])).trans (congrArg Host.Outcome.next (if_pos timed)))
  refine .of_chan run (s.nextSeg_chanTo c) fun t chan only => ⟨?_, only⟩
  rw [chan, State.segBegun_seg]

theorem segmentStitchEnd_goes_on (runs : (s.chan c).st = .run) (inner : (s.chan c).seg < (s.chan c).nseg)
    (counted : (s.chan c).cur F.sp_END = 3) (due : (s.chan c).segBegan + (s.chan c).cur F.sp_DUR_ST ≤ s.stitch.n) :
    Answers (.segmentStitchEnd c) s fun t =>
      (t.chan c).seg = (s.chan c).seg + 1 ∧ (t.chan c).segBegan = s.stitch.n ∧ OnlyChan c s t := by
  have run : exec (.segmentStitchEnd c) s = .next (s.nextSeg c) :=
    congrArg Host.Outcome.next (if_pos ⟨.inl runs, inner, counted, due⟩)
  refine .of_chan run (s.nextSeg_chanTo c) fun t chan only => ?_
  have course := s.segBegun_course c ((s.chan c).seg + 1) (s.chan c)
  rw [chan]
  exact ⟨(congrArg Chan.Course.seg course).trans (min_eq_left inner), congrArg Chan.Course.segBegan course, only⟩

theorem execSegmentStitchEnd_early (early : s.stitch.n < (s.chan c).segBegan + (s.chan c).cur F.sp_DUR_ST) :
    exec (.segmentStitchEnd c) s = .next s :=
  congrArg Host.Outcome.next (if_neg fun h => Nat.not_le.mpr early h.2.2.2)

end

/-! ### SOL_RELEASE_DETECT: the end of a profile (R371) -/

theorem State.solRest_frame (s : State) (b : Nat) : SameBut [.lanes, .jobs, .welt] s (s.solRest b) :=
  .ite (s.cameToRest_frame _) (.refl _ s)

theorem State.endStopped_frame (s : State) (i : Nat) (q : QItem) :
    SameBut [.lanes, .jobs, .welt, .dev, .ev, .ports] s (s.endStopped i q) := by
  have dropped : SameBut [.lanes, .jobs, .welt, .dev, .ev, .ports] s ((s.dropItem i q).onRec q.job q.idx fun r => { r with outcome := .ended }) :=
    ((s.dropItem_frame i q).mono (by simp)).trans ((State.onRec_frame _ _ _ _).mono (by simp))
  have marked := dropped.trans ((State.queueMark_frame _ 2 q.idx 0 q.job).mono (by simp))
  refine .trans (.trans (.ite (marked.trans ?_) marked) ((State.gateStopped_frame _ q).mono (by simp)))
    ((State.checkDone_frame _ q.job).mono (by simp))
  exact ((State.flushMarks_frame _).mono (by simp)).trans ((State.onLane_frame _ _ _).mono (by simp))

/-- The channel at rest in state `st` once its profile is over. -/
def Chan.rested (st : ChanState) (q : Chan) : Chan :=
  { q with st := st, sw := .off, start := none, stopped := false, confirm := none, recRelease := false, recWaits := false,
           checking := 0, again := false }

theorem State.endSol_frame (s : State) (c : Nat) (st : ChanState) :
    SameBut [.lanes, .jobs, .welt, .dev, .ev, .ports] (s.onChan c (Chan.rested st)) (s.endSol c st) := by
  unfold State.endSol
  refine .trans ?_ ((State.solRest_frame _ _).mono (by simp))
  split
  · exact .ite (State.endStopped_frame _ _ _) (State.endRecord_frame _ _ _)
  · exact .refl _ _

theorem State.endSol_chan (s : State) (c : Fin 32) (st : ChanState) : (s.endSol c st).chan c = (s.chan c).rested st :=
  ((s.endSol_frame c st).chan c).trans (s.chan_onChan_fin c _)

theorem State.endSol_others (s : State) (c : Nat) (st : ChanState) : Others s.chans (s.endSol c st).chans c := by
  obtain ⟨-, others⟩ := s.onChan_onlyChan c (Chan.rested st)
  exact (s.endSol_frame c st .chans (by simp) :) ▸ others

section
variable {c : Fin 32} {s : State} {code : BitVec 10} {nl vs : BitVec 9}

/-- The coil has released: by its node in FAST, by its current otherwise. -/
def State.coilGone (s : State) (c : Nat) (code nl vs : Nat) : Prop :=
  ((s.chan c).releasesFast = true ∧ nl + 16 < vs) ∨ ((s.chan c).releasesFast = false ∧ code < s.sc c F.sc_REL_I)

theorem State.coilGone_iff (s : State) (c code nl vs : Nat) :
    (if (s.chan c).releasesFast then decide (nl + 16 < vs) else decide (code < s.sc c F.sc_REL_I)) = true ↔ s.coilGone c code nl vs := by
  unfold State.coilGone
  cases (s.chan c).releasesFast <;> simp

theorem solReleaseDetect_ends (release : (s.chan c).st = .release) (gone : s.coilGone c code.toNat nl.toNat vs.toNat) :
    Answers (.solReleaseDetect (c, code, nl, vs)) s fun t =>
      (t.chan c).st = .idle ∧ (t.chan c).sw = .off ∧ Others s.chans t.chans c := by
  have run : exec (.solReleaseDetect (c, code, nl, vs)) s =
      .next ((s.onChan c fun q => if q.releasesFast then q else { q with imeas := code.toNat }).endSol c .idle) :=
    congrArg Host.Outcome.next (if_pos ⟨release, (s.coilGone_iff c _ _ _).mpr gone⟩)
  refine .of_next run ⟨?_, ?_, fun j hj => ?_⟩
  · rw [State.endSol_chan]; rfl
  · rw [State.endSol_chan]; rfl
  · exact (State.endSol_others _ c .idle j hj).trans ((s.onChan_onlyChan c _).2 j hj)

theorem execSolReleaseDetect_not (other : (s.chan c).st ≠ .release ∨ ¬ s.coilGone c code.toNat nl.toNat vs.toNat) :
    exec (.solReleaseDetect (c, code, nl, vs)) s = .next s :=
  congrArg Host.Outcome.next (if_neg fun h => other.elim (· h.1) (· ((s.coilGone_iff c _ _ _).mp h.2)))

end

/-- Settles O42: each event that is due is the change it makes of its channel; a segment's end is the begin of the next one, and the release
ends the record of the bank's lane. -/
theorem solenoidProfilesRun : Obligations.SolenoidProfilesRun := fun _ _ =>
  ⟨fun _ _ start due cool _ => solProfileStart_begins start due cool, fun _ _ => solProfileStart_defers, execSolProfileStart_none,
    fun _ _ => solTrip_ends_on, fun _ _ => solTrip_ends_peak, fun _ _ _ => solPwmPeriod_reads,
    fun _ _ _ runs on close watch early isOpen =>
      ⟨dipSample_reads runs on close watch early isOpen, dipSample_closes runs on close watch early isOpen⟩,
    fun _ _ => segmentTmax_checks_release, fun _ _ => segmentTmax_goes_on, segmentStitchEnd_goes_on, execSegmentStitchEnd_early,
    fun _ _ _ => ⟨solReleaseDetect_ends, execSolReleaseDetect_not⟩⟩

end Sys2Proof.Machine
end

section
/-!
PROOFS. The solenoid channels: faults with their second attempt (R379..R381), off-state and on-state checks (R382..R384), the coil model
(R375, R378).
-/

namespace Sys2Proof.Machine

/-! ### A lane that has left service with a fault -/

/-- Lane `i` is in FAULT if it was so before. -/
def State.FaultKept (i : Nat) (s t : State) : Prop := (s.lane i).state = .fault → (t.lane i).state = .fault

namespace State.FaultKept
variable {i : Nat} {s t u : State}

theorem trans (ht : s.FaultKept i t) (hu : t.FaultKept i u) : s.FaultKept i u := hu ∘ ht

theorem ite {c : Prop} [Decidable c] (ht : s.FaultKept i t) (hu : s.FaultKept i u) : s.FaultKept i (if c then t else u) := by
  split
  · exact ht
  · exact hu

theorem of_sameBut {ps : List Part} (h : SameBut ps s t) (hl : Part.lanes ∉ ps := by simp) : s.FaultKept i t :=
  fun fault => (congrArg Lane.state (h.lane i hl)).trans fault

theorem onLane (j : Nat) {f : Lane → Lane} (hf : ∀ l, l.state = .fault → (f l).state = .fault) : s.FaultKept i (s.onLane j f) := by
  intro fault
  obtain same | changed := at'_upd_cases s.lanes j i f
  · exact (congrArg Lane.state same).trans fault
  · exact (congrArg Lane.state changed).trans (hf _ fault)

end State.FaultKept

theorem Lane.norm_fault {l : Lane} (fault : l.state = .fault) : l.norm.state = .fault := by
  rw [l.norm_eq_ite, if_neg (by simp [Lane.inService, fault]), fault]

theorem State.dropItem_faultKept (s : State) (i j : Nat) (q : QItem) : s.FaultKept i (s.dropItem j q) :=
  .trans (.of_sameBut (s.dropDeadline_frame q.job q.idx)) (.onLane j fun _ fault => Lane.norm_fault fault)

/-- A record that leaves its lane with its mark and, at a checkpoint, the lane's wait for it. -/
theorem State.leftRecord_faultKept (s : State) (i j : Nat) (q : QItem) :
    let t := ((s.dropItem j q).onRec q.job q.idx fun r => { r with outcome := .ended }).queueMark 2 q.idx 0 q.job
    s.FaultKept i (if q.r.ckpt then t.flushMarks.onLane j fun l => { l with ckptWait := some (q.job, q.idx) } else t) := by
  have marked : s.FaultKept i (((s.dropItem j q).onRec q.job q.idx fun r => { r with outcome := .ended }).queueMark 2 q.idx 0 q.job) :=
    ((s.dropItem_faultKept i j q).trans (.of_sameBut (State.onRec_frame _ _ _ _))).trans (.of_sameBut (State.queueMark_frame _ _ _ _ _))
  exact .ite (marked.trans (.trans (.of_sameBut (State.flushMarks_frame _)) (.onLane j fun _ fault => fault))) marked

theorem State.endRecord_faultKept (s : State) (i j : Nat) (q : QItem) : s.FaultKept i (s.endRecord j q) :=
  (s.leftRecord_faultKept i j q).trans
    (.trans (.of_sameBut (State.gateEnded_frame _ q)) (.of_sameBut (State.checkDone_frame _ q.job)))

theorem State.endStopped_faultKept (s : State) (i j : Nat) (q : QItem) : s.FaultKept i (s.endStopped j q) :=
  (s.leftRecord_faultKept i j q).trans
    (.trans (.of_sameBut (State.gateStopped_frame _ q)) (.of_sameBut (State.checkDone_frame _ q.job)))

theorem State.solRest_faultKept (s : State) (c : Fin 32) : s.FaultKept (bankLane c) (s.solRest (c / 8)) :=
  .ite (s.cameToRest_fault (show 14 + c.val / 8 < 19 by omega)) id

theorem State.endSol_faultKept (s : State) (c : Fin 32) (st : ChanState) : s.FaultKept (bankLane c) (s.endSol c st) := by
  unfold State.endSol
  refine .trans ?_ (State.solRest_faultKept _ c)
  split
  · exact .trans (.of_sameBut (s.onChan_frame c _)) (.ite (State.endStopped_faultKept _ _ _ _) (State.endRecord_faultKept _ _ _ _))
  · exact .of_sameBut (s.onChan_frame c _)

/-! ### What a bank's stop makes of a channel (R381) -/

theorem State.beginSeg_others (s : State) (c k : Nat) : Others s.chans (s.beginSeg c k).chans c := (s.onChan_onlyChan c _).2

theorem State.jumpLast_others (s : State) (c : Nat) : Others s.chans (s.jumpLast c).chans c := by
  unfold State.jumpLast
  split
  · exact s.beginSeg_others c _
  · exact fun _ _ => rfl

theorem State.solStopChan_others (s : State) (c : Nat) : Others s.chans (s.solStopChan c).chans c := by
  have first (f : Chan → Chan) {t : State} (h : Others (s.onChan c f).chans t.chans c) : Others s.chans t.chans c :=
    fun j hj => (h j hj).trans ((s.onChan_onlyChan c f).2 j hj)
  unfold State.solStopChan
  dsimp only
  split
  · split
    · exact first _ (State.jumpLast_others _ c)
    · exact fun _ _ => rfl
  · split
    · exact (s.onChan_onlyChan c _).2
    · split
      · exact first _ (State.endSol_others _ c .idle)
      · exact fun _ _ => rfl

/-- A channel in FAULT has no profile that a stop of its bank could end. -/
theorem State.solStopChan_fault (s : State) (j : Nat) {c : Nat} (fault : (s.chan c).st = .fault) :
    (s.solStopChan j).chan c = s.chan c := by
  by_cases h : c = j
  · subst h
    simp [State.solStopChan, fault]
  · exact s.solStopChan_others j c h

theorem State.foldl_solStopChan_fault (l : List Nat) (s : State) {c : Nat} (fault : (s.chan c).st = .fault) :
    (l.foldl State.solStopChan s).chan c = s.chan c := by
  induction l generalizing s with
  | nil => rfl
  | cons j l ih =>
    have first := s.solStopChan_fault j fault
    exact (ih _ ((congrArg Chan.st first).trans fault)).trans first

/-! ### A lasting fault (R381) -/

/-- The channel as a lasting fault of cause `k` finds it. -/
def Chan.lasting (k : Nat) (q : Chan) : Chan :=
  { q with st := .fault, sw := .off, fcause := k, stopped := true, confirm := none, recRelease := false, recWaits := false }

/-- The state once the fault is told, the bank's profiles are released and its lane has left service. -/
def State.solFaultTold (s : State) (c cause code : Nat) (driving : Bool) (nh nl : Nat) : State :=
  (((s.onChan c (Chan.lasting cause)).raise 9 code (bankLane c)
    [flag 35 driving ||| field 34 31 cause ||| field 30 22 nh ||| field 21 13 nl ||| field 4 0 c]).solStopProfiles (c / 8)).laneFault
      (bankLane c)

theorem State.solFaultTold_chan (s : State) (c : Fin 32) (cause code : Nat) (driving : Bool) (nh nl : Nat) :
    (s.solFaultTold c cause code driving nh nl).chan c = (s.chan c).lasting cause := by
  have raised := (State.raise_frame (s.onChan c (Chan.lasting cause)) 9 code (bankLane c)
    [flag 35 driving ||| field 34 31 cause ||| field 30 22 nh ||| field 21 13 nl ||| field 4 0 c]).chan c
  rw [s.chan_onChan_fin] at raised
  have stopped := State.foldl_solStopChan_fault (bankChans (c / 8)) _ (congrArg Chan.st raised)
  exact ((State.laneFault_frame _ _).chan c).trans (stopped.trans raised)

theorem State.solFaultTold_lane (s : State) (c : Fin 32) (cause code : Nat) (driving : Bool) (nh nl : Nat) :
    ((s.solFaultTold c cause code driving nh nl).lane (bankLane c)).state = .fault :=
  State.laneFault_fault _ (show 14 + c.val / 8 < 19 by omega)

/-- The profile of a channel that drives ends with its lasting fault. -/
theorem State.solLasting_of_run (s : State) (c cause code : Nat) (driving : Bool) (nh nl : Nat) (runs : (s.chan c).st = .run) :
    s.solLasting c cause code driving nh nl = ((s.solFaultTold c cause code driving nh nl).endSol c .fault).solRest (c / 8) :=
  congrArg (State.solRest · (c / 8)) (if_pos (.inl runs))

/-! ### SOL_FAULT (R379, R380) -/

/-- No reading detects cause 0. -/
theorem State.solCause_ne_zero {s : State} {c : Nat} {p : Probe} {nh nl k : Nat} (cause : s.solCause c p nh nl = some k) : k ≠ 0 := by
  unfold State.solCause probeOverload at cause
  grind

section
variable {c : Fin 32} {s : State} {p : Probe} {nh nl : BitVec 9} {cause : Nat}

theorem execSolFault_run (found : s.solCause c p nh.toNat nl.toNat = some cause) (free : s.solDead c = false)
    (runs : (s.chan c).st = .run) :
    exec (.solFault c p nh nl) s =
      if (s.chan c).confirm.isSome then .next (s.solLasting c cause (solEvent cause) true nh.toNat nl.toNat)
      else .next (s.onChan c fun q =>
        { q with st := .recover, fcause := cause, sw := .off, recRelease := false, recWaits := false }) := by
  have detected : ¬ (cause = 0 ∨ s.solDead c = true) := by simp [State.solCause_ne_zero found, free]
  show execSolFault c p nh nl s = _
  simp only [execSolFault, found, Option.getD_some, if_neg detected, runs, reduceCtorEq, false_and, if_false, ne_eq, not_true_eq_false]

theorem solFault_recovers (found : s.solCause c p nh.toNat nl.toNat = some cause) (free : s.solDead c = false)
    (runs : (s.chan c).st = .run) (first : (s.chan c).confirm = none) :
    Answers (.solFault c p nh nl) s fun t =>
      (t.chan c).st = .recover ∧ (t.chan c).fcause = cause ∧ (t.chan c).sw = .off ∧ (t.chan c).seg = (s.chan c).seg ∧
        OnlyChan c s t := by
  have run := execSolFault_run found free runs
  rw [if_neg (by rw [first]; decide)] at run
  refine .of_chan run (s.onChan_chanTo c _) fun t chan only => ?_
  rw [chan]
  exact ⟨rfl, rfl, rfl, rfl, only⟩

theorem solFault_lasts (found : s.solCause c p nh.toNat nl.toNat = some cause) (free : s.solDead c = false)
    (runs : (s.chan c).st = .run) (again : (s.chan c).confirm.isSome = true) :
    Answers (.solFault c p nh nl) s fun t =>
      (t.chan c).st = .fault ∧ (t.chan c).fcause = cause ∧ (t.lane (bankLane c)).state = .fault := by
  have run := execSolFault_run found free runs
  rw [if_pos again, s.solLasting_of_run c _ _ _ _ _ runs] at run
  have told := s.solFaultTold_chan c cause (solEvent cause) true nh.toNat nl.toNat
  have chan := ((State.solRest_frame ((s.solFaultTold c cause (solEvent cause) true nh.toNat nl.toNat).endSol c .fault) (c / 8)).chan c).trans
    (State.endSol_chan _ c .fault)
  rw [told] at chan
  refine .of_next run ⟨?_, ?_, State.solRest_faultKept _ c (State.endSol_faultKept _ c .fault (s.solFaultTold_lane c _ _ _ _ _))⟩
  · rw [chan]; rfl
  · rw [chan]; rfl

theorem execSolFault_not (harmless : s.solCause c p nh.toNat nl.toNat = none ∨ s.solDead c = true) :
    exec (.solFault c p nh nl) s = .next s :=
  if_pos (harmless.imp (fun none => by rw [none]; rfl) id)

/-! ### SOL_RECOVER and SOL_CONFIRM_END (R380) -/

theorem solRecover_waits (recovers : (s.chan c).st = .recover) (dead : s.solDead c = true) :
    Answers (.solRecover c) s fun t => (t.chan c).recWaits = true ∧ (t.chan c).st = .recover ∧ OnlyChan c s t := by
  have run : exec (.solRecover c) s = .next (s.onChan c fun q => { q with recWaits := true }) :=
    congrArg Host.Outcome.next ((if_neg (not_not_intro recovers)).trans (if_pos dead))
  refine .of_chan run (s.onChan_chanTo c _) fun t chan only => ?_
  rw [chan]
  exact ⟨rfl, recovers, only⟩

theorem solRecover_resumes (recovers : (s.chan c).st = .recover) (free : s.solDead c = false) (stays : (s.chan c).recRelease = false)
    (inner : (s.chan c).seg ≠ (s.chan c).nseg) :
    Answers (.solRecover c) s fun t =>
      (t.chan c).st = .run ∧ (t.chan c).confirm = some (s.chan c).fcause ∧ (t.chan c).seg = (s.chan c).seg ∧ OnlyChan c s t := by
  have run : exec (.solRecover c) s = .next (s.onChan c fun q =>
      { q with st := if q.seg = q.nseg then .release else .run, confirm := some q.fcause, recWaits := false, sw := s.segSwitch c q,
               tripNow := false }) :=
    congrArg Host.Outcome.next <| (if_neg (not_not_intro recovers)).trans <| (if_neg (ne_true_of_eq_false free)).trans <|
      if_neg (ne_true_of_eq_false stays)
  refine .of_chan run (s.onChan_chanTo c _) fun t chan only => ?_
  rw [chan]
  exact ⟨if_neg inner, rfl, rfl, only⟩

theorem execSolRecover_not (other : (s.chan c).st ≠ .recover) : exec (.solRecover c) s = .next s :=
  congrArg Host.Outcome.next (if_pos other)

theorem Chan.pass_some {q : Chan} {k : Nat} (opened : q.confirm = some k) :
    q.pass.confirm = none ∧ (k = 6 → q.pass.diagTr = satInc 4095 q.diagTr) ∧ (k ≠ 6 → q.pass.ocTr = satInc 4095 q.ocTr) := by
  unfold Chan.pass
  split <;> simp_all

theorem solConfirmEnd_counts {k : Nat} (runs : (s.chan c).st = .run) (opened : (s.chan c).confirm = some k) :
    Answers (.solConfirmEnd c) s fun t =>
      (t.chan c).confirm = none ∧ (k = 6 → (t.chan c).diagTr = satInc 4095 (s.chan c).diagTr) ∧
        (k ≠ 6 → (t.chan c).ocTr = satInc 4095 (s.chan c).ocTr) ∧ OnlyChan c s t := by
  obtain ⟨confirm, diag, oc⟩ := Chan.pass_some opened
  refine .of_chan (congrArg Host.Outcome.next (if_pos (.inl runs))) (s.onChan_chanTo c Chan.pass) fun t chan only => ?_
  rw [chan]
  exact ⟨confirm, diag, oc, only⟩

end

/-! ### The result of a check stands (R384) -/

/-- The result of channel `c`'s last check is as it was, and no check of it has begun. -/
def State.Judged (c : Nat) (s t : State) : Prop :=
  (t.chan c).dresult = (s.chan c).dresult ∧ ((s.chan c).checking = 0 → (t.chan c).checking = 0)

namespace State.Judged
variable {c : Nat} {s t u : State}

theorem refl : s.Judged c s := ⟨rfl, id⟩

theorem trans (ht : s.Judged c t) (hu : t.Judged c u) : s.Judged c u := ⟨hu.1.trans ht.1, hu.2 ∘ ht.2⟩

theorem ite {p : Prop} [Decidable p] (ht : s.Judged c t) (hu : s.Judged c u) : s.Judged c (if p then t else u) := by
  split
  · exact ht
  · exact hu

theorem of_sameBut {ps : List Part} (h : SameBut ps s t) (hc : Part.chans ∉ ps := by simp) : s.Judged c t := by
  rw [State.Judged, h.chan c hc]
  exact refl

theorem onChan (j : Nat) (f : Chan → Chan) (hf : ∀ q, (f q).dresult = q.dresult ∧ (q.checking = 0 → (f q).checking = 0)) :
    s.Judged c (s.onChan j f) := by
  obtain same | changed := at'_upd_cases s.chans j c f
  · exact (congrArg (fun q : Chan => q.dresult = (s.chan c).dresult ∧ ((s.chan c).checking = 0 → q.checking = 0)) same).mpr refl
  · exact (congrArg (fun q : Chan => q.dresult = (s.chan c).dresult ∧ ((s.chan c).checking = 0 → q.checking = 0)) changed).mpr (hf _)

theorem foldl {α : Type} {f : State → α → State} {l : List α} (h : ∀ t a, State.Judged c t (f t a)) : s.Judged c (l.foldl f s) := by
  induction l generalizing s with
  | nil => exact refl
  | cons a l ih => exact (h s a).trans ih

end State.Judged

section
variable {c : Nat} (s : State)

theorem State.beginSeg_judged (j k : Nat) : s.Judged c (s.beginSeg j k) :=
  .onChan j _ fun q => ⟨congrArg Chan.Course.dresult (s.segBegun_course j k q),
    fun idle => (congrArg Chan.Course.checking (s.segBegun_course j k q)).trans idle⟩

theorem State.jumpLast_judged (j : Nat) : s.Judged c (s.jumpLast j) := .ite (s.beginSeg_judged j _) .refl

theorem State.endSol_judged (j : Nat) (st : ChanState) : s.Judged c (s.endSol j st) :=
  .trans (.onChan j (Chan.rested st) fun _ => ⟨rfl, fun _ => rfl⟩) (.of_sameBut (s.endSol_frame j st))

theorem State.solStopChan_judged (j : Nat) : s.Judged c (s.solStopChan j) := by
  have marked : s.Judged c (s.onChan j fun q => { q with stopped := true }) := .onChan j _ fun _ => ⟨rfl, id⟩
  unfold State.solStopChan
  dsimp only
  split
  · exact .ite (marked.trans (State.jumpLast_judged _ j)) .refl
  · split
    · exact .onChan j _ fun _ => ⟨rfl, id⟩
    · exact .ite (marked.trans (State.endSol_judged _ j _)) .refl

theorem State.solLasting_judged (j cause code : Nat) (driving : Bool) (nh nl : Nat) :
    s.Judged c (s.solLasting j cause code driving nh nl) := by
  have told : s.Judged c (s.solFaultTold j cause code driving nh nl) :=
    .trans (.onChan j (Chan.lasting cause) fun _ => ⟨rfl, id⟩) <| .trans (.of_sameBut (State.raise_frame _ _ _ _ _)) <|
      .trans (.foldl fun t i => t.solStopChan_judged i) (.of_sameBut (State.laneFault_frame _ _))
  refine .trans ?_ (.of_sameBut (State.solRest_frame _ _))
  split
  · exact told.trans (State.endSol_judged _ j _)
  · exact told.trans (.onChan j _ fun _ => ⟨rfl, id⟩)

theorem State.diagFaults_judged (b : Nat) : s.Judged c (s.diagFaults b) := .foldl fun t j => .ite (t.solLasting_judged j _ _ _ _ _) .refl

theorem State.solDiagEnd_judged (b : Nat) : s.Judged c (s.solDiagEnd b) := by
  refine .ite .refl (.trans (.trans ?_ (State.diagFaults_judged _ b)) (.of_sameBut (State.solRest_frame _ _)))
  split
  · exact .ite (.of_sameBut (State.endRecord_frame _ _ _)) .refl
  · exact .refl

end

/-- The channel whose check has the result SOUND. -/
def Chan.sound (driving : Bool) (nh nl : Nat) (q : Chan) : Chan :=
  { q with dresult := 1, dstate := driving, dnh := nh, dnl := nl, checking := 0, again := false, pulseCause := 0, sw := .off,
           diagTr := if q.again then satInc 4095 q.diagTr else q.diagTr, st := .idle, stopped := false }

theorem State.solFinal_sound (s : State) (c : Fin 32) {cause nh nl : Nat} {driving : Bool} (diag : (s.chan c).checking = 3) :
    ((s.solFinal c 1 cause driving nh nl).chan c).dresult = 1 ∧ ((s.solFinal c 1 cause driving nh nl).chan c).checking = 0 := by
  have ended : s.solFinal c 1 cause driving nh nl = (s.onChan c (Chan.sound driving nh nl)).solDiagEnd (c / 8) := by
    simp only [State.solFinal, diag, if_true, true_and, Nat.reduceEqDiff, if_false, State.onChan_onChan]
    rfl
  obtain ⟨dresult, checking⟩ := State.solDiagEnd_judged (c := c) (s.onChan c (Chan.sound driving nh nl)) (c / 8)
  rw [s.chan_onChan_fin] at dresult checking
  rw [ended]
  exact ⟨dresult, checking rfl⟩

/-! ### OFF_STATE_CHECK_DONE and ON_STATE_CHECK_DONE (R382..R384) -/

section
variable {c : Fin 32} {s : State} {nh1 nl1 nh2 nl2 vs nh nl : BitVec 9} {ofs : BitVec 12} {code : BitVec 10}

theorem execOffStateCheckDone_diag (diag : (s.chan c).checking = 3) (off : (s.chan c).onState = false) :
    exec (.offStateCheckDone c nh1 nl1 nh2 nl2 vs ofs) s =
      let r := offResult nh1.toNat nh2.toNat nl2.toNat vs.toNat
      if r ≠ 1 ∧ !(s.chan c).again then .next (s.onChan c fun q => { q with again := true })
      else if r = 3 then .next (s.solFinal c r 7 false nh1.toNat nl1.toNat)
      else .next (s.solFinal c r 7 false nh2.toNat nl2.toNat) := by
  show execOffStateCheckDone c nh1 nl1 nh2 nl2 vs ofs s = _
  simp only [execOffStateCheckDone, diag, off, Nat.reduceEqDiff, false_and, and_false, or_self, if_false, Bool.false_eq_true]

theorem offStateCheckDone_repeats (diag : (s.chan c).checking = 3) (off : (s.chan c).onState = false)
    (bad : offResult nh1.toNat nh2.toNat nl2.toNat vs.toNat ≠ 1) (first : (s.chan c).again = false) :
    Answers (.offStateCheckDone c nh1 nl1 nh2 nl2 vs ofs) s fun t =>
      (t.chan c).again = true ∧ (t.chan c).checking = 3 ∧ OnlyChan c s t := by
  refine .of_chan ((execOffStateCheckDone_diag diag off).trans (if_pos ⟨bad, by rw [first]; rfl⟩)) (s.onChan_chanTo c _)
    fun t chan only => ?_
  rw [chan]
  exact ⟨rfl, diag, only⟩

theorem offStateCheckDone_sound (diag : (s.chan c).checking = 3) (off : (s.chan c).onState = false)
    (sound : offResult nh1.toNat nh2.toNat nl2.toNat vs.toNat = 1) :
    Answers (.offStateCheckDone c nh1 nl1 nh2 nl2 vs ofs) s fun t => (t.chan c).dresult = 1 ∧ (t.chan c).checking = 0 := by
  have run := execOffStateCheckDone_diag (nh1 := nh1) (nl1 := nl1) (nh2 := nh2) (nl2 := nl2) (vs := vs) (ofs := ofs) diag off
  rw [sound] at run
  exact .of_next run (s.solFinal_sound c diag)

theorem execOffStateCheckDone_not (idle : (s.chan c).checking = 0) : exec (.offStateCheckDone c nh1 nl1 nh2 nl2 vs ofs) s = .next s :=
  if_pos (.inl idle)

/-- The test pulse ends with a current below the minimum between nodes that drive: the coil is open (R383). -/
def State.pulseLow (s : State) (c code nh nl vs : Nat) : Bool := decide (code < s.sc c F.sc_DIAG_IMIN) && drivenNodes nh nl vs

theorem State.pulseLow_iff (s : State) (c code nh nl vs : Nat) :
    s.pulseLow c code nh nl vs = true ↔ code < s.sc c F.sc_DIAG_IMIN ∧ drivenNodes nh nl vs = true := by
  simp [State.pulseLow]

theorem execOnStateCheckDone_diag (diag : (s.chan c).checking = 3) (on : (s.chan c).onState = true)
    (quiet : (s.chan c).pulseCause = 0) :
    exec (.onStateCheckDone c code nh (nl, vs)) s =
      let r := if s.pulseLow c code.toNat nh.toNat nl.toNat vs.toNat then 2 else 1
      if r ≠ 1 ∧ !(s.chan c).again then
        .next (s.onChan c fun q => { q with again := true, pulseCause := 0, sw := if s.solDead c then .off else .drive })
      else .next (s.solFinal c r 8 true nh.toNat nl.toNat) := by
  show execOnStateCheckDone c code nh (nl, vs) s = _
  simp only [execOnStateCheckDone, diag, on, quiet, ne_eq, not_true_eq_false, decide_false, Bool.not_true, Bool.false_eq_true,
    or_self, if_false]
  rfl

theorem onStateCheckDone_repeats (diag : (s.chan c).checking = 3) (on : (s.chan c).onState = true) (quiet : (s.chan c).pulseCause = 0)
    (low : code.toNat < s.sc c F.sc_DIAG_IMIN ∧ drivenNodes nh.toNat nl.toNat vs.toNat = true) (first : (s.chan c).again = false) :
    Answers (.onStateCheckDone c code nh (nl, vs)) s fun t =>
      (t.chan c).again = true ∧ (t.chan c).checking = 3 ∧ OnlyChan c s t := by
  have run := execOnStateCheckDone_diag (code := code) (nh := nh) (nl := nl) (vs := vs) diag on quiet
  rw [(s.pulseLow_iff c _ _ _ _).mpr low] at run
  refine .of_chan (run.trans (if_pos ⟨by decide, by rw [first]; rfl⟩)) (s.onChan_chanTo c _) fun t chan only => ?_
  rw [chan]
  exact ⟨rfl, diag, only⟩

theorem onStateCheckDone_sound (diag : (s.chan c).checking = 3) (on : (s.chan c).onState = true) (quiet : (s.chan c).pulseCause = 0)
    (sound : ¬ (code.toNat < s.sc c F.sc_DIAG_IMIN ∧ drivenNodes nh.toNat nl.toNat vs.toNat = true)) :
    Answers (.onStateCheckDone c code nh (nl, vs)) s fun t => (t.chan c).dresult = 1 ∧ (t.chan c).checking = 0 := by
  have run := execOnStateCheckDone_diag (code := code) (nh := nh) (nl := nl) (vs := vs) diag on quiet
  rw [Bool.eq_false_iff.mpr fun low => sound ((s.pulseLow_iff c _ _ _ _).mp low)] at run
  exact .of_next run (s.solFinal_sound c diag)

theorem execOnStateCheckDone_not (other : (s.chan c).checking ≠ 3) : exec (.onStateCheckDone c code nh (nl, vs)) s = .next s :=
  if_pos (.inl other)

end

/-! ### COIL_MODEL_UPDATE (R375, R378) -/

/-- Channel `c` keeps its fast pole, and only channels and what events touch differ, no channel but `c`. -/
def State.PoleKept (c : Nat) (s t : State) : Prop :=
  (t.chan c).theta1 = (s.chan c).theta1 ∧ SameBut [.chans, .dev, .ev, .ports] s t ∧ Others s.chans t.chans c

namespace State.PoleKept
variable {c : Nat} {s t u : State}

theorem refl : s.PoleKept c s := ⟨rfl, .refl _ s, fun _ _ => rfl⟩

theorem trans (ht : s.PoleKept c t) (hu : t.PoleKept c u) : s.PoleKept c u :=
  ⟨hu.1.trans ht.1, ht.2.1.trans hu.2.1, fun j hj => (hu.2.2 j hj).trans (ht.2.2 j hj)⟩

theorem ite {p : Prop} [Decidable p] (ht : s.PoleKept c t) (hu : s.PoleKept c u) : s.PoleKept c (if p then t else u) := by
  split
  · exact ht
  · exact hu

theorem onChan (f : Chan → Chan) (hf : ∀ q, (f q).theta1 = q.theta1) : s.PoleKept c (s.onChan c f) := by
  refine ⟨?_, (s.onChan_frame c f).mono (by simp), (s.onChan_onlyChan c f).2⟩
  obtain same | changed := at'_upd_cases s.chans c c f
  · exact congrArg Chan.theta1 same
  · exact (congrArg Chan.theta1 changed).trans (hf _)

end State.PoleKept

theorem State.raise_poleKept (s : State) (c cls code lane : Nat) (args : List Word) : s.PoleKept c (s.raise cls code lane args) :=
  have told := s.raise_frame cls code lane args
  ⟨congrArg Chan.theta1 (told.chan c), told.mono (by simp), fun j _ => told.chan j⟩

theorem State.hotCut_poleKept (s : State) (c : Nat) : s.PoleKept c (s.hotCut c) :=
  .ite (.trans (s.raise_poleKept _ _ _ _ _) (.ite (.onChan _ fun q => congrArg Chan.Course.theta1 (State.segBegun_course _ c _ q)) .refl)) .refl

/-- The state in which channel `c` has adopted what waits for an update of its model. -/
def State.modelAdopted (s : State) (c : Nat) : State := s.onChan c fun q => { q with hold := q.hold.filter fun h => h.1 < 4 }

/-- Both poles of channel `c` move toward the rise that the mean square `isq` makes. -/
def State.poled (s : State) (c isq : Nat) (q : Chan) : Chan :=
  { q with theta1 := poleStep q.theta1 (s.coilRise c isq (s.cfg (.sol c) F.sc_RTH1)) (s.cfg (.sol c) F.sc_TAU1),
           theta2 := poleStep q.theta2 (s.coilRise c isq (s.cfg (.sol c) F.sc_RTH2)) (10 * s.cfg (.sol c) F.sc_TAU2) }

def State.polesMoved (s : State) (c isq : Nat) : State := s.onChan c (s.poled c isq)

theorem State.polesMoved_chanTo (s : State) (c : Fin 32) (isq : Nat) : s.ChanTo c (s.poled c isq (s.chan c)) (s.polesMoved c isq) :=
  s.onChan_chanTo c _

/-- T_coil of channel `c` follows from its poles and the ambient temperature `amb`, WARN and HOT from T_coil; a coil that gets HOT is
cut (R378). -/
def State.coilJudged (s : State) (c : Nat) (amb : Int × Bool) : State :=
  let s := s.onChan c fun q => { q with tcoil := amb.1 + ((q.theta1 + q.theta2) * 8 / kelvin : Nat) }
  let t := s.coilFlags c amb.2
  if !s.solHot c ∧ t.solHot c then t.hotCut c else t

theorem State.coilFlags_poleKept (s : State) (c : Nat) (broken : Bool) : s.PoleKept c (s.coilFlags c broken) := .onChan _ fun _ => rfl

theorem State.coilJudged_poleKept (s : State) (c : Nat) (amb : Int × Bool) : s.PoleKept c (s.coilJudged c amb) := by
  unfold State.coilJudged
  refine .trans (.onChan (fun q => { q with tcoil := amb.1 + ((q.theta1 + q.theta2) * 8 / kelvin : Nat) }) fun _ => rfl) ?_
  exact .ite ((State.coilFlags_poleKept _ c _).trans (State.hotCut_poleKept _ c)) (State.coilFlags_poleKept _ c _)

section
variable {c : Fin 32} {s : State} {isq : BitVec 20} {mv ma : BitVec 16}

theorem State.polesMoved_coilMeasures (s : State) (c : Fin 32) (isq ma : Nat) :
    (s.polesMoved c isq).coilMeasures c ma = s.coilMeasures c ma := by
  unfold State.coilMeasures
  rw [State.polesMoved, s.chan_onChan_fin]
  rfl

theorem execCoilModelUpdate_off (off : (at' s.power.doms (14 + c.val / 16)).st = .off) :
    exec (.coilModelUpdate c isq mv ma) s = .next s := if_pos off

theorem execCoilModelUpdate_unmeasured (on : (at' s.power.doms (14 + c.val / 16)).st ≠ .off)
    (unmeasured : (s.modelAdopted c).coilMeasures c ma.toNat = false) :
    exec (.coilModelUpdate c isq mv ma) s =
      .next (((s.modelAdopted c).polesMoved c isq.toNat).coilJudged c ((s.modelAdopted c).ambient c)) := by
  have still := ((s.modelAdopted c).polesMoved_coilMeasures c isq.toNat ma.toNat).trans unmeasured
  refine (if_neg on).trans (congrArg (fun u : State => Host.Outcome.next (u.coilJudged c ((s.modelAdopted c).ambient c))) ?_)
  exact if_neg (ne_true_of_eq_false still)

theorem coilModelUpdate_moves_pole (on : (at' s.power.doms (14 + c.val / 16)).st ≠ .off)
    (unmeasured : (s.modelAdopted c).coilMeasures c ma.toNat = false) :
    Answers (.coilModelUpdate c isq mv ma) s fun t =>
      (t.chan c).theta1 = poleStep (s.chan c).theta1
          ((s.modelAdopted c).coilRise c isq.toNat ((s.modelAdopted c).cfg (.sol c) F.sc_RTH1)) ((s.modelAdopted c).cfg (.sol c) F.sc_TAU1) ∧
        SameBut [.chans, .dev, .ev, .ports] s t ∧ Others s.chans t.chans c := by
  obtain ⟨adopted, first, rest⟩ := s.onChan_chanTo c fun q => { q with hold := q.hold.filter fun h => h.1 < 4 }
  obtain ⟨moved, second, others⟩ := (s.modelAdopted c).polesMoved_chanTo c isq.toNat
  obtain ⟨theta, judged, alone⟩ := ((s.modelAdopted c).polesMoved c isq.toNat).coilJudged_poleKept c ((s.modelAdopted c).ambient c)
  refine .of_next (execCoilModelUpdate_unmeasured on unmeasured) ⟨theta.trans ((congrArg Chan.theta1 moved).trans ?_),
    ((first.trans second).mono (by simp)).trans judged, fun j hj => (alone j hj).trans ((others j hj).trans (rest j hj))⟩
  exact congrArg (poleStep · _ _) (congrArg Chan.theta1 adopted)

end

/-- Settles O43: a cause that is found while the channel drives is recovered from once and lasts the second time; a check is made again or
ends; the pole takes its step where nothing is measured. -/
theorem solenoidFaultsAndChecks : Obligations.SolenoidFaultsAndChecks := fun _ _ =>
  ⟨fun _ _ _ _ found free runs => ⟨solFault_recovers found free runs, solFault_lasts found free runs⟩, fun _ _ _ => execSolFault_not,
    solRecover_waits, solRecover_resumes, execSolRecover_not, fun _ => solConfirmEnd_counts,
    fun _ _ _ _ _ _ diag off => ⟨offStateCheckDone_repeats diag off, offStateCheckDone_sound diag off⟩,
    fun _ _ _ _ _ _ => execOffStateCheckDone_not,
    fun _ _ _ _ diag on quiet => ⟨onStateCheckDone_repeats diag on quiet, onStateCheckDone_sound diag on quiet⟩,
    fun _ _ _ _ => execOnStateCheckDone_not, fun _ _ _ => execCoilModelUpdate_off, fun _ _ _ => coilModelUpdate_moves_pole⟩

end Sys2Proof.Machine
end

section
/-!
PROOFS. Position feedback: encoders (R392..R398).
-/

namespace Sys2Proof.Machine

/-! ### What a lasting fault of an input leaves alone (R323, R398) -/

theorem State.markUncertain_frame (s : State) (n cause : Nat) : SameBut [.axes, .dev, .ev, .ports] s (s.markUncertain n cause) :=
  ((s.onAx_frame n _).mono (by simp)).trans ((State.raise_frame _ _ _ _ _).mono (by simp))

theorem State.confJudge_frame (s : State) (n : Nat) (c : Conf) : SameBut [.axes, .dev, .ev, .ports] s (s.confJudge n c) :=
  .ite ((s.onAx_frame n _).mono (by simp)) (.ite (s.markUncertain_frame n _) ((s.onAx_frame n _).mono (by simp)))

theorem State.dropSlaves_frame (s : State) (msrc k : Nat) :
    SameBut [.axes, .lanes, .jobs, .welt, .dev, .ev, .ports] s (s.dropSlaves msrc k) := by
  refine .foldl (fun t n => .ite (.trans ?_ ((State.laneFault_frame _ _).mono (by simp))) (.refl _ t)) _ s
  exact (t.onAx_frame n _).mono (by simp)

/-- The state with the flag of a broken sensor input set (R132). -/
def State.brokenFlagged (s : State) : State := { s with sup := { s.sup with broken := true } }

theorem State.brokenFlagged_frame (s : State) : SameBut [.sup] s s.brokenFlagged := by
  intro p hp
  cases p with
  | sup => exact absurd (.head _) hp
  | _ => rfl

theorem State.sensorBroken_flagged (s : State) (arg : Word) : SameBut [.dev, .ev, .ports] s.brokenFlagged (s.sensorBroken arg) :=
  State.raise_frame _ _ _ _ _

theorem State.sensorBroken_frame (s : State) (arg : Word) : SameBut [.sup, .dev, .ev, .ports] s (s.sensorBroken arg) :=
  (s.brokenFlagged_frame.mono (by simp)).trans ((s.sensorBroken_flagged arg).mono (by simp))

/-! ### A change of one encoder -/

theorem State.onEnc_onlyEnc (s : State) (e : Nat) (f : Enc → Enc) : OnlyEnc e s (s.onEnc e f) :=
  ⟨s.onEnc_frame e f, fun j hj => at'_upd_ne s.encs e j f hj⟩

theorem State.onEnc_onEnc (s : State) (e : Nat) (f g : Enc → Enc) : (s.onEnc e f).onEnc e g = s.onEnc e fun q => g (f q) :=
  congrArg (fun v => { s with encs := v }) (upd_upd s.encs e f g)

theorem SameBut.enc {ps : List Part} {s t : State} (h : SameBut ps s t) (e : Nat) (he : Part.encs ∉ ps := by simp) : t.enc e = s.enc e :=
  congrArg (at' · e) (h .encs he :)

theorem Answers.of_enc {c : Instr} {s : State} {e : Fin 8} {f : Enc → Enc} {P : State → Prop} (run : exec c s = .next (s.onEnc e f))
    (h : ∀ t, t.enc e = f (s.enc e) → OnlyEnc e s t → P t) : Answers c s P :=
  .of_next run (h _ (s.enc_onEnc_fin e f) (s.onEnc_onlyEnc e f))

/-! ### ENC_COUNT (R392, R393, R397) -/

/-- By how many places of four the quadrature state of encoder `e` turns. -/
def State.encTurn (s : State) (e : Nat) (a b : Bool) : Int := (quadPlace a b - quadPlace (s.enc e).a (s.enc e).b) % 4

/-- The encoder with its new levels. -/
def Enc.levels (a b : Bool) (q : Enc) : Enc := { q with a := a, b := b }

section
variable {e : Fin 8} {a b : Bool} {s : State}

/-- A legal step counts in the direction that DIR_INV gives. -/
theorem execEncCount_step (enabled : s.cfgB (.enc e) F.enc_EN = true) (steps : s.encTurn e a b ≠ 0) (legal : s.encTurn e a b ≠ 2) :
    exec (.encCount e a b) s =
      .next (s.onEnc e fun q =>
        { q.levels a b with
          cnt := if (s.encTurn e a b == 1) != s.cfgB (.enc e) F.enc_DIR_INV then q.cnt + 1 else q.cnt - 1 }) := by
  have counts : ¬ ((!s.cfgB (.enc e) F.enc_EN) = true ∨ s.encTurn e a b = 0) := by simp [enabled, steps]
  exact congrArg Host.Outcome.next ((if_neg counts).trans ((if_neg legal).trans (s.onEnc_onEnc e (Enc.levels a b) _)))

theorem encCount_forward (enabled : s.cfgB (.enc e) F.enc_EN = true) (turn : s.encTurn e a b = 1) :
    Answers (.encCount e a b) s fun t =>
      (t.enc e).cnt = (if s.cfgB (.enc e) F.enc_DIR_INV then (s.enc e).cnt - 1 else (s.enc e).cnt + 1) ∧ (t.enc e).a = a ∧
        (t.enc e).b = b ∧ OnlyEnc e s t := by
  refine .of_enc (execEncCount_step enabled (by rw [turn]; decide) (by rw [turn]; decide)) fun t enc only => ?_
  rw [enc, turn]
  refine ⟨?_, rfl, rfl, only⟩
  cases s.cfgB (.enc e) F.enc_DIR_INV <;> rfl

theorem encCount_backward (enabled : s.cfgB (.enc e) F.enc_EN = true) (turn : s.encTurn e a b = 3) :
    Answers (.encCount e a b) s fun t =>
      (t.enc e).cnt = (if s.cfgB (.enc e) F.enc_DIR_INV then (s.enc e).cnt + 1 else (s.enc e).cnt - 1) ∧ (t.enc e).a = a ∧
        (t.enc e).b = b ∧ OnlyEnc e s t := by
  refine .of_enc (execEncCount_step enabled (by rw [turn]; decide) (by rw [turn]; decide)) fun t enc only => ?_
  rw [enc, turn]
  refine ⟨?_, rfl, rfl, only⟩
  cases s.cfgB (.enc e) F.enc_DIR_INV <;> rfl

theorem encCount_still (still : s.cfgB (.enc e) F.enc_EN = false ∨ s.encTurn e a b = 0) :
    Answers (.encCount e a b) s fun t => t.enc e = { s.enc e with a := a, b := b } ∧ OnlyEnc e s t :=
  .of_enc (congrArg Host.Outcome.next (if_pos (still.imp_left fun off => by rw [off]; rfl))) fun _ enc only => ⟨enc, only⟩

/-- An illegal transition of an encoder without a lasting fault opens the window, or is the second one within it. -/
theorem execEncCount_illegal (enabled : s.cfgB (.enc e) F.enc_EN = true) (turn : s.encTurn e a b = 2) (sound : (s.enc e).fault = false) :
    exec (.encCount e a b) s =
      .next (if (s.enc e).quadOpen then (s.onEnc e (Enc.levels a b)).encFault e 1
        else (s.onEnc e (Enc.levels a b)).onEnc e fun q => { q with quadOpen := true }) := by
  have counts : ¬ ((!s.cfgB (.enc e) F.enc_EN) = true ∨ s.encTurn e a b = 0) := by simp [enabled, turn]
  exact congrArg Host.Outcome.next ((if_neg counts).trans ((if_pos turn).trans (if_neg (ne_true_of_eq_false sound))))

theorem encCount_opens (enabled : s.cfgB (.enc e) F.enc_EN = true) (turn : s.encTurn e a b = 2) (sound : (s.enc e).fault = false)
    (first : (s.enc e).quadOpen = false) :
    Answers (.encCount e a b) s fun t => (t.enc e).quadOpen = true ∧ (t.enc e).cnt = (s.enc e).cnt ∧ OnlyEnc e s t := by
  have run := execEncCount_illegal enabled turn sound
  rw [if_neg (ne_true_of_eq_false first), s.onEnc_onEnc] at run
  refine .of_enc run fun t enc only => ?_
  rw [enc]
  exact ⟨rfl, rfl, only⟩

/-- The encoder with a lasting fault. -/
def Enc.faulted (code : Nat) (q : Enc) : Enc :=
  { q with fault := true, fcode := code, breaks := q.breaks + 1, quadOpen := false, idxBad := false }

/-- A lasting fault is latched in the encoder and told; what follows or prints by it is stopped (R398). -/
theorem State.encFault_told {s : State} {e : Fin 8} (code : Nat) (sound : (s.enc e).fault = false) :
    SameBut [.axes, .lanes, .jobs, .welt, .dev, .ev, .ports]
      ((s.onEnc e (Enc.faulted code)).sensorBroken (BitVec.ofNat 36 (32 + e))) (s.encFault e code) := by
  rw [State.encFault, if_neg (ne_true_of_eq_false sound)]
  exact (State.dropSlaves_frame _ 0 e).trans (.foldl (fun t x => .ite ((t.faultOne_frame x).mono (by simp)) (.refl _ t)) _ _)

theorem State.encFault_latched {s : State} {e : Fin 8} (code : Nat) (sound : (s.enc e).fault = false) :
    (s.encFault e code).enc e = (s.enc e).faulted code ∧ (s.encFault e code).sup.broken = true := by
  have told := State.encFault_told code sound
  have latched := (State.sensorBroken_frame (s.onEnc e (Enc.faulted code)) (BitVec.ofNat 36 (32 + e))).enc e
  rw [s.enc_onEnc_fin] at latched
  refine ⟨(told.enc e).trans latched, ?_⟩
  rw [show _ = _ from told .sup (by simp), State.sensorBroken_broken]

theorem encCount_faults (enabled : s.cfgB (.enc e) F.enc_EN = true) (turn : s.encTurn e a b = 2) (sound : (s.enc e).fault = false)
    (second : (s.enc e).quadOpen = true) :
    Answers (.encCount e a b) s fun t =>
      (t.enc e).fault = true ∧ (t.enc e).fcode = 1 ∧ (t.enc e).cnt = (s.enc e).cnt ∧ t.sup.broken = true := by
  have run := execEncCount_illegal enabled turn sound
  rw [if_pos second] at run
  have levels := s.enc_onEnc_fin e (Enc.levels a b)
  obtain ⟨enc, broken⟩ := State.encFault_latched (s := s.onEnc e (Enc.levels a b)) 1 ((congrArg Enc.fault levels).trans sound)
  rw [levels] at enc
  refine .of_next run ?_
  rw [enc]
  exact ⟨rfl, rfl, rfl, broken⟩

/-! ### The window's end and the port's writes (R394, R397, R398) -/

theorem quadWindowEnd_counts (opened : (s.enc e).quadOpen = true) :
    Answers (.quadWindowEnd e) s fun t =>
      (t.enc e).quadOpen = false ∧ (t.enc e).qerrTr = satInc 4095 (s.enc e).qerrTr ∧ OnlyEnc e s t := by
  refine .of_enc (congrArg Host.Outcome.next (if_pos opened)) fun t enc only => ?_
  rw [enc]
  exact ⟨rfl, rfl, only⟩

theorem execQuadWindowEnd_not (closed : (s.enc e).quadOpen = false) : exec (.quadWindowEnd e) s = .next s :=
  congrArg Host.Outcome.next (if_neg (ne_true_of_eq_false closed))

theorem encArm_arms (p : Fin 2) : Answers (.encArm p e) s fun t => t.enc e = { s.enc e with armed := true } ∧ OnlyEnc e s t :=
  .of_enc (f := fun q => { q with armed := true }) rfl fun _ enc only => ⟨enc, only⟩

theorem encZero_zeroes (p : Fin 2) :
    Answers (.encZero p e) s fun t =>
      (t.enc e).cnt = (s.enc e).cnt ∧ (t.enc e).cnt - (t.enc e).zofs = BitVec.ofNat 36 (s.cfg (.enc e) F.enc_IDX_VAL) ∧
        OnlyEnc e s t := by
  refine .of_enc (f := fun q => { q with zofs := q.cnt - BitVec.ofNat 36 (s.cfg (.enc e) F.enc_IDX_VAL) }) rfl fun t enc only => ?_
  rw [enc]
  exact ⟨rfl, sub_sub_cancel _ _, only⟩

theorem encClr_clears (p : Fin 2) :
    Answers (.encClr p e) s fun t =>
      (t.enc e).fault = false ∧ (t.enc e).fcode = 0 ∧ (t.enc e).cnt = (s.enc e).cnt ∧ OnlyEnc e s t := by
  refine .of_enc (f := fun q => { q with fault := false, fcode := 0, nIdx := 0, idxBad := false, quadOpen := false }) rfl
    fun t enc only => ?_
  rw [enc]
  exact ⟨rfl, rfl, rfl, only⟩

/-! ### ENC_INDEX (R396) -/

theorem State.indexHomes_frame (s : State) (n ph : Nat) : SameBut [.axes] s (s.indexHomes n ph) :=
  .foldl (fun t k => .ite (t.onAx_frame k _) (.refl _ t)) _ s

/-- Without CPR an accepted index is not checked. -/
theorem State.indexCheck_unset (s : State) {n : Nat} (unset : s.cfg (.enc n) F.enc_CPR = 0) : s.indexCheck n = s := if_pos (.inl unset)

theorem encIndex_ignored {level : Bool} {ph : BitVec 12} (ignored : (s.enc e).i = level ∨ s.cfgB (.enc e) F.enc_EN = false) :
    Answers (.encIndex e level ph) s fun t => t.enc e = { s.enc e with i := level } ∧ OnlyEnc e s t :=
  .of_enc (f := fun q => { q with i := level }) (if_pos (.inr (ignored.imp_right fun off => .inl (by rw [off]; rfl))))
    fun _ enc only => ⟨enc, only⟩

/-- The encoder with an accepted index: the count and its place are kept, IMODE says whether POSN begins anew there. -/
def State.indexed (s : State) (e ph : Nat) (level : Bool) (q : Enc) : Enc :=
  let m := s.cfg (.enc e) F.enc_IMODE
  { q with i := level, idxCap := q.cnt, idxStamp := s.count, idxPh := ph, nIdx := satInc 2 q.nIdx,
           zofs := if m = 1 ∨ (m = 2 ∧ q.armed) then q.cnt - BitVec.ofNat 36 (s.cfg (.enc e) F.enc_IDX_VAL) else q.zofs,
           armed := if m = 1 ∨ m = 2 then false else q.armed }

theorem execEncIndex_accepted {level : Bool} {ph : BitVec 12} (active : level ≠ s.cfgB (.enc e) F.enc_IPOL) (edge : (s.enc e).i ≠ level)
    (enabled : s.cfgB (.enc e) F.enc_EN = true)
    (gate : (s.cfg (.enc e) F.enc_IGATE).testBit ((if (s.enc e).a then 2 else 0) + (if (s.enc e).b then 1 else 0)) = true)
    (unset : s.cfg (.enc e) F.enc_CPR = 0) :
    exec (.encIndex e level ph) s = .next ((s.onEnc e (s.indexed e ph.toNat level)).indexHomes e ph.toNat) := by
  have accepted : ¬ ((!(level != s.cfgB (.enc e) F.enc_IPOL)) = true ∨ (s.enc e).i = level ∨ (!s.cfgB (.enc e) F.enc_EN) = true ∨
      (!(s.cfg (.enc e) F.enc_IGATE).testBit ((if (s.enc e).a then 2 else 0) + (if (s.enc e).b then 1 else 0))) = true) := by
    simp only [enabled, gate, edge, Bool.not_true, Bool.false_eq_true, or_self, or_false, Bool.not_eq_true', bne_eq_false_iff_eq]
    exact active
  have unchecked := (s.onEnc e fun q => { q with i := level }).indexCheck_unset (n := e) unset
  refine (if_neg accepted).trans (congrArg (fun u : State => Host.Outcome.next (u.indexHomes e ph.toNat)) ?_)
  rw [unchecked]
  exact s.onEnc_onEnc e _ _

theorem encIndex_kept {level : Bool} {ph : BitVec 12} (active : level ≠ s.cfgB (.enc e) F.enc_IPOL) (edge : (s.enc e).i ≠ level)
    (enabled : s.cfgB (.enc e) F.enc_EN = true)
    (gate : (s.cfg (.enc e) F.enc_IGATE).testBit ((if (s.enc e).a then 2 else 0) + (if (s.enc e).b then 1 else 0)) = true)
    (unset : s.cfg (.enc e) F.enc_CPR = 0) :
    Answers (.encIndex e level ph) s fun t =>
      (t.enc e).idxCap = (s.enc e).cnt ∧ (t.enc e).idxStamp = s.count ∧ (t.enc e).idxPh = ph.toNat ∧
        (t.enc e).nIdx = satInc 2 (s.enc e).nIdx ∧ (t.enc e).cnt = (s.enc e).cnt ∧ Others s.encs t.encs e ∧ SameBut [.encs, .axes] s t := by
  obtain ⟨frame, others⟩ := s.onEnc_onlyEnc e (s.indexed e ph.toNat level)
  have homes := (s.onEnc e (s.indexed e ph.toNat level)).indexHomes_frame e ph.toNat
  have enc := (homes.enc e).trans (s.enc_onEnc_fin e _)
  refine .of_next (execEncIndex_accepted active edge enabled gate unset) ?_
  rw [enc]
  exact ⟨rfl, rfl, rfl, rfl, rfl, fun j hj => (homes.enc j).trans (others j hj), (frame.mono (by simp)).trans (homes.mono (by simp))⟩

end

/-- Settles O44: each event or write is the change it makes of its encoder; the second illegal transition also tells the broken input, an
accepted index also reaches the axes that home by it. -/
theorem encodersCount : Obligations.EncodersCount := fun _ p _ _ _ =>
  ⟨encCount_forward, encCount_backward, encCount_still, encCount_opens, encCount_faults, quadWindowEnd_counts, execQuadWindowEnd_not,
    encArm_arms p, encZero_zeroes p, encClr_clears p, fun _ _ => encIndex_ignored, fun _ _ => encIndex_kept⟩

end Sys2Proof.Machine
end

section
/-!
PROOFS. SSI ports (R400..R404), pulse counters (R406) and probes (R407..R409).
-/

namespace Sys2Proof.Machine

/-! ### A change of one SSI port -/

theorem State.onSsi_onlySsi (s : State) (x : Nat) (f : Ssi → Ssi) : OnlySsi x s (s.onSsi x f) :=
  ⟨s.onSsi_frame x f, fun j hj => at'_upd_ne s.ssis x j f hj⟩

theorem State.onSsi_onSsi (s : State) (x : Nat) (f g : Ssi → Ssi) : (s.onSsi x f).onSsi x g = s.onSsi x fun q => g (f q) :=
  congrArg (fun v => { s with ssis := v }) (upd_upd s.ssis x f g)

theorem SameBut.ssi {ps : List Part} {s t : State} (h : SameBut ps s t) (x : Nat) (hx : Part.ssis ∉ ps := by simp) : t.ssi x = s.ssi x :=
  congrArg (at' · x) (h .ssis hx :)

theorem Answers.of_ssi {c : Instr} {s : State} {x : Fin 2} {f : Ssi → Ssi} {P : State → Prop} (run : exec c s = .next (s.onSsi x f))
    (h : ∀ t, t.ssi x = f (s.ssi x) → OnlySsi x s t → P t) : Answers c s P :=
  .of_next run (h _ (s.ssi_onSsi_fin x f) (s.onSsi_onlySsi x f))

/-! ### SSI_TRANSFER_END (R403, R404) -/

theorem State.ssiConfs_frame (s : State) (x : Nat) : SameBut [.axes, .dev, .ev, .ports] s (s.ssiConfs x) := by
  refine .foldl (fun t n => .ite ?_ (.refl _ t)) _ s
  split
  · exact .ite (.refl _ t) (.ite ((t.onAx_frame n _).mono (by simp)) (t.confJudge_frame n _))
  · exact .refl _ t

/-- The port with its transfer over, the status bits as read. -/
def State.ssiRead (s : State) (x : Nat) (bs : List Bool) (q : Ssi) : Ssi :=
  { q with busy := none, statbits := if bs.isEmpty then q.statbits else bitsVal (ssiParts (s.ssiCfg x) bs).stat }

/-- The port with the good reading `v` that was sampled at `k`. -/
def Ssi.took (v : Word) (k : Nat) (q : Ssi) : Ssi :=
  { q with raw := v, rstamp := BitVec.ofNat 36 (k / 4096), good := (v, k) :: q.good.take 1,
           ssiTr := if q.again then satInc 4095 q.ssiTr else q.ssiTr, again := false }

/-- The port with a transfer failed by cause `f`. -/
def Ssi.failed (f : Nat) (q : Ssi) : Ssi := { q with fcode := f, again := !q.again }

section
variable {x : Fin 2} {bs : List Bool} {k f : Nat} {s : State}

theorem execSsiTransferEnd_good (busy : (s.ssi x).busy = some k) (good : s.ssiCause x bs k = none) :
    exec (.ssiTransferEnd x bs) s =
      .next ((s.onSsi x fun q =>
        (s.ssiRead x bs q).took (BitVec.ofNat 36 (s.ssiValue x (ssiParts (s.ssiCfg x) bs))) k).ssiConfs x) := by
  rw [← s.onSsi_onSsi]
  show execSsiTransferEnd x bs s = _
  simp only [execSsiTransferEnd, busy, good]
  rfl

theorem execSsiTransferEnd_bad (busy : (s.ssi x).busy = some k) (cause : s.ssiCause x bs k = some f) :
    exec (.ssiTransferEnd x bs) s =
      .next (if (s.ssi x).again then (s.onSsi x fun q => (s.ssiRead x bs q).failed f).ssiFault x
        else s.onSsi x fun q => (s.ssiRead x bs q).failed f) := by
  rw [← s.onSsi_onSsi]
  show execSsiTransferEnd x bs s = _
  simp only [execSsiTransferEnd, busy, cause]
  rfl

theorem execSsiTransferEnd_none (none : (s.ssi x).busy = .none) : exec (.ssiTransferEnd x bs) s = .next s := by
  show execSsiTransferEnd x bs s = _
  simp only [execSsiTransferEnd, none]

theorem ssiTransferEnd_reads (busy : (s.ssi x).busy = some k) (good : s.ssiCause x bs k = none) :
    Answers (.ssiTransferEnd x bs) s fun t =>
      (t.ssi x).busy = none ∧ (t.ssi x).raw = BitVec.ofNat 36 (s.ssiValue x (ssiParts (s.ssiCfg x) bs)) ∧ (t.ssi x).again = false ∧
        Others s.ssis t.ssis x := by
  have confs := State.ssiConfs_frame (s.onSsi x fun q =>
    (s.ssiRead x bs q).took (BitVec.ofNat 36 (s.ssiValue x (ssiParts (s.ssiCfg x) bs))) k) x
  refine .of_next (execSsiTransferEnd_good busy good) ?_
  rw [confs.ssi x, s.ssi_onSsi_fin]
  exact ⟨rfl, rfl, rfl, fun j hj => (confs.ssi j).trans ((s.onSsi_onlySsi x _).2 j hj)⟩

theorem ssiTransferEnd_repeats (busy : (s.ssi x).busy = some k) (cause : s.ssiCause x bs k = some f) (first : (s.ssi x).again = false) :
    Answers (.ssiTransferEnd x bs) s fun t =>
      (t.ssi x).busy = none ∧ (t.ssi x).fcode = f ∧ (t.ssi x).again = true ∧ (t.ssi x).raw = (s.ssi x).raw ∧ OnlySsi x s t := by
  have run := execSsiTransferEnd_bad busy cause
  rw [if_neg (ne_true_of_eq_false first)] at run
  refine .of_ssi run fun t ssi only => ?_
  rw [ssi]
  exact ⟨rfl, rfl, congrArg not first, rfl, only⟩

/-- A lasting fault of a port is told; the axes that follow it or wait for its reading are stopped or judged without it (R398). -/
theorem State.ssiFault_told (s : State) (x : Fin 2) (sound : (s.ssi x).sstate ≠ 2) :
    SameBut [.axes, .lanes, .jobs, .welt, .dev, .ev, .ports]
      ((s.onSsi x fun q => { q with sstate := 2 }).sensorBroken (BitVec.ofNat 36 (40 + x))) (s.ssiFault x) := by
  rw [State.ssiFault, if_neg sound]
  exact (State.dropSlaves_frame _ 2 x).trans ((State.ssiConfs_frame _ x).mono (by simp))

theorem State.ssiFault_latched (s : State) (x : Fin 2) (sound : (s.ssi x).sstate ≠ 2) :
    (s.ssiFault x).ssi x = { s.ssi x with sstate := 2 } ∧ (s.ssiFault x).sup.broken = true := by
  have told := s.ssiFault_told x sound
  have latched := (State.sensorBroken_frame (s.onSsi x fun q => { q with sstate := 2 }) (BitVec.ofNat 36 (40 + x))).ssi x
  rw [s.ssi_onSsi_fin] at latched
  refine ⟨(told.ssi x).trans latched, ?_⟩
  rw [show _ = _ from told .sup (by simp), State.sensorBroken_broken]

theorem ssiTransferEnd_faults (busy : (s.ssi x).busy = some k) (cause : s.ssiCause x bs k = some f) (second : (s.ssi x).again = true)
    (sound : (s.ssi x).sstate ≠ 2) :
    Answers (.ssiTransferEnd x bs) s fun t => (t.ssi x).sstate = 2 ∧ (t.ssi x).fcode = f ∧ t.sup.broken = true := by
  have run := execSsiTransferEnd_bad busy cause
  rw [if_pos second] at run
  have failed := s.ssi_onSsi_fin x fun q => (s.ssiRead x bs q).failed f
  obtain ⟨ssi, broken⟩ := (s.onSsi x fun q => (s.ssiRead x bs q).failed f).ssiFault_latched x (by rw [failed]; exact sound)
  rw [failed] at ssi
  refine .of_next run ?_
  rw [ssi]
  exact ⟨rfl, rfl, broken⟩

/-! ### SSI_REPEAT and CLR (R398, R404) -/

theorem ssiRepeat_starts {ph : BitVec 12} (again : (s.ssi x).again = true) (free : (s.ssi x).busy = none) :
    Answers (.ssiRepeat x ph) s fun t => (t.ssi x).busy.isSome = true ∧ (t.ssi x).again = true ∧ OnlySsi x s t := by
  refine .of_ssi (congrArg Host.Outcome.next (if_pos ⟨again, by rw [free]; rfl⟩)) fun t ssi only => ?_
  rw [ssi]
  exact ⟨rfl, again, only⟩

theorem execSsiRepeat_not {ph : BitVec 12} (first : (s.ssi x).again = false) : exec (.ssiRepeat x ph) s = .next s :=
  congrArg Host.Outcome.next (if_neg fun h => ne_true_of_eq_false first h.1)

/-- SSTATE of a port that is no longer in FAULT. -/
def Ssi.unfaulted (en : Bool) (q : Ssi) : Ssi := { q with sstate := if q.sstate = 2 then (if en then 1 else 0) else q.sstate, fcode := 0 }

theorem Ssi.unfaulted_sstate (en : Bool) (q : Ssi) : (q.unfaulted en).sstate ≠ 2 := by
  unfold Ssi.unfaulted
  dsimp only
  split
  · cases en <;> decide
  · assumption

theorem ssiClr_clears (p x : Fin 2) :
    Answers (.ssiClr p x) s fun t =>
      (t.ssi x).sstate ≠ 2 ∧ (t.ssi x).fcode = 0 ∧ (t.ssi x).raw = (s.ssi x).raw ∧ OnlySsi x s t := by
  refine .of_ssi (f := Ssi.unfaulted (s.cfgB (.ssi x) F.ssi_EN)) rfl fun t ssi only => ?_
  rw [ssi]
  exact ⟨Ssi.unfaulted_sstate _ _, rfl, rfl, only⟩

end

/-! ### CNT_EDGE (R406) -/

def State.onCnt (s : State) (c : Nat) (f : Cnt → Cnt) : State := { s with cnts := upd s.cnts c f }

theorem State.onCnt_frame (s : State) (c : Nat) (f : Cnt → Cnt) : SameBut [.cnts] s (s.onCnt c f) := by
  intro p hp
  cases p with
  | cnts => exact absurd (.head _) hp
  | _ => rfl

theorem State.onCnt_self (s : State) (c : Fin 16) (f : Cnt → Cnt) : at' (s.onCnt c f).cnts c = f (at' s.cnts c) :=
  at'_upd_self _ _ _ c.isLt

/-- The edge to `level` counts: the level changes, the counter is enabled, and EDGE takes it. -/
def State.counts (s : State) (c : Nat) (level : Bool) : Bool :=
  (at' s.cnts c).level != level && s.cfgB (.cnt c) F.cnt_EN && edgeTakes (s.cfg (.cnt c) F.cnt_EDGE) level

/-- The counter with its new level, the edge counted where it counts. -/
def State.edged (s : State) (counts level : Bool) (us : Nat) (k : Cnt) : Cnt :=
  if counts then { k with level := level, count := k.count + 1, last := s.count, period := if k.seen then us else 0, seen := true }
  else { k with level := level }

section
variable {c : Fin 16} {level : Bool} {us : BitVec 20} {s : State}

theorem execCntEdge_eq : exec (.cntEdge c level us) s = .next (s.onCnt c (s.edged (s.counts c level) level us.toNat)) := rfl

theorem cntEdge_counts (changes : (at' s.cnts c).level ≠ level) (enabled : s.cfgB (.cnt c) F.cnt_EN = true)
    (takes : edgeTakes (s.cfg (.cnt c) F.cnt_EDGE) level = true) :
    Answers (.cntEdge c level us) s fun t =>
      (at' t.cnts c).count = (at' s.cnts c).count + 1 ∧ (at' t.cnts c).last = s.count ∧ (at' t.cnts c).level = level ∧
        Others s.cnts t.cnts c ∧ SameBut [.cnts] s t := by
  have counts : s.counts c level = true := by simp [State.counts, changes, enabled, takes]
  refine .of_next execCntEdge_eq ?_
  rw [s.onCnt_self, counts]
  exact ⟨rfl, rfl, rfl, fun j hj => at'_upd_ne _ _ _ _ hj, s.onCnt_frame _ _⟩

theorem cntEdge_still :
    Answers (.cntEdge c (at' s.cnts c).level us) s fun t => (at' t.cnts c).count = (at' s.cnts c).count ∧ SameBut [.cnts] s t := by
  have counts : s.counts c (at' s.cnts c).level = false := by simp [State.counts]
  refine .of_next execCntEdge_eq ?_
  rw [s.onCnt_self, counts]
  exact ⟨rfl, s.onCnt_frame _ _⟩

end

/-! ### Probes (R407..R409) -/

theorem State.onPrb_self (s : State) (r : Fin 4) (f : Prb → Prb) : at' (s.onPrb r f).prbs r = f (at' s.prbs r) :=
  at'_upd_self _ _ _ r.isLt

theorem State.onPrb_onPrb (s : State) (r : Nat) (f g : Prb → Prb) : (s.onPrb r f).onPrb r g = s.onPrb r fun q => g (f q) :=
  congrArg (fun v => { s with prbs := v }) (upd_upd s.prbs r f g)

theorem Answers.of_prb {c : Instr} {s : State} {r : Fin 4} {f : Prb → Prb} {P : State → Prop} (run : exec c s = .next (s.onPrb r f))
    (h : ∀ t, at' t.prbs r = f (at' s.prbs r) → OnlyPrb r s t → P t) : Answers c s P :=
  .of_next run (h _ (s.onPrb_self r f) ⟨s.onPrb_frame r f, fun _ hj => at'_upd_ne _ _ _ _ hj⟩)

section
variable {r : Fin 4} {ph : BitVec 12} {rise : Bool} {s : State}

/-- An armed probe takes the edge: it is captured, or counted where four captures wait. -/
theorem execProbeCapture_takes (changes : (at' s.prbs r).level ≠ rise) (armed : (at' s.prbs r).armed = true)
    (enabled : s.cfgB (.prb r) F.prb_EN = true) (takes : edgeTakes (s.cfg (.prb r) F.prb_EDGE) rise = true) :
    exec (.probeCapture r ph rise) s =
      if 4 ≤ (at' s.prbs r).queue.length then
        .next ((s.onPrb r fun p => { p with level := rise }).onPrb r fun p => { p with ovf := satInc 4095 p.ovf })
      else
        let t := (s.onPrb r fun p => { p with level := rise }).onPrb r fun p =>
          { p with queue := p.queue ++ [s.capture r ph.toNat rise], armed := s.cfgB (.prb r) F.prb_PMODE }
        .next (if s.cfgB (.prb r) F.prb_STOP_EN then t.askStop (s.cfg (.prb r) F.prb_SMASK * 4) else t) :=
  if_neg (by simp [changes, armed, enabled, takes])

theorem probeCapture_queues (changes : (at' s.prbs r).level ≠ rise) (armed : (at' s.prbs r).armed = true)
    (enabled : s.cfgB (.prb r) F.prb_EN = true) (takes : edgeTakes (s.cfg (.prb r) F.prb_EDGE) rise = true)
    (room : (at' s.prbs r).queue.length < 4) (plain : s.cfgB (.prb r) F.prb_STOP_EN = false) :
    Answers (.probeCapture r ph rise) s fun t =>
      (at' t.prbs r).queue = (at' s.prbs r).queue ++ [s.capture r ph.toNat rise] ∧
        (at' t.prbs r).armed = s.cfgB (.prb r) F.prb_PMODE ∧ OnlyPrb r s t := by
  have run := (execProbeCapture_takes (ph := ph) changes armed enabled takes).trans (if_neg (Nat.not_le.mpr room))
  rw [plain, s.onPrb_onPrb] at run
  refine .of_prb run fun t prb only => ?_
  rw [prb]
  exact ⟨rfl, rfl, only⟩

theorem probeCapture_overflows (changes : (at' s.prbs r).level ≠ rise) (armed : (at' s.prbs r).armed = true)
    (enabled : s.cfgB (.prb r) F.prb_EN = true) (takes : edgeTakes (s.cfg (.prb r) F.prb_EDGE) rise = true)
    (full : 4 ≤ (at' s.prbs r).queue.length) :
    Answers (.probeCapture r ph rise) s fun t =>
      (at' t.prbs r).ovf = satInc 4095 (at' s.prbs r).ovf ∧ (at' t.prbs r).queue = (at' s.prbs r).queue ∧ OnlyPrb r s t := by
  have run := (execProbeCapture_takes (ph := ph) changes armed enabled takes).trans (if_pos full)
  rw [s.onPrb_onPrb] at run
  refine .of_prb run fun t prb only => ?_
  rw [prb]
  exact ⟨rfl, rfl, only⟩

theorem probeArm_arms (p : Fin 2) :
    Answers (.probeArm p r) s fun t => at' t.prbs r = { at' s.prbs r with armed := true } ∧ OnlyPrb r s t :=
  .of_prb (f := fun q => { q with armed := true }) rfl fun _ prb only => ⟨prb, only⟩

theorem probeDisarm_disarms (p : Fin 2) :
    Answers (.probeDisarm p r) s fun t => at' t.prbs r = { at' s.prbs r with armed := false } ∧ OnlyPrb r s t :=
  .of_prb (f := fun q => { q with armed := false }) rfl fun _ prb only => ⟨prb, only⟩

theorem probeFlush_empties (p : Fin 2) :
    Answers (.probeFlush p r) s fun t => at' t.prbs r = { at' s.prbs r with queue := [] } ∧ OnlyPrb r s t :=
  .of_prb (f := fun q => { q with queue := [] }) rfl fun _ prb only => ⟨prb, only⟩

theorem State.probeRead_cons {c : Capture} {rest : List Capture} (waits : (at' s.prbs r).queue = c :: rest) :
    s.probeRead r = (c.stamp, s.onPrb r fun p => { p with queue := rest, shown := some c }) := by
  simp only [State.probeRead, waits]

theorem State.probeRead_nil (empty : (at' s.prbs r).queue = []) :
    s.probeRead r = (0, s.onPrb r fun p => { p with shown := none }) := by
  simp only [State.probeRead, empty]

/-- A read of STAMP shows the word and the state after it that `probeRead` gives. -/
theorem execProbeStampRead_eq {w : Word} {f : Prb → Prb} (p : Fin 2) (read : s.probeRead r = (w, s.onPrb r f)) :
    exec (.probeStampRead p r) s = .next ((s.onPrb r f).onPort p fun q => { q with rdata := w }) :=
  congrArg (fun u : Word × State => Host.Outcome.next (u.2.onPort p fun q => { q with rdata := u.1 })) read

theorem State.stampRead_frame (s : State) (p : Fin 2) (r : Fin 4) (w : Word) (f : Prb → Prb) :
    SameBut [.prbs, .ports] s ((s.onPrb r f).onPort p fun q => { q with rdata := w }) :=
  ((s.onPrb_frame r f).mono (by simp)).trans ((State.onPort_frame _ _ _).mono (by simp))

theorem probeStampRead_takes (p : Fin 2) {c : Capture} {rest : List Capture} (waits : (at' s.prbs r).queue = c :: rest) :
    Answers (.probeStampRead p r) s fun t =>
      (t.port p).rdata = c.stamp ∧ (at' t.prbs r).queue = rest ∧ (at' t.prbs r).shown = some c ∧ SameBut [.prbs, .ports] s t := by
  refine .of_next (execProbeStampRead_eq p (State.probeRead_cons waits)) ?_
  rw [State.port_onPort_fin, State.onPort_prbs, s.onPrb_self]
  exact ⟨rfl, rfl, rfl, s.stampRead_frame p r _ _⟩

theorem probeStampRead_empty (p : Fin 2) (empty : (at' s.prbs r).queue = []) :
    Answers (.probeStampRead p r) s fun t => (t.port p).rdata = 0 ∧ SameBut [.prbs, .ports] s t := by
  refine .of_next (execProbeStampRead_eq p (State.probeRead_nil empty)) ?_
  rw [State.port_onPort_fin]
  exact ⟨rfl, s.stampRead_frame p r _ _⟩

end

/-- Settles O45: each event, write or read is the change it makes of its port, counter or probe; a second failed transfer also tells the
broken input. -/
theorem inputsAreCaptured : Obligations.InputsAreCaptured := fun p _ =>
  ⟨fun _ _ _ => ssiTransferEnd_reads, fun _ _ _ _ => ssiTransferEnd_repeats, fun _ _ _ _ => ssiTransferEnd_faults,
    fun _ _ => execSsiTransferEnd_none, fun _ _ => ssiRepeat_starts, fun _ _ => execSsiRepeat_not, ssiClr_clears p,
    fun _ _ _ => cntEdge_counts, fun _ _ => cntEdge_still,
    fun _ _ _ changes armed enabled takes =>
      ⟨probeCapture_queues changes armed enabled takes, probeCapture_overflows changes armed enabled takes⟩,
    fun _ => ⟨probeArm_arms p, probeDisarm_disarms p, probeFlush_empties p, fun _ _ => probeStampRead_takes p, probeStampRead_empty p⟩⟩

end Sys2Proof.Machine
end

section
/-!
PROOFS. The energy windows of the output groups and their trips (R416..R422).
-/

namespace Sys2Proof.Machine

/-! ### What a trip makes of the shank (R422) -/

theorem State.onGrp_others (s : State) (g : Nat) (f : Group → Group) : Others s.shank.groups (s.onGrp g f).shank.groups g :=
  fun _ hj => at'_upd_ne _ _ _ _ hj

/-- Two changes of a group that make the same of it are one change. -/
theorem State.onGrp_congr {s : State} {g : Fin 58} {f h : Group → Group} (same : f (s.grp g) = h (s.grp g)) : s.onGrp g f = s.onGrp g h := by
  have member : s.grp g = s.shank.groups[g.val] := by rw [State.grp, at'_eq, dif_pos g.isLt]
  rw [member] at same
  simp only [State.onGrp, upd, dif_pos g.isLt, same]

/-- A group tripped by `cause` at element `elem`. -/
def Group.tripped (cause elem : Nat) (q : Group) : Group :=
  { q with forced := true, cause := cause, elem := if cause ≤ 2 then q.elem else elem, trips := (q.trips + 1) % 256,
           relHold := q.relHold || cause == 2, seenE := q.seenE || cause == 1, seenR := q.seenR || cause == 2 }

/-- The flags of the shank once a group of lane `i` is tripped by `cause` (R131). -/
def Shank.flagged (cause i : Nat) (k : Shank) : Shank :=
  { k with energyTrip := k.energyTrip || cause == 1, releaseTrip := k.releaseTrip || cause == 2,
           interlockTrip := k.interlockTrip || (3 ≤ cause && cause ≤ 5), headTrip := k.headTrip || decide (6 ≤ cause),
           tripLanes := k.tripLanes ||| 2 ^ i }

/-- The state with the trip noted and told, its outputs not forced yet. -/
def State.tripTold (s : State) (g cause elem : Nat) : State :=
  ((s.onGrp g (Group.tripped cause elem)).onShank (Shank.flagged cause (groupLane g))).raise 1 (tripCode cause) (groupLane g) []

theorem State.trip_eq (s : State) (g cause elem : Nat) :
    s.trip g cause elem = ((s.tripTold g cause elem).forceOutputs g).askStop (2 ^ groupLane g) := rfl

section
variable (s : State) (g : Fin 58) (cause elem : Nat)

theorem State.trip_shank :
    (s.trip g cause elem).shank = (s.onGrp g (Group.tripped cause elem)).shank.flagged cause (groupLane g) :=
  ((State.forceOutputs_forceKept _ _).shank).trans ((State.raise_frame _ _ _ _ _) .shank (by simp) :)

theorem State.trip_stitch : (s.trip g cause elem).stitch = s.stitch :=
  ((State.forceOutputs_forceKept _ _).stitch).trans ((State.raise_frame _ _ _ _ _) .stitch (by simp) :)

theorem State.trip_tbl : (s.trip g cause elem).tbl = s.tbl :=
  ((State.forceOutputs_forceKept _ _).tbl).trans ((State.raise_frame _ _ _ _ _) .tbl (by simp) :)

theorem State.trip_grp : (s.trip g cause elem).grp g = (s.grp g).tripped cause elem := by
  rw [State.grp, s.trip_shank]
  exact s.grp_onGrp g _

theorem State.trip_others : Others s.shank.groups (s.trip g cause elem).shank.groups g := by
  rw [s.trip_shank]
  exact s.onGrp_others g _

theorem State.trip_stops : (s.stitch.n, 2 ^ groupLane g) ∈ (s.trip g cause elem).jobs.stops := by
  have forced : ((s.tripTold g cause elem).forceOutputs g).stitch = s.stitch := s.trip_stitch g cause elem
  rw [s.trip_eq, ← forced]
  exact List.mem_append_right _ (List.mem_singleton_self _)

end

theorem Answers.of_trip {c : Instr} {s : State} {g : Fin 58} {cause elem : Nat} {P : State → Prop}
    (run : exec c s = .next (s.trip g cause elem))
    (h : ∀ t, t.grp g = (s.grp g).tripped cause elem →
      t.shank = (s.onGrp g (Group.tripped cause elem)).shank.flagged cause (groupLane g) →
      (s.stitch.n, 2 ^ groupLane g) ∈ t.jobs.stops → Others s.shank.groups t.shank.groups g → t.stitch = s.stitch → P t) :
    Answers c s P :=
  .of_next run (h _ (s.trip_grp g cause elem) (s.trip_shank g cause elem) (s.trip_stops g cause elem) (s.trip_others g cause elem)
    (s.trip_stitch g cause elem))

/-! ### MONITOR_SAMPLE (R417..R419) -/

/-- What a group is over its energy limit by: its buckets, the window in force and the limits of the tables. -/
theorem State.overEnergy_congr {s t : State} {g : Nat} (tbl : t.tbl = s.tbl) (buckets : (t.grp g).buckets = (s.grp g).buckets)
    (win : (t.grp g).oldWin = (s.grp g).oldWin) : t.overEnergy g = s.overEnergy g := by
  unfold State.overEnergy State.energyLimit Group.energy
  rw [State.cfg_congr tbl, State.cfg_congr tbl, buckets, win]

/-- The group with the reading of a sample. -/
def Group.metered (draws : Bool) (v a : Nat) (q : Group) : Group :=
  { q with amps := a, buckets := match q.buckets with
                                 | b :: rest => (if draws then b + v * a else b) :: rest
                                 | [] => [] }

/-- The RELEASE hold ends where the current has fallen far enough. -/
def State.holdChecked (s : State) (g : Nat) : State :=
  if (s.grp g).relHold && s.underRelease g then (s.onGrp g fun q => { q with relHold := false }).relHoldOver g else s

/-- The release current is judged, then the energy; `overE` and `overR` say what was exceeded before the sample. -/
def State.limitsJudged (s : State) (g : Nat) (overE overR : Bool) : State :=
  let s := if s.overRelease g && (!overR || !(s.grp g).forced) then s.trip g 2 0 else s
  if s.overEnergy g && (!overE || !(s.grp g).seenE) then s.trip g 1 0 else s

section
variable {g : Fin 58} {s u : State} {draws : Bool} {v a : BitVec 16} {b : Nat} {rest : List Nat} {overE overR : Bool}

theorem execMonitorSample_eq :
    exec (.monitorSample g draws v a) s =
      .next (((s.onGrp g (Group.metered draws v.toNat a.toNat)).holdChecked g).limitsJudged g (s.overEnergy g) (s.overRelease g)) := rfl

/-- Outside the RELEASE hold the sample's limits are judged at once. -/
theorem execMonitorSample_free (began : (s.grp g).buckets = b :: rest)
    (metered : u = s.onGrp g fun q => { q with amps := a.toNat, buckets := (if draws then b + v.toNat * a.toNat else b) :: rest })
    (free : (s.grp g).relHold = false) :
    exec (.monitorSample g draws v a) s = .next (u.limitsJudged g (s.overEnergy g) (s.overRelease g)) := by
  have same : s.onGrp g (Group.metered draws v.toNat a.toNat) = u := by
    rw [metered]
    exact State.onGrp_congr (by simp only [Group.metered, began])
  have unheld : u.holdChecked g = u := by
    rw [State.holdChecked, metered, s.grp_onGrp, free]
    rfl
  rw [execMonitorSample_eq, same, unheld]

theorem State.limitsJudged_within (energy : u.overEnergy g = false) (release : u.overRelease g = false) :
    u.limitsJudged g overE overR = u := by
  rw [State.limitsJudged, release, Bool.false_and, if_neg Bool.false_ne_true, energy]
  rfl

theorem State.limitsJudged_energy (energy : u.overEnergy g = true) (release : u.overRelease g = false) (first : (u.grp g).seenE = false) :
    u.limitsJudged g overE overR = u.trip g 1 0 := by
  rw [State.limitsJudged, release, Bool.false_and, if_neg Bool.false_ne_true, energy, first, Bool.not_false, Bool.or_true]
  rfl

theorem State.limitsJudged_release (energy : u.overEnergy g = false) (release : u.overRelease g = true)
    (first : (u.grp g).forced = false) : u.limitsJudged g overE overR = u.trip g 2 0 := by
  have kept : (u.trip g 2 0).overEnergy g = false := by
    rw [State.overEnergy_congr (u.trip_tbl g 2 0) (by rw [u.trip_grp]; rfl) (by rw [u.trip_grp]; rfl), energy]
  rw [State.limitsJudged, release, first, Bool.not_false, Bool.or_true, Bool.and_true, if_pos rfl, kept]
  rfl

/-- A group that is metered and tripped: what is told of it, and what is left alone. -/
theorem Answers.of_meteredTrip {c : Instr} {cause : Nat} {f : Group → Group} {P : State → Prop} (metered : u = s.onGrp g f)
    (run : exec c s = .next (u.trip g cause 0))
    (h : ∀ t, t.grp g = (f (s.grp g)).tripped cause 0 → t.shank = (u.onGrp g (Group.tripped cause 0)).shank.flagged cause (groupLane g) →
      (s.stitch.n, 2 ^ groupLane g) ∈ t.jobs.stops → Others s.shank.groups t.shank.groups g → t.stitch = s.stitch → P t) :
    Answers c s P := by
  subst metered
  have grp := (s.onGrp g f).trip_grp g cause 0
  rw [s.grp_onGrp] at grp
  exact .of_next run <| h _ grp (State.trip_shank _ g cause 0) (State.trip_stops _ g cause 0)
    (fun j hj => (State.trip_others _ g cause 0 j hj).trans (s.onGrp_others g f j hj)) (State.trip_stitch _ g cause 0)

theorem monitorSample_within (began : (s.grp g).buckets = b :: rest)
    (metered : u = s.onGrp g fun q => { q with amps := a.toNat, buckets := (if draws then b + v.toNat * a.toNat else b) :: rest })
    (free : (s.grp g).relHold = false) (energy : u.overEnergy g = false) (release : u.overRelease g = false) :
    exec (.monitorSample g draws v a) s = .next u :=
  (execMonitorSample_free began metered free).trans (congrArg _ (State.limitsJudged_within energy release))

theorem monitorSample_trips_energy (began : (s.grp g).buckets = b :: rest)
    (metered : u = s.onGrp g fun q => { q with amps := a.toNat, buckets := (if draws then b + v.toNat * a.toNat else b) :: rest })
    (free : (s.grp g).relHold = false) (energy : u.overEnergy g = true) (release : u.overRelease g = false)
    (first : (s.grp g).seenE = false) :
    Answers (.monitorSample g draws v a) s fun t =>
      (t.grp g).forced = true ∧ (t.grp g).cause = 1 ∧ (t.grp g).trips = ((s.grp g).trips + 1) % 256 ∧
        (t.grp g).buckets = (u.grp g).buckets ∧ t.shank.energyTrip = true ∧
        (s.stitch.n, 2 ^ groupLane g) ∈ t.jobs.stops ∧ Others s.shank.groups t.shank.groups g ∧ t.stitch = s.stitch := by
  have grp := (congrArg (State.grp · g) metered).trans (s.grp_onGrp g _)
  have run := (execMonitorSample_free began metered free).trans
    (congrArg _ (State.limitsJudged_energy energy release (by rw [grp]; exact first)))
  refine .of_meteredTrip metered run fun t tripped shank stops others stitch => ?_
  rw [tripped, grp, shank]
  exact ⟨rfl, rfl, rfl, rfl, Bool.or_true _, stops, shank ▸ others, stitch⟩

theorem monitorSample_trips_release (began : (s.grp g).buckets = b :: rest)
    (metered : u = s.onGrp g fun q => { q with amps := a.toNat, buckets := (if draws then b + v.toNat * a.toNat else b) :: rest })
    (free : (s.grp g).relHold = false) (energy : u.overEnergy g = false) (release : u.overRelease g = true)
    (first : (s.grp g).forced = false) :
    Answers (.monitorSample g draws v a) s fun t =>
      (t.grp g).forced = true ∧ (t.grp g).cause = 2 ∧ (t.grp g).relHold = true ∧
        (t.grp g).trips = ((s.grp g).trips + 1) % 256 ∧ t.shank.releaseTrip = true ∧
        (s.stitch.n, 2 ^ groupLane g) ∈ t.jobs.stops ∧ Others s.shank.groups t.shank.groups g ∧ t.stitch = s.stitch := by
  have grp := (congrArg (State.grp · g) metered).trans (s.grp_onGrp g _)
  have run := (execMonitorSample_free began metered free).trans
    (congrArg _ (State.limitsJudged_release energy release (by rw [grp]; exact first)))
  refine .of_meteredTrip metered run fun t tripped shank stops others stitch => ?_
  rw [tripped, shank]
  exact ⟨rfl, rfl, Bool.or_true _, rfl, Bool.or_true _, stops, shank ▸ others, stitch⟩

/-! ### ENERGY_BUCKET (R416, R417) -/

theorem energyBucket_opens (same : (s.grp g).oldWin = none) :
    Answers (.energyBucket g) s fun t =>
      t.grp g = { s.grp g with buckets := 0 :: (s.grp g).buckets.take 32 } ∧ Others s.shank.groups t.shank.groups g ∧
        SameBut [.shank] s t := by
  refine .of_next rfl ⟨(s.grp_onGrp g _).trans (if_neg ?_), s.onGrp_others g _, s.onGrp_frame g _⟩
  rw [same]
  exact Bool.false_ne_true

theorem energyBucket_adopts {w : Nat} (written : (s.grp g).oldWin = some w) :
    Answers (.energyBucket g) s fun t =>
      (t.grp g).oldWin = none ∧ (t.grp g).buckets.length = 33 ∧ Others s.shank.groups t.shank.groups g ∧ SameBut [.shank] s t := by
  refine .of_next rfl ?_
  rw [s.grp_onGrp, if_pos (by rw [written]; rfl)]
  exact ⟨rfl, congrArg (· + 2) List.length_replicate, s.onGrp_others g _, s.onGrp_frame g _⟩

/-! ### ONTIME and STROBE_LIMIT (R420, R421) -/

theorem ontime_trips (elem : BitVec 4) (switches : g.val < 56) :
    Answers (.ontime g elem) s fun t =>
      (t.grp g).forced = true ∧ (t.grp g).cause = 5 ∧ (t.grp g).elem = elem.toNat ∧ t.shank.interlockTrip = true ∧
        (s.stitch.n, 2 ^ groupLane g) ∈ t.jobs.stops ∧ Others s.shank.groups t.shank.groups g ∧ t.stitch = s.stitch := by
  refine .of_trip (congrArg Host.Outcome.next (if_pos switches)) fun t grp shank stops others stitch => ?_
  rw [grp, shank]
  exact ⟨rfl, rfl, rfl, Bool.or_true _, stops, shank ▸ others, stitch⟩

theorem execOntime_head (elem : BitVec 4) (head : 56 ≤ g.val) : exec (.ontime g elem) s = .next s :=
  congrArg Host.Outcome.next (if_neg (Nat.not_lt.mpr head))

end

/-- The group of head path `x`. -/
def headGroup (x : Fin 2) : Fin 58 := ⟨56 + x, by omega⟩

theorem State.darken_vhen (s : State) (x : Fin 2) : ((s.darken x).head x).vhen = false := by
  rw [State.darken, State.unplace, State.head_onHead_fin, State.head_onHead_fin]

theorem State.scanEnd_vhen (s : State) (x : Fin 2) (st : Nat) : ((s.scanEnd x st).head x).vhen = (s.head x).vhen := by
  have told (t : State) (args : List Word) : (t.raise 7 2 x args).head x = t.head x :=
    congrArg (at' · x.val) (t.raise_frame 7 2 x args .heads (by simp))
  rw [State.scanEnd, told, State.head_onHead_fin]

/-- A scan that ends with its head forced leaves VHEN as it is. -/
theorem State.forceScan_vhen (s : State) (x : Fin 2) : ((s.forceScan x).head x).vhen = (s.head x).vhen := by
  have failed : ((s.scanEnd x 5).readmitFail x).head x = (s.scanEnd x 5).head x :=
    congrArg (at' · x.val) ((s.scanEnd x 5).readmitFail_frame x .heads (by simp))
  unfold State.forceScan
  split
  · rfl
  · split
    · rw [s.head_onHead_fin]
    · split
      · rw [failed, s.scanEnd_vhen]
      · rfl

theorem State.trip_vhen (s : State) (x : Fin 2) (cause elem : Nat) : ((s.trip (headGroup x) cause elem).head x).vhen = false := by
  have head : (s.tripTold (headGroup x) cause elem).forceOutputs (headGroup x) = (s.tripTold (headGroup x) cause elem).forceHead x :=
    (if_neg (show ¬ 56 + x.val < 24 by omega)).trans <| (if_neg (show ¬ 56 + x.val < 56 by omega)).trans <|
      congrArg (State.forceHead _) (Nat.add_sub_cancel_left 56 x.val)
  have forced := (State.forceScan_vhen ((s.tripTold (headGroup x) cause elem).darken x) x).trans (State.darken_vhen _ x)
  rw [← State.forceHead_eq, ← head] at forced
  rw [s.trip_eq]
  exact forced

theorem strobeLimit_trips (s : State) (x : Fin 2) (elem : BitVec 4) (duty : Bool) :
    Answers (.strobeLimit x elem duty) s fun t =>
      (t.grp (56 + x)).forced = true ∧ (t.grp (56 + x)).cause = (if duty then 7 else 6) ∧ (t.grp (56 + x)).elem = elem.toNat ∧
        t.shank.headTrip = true ∧ (t.head x).vhen = false ∧ (s.stitch.n, 2 ^ x.val) ∈ t.jobs.stops ∧
        Others s.shank.groups t.shank.groups (56 + x) ∧ t.stitch = s.stitch := by
  have lane : groupLane (headGroup x) = x :=
    (if_neg (show ¬ 56 + x.val < 24 by omega)).trans <| (if_neg (show ¬ 56 + x.val < 56 by omega)).trans (Nat.add_sub_cancel_left 56 x.val)
  have grp : (s.trip (headGroup x) (if duty then 7 else 6) elem.toNat).grp (56 + x) = _ := s.trip_grp (headGroup x) _ _
  have shank := s.trip_shank (headGroup x) (if duty then 7 else 6) elem.toNat
  have stops := s.trip_stops (headGroup x) (if duty then 7 else 6) elem.toNat
  rw [lane] at stops
  refine .of_next (t := s.trip (headGroup x) (if duty then 7 else 6) elem.toNat) rfl
    ⟨by rw [grp]; rfl, by rw [grp]; rfl, ?_, ?_, s.trip_vhen x _ _, stops, s.trip_others (headGroup x) _ _, s.trip_stitch _ _ _⟩
  · rw [grp]
    cases duty <;> rfl
  · rw [shank]
    cases duty <;> exact Bool.or_true _

/-- Settles O46: within its limits a sample is metered and nothing else; each limit that is passed is one trip of its group. -/
theorem energyWindowsAndTrips : Obligations.EnergyWindowsAndTrips := fun _ s =>
  ⟨fun _ _ _ _ _ _ began metered free => ⟨monitorSample_within began metered free, monitorSample_trips_energy began metered free,
      monitorSample_trips_release began metered free⟩,
    energyBucket_opens, fun _ => energyBucket_adopts, ontime_trips, execOntime_head, strobeLimit_trips s⟩

end Sys2Proof.Machine
end

section
/-!
PROOFS. The firmware update object: its target slot goes through its states (R537..R541).
-/

namespace Sys2Proof.Machine

theorem Others.of_upd {α : Type} [Inhabited α] {n : Nat} (v : Vector α n) (i : Nat) (f : α → α) : Others v (upd v i f) i :=
  fun _ hj => at'_upd_ne v i _ f hj

/-- A command whose write is accepted. -/
theorem Answers.of_done {c : Instr} {p : Nat} {tbl : Bool} {s t : State} {r : State × Nat} {P : State → Prop}
    (run : exec c s = answer p tbl r) (h : r = (t, 0)) (ht : P t) : Answers c s P :=
  .of_next (run.trans (by rw [h, answer_of_done])) ht

section
variable {s : State} {p : Fin 2}

theorem State.target_lt (s : State) : s.target < 2 := Nat.lt_succ_of_le (Nat.sub_le 1 s.sec.run)

/-- What any end of an update without a new image leaves (R541). -/
theorem State.imageFail_fails (s : State) (r : Nat) :
    (s.imageFail r).sec.upd.tstate = 4 ∧ (s.imageFail r).sec.upd.result = r ∧ (at' (s.imageFail r).sec.slots s.target).st = 1 ∧
      SameBut [.sec] s (s.imageFail r) :=
  ⟨rfl, rfl, congrArg Slot.st (at'_upd_self _ _ _ s.target_lt), s.imageFail_frame r⟩

/-! ### BEGIN -/

/-- The target bank with the erases of its image sectors waiting. -/
def State.imageErased (s : State) (len : Nat) : State :=
  (List.range ((len + 511) / 512)).foldl (fun (s : State) k => s.onBank s.target (Bank.queueErase (1536 + k))) s

theorem State.imageErased_frame (s : State) (len : Nat) : SameBut [.flash] s (s.imageErased len) :=
  SameBut.foldl (fun t _ => t.onBank_frame t.target _) _ s

/-- The update object and its target slot as BEGIN leaves them. -/
def Sec.begun (p len : Nat) (q : Sec) : Sec :=
  { q with slots := Machine.upd q.slots (1 - q.run) fun _ => Slot.reset, upd := ⟨1, p, 0, len, [], 0⟩ }

theorem begin_opens {len : BitVec 19} (idle : s.sec.upd.tstate ≠ 1) (still : s.sec.upd.tstate ≠ 2) (least : 64 ≤ len.toNat)
    (most : len.toNat ≤ 262144) (sound : s.bankOut s.target = false) :
    Answers (.begin' p len) s fun t =>
      t.sec.upd = ⟨1, p, 0, len.toNat, [], 0⟩ ∧ at' t.sec.slots s.target = Slot.reset ∧
        Others s.sec.slots t.sec.slots s.target ∧ t.sec.run = s.sec.run ∧ SameBut [.sec, .flash] s t := by
  have erased := s.imageErased_frame len.toNat
  have sec : (s.imageErased len.toNat).sec = s.sec := erased .sec (by simp)
  have result : s.imageBegin p len.toNat = ((s.imageErased len.toNat).onSec (Sec.begun p len.toNat), 0) := by
    rw [State.imageBegin, if_neg (not_or.2 ⟨idle, still⟩), if_neg (by omega), sound]
    rfl
  refine .of_done rfl result ?_
  have opened : ((s.imageErased len.toNat).onSec (Sec.begun p len.toNat)).sec = s.sec.begun p len.toNat := congrArg (Sec.begun p len.toNat) sec
  rw [opened]
  exact ⟨rfl, at'_upd_self _ _ _ s.target_lt, .of_upd _ _ _, rfl, (erased.mono (by simp)).trans ((State.onSec_frame _ _).mono (by simp))⟩

theorem begin_refuses_range {len : BitVec 19} (idle : s.sec.upd.tstate ≠ 1) (still : s.sec.upd.tstate ≠ 2)
    (out : len.toNat < 64 ∨ 262144 < len.toNat) :
    Answers (.begin' p len) s fun t => (t.port p).noteCode = rcRange ∧ OnlyPort p s t :=
  .of_refused rfl (by rw [State.imageBegin, if_neg (not_or.2 ⟨idle, still⟩), if_pos out]) (by decide)

theorem begin_refuses_state {len : BitVec 19} (busy : s.sec.upd.tstate = 1 ∨ s.sec.upd.tstate = 2) :
    Answers (.begin' p len) s fun t => (t.port p).noteCode = rcState ∧ OnlyPort p s t :=
  .of_refused rfl (if_pos busy) (by decide)

/-! ### Words at PORT -/

theorem State.imagePort_owned {w : Word} (loads : s.sec.upd.tstate = 1) (owns : s.sec.upd.owner = p.val)
    (room : s.sec.upd.words.length < s.sec.upd.clen) (space : s.sec.upd.words.length - s.sec.upd.done < 512) :
    s.imagePort p w =
      if s.sec.upd.words.isEmpty && !headWordOk w then (s.imageFail 2, 0)
      else (s.onSec fun q => { q with upd := { q.upd with words := q.upd.words ++ [w] } }, 0) := by
  rw [State.imagePort, if_neg (not_not.2 loads), if_neg (not_not.2 owns), if_neg (Nat.not_le.2 room), if_neg (Nat.not_le.2 space)]

theorem imagePort_takes {w : Word} (loads : s.sec.upd.tstate = 1) (owns : s.sec.upd.owner = p.val)
    (room : s.sec.upd.words.length < s.sec.upd.clen) (space : s.sec.upd.words.length - s.sec.upd.done < 512)
    (head : s.sec.upd.words = [] → headWordOk w = true) :
    Answers (.imagePortWrite p w) s fun t =>
      t.sec.upd = { s.sec.upd with words := s.sec.upd.words ++ [w] } ∧ t.sec.slots = s.sec.slots ∧ SameBut [.sec] s t := by
  have fits : ¬(s.sec.upd.words.isEmpty && !headWordOk w) = true := by
    rw [Bool.and_eq_true, List.isEmpty_iff]
    rintro ⟨first, bad⟩
    rw [head first] at bad
    exact Bool.false_ne_true bad
  exact .of_done rfl ((State.imagePort_owned loads owns room space).trans (if_neg fits)) ⟨rfl, rfl, s.onSec_frame _⟩

theorem imagePort_fails {w : Word} (loads : s.sec.upd.tstate = 1) (owns : s.sec.upd.owner = p.val) (first : s.sec.upd.words = [])
    (some : 0 < s.sec.upd.clen) (bad : headWordOk w = false) :
    Answers (.imagePortWrite p w) s fun t =>
      t.sec.upd.tstate = 4 ∧ t.sec.upd.result = 2 ∧ (at' t.sec.slots s.target).st = 1 ∧ SameBut [.sec] s t := by
  have empty : s.sec.upd.words.length = 0 := by rw [first]; rfl
  refine .of_done rfl ((State.imagePort_owned loads owns (by omega) (by omega)).trans (if_pos ?_)) (s.imageFail_fails 2)
  rw [first, bad]
  rfl

theorem imagePort_refuses_busy {w : Word} (loads : s.sec.upd.tstate = 1) (other : s.sec.upd.owner ≠ p.val) :
    Answers (.imagePortWrite p w) s fun t => (t.port p).noteCode = rcBusy ∧ OnlyPort p s t :=
  .of_refused rfl (by rw [State.imagePort, if_neg (not_not.2 loads), if_pos other]) (by decide)

theorem imagePort_refuses_state {w : Word} (idle : s.sec.upd.tstate ≠ 1) :
    Answers (.imagePortWrite p w) s fun t => (t.port p).noteCode = rcState ∧ OnlyPort p s t :=
  .of_refused rfl (if_pos idle) (by decide)

/-! ### The verification -/

theorem imageVerifyDone_passes (verifies : s.sec.upd.tstate = 2) (good : s.imageVerdict s.sec.upd = 1) :
    Answers .imageVerifyDone s fun t =>
      t.sec.upd.tstate = 3 ∧ t.sec.upd.result = 1 ∧ at' t.sec.slots s.target = ⟨2, 0, s.sec.upd.words.take 6, true⟩ ∧
        Others s.sec.slots t.sec.slots s.target ∧ SameBut [.sec] s t :=
  .of_next ((if_neg (not_not.2 verifies)).trans (if_neg (not_not.2 good)))
    ⟨rfl, rfl, at'_upd_self _ _ _ s.target_lt, .of_upd _ _ _, s.onSec_frame _⟩

theorem imageVerifyDone_fails (verifies : s.sec.upd.tstate = 2) (bad : s.imageVerdict s.sec.upd ≠ 1) :
    Answers .imageVerifyDone s fun t =>
      t.sec.upd.tstate = 4 ∧ t.sec.upd.result = s.imageVerdict s.sec.upd ∧ (at' t.sec.slots s.target).st = 1 ∧ SameBut [.sec] s t :=
  .of_next ((if_neg (not_not.2 verifies)).trans (if_pos bad)) (s.imageFail_fails _)

/-! ### ACTIVATE and CONFIRM -/

/-- The target slot as the next boot finds it, behind the running one. -/
def Sec.activated (seq : Word) (q : Sec) : Sec :=
  { q with slots := Machine.upd q.slots (1 - q.run) fun (t : Slot) => { t with st := if hdrFmt t.hdr = 2 then 4 else 3, seq := seq },
           upd := { q.upd with tstate := 0 } }

theorem State.activate_valid (valid : s.sec.upd.tstate = 3) (runs : s.power.noImage = false) :
    s.activate = (s.onSec (Sec.activated ((at' s.sec.slots s.sec.run).seq + 1)), 0) := by
  have activated : s.imageActivate = (s.onSec (Sec.activated ((at' s.sec.slots s.sec.run).seq + 1)), 0) := if_neg (not_not.2 valid)
  rw [State.activate, activated]
  refine if_neg fun booting => ?_
  exact Bool.false_ne_true (runs.symm.trans booting.2)

theorem activate_activates (valid : s.sec.upd.tstate = 3) (runs : s.power.noImage = false) :
    Answers (.activate p) s fun t =>
      t.sec.upd = { s.sec.upd with tstate := 0 } ∧
        (at' t.sec.slots s.target).st = (if hdrFmt (at' s.sec.slots s.target).hdr = 2 then 4 else 3) ∧
        (at' t.sec.slots s.target).seq = (at' s.sec.slots s.sec.run).seq + 1 ∧ Others s.sec.slots t.sec.slots s.target ∧
        SameBut [.sec] s t :=
  .of_done rfl (State.activate_valid valid runs)
    ⟨rfl, congrArg Slot.st (at'_upd_self _ _ _ s.target_lt), congrArg Slot.seq (at'_upd_self _ _ _ s.target_lt), .of_upd _ _ _,
      s.onSec_frame _⟩

theorem activate_refuses (other : s.sec.upd.tstate ≠ 3) :
    Answers (.activate p) s fun t => (t.port p).noteCode = rcState ∧ OnlyPort p s t := by
  have refused : s.imageActivate = (s, rcState) := if_pos other
  refine .of_refused rfl ?_ (by decide : rcState ≠ 0)
  rw [State.activate, refused]
  exact if_neg fun accepted => Nat.succ_ne_zero _ accepted.1

/-- A slot on trial is one of the two there are. -/
theorem State.run_lt (trial : (at' s.sec.slots s.sec.run).st = 3) : s.sec.run < 2 := by
  by_contra out
  rw [at'_eq, dif_neg out] at trial
  exact absurd trial (by decide)

theorem confirm_confirms (trial : (at' s.sec.slots s.sec.run).st = 3) :
    Answers (.confirm p) s fun t =>
      (at' t.sec.slots s.sec.run).st = 4 ∧ Others s.sec.slots t.sec.slots s.sec.run ∧ t.sec.upd = s.sec.upd ∧ SameBut [.sec] s t :=
  .of_done rfl (if_neg (not_not.2 trial))
    ⟨congrArg Slot.st (at'_upd_self _ _ _ (State.run_lt trial)), .of_upd _ _ _, rfl, s.onSec_frame _⟩

theorem confirm_refuses (other : (at' s.sec.slots s.sec.run).st ≠ 3) :
    Answers (.confirm p) s fun t => (t.port p).noteCode = rcState ∧ OnlyPort p s t :=
  .of_refused rfl (if_pos other) (by decide)

/-! ### ABORT and the timeout -/

theorem imageAbort_fails (loads : s.sec.upd.tstate = 1) (owns : s.sec.upd.owner = p.val) :
    Answers (.imageAbort p) s fun t =>
      t.sec.upd.tstate = 4 ∧ t.sec.upd.result = 7 ∧ (at' t.sec.slots s.target).st = 1 ∧ SameBut [.sec] s t :=
  .of_done rfl ((if_neg (not_not.2 loads)).trans (if_neg (not_not.2 owns))) (s.imageFail_fails 7)

theorem imageAbort_refuses_busy (loads : s.sec.upd.tstate = 1) (other : s.sec.upd.owner ≠ p.val) :
    Answers (.imageAbort p) s fun t => (t.port p).noteCode = rcBusy ∧ OnlyPort p s t :=
  .of_refused rfl ((if_neg (not_not.2 loads)).trans (if_pos other)) (by decide)

theorem imageAbort_refuses_state (idle : s.sec.upd.tstate ≠ 1) :
    Answers (.imageAbort p) s fun t => (t.port p).noteCode = rcState ∧ OnlyPort p s t :=
  .of_refused rfl (if_pos idle) (by decide)

theorem imageIdleTimeout_fails (loads : s.sec.upd.tstate = 1) :
    Answers .imageIdleTimeout s fun t =>
      t.sec.upd.tstate = 4 ∧ t.sec.upd.result = 7 ∧ (at' t.sec.slots s.target).st = 1 ∧ SameBut [.sec] s t :=
  .of_next (congrArg Host.Outcome.next (if_pos loads)) (s.imageFail_fails 7)

theorem execImageIdleTimeout_idle (idle : s.sec.upd.tstate ≠ 1) : exec .imageIdleTimeout s = .next s :=
  congrArg Host.Outcome.next (if_neg idle)

end

/-- Settles O55: each operation is accepted in the state it belongs to, by its owner where there is one, and refused in any other. -/
theorem imagesAreUpdated : Obligations.ImagesAreUpdated := fun _ _ =>
  ⟨fun _ idle still => ⟨begin_opens idle still, begin_refuses_range idle still⟩, fun _ => begin_refuses_state,
    fun _ loads => ⟨imagePort_takes loads, imagePort_fails loads, imagePort_refuses_busy loads⟩, fun _ => imagePort_refuses_state,
    imageVerifyDone_passes, imageVerifyDone_fails, fun other => if_pos other, activate_activates, activate_refuses, confirm_confirms,
    confirm_refuses, imageAbort_fails, imageAbort_refuses_busy, imageAbort_refuses_state, imageIdleTimeout_fails,
    execImageIdleTimeout_idle⟩

end Sys2Proof.Machine
end

section
/-!
PROOFS. The OTP row is programmed: the operations of its object and the protection level (R477, R481, R482, R543..R546).
-/

namespace Sys2Proof.Machine

section
variable {s : State} {p : Fin 2}

/-! ### PROGRAM_WORD (R544) -/

/-- VALUE is written before the operation (R544). -/
def State.valued (s : State) (v : Word) : State := s.onOtp fun o => { o with value := v }

/-- A PROGRAM_WORD that is refused has written VALUE all the same. -/
theorem programWord_refused {i : BitVec 7} {v : Word} {rc : Nat} (h : (s.valued v).programWord p i.toNat v = (s.valued v, rc))
    (hrc : rc ≠ 0) :
    Answers (.programWord p i v) s fun t =>
      (t.port p).noteCode = rc ∧ t.sec.otp = { s.sec.otp with value := v } ∧ SameBut [.sec, .ports] s t := by
  obtain ⟨t, run, code, kept, -⟩ := answer_refusal (s.valued v) p rc true hrc
  have sec : t.sec = (s.valued v).sec := kept .sec (by simp)
  exact .of_next ((congrArg (answer p true) h).trans run)
    ⟨code, congrArg Sec.otp sec, ((s.onOtp_frame _).mono (by simp)).trans (kept.mono (by simp))⟩

theorem programWord_begins {i : BitVec 7} {v : Word} (opened : s.otpClosed = false) (low : 8 ≤ i.toNat) (high : i.toNat ≤ 11) :
    Answers (.programWord p i v) s fun t =>
      t.sec.otp = { s.sec.otp with value := v, ostate := 1, op := some ⟨[(i.toNat, v)], false, 0, 0, p, none⟩ } ∧
        SameBut [.sec] s t := by
  have result : (s.valued v).programWord p i.toNat v = ((s.valued v).otpBegin ⟨[(i.toNat, v)], false, 0, 0, p, none⟩, 0) := by
    have closed : (s.valued v).otpClosed = false := opened
    rw [State.programWord, closed, if_neg Bool.false_ne_true, if_neg]
    simp only [Bool.not_eq_true', Bool.or_eq_false_iff, Bool.and_eq_false_iff, decide_eq_false_iff_not]
    omega
  exact .of_done rfl result ⟨rfl, (s.onOtp_frame _).trans (State.onOtp_frame _ _)⟩

theorem programWord_refuses_prot {i : BitVec 7} {v : Word} (opened : s.otpClosed = false) (key : 0x18 ≤ i.toNat) :
    Answers (.programWord p i v) s fun t =>
      (t.port p).noteCode = rcProt ∧ t.sec.otp = { s.sec.otp with value := v } ∧ SameBut [.sec, .ports] s t := by
  have closed : (s.valued v).otpClosed = false := opened
  refine programWord_refused ?_ (by decide)
  rw [State.programWord, closed, if_neg Bool.false_ne_true, if_pos]
  refine .inl ?_
  simp only [Bool.not_eq_true', Bool.or_eq_false_iff, Bool.and_eq_false_iff, decide_eq_false_iff_not]
  omega

theorem programWord_refuses_state {i : BitVec 7} {v : Word} (closed : s.otpClosed = true) :
    Answers (.programWord p i v) s fun t =>
      (t.port p).noteCode = rcState ∧ t.sec.otp = { s.sec.otp with value := v } ∧ SameBut [.sec, .ports] s t :=
  programWord_refused (if_pos (show (s.valued v).otpClosed = true from closed)) (by decide)

/-! ### PROGRAM_KEY and REVOKE_KEY (R545) -/

/-- What PROGRAM_KEY has to program: the staged key, then its attributes. -/
def keyTodo (slot : Nat) (key : List Word) : List (Nat × Word) :=
  (key.zipIdx.map fun c => (0x20 + 8 * slot + c.2, c.1)) ++ [(0x18 + slot, keyAttr key)]

theorem keyTodo_length (slot : Nat) (key : List Word) : (keyTodo slot key).length = key.length + 1 := by
  rw [keyTodo, List.length_append, List.length_map, List.length_zipIdx, List.length_singleton]

theorem keyTodo_getLast? (slot : Nat) (key : List Word) : (keyTodo slot key).getLast? = some (0x18 + slot, keyAttr key) :=
  List.getLast?_concat ..

/-- PROGRAM_KEY of a slot that is free. -/
theorem State.programKey_free {slot : Fin 8} (opened : s.otpClosed = false) (blank : bit (s.otp (0x18 + slot)) 35 = false)
    (empty : (s.keyWords slot).any (· != 0) = false) (use : Nat) :
    s.programKey p slot use =
      if use ≠ 1 then (s, rcRange)
      else ((s.otpBegin ⟨keyTodo slot s.sec.otp.kstage.toList, false, 1, slot, p, none⟩).onOtp
        fun o => { o with kstage := Vector.replicate 8 0 }, 0) := by
  rw [State.programKey, opened, blank, empty, if_neg (by simp)]
  rfl

theorem programKey_begins {slot : Fin 8} (opened : s.otpClosed = false) (blank : bit (s.otp (0x18 + slot)) 35 = false)
    (empty : (s.keyWords slot).any (· != 0) = false) :
    Answers (.programKey p slot 1) s fun t =>
      (∃ o, t.sec.otp.op = some o ∧ o.todo.length = 9 ∧ o.what = 1 ∧ o.slot = slot ∧
        o.todo.getLast? = some (0x18 + slot.val, keyAttr s.sec.otp.kstage.toList)) ∧
        t.sec.otp.kstage = Vector.replicate 8 0 ∧ t.sec.otp.words = s.sec.otp.words ∧ t.sec.otp.ostate = 1 ∧ SameBut [.sec] s t :=
  have length : (keyTodo slot s.sec.otp.kstage.toList).length = 9 := by rw [keyTodo_length, Vector.length_toList]
  .of_done rfl ((State.programKey_free opened blank empty 1).trans (if_neg (by decide)))
    ⟨⟨_, rfl, length, rfl, rfl, keyTodo_getLast? _ _⟩, rfl, rfl, rfl, (s.onOtp_frame _).trans (State.onOtp_frame _ _)⟩

theorem programKey_refuses {slot : Fin 8} (opened : s.otpClosed = false) (blank : bit (s.otp (0x18 + slot)) 35 = false)
    (empty : (s.keyWords slot).any (· != 0) = false) {use : BitVec 2} (other : use ≠ 1) :
    Answers (.programKey p slot use) s fun t => (t.port p).noteCode = rcRange ∧ OnlyPort p s t :=
  .of_refused rfl ((State.programKey_free opened blank empty _).trans (if_pos fun h => other (BitVec.eq_of_toNat_eq h))) (by decide)

theorem revokeKey_begins {slot : Fin 8} (opened : s.otpClosed = false) (unused : s.signsWith slot = false) :
    Answers (.revokeKey p slot) s fun t =>
      t.sec.otp = { s.sec.otp with ostate := 1, op := some ⟨[(0x18 + slot.val, flag 34 true)], false, 2, slot, p, none⟩ } ∧
        SameBut [.sec] s t :=
  have result : s.revokeKey p slot = (s.otpBegin ⟨[(0x18 + slot, flag 34 true)], false, 2, slot, p, none⟩, 0) := by
    rw [State.revokeKey, opened, unused, if_neg (by simp)]
  .of_done rfl result ⟨rfl, s.onOtp_frame _⟩

theorem revokeKey_refuses {slot : Fin 8} (shut : s.otpClosed = true ∨ s.signsWith slot = true) :
    Answers (.revokeKey p slot) s fun t => (t.port p).noteCode = rcState ∧ OnlyPort p s t :=
  .of_refused rfl (if_pos shut) (by decide)

/-! ### A word's program ends (R477, R546) -/

/-- The row with the first word of an operation blown, `rest` still to do. -/
def Otp.verified (op : OtpOp) (i : Nat) (w : Word) (rest : List (Nat × Word)) (o : Otp) : Otp :=
  { o with words := Machine.upd o.words i fun v => v ||| w, otpTr := if op.again then satInc 4095 o.otpTr else o.otpTr,
           op := some { op with todo := rest, again := false } }

theorem Otp.verified_word {op : OtpOp} {i : Nat} {w : Word} {rest : List (Nat × Word)} (o : Otp) (h : i < 128) :
    at' (o.verified op i w rest).words i = at' o.words i ||| w := at'_upd_self _ _ _ h

theorem Otp.verified_others {op : OtpOp} {i : Nat} {w : Word} {rest : List (Nat × Word)} (o : Otp) :
    Others o.words (o.verified op i w rest).words i := .of_upd _ _ _

section
variable {op : OtpOp} {i : Nat} {w : Word} {rest : List (Nat × Word)}

theorem execOtpProgramDone_true (runs : s.sec.otp.op = some op) (todo : op.todo = (i, w) :: rest) :
    exec (.otpProgramDone true) s =
      .next (if rest.isEmpty then (s.onOtp (Otp.verified op i w rest)).otpFinish op else s.onOtp (Otp.verified op i w rest)) := by
  show execOtpProgramDone true s = _
  simp only [execOtpProgramDone, runs, todo, if_true]
  rfl

theorem otpProgramDone_goes_on {next : Nat × Word} (runs : s.sec.otp.op = some op) (todo : op.todo = (i, w) :: next :: rest) :
    Answers (.otpProgramDone true) s fun t =>
      t.sec.otp.op = some { op with todo := next :: rest, again := false } ∧ (i < 128 → t.otp i = s.otp i ||| w) ∧
        Others s.sec.otp.words t.sec.otp.words i ∧ SameBut [.sec] s t :=
  .of_next (execOtpProgramDone_true runs todo) ⟨rfl, s.sec.otp.verified_word, s.sec.otp.verified_others, s.onOtp_frame _⟩

/-- The end of an operation on a word or of a revocation. -/
theorem State.otpFinish_word (s : State) (served : op.what = 0 ∨ op.what = 2) :
    s.otpFinish op = s.onOtp fun o => { o with op := none, ostate := 2 } := by
  rcases served with what | what <;> simp [State.otpFinish, what]

theorem otpProgramDone_ends (runs : s.sec.otp.op = some op) (todo : op.todo = [(i, w)]) (served : op.what = 0 ∨ op.what = 2) :
    Answers (.otpProgramDone true) s fun t =>
      t.sec.otp.op = none ∧ t.sec.otp.ostate = 2 ∧ (i < 128 → t.otp i = s.otp i ||| w) ∧
        Others s.sec.otp.words t.sec.otp.words i ∧ SameBut [.sec] s t :=
  .of_next ((execOtpProgramDone_true runs todo).trans (congrArg Host.Outcome.next (State.otpFinish_word _ served)))
    ⟨rfl, rfl, s.sec.otp.verified_word (op := op) (rest := []), s.sec.otp.verified_others (op := op) (rest := []),
      (s.onOtp_frame _).trans (State.onOtp_frame _ _)⟩

theorem otpProgramDone_repeats (runs : s.sec.otp.op = some op) (todo : op.todo = (i, w) :: rest) (first : op.again = false) :
    Answers (.otpProgramDone false) s fun t =>
      t.sec.otp.op = some { op with again := true } ∧ t.sec.otp.words = s.sec.otp.words ∧ SameBut [.sec] s t := by
  have run : exec (.otpProgramDone false) s = .next (s.onOtp fun o => { o with op := some { op with again := true } }) := by
    show execOtpProgramDone false s = _
    simp only [execOtpProgramDone, runs, todo, first, Bool.false_eq_true, if_false]
  exact .of_next run ⟨rfl, rfl, s.onOtp_frame _⟩

theorem execOtpProgramDone_none {ok : Bool} (none : s.sec.otp.op = .none) : exec (.otpProgramDone ok) s = .next s := by
  show execOtpProgramDone ok s = _
  simp only [execOtpProgramDone, none]

end

/-! ### PROT_LEVEL (R481, R482) -/

section
variable {key : BitVec 12} {target : BitVec 2} {c : Instr}

/-- A PROT_LEVEL write that is refused. -/
theorem Answers.of_protRefused {rc : Nat} (run : exec c s = .next (s.afterProt p (s.writeProt p key.toNat target.toNat none)))
    (h : s.writeProt p key.toNat target.toNat none = .refused rc) (hrc : rc ≠ 0) :
    Answers c s fun t => (t.port p).noteCode = rc ∧ OnlyPort p s t := by
  refine .of_auxRefused (r := (s, rc)) ?_ rfl hrc
  rw [run, h, answer, if_neg hrc]
  rfl

theorem State.writeProt_of_unready (other : s.dev.st ≠ .ready) (n k : Nat) : s.writeProt p n k none = .refused rcState :=
  if_pos (bne_iff_ne.2 other)

theorem State.afterProt_done (s : State) (p : Nat) (t : State) : s.afterProt p (.done t) = t := rfl

theorem State.writeProt_of_wrongKey (ready : s.dev.st = .ready) {n k : Nat} (change : k ≠ s.protLevel) (wrong : n ≠ 0x5A9) :
    s.writeProt p n k none = .refused rcProt := by
  rw [State.writeProt, ready, if_neg (by decide), if_neg change, if_pos (.inl wrong)]

theorem prot_refuses_state (other : s.dev.st ≠ .ready) :
    (Answers (.protRaise p key target) s fun t => (t.port p).noteCode = rcState ∧ OnlyPort p s t) ∧
      (Answers (.protLower p key target) s fun t => (t.port p).noteCode = rcState ∧ OnlyPort p s t) :=
  ⟨.of_protRefused rfl (State.writeProt_of_unready other _ _) (by decide),
    .of_protRefused rfl (State.writeProt_of_unready other _ _) (by decide)⟩

theorem prot_refuses_key (ready : s.dev.st = .ready) (change : target.toNat ≠ s.protLevel) (wrong : key ≠ 0x5A9) :
    (Answers (.protRaise p key target) s fun t => (t.port p).noteCode = rcProt ∧ OnlyPort p s t) ∧
      (Answers (.protLower p key target) s fun t => (t.port p).noteCode = rcProt ∧ OnlyPort p s t) := by
  have refused : s.writeProt p key.toNat target.toNat none = .refused rcProt :=
    State.writeProt_of_wrongKey ready change fun h => wrong (BitVec.eq_of_toNat_eq h)
  exact ⟨.of_protRefused rfl refused (by decide), .of_protRefused rfl refused (by decide)⟩

end

theorem protRaise_begins {w : Word} (ready : s.dev.st = .ready) (level : s.protLevel = 0) (free : s.sec.otp.op = none)
    (clear : nextClear (s.otp 0x10) 31 16 = some w) :
    Answers (.protRaise p 0x5A9 1) s fun t =>
      t.sec.otp = { s.sec.otp with op := some ⟨[(0x10, w)], false, 3, 0, p, none⟩ } ∧ SameBut [.sec] s t := by
  have raised : s.writeProt p 0x5A9 1 none = .wait (s.raiseLevel p w none) := by
    rw [State.writeProt, ready, level, free, clear]
    rfl
  exact .of_next (t := s.raiseLevel p w none) (congrArg (fun r => Host.Outcome.next (s.afterProt p r)) raised) ⟨rfl, s.onOtp_frame _⟩

/-- A reset behind the safe state and the level's bit leaves of the row all but that bit (R482). -/
theorem State.wasReset.of_blown {e u : State} {w : Word} (reset : (e.blow 0x11 w).wasReset u 4 0 false) (safe : s.SafeFrame e) :
    u.dev.st = .boot ∧ u.power.inReset = some (4, 0, false) ∧ u.otp 0x11 = s.otp 0x11 ||| w ∧ u.otp 0x10 = s.otp 0x10 ∧
      s.welt.log <+: u.welt.log ∧ u.pending = s.pending := by
  obtain ⟨boot, inReset, -, -, -, -, -, pending, log, words⟩ := reset
  have blown : u.sec.otp.words = upd s.sec.otp.words 0x11 fun v => v ||| w :=
    words.trans (congrArg (fun o : Otp => upd o.words 0x11 fun v => v ||| w) safe.otp)
  have kept : s.welt.log <+: u.welt.log := safe.log ▸ log
  refine ⟨boot, inReset, ?_, ?_, kept, pending.trans safe.pending⟩
  · rw [State.otp, blown]
    exact at'_upd_self _ _ _ (by decide)
  · rw [State.otp, blown]
    exact at'_upd_ne _ _ _ _ (by decide)

theorem protLower_resets {w v : Word} (ready : s.dev.st = .ready) (level : s.protLevel = 1) (free : s.sec.otp.op = none)
    (pend : nextClear (s.otp 0x11) 15 0 = some w) (clear : nextClear (s.otp 0x10) 15 0 = some v) :
    Answers (.protLower p 0x5A9 0) s fun t =>
      t.dev.st = .boot ∧ t.power.inReset = some (4, 0, false) ∧ t.otp 0x11 = s.otp 0x11 ||| w ∧ t.otp 0x10 = s.otp 0x10 ∧
        s.welt.log <+: t.welt.log ∧ t.pending = s.pending := by
  have lowered : s.writeProt p 0x5A9 0 none = .done (s.lowerLevel w) := by
    rw [State.writeProt, ready, level, free, pend, clear]
    rfl
  have run : exec (.protLower p 0x5A9 0) s = .next (s.afterProt p (s.writeProt p 0x5A9 0 none)) := rfl
  have reset : ((s.enterSafe 0xA false).blow 0x11 w).wasReset (s.lowerLevel w) 4 0 false := State.takeReset_wasReset _ 4 0 false
  rw [lowered, State.afterProt_done] at run
  exact .of_next run (reset.of_blown (s.enterSafe_safeKept 0xA false).toSafeFrame)

end

/-- Settles O56: an operation begins with its words to do and nothing blown, each verified word is ORed into the row, and the level is
lowered by one blown bit and a reset. -/
theorem otpIsProgrammed : Obligations.OtpIsProgrammed := fun _ _ =>
  ⟨fun _ _ => programWord_begins, fun _ _ => programWord_refuses_prot, fun _ _ => programWord_refuses_state,
    fun _ opened blank empty => ⟨programKey_begins opened blank empty, fun _ => programKey_refuses opened blank empty⟩,
    fun _ => revokeKey_begins, fun _ => revokeKey_refuses, fun _ => execOtpProgramDone_none, fun _ _ _ _ _ => otpProgramDone_goes_on,
    fun _ _ _ => otpProgramDone_ends, fun _ _ _ _ => otpProgramDone_repeats, fun _ _ => prot_refuses_state,
    fun _ _ => prot_refuses_key, fun _ => protRaise_begins, fun _ _ => protLower_resets⟩

end Sys2Proof.Machine
end

section
/-!
PROOFS. What the entry into the safe state and the users of a temperature reading leave of the monitor's readings (R424, R434).
-/

namespace Sys2Proof.Machine

/-! ### The parts a forced output lies in (R422, R424) -/

/-- The parts in which outputs are forced and their work is told. -/
abbrev outputParts : List Part := [.fresh, .dev, .ev, .ports, .lanes, .jobs, .welt, .heads, .axes, .chans]

theorem State.uncertain_frame (s : State) (n cause : Nat) (lost : Bool) : SameBut [.axes, .dev, .ev, .ports] s (s.uncertain n cause lost) :=
  .ite (s.markUncertain_frame n cause) (.ite ((s.onAx_frame n _).mono (by simp)) (s.confJudge_frame n _))

theorem State.forceAxis_frame (s : State) (n : Nat) : SameBut outputParts s (s.forceAxis n) := by
  have safe : SameBut outputParts s (s.safeAxis n) := (s.onAx_frame n _).mono (by simp)
  exact .ite (safe.trans ((State.uncertain_frame _ n 3 false).mono (by simp))) safe

theorem State.forcePaths_frame (s : State) (n : Nat) : SameBut outputParts s (s.forcePaths n) :=
  .foldl (fun t x => .ite ((t.onHead_frame x _).mono (by simp)) (.refl _ t)) _ s

theorem State.forceHead_frame (s : State) (x : Nat) : SameBut outputParts s (s.forceHead x) := by
  have onHead (t : State) (f : Head → Head) : SameBut outputParts t (t.onHead x f) := (t.onHead_frame x f).mono (by simp)
  have dark : SameBut outputParts s (s.darken x) := ((s.takeFresh_frame.mono (by simp)).trans (onHead _ _)).trans (onHead _ _)
  have failed (t : State) : SameBut outputParts t (t.readmitFail x) :=
    ((t.onLane_frame x _).mono (by simp)).trans ((t.readmitFail_frame x).mono (by simp))
  rw [State.forceHead_eq]
  exact dark.trans <| .ite (.refl _ _) <| .ite (onHead _ _) <|
    .ite (((State.scanEnd_frame _ x 5).mono (by simp)).trans (failed _)) (.refl _ _)

theorem State.forceOutputs_frame (s : State) (g : Nat) : SameBut outputParts s (s.forceOutputs g) :=
  .ite ((s.forceAxis_frame _).trans (State.forcePaths_frame _ _)) (.ite ((s.onChan_frame _ _).mono (by simp)) (s.forceHead_frame _))

theorem State.forceAll_frame (s : State) : SameBut outputParts s s.forceAll :=
  .foldl (fun t _ => .ite (.refl _ t) (t.forceOutputs_frame _)) _ s

theorem State.causeTold_frame (s : State) (code : Nat) : SameBut (.shank :: outputParts) s (s.causeTold code) :=
  ((s.onShank_frame _).mono (by simp)).trans ((State.raise_frame _ _ _ _ _).mono (by simp))

theorem State.madeSafe_frame (s : State) : SameBut (.sec :: outputParts) s s.madeSafe := by
  have aborted (t : State) : SameBut (.sec :: outputParts) t t.bistAbort := t.bistAbort_frame.mono (by simp)
  have asked (t : State) : SameBut (.sec :: outputParts) t (t.askStop 0x3FFFF) := (t.onJobs_frame _).mono (by simp)
  rw [State.madeSafe]
  exact ((((s.onDev_frame _).mono (by simp)).trans ((State.forceAll_frame _).mono (by simp))).trans (aborted _)).trans (asked _)

theorem State.enterSafe_frame (s : State) (code : Nat) (disch : Bool) :
    SameBut (.shank :: .sec :: outputParts) s (s.enterSafe code disch) := by
  have told : SameBut (.shank :: .sec :: outputParts) s (s.causeTold code) := (s.causeTold_frame code).mono (by simp)
  have entered : SameBut (.shank :: .sec :: outputParts) s (s.entered code) :=
    .ite (told.trans ((State.madeSafe_frame _).mono (by simp))) told
  have discharged (t : State) : SameBut (.shank :: .sec :: outputParts) t t.startDischarge := (t.onShank_frame _).mono (by simp)
  rw [State.enterSafe_eq]
  exact .ite (entered.trans (discharged _)) entered

/-! ### What the levels, zones and inputs make of a reading leaves the readings (R434, R437) -/

/-- The readings, the stretch and the tables are as before. -/
structure State.ReadingsKept (s t : State) : Prop where
  ins : t.sup.ins = s.sup.ins
  dieT : t.sup.dieT = s.sup.dieT
  brkTr : t.sup.brkTr = s.sup.brkTr
  broken : t.sup.broken = s.sup.broken
  stitch : t.stitch = s.stitch
  tbl : t.tbl = s.tbl

namespace State.ReadingsKept
variable {s t u : State}

theorem refl (s : State) : s.ReadingsKept s := ⟨rfl, rfl, rfl, rfl, rfl, rfl⟩

theorem trans (ht : s.ReadingsKept t) (hu : t.ReadingsKept u) : s.ReadingsKept u :=
  ⟨hu.ins.trans ht.ins, hu.dieT.trans ht.dieT, hu.brkTr.trans ht.brkTr, hu.broken.trans ht.broken, hu.stitch.trans ht.stitch,
    hu.tbl.trans ht.tbl⟩

theorem ite {c : Prop} [Decidable c] (ht : s.ReadingsKept t) (hu : s.ReadingsKept u) : s.ReadingsKept (if c then t else u) := by
  split
  · exact ht
  · exact hu

theorem foldl {α : Type} {f : State → α → State} (h : ∀ t a, ReadingsKept t (f t a)) (l : List α) (s : State) :
    s.ReadingsKept (l.foldl f s) := by
  induction l generalizing s with
  | nil => exact refl s
  | cons a l ih => exact (h s a).trans (ih _)

theorem of_sameBut {ps : List Part} (h : SameBut ps s t) (sup : .sup ∉ ps := by simp) (stitch : .stitch ∉ ps := by simp)
    (tbl : .tbl ∉ ps := by simp) : s.ReadingsKept t := by
  have same : t.sup = s.sup := h .sup sup
  exact ⟨congrArg Supply.ins same, congrArg Supply.dieT same, congrArg Supply.brkTr same, congrArg Supply.broken same,
    h .stitch stitch, h .tbl tbl⟩

theorem tin (h : s.ReadingsKept t) (i : Nat) : t.tin i = s.tin i := congrArg (at' · i) h.ins

end State.ReadingsKept

theorem State.tempEvent_readingsKept (s : State) (code : Nat) (v : Int) (zone index lane : Nat) :
    s.ReadingsKept (s.tempEvent code v zone index lane) := .of_sameBut (State.raise_frame _ _ _ _ _)

theorem State.headSample_readingsKept (s : State) (x : Nat) : s.ReadingsKept (s.headSample x) := by
  have event (t : State) (code : Nat) (v : Int) (zone index : Nat) : t.ReadingsKept (t.tempEvent code v zone index x) :=
    t.tempEvent_readingsKept code v zone index x
  unfold State.headSample
  extract_lets r z z' s1 s2 s3 s4
  have zoned : s.ReadingsKept s1 := ⟨rfl, rfl, rfl, rfl, rfl, rfl⟩
  have hot : s1.ReadingsKept s2 := .ite (event _ _ _ _ _) (.refl _)
  have cool : s2.ReadingsKept s3 := .ite (event _ _ _ _ _) (.refl _)
  have stops : s3.ReadingsKept (if s4.printsNow x then s4.beginStop x .stopped else s4) :=
    (event _ _ _ _ _).trans (.ite (.of_sameBut (s4.beginStop_frame x _)) (.refl _))
  exact ((zoned.trans hot).trans cool).trans (.ite stops (.refl _))

theorem State.ntcSample_readingsKept (s : State) (k : Nat) : s.ReadingsKept (s.ntcSample k) := by
  have event (t : State) (code : Nat) (v : Int) (zone index : Nat) : t.ReadingsKept (t.tempEvent code v zone index) :=
    t.tempEvent_readingsKept code v zone index 31
  unfold State.ntcSample
  extract_lets o v was hot act s1 s2
  have noted : s.ReadingsKept s1 := ⟨rfl, rfl, rfl, rfl, rfl, rfl⟩
  have asked : s1.ReadingsKept (if act = 2 then s2.askStop (s2.cfg o F.ntc_LMASK) else s2) :=
    (event _ _ _ _ _).trans (.ite (.of_sameBut (s2.onJobs_frame _)) (.refl _))
  exact noted.trans (.ite (.refl _) (.ite (event _ _ _ _ _) asked))

theorem State.dieLevels_readingsKept (s : State) : s.ReadingsKept s.dieLevels := by
  unfold State.dieLevels
  extract_lets u v warn thr shut esc z s1 z' s2
  have judged : s.ReadingsKept s1 := ⟨rfl, rfl, rfl, rfl, rfl, rfl⟩
  have told : s1.ReadingsKept s2 := .ite (.refl _) (State.tempEvent_readingsKept _ _ _ _ _ _)
  exact (judged.trans told).trans (.ite (.of_sameBut (s2.enterSafe_frame 9 false)) (.refl _))

end Sys2Proof.Machine
end

section
/-!
PROOFS. Temperature readings: the die's sensors together, a thermistor alone, the second attempt (R433..R435, R444).
-/

namespace Sys2Proof.Machine

/-! ### One input -/

theorem State.tin_onTin (s : State) (i : Fin 18) (f : TempIn → TempIn) : (s.onTin i f).tin i = f (s.tin i) := at'_upd_self _ _ _ i.isLt

theorem State.tin_onTin_ne (s : State) (i : Nat) (f : TempIn → TempIn) {j : Nat} (h : j ≠ i) : (s.onTin i f).tin j = s.tin j :=
  at'_upd_ne _ _ _ _ h

theorem State.onTin_others (s : State) (i : Nat) (f : TempIn → TempIn) : Others s.sup.ins (s.onTin i f).sup.ins i := .of_upd _ _ _

/-- An input with ADC code `n` taken. -/
def State.coded (s : State) (i n : Nat) : State := s.onTin i fun t => { t with code := n }

/-- An input with a reading in range. -/
def TempIn.good (v : Int) (t : TempIn) : TempIn := { t with recheck := false, val := v }

/-- The monitor with a reading in range of an input that is not broken. -/
def Supply.good (i : Nat) (v : Int) (recheck : Bool) (u : Supply) : Supply :=
  { u with ins := upd u.ins i (TempIn.good v), brkTr := if recheck then satInc 4095 u.brkTr else u.brkTr }

theorem State.tempGood_eq {s : State} {i : Nat} (sound : (s.tin i).brk = false) (v : Int) :
    s.tempGood i v = s.onSup (Supply.good i v (s.tin i).recheck) := by
  unfold State.tempGood
  simp only [sound, Bool.false_eq_true, if_false]
  cases (s.tin i).recheck <;> rfl

theorem State.tempBad_eq {s : State} {i : Fin 18} (sound : (s.tin i).brk = false) :
    (s.tempBad i).tin i = { s.tin i with recheck := true } := by
  rw [State.tempBad, s.tin_onTin, if_neg (by rw [sound]; exact Bool.false_ne_true)]

/-- What a judgement as broken leaves (R434). -/
theorem State.tempBroken_broken (s : State) (i : Fin 18) :
    ((s.tempBroken i).tin i).brk = true ∧ ((s.tempBroken i).tin i).recheck = false ∧ (s.tempBroken i).sup.broken = true ∧
      Others s.sup.ins (s.tempBroken i).sup.ins i := by
  have told (arg : Word) := ((s.onTin i fun t => { t with brk := true, recheck := false, okRun := 0 }).sensorBroken_flagged arg) .sup (by simp)
  have tin : (s.tempBroken i).tin i = { s.tin i with brk := true, recheck := false, okRun := 0 } :=
    (congrArg (fun u : Supply => at' u.ins i) (told _)).trans (s.tin_onTin i _)
  refine ⟨congrArg TempIn.brk tin, congrArg TempIn.recheck tin, congrArg Supply.broken (told _), fun j hj => ?_⟩
  exact (congrArg (fun u : Supply => at' u.ins j) (told _)).trans (s.onTin_others i _ j hj)

theorem TempIn.rate_keeps {α : Type} (g : TempIn → α) (hg : ∀ t f c, g { t with fast := f, cool := c } = g t) (t : TempIn) (v thr : Int) :
    g (t.rate v thr) = g t := by
  unfold TempIn.rate
  split
  · exact hg t true 0
  split
  · rfl
  split
  · exact hg t t.fast _
  · exact hg t false 0

/-- What the users of input `i` leave of the monitor's readings: the sampling rate of that input is all they set. -/
structure State.InputUsed (s : State) (i : Nat) (t : State) : Prop where
  code : (t.tin i).code = (s.tin i).code
  val : (t.tin i).val = (s.tin i).val
  brk : (t.tin i).brk = (s.tin i).brk
  recheck : (t.tin i).recheck = (s.tin i).recheck
  others : Others s.sup.ins t.sup.ins i
  brkTr : t.sup.brkTr = s.sup.brkTr
  broken : t.sup.broken = s.sup.broken
  stitch : t.stitch = s.stitch
  tbl : t.tbl = s.tbl

theorem State.inputUsers_used (s : State) (i : Fin 18) : s.InputUsed i (s.inputUsers i) := by
  have kept : (s.onTin i fun t => t.rate t.shown (s.inputLimit i)).ReadingsKept (s.inputUsers i) :=
    .ite (State.headSample_readingsKept _ _) (State.ntcSample_readingsKept _ _)
  have tin := (kept.tin i).trans (s.tin_onTin i _)
  have keeps {α : Type} (g : TempIn → α) (hg : ∀ t f c, g { t with fast := f, cool := c } = g t) :
      g ((s.inputUsers i).tin i) = g (s.tin i) := (congrArg g tin).trans (TempIn.rate_keeps g hg _ _ _)
  exact
    { code := keeps TempIn.code fun _ _ _ => rfl
      val := keeps TempIn.val fun _ _ _ => rfl
      brk := keeps TempIn.brk fun _ _ _ => rfl
      recheck := keeps TempIn.recheck fun _ _ _ => rfl
      others := fun j hj => (kept.tin j).trans (s.tin_onTin_ne i _ hj)
      brkTr := kept.brkTr
      broken := kept.broken
      stitch := kept.stitch
      tbl := kept.tbl }

section
variable {s : State} {i : Fin 18} {code : BitVec 12}

/-! ### A thermistor's sample (R433, R434) -/

theorem State.readTherm_coded (nominal : (s.thermConsts i).2.1 ≠ 0) (beta : (s.thermConsts i).2.2 ≠ 0) (n : Nat) :
    (s.coded i n).readTherm i n = (thermistor n (s.thermConsts i).1 (s.thermConsts i).2.1 (s.thermConsts i).2.2, s.coded i n) :=
  if_neg (not_or.2 ⟨nominal, beta⟩)

theorem execTempSample_therm (therm : 6 ≤ i.val) (reads : i.val < 10 ∨ s.cfgB (.ntc (i - 10)) F.ntc_EN = true) :
    exec (.tempSample i code) s = .next ((if code.toNat < 82 ∨ 4013 < code.toNat then (s.coded i code.toNat).tempBad i
      else ((s.coded i code.toNat).readTherm i code.toNat).2.tempGood i ((s.coded i code.toNat).readTherm i code.toNat).1).inputUsers i) := by
  have enabled : ¬(10 ≤ i.val ∧ (!s.cfgB (.ntc (i - 10)) F.ntc_EN) = true) := by
    rintro ⟨ntc, off⟩
    rcases reads with head | on
    · omega
    · rw [on] at off
      exact Bool.false_ne_true off
  exact (if_neg (Nat.not_lt.2 therm)).trans (if_neg enabled)

theorem tempSample_in_range (therm : 6 ≤ i.val) (reads : i.val < 10 ∨ s.cfgB (.ntc (i - 10)) F.ntc_EN = true) (low : 82 ≤ code.toNat)
    (high : code.toNat ≤ 4013) (nominal : (s.thermConsts i).2.1 ≠ 0) (beta : (s.thermConsts i).2.2 ≠ 0) (sound : (s.tin i).brk = false) :
    Answers (.tempSample i code) s fun t =>
      (t.tin i).code = code.toNat ∧ (t.tin i).recheck = false ∧
        (t.tin i).val = thermistor code.toNat (s.thermConsts i).1 (s.thermConsts i).2.1 (s.thermConsts i).2.2 ∧
        t.stitch = s.stitch ∧ t.tbl = s.tbl := by
  have run := execTempSample_therm (code := code) therm reads
  have coded : (s.coded i code.toNat).tin i = { s.tin i with code := code.toNat } := s.tin_onTin i _
  rw [if_neg (by omega), State.readTherm_coded nominal beta, State.tempGood_eq (by rw [coded, sound])] at run
  have used := State.inputUsers_used ((s.coded i code.toNat).onSup (Supply.good i
    (thermistor code.toNat (s.thermConsts i).1 (s.thermConsts i).2.1 (s.thermConsts i).2.2) ((s.coded i code.toNat).tin i).recheck)) i
  have good := (s.coded i code.toNat).tin_onTin i
    (TempIn.good (thermistor code.toNat (s.thermConsts i).1 (s.thermConsts i).2.1 (s.thermConsts i).2.2))
  rw [coded] at good
  exact .of_next run ⟨used.code.trans (congrArg TempIn.code good), used.recheck.trans (congrArg TempIn.recheck good),
    used.val.trans (congrArg TempIn.val good), used.stitch, used.tbl⟩

theorem tempSample_out_of_range (therm : 6 ≤ i.val) (reads : i.val < 10 ∨ s.cfgB (.ntc (i - 10)) F.ntc_EN = true)
    (out : code.toNat < 82 ∨ 4013 < code.toNat) (sound : (s.tin i).brk = false) :
    Answers (.tempSample i code) s fun t =>
      (t.tin i).code = code.toNat ∧ (t.tin i).recheck = true ∧ (t.tin i).val = (s.tin i).val ∧ (t.tin i).brk = false ∧
        t.stitch = s.stitch ∧ t.tbl = s.tbl := by
  have run := execTempSample_therm (code := code) therm reads
  rw [if_pos out] at run
  have coded : (s.coded i code.toNat).tin i = { s.tin i with code := code.toNat } := s.tin_onTin i _
  have bad := State.tempBad_eq (s := s.coded i code.toNat) (i := i) (by rw [coded, sound])
  rw [coded] at bad
  have used := ((s.coded i code.toNat).tempBad i).inputUsers_used i
  exact .of_next run ⟨used.code.trans (congrArg TempIn.code bad), used.recheck.trans (congrArg TempIn.recheck bad),
    used.val.trans (by rw [bad]), used.brk.trans ((congrArg TempIn.brk bad).trans sound), used.stitch, used.tbl⟩

theorem tempSample_disabled (ntc : 10 ≤ i.val) (off : s.cfgB (.ntc (i - 10)) F.ntc_EN = false) :
    Answers (.tempSample i code) s fun t => t.tin i = TempIn.reset ∧ Others s.sup.ins t.sup.ins i := by
  have run : exec (.tempSample i code) s = .next ((s.onTin i fun _ => TempIn.reset).ntcSample (i - 10)) := by
    refine (if_neg (show ¬ i.val < 6 by omega)).trans (if_pos ⟨ntc, ?_⟩)
    rw [off]
    rfl
  have kept := (s.onTin i fun _ => TempIn.reset).ntcSample_readingsKept (i - 10)
  exact .of_next run ⟨(kept.tin i).trans (s.tin_onTin i _), fun j hj => (kept.tin j).trans (s.tin_onTin_ne i _ hj)⟩

/-! ### The second attempt (R434) -/

theorem execSensorRecheck_die (waits : (s.tin i).recheck = true) (die : i.val < 6) :
    exec (.sensorRecheck i code) s = .next (if (s.coded i code.toNat).dieOut i then (s.coded i code.toNat).tempBroken i
      else (s.coded i code.toNat).tempGood i ((s.coded i code.toNat).dieRaw i)) := by
  refine (if_neg ?_).trans (if_pos die)
  rw [waits]
  exact Bool.false_ne_true

theorem execSensorRecheck_therm (waits : (s.tin i).recheck = true) (therm : 6 ≤ i.val) :
    exec (.sensorRecheck i code) s =
      if code.toNat < 82 ∨ 4013 < code.toNat then .next (((s.coded i code.toNat).tempBroken i).inputUsers i)
      else .next ((((s.coded i code.toNat).readTherm i code.toNat).2.tempGood i ((s.coded i code.toNat).readTherm i code.toNat).1).inputUsers i) := by
  refine (if_neg ?_).trans (if_neg (Nat.not_lt.2 therm))
  rw [waits]
  exact Bool.false_ne_true

theorem execSensorRecheck_none (none : (s.tin i).recheck = false) : exec (.sensorRecheck i code) s = .next s := by
  refine if_pos ?_
  rw [none]
  rfl

theorem sensorRecheck_die_passes (waits : (s.tin i).recheck = true) (sound : (s.tin i).brk = false) (die : i.val < 6)
    (near : (s.coded i code.toNat).dieOut i = false) :
    Answers (.sensorRecheck i code) s fun t =>
      t.tin i = { s.tin i with code := code.toNat, recheck := false, val := signed 12 code.toNat } ∧
        t.sup.brkTr = satInc 4095 s.sup.brkTr ∧ Others s.sup.ins t.sup.ins i ∧ SameBut [.sup] s t := by
  have run := execSensorRecheck_die (code := code) waits die
  have coded : (s.coded i code.toNat).tin i = { s.tin i with code := code.toNat } := s.tin_onTin i _
  have raw : (s.coded i code.toNat).dieRaw i = signed 12 code.toNat := by
    rw [State.dieRaw, Nat.mod_eq_of_lt die, coded]
  rw [near, if_neg Bool.false_ne_true, State.tempGood_eq (by rw [coded, sound]), raw, coded, waits] at run
  have good := (s.coded i code.toNat).tin_onTin i (TempIn.good (signed 12 code.toNat))
  rw [coded] at good
  refine .of_next run ⟨good, rfl, fun j hj => ?_, (s.onTin_frame _ _).trans (State.onSup_frame _ _)⟩
  exact ((s.coded i code.toNat).tin_onTin_ne i _ hj).trans (s.tin_onTin_ne i _ hj)

theorem State.coded_tempBroken (s : State) (i : Fin 18) (n : Nat) :
    (((s.coded i n).tempBroken i).tin i).brk = true ∧ (((s.coded i n).tempBroken i).tin i).recheck = false ∧
      ((s.coded i n).tempBroken i).sup.broken = true ∧ Others s.sup.ins ((s.coded i n).tempBroken i).sup.ins i := by
  obtain ⟨brk, recheck, broken, others⟩ := (s.coded i n).tempBroken_broken i
  exact ⟨brk, recheck, broken, fun j hj => (others j hj).trans (s.onTin_others i _ j hj)⟩

theorem sensorRecheck_die_breaks (waits : (s.tin i).recheck = true) (die : i.val < 6) (far : (s.coded i code.toNat).dieOut i = true) :
    Answers (.sensorRecheck i code) s fun t =>
      (t.tin i).brk = true ∧ (t.tin i).recheck = false ∧ t.sup.broken = true ∧ Others s.sup.ins t.sup.ins i := by
  have run := execSensorRecheck_die (code := code) waits die
  rw [if_pos far] at run
  exact .of_next run (s.coded_tempBroken i code.toNat)

theorem sensorRecheck_therm_passes (waits : (s.tin i).recheck = true) (sound : (s.tin i).brk = false) (therm : 6 ≤ i.val)
    (low : 82 ≤ code.toNat) (high : code.toNat ≤ 4013) (nominal : (s.thermConsts i).2.1 ≠ 0) (beta : (s.thermConsts i).2.2 ≠ 0) :
    Answers (.sensorRecheck i code) s fun t =>
      (t.tin i).brk = false ∧ (t.tin i).recheck = false ∧ t.sup.brkTr = satInc 4095 s.sup.brkTr ∧
        (t.tin i).val = thermistor code.toNat (s.thermConsts i).1 (s.thermConsts i).2.1 (s.thermConsts i).2.2 ∧
        Others s.sup.ins t.sup.ins i := by
  have run := execSensorRecheck_therm (code := code) waits therm
  have coded : (s.coded i code.toNat).tin i = { s.tin i with code := code.toNat } := s.tin_onTin i _
  rw [if_neg (by omega), State.readTherm_coded nominal beta, State.tempGood_eq (by rw [coded, sound]), coded, waits] at run
  have used := State.inputUsers_used ((s.coded i code.toNat).onSup (Supply.good i
    (thermistor code.toNat (s.thermConsts i).1 (s.thermConsts i).2.1 (s.thermConsts i).2.2) true)) i
  have good := (s.coded i code.toNat).tin_onTin i
    (TempIn.good (thermistor code.toNat (s.thermConsts i).1 (s.thermConsts i).2.1 (s.thermConsts i).2.2))
  rw [coded] at good
  refine .of_next run ⟨used.brk.trans ((congrArg TempIn.brk good).trans sound), used.recheck.trans (congrArg TempIn.recheck good),
    used.brkTr, used.val.trans (congrArg TempIn.val good), fun j hj => (used.others j hj).trans ?_⟩
  exact ((s.coded i code.toNat).tin_onTin_ne i _ hj).trans (s.tin_onTin_ne i _ hj)

theorem sensorRecheck_therm_breaks (waits : (s.tin i).recheck = true) (therm : 6 ≤ i.val) (out : code.toNat < 82 ∨ 4013 < code.toNat) :
    Answers (.sensorRecheck i code) s fun t =>
      (t.tin i).brk = true ∧ (t.tin i).recheck = false ∧ t.sup.broken = true ∧ Others s.sup.ins t.sup.ins i := by
  obtain ⟨brk, recheck, broken, others⟩ := s.coded_tempBroken i code.toNat
  have used := ((s.coded i code.toNat).tempBroken i).inputUsers_used i
  exact .of_next ((execSensorRecheck_therm (code := code) waits therm).trans (if_pos out))
    ⟨used.brk.trans brk, used.recheck.trans recheck, used.broken.trans broken, fun j hj => (used.others j hj).trans (others j hj)⟩

end

/-! ### The die's sensors together (R435) -/

/-- The six die sensors are sound and hold the same code. -/
def State.SixAlike (s : State) (n : Nat) : Prop := ∀ j < 6, (s.tin j).brk = false ∧ (s.tin j).code = n

/-- One die sensor judged against its neighbours. -/
def State.dieJudge (s : State) (i : Nat) : State := if s.dieOut i then s.tempBad i else s.tempGood i (s.dieRaw i)

/-- The medians of the sensors. -/
def State.dieMedians (s : State) : State :=
  s.onSup fun u => { u with checked := Vector.ofFn fun (i : Fin 6) => median3 (s.dieEff (i + 5)) (s.dieEff i) (s.dieEff (i + 1)) }

/-- DIE_T and its sensor taken, the sampling rate judged. -/
def State.dieTaken (s : State) (m : Nat × Int) : State :=
  let s := s.onSup fun u => { u with dieT := m.2, dieIdx := m.1 }
  s.onTin 0 fun t => t.rate m.2 s.throtT

/-- What follows from DIE_T. -/
def State.dieUsers (s : State) : State :=
  [0, 1].foldl (fun (s : State) x => if (s.desc x).thFit = 0 then s.headSample x else s) s.dieLevels

theorem State.dieSet_eq (s : State) :
    s.dieSet = (((List.range 6).foldl State.dieJudge s).dieMedians.dieTaken ((List.range 6).foldl State.dieJudge s).dieMedians.dieMax).dieUsers := by
  rw [State.dieSet]
  rfl

section
variable {s : State} {n : Nat}

theorem State.SixAlike.dieRaw (h : s.SixAlike n) (i : Nat) : s.dieRaw i = signed 12 n := by
  rw [State.dieRaw, (h _ (Nat.mod_lt i (by omega))).2]

theorem State.SixAlike.dieJudge (h : s.SixAlike n) {i : Nat} (hi : i < 6) :
    s.dieJudge i = s.onSup (Supply.good i (signed 12 n) (s.tin i).recheck) := by
  have near : s.dieOut i = false := by
    rw [State.dieOut, h.dieRaw, h.dieRaw, h.dieRaw]
    exact decide_eq_false (by omega)
  rw [State.dieJudge, near, if_neg Bool.false_ne_true, State.tempGood_eq (h i hi).1, h.dieRaw]

/-- A sensor that has been judged sound. -/
def TempIn.judged (n : Nat) (t : TempIn) : Prop := t.val = signed 12 n ∧ t.recheck = false

/-- A judgement changes nothing but readings of the monitor. -/
theorem State.SixAlike.judge_step (h : s.SixAlike n) {i : Nat} (hi : i < 6) :
    (s.dieJudge i).SixAlike n ∧ ((s.dieJudge i).tin i).judged n ∧ (∀ j, (s.tin j).judged n → ((s.dieJudge i).tin j).judged n) ∧
      SameBut [.sup] s (s.dieJudge i) := by
  have tin (j : Nat) : (s.dieJudge i).tin j = if j = i then (s.tin j).good (signed 12 n) else s.tin j := by
    rw [h.dieJudge hi]
    split
    · next same =>
      rw [same]
      exact s.tin_onTin ⟨i, by omega⟩ _
    · next other => exact s.tin_onTin_ne i _ other
  refine ⟨fun j hj => ?_, ?_, fun j judged => ?_, ?_⟩
  · rw [tin]
    split
    · exact h j hj
    · exact h j hj
  · rw [tin, if_pos rfl]
    exact ⟨rfl, rfl⟩
  · rw [tin]
    split
    · exact ⟨rfl, rfl⟩
    · exact judged
  · rw [h.dieJudge hi]
    exact s.onSup_frame _

theorem State.SixAlike.judge_all (l : List Nat) (hl : ∀ i ∈ l, i < 6) (h : s.SixAlike n) :
    (l.foldl State.dieJudge s).SixAlike n ∧ (∀ j, j ∈ l ∨ (s.tin j).judged n → ((l.foldl State.dieJudge s).tin j).judged n) ∧
      SameBut [.sup] s (l.foldl State.dieJudge s) := by
  induction l generalizing s with
  | nil => exact ⟨h, fun j hj => hj.resolve_left (List.not_mem_nil), .refl _ s⟩
  | cons i l ih =>
    obtain ⟨alike, mine, others, frame⟩ := h.judge_step (hl i (List.mem_cons_self ..))
    obtain ⟨alike', judged, frame'⟩ := ih (fun j hj => hl j (List.mem_cons_of_mem _ hj)) alike
    refine ⟨alike', fun j hj => judged j ?_, frame.trans frame'⟩
    rcases hj with hj | hj
    · rcases List.mem_cons.1 hj with rfl | hj
      · exact .inr mine
      · exact .inl hj
    · exact .inr (others j hj)

/-- Sensors that are sound and judged give one median, and that is DIE_T. -/
theorem State.SixAlike.dieMax (h : s.SixAlike n) (judged : ∀ j < 6, (s.tin j).judged n) : s.dieMedians.dieMax.2 = signed 12 n := by
  have eff (i : Nat) : s.dieEff i = signed 12 n := by
    have below : i % 6 < 6 := Nat.mod_lt i (by omega)
    rw [State.dieEff, (h _ below).1, (judged _ below).2, h.dieRaw]
    rfl
  have sound : (List.range 6).filter (fun i => !(s.dieMedians.tin i).brk) = List.range 6 := by
    refine List.filter_eq_self.2 fun i hi => ?_
    rw [show s.dieMedians.tin i = s.tin i from rfl, (h i (List.mem_range.1 hi)).1]
    rfl
  have checked (i : Nat) (hi : i < 6) : at' s.dieMedians.sup.checked i = signed 12 n := by
    rw [at'_eq, dif_pos hi, State.dieMedians, State.onSup, Vector.getElem_ofFn, eff, eff, eff]
    exact (congrArg (max _) (by rw [max_self, min_self])).trans (by rw [min_self, max_self])
  rw [State.dieMax, sound, List.length_range, if_pos (by decide)]
  have medians : (List.range 6).map (fun i => (i, at' s.dieMedians.sup.checked i)) = (List.range 6).map fun i => (i, signed 12 n) :=
    List.map_congr_left fun i hi => by rw [checked i (List.mem_range.1 hi)]
  rw [medians]
  simp [List.range_succ, maxAt]

end

theorem State.dieUsers_readingsKept (s : State) : s.ReadingsKept s.dieUsers :=
  s.dieLevels_readingsKept.trans (.foldl (fun t x => .ite (t.headSample_readingsKept x) (.refl t)) _ _)

/-- Sensors that are sound and judged keep their readings, and DIE_T is theirs. -/
theorem State.SixAlike.taken {s : State} {n : Nat} (h : s.SixAlike n) (judged : ∀ j < 6, (s.tin j).judged n) {t : State}
    (ht : t = (s.dieMedians.dieTaken s.dieMedians.dieMax).dieUsers) :
    t.sup.dieT = signed 12 n ∧ (∀ j < 6, (t.tin j).judged n) ∧ t.stitch = s.stitch ∧ t.tbl = s.tbl := by
  have kept := (s.dieMedians.dieTaken s.dieMedians.dieMax).dieUsers_readingsKept
  rw [← ht] at kept
  refine ⟨kept.dieT.trans (h.dieMax judged), fun j hj => ?_, kept.stitch, kept.tbl⟩
  rw [kept.tin]
  obtain same | rated := at'_upd_cases s.dieMedians.sup.ins 0 j fun t => t.rate s.dieMedians.dieMax.2 s.throtT
  · rw [show (s.dieMedians.dieTaken s.dieMedians.dieMax).tin j = s.tin j from same]
    exact judged j hj
  · rw [show (s.dieMedians.dieTaken s.dieMedians.dieMax).tin j = (s.tin j).rate s.dieMedians.dieMax.2 s.throtT from rated]
    exact ⟨(TempIn.rate_keeps TempIn.val (fun _ _ _ => rfl) _ _ _).trans (judged j hj).1,
      (TempIn.rate_keeps TempIn.recheck (fun _ _ _ => rfl) _ _ _).trans (judged j hj).2⟩

theorem tempSample_dies {i : Fin 18} {code : BitVec 12} {s : State} (last : i.val = 5) (sound : ∀ j < 6, (s.tin j).brk = false)
    (alike : ∀ j < 5, (s.tin j).code = code.toNat) :
    Answers (.tempSample i code) s fun t =>
      t.sup.dieT = signed 12 code.toNat ∧ (∀ j < 6, (t.tin j).val = signed 12 code.toNat ∧ (t.tin j).recheck = false) ∧
        t.stitch = s.stitch ∧ t.tbl = s.tbl := by
  have run : exec (.tempSample i code) s = .next (s.coded i code.toNat).dieSet :=
    (if_pos (show i.val < 6 by omega)).trans (congrArg Host.Outcome.next (if_pos last))
  have six : (s.coded i code.toNat).SixAlike code.toNat := fun j hj => by
    by_cases same : j = i
    · rw [same, State.coded, s.tin_onTin]
      exact ⟨sound i (by omega), rfl⟩
    · rw [State.coded, s.tin_onTin_ne i _ same]
      exact ⟨sound j hj, alike j (by omega)⟩
  obtain ⟨judgedAlike, judged, frame⟩ := six.judge_all (List.range 6) fun j => List.mem_range.1
  obtain ⟨dieT, readings, stitch, tbl⟩ := judgedAlike.taken (fun j hj => judged j (.inl (List.mem_range.2 hj))) (State.dieSet_eq _)
  exact .of_next run ⟨dieT, readings, stitch.trans (frame .stitch (by simp)), tbl.trans (frame .tbl (by simp))⟩

theorem tempSample_die {i : Fin 18} {code : BitVec 12} {s : State} (early : i.val < 5) :
    exec (.tempSample i code) s = .next (s.onTin i fun t => { t with code := code.toNat }) :=
  (if_pos (show i.val < 6 by omega)).trans (congrArg Host.Outcome.next (if_neg (Nat.ne_of_lt early)))

end Sys2Proof.Machine
end

section
/-!
PROOFS. The supplies: sags, VGD and a loss of VM (R49, R323, R353, R448..R451).
-/

namespace Sys2Proof.Machine

/-- What one member of a list sets, and every other member leaves set, stands at the end of the list. -/
theorem State.foldl_sets {α : Type} {f : State → α → State} {I P : State → Prop} (kept : ∀ t a, I t → I (f t a))
    (stays : ∀ t a, I t → P t → P (f t a)) {l : List α} {s : State} (start : I s) (h : (∃ a ∈ l, ∀ t, I t → P (f t a)) ∨ P s) :
    P (l.foldl f s) := by
  induction l generalizing s with
  | nil => exact h.resolve_left fun ⟨_, mem, _⟩ => absurd mem List.not_mem_nil
  | cons b l ih =>
    refine ih (kept s b start) ?_
    rcases h with ⟨a, mem, sets⟩ | held
    · rcases List.mem_cons.1 mem with rfl | mem
      · exact .inr (sets s start)
      · exact .inl ⟨a, mem, sets⟩
    · exact .inr (stays s b start held)

/-! ### Sags (R448, R449, R49) -/

theorem State.groupFrom_frame (s : State) (x win : Nat) : SameBut [.heads] s (s.groupFrom x win) := by
  unfold State.groupFrom
  extract_lets d cap h
  split
  · exact .refl _ s
  · exact s.onHead_frame x _

theorem State.ungroupFrom_frame (s : State) (x win : Nat) : SameBut [.heads] s (s.ungroupFrom x win) := by
  unfold State.ungroupFrom
  split
  · exact .refl _ s
  · exact s.onHead_frame x _

/-- The heads behind a change of supply `m`: a VH supply is that of one head. -/
def State.sagHead (u w : State) (m : Nat) (cut : Bool) : State :=
  if m < 2 then u else w.onHead (m - 2) fun h => { h with sagcut := cut }

theorem State.sagHead_cut {u w : State} (m : Fin 4) (cut : Bool) (grouped : SameBut [.heads] u w) :
    SameBut [.heads] u (u.sagHead w m cut) ∧ (m.val < 2 → (u.sagHead w m cut).heads = u.heads) ∧
      ∀ x : Fin 2, m.val = x.val + 2 → ((u.sagHead w m cut).head x).sagcut = cut := by
  refine ⟨.ite (.refl _ u) (grouped.trans (w.onHead_frame _ _)), fun low => congrArg State.heads (if_pos low), fun x hm => ?_⟩
  have mine : m.val - 2 = x.val := by omega
  rw [State.sagHead, if_neg (by omega), mine, w.head_onHead_fin]

/-- The monitor with a sag of supply `m` counted. -/
def Supply.sagged (m : Nat) (u : Supply) : Supply :=
  { u with sag := upd u.sag m fun _ => true, sags := upd u.sags m (satInc 4095), sagSeen := true }

section
variable {s : State} {m : Fin 4} {volts : BitVec 9} {win : BitVec 5}

/-- A sag noted and told. -/
def State.sagNoted (s : State) (m volts : Nat) : State := (s.onSup (Supply.sagged m)).raise 10 (min (m + 1) 3) 31 [sagArg m volts]

theorem State.sagNoted_frame (s : State) (m volts : Nat) : SameBut [.dev, .ev, .ports] (s.onSup (Supply.sagged m)) (s.sagNoted m volts) :=
  State.raise_frame _ _ _ _ _

theorem sagAssert_notes (set : s.cfg (.sup m) F.sup_NOM ≠ 0) (sound : at' s.sup.sag m = false) (runs : s.power.st = .run) :
    Answers (.sagAssert m volts win) s fun t =>
      at' t.sup.sag m = true ∧ at' t.sup.sags m = satInc 4095 (at' s.sup.sags m) ∧ t.sup.sagSeen = true ∧
        Others s.sup.sag t.sup.sag m ∧ SameBut [.sup, .dev, .ev, .ports, .heads] s t ∧ (m.val < 2 → t.heads = s.heads) ∧
        (∀ x : Fin 2, m.val = x.val + 2 → (t.head x).sagcut = true) := by
  have run : exec (.sagAssert m volts win) s =
      .next ((s.sagNoted m volts.toNat).sagHead ((s.sagNoted m volts.toNat).groupFrom (m - 2) win.toNat) m true) := by
    refine if_neg ?_
    rw [sound]
    rintro (unset | sags | down)
    · exact set unset
    · exact Bool.false_ne_true sags
    · exact down runs
  obtain ⟨frame, low, cut⟩ := State.sagHead_cut m true ((s.sagNoted m volts.toNat).groupFrom_frame (m - 2) win.toNat)
  have noted := s.sagNoted_frame m volts.toNat
  have sup := (frame .sup (by simp)).trans (noted .sup (by simp))
  refine .of_next run ⟨?_, ?_, congrArg Supply.sagSeen sup, fun j hj => ?_, ?_, fun h => (low h).trans (noted .heads (by simp)), cut⟩
  · exact (congrArg (fun u : Supply => at' u.sag m) sup).trans (at'_upd_self _ _ _ m.isLt)
  · exact (congrArg (fun u : Supply => at' u.sags m) sup).trans (at'_upd_self _ _ _ m.isLt)
  · exact (congrArg (fun u : Supply => at' u.sag j) sup).trans (at'_upd_ne _ _ _ _ hj)
  · exact (((s.onSup_frame _).mono (by simp)).trans (noted.mono (by simp))).trans (frame.mono (by simp))

theorem execSagAssert_not (told : s.cfg (.sup m) F.sup_NOM = 0 ∨ at' s.sup.sag m = true ∨ s.power.st ≠ .run) :
    exec (.sagAssert m volts win) s = .next s := if_pos told

/-- The hold of the stretch request that the end of a sag of supply `m` starts; `other` says whether the other VH supply sags. -/
def Stitch.sagHeld (m : Nat) (other : Bool) (g : Stitch) : Stitch :=
  if m = 0 then { g with holdVM := some g.since } else if m = 1 then { g with holdVS := some g.since }
  else if other then g else { g with holdVH := some g.since }

/-- The end of a sag before it is told. -/
def State.sagOver (s : State) (m : Nat) : State :=
  (s.onSup fun u => { u with sag := upd u.sag m fun _ => false }).onStitch
    (Stitch.sagHeld m (at' (upd s.sup.sag m fun _ => false) (5 - m)))

def State.sagOverTold (s : State) (m volts : Nat) : State := (s.sagOver m).raise 10 4 31 [sagArg m volts]

theorem State.sagOverTold_frame (s : State) (m volts : Nat) : SameBut [.dev, .ev, .ports] (s.sagOver m) (s.sagOverTold m volts) :=
  State.raise_frame _ _ _ _ _

theorem sagClear_holds (sags : at' s.sup.sag m = true) :
    Answers (.sagClear m volts win) s fun t =>
      at' t.sup.sag m = false ∧ Others s.sup.sag t.sup.sag m ∧
        (m.val = 0 → t.stitch = { s.stitch with holdVM := some s.stitch.since }) ∧
        (m.val = 1 → t.stitch = { s.stitch with holdVS := some s.stitch.since }) ∧
        (2 ≤ m.val → at' s.sup.sag (5 - m.val) = false →
          t.stitch = { s.stitch with holdVH := some s.stitch.since }) ∧
        (∀ x : Fin 2, m.val = x.val + 2 → (t.head x).sagcut = false) ∧
        SameBut [.sup, .stitch, .dev, .ev, .ports, .heads] s t := by
  have run : exec (.sagClear m volts win) s =
      .next ((s.sagOverTold m volts.toNat).sagHead ((s.sagOverTold m volts.toNat).ungroupFrom (m - 2) win.toNat) m false) := by
    refine if_neg ?_
    rw [sags]
    exact Bool.false_ne_true
  obtain ⟨frame, -, cut⟩ := State.sagHead_cut m false ((s.sagOverTold m volts.toNat).ungroupFrom_frame (m - 2) win.toNat)
  have told := s.sagOverTold_frame m volts.toNat
  have sup := (frame .sup (by simp)).trans (told .sup (by simp))
  have stitch := (frame .stitch (by simp)).trans (told .stitch (by simp))
  have ended : SameBut [.sup, .stitch, .dev, .ev, .ports, .heads] s (s.sagOver m) :=
    ((s.onSup_frame _).mono (by simp)).trans ((State.onStitch_frame _ _).mono (by simp))
  refine .of_next run ⟨?_, fun j hj => ?_, fun zero => stitch.trans (if_pos zero), fun one => stitch.trans ?_, fun vh other => stitch.trans ?_, cut,
    (ended.trans (told.mono (by simp))).trans (frame.mono (by simp))⟩
  · exact (congrArg (fun u : Supply => at' u.sag m) sup).trans (at'_upd_self _ _ _ m.isLt)
  · exact (congrArg (fun u : Supply => at' u.sag j) sup).trans (at'_upd_ne _ _ _ _ hj)
  · exact (if_neg (by omega)).trans (if_pos one)
  · refine (if_neg (by omega)).trans ((if_neg (by omega)).trans (if_neg ?_))
    rw [at'_upd_ne _ _ _ _ (by omega), other]
    exact Bool.false_ne_true

theorem execSagClear_not (sound : at' s.sup.sag m = false) : exec (.sagClear m volts win) s = .next s := by
  refine if_pos ?_
  rw [sound]
  rfl

end

/-! ### VGD (R353, R380, R450) -/

theorem State.dropMotion_frame (s : State) (n cause : Nat) : SameBut [.axes, .dev, .ev, .ports] s (s.dropMotion n cause) := by
  have onAx (t : State) (f : Axis → Axis) : SameBut [.axes, .dev, .ev, .ports] t (t.onAx n f) := (t.onAx_frame n f).mono (by simp)
  exact .ite (onAx _ _) (.ite (onAx _ _) ((onAx _ _).trans (State.keepRest_frame _ n cause)))

/-- The parts in which a lasting fault of an axis lies. -/
abbrev axisFaultParts : List Part := [.axes, .dev, .ev, .ports, .lanes, .jobs, .welt]

theorem State.bridgesOut_frame (s : State) (n : Nat) (fs : List Lasting) : SameBut [.axes, .dev, .ev, .ports] s (s.bridgesOut n fs) := by
  unfold State.bridgesOut
  exact ((s.onAx_frame n _).mono (by simp)).trans (.foldl (fun t _ => (t.raise_frame _ _ _ _).mono (by simp)) _ _)

theorem State.bridgesLasting_frame (s : State) (n : Nat) (fs : List Lasting) : SameBut axisFaultParts s (s.bridgesLasting n fs) := by
  unfold State.bridgesLasting
  extract_lets moving s1 s2
  have out : SameBut axisFaultParts s s1 :=
    (((s.bridgesOut_frame n fs).mono (by simp)).trans ((State.dropMotion_frame _ n 3).mono (by simp))).trans
      ((State.onAx_frame _ n _).mono (by simp))
  have lost : SameBut axisFaultParts s1 s2 := .ite ((s1.uncertain_frame n 3 false).mono (by simp)) (.refl _ _)
  exact ((out.trans lost).trans ((s2.laneFault_frame _).mono (by simp))).trans ((State.cameToRest_frame _ _).mono (by simp))

/-- A bridge with all gates off. -/
def Bridge.off (q : Bridge) : Bridge := { q with sw := .off }

/-- Moving axes and driving DC bridges fault lastingly. -/
def State.vgdFaulted (s : State) : State :=
  (List.range 12).foldl (fun s n =>
    let a := s.ax n
    let fs : List Lasting :=
      if s.cfg (.ax n) F.ax_KIND = 2 then
        (if a.a1.drives then [⟨2 * n, 11, 4, 0⟩] else []) ++ (if a.b1.drives then [⟨2 * n + 1, 11, 4, 0⟩] else [])
      else if a.vel ≠ 0 then [⟨2 * n, 11, 4, 0⟩, ⟨2 * n + 1, 11, 4, 0⟩] else []
    if fs.isEmpty then s else s.bridgesLasting n fs) s

theorem State.vgdFaults_eq (s : State) : s.vgdFaults = (List.range 24).foldl (fun s b => s.onBr b Bridge.off) s.vgdFaulted := rfl

theorem State.vgdFaulted_frame (s : State) : SameBut axisFaultParts s s.vgdFaulted :=
  .foldl (fun t _ => .ite (.refl _ t) (t.bridgesLasting_frame _ _)) _ s

theorem State.vgdFaults_frame (s : State) : SameBut axisFaultParts s s.vgdFaults := by
  rw [State.vgdFaults_eq]
  exact s.vgdFaulted_frame.trans (.foldl (fun t b => (t.onBr_frame b _).mono (by simp)) _ _)

/-- A bridge that is off stays off where another is turned off. -/
theorem State.onBr_off (s : State) (b c : Nat) (off : (s.br c).sw = .off) : ((s.onBr b Bridge.off).br c).sw = .off := by
  obtain same | changed := at'_upd_cases s.axes (b / 2) (c / 2) fun a => if b % 2 = 0 then { a with a1 := a.a1.off } else { a with b1 := a.b1.off }
  · have br : (s.onBr b Bridge.off).br c = s.br c := congrArg (fun a : Axis => if c % 2 = 0 then a.a1 else a.b1) same
    rw [br, off]
  · have br : (s.onBr b Bridge.off).br c = _ := congrArg (fun a : Axis => if c % 2 = 0 then a.a1 else a.b1) changed
    rw [br]
    rw [State.br] at off
    by_cases left : b % 2 = 0 <;> by_cases mine : c % 2 = 0 <;> simp only [left, mine, if_true, if_false] at off ⊢
    · rfl
    · exact off
    · exact off
    · rfl

theorem State.vgdFaults_off (s : State) (b : Fin 24) : (s.vgdFaults.br b).sw = .off := by
  rw [State.vgdFaults_eq]
  exact State.foldl_sets (I := fun _ => True) (P := fun t => (t.br b).sw = .off) (fun _ _ _ => trivial) (fun t c _ off => t.onBr_off c b off)
    trivial (.inl ⟨b, List.mem_range.2 b.isLt, fun t _ => congrArg Bridge.sw (t.br_onBr b Bridge.off)⟩)

/-- One channel as VGD falls low (R379, R380). -/
def State.vgdSol (s : State) (c : Nat) : State :=
  if (s.chan c).st = .run ∨ ((s.chan c).st = .diag ∧ (s.chan c).onState ∧ (s.chan c).checking = 3) then s.solLasting c 9 8 true 0 0
  else s.onChan c fun q => { q with sw := .off }

/-- Channels that are idle are turned off and no more. -/
theorem State.foldl_vgdSol_frame (l : List Nat) (hl : ∀ c ∈ l, c < 32) (s : State) (idle : ∀ c : Fin 32, (s.chan c).st = .idle) :
    SameBut [.chans] s (l.foldl State.vgdSol s) := by
  induction l generalizing s with
  | nil => exact .refl _ s
  | cons c l ih =>
    have resting : (s.chan c).st = .idle := idle ⟨c, hl c (List.mem_cons_self ..)⟩
    have turned : s.vgdSol c = s.onChan c fun q => { q with sw := .off } := if_neg (by rw [resting]; exact fun h => by simp at h)
    have still (d : Fin 32) : ((s.vgdSol c).chan d).st = .idle := by
      rw [turned]
      obtain same | changed := at'_upd_cases s.chans c d fun q => { q with sw := .off }
      · exact (congrArg Chan.st same).trans (idle d)
      · exact (congrArg Chan.st changed).trans (idle d)
    have frame : SameBut [.chans] s (s.vgdSol c) := turned ▸ s.onChan_frame c _
    exact frame.trans (ih (fun d hd => hl d (List.mem_cons_of_mem _ hd)) _ still)

theorem State.vgdSols_frame {s : State} (idle : ∀ c : Fin 32, (s.chan c).st = .idle) : SameBut [.chans] s s.vgdSols :=
  State.foldl_vgdSol_frame (List.range 32) (fun _ => List.mem_range.1) s idle

section
variable {s : State}

theorem vgdLow_turns_off (supplied : s.sup.vgdLow = false) (idle : ∀ c : Fin 32, (s.chan c).st = .idle) :
    Answers .vgdLow s fun t => t.sup.vgdLow = true ∧ (∀ b : Fin 24, (t.br b).sw = .off) ∧ t.stitch = s.stitch ∧ t.tbl = s.tbl := by
  have run : exec .vgdLow s = .next ((s.onSup fun u => { u with vgdLow := true }).vgdFaults).vgdSols :=
    congrArg Host.Outcome.next (if_neg (by rw [supplied]; exact Bool.false_ne_true))
  have faulted := (s.onSup fun u => { u with vgdLow := true }).vgdFaults_frame
  have sols := State.vgdSols_frame (s := (s.onSup fun u => { u with vgdLow := true }).vgdFaults)
    fun c => (congrArg Chan.st (faulted.chan c)).trans (idle c)
  have off := (s.onSup fun u => { u with vgdLow := true }).vgdFaults_off
  refine .of_next run ⟨?_, fun b => ?_, (sols .stitch (by simp)).trans (faulted .stitch (by simp)),
    (sols .tbl (by simp)).trans (faulted .tbl (by simp))⟩
  · exact congrArg Supply.vgdLow ((sols .sup (by simp)).trans (faulted .sup (by simp)))
  · have axis := sols.ax (b / 2)
    exact (congrArg (fun a : Axis => (if b.val % 2 = 0 then a.a1 else a.b1).sw) axis).trans (off b)

theorem execVgdLow_told (low : s.sup.vgdLow = true) : exec .vgdLow s = .next s := congrArg Host.Outcome.next (if_pos low)

/-- The bridges that run begin a regulation period. -/
def State.vgdBridges (s : State) : State :=
  (List.range 24).foldl (fun (s : State) b => if (s.br b).st = .run ∧ !s.bridgeForced b then s.newPeriod b else s) s

theorem vgdClear_resumes (low : s.sup.vgdLow = true) :
    Answers .vgdClear s fun t => t.sup = { s.sup with vgdLow := false } ∧ SameBut [.sup, .axes, .chans] s t := by
  have run : exec .vgdClear s = .next ((List.range 32).foldl State.solReleased (s.onSup fun u => { u with vgdLow := false }).vgdBridges) := by
    refine if_neg ?_
    rw [low]
    exact Bool.false_ne_true
  have bridges (t : State) : SameBut [.axes, .chans] t t.vgdBridges :=
    .foldl (fun t b => .ite ((t.newPeriod_frame b).mono (by simp)) (.refl _ t)) _ t
  have sols (t : State) : SameBut [.axes, .chans] t ((List.range 32).foldl State.solReleased t) :=
    .foldl (fun t c => .ite ((t.solResume_frame c).mono (by simp)) (.refl _ t)) _ t
  have resumed := (bridges (s.onSup fun u => { u with vgdLow := false })).trans (sols _)
  exact .of_next run ⟨resumed .sup (by simp), ((s.onSup_frame _).mono (by simp)).trans (resumed.mono (by simp))⟩

theorem execVgdClear_not (supplied : s.sup.vgdLow = false) : exec .vgdClear s = .next s := by
  refine if_pos ?_
  rw [supplied]
  rfl

end

/-! ### A loss of VM (R323, R451) -/

theorem State.markUncertain_others (s : State) (n cause : Nat) : Others s.axes (s.markUncertain n cause).axes n := fun j hj =>
  (congrArg (at' · j) (State.raise_frame _ _ _ _ _ .axes (by simp))).trans (s.ax_onAx_ne n j _ hj)

theorem State.uncertain_others (s : State) (n cause : Nat) (lost : Bool) : Others s.axes (s.uncertain n cause lost).axes n := by
  have onAx (f : Axis → Axis) : Others s.axes (s.onAx n f).axes n := fun j hj => s.ax_onAx_ne n j f hj
  have ite {c : Prop} [Decidable c] {t u : State} (ht : Others s.axes t.axes n) (hu : Others s.axes u.axes n) :
      Others s.axes (if c then t else u).axes n := by
    split
    · exact ht
    · exact hu
  exact ite (s.markUncertain_others n cause) <| ite (onAx _) <| ite (onAx _) <| ite (s.markUncertain_others n _) (onAx _)

/-- Without a source of confirmation the axis is UNCERTAIN at once. -/
theorem State.uncertain_posOk {s : State} {n : Fin 12} (cause : Nat) (lost : Bool) (unconfirmed : s.cfg (.ax n) F.ax_CONF_SRC = 0) :
    ((s.uncertain n cause lost).ax n).posOk = false := by
  have marked : ((s.markUncertain n cause).ax n).posOk = false := by
    rw [State.markUncertain, (State.raise_frame _ _ _ _ _).ax, s.ax_onAx_fin]
  rw [State.uncertain, if_pos unconfirmed]
  exact marked

/-- Axis `k` of domain `g` at a loss of VM. -/
def State.vmLossAxis (g : Nat) (s : State) (k : Nat) : State :=
  if s.cfg (.ax (3 * g + k)) F.ax_KIND = 1 then s.uncertain (3 * g + k) 1 false else s

/-- Axis domain `g` at a loss of VM. -/
def State.vmLossDomain (s : State) (g : Nat) : State :=
  if (at' s.power.doms (10 + g)).st ≠ .run ∧ (at' s.power.doms (10 + g)).st ≠ .idle then
    s.onSup fun u => { u with vmLostG := upd u.vmLostG g fun _ => true }
  else [0, 1, 2].foldl (State.vmLossAxis g) s

/-- VM noted as lost. -/
def State.vmLost (s : State) : State := s.onSup fun u => { u with vmLow := true }

section
variable {s : State}

theorem execVmLoss_new (supplied : s.sup.vmLow = false) : exec .vmLoss s = .next ((List.range 4).foldl State.vmLossDomain s.vmLost) :=
  if_neg (by rw [supplied]; exact Bool.false_ne_true)

theorem State.vmLossAxis_frame (s : State) (g k : Nat) : SameBut [.axes, .dev, .ev, .ports] s (s.vmLossAxis g k) :=
  .ite (s.uncertain_frame _ 1 false) (.refl _ s)

theorem State.vmLossAxes_frame (s : State) (g : Nat) : SameBut [.axes, .dev, .ev, .ports] s ([0, 1, 2].foldl (State.vmLossAxis g) s) :=
  .foldl (fun t k => t.vmLossAxis_frame g k) _ s

theorem State.vmLossDomain_frame (s : State) (g : Nat) : SameBut [.sup, .axes, .dev, .ev, .ports] s (s.vmLossDomain g) :=
  .ite ((s.onSup_frame _).mono (by simp)) ((s.vmLossAxes_frame g).mono (by simp))

theorem State.vmLossDomain_vmLow (s : State) (g : Nat) : (s.vmLossDomain g).sup.vmLow = s.sup.vmLow := by
  unfold State.vmLossDomain
  split
  · rfl
  · exact congrArg Supply.vmLow (s.vmLossAxes_frame g .sup (by simp))

/-- A flag once set stays. -/
theorem State.vmLossDomain_vmLostG (s : State) (d g : Nat) (flagged : at' s.sup.vmLostG g = true) :
    at' (s.vmLossDomain d).sup.vmLostG g = true := by
  unfold State.vmLossDomain
  split
  · obtain same | set := at'_upd_cases s.sup.vmLostG d g fun _ => true
    · exact same.trans flagged
    · exact set
  · exact (congrArg (fun u : Supply => at' u.vmLostG g) (s.vmLossAxes_frame d .sup (by simp))).trans flagged

/-- An axis without a source of confirmation that is UNCERTAIN stays so. -/
theorem State.vmLossAxis_posOk {s : State} {n : Fin 12} (g k : Nat) (unconfirmed : s.cfg (.ax n) F.ax_CONF_SRC = 0)
    (uncertain : (s.ax n).posOk = false) : ((s.vmLossAxis g k).ax n).posOk = false := by
  unfold State.vmLossAxis
  split
  · by_cases mine : n.val = 3 * g + k
    · rw [← mine]
      exact State.uncertain_posOk 1 false unconfirmed
    · exact (congrArg Axis.posOk (s.uncertain_others _ 1 false n mine)).trans uncertain
  · exact uncertain

theorem State.cfg_of_sameBut {ps : List Part} {s t : State} (h : SameBut ps s t) (o : Obj) (f : Field) (tbl : .tbl ∉ ps := by simp) :
    t.cfg o f = s.cfg o f := State.cfg_congr (h .tbl tbl) o f

/-- The axes of a domain that runs are UNCERTAIN where nothing confirms them, and stay so. -/
theorem State.vmLossAxes_posOk {s : State} {n : Fin 12} (g : Nat) (unconfirmed : s.cfg (.ax n) F.ax_CONF_SRC = 0)
    (h : (g = n.val / 3 ∧ s.cfg (.ax n) F.ax_KIND = 1) ∨ (s.ax n).posOk = false) :
    (([0, 1, 2].foldl (State.vmLossAxis g) s).ax n).posOk = false := by
  refine State.foldl_sets (I := SameBut [.axes, .dev, .ev, .ports] s) (P := fun t => (t.ax n).posOk = false)
    (fun t k kept => kept.trans (t.vmLossAxis_frame g k))
    (fun t k kept => State.vmLossAxis_posOk g k ((State.cfg_of_sameBut kept _ _).trans unconfirmed)) (.refl _ s) ?_
  refine h.imp_left fun ⟨mine, stepper⟩ => ⟨n.val % 3, ?_, fun t kept => ?_⟩
  · have below : n.val % 3 < 3 := Nat.mod_lt _ (by omega)
    simp only [List.mem_cons, List.not_mem_nil]
    omega
  · have axis : 3 * g + n.val % 3 = n.val := by omega
    have kind : t.cfg (.ax n) F.ax_KIND = 1 := (State.cfg_of_sameBut kept _ _).trans stepper
    rw [State.vmLossAxis, axis, if_pos kind]
    exact State.uncertain_posOk 1 false ((State.cfg_of_sameBut kept _ _).trans unconfirmed)

/-- The axes of a domain that runs are UNCERTAIN behind the loss, whatever domain it is told to next. -/
theorem State.vmLossDomain_posOk {s : State} {n : Fin 12} (g : Nat) (unconfirmed : s.cfg (.ax n) F.ax_CONF_SRC = 0)
    (h : (g = n.val / 3 ∧ s.cfg (.ax n) F.ax_KIND = 1 ∧ (at' s.power.doms (10 + g)).st = .run) ∨ (s.ax n).posOk = false) :
    ((s.vmLossDomain g).ax n).posOk = false := by
  unfold State.vmLossDomain
  split
  · next down => exact h.resolve_left fun ⟨_, _, runs⟩ => down.1 runs
  · exact State.vmLossAxes_posOk g unconfirmed (h.imp_left fun ⟨mine, stepper, _⟩ => ⟨mine, stepper⟩)

theorem vmLoss_tells (supplied : s.sup.vmLow = false) :
    Answers .vmLoss s fun t =>
      t.sup.vmLow = true ∧
        (∀ g < 4, (at' s.power.doms (10 + g)).st ≠ .run → (at' s.power.doms (10 + g)).st ≠ .idle → at' t.sup.vmLostG g = true) ∧
        (∀ n : Fin 12, (at' s.power.doms (10 + n.val / 3)).st = .run → s.cfg (.ax n) F.ax_KIND = 1 →
          s.cfg (.ax n) F.ax_CONF_SRC = 0 → (t.ax n).posOk = false) ∧
        SameBut [.sup, .axes, .dev, .ev, .ports] s t := by
  have start : SameBut [.sup, .axes, .dev, .ev, .ports] s s.vmLost := (s.onSup_frame _).mono (by simp)
  have kept (t : State) (g : Nat) (h : SameBut [.sup, .axes, .dev, .ev, .ports] s t) :
      SameBut [.sup, .axes, .dev, .ev, .ports] s (t.vmLossDomain g) := h.trans (t.vmLossDomain_frame g)
  refine .of_next (execVmLoss_new supplied) ⟨?_, fun g hg halted asleep => ?_, fun n runs stepper unconfirmed => ?_, ?_⟩
  · exact State.foldl_sets (I := fun _ => True) (P := fun t => t.sup.vmLow = true) (fun _ _ _ => trivial)
      (fun t g _ low => (t.vmLossDomain_vmLow g).trans low) trivial (.inr rfl)
  · refine State.foldl_sets (P := fun t => at' t.sup.vmLostG g = true) kept (fun t d _ => t.vmLossDomain_vmLostG d g) start
      (.inl ⟨g, List.mem_range.2 hg, fun t same => ?_⟩)
    have power : t.power = s.power := same .power (by simp)
    rw [State.vmLossDomain, power, if_pos ⟨halted, asleep⟩]
    exact at'_upd_self _ _ _ hg
  · refine State.foldl_sets (P := fun t => (t.ax n).posOk = false) kept
      (fun t g same held => State.vmLossDomain_posOk g ((State.cfg_of_sameBut same _ _).trans unconfirmed) (.inr held)) start
      (.inl ⟨n.val / 3, List.mem_range.2 (by omega), fun t same => ?_⟩)
    have power : t.power = s.power := same .power (by simp)
    exact State.vmLossDomain_posOk _ ((State.cfg_of_sameBut same _ _).trans unconfirmed)
      (.inl ⟨rfl, (State.cfg_of_sameBut same _ _).trans stepper, by rw [power, runs]⟩)
  · exact start.trans (.foldl (fun t g => t.vmLossDomain_frame g) _ _)

theorem execVmLoss_told (low : s.sup.vmLow = true) : exec .vmLoss s = .next s := if_pos low

theorem vmRearm_arms : Answers .vmRearm s fun t => t.sup = { s.sup with vmLow := false } ∧ SameBut [.sup] s t :=
  .of_next rfl ⟨rfl, s.onSup_frame _⟩

end

/-- Settles O49: each reading, second attempt and supply change is the one change of the monitor it tells of; what follows from it leaves
the readings as they are. -/
theorem deviceInputsAreRead : Obligations.DeviceInputsAreRead :=
  ⟨fun _ _ _ => ⟨tempSample_die, tempSample_dies, tempSample_in_range, tempSample_out_of_range, tempSample_disabled,
      execSensorRecheck_none,
      fun waits sound die => ⟨sensorRecheck_die_passes waits sound die, sensorRecheck_die_breaks waits die⟩,
      fun waits sound therm => ⟨sensorRecheck_therm_passes waits sound therm, sensorRecheck_therm_breaks waits therm⟩⟩,
    fun _ _ _ _ => ⟨sagAssert_notes, execSagAssert_not, sagClear_holds, execSagClear_not, vgdLow_turns_off, execVgdLow_told,
      vgdClear_resumes, execVgdClear_not, vmLoss_tells, execVmLoss_told, vmRearm_arms⟩⟩

end Sys2Proof.Machine
end
